-- ==== Sys2Proof/Word.lean ====
section
/-! DEFINITION. Word.lean: the word types of the part (00 R11, 11 R306). -/
namespace Sys2Proof

/-- A byte of memory. -/
abbrev Byte := BitVec 8

/-- A 32-bit word of the register path (17 R460, 18 R484). -/
abbrev Word := BitVec 32

/-- A general register of a Velmos-2 thread (11 R306). -/
abbrev Reg64 := BitVec 64

/-- A time register, in the format of hub time (00 R7, 11 R306). -/
abbrev Time96 := BitVec 96

end Sys2Proof
end

