-- ==== Sys2Proof/Syntax.lean ====
section
/-! DEFINITION. Syntax.lean: the commands of the block, one constructor per row of spec/opcode_table.json. The operands are what
the row's rule says comes with the command: the fields of a write, the thread and registers of an instruction, and for an
event what the outside world or a sensor shows (log 1). The commands without operands stand last: Lean's compiler takes at most
245 constructors with arguments. -/
namespace Sys2Proof

/-- The commands. Each docstring names the row and its rule. -/
inductive Instr where
  /-- REGISTER_WRITE, R12 -/
  | registerWrite (path : Fin 4) (addr : BitVec 32) (v : BitVec 32) (whole : Bool)
  /-- REGISTER_READ_CLEAR, R12 -/
  | registerReadClear (path : Fin 4) (addr : BitVec 32) (whole : Bool)
  /-- MB_CREDIT_REFILL, R298 -/
  | mbCreditRefill (l : Fin 9)
  /-- TB_TICK, R45 -/
  | tbTick (n : Nat)
  /-- TB_NOW_0_READ, R49 -/
  | tbNow0Read (path : Fin 4)
  /-- TB_INC_WRITE, R44 -/
  | tbIncWrite (reg : Fin 3) (v : BitVec 32)
  /-- LEAP_ARM, R50 -/
  | leapArm (delta : Fin 4)
  /-- TSV_LAST_STAGE_WRITE, R65 -/
  | tsvLastStageWrite (n : Fin 8)
  /-- TSV_STAGE_WRITE, R64 -/
  | tsvStageWrite (n : Fin 8) (v : BitVec 32)
  /-- TSV_SRC_WRITE, R112 -/
  | tsvSrcWrite (v : Fin 4)
  /-- QUAL_PHASE_SAMPLE, R91 -/
  | qualPhaseSample (n : Fin 48) (v : Int) (gap : Nat)
  /-- IRIG_FRAME, R78 -/
  | irigFrame (n : Fin 16) (w : List Nat)
  /-- LOSS_OF_SIGNAL, R83 -/
  | lossOfSignal (n : Fin 48)
  /-- ACTIVITY_RESTORED, R83 -/
  | activityRestored (n : Fin 48)
  /-- CAND_QUALIFY, R93 -/
  | candQualify (n : Fin 48)
  /-- DRIFT_HOLD_EXPIRE, R92 -/
  | driftHoldExpire (n : Fin 48)
  /-- DISQ_MIN_EXPIRE, R92 -/
  | disqMinExpire (n : Fin 48)
  /-- REOBSERVE, R94 -/
  | reobserve (n : Fin 48)
  /-- QUAL_CAND_EN_WRITE, R74 -/
  | qualCandEnWrite (n : Fin 48) (en : Bool)
  /-- QUAL_STEPPED_CLEAR, R95 -/
  | qualSteppedClear (n : Fin 48)
  /-- QUAL_DRIFT_WIN_WRITE, R98 -/
  | qualDriftWinWrite (v : BitVec 32)
  /-- SELECT, R102 -/
  | select (m : Fin 64)
  /-- UNCERTAINTY_PUBLISH, R120 -/
  | uncertaintyPublish (temp : Int)
  /-- SEAM_FREE_WRITE, R113 -/
  | seamFreeWrite (v : Bool)
  /-- LEARN_SAMPLE, R115 -/
  | learnSample (temp : Int)
  /-- HO_MODEL_EVAL, R119 -/
  | hoModelEval (temp : Int)
  /-- PRESS_CMD_ALIGN, R125 -/
  | pressCmdAlign (align : Bool) (mask : BitVec 8)
  /-- PRESS_CMD_STEP, R125 -/
  | pressCmdStep (align : Bool) (mask : BitVec 8) (target : Fin 64)
  /-- PRESS_CMD_SLEW, R125 -/
  | pressCmdSlew (align : Bool) (mask : BitVec 8) (target : Fin 64)
  /-- PLL_PLAN_WRITE, R141 -/
  | pllPlanWrite (p : Fin 4) (v : BitVec 32)
  /-- PLL_START, R144 -/
  | pllStart (p : Fin 4)
  /-- PLL_STOP, R146 -/
  | pllStop (p : Fin 4)
  /-- HANDOVER, R153 -/
  | handover (p : Fin 4)
  /-- HANDBACK, R153 -/
  | handback (p : Fin 4)
  /-- ROT_CLR, R140 -/
  | rotClr (p : Fin 4)
  /-- LD_WINDOW_END, R147 -/
  | ldWindowEnd (p : Fin 4) (count : Nat)
  /-- BAND_STALE, R145 -/
  | bandStale (p : Fin 4) (t : Int)
  /-- SYN_DOMAIN_WRITE, R151 -/
  | synDomainWrite (p : Fin 4) (v : BitVec 32)
  /-- SYN_RAMP_GO, R156 -/
  | synRampGo (p : Fin 3)
  /-- SYN_RAMP_ABORT, R156 -/
  | synRampAbort (p : Fin 3)
  /-- RAMP_START_AT, R156 -/
  | rampStartAt (p : Fin 3)
  /-- RAMP_UPDATE, R155 -/
  | rampUpdate (p : Fin 3)
  /-- OUT_CFG_WRITE, R157 -/
  | outCfgWrite (i : Fin 24) (v : BitVec 32)
  /-- OUT_DIV_WRITE, R157 -/
  | outDivWrite (i : Fin 24) (v : BitVec 32)
  /-- OUT_TRIM_WRITE, R159 -/
  | outTrimWrite (i : Fin 24) (v : BitVec 12)
  /-- TRIM_WALK_STEP, R159 -/
  | trimWalkStep (i : Fin 24)
  /-- SYNC_INSTANT, R160 -/
  | syncInstant (at_ : Nat)
  /-- PPS_EDGE, R162 -/
  | ppsEdge (k : Fin 8)
  /-- PPS_CFG_WRITE, R162 -/
  | ppsCfgWrite (k : Fin 8) (reg : Fin 6) (v : BitVec 32)
  /-- FR_ARM, R164 -/
  | frArm (k : Fin 8)
  /-- FR_STOP, R164 -/
  | frStop (k : Fin 8)
  /-- HT_REG_COMMIT, R166 -/
  | htRegCommit (r : Fin 12) (v : BitVec 32)
  /-- TDC_EDGE, R172 -/
  | tdcEdge (c : Fin 104) (falling : Bool) (num : Nat) (den : Nat)
  /-- TDC_CH_EN_WRITE, R183 -/
  | tdcChEnWrite (c : Fin 104) (en : Bool) (ringEn : Bool)
  /-- TDC_CH_DEC_WRITE, R178 -/
  | tdcChDecWrite (c : Fin 104) (d : BitVec 25)
  /-- SOAK_SET, R184 -/
  | soakSet (temp : Int) (mw : Nat)
  /-- SOAK_CLEAR, R184 -/
  | soakClear (temp : Int) (mw : Nat) (settle : Nat)
  /-- OVEN_SLOW, R186 -/
  | ovenSlow (temp : Int) (mw : Nat)
  /-- TDC_CAL_GO, R189 -/
  | tdcCalGo (c : Fin 128)
  /-- TDC_OVERLAP_END, R188 -/
  | tdcOverlapEnd (c : Fin 104) (common : Nat) (diff : Int)
  /-- TDC_CORE_CAL_DONE, R187 -/
  | tdcCoreCalDone (c : Fin 108) (residual : Nat)
  /-- TDC_CAL_DUE, R191 -/
  | tdcCalDue (c : Fin 108)
  /-- LINK_ENABLE, R198 -/
  | linkEnable (n : Fin 32) (v : BitVec 32)
  /-- LINK_DISABLE, R213 -/
  | linkDisable (n : Fin 32) (v : BitVec 32)
  /-- CDR_LOCK, R200 -/
  | cdrLock (n : Fin 32) (phase : Int)
  /-- BLOCK_LOCK, R200 -/
  | blockLock (n : Fin 32) (an : Bool)
  /-- CDR_LOSS, R199 -/
  | cdrLoss (n : Fin 32)
  /-- BLOCK_LOCK_LOSS, R200 -/
  | blockLockLoss (n : Fin 32)
  /-- MODULE_LOS, R199 -/
  | moduleLos (n : Fin 32) (on : Bool)
  /-- MODULE_TX_FAULT, R443 -/
  | moduleTxFault (n : Fin 32) (on : Bool)
  /-- LINK_RX_FRAME, R201 -/
  | linkRxFrame (n : Fin 32) (f : List (BitVec 8)) (good : Bool) (num : Nat) (den : Nat) (excess : Bool)
  /-- QL_TIMEOUT, R220 -/
  | qlTimeout (n : Fin 32)
  /-- ESMC_TX_INFO, R220 -/
  | esmcTxInfo (n : Fin 32)
  /-- CALENDAR_FETCH, R210 -/
  | calendarFetch (n : Fin 32)
  /-- LAUNCH_FRAME, R212 -/
  | launchFrame (n : Fin 32) (num : Nat) (den : Nat) (dur : Nat) (pred : Int)
  /-- LINK_PHASE_SAMPLE, R216 -/
  | linkPhaseSample (n : Fin 32) (phase : Int) (rt : Int)
  /-- PC_ARM, R217 -/
  | pcArm (n : Fin 32)
  /-- PC_STOP, R218 -/
  | pcStop (n : Fin 32)
  /-- PC_UPDATE, R217 -/
  | pcUpdate (n : Fin 32)
  /-- LNK_TRIM_WRITE, R218 -/
  | lnkTrimWrite (n : Fin 32) (v : BitVec 24)
  /-- LINK_READMIT, R223 -/
  | linkReadmit (n : Fin 32)
  /-- EPD_LOOKUP, R253 -/
  | epdLookup (by_ : Fin 9) (slot : Fin 9)
  /-- EPD_INSERT, R254 -/
  | epdInsert (by_ : Fin 9) (slot : Fin 9)
  /-- EPD_REMOVE, R253 -/
  | epdRemove (by_ : Fin 9) (slot : Fin 9)
  /-- DIR_WINDOW_WRITE, R255 -/
  | dirWindowWrite (addr : BitVec 21)
  /-- EPD_DIR_SALT_WRITE, R255 -/
  | epdDirSaltWrite (v : BitVec 32)
  /-- EP_INTERVAL_END, R257 -/
  | epIntervalEnd (i : Fin 131072) (buf : BitVec 32)
  /-- EP_FRAME, R257 -/
  | epFrame (n : Fin 32) (moved : Bool) (full : Bool) (t1 : BitVec 96) (t2 : BitVec 96) (t3 : BitVec 96) (t4 : BitVec 96) (temp : Int)
  /-- PROVISION, R262 -/
  | provision (g : Fin 8)
  /-- SPARE, R259 -/
  | spare (g : Fin 8)
  /-- EP_READMIT, R261 -/
  | epReadmit (g : Fin 8)
  /-- RESTORE, R261 -/
  | restore (g : Fin 8)
  /-- RETIRE, R262 -/
  | retire (g : Fin 8)
  /-- FREE, R262 -/
  | free (g : Fin 8)
  /-- SETCAL, R262 -/
  | setcal (g : Fin 8)
  /-- NOP, R477 -/
  | nop (g : Fin 8)
  /-- READ_RECORD, R477 -/
  | readRecord (g : Fin 8)
  /-- BAD_OP, R477 -/
  | badOp (g : Fin 8)
  /-- OP_COMPLETE, R277 -/
  | opComplete (e : Fin 8) (place : Fin 16)
  /-- THREAD_TIMER, R281 -/
  | threadTimer (n : Fin 8) (t : Fin 4)
  /-- HEARTBEAT_EXPIRE, R294 -/
  | heartbeatExpire (n : Fin 8)
  /-- ROLE_CMD, R293 -/
  | roleCmd (r : Fin 64) (dst : Fin 8)
  /-- EPOCH_ADVANCE_DEFERRED, R290 -/
  | epochAdvanceDeferred (r : Fin 64)
  /-- ENG_RUN, R300 -/
  | engRun (n : Fin 8)
  /-- ENG_PARK, R300 -/
  | engPark (n : Fin 8) (move : Bool)
  /-- ENG_DRAIN_DONE, R300 -/
  | engDrainDone (n : Fin 8)
  /-- ENG_MB_RATE_WRITE, R299 -/
  | engMbRateWrite (n : Fin 8) (v : BitVec 32)
  /-- IB_WRITE, R301 -/
  | ibWrite (by_ : Fin 9) (n : Fin 8) (off : BitVec 18) (v : BitVec 32)
  /-- UNDEFINED_INSTRUCTION, R309 -/
  | undefinedInstruction (e : Fin 8) (t : Fin 4)
  /-- ADD, R311 -/
  | add (e : Fin 8) (t : Fin 4) (rd : Fin 32) (ra : Fin 32) (rb : Fin 32)
  /-- SUB, R311 -/
  | sub (e : Fin 8) (t : Fin 4) (rd : Fin 32) (ra : Fin 32) (rb : Fin 32)
  /-- AND, R311 -/
  | and (e : Fin 8) (t : Fin 4) (rd : Fin 32) (ra : Fin 32) (rb : Fin 32)
  /-- OR, R311 -/
  | or (e : Fin 8) (t : Fin 4) (rd : Fin 32) (ra : Fin 32) (rb : Fin 32)
  /-- XOR, R311 -/
  | xor (e : Fin 8) (t : Fin 4) (rd : Fin 32) (ra : Fin 32) (rb : Fin 32)
  /-- SHL, R311 -/
  | shl (e : Fin 8) (t : Fin 4) (rd : Fin 32) (ra : Fin 32) (rb : Fin 32)
  /-- SHR, R311 -/
  | shr (e : Fin 8) (t : Fin 4) (rd : Fin 32) (ra : Fin 32) (rb : Fin 32)
  /-- SRA, R311 -/
  | sra (e : Fin 8) (t : Fin 4) (rd : Fin 32) (ra : Fin 32) (rb : Fin 32)
  /-- MUL, R311 -/
  | mul (e : Fin 8) (t : Fin 4) (rd : Fin 32) (ra : Fin 32) (rb : Fin 32)
  /-- MULH, R311 -/
  | mulh (e : Fin 8) (t : Fin 4) (rd : Fin 32) (ra : Fin 32) (rb : Fin 32)
  /-- SEL, R311 -/
  | sel (e : Fin 8) (t : Fin 4) (rd : Fin 32) (ra : Fin 32) (rb : Fin 32)
  /-- CMPEQ, R311 -/
  | cmpeq (e : Fin 8) (t : Fin 4) (rd : Fin 32) (ra : Fin 32) (rb : Fin 32)
  /-- CMPNE, R311 -/
  | cmpne (e : Fin 8) (t : Fin 4) (rd : Fin 32) (ra : Fin 32) (rb : Fin 32)
  /-- CMPLT, R311 -/
  | cmplt (e : Fin 8) (t : Fin 4) (rd : Fin 32) (ra : Fin 32) (rb : Fin 32)
  /-- CMPGE, R311 -/
  | cmpge (e : Fin 8) (t : Fin 4) (rd : Fin 32) (ra : Fin 32) (rb : Fin 32)
  /-- CMPLTU, R311 -/
  | cmpltu (e : Fin 8) (t : Fin 4) (rd : Fin 32) (ra : Fin 32) (rb : Fin 32)
  /-- CMPGEU, R311 -/
  | cmpgeu (e : Fin 8) (t : Fin 4) (rd : Fin 32) (ra : Fin 32) (rb : Fin 32)
  /-- ADDI, R312 -/
  | addi (e : Fin 8) (t : Fin 4) (rd : Fin 32) (ra : Fin 32) (imm : BitVec 16)
  /-- ANDI, R312 -/
  | andi (e : Fin 8) (t : Fin 4) (rd : Fin 32) (ra : Fin 32) (imm : BitVec 16)
  /-- ORI, R312 -/
  | ori (e : Fin 8) (t : Fin 4) (rd : Fin 32) (ra : Fin 32) (imm : BitVec 16)
  /-- XORI, R312 -/
  | xori (e : Fin 8) (t : Fin 4) (rd : Fin 32) (ra : Fin 32) (imm : BitVec 16)
  /-- SHLI, R312 -/
  | shli (e : Fin 8) (t : Fin 4) (rd : Fin 32) (ra : Fin 32) (n : BitVec 6)
  /-- SHRI, R312 -/
  | shri (e : Fin 8) (t : Fin 4) (rd : Fin 32) (ra : Fin 32) (n : BitVec 6)
  /-- SRAI, R312 -/
  | srai (e : Fin 8) (t : Fin 4) (rd : Fin 32) (ra : Fin 32) (n : BitVec 6)
  /-- CMPEQI, R312 -/
  | cmpeqi (e : Fin 8) (t : Fin 4) (rd : Fin 32) (ra : Fin 32) (imm : BitVec 16)
  /-- CMPNEI, R312 -/
  | cmpnei (e : Fin 8) (t : Fin 4) (rd : Fin 32) (ra : Fin 32) (imm : BitVec 16)
  /-- CMPLTI, R312 -/
  | cmplti (e : Fin 8) (t : Fin 4) (rd : Fin 32) (ra : Fin 32) (imm : BitVec 16)
  /-- CMPGEI, R312 -/
  | cmpgei (e : Fin 8) (t : Fin 4) (rd : Fin 32) (ra : Fin 32) (imm : BitVec 16)
  /-- CMPLTUI, R312 -/
  | cmpltui (e : Fin 8) (t : Fin 4) (rd : Fin 32) (ra : Fin 32) (imm : BitVec 16)
  /-- CMPGEUI, R312 -/
  | cmpgeui (e : Fin 8) (t : Fin 4) (rd : Fin 32) (ra : Fin 32) (imm : BitVec 16)
  /-- LD8, R315 -/
  | ld8 (e : Fin 8) (t : Fin 4) (rd : Fin 32) (ra : Fin 32) (imm : BitVec 12) (transit : Bool)
  /-- LD16, R315 -/
  | ld16 (e : Fin 8) (t : Fin 4) (rd : Fin 32) (ra : Fin 32) (imm : BitVec 12) (transit : Bool)
  /-- LD32, R315 -/
  | ld32 (e : Fin 8) (t : Fin 4) (rd : Fin 32) (ra : Fin 32) (imm : BitVec 12) (transit : Bool)
  /-- LD64, R315 -/
  | ld64 (e : Fin 8) (t : Fin 4) (rd : Fin 32) (ra : Fin 32) (imm : BitVec 12) (transit : Bool)
  /-- BANK_CE_WRITEBACK, R346 -/
  | bankCeWriteback (addr : BitVec 32) (ue : Bool)
  /-- ST8, R315 -/
  | st8 (e : Fin 8) (t : Fin 4) (rs : Fin 32) (ra : Fin 32) (imm : BitVec 12) (transit : Bool)
  /-- ST16, R315 -/
  | st16 (e : Fin 8) (t : Fin 4) (rs : Fin 32) (ra : Fin 32) (imm : BitVec 12) (transit : Bool)
  /-- ST32, R315 -/
  | st32 (e : Fin 8) (t : Fin 4) (rs : Fin 32) (ra : Fin 32) (imm : BitVec 12) (transit : Bool)
  /-- ST64, R315 -/
  | st64 (e : Fin 8) (t : Fin 4) (rs : Fin 32) (ra : Fin 32) (imm : BitVec 12) (transit : Bool)
  /-- XADD, R316 -/
  | xadd (e : Fin 8) (t : Fin 4) (rd : Fin 32) (ra : Fin 32) (rb : Fin 32) (w32 : Bool) (transit : Bool)
  /-- XSWP, R316 -/
  | xswp (e : Fin 8) (t : Fin 4) (rd : Fin 32) (ra : Fin 32) (rb : Fin 32) (w32 : Bool) (transit : Bool)
  /-- TLD, R320 -/
  | tld (e : Fin 8) (t : Fin 4) (td : Fin 8) (ra : Fin 32) (imm : BitVec 12) (transit : Bool)
  /-- TST, R320 -/
  | tst (e : Fin 8) (t : Fin 4) (ts : Fin 8) (ra : Fin 32) (imm : BitVec 12) (transit : Bool)
  /-- BR, R317 -/
  | br (e : Fin 8) (t : Fin 4) (imm : BitVec 21)
  /-- BEQ, R317 -/
  | beq (e : Fin 8) (t : Fin 4) (rs : Fin 32) (imm : BitVec 21)
  /-- BNE, R317 -/
  | bne (e : Fin 8) (t : Fin 4) (rs : Fin 32) (imm : BitVec 21)
  /-- BLT, R317 -/
  | blt (e : Fin 8) (t : Fin 4) (rs : Fin 32) (imm : BitVec 21)
  /-- BGE, R317 -/
  | bge (e : Fin 8) (t : Fin 4) (rs : Fin 32) (imm : BitVec 21)
  /-- CALL, R317 -/
  | call (e : Fin 8) (t : Fin 4) (imm : BitVec 21)
  /-- ENTER1, R339 -/
  | enter1 (e : Fin 8) (t : Fin 4) (imm : BitVec 21)
  /-- RET, R318 -/
  | ret (e : Fin 8) (t : Fin 4) (ra : Fin 32)
  /-- TADD, R321 -/
  | tadd (e : Fin 8) (t : Fin 4) (td : Fin 8) (ta : Fin 8) (rb : Fin 32)
  /-- TSUB, R321 -/
  | tsub (e : Fin 8) (t : Fin 4) (rd : Fin 32) (ta : Fin 8) (tb : Fin 8)
  /-- TCMP, R321 -/
  | tcmp (e : Fin 8) (t : Fin 4) (rd : Fin 32) (ta : Fin 8) (tb : Fin 8)
  /-- TCVT_SEC, R322 -/
  | tcvtSec (e : Fin 8) (t : Fin 4) (rd : Fin 32) (ta : Fin 8)
  /-- TCVT_NS, R322 -/
  | tcvtNs (e : Fin 8) (t : Fin 4) (rd : Fin 32) (ta : Fin 8)
  /-- TCVT_FRAC, R322 -/
  | tcvtFrac (e : Fin 8) (t : Fin 4) (rd : Fin 32) (ta : Fin 8)
  /-- TCVT_FU, R322 -/
  | tcvtFu (e : Fin 8) (t : Fin 4) (rd : Fin 32) (ta : Fin 8)
  /-- TCVT_MK, R322 -/
  | tcvtMk (e : Fin 8) (t : Fin 4) (td : Fin 8) (ra : Fin 32) (rb : Fin 32)
  /-- TCVT_MOV, R322 -/
  | tcvtMov (e : Fin 8) (t : Fin 4) (td : Fin 8) (ta : Fin 8)
  /-- STAMP, R323 -/
  | stamp (e : Fin 8) (t : Fin 4) (td : Fin 8) (rb : Fin 32)
  /-- PUSH, R324 -/
  | push (e : Fin 8) (t : Fin 4) (rd : Fin 32) (r : Fin 128) (ra : Fin 32) (transit : Bool)
  /-- POP, R324 -/
  | pop (e : Fin 8) (t : Fin 4) (rd : Fin 32) (r : Fin 128) (ra : Fin 32) (transit : Bool)
  /-- PEEK, R324 -/
  | peek (e : Fin 8) (t : Fin 4) (rd : Fin 32) (r : Fin 128) (ra : Fin 32) (transit : Bool)
  /-- WAITE, R282 -/
  | waite (e : Fin 8) (t : Fin 4) (rd : Fin 32) (ra : Fin 32)
  /-- EVACK, R327 -/
  | evack (e : Fin 8) (t : Fin 4) (ra : Fin 32)
  /-- BEAT, R294 -/
  | beat (e : Fin 8) (t : Fin 4)
  /-- FENCE, R279 -/
  | fence (e : Fin 8) (t : Fin 4)
  /-- RDSR, R329 -/
  | rdsr (e : Fin 8) (t : Fin 4) (rd : Fin 32) (sel : Fin 3)
  /-- WRFS, R329 -/
  | wrfs (e : Fin 8) (t : Fin 4) (ra : Fin 32)
  /-- EPOCH, R287 -/
  | epoch (e : Fin 8) (t : Fin 4) (r : Fin 64)
  /-- DEVR, R331 -/
  | devr (e : Fin 8) (t : Fin 4) (rd : Fin 32) (ra : Fin 32)
  /-- DEVW, R331 -/
  | devw (e : Fin 8) (t : Fin 4) (rd : Fin 32) (ra : Fin 32) (rb : Fin 32)
  /-- PRESS_ALIGN, R332 -/
  | pressAlign (e : Fin 8) (t : Fin 4) (rd : Fin 32) (ra : Fin 32) (rb : Fin 32) (align : Bool)
  /-- PRESS_STEP, R332 -/
  | pressStep (e : Fin 8) (t : Fin 4) (rd : Fin 32) (ra : Fin 32) (rb : Fin 32) (align : Bool)
  /-- PRESS_SLEW, R332 -/
  | pressSlew (e : Fin 8) (t : Fin 4) (rd : Fin 32) (ra : Fin 32) (rb : Fin 32) (align : Bool)
  /-- PRESS_ABORT, R332 -/
  | pressAbort (e : Fin 8) (t : Fin 4) (rd : Fin 32) (ra : Fin 32) (rb : Fin 32) (align : Bool)
  /-- SEAM_SELECT, R333 -/
  | seamSelect (e : Fin 8) (t : Fin 4) (rd : Fin 32) (ra : Fin 32) (hi : Fin 64)
  /-- SEAM_CLEAR_PREF, R333 -/
  | seamClearPref (e : Fin 8) (t : Fin 4) (rd : Fin 32) (ra : Fin 32) (hi : Fin 64)
  /-- RAMP_GO, R334 -/
  | rampGo (e : Fin 8) (t : Fin 4) (rd : Fin 32) (pll : Fin 4) (hi : Fin 32)
  /-- RAMP_ABORT, R334 -/
  | rampAbort (e : Fin 8) (t : Fin 4) (rd : Fin 32) (pll : Fin 4) (hi : Fin 32)
  /-- FEED, R335 -/
  | feed (e : Fin 8) (t : Fin 4) (rd : Fin 32) (ra : Fin 32) (ts : Fin 8)
  /-- SCHED_PLACE, R266 -/
  | schedPlace (e : Fin 8) (t : Fin 4) (rd : Fin 32) (ra : Fin 32) (link : Fin 32) (notify : Bool) (b7 : Bool) (transit : Bool)
  /-- SCHED_CANCEL, R269 -/
  | schedCancel (e : Fin 8) (t : Fin 4) (rd : Fin 32) (ra : Fin 32) (low : Fin 32) (b5 : Bool) (b7 : Bool) (transit : Bool)
  /-- BNK_PWR_WRITE, R348 -/
  | bnkPwrWrite (b : Fin 29) (v : BitVec 32)
  /-- RINSE_END, R349 -/
  | rinseEnd (b : Fin 29)
  /-- DARN_PRESERVING, R352 -/
  | darnPreserving (b : Fin 32)
  /-- DARN_DESTRUCTIVE, R351 -/
  | darnDestructive (b : Fin 32)
  /-- DARN_END, R355 -/
  | darnEnd (b : Fin 29) (rows : List (Nat × Bool)) (groups : Option (BitVec 20))
  /-- RING_ENABLE, R358 -/
  | ringEnable (r : Fin 128) (v : BitVec 32)
  /-- RING_DISABLE, R366 -/
  | ringDisable (r : Fin 128) (v : BitVec 32)
  /-- RING_STOP_WRITE, R366 -/
  | ringStopWrite (r : Fin 128) (stop : Bool)
  /-- RING_DOORBELL, R365 -/
  | ringDoorbell (r : Fin 128) (idx : BitVec 17) (bar2 : Bool)
  /-- OTP_BURN, R385 -/
  | otpBurn (gen : Fin 4) (low : Bool)
  /-- OTP_SEAL, R386 -/
  | otpSeal (gen : Fin 4) (low : Bool)
  /-- OTP_REVOKE, R387 -/
  | otpRevoke (gen : Fin 4) (low : Bool)
  /-- OTP_ADOPT, R388 -/
  | otpAdopt (gen : Fin 4)
  /-- OTP_CMD_COMPLETE, R384 -/
  | otpCmdComplete (stuck0 : BitVec 32) (stuck1 : BitVec 32)
  /-- NV_WRITE, R394 -/
  | nvWrite (off : BitVec 17) (v : BitVec 32) (res : Nat) (vin : Nat)
  /-- NV_BUFFER_IDLE_COMMIT, R394 -/
  | nvBufferIdleCommit (res : Nat) (vin : Nat)
  /-- NV_FLUSH, R394 -/
  | nvFlush (res : Nat) (vin : Nat)
  /-- NV_SCAN_DONE, R392 -/
  | nvScanDone (torn : List Nat) (ce : List Nat) (ue : List Nat)
  /-- RESET_RELEASE, R382 -/
  | resetRelease (pins : Fin 4)
  /-- RECALL_END, R406 -/
  | recallEnd (mv : List Nat) (c : Nat)
  /-- RESET_ASSERT, R495 -/
  | resetAssert (k0 : BitVec 32) (k1 : BitVec 32)
  /-- MODE_CMD, R408 -/
  | modeCmd (dst : Fin 8)
  /-- FACTORY_REQ, R411 -/
  | factoryReq (v : BitVec 32)
  /-- PWR_ENTRY_SAVE, R428 -/
  | pwrEntrySave (cal : BitVec 64) (res : Nat) (vin : Nat)
  /-- I2C_WAKE, R430 -/
  | i2cWake (dev : BitVec 7)
  /-- LEDGER_CAL_WINDOW, R433 -/
  | ledgerCalWindow (period : BitVec 64)
  /-- AO_OVERLOAD, R436 -/
  | aoOverload (ma : BitVec 16)
  /-- SUPPLY_FAULT, R493 -/
  | supplyFault (k0 : BitVec 32) (k1 : BitVec 32) (tear : Option (Fin 8 × Fin 8 × Fin 3))
  /-- VAO_LOSS, R492 -/
  | vaoLoss (k0 : BitVec 32) (k1 : BitVec 32) (tear : Option (Fin 8 × Fin 8 × Fin 3))
  /-- FAULT_REPORT, R440 -/
  | faultReport (src : Fin 512) (cls : Fin 4) (cause : BitVec 8)
  /-- BROKEN_WIRE, R441 -/
  | brokenWire (src : Fin 512) (rail : Fin 4)
  /-- PROMO_WINDOW_EXPIRE, R444 -/
  | promoWindowExpire (src : Fin 512)
  /-- FLT_CLEAR, R450 -/
  | fltClear (src : Fin 512)
  /-- FLT_LOG_ACK, R445 -/
  | fltLogAck (n : Fin 32)
  /-- FLT_INJECT, R454 -/
  | fltInject (src : Fin 512) (cls : Fin 4) (broken : Bool)
  /-- HOST_MB_RATE_WRITE, R458 -/
  | hostMbRateWrite (v : BitVec 32)
  /-- SPI_READ, R466 -/
  | spiRead (op : BitVec 8) (addr : BitVec 32) (count : Fin 256)
  /-- SPI_WRITE, R466 -/
  | spiWrite (addr : BitVec 32) (count : Fin 256) (words : List (BitVec 32))
  /-- SPI_COMPAT_READ, R467 -/
  | spiCompatRead (index : BitVec 15) (count : Nat) (late : List Nat)
  /-- SPI_COMPAT_WRITE, R468 -/
  | spiCompatWrite (index : BitVec 15) (vals : List (BitVec 16)) (ragged : Bool)
  /-- I2C_WRITE_FRAME, R469 -/
  | i2cWriteFrame (dev : BitVec 7) (op : BitVec 8) (addr : BitVec 32) (count : Fin 256) (words : List (BitVec 32))
  /-- I2C_READ_FRAME, R469 -/
  | i2cReadFrame (dev : BitVec 7) (addr : BitVec 32) (count : Fin 256)
  /-- I2C_STATUS_READ, R469 -/
  | i2cStatusRead (dev : BitVec 7)
  /-- DBG_MEM, R471 -/
  | dbgMem (addr : BitVec 32) (data : BitVec 32) (write : Bool)
  /-- DBG_ENG_READ, R472 -/
  | dbgEngRead (e : Fin 8) (t : Fin 4) (sel : BitVec 8)
  /-- DBG_ENG_WRITE, R472 -/
  | dbgEngWrite (e : Fin 8) (t : Fin 4) (sel : BitVec 8) (v : BitVec 32)
  /-- DBG_ENG_STEP, R472 -/
  | dbgEngStep (e : Fin 8) (t : Fin 4)
  /-- SLOT_POST, R474 -/
  | slotPost (by_ : Fin 9) (k : Fin 32)
  /-- SLOT_STAGE_WRITE, R473 -/
  | slotStageWrite (by_ : Fin 9) (k : Fin 32) (w : Fin 8) (v : BitVec 32)
  /-- SLOT_ACK, R476 -/
  | slotAck (k : Fin 32) (v : BitVec 16)
  /-- MSIX_UNMASK, R478 -/
  | msixUnmask (v : Fin 64) (mask : Bool)
  /-- MODULE_PRESENCE, R200 -/
  | modulePresence (n : Fin 32) (absent : Bool)
  /-- PCS_BLOCK_ERRORS, R443 -/
  | pcsBlockErrors (n : Fin 32)
  /-- PCIE_LINK_STATE, R478 -/
  | pcieLinkState (up : Bool) (gen : Fin 4) (width : Fin 3) (msix : Bool)
  /-- HOST_BANK_WRITE, R463 -/
  | hostBankWrite (addr : BitVec 27) (data : List (Option (BitVec 8))) (same : Bool)
  /-- MAILBOX_ADMIT, R27 -/
  | mailboxAdmit
  /-- LEAP_CANCEL, R50 -/
  | leapCancel
  /-- DECLARE_KNOWN, R56 -/
  | declareKnown
  /-- UNC_BOUND_GROW, R55 -/
  | uncBoundGrow
  /-- TB_START_TIMEOUT, R407 -/
  | tbStartTimeout
  /-- TSV_STAGE_ADVANCE, R65 -/
  | tsvStageAdvance
  /-- TSV_RESTART, R65 -/
  | tsvRestart
  /-- DRIFT_WATCH_EVAL, R86 -/
  | driftWatchEval
  /-- CLEAR_PREF, R102 -/
  | clearPref
  /-- SEL_PENDING_SEAM, R102 -/
  | selPendingSeam
  /-- AUTO_SELECT, R103 -/
  | autoSelect
  /-- REVERT_TIMER_EXPIRE, R104 -/
  | revertTimerExpire
  /-- SEAM_COMPLETE, R135 -/
  | seamComplete
  /-- TS_LOCK, R112 -/
  | tsLock
  /-- TS_UNLOCK, R112 -/
  | tsUnlock
  /-- FEED_LOSS_EXPIRE, R513 -/
  | feedLossExpire
  /-- HO_MODEL_RECOMPUTE, R116 -/
  | hoModelRecompute
  /-- DAY_CLOSE, R117 -/
  | dayClose
  /-- TEMP_MEAN_60S, R118 -/
  | tempMean60s
  /-- SNAPSHOT, R121 -/
  | snapshot
  /-- PRESS_CMD_ABORT, R127 -/
  | pressCmdAbort
  /-- PRESS_STEP_APPLY, R126 -/
  | pressStepApply
  /-- ACQUISITION_STEP, R57 -/
  | acquisitionStep
  /-- PRESS_ALIGN_APPLY, R163 -/
  | pressAlignApply
  /-- SLEW_START, R127 -/
  | slewStart
  /-- SLEW_END, R127 -/
  | slewEnd
  /-- SYNC_GO, R161 -/
  | syncGo
  /-- SYNC_IN_EDGE, R160 -/
  | syncInEdge
  /-- SYNC_HOLD_START, R160 -/
  | syncHoldStart
  /-- TDC_RING_WRITE, R181 -/
  | tdcRingWrite
  /-- TDC_AUTO_CAL_START, R191 -/
  | tdcAutoCalStart
  /-- OTP_WINDOW_WRITE, R374 -/
  | otpWindowWrite
  /-- NV_RECHECK, R399 -/
  | nvRecheck
  /-- MODE_CHANGE_DONE, R408 -/
  | modeChangeDone
  /-- PWR_ENTER_IDLE, R428 -/
  | pwrEnterIdle
  /-- PWR_ENTER_SLEEP, R423 -/
  | pwrEnterSleep
  /-- PWR_ENTER_DEEP_SLEEP, R428 -/
  | pwrEnterDeepSleep
  /-- PWR_ENTER_OFF, R428 -/
  | pwrEnterOff
  /-- PWR_WAKE_HOST, R427 -/
  | pwrWakeHost
  /-- PWR_ENTRY_DRAINED, R428 -/
  | pwrEntryDrained
  /-- WAKE_PIN, R430 -/
  | wakePin
  /-- WAKE_ALARM, R430 -/
  | wakeAlarm
  /-- LEDGER_SRC_DETECT, R433 -/
  | ledgerSrcDetect
  /-- OVEN_SUPPLY_LOW, R493 -/
  | ovenSupplyLow
  /-- FLT_FIRST_ACK, R445 -/
  | fltFirstAck
  /-- PCIE_PERST, R461 -/
  | pciePerst
  /-- SPI_STATUS, R466 -/
  | spiStatus
  /-- SPI_CS_RISE, R466 -/
  | spiCsRise
  /-- I2C_STOP, R469 -/
  | i2cStop
  /-- EXTEST, R470 -/
  | extest
  /-- IDCODE, R470 -/
  | idcode
  /-- SAMPLE_PRELOAD, R470 -/
  | samplePreload
  /-- HIGHZ, R470 -/
  | highz
  /-- CLAMP, R470 -/
  | clamp
  /-- BYPASS, R470 -/
  | bypass
  /-- SUPPLY_RESTORED, R493 -/
  | supplyRestored
  /-- OVEN_SUPPLY_RESTORED, R493 -/
  | ovenSupplyRestored
  deriving DecidableEq, Repr

end Sys2Proof
end

