-- ==== Sys2Proof/Decode.lean ====
section
/-! DEFINITION. Decode.lean: the commands that a word spells by the table's bits. The rows of spec/opcode_table.json give no bits,
so no word spells one. -/
namespace Sys2Proof

/-- The command of a word of `nbits` bits; the table gives no row any bits. -/
def decodeTableWord (_nbits _w : Nat) : Option Instr := none

end Sys2Proof
end

