-- ==== Sys2Proof/Config.lean ====
section
/-! DEFINITION. Config.lean: the free values of the model. Each is a constant without a body: nothing can be proved about its
value, so a statement that mentions it holds whatever it is. -/
namespace Sys2Proof

/-- Free: the value of pi that TSERVO uses (02 R62 gives omega = 2 pi f_n and no precision), log 7. -/
opaque Config.servoPi : Rat

/-- Free: the value TSERVO uses for 2^(r/4), r = 1, 2, 3 (02 R63 gives no precision), log 7. -/
opaque Config.servoRoot : Nat → Rat

/-- Free: how TSERVO rounds a term of its control law to the unit 2^-48 (02 R62 states none), log 7. -/
opaque Config.servoRound : Rat → Int

/-- Free: how the qualifier rounds a frequency to the unit 2^-48 (03 R84, R86 state none), log 8. -/
opaque Config.freqRound : Rat → Int

/-- Free: how the qualifier rounds the root of a mean square residual to whole fu (03 R85 states none), log 8. -/
opaque Config.rmsRound : Rat → Nat

/-- Free: how the seam unit rounds the value of a least-squares line to whole fu (04 R109 states none), log 8. -/
opaque Config.lineRound : Rat → Int

/-- Free: how the seam unit rounds the terms of the holdover model (04 R116 to R120 state none), log 9. -/
opaque Config.modelRound : Rat → Int

/-- Free: the square root that makes a standard error of a variance (04 R116 to R118 state no rounding), log 9. -/
opaque Config.standardError : Rat → Rat

/-- Free: how a rotator's ramp phase is rounded to whole fu (05 R140 states none), log 13. -/
opaque Config.phaseRound : Rat → Int

/-- Free: how STAMP rounds its latency to whole ns (11 R323 states none), log 13. -/
opaque Config.nsRound : Rat → Nat

/-- Free: the contents of a memory byte whose bank has lost them, by the count of losses and the address
(12 R348, R351; 15 R431), log 5. -/
opaque Config.freeByte : Nat → Nat → BitVec 8

/-- Free: whether a group whose bank has lost its contents is uncorrectable, by the count of losses and the group (12 R346, R348),
log 5. -/
opaque Config.freeCheck : Nat → Nat → Bool

/-- Free: how a value half way between two steps is rounded to the nearest one (07 R217 names the nearest step), log 19. -/
opaque Config.tieUp : Int → Bool

/-- Free: which of its two codes a port writes for a checksum fill of zero (07 R214 gives either), log 19. -/
opaque Config.onesZero : Bool

/-- Free: how many entries a port frees behind a launch frame whose LEN and ENTRIES do not agree (07 R212), log 20. -/
opaque Config.formatEntries : Nat → Nat → Nat

/-- Free: which of several free slots or chains the directory takes for a key (09 R254 names none), log 21. -/
opaque Config.pick : Nat → Nat

/-- Free: how the endpoint service rounds the terms of an exchange to whole fu (09 R258 states none), log 25. -/
opaque Config.exchangeRound : Rat → Int

/-- Free: how the power manager rounds the wake alarm to whole ledger periods (15 R433 states none), log 31. -/
opaque Config.countRound : Rat → Nat

/-- Free: a 64-bit value that the spec does not state, by the counter `State.freeCtr`, log 4. -/
opaque Config.freeValue : Nat → BitVec 64

end Sys2Proof
end

