-- ==== Sys2Proof/Machine/RegMap.lean ====
section
/-! DEFINITION. Machine/RegMap.lean: the register map of the part, one entry per register family of the register tables
(02 R72 to 17 R482): where each field stands, its access code (00 R12), its source (00 R15) and its value on leaving
RECALL. A field whose table states no such value takes 0 (DESIGN CHOICE, log 2). Where the value depends on the index of
the register, `resetOverride` in Machine/ResetMap.lean gives it. -/
namespace Sys2Proof.Machine

/-- The place of a register field in the address map: the address of its register, its lowest bit, its width (00 R11). -/
structure Fld where
  addr : Nat
  lo : Nat
  width : Nat
  deriving DecidableEq, Repr

/-- Access codes, 00 R12. -/
inductive Acc where
  | rw | ro | w1c | wo | rc
  deriving DecidableEq, Repr

/-- Source codes, 00 R15. -/
inductive Src where
  | hard | factory | image | live
  deriving DecidableEq, Repr

/-- One row of a register table. -/
structure FieldDef where
  lo : Nat
  width : Nat
  acc : Acc
  src : Src
  reset : Nat
  deriving DecidableEq, Repr

/-- One register family: `n1` copies at stride `s1`, each of `n2` copies at stride `s2`. -/
structure RegDef where
  base : Nat
  n1 : Nat
  s1 : Nat
  n2 : Nat
  s2 : Nat
  fields : List FieldDef
  deriving DecidableEq, Repr

/-! ### The fields by name -/
namespace R

def SYS_ID_VENDOR : Fld := ⟨0x05000000, 16, 16⟩
def SYS_ID_PART : Fld := ⟨0x05000000, 0, 16⟩
def SYS_REV_REV : Fld := ⟨0x05000004, 0, 8⟩
def SYS_REV_GRADE : Fld := ⟨0x05000004, 8, 4⟩
def TB_CTL_DECLARE_KNOWN : Fld := ⟨0x05010000, 0, 1⟩
def TB_STATUS_TIME_UNCERTAIN : Fld := ⟨0x05010004, 0, 1⟩
def TB_STATUS_TIME_DEGRADED : Fld := ⟨0x05010004, 1, 1⟩
def TB_STATUS_CLK_SRC : Fld := ⟨0x05010004, 2, 2⟩
def TB_STATUS_LEAP_ARMED : Fld := ⟨0x05010004, 4, 1⟩
def TB_STATUS_LEAP_ACTIVE : Fld := ⟨0x05010004, 5, 1⟩
def TB_STATUS_LEAP_DONE : Fld := ⟨0x05010004, 8, 1⟩
def TB_STATUS_LEAP_REJ : Fld := ⟨0x05010004, 9, 1⟩
def TB_STATUS_HT_REJ : Fld := ⟨0x05010004, 10, 1⟩
def TB_STATUS_INC_REJ : Fld := ⟨0x05010004, 11, 1⟩
def TB_NOW_0_NOW : Fld := ⟨0x05010010, 0, 32⟩
def TB_NOW_1_NOW : Fld := ⟨0x05010014, 0, 32⟩
def TB_NOW_2_NOW : Fld := ⟨0x05010018, 0, 32⟩
def TB_INC_INT_INT : Fld := ⟨0x05010020, 0, 24⟩
def TB_INC_FRAC_NUM : Fld := ⟨0x05010024, 0, 16⟩
def TB_INC_FRAC_DEN : Fld := ⟨0x05010024, 16, 16⟩
def TB_DIV_DIV : Fld := ⟨0x05010028, 0, 6⟩
def TB_UTC_OFFSET_OFFSET : Fld := ⟨0x05010030, 0, 16⟩
def TB_LEAP_AT_LO_AT_LO : Fld := ⟨0x05010034, 0, 32⟩
def TB_LEAP_AT_HI_AT_HI : Fld := ⟨0x05010038, 0, 16⟩
def TB_LEAP_CTL_DELTA : Fld := ⟨0x0501003C, 0, 2⟩
def TB_LEAP_CTL_ARM : Fld := ⟨0x0501003C, 8, 1⟩
def TB_LEAP_CTL_CANCEL : Fld := ⟨0x0501003C, 9, 1⟩
def TB_UNC_BOUND_LO_BOUND : Fld := ⟨0x05010040, 0, 32⟩
def TB_UNC_BOUND_HI_BOUND : Fld := ⟨0x05010044, 0, 32⟩
def TSV_CTL_SRC : Fld := ⟨0x05010100, 0, 2⟩
def TSV_CTL_RESTART : Fld := ⟨0x05010100, 4, 1⟩
def TSV_CTL_RESTART_STAGE : Fld := ⟨0x05010100, 8, 3⟩
def TSV_CTL_LAST_STAGE : Fld := ⟨0x05010100, 12, 3⟩
def TSV_STATUS_STAGE : Fld := ⟨0x05010104, 0, 3⟩
def TSV_STATUS_HOLDING : Fld := ⟨0x05010104, 4, 1⟩
def TSV_STATUS_CLAMP : Fld := ⟨0x05010104, 5, 1⟩
def TSV_STATUS_BW_CLAMP : Fld := ⟨0x05010104, 6, 1⟩
def TSV_YMAX_YMAX : Fld := ⟨0x05010108, 0, 24⟩
def TSV_XLIM_XLIM : Fld := ⟨0x0501010C, 0, 32⟩
def TSV_STEER_LO : Fld := ⟨0x05010110, 0, 32⟩
def TSV_STEER_HI : Fld := ⟨0x05010114, 0, 32⟩
def TSV_INTEG_LO : Fld := ⟨0x05010118, 0, 32⟩
def TSV_INTEG_HI : Fld := ⟨0x0501011C, 0, 32⟩
def TSV_LASTX_LO : Fld := ⟨0x05010120, 0, 32⟩
def TSV_LASTX_HI : Fld := ⟨0x05010124, 0, 32⟩
def TSV_FEED_AGE_AGE : Fld := ⟨0x05010128, 0, 16⟩
def TSV_BIAS_SLEW_SLEW : Fld := ⟨0x0501012C, 0, 24⟩
def TSV_COUNT_IGNORED : Fld := ⟨0x05010130, 0, 8⟩
def TSV_COUNT_STALE : Fld := ⟨0x05010130, 8, 8⟩
def TSV_COUNT_ORDER : Fld := ⟨0x05010130, 16, 8⟩
def TSV_COUNT_OUTLIER : Fld := ⟨0x05010130, 24, 4⟩
def TSV_COUNT_FORMAT : Fld := ⟨0x05010130, 28, 4⟩
def TSV_STAGE_FN (n : Nat) : Fld := ⟨0x05010140 + 0x4 * n, 0, 6⟩
def TSV_STAGE_ZETA (n : Nat) : Fld := ⟨0x05010140 + 0x4 * n, 6, 3⟩
def TSV_STAGE_DWELL (n : Nat) : Fld := ⟨0x05010140 + 0x4 * n, 12, 12⟩
def TSV_STAGE_ADV_ADV (n : Nat) : Fld := ⟨0x05010160 + 0x4 * n, 0, 32⟩
def QUAL_STATUS_DISAGREE : Fld := ⟨0x05020000, 0, 1⟩
def QUAL_STATUS_UNVERIFIABLE : Fld := ⟨0x05020000, 1, 1⟩
def QUAL_STATUS_SOAK_HOLD : Fld := ⟨0x05020000, 2, 1⟩
def QUAL_STATUS_ENS_N : Fld := ⟨0x05020000, 8, 6⟩
def QUAL_EVENTS_DISAGREE_SET : Fld := ⟨0x05020004, 0, 1⟩
def QUAL_EVENTS_UNVERIFIABLE_SET : Fld := ⟨0x05020004, 1, 1⟩
def QUAL_EVENTS_ANY_STATE : Fld := ⟨0x05020004, 2, 1⟩
def QUAL_OBS_OBS_S : Fld := ⟨0x05020010, 0, 8⟩
def QUAL_OBS_PULSES : Fld := ⟨0x05020010, 8, 8⟩
def QUAL_OBS_REQUAL_S : Fld := ⟨0x05020010, 16, 12⟩
def QUAL_LOS_PERIODS : Fld := ⟨0x05020014, 0, 4⟩
def QUAL_LOS_PPS_MS : Fld := ⟨0x05020014, 16, 16⟩
def QUAL_FWIN_FWIN : Fld := ⟨0x05020018, 0, 24⟩
def QUAL_FW_TAU_CLK_MS : Fld := ⟨0x0502001C, 0, 16⟩
def QUAL_FW_TAU_PULSES : Fld := ⟨0x0502001C, 16, 8⟩
def QUAL_JIT_CLK_LIMIT : Fld := ⟨0x05020020, 0, 32⟩
def QUAL_JIT_PPS_LIMIT : Fld := ⟨0x05020024, 0, 32⟩
def QUAL_DRIFT_WIN_WIN : Fld := ⟨0x05020028, 0, 16⟩
def QUAL_DRIFT_WIN_HOLD : Fld := ⟨0x05020028, 16, 16⟩
def QUAL_DRIFT_SOFT_LIMIT : Fld := ⟨0x0502002C, 0, 32⟩
def QUAL_DRIFT_HARD_LIMIT : Fld := ⟨0x05020030, 0, 32⟩
def QUAL_AGREE_LIMIT : Fld := ⟨0x05020034, 0, 32⟩
def QUAL_JUMP_JUMP : Fld := ⟨0x05020038, 0, 32⟩
def QUAL_DISQ_MIN_MIN : Fld := ⟨0x0502003C, 0, 16⟩
def QUAL_IRIG_YEAR_YEAR : Fld := ⟨0x05020040, 0, 16⟩
def QUAL_CAND_CFG_EN (n : Nat) : Fld := ⟨0x05021000 + 0x40 * n, 0, 1⟩
def QUAL_CAND_CFG_ENS (n : Nat) : Fld := ⟨0x05021000 + 0x40 * n, 1, 1⟩
def QUAL_CAND_CFG_KIND (n : Nat) : Fld := ⟨0x05021000 + 0x40 * n, 2, 2⟩
def QUAL_CAND_CFG_IRIG_CODE (n : Nat) : Fld := ⟨0x05021000 + 0x40 * n, 4, 3⟩
def QUAL_CAND_CFG_IRIG_TS (n : Nat) : Fld := ⟨0x05021000 + 0x40 * n, 7, 1⟩
def QUAL_CAND_CFG_TOD_SRC (n : Nat) : Fld := ⟨0x05021000 + 0x40 * n, 8, 6⟩
def QUAL_CAND_NOM_NOM (n : Nat) : Fld := ⟨0x05021004 + 0x40 * n, 0, 21⟩
def QUAL_CAND_IN_MODE (n : Nat) : Fld := ⟨0x05021008 + 0x40 * n, 0, 2⟩
def QUAL_CAND_IN_AC (n : Nat) : Fld := ⟨0x05021008 + 0x40 * n, 2, 1⟩
def QUAL_CAND_IN_TERM (n : Nat) : Fld := ⟨0x05021008 + 0x40 * n, 3, 1⟩
def QUAL_CAND_STATE_STATE (n : Nat) : Fld := ⟨0x0502100C + 0x40 * n, 0, 3⟩
def QUAL_CAND_STATE_STEPPED (n : Nat) : Fld := ⟨0x0502100C + 0x40 * n, 3, 1⟩
def QUAL_CAND_STATE_DRIFT_ARMED (n : Nat) : Fld := ⟨0x0502100C + 0x40 * n, 4, 1⟩
def QUAL_CAND_STATE_LABEL_OK (n : Nat) : Fld := ⟨0x0502100C + 0x40 * n, 5, 1⟩
def QUAL_CAND_STATE_CAUSE (n : Nat) : Fld := ⟨0x0502100C + 0x40 * n, 8, 8⟩
def QUAL_CAND_STATE_TIMER (n : Nat) : Fld := ⟨0x0502100C + 0x40 * n, 16, 16⟩
def QUAL_CAND_EVENTS_STATE_CHG (n : Nat) : Fld := ⟨0x05021010 + 0x40 * n, 0, 1⟩
def QUAL_CAND_EVENTS_STEPPED_SET (n : Nat) : Fld := ⟨0x05021010 + 0x40 * n, 1, 1⟩
def QUAL_CAND_EVENTS_LOS (n : Nat) : Fld := ⟨0x05021010 + 0x40 * n, 2, 1⟩
def QUAL_CAND_EVENTS_CMD_REJ (n : Nat) : Fld := ⟨0x05021010 + 0x40 * n, 3, 1⟩
def QUAL_CAND_EVENTS_GLITCH (n : Nat) : Fld := ⟨0x05021010 + 0x40 * n, 16, 16⟩
def QUAL_CAND_FREQ_LO (n : Nat) : Fld := ⟨0x05021014 + 0x40 * n, 0, 32⟩
def QUAL_CAND_FREQ_HI (n : Nat) : Fld := ⟨0x05021018 + 0x40 * n, 0, 32⟩
def QUAL_CAND_DRIFT_LO (n : Nat) : Fld := ⟨0x0502101C + 0x40 * n, 0, 32⟩
def QUAL_CAND_DRIFT_HI (n : Nat) : Fld := ⟨0x05021020 + 0x40 * n, 0, 32⟩
def QUAL_CAND_JIT_JIT (n : Nat) : Fld := ⟨0x05021024 + 0x40 * n, 0, 32⟩
def QUAL_CAND_TOFF_LO (n : Nat) : Fld := ⟨0x05021028 + 0x40 * n, 0, 32⟩
def QUAL_CAND_TOFF_HI (n : Nat) : Fld := ⟨0x0502102C + 0x40 * n, 0, 32⟩
def QUAL_CAND_DELAY_DELAY (n : Nat) : Fld := ⟨0x05021030 + 0x40 * n, 0, 32⟩
def QUAL_CAND_TOD_LABEL (n : Nat) : Fld := ⟨0x05021034 + 0x40 * n, 0, 32⟩
def QUAL_CAND_CMD_REOBSERVE (n : Nat) : Fld := ⟨0x05021038 + 0x40 * n, 0, 1⟩
def SEAM_CTL_REVERT : Fld := ⟨0x05030000, 0, 1⟩
def SEAM_CTL_TIME_RETURN : Fld := ⟨0x05030000, 1, 1⟩
def SEAM_CTL_ACQ_ALIGN : Fld := ⟨0x05030000, 2, 1⟩
def SEAM_CTL_FREE : Fld := ⟨0x05030000, 3, 1⟩
def SEAM_STATUS_TS_STATE : Fld := ⟨0x05030004, 0, 3⟩
def SEAM_STATUS_SEL : Fld := ⟨0x05030004, 4, 6⟩
def SEAM_STATUS_PREF : Fld := ⟨0x05030004, 10, 6⟩
def SEAM_STATUS_SEL_PENDING : Fld := ⟨0x05030004, 16, 1⟩
def SEAM_STATUS_PREARMED : Fld := ⟨0x05030004, 17, 1⟩
def SEAM_STATUS_SEAMING : Fld := ⟨0x05030004, 18, 1⟩
def SEAM_STATUS_AUTO_SLEW : Fld := ⟨0x05030004, 19, 1⟩
def SEAM_STATUS_PRESS_BUSY : Fld := ⟨0x05030004, 20, 1⟩
def SEAM_STATUS_LEARNED : Fld := ⟨0x05030004, 21, 1⟩
def SEAM_STATUS_HOLDOVER_UNLEARNED : Fld := ⟨0x05030004, 22, 1⟩
def SEAM_STATUS_TR_WAIT : Fld := ⟨0x05030004, 23, 1⟩
def SEAM_EVENTS_SEAM_DONE : Fld := ⟨0x05030008, 0, 1⟩
def SEAM_EVENTS_HO_ENTER : Fld := ⟨0x05030008, 1, 1⟩
def SEAM_EVENTS_HO_EXIT : Fld := ⟨0x05030008, 2, 1⟩
def SEAM_EVENTS_LOST_ENTER : Fld := ⟨0x05030008, 3, 1⟩
def SEAM_EVENTS_LOCK : Fld := ⟨0x05030008, 4, 1⟩
def SEAM_EVENTS_UNLOCK : Fld := ⟨0x05030008, 5, 1⟩
def SEAM_EVENTS_PRESS_DONE : Fld := ⟨0x05030008, 6, 1⟩
def SEAM_EVENTS_SEL_REJ : Fld := ⟨0x05030008, 7, 1⟩
def SEAM_EVENTS_TR_REPORT : Fld := ⟨0x05030008, 8, 1⟩
def SEAM_EVENTS_SNAP : Fld := ⟨0x05030008, 9, 1⟩
def SEAM_EVENTS_SEAM_ABORT : Fld := ⟨0x05030008, 10, 1⟩
def SEAM_SEL_CMD_CAND : Fld := ⟨0x0503000C, 0, 6⟩
def SEAM_SEL_CMD_SELECT : Fld := ⟨0x0503000C, 6, 1⟩
def SEAM_SEL_CMD_CLEAR_PREF : Fld := ⟨0x0503000C, 7, 1⟩
def SEAM_PREF_INIT_INIT : Fld := ⟨0x05030010, 0, 6⟩
def SEAM_WTR_WTR : Fld := ⟨0x05030014, 0, 16⟩
def SEAM_LOCK_STAGE : Fld := ⟨0x05030018, 0, 3⟩
def SEAM_LOCK_LOCK_S : Fld := ⟨0x05030018, 8, 8⟩
def SEAM_LOCK_UNLOCK_N : Fld := ⟨0x05030018, 16, 4⟩
def SEAM_LOCK_X_LIMIT : Fld := ⟨0x0503001C, 0, 32⟩
def SEAM_UNLOCK_X_LIMIT : Fld := ⟨0x05030020, 0, 32⟩
def SEAM_SLEW_RATE_RATE : Fld := ⟨0x05030024, 0, 24⟩
def SEAM_FEED_LOSS_MS : Fld := ⟨0x05030028, 0, 16⟩
def SEAM_HOLD_LIMIT_LO_LIMIT : Fld := ⟨0x05030030, 0, 32⟩
def SEAM_HOLD_LIMIT_HI_LIMIT : Fld := ⟨0x05030034, 0, 32⟩
def SEAM_STBY_STBY_0 : Fld := ⟨0x05030038, 0, 6⟩
def SEAM_STBY_V0 : Fld := ⟨0x05030038, 6, 1⟩
def SEAM_STBY_STBY_1 : Fld := ⟨0x05030038, 8, 6⟩
def SEAM_STBY_V1 : Fld := ⟨0x05030038, 14, 1⟩
def SEAM_STBY_STBY_2 : Fld := ⟨0x05030038, 16, 6⟩
def SEAM_STBY_V2 : Fld := ⟨0x05030038, 22, 1⟩
def SEAM_STBY_FALLBACK : Fld := ⟨0x05030038, 24, 6⟩
def SEAM_TR_CAND_CAND : Fld := ⟨0x0503003C, 0, 6⟩
def SEAM_TR_OFFSET_LO : Fld := ⟨0x05030040, 0, 32⟩
def SEAM_TR_OFFSET_HI : Fld := ⟨0x05030044, 0, 32⟩
def SEAM_BUILDOUT_LO : Fld := ⟨0x05030048, 0, 32⟩
def SEAM_BUILDOUT_HI : Fld := ⟨0x0503004C, 0, 32⟩
def SEAM_SLEW_REM_LO : Fld := ⟨0x05030050, 0, 32⟩
def SEAM_SLEW_REM_HI : Fld := ⟨0x05030054, 0, 32⟩
def SEAM_UOSC_LO : Fld := ⟨0x05030058, 0, 32⟩
def SEAM_UOSC_HI : Fld := ⟨0x0503005C, 0, 32⟩
def SEAM_UNC_LO : Fld := ⟨0x05030060, 0, 32⟩
def SEAM_UNC_HI : Fld := ⟨0x05030064, 0, 32⟩
def SEAM_HO_S0_LO : Fld := ⟨0x05030068, 0, 32⟩
def SEAM_HO_S0_HI : Fld := ⟨0x0503006C, 0, 32⟩
def SEAM_HO_AGING_LO : Fld := ⟨0x05030070, 0, 32⟩
def SEAM_HO_AGING_HI : Fld := ⟨0x05030074, 0, 32⟩
def SEAM_HO_UF_LO : Fld := ⟨0x05030080, 0, 32⟩
def SEAM_HO_UF_HI : Fld := ⟨0x05030084, 0, 32⟩
def SEAM_HO_TEMPCO : Fld := ⟨0x05030078, 0, 32⟩
def SEAM_HO_T0 : Fld := ⟨0x0503007C, 0, 32⟩
def SEAM_HO_UA : Fld := ⟨0x05030088, 0, 32⟩
def SEAM_HO_UT : Fld := ⟨0x0503008C, 0, 32⟩
def SEAM_SNAP_SEQ : Fld := ⟨0x050300A0, 0, 32⟩
def SEAM_SUB_TEMP : Fld := ⟨0x050300A8, 0, 32⟩
def SEAM_HO_CFG_WIN_S : Fld := ⟨0x05030090, 0, 16⟩
def SEAM_HO_CFG_GUARD_S : Fld := ⟨0x05030090, 16, 8⟩
def SEAM_HO_MIN_COMPLETE_S : Fld := ⟨0x05030094, 0, 16⟩
def SEAM_HO_RETRACE_RETRACE : Fld := ⟨0x05030098, 0, 32⟩
def SEAM_HO_LEARN_WIN_N : Fld := ⟨0x0503009C, 0, 16⟩
def SEAM_HO_LEARN_DAYS : Fld := ⟨0x0503009C, 16, 8⟩
def SEAM_SNAP_PERIOD_PERIOD : Fld := ⟨0x050300A4, 0, 16⟩
def SEAM_PRESS_AMT_LO : Fld := ⟨0x05030100, 0, 32⟩
def SEAM_PRESS_AMT_HI : Fld := ⟨0x05030104, 0, 32⟩
def SEAM_PRESS_AT_LO : Fld := ⟨0x05030108, 0, 32⟩
def SEAM_PRESS_AT_HI : Fld := ⟨0x0503010C, 0, 16⟩
def SEAM_PRESS_CMD_FORM : Fld := ⟨0x05030110, 0, 2⟩
def SEAM_PRESS_CMD_ALIGN : Fld := ⟨0x05030110, 2, 1⟩
def SEAM_PRESS_CMD_ALIGN_MASK : Fld := ⟨0x05030110, 3, 8⟩
def SEAM_PRESS_CMD_TARGET : Fld := ⟨0x05030110, 11, 6⟩
def SEAM_PRESS_CMD_GO : Fld := ⟨0x05030110, 31, 1⟩
def SEAM_PRESS_STATUS_RESULT : Fld := ⟨0x05030114, 0, 3⟩
def SEAM_PRESS_STATUS_SEQ : Fld := ⟨0x05030114, 8, 8⟩
def SEAM_RANK_RANK (n : Nat) : Fld := ⟨0x05030200 + 0x4 * n, 0, 4⟩
def SEAM_RANK_ELIG (n : Nat) : Fld := ⟨0x05030200 + 0x4 * n, 4, 1⟩
def SEAM_SNAP_WORD (n : Nat) : Fld := ⟨0x05030400 + 0x4 * n, 0, 32⟩
def SYN_SERDES_DIV_DIV : Fld := ⟨0x05040000, 0, 8⟩
def SYN_DIE_TEMP_TEMP : Fld := ⟨0x05040004, 0, 32⟩
def SYN_PLL_CFG_N (n : Nat) : Fld := ⟨0x05040100 + 0x40 * n, 0, 8⟩
def SYN_PLL_CFG_ICP (n : Nat) : Fld := ⟨0x05040100 + 0x40 * n, 8, 5⟩
def SYN_PLL_CFG_FILT (n : Nat) : Fld := ⟨0x05040100 + 0x40 * n, 13, 3⟩
def SYN_PLL_CFG_LD_K (n : Nat) : Fld := ⟨0x05040100 + 0x40 * n, 16, 5⟩
def SYN_PLL_CFG_LD_M (n : Nat) : Fld := ⟨0x05040100 + 0x40 * n, 21, 4⟩
def SYN_PLL_CFG_LD_TH (n : Nat) : Fld := ⟨0x05040100 + 0x40 * n, 25, 4⟩
def SYN_PLL_CFG_BOOT (n : Nat) : Fld := ⟨0x05040100 + 0x40 * n, 29, 1⟩
def SYN_PLL_CMD_START (n : Nat) : Fld := ⟨0x05040104 + 0x40 * n, 0, 1⟩
def SYN_PLL_CMD_STOP (n : Nat) : Fld := ⟨0x05040104 + 0x40 * n, 1, 1⟩
def SYN_PLL_CMD_HANDOVER (n : Nat) : Fld := ⟨0x05040104 + 0x40 * n, 2, 1⟩
def SYN_PLL_CMD_HANDBACK (n : Nat) : Fld := ⟨0x05040104 + 0x40 * n, 3, 1⟩
def SYN_PLL_CMD_ROT_CLR (n : Nat) : Fld := ⟨0x05040104 + 0x40 * n, 4, 1⟩
def SYN_PLL_STATUS_STATE (n : Nat) : Fld := ⟨0x05040108 + 0x40 * n, 0, 3⟩
def SYN_PLL_STATUS_ROT_CLAMP (n : Nat) : Fld := ⟨0x05040108 + 0x40 * n, 3, 1⟩
def SYN_PLL_STATUS_BAND_STALE (n : Nat) : Fld := ⟨0x05040108 + 0x40 * n, 4, 1⟩
def SYN_PLL_STATUS_ENTRY (n : Nat) : Fld := ⟨0x05040108 + 0x40 * n, 8, 6⟩
def SYN_PLL_STATUS_BAND (n : Nat) : Fld := ⟨0x05040108 + 0x40 * n, 16, 8⟩
def SYN_PLL_EVENTS_LOCK (n : Nat) : Fld := ⟨0x0504010C + 0x40 * n, 0, 1⟩
def SYN_PLL_EVENTS_UNLOCK (n : Nat) : Fld := ⟨0x0504010C + 0x40 * n, 1, 1⟩
def SYN_PLL_EVENTS_BAND_MISS (n : Nat) : Fld := ⟨0x0504010C + 0x40 * n, 2, 1⟩
def SYN_PLL_EVENTS_PLAN_REJ (n : Nat) : Fld := ⟨0x0504010C + 0x40 * n, 3, 1⟩
def SYN_PLL_EVENTS_CMD_REJ (n : Nat) : Fld := ⟨0x0504010C + 0x40 * n, 4, 1⟩
def SYN_PLL_EVENTS_HANDOVER_DONE (n : Nat) : Fld := ⟨0x0504010C + 0x40 * n, 5, 1⟩
def SYN_PLL_EVENTS_UNLOCK_N (n : Nat) : Fld := ⟨0x0504010C + 0x40 * n, 16, 16⟩
def SYN_DOMAIN_SRC (n : Nat) : Fld := ⟨0x05040110 + 0x40 * n, 0, 2⟩
def SYN_DOMAIN_GATED (n : Nat) : Fld := ⟨0x05040110 + 0x40 * n, 2, 1⟩
def SYN_DOMAIN_STANDIN (n : Nat) : Fld := ⟨0x05040110 + 0x40 * n, 4, 2⟩
def SYN_DOMAIN_AUTO (n : Nat) : Fld := ⟨0x05040110 + 0x40 * n, 6, 1⟩
def SYN_DOMAIN_AUTO_RETURN (n : Nat) : Fld := ⟨0x05040110 + 0x40 * n, 7, 1⟩
def SYN_LD_DELTA_DELTA (n : Nat) : Fld := ⟨0x05040114 + 0x40 * n, 0, 16⟩
def SYN_ROT_FREQ_LO (n : Nat) : Fld := ⟨0x05040118 + 0x40 * n, 0, 32⟩
def SYN_ROT_FREQ_HI (n : Nat) : Fld := ⟨0x0504011C + 0x40 * n, 0, 32⟩
def SYN_ROT_RPH_LO (n : Nat) : Fld := ⟨0x05040120 + 0x40 * n, 0, 32⟩
def SYN_ROT_RPH_HI (n : Nat) : Fld := ⟨0x05040124 + 0x40 * n, 0, 32⟩
def SYN_RAMP_CTL_END (n : Nat) : Fld := ⟨0x05042800 + 0x800 * (n - 1), 0, 2⟩
def SYN_RAMP_CTL_START_MODE (n : Nat) : Fld := ⟨0x05042800 + 0x800 * (n - 1), 2, 1⟩
def SYN_RAMP_CMD_GO (n : Nat) : Fld := ⟨0x05042804 + 0x800 * (n - 1), 0, 1⟩
def SYN_RAMP_CMD_ABORT (n : Nat) : Fld := ⟨0x05042804 + 0x800 * (n - 1), 1, 1⟩
def SYN_RAMP_STATUS_RESULT (n : Nat) : Fld := ⟨0x05042808 + 0x800 * (n - 1), 0, 3⟩
def SYN_RAMP_STATUS_SEG (n : Nat) : Fld := ⟨0x05042808 + 0x800 * (n - 1), 8, 6⟩
def SYN_RAMP_STATUS_HT_REJ (n : Nat) : Fld := ⟨0x05042808 + 0x800 * (n - 1), 16, 1⟩
def OUT_SYNC_CTL_PIN_EN : Fld := ⟨0x05050000, 0, 1⟩
def OUT_SYNC_MASK_MASK : Fld := ⟨0x05050004, 0, 24⟩
def OUT_SYNC_CMD_GO : Fld := ⟨0x05050014, 0, 1⟩
def OUT_SYNC_STATUS_RESULT : Fld := ⟨0x05050018, 0, 3⟩
def OUT_SYNC_STATUS_HT_REJ : Fld := ⟨0x05050018, 3, 1⟩
def OUT_SYNC_STATUS_PIN_IGN : Fld := ⟨0x05050018, 8, 8⟩
def OUT_SYNC_STATUS_SEQ : Fld := ⟨0x05050018, 16, 8⟩
def OUT_CFG_EN (n : Nat) : Fld := ⟨0x05050100 + 0x20 * n, 0, 1⟩
def OUT_CFG_STD (n : Nat) : Fld := ⟨0x05050100 + 0x20 * n, 1, 3⟩
def OUT_DIV_D (n : Nat) : Fld := ⟨0x05050104 + 0x20 * n, 0, 13⟩
def OUT_DIV_BYP_D (n : Nat) : Fld := ⟨0x05050104 + 0x20 * n, 16, 13⟩
def OUT_TRIM_TRIM (n : Nat) : Fld := ⟨0x05050108 + 0x20 * n, 0, 12⟩
def OUT_TRIM_TRIM_NOW (n : Nat) : Fld := ⟨0x05050108 + 0x20 * n, 16, 12⟩
def OUT_STATUS_GATED (n : Nat) : Fld := ⟨0x0505010C + 0x20 * n, 0, 1⟩
def OUT_STATUS_BYPASS (n : Nat) : Fld := ⟨0x0505010C + 0x20 * n, 1, 1⟩
def OUT_STATUS_PHASE_LOST (n : Nat) : Fld := ⟨0x0505010C + 0x20 * n, 2, 1⟩
def OUT_STATUS_STD_REJ (n : Nat) : Fld := ⟨0x0505010C + 0x20 * n, 3, 1⟩
def OUT_STATUS_TRIM_BUSY (n : Nat) : Fld := ⟨0x0505010C + 0x20 * n, 4, 1⟩
def PPS_CFG_EN (n : Nat) : Fld := ⟨0x05050800 + 0x40 * n, 0, 1⟩
def PPS_CFG_MODE (n : Nat) : Fld := ⟨0x05050800 + 0x40 * n, 1, 2⟩
def PPS_CFG_STD (n : Nat) : Fld := ⟨0x05050800 + 0x40 * n, 3, 2⟩
def PPS_CFG_POL (n : Nat) : Fld := ⟨0x05050800 + 0x40 * n, 5, 1⟩
def PPS_CFG_IRIG_CODE (n : Nat) : Fld := ⟨0x05050800 + 0x40 * n, 6, 3⟩
def PPS_CFG_IRIG_TS (n : Nat) : Fld := ⟨0x05050800 + 0x40 * n, 9, 1⟩
def PPS_CFG_NPPS (n : Nat) : Fld := ⟨0x05050800 + 0x40 * n, 10, 10⟩
def PPS_WIDTH_WIDTH (n : Nat) : Fld := ⟨0x05050804 + 0x40 * n, 0, 30⟩
def PPS_OFFSET_LO (n : Nat) : Fld := ⟨0x05050808 + 0x40 * n, 0, 32⟩
def PPS_OFFSET_HI (n : Nat) : Fld := ⟨0x0505080C + 0x40 * n, 0, 32⟩
def PPS_STANDOFF_LO (n : Nat) : Fld := ⟨0x05050810 + 0x40 * n, 0, 32⟩
def PPS_STANDOFF_HI (n : Nat) : Fld := ⟨0x05050814 + 0x40 * n, 0, 32⟩
def PPS_FR_START_0 (n : Nat) : Fld := ⟨0x05050818 + 0x40 * n, 0, 32⟩
def PPS_FR_START_1 (n : Nat) : Fld := ⟨0x0505081C + 0x40 * n, 0, 32⟩
def PPS_FR_START_2 (n : Nat) : Fld := ⟨0x05050820 + 0x40 * n, 0, 32⟩
def PPS_FR_PER_NS (n : Nat) : Fld := ⟨0x05050824 + 0x40 * n, 0, 32⟩
def PPS_FR_PER_FU (n : Nat) : Fld := ⟨0x05050828 + 0x40 * n, 0, 16⟩
def PPS_FR_COUNT (n : Nat) : Fld := ⟨0x0505082C + 0x40 * n, 0, 32⟩
def PPS_IRIG_CF (n : Nat) : Fld := ⟨0x05050830 + 0x40 * n, 0, 27⟩
def PPS_STATUS_RUNNING (n : Nat) : Fld := ⟨0x05050834 + 0x40 * n, 0, 1⟩
def PPS_STATUS_FR_DONE (n : Nat) : Fld := ⟨0x05050834 + 0x40 * n, 8, 1⟩
def PPS_STATUS_CFG_REJ (n : Nat) : Fld := ⟨0x05050834 + 0x40 * n, 9, 1⟩
def PPS_STATUS_HT_REJ (n : Nat) : Fld := ⟨0x05050834 + 0x40 * n, 10, 1⟩
def PPS_CMD_FR_ARM (n : Nat) : Fld := ⟨0x05050838 + 0x40 * n, 0, 1⟩
def PPS_CMD_FR_STOP (n : Nat) : Fld := ⟨0x05050838 + 0x40 * n, 1, 1⟩
def TDC_STATUS_SOAK : Fld := ⟨0x05060000, 0, 1⟩
def TDC_STATUS_CAL_BUSY : Fld := ⟨0x05060000, 1, 1⟩
def TDC_STATUS_SPARE_FREE : Fld := ⟨0x05060000, 8, 4⟩
def TDC_EVENTS_SOAK_CLR : Fld := ⟨0x05060004, 0, 1⟩
def TDC_EVENTS_SOAK_SET : Fld := ⟨0x05060004, 1, 1⟩
def TDC_EVENTS_OVEN_SLOW : Fld := ⟨0x05060004, 2, 1⟩
def TDC_EVENTS_CAL_END : Fld := ⟨0x05060004, 3, 1⟩
def TDC_EVENTS_REPLACED : Fld := ⟨0x05060004, 4, 1⟩
def TDC_EVENTS_NO_SPARE_FENCE : Fld := ⟨0x05060004, 5, 1⟩
def TDC_CAL_CFG_AUTO_DT : Fld := ⟨0x05060008, 0, 8⟩
def TDC_CAL_CFG_SOAK_CAL : Fld := ⟨0x05060008, 8, 1⟩
def TDC_CAL_CFG_AUTO_REPLACE : Fld := ⟨0x05060008, 9, 1⟩
def TDC_CAL_CFG_RESERVE : Fld := ⟨0x05060008, 12, 2⟩
def TDC_CAL_CFG_TOL : Fld := ⟨0x05060008, 16, 16⟩
def TDC_CAL_CMD_CH : Fld := ⟨0x0506000C, 0, 7⟩
def TDC_CAL_CMD_GO : Fld := ⟨0x0506000C, 31, 1⟩
def TDC_CAL_STATUS_RESULT : Fld := ⟨0x05060010, 0, 4⟩
def TDC_CAL_STATUS_UNCHECKED : Fld := ⟨0x05060010, 4, 1⟩
def TDC_CAL_STATUS_CH : Fld := ⟨0x05060010, 8, 7⟩
def TDC_CAL_STATUS_SEQ : Fld := ⟨0x05060010, 16, 8⟩
def TDC_OVEN_TEMP_TEMP : Fld := ⟨0x05060020, 0, 32⟩
def TDC_OVEN_HEAT_MW : Fld := ⟨0x05060024, 0, 16⟩
def TDC_OVEN_SETTLE_SECONDS : Fld := ⟨0x05060028, 0, 16⟩
def TDC_SPARE_TARGET (n : Nat) : Fld := ⟨0x05060040 + 0x4 * n, 0, 7⟩
def TDC_SPARE_USE (n : Nat) : Fld := ⟨0x05060040 + 0x4 * n, 8, 2⟩
def TDC_CH_CFG_EN (n : Nat) : Fld := ⟨0x05061000 + 0x20 * n, 0, 1⟩
def TDC_CH_CFG_EDGE (n : Nat) : Fld := ⟨0x05061000 + 0x20 * n, 1, 2⟩
def TDC_CH_CFG_RING_EN (n : Nat) : Fld := ⟨0x05061000 + 0x20 * n, 3, 1⟩
def TDC_CH_CFG_IN_MODE (n : Nat) : Fld := ⟨0x05061000 + 0x20 * n, 4, 2⟩
def TDC_CH_CFG_MON_OUT (n : Nat) : Fld := ⟨0x05061000 + 0x20 * n, 8, 5⟩
def TDC_CH_DEC_D (n : Nat) : Fld := ⟨0x05061004 + 0x20 * n, 0, 25⟩
def TDC_CH_DELAY_DELAY (n : Nat) : Fld := ⟨0x05061008 + 0x20 * n, 0, 32⟩
def TDC_CH_STATUS_LEVEL (n : Nat) : Fld := ⟨0x0506100C + 0x20 * n, 0, 7⟩
def TDC_CH_STATUS_SUBST (n : Nat) : Fld := ⟨0x0506100C + 0x20 * n, 8, 1⟩
def TDC_CH_STATUS_SPARE (n : Nat) : Fld := ⟨0x0506100C + 0x20 * n, 9, 2⟩
def TDC_CH_STATUS_FENCED (n : Nat) : Fld := ⟨0x0506100C + 0x20 * n, 11, 1⟩
def TDC_CH_STATUS_CAL_DUE (n : Nat) : Fld := ⟨0x0506100C + 0x20 * n, 12, 1⟩
def TDC_CH_STATUS_SEQ (n : Nat) : Fld := ⟨0x0506100C + 0x20 * n, 16, 16⟩
def TDC_CH_EVENTS_HIWAT (n : Nat) : Fld := ⟨0x05061010 + 0x20 * n, 0, 1⟩
def TDC_CH_EVENTS_DROP_SET (n : Nat) : Fld := ⟨0x05061010 + 0x20 * n, 1, 1⟩
def TDC_CH_EVENTS_MISSED_SET (n : Nat) : Fld := ⟨0x05061010 + 0x20 * n, 2, 1⟩
def TDC_CH_EVENTS_CFG_REJ (n : Nat) : Fld := ⟨0x05061010 + 0x20 * n, 3, 1⟩
def TDC_CH_MISSED_COUNT (n : Nat) : Fld := ⟨0x05061014 + 0x20 * n, 0, 32⟩
def TDC_CH_DROP_COUNT (n : Nat) : Fld := ⟨0x05061018 + 0x20 * n, 0, 32⟩
def TDC_CH_CAL_CAL_TEMP (n : Nat) : Fld := ⟨0x0506101C + 0x20 * n, 0, 16⟩
def TDC_CH_CAL_INL (n : Nat) : Fld := ⟨0x0506101C + 0x20 * n, 16, 8⟩
def LNK_CFG_EN (n : Nat) : Fld := ⟨0x05080000 + 0x1000 * n, 0, 1⟩
def LNK_CFG_RATE (n : Nat) : Fld := ⟨0x05080000 + 0x1000 * n, 1, 2⟩
def LNK_CFG_FEC (n : Nat) : Fld := ⟨0x05080000 + 0x1000 * n, 3, 2⟩
def LNK_CFG_AN (n : Nat) : Fld := ⟨0x05080000 + 0x1000 * n, 5, 1⟩
def LNK_CFG_OTHER_EN (n : Nat) : Fld := ⟨0x05080000 + 0x1000 * n, 6, 1⟩
def LNK_CFG_ACCEPT (n : Nat) : Fld := ⟨0x05080000 + 0x1000 * n, 7, 2⟩
def LNK_CFG_ESMC_TX (n : Nat) : Fld := ⟨0x05080000 + 0x1000 * n, 9, 1⟩
def LNK_CFG_ESMC_RX (n : Nat) : Fld := ⟨0x05080000 + 0x1000 * n, 10, 1⟩
def LNK_CFG_FENCE_TXDIS (n : Nat) : Fld := ⟨0x05080000 + 0x1000 * n, 11, 1⟩
def LNK_CMD_PC_ARM (n : Nat) : Fld := ⟨0x05080004 + 0x1000 * n, 0, 1⟩
def LNK_CMD_PC_STOP (n : Nat) : Fld := ⟨0x05080004 + 0x1000 * n, 1, 1⟩
def LNK_CMD_READMIT (n : Nat) : Fld := ⟨0x05080004 + 0x1000 * n, 2, 1⟩
def LNK_STATUS_STATE (n : Nat) : Fld := ⟨0x05080008 + 0x1000 * n, 0, 3⟩
def LNK_STATUS_MOD_ABS (n : Nat) : Fld := ⟨0x05080008 + 0x1000 * n, 3, 1⟩
def LNK_STATUS_MOD_LOS (n : Nat) : Fld := ⟨0x05080008 + 0x1000 * n, 4, 1⟩
def LNK_STATUS_MOD_TX_FAULT (n : Nat) : Fld := ⟨0x05080008 + 0x1000 * n, 5, 1⟩
def LNK_STATUS_CDR_LOCK (n : Nat) : Fld := ⟨0x05080008 + 0x1000 * n, 6, 1⟩
def LNK_STATUS_PHASE_LOST (n : Nat) : Fld := ⟨0x05080008 + 0x1000 * n, 7, 1⟩
def LNK_STATUS_PC_RUN (n : Nat) : Fld := ⟨0x05080008 + 0x1000 * n, 8, 1⟩
def LNK_STATUS_PC_CLAMP (n : Nat) : Fld := ⟨0x05080008 + 0x1000 * n, 9, 1⟩
def LNK_STATUS_TX_COHERENT (n : Nat) : Fld := ⟨0x05080008 + 0x1000 * n, 10, 1⟩
def LNK_STATUS_RX_COHERENT (n : Nat) : Fld := ⟨0x05080008 + 0x1000 * n, 11, 1⟩
def LNK_STATUS_AN_DONE (n : Nat) : Fld := ⟨0x05080008 + 0x1000 * n, 12, 1⟩
def LNK_EVENTS_UP (n : Nat) : Fld := ⟨0x0508000C + 0x1000 * n, 0, 1⟩
def LNK_EVENTS_DOWN (n : Nat) : Fld := ⟨0x0508000C + 0x1000 * n, 1, 1⟩
def LNK_EVENTS_FENCE (n : Nat) : Fld := ⟨0x0508000C + 0x1000 * n, 2, 1⟩
def LNK_EVENTS_PHASE_LOST_SET (n : Nat) : Fld := ⟨0x0508000C + 0x1000 * n, 3, 1⟩
def LNK_EVENTS_PC_CLAMP_SET (n : Nat) : Fld := ⟨0x0508000C + 0x1000 * n, 4, 1⟩
def LNK_EVENTS_QL_CHG (n : Nat) : Fld := ⟨0x0508000C + 0x1000 * n, 5, 1⟩
def LNK_EVENTS_QL_TIMEOUT (n : Nat) : Fld := ⟨0x0508000C + 0x1000 * n, 6, 1⟩
def LNK_EVENTS_CFG_REJ (n : Nat) : Fld := ⟨0x0508000C + 0x1000 * n, 7, 1⟩
def LNK_EVENTS_LATE_SET (n : Nat) : Fld := ⟨0x0508000C + 0x1000 * n, 8, 1⟩
def LNK_EVENTS_ACCEPT_DROP (n : Nat) : Fld := ⟨0x0508000C + 0x1000 * n, 9, 1⟩
def LNK_PTP_FILT_DOMAIN (n : Nat) : Fld := ⟨0x05080010 + 0x1000 * n, 0, 8⟩
def LNK_PTP_FILT_DOM_ANY (n : Nat) : Fld := ⟨0x05080010 + 0x1000 * n, 8, 1⟩
def LNK_PTP_FILT_SDO_ANY (n : Nat) : Fld := ⟨0x05080010 + 0x1000 * n, 9, 1⟩
def LNK_PTP_FILT_SDOID (n : Nat) : Fld := ⟨0x05080010 + 0x1000 * n, 12, 12⟩
def LNK_LATE_TOL_TOL (n : Nat) : Fld := ⟨0x05080014 + 0x1000 * n, 0, 16⟩
def LNK_MAC_LO_MAC_LO (n : Nat) : Fld := ⟨0x05080018 + 0x1000 * n, 0, 32⟩
def LNK_MAC_HI_MAC_HI (n : Nat) : Fld := ⟨0x0508001C + 0x1000 * n, 0, 16⟩
def LNK_QL_RX_QL (n : Nat) : Fld := ⟨0x05080020 + 0x1000 * n, 0, 4⟩
def LNK_QL_RX_VALID (n : Nat) : Fld := ⟨0x05080020 + 0x1000 * n, 4, 1⟩
def LNK_QL_RX_EXT (n : Nat) : Fld := ⟨0x05080020 + 0x1000 * n, 5, 1⟩
def LNK_PC_SPLIT_K (n : Nat) : Fld := ⟨0x05080024 + 0x1000 * n, 0, 32⟩
def LNK_PC_TAU_TAU (n : Nat) : Fld := ⟨0x05080028 + 0x1000 * n, 0, 10⟩
def LNK_TRIM_TRIM (n : Nat) : Fld := ⟨0x0508002C + 0x1000 * n, 0, 24⟩
def LNK_PHASE_LO (n : Nat) : Fld := ⟨0x05080030 + 0x1000 * n, 0, 32⟩
def LNK_PHASE_HI (n : Nat) : Fld := ⟨0x05080034 + 0x1000 * n, 0, 32⟩
def LNK_RTPH_LO (n : Nat) : Fld := ⟨0x05080038 + 0x1000 * n, 0, 32⟩
def LNK_RTPH_HI (n : Nat) : Fld := ⟨0x0508003C + 0x1000 * n, 0, 32⟩
def LNK_RTPH0_LO (n : Nat) : Fld := ⟨0x05080040 + 0x1000 * n, 0, 32⟩
def LNK_RTPH0_HI (n : Nat) : Fld := ⟨0x05080044 + 0x1000 * n, 0, 32⟩
def LNK_RX_OK (n : Nat) : Fld := ⟨0x05080080 + 0x1000 * n, 0, 32⟩
def LNK_RX_FILTERED (n : Nat) : Fld := ⟨0x05080084 + 0x1000 * n, 0, 32⟩
def LNK_RX_ERR (n : Nat) : Fld := ⟨0x05080088 + 0x1000 * n, 0, 32⟩
def LNK_RX_OVF (n : Nat) : Fld := ⟨0x0508008C + 0x1000 * n, 0, 32⟩
def LNK_RX_FENCED (n : Nat) : Fld := ⟨0x05080090 + 0x1000 * n, 0, 32⟩
def LNK_TX_SENT (n : Nat) : Fld := ⟨0x05080094 + 0x1000 * n, 0, 32⟩
def LNK_TX_LATE (n : Nat) : Fld := ⟨0x05080098 + 0x1000 * n, 0, 32⟩
def LNK_TX_OTHER (n : Nat) : Fld := ⟨0x0508009C + 0x1000 * n, 0, 32⟩
def LNK_QUAL_W0_CLASS (n : Nat) (j : Nat) : Fld := ⟨0x05080100 + 0x1000 * n + 0x8 * j, 0, 8⟩
def LNK_QUAL_W0_ACC (n : Nat) (j : Nat) : Fld := ⟨0x05080100 + 0x1000 * n + 0x8 * j, 8, 8⟩
def LNK_QUAL_W0_VAR (n : Nat) (j : Nat) : Fld := ⟨0x05080100 + 0x1000 * n + 0x8 * j, 16, 16⟩
def LNK_QUAL_W1_QL (n : Nat) (j : Nat) : Fld := ⟨0x05080104 + 0x1000 * n + 0x8 * j, 0, 4⟩
def LNK_QUAL_W1_FOLLOW (n : Nat) (j : Nat) : Fld := ⟨0x05080104 + 0x1000 * n + 0x8 * j, 4, 1⟩
def LNK_ACC_W0_ID_LO (n : Nat) (j : Nat) : Fld := ⟨0x05080400 + 0x1000 * n + 0x10 * j, 0, 32⟩
def LNK_ACC_W1_ID_HI (n : Nat) (j : Nat) : Fld := ⟨0x05080404 + 0x1000 * n + 0x10 * j, 0, 32⟩
def LNK_ACC_W2_PORT (n : Nat) (j : Nat) : Fld := ⟨0x05080408 + 0x1000 * n + 0x10 * j, 0, 16⟩
def LNK_ACC_W2_V (n : Nat) (j : Nat) : Fld := ⟨0x05080408 + 0x1000 * n + 0x10 * j, 16, 1⟩
def LNK_ACC_W2_ANY_PORT (n : Nat) (j : Nat) : Fld := ⟨0x05080408 + 0x1000 * n + 0x10 * j, 17, 1⟩
def EPD_CFG_DEAD_K : Fld := ⟨0x050A0000, 0, 8⟩
def EPD_CFG_JOIN_N : Fld := ⟨0x050A0000, 8, 4⟩
def EPD_CFG_SILENT_ALARM : Fld := ⟨0x050A0000, 12, 1⟩
def EPD_DIR_SALT_SALT : Fld := ⟨0x050A0004, 0, 32⟩
def EPD_DIR_STATUS_COUNT : Fld := ⟨0x050A0008, 0, 18⟩
def EPD_DIR_STATUS_CMD_BUSY : Fld := ⟨0x050A0008, 18, 1⟩
def EPD_DIR_EVENTS_FULL_SET : Fld := ⟨0x050A000C, 0, 1⟩
def EPD_DIR_EVENTS_WDROP_SET : Fld := ⟨0x050A000C, 1, 1⟩
def EPD_DIR_EVENTS_CMD_REJ : Fld := ⟨0x050A000C, 2, 1⟩
def EPD_DIR_WDROP_COUNT : Fld := ⟨0x050A0010, 0, 32⟩
def EPD_LOOKUP_MISS_COUNT : Fld := ⟨0x050A0014, 0, 32⟩
def EPD_LOOKUP_HIT_COUNT : Fld := ⟨0x050A0018, 0, 32⟩
def EPD_KEY_0_ID (n : Nat) : Fld := ⟨0x050A0100 + 0x20 * n, 0, 32⟩
def EPD_KEY_1_ID (n : Nat) : Fld := ⟨0x050A0104 + 0x20 * n, 0, 32⟩
def EPD_KEY_2_PORT (n : Nat) : Fld := ⟨0x050A0108 + 0x20 * n, 0, 16⟩
def EPD_KEY_2_LINK (n : Nat) : Fld := ⟨0x050A0108 + 0x20 * n, 16, 5⟩
def EPD_IDX_INDEX (n : Nat) : Fld := ⟨0x050A010C + 0x20 * n, 0, 17⟩
def EPD_CMD_OP (n : Nat) : Fld := ⟨0x050A0110 + 0x20 * n, 0, 2⟩
def EPD_CMD_GO (n : Nat) : Fld := ⟨0x050A0110 + 0x20 * n, 31, 1⟩
def EPD_RESULT_RESULT (n : Nat) : Fld := ⟨0x050A0114 + 0x20 * n, 0, 3⟩
def EPD_RESULT_BUSY (n : Nat) : Fld := ⟨0x050A0114 + 0x20 * n, 3, 1⟩
def EPD_RESULT_SEQ (n : Nat) : Fld := ⟨0x050A0114 + 0x20 * n, 8, 8⟩
def EPD_RIDX_INDEX (n : Nat) : Fld := ⟨0x050A0118 + 0x20 * n, 0, 17⟩
def EPD_RIDX_HIT (n : Nat) : Fld := ⟨0x050A0118 + 0x20 * n, 17, 1⟩
def ENG_STATUS_RUNNING : Fld := ⟨0x050B0000, 0, 8⟩
def ENG_STATUS_FENCED : Fld := ⟨0x050B0000, 8, 8⟩
def ENG_STATUS_PARKED : Fld := ⟨0x050B0000, 16, 8⟩
def ENGC_EVENTS_ROLE_UNHELD : Fld := ⟨0x050B0004, 0, 1⟩
def ENGC_EVENTS_CMD_REJ : Fld := ⟨0x050B0004, 1, 1⟩
def ENG_ROLE_CMD_ROLE : Fld := ⟨0x050B0010, 0, 6⟩
def ENG_ROLE_CMD_TO : Fld := ⟨0x050B0010, 8, 3⟩
def ENG_ROLE_CMD_GO : Fld := ⟨0x050B0010, 31, 1⟩
def ENG_ROLE_RESULT_RESULT : Fld := ⟨0x050B0014, 0, 3⟩
def ENG_ROLE_RESULT_SEQ : Fld := ⟨0x050B0014, 8, 8⟩
def ENG_ROLE_HOLDER (n : Nat) : Fld := ⟨0x050B0100 + 0x8 * n, 0, 4⟩
def ENG_ROLE_EPOCH (n : Nat) : Fld := ⟨0x050B0100 + 0x8 * n, 8, 8⟩
def ENG_ROLE_DEFINED (n : Nat) : Fld := ⟨0x050B0100 + 0x8 * n, 16, 1⟩
def ENG_ROLE_PLAN_P0 (n : Nat) : Fld := ⟨0x050B0104 + 0x8 * n, 0, 4⟩
def ENG_ROLE_PLAN_P1 (n : Nat) : Fld := ⟨0x050B0104 + 0x8 * n, 4, 4⟩
def ENG_ROLE_PLAN_P2 (n : Nat) : Fld := ⟨0x050B0104 + 0x8 * n, 8, 4⟩
def ENG_CFG_BOOT_RUN (n : Nat) : Fld := ⟨0x050B1000 + 0x100 * n, 0, 1⟩
def ENG_CMD_RUN (n : Nat) : Fld := ⟨0x050B1004 + 0x100 * n, 0, 1⟩
def ENG_CMD_PARK (n : Nat) : Fld := ⟨0x050B1004 + 0x100 * n, 1, 1⟩
def ENG_CMD_MOVE (n : Nat) : Fld := ⟨0x050B1004 + 0x100 * n, 2, 1⟩
def ENG_STATE_STATE (n : Nat) : Fld := ⟨0x050B1008 + 0x100 * n, 0, 3⟩
def ENG_STATE_INFLIGHT (n : Nat) : Fld := ⟨0x050B1008 + 0x100 * n, 8, 5⟩
def ENG_EVENTS_HB_MISS (n : Nat) : Fld := ⟨0x050B100C + 0x100 * n, 0, 1⟩
def ENG_EVENTS_FENCE (n : Nat) : Fld := ⟨0x050B100C + 0x100 * n, 1, 1⟩
def ENG_EVENTS_CMD_REJ (n : Nat) : Fld := ⟨0x050B100C + 0x100 * n, 2, 1⟩
def ENG_EVENTS_LINT_SET (n : Nat) : Fld := ⟨0x050B100C + 0x100 * n, 3, 1⟩
def ENG_EVENTS_IB_WDROP_SET (n : Nat) : Fld := ⟨0x050B100C + 0x100 * n, 4, 1⟩
def ENG_HB_IVL_IVL (n : Nat) : Fld := ⟨0x050B1010 + 0x100 * n, 0, 16⟩
def ENG_HB_AGE_AGE (n : Nat) : Fld := ⟨0x050B1014 + 0x100 * n, 0, 32⟩
def ENG_FENCE_VEC_VEC (n : Nat) : Fld := ⟨0x050B1018 + 0x100 * n, 0, 18⟩
def ENG_LINT_BANK (n : Nat) : Fld := ⟨0x050B101C + 0x100 * n, 0, 8⟩
def ENG_LINT_RING (n : Nat) : Fld := ⟨0x050B101C + 0x100 * n, 8, 8⟩
def ENG_LINT_MBOX (n : Nat) : Fld := ⟨0x050B101C + 0x100 * n, 16, 8⟩
def ENG_LINT_LAUNCH (n : Nat) : Fld := ⟨0x050B101C + 0x100 * n, 24, 8⟩
def ENG_MB_RATE_RATE (n : Nat) : Fld := ⟨0x050B1020 + 0x100 * n, 0, 16⟩
def ENG_MB_RATE_BURST (n : Nat) : Fld := ⟨0x050B1020 + 0x100 * n, 16, 8⟩
def ENG_MB_WAIT_WAITING (n : Nat) : Fld := ⟨0x050B1024 + 0x100 * n, 0, 5⟩
def ENG_MB_WAIT_WAITS (n : Nat) : Fld := ⟨0x050B1024 + 0x100 * n, 16, 16⟩
def ENG_IB_WDROP_COUNT (n : Nat) : Fld := ⟨0x050B1028 + 0x100 * n, 0, 32⟩
def ENG_ROLE_ARRIVED_LO_ROLES (n : Nat) : Fld := ⟨0x050B102C + 0x100 * n, 0, 32⟩
def ENG_ROLE_ARRIVED_HI_ROLES (n : Nat) : Fld := ⟨0x050B1030 + 0x100 * n, 0, 32⟩
def ENG_ROLE_LEFT_LO_ROLES (n : Nat) : Fld := ⟨0x050B1034 + 0x100 * n, 0, 32⟩
def ENG_ROLE_LEFT_HI_ROLES (n : Nat) : Fld := ⟨0x050B1038 + 0x100 * n, 0, 32⟩
def ENG_THR_ENTRY_ENTRY (n : Nat) (j : Nat) : Fld := ⟨0x050B1040 + 0x100 * n + 0x4 * j, 0, 18⟩
def ENG_THR_ENTRY_V (n : Nat) (j : Nat) : Fld := ⟨0x050B1040 + 0x100 * n + 0x4 * j, 31, 1⟩
def ENG_THR_STATE_W0_PC (n : Nat) (j : Nat) : Fld := ⟨0x050B1060 + 0x100 * n + 0x8 * j, 0, 18⟩
def ENG_THR_STATE_W0_TSTATE (n : Nat) (j : Nat) : Fld := ⟨0x050B1060 + 0x100 * n + 0x8 * j, 18, 3⟩
def ENG_THR_STATE_W0_INFLIGHT (n : Nat) (j : Nat) : Fld := ⟨0x050B1060 + 0x100 * n + 0x8 * j, 24, 4⟩
def ENG_THR_STATE_W1_PENDING (n : Nat) (j : Nat) : Fld := ⟨0x050B1064 + 0x100 * n + 0x8 * j, 0, 32⟩
def ENG_THR_TIMER_0_AT (n : Nat) (j : Nat) : Fld := ⟨0x050B1080 + 0x100 * n + 0x10 * j, 0, 32⟩
def ENG_THR_TIMER_1_AT (n : Nat) (j : Nat) : Fld := ⟨0x050B1084 + 0x100 * n + 0x10 * j, 0, 32⟩
def ENG_THR_TIMER_2_AT (n : Nat) (j : Nat) : Fld := ⟨0x050B1088 + 0x100 * n + 0x10 * j, 0, 32⟩
def RINGS_PEND_PEND (n : Nat) : Fld := ⟨0x050C0000 + 0x4 * n, 0, 32⟩
def RINGS_EVENTS_ENG_WR : Fld := ⟨0x050C0010, 0, 1⟩
def RING_CFG_EN (n : Nat) : Fld := ⟨0x050C1000 + 0x20 * n, 0, 1⟩
def RING_CFG_STOP (n : Nat) : Fld := ⟨0x050C1000 + 0x20 * n, 1, 1⟩
def RING_CFG_ESZ (n : Nat) : Fld := ⟨0x050C1000 + 0x20 * n, 2, 2⟩
def RING_CFG_LOG2N (n : Nat) : Fld := ⟨0x050C1000 + 0x20 * n, 4, 5⟩
def RING_CFG_CONS_HOST (n : Nat) : Fld := ⟨0x050C1000 + 0x20 * n, 9, 1⟩
def RING_BASE_OFFSET (n : Nat) : Fld := ⟨0x050C1004 + 0x20 * n, 0, 22⟩
def RING_PROD_ROLE (n : Nat) : Fld := ⟨0x050C1008 + 0x20 * n, 0, 6⟩
def RING_PROD_THR (n : Nat) : Fld := ⟨0x050C1008 + 0x20 * n, 6, 2⟩
def RING_PROD_BIT (n : Nat) : Fld := ⟨0x050C1008 + 0x20 * n, 8, 6⟩
def RING_PROD_LEVEL (n : Nat) : Fld := ⟨0x050C1008 + 0x20 * n, 16, 16⟩
def RING_CONS_ROLE (n : Nat) : Fld := ⟨0x050C100C + 0x20 * n, 0, 6⟩
def RING_CONS_THR (n : Nat) : Fld := ⟨0x050C100C + 0x20 * n, 6, 2⟩
def RING_CONS_BIT (n : Nat) : Fld := ⟨0x050C100C + 0x20 * n, 8, 6⟩
def RING_CONS_LEVEL (n : Nat) : Fld := ⟨0x050C100C + 0x20 * n, 16, 16⟩
def RING_HEAD_INDEX (n : Nat) : Fld := ⟨0x050C1010 + 0x20 * n, 0, 17⟩
def RING_TAIL_INDEX (n : Nat) : Fld := ⟨0x050C1014 + 0x20 * n, 0, 17⟩
def RING_DB_INDEX (n : Nat) : Fld := ⟨0x050C1018 + 0x20 * n, 0, 17⟩
def RING_STAT_FULL_SET (n : Nat) : Fld := ⟨0x050C101C + 0x20 * n, 0, 1⟩
def RING_STAT_DB_REJ (n : Nat) : Fld := ⟨0x050C101C + 0x20 * n, 1, 1⟩
def RING_STAT_CFG_REJ (n : Nat) : Fld := ⟨0x050C101C + 0x20 * n, 2, 1⟩
def RING_STAT_OWN_REJ (n : Nat) : Fld := ⟨0x050C101C + 0x20 * n, 3, 1⟩
def RING_STAT_ENTRY_UE (n : Nat) : Fld := ⟨0x050C101C + 0x20 * n, 4, 1⟩
def RING_STAT_FULL_N (n : Nat) : Fld := ⟨0x050C101C + 0x20 * n, 16, 16⟩
def BNK_DARN_CMD_BANK : Fld := ⟨0x050D0000, 0, 5⟩
def BNK_DARN_CMD_MODE : Fld := ⟨0x050D0000, 8, 1⟩
def BNK_DARN_CMD_GO : Fld := ⟨0x050D0000, 31, 1⟩
def BNK_DARN_STATUS_RESULT : Fld := ⟨0x050D0004, 0, 4⟩
def BNK_DARN_STATUS_BANK : Fld := ⟨0x050D0004, 8, 5⟩
def BNK_DARN_STATUS_SEQ : Fld := ⟨0x050D0004, 16, 8⟩
def BNK_DARN_STATUS_FAIL_ROWS : Fld := ⟨0x050D0004, 24, 5⟩
def BNK_DARN_PROG_GROUPS : Fld := ⟨0x050D0008, 0, 20⟩
def BNK_EVENTS_G_ENG_WR : Fld := ⟨0x050D000C, 0, 1⟩
def BNK_CFG_PWR (n : Nat) : Fld := ⟨0x050D1000 + 0x80 * n, 0, 2⟩
def BNK_CFG_RINSE (n : Nat) : Fld := ⟨0x050D1000 + 0x80 * n, 2, 1⟩
def BNK_CFG_BOOT_DARN (n : Nat) : Fld := ⟨0x050D1000 + 0x80 * n, 3, 1⟩
def BNK_STATUS_PWR_NOW (n : Nat) : Fld := ⟨0x050D1004 + 0x80 * n, 0, 2⟩
def BNK_STATUS_BUSY (n : Nat) : Fld := ⟨0x050D1004 + 0x80 * n, 2, 1⟩
def BNK_STATUS_FENCED (n : Nat) : Fld := ⟨0x050D1004 + 0x80 * n, 3, 1⟩
def BNK_STATUS_DARN (n : Nat) : Fld := ⟨0x050D1004 + 0x80 * n, 4, 1⟩
def BNK_STATUS_PATCHED (n : Nat) : Fld := ⟨0x050D1004 + 0x80 * n, 8, 5⟩
def BNK_EVENTS_CE_SET (n : Nat) : Fld := ⟨0x050D1008 + 0x80 * n, 0, 1⟩
def BNK_EVENTS_UE_SET (n : Nat) : Fld := ⟨0x050D1008 + 0x80 * n, 1, 1⟩
def BNK_EVENTS_COLLIDE_SET (n : Nat) : Fld := ⟨0x050D1008 + 0x80 * n, 2, 1⟩
def BNK_EVENTS_CFG_REJ (n : Nat) : Fld := ⟨0x050D1008 + 0x80 * n, 3, 1⟩
def BNK_EVENTS_DARN_END (n : Nat) : Fld := ⟨0x050D1008 + 0x80 * n, 4, 1⟩
def BNK_EVENTS_RINSE_END (n : Nat) : Fld := ⟨0x050D1008 + 0x80 * n, 5, 1⟩
def BNK_EVENTS_NO_PATCH (n : Nat) : Fld := ⟨0x050D1008 + 0x80 * n, 6, 1⟩
def BNK_CE_COUNT (n : Nat) : Fld := ⟨0x050D100C + 0x80 * n, 0, 32⟩
def BNK_UE_COUNT (n : Nat) : Fld := ⟨0x050D1010 + 0x80 * n, 0, 32⟩
def BNK_COLLIDE_COUNT (n : Nat) : Fld := ⟨0x050D1014 + 0x80 * n, 0, 32⟩
def BNK_STALL_COUNT (n : Nat) : Fld := ⟨0x050D1018 + 0x80 * n, 0, 32⟩
def BNK_UE_ADDR_OFFSET (n : Nat) : Fld := ⟨0x050D101C + 0x80 * n, 0, 22⟩
def BNK_PATCH_ROW (n : Nat) (j : Nat) : Fld := ⟨0x050D1040 + 0x80 * n + 0x4 * j, 0, 12⟩
def BNK_PATCH_ORIGIN (n : Nat) (j : Nat) : Fld := ⟨0x050D1040 + 0x80 * n + 0x4 * j, 12, 2⟩
def BNK_PATCH_V (n : Nat) (j : Nat) : Fld := ⟨0x050D1040 + 0x80 * n + 0x4 * j, 15, 1⟩
def NV_STATUS_SCAN_BUSY : Fld := ⟨0x05110000, 0, 1⟩
def NV_STATUS_LOW : Fld := ⟨0x05110000, 1, 1⟩
def NV_STATUS_OPEN : Fld := ⟨0x05110000, 2, 4⟩
def NV_EVENTS_SCAN_DONE : Fld := ⟨0x05110004, 0, 1⟩
def NV_EVENTS_CE_SET : Fld := ⟨0x05110004, 1, 1⟩
def NV_EVENTS_FAIL_SET : Fld := ⟨0x05110004, 2, 1⟩
def NV_EVENTS_LOW_SET : Fld := ⟨0x05110004, 3, 1⟩
def NV_EVENTS_TORN_SET : Fld := ⟨0x05110004, 4, 1⟩
def NV_EVENTS_TIE_SET : Fld := ⟨0x05110004, 5, 1⟩
def NV_EVENTS_FMT_SET : Fld := ⟨0x05110004, 6, 1⟩
def NV_CMD_FLUSH : Fld := ⟨0x05110008, 0, 1⟩
def NV_CMD_RECHECK : Fld := ⟨0x05110008, 1, 1⟩
def NV_CE : Fld := ⟨0x0511000C, 0, 32⟩
def NV_UE : Fld := ⟨0x05110010, 0, 32⟩
def NV_UE_ADDR : Fld := ⟨0x05110014, 0, 19⟩
def NV_TORN : Fld := ⟨0x05110018, 0, 32⟩
def NV_TORN_ADDR : Fld := ⟨0x0511001C, 0, 19⟩
def NV_LOWDROP : Fld := ⟨0x05110020, 0, 32⟩
def NV_RES_MV : Fld := ⟨0x05110030, 0, 16⟩
def NV_VIN_MV : Fld := ⟨0x05110034, 0, 16⟩
def NV_REC_VALID_A (n : Nat) : Fld := ⟨0x05110040 + 0x4 * n, 0, 1⟩
def NV_REC_VALID_B (n : Nat) : Fld := ⟨0x05110040 + 0x4 * n, 1, 1⟩
def NV_REC_CUR (n : Nat) : Fld := ⟨0x05110040 + 0x4 * n, 2, 1⟩
def NV_REC_PRESENT (n : Nat) : Fld := ⟨0x05110040 + 0x4 * n, 3, 1⟩
def NV_REC_TIE (n : Nat) : Fld := ⟨0x05110040 + 0x4 * n, 4, 1⟩
def OTP_STATUS_BOOT_GEN : Fld := ⟨0x05110100, 0, 2⟩
def OTP_STATUS_BOOT_NONE : Fld := ⟨0x05110100, 2, 1⟩
def OTP_STATUS_BUSY : Fld := ⟨0x05110100, 3, 1⟩
def OTP_STATUS_LIVE_GEN : Fld := ⟨0x05110100, 4, 2⟩
def OTP_STATUS_LIVE_NONE : Fld := ⟨0x05110100, 6, 1⟩
def OTP_STATUS_STRUCT_PENDING : Fld := ⟨0x05110100, 7, 1⟩
def OTP_STATUS_GEN_STATE : Fld := ⟨0x05110100, 8, 8⟩
def OTP_STATUS_REJECTED : Fld := ⟨0x05110100, 16, 4⟩
def OTP_STATUS_FACTORY_COPY : Fld := ⟨0x05110100, 20, 1⟩
def OTP_STATUS_FACTORY_BAD : Fld := ⟨0x05110100, 21, 1⟩
def OTP_STATUS_OTP_LOW : Fld := ⟨0x05110100, 22, 1⟩
def OTP_EVENTS_CMD_DONE : Fld := ⟨0x05110104, 0, 1⟩
def OTP_EVENTS_REJ_SET : Fld := ⟨0x05110104, 1, 1⟩
def OTP_ADDR_ADDR : Fld := ⟨0x05110108, 0, 19⟩
def OTP_DATA : Fld := ⟨0x0511010C, 0, 32⟩
def OTP_EXPECT_CRC : Fld := ⟨0x05110114, 0, 32⟩
def OTP_CMD_OP : Fld := ⟨0x05110110, 0, 3⟩
def OTP_CMD_GEN : Fld := ⟨0x05110110, 4, 2⟩
def OTP_CMD_GO : Fld := ⟨0x05110110, 31, 1⟩
def OTP_RESULT_RESULT : Fld := ⟨0x05110118, 0, 4⟩
def OTP_RESULT_SEQ : Fld := ⟨0x05110118, 8, 8⟩
def OTP_ADOPT_REJ : Fld := ⟨0x0511011C, 0, 32⟩
def OTP_IMAGE_ID : Fld := ⟨0x05110120, 0, 32⟩
def OTP_WDROP : Fld := ⟨0x05110124, 0, 32⟩
def SYS_MODE_MODE : Fld := ⟨0x05000008, 0, 3⟩
def SYS_MODE_CHANGING : Fld := ⟨0x05000008, 3, 1⟩
def SYS_MODE_BOOT : Fld := ⟨0x05000008, 8, 3⟩
def SYS_MODE_RELAY_SRC : Fld := ⟨0x05000008, 11, 1⟩
def SYS_MODE_CMD_TO : Fld := ⟨0x0500000C, 0, 3⟩
def SYS_MODE_CMD_GO : Fld := ⟨0x0500000C, 31, 1⟩
def SYS_MODE_STATUS_RESULT : Fld := ⟨0x05000010, 0, 3⟩
def SYS_MODE_STATUS_SEQ : Fld := ⟨0x05000010, 8, 8⟩
def SYS_MODE_STATUS_ENG_WR : Fld := ⟨0x05000010, 16, 1⟩
def SYS_FACTORY_REQ_REQ : Fld := ⟨0x05000014, 0, 1⟩
def PWR_STATUS_STATE : Fld := ⟨0x050F0000, 0, 3⟩
def PWR_STATUS_ENTERING : Fld := ⟨0x050F0000, 3, 1⟩
def PWR_STATUS_RETAIN_LOST : Fld := ⟨0x050F0000, 4, 1⟩
def PWR_STATUS_LEDGER_SRC : Fld := ⟨0x050F0000, 5, 1⟩
def PWR_STATUS_CAL_VALID : Fld := ⟨0x050F0000, 6, 1⟩
def PWR_STATUS_REG_LP : Fld := ⟨0x050F0000, 7, 1⟩
def PWR_EVENTS_WAKE : Fld := ⟨0x050F0004, 0, 1⟩
def PWR_EVENTS_ABORTED : Fld := ⟨0x050F0004, 1, 1⟩
def PWR_EVENTS_REG_OVL : Fld := ⟨0x050F0004, 2, 1⟩
def PWR_EVENTS_BROWNOUT : Fld := ⟨0x050F0004, 3, 1⟩
def PWR_EVENTS_HT_REJ : Fld := ⟨0x050F0004, 4, 1⟩
def PWR_EVENTS_ENG_WR : Fld := ⟨0x050F0004, 5, 1⟩
def PWR_CMD_TO : Fld := ⟨0x050F0008, 0, 3⟩
def PWR_CMD_GO : Fld := ⟨0x050F0008, 31, 1⟩
def PWR_RESULT_RESULT : Fld := ⟨0x050F000C, 0, 3⟩
def PWR_RESULT_SEQ : Fld := ⟨0x050F000C, 8, 8⟩
def PWR_CFG_ENTRY_POLICY : Fld := ⟨0x050F0010, 0, 1⟩
def PWR_CFG_OVEN_SLEEP : Fld := ⟨0x050F0010, 1, 1⟩
def PWR_CFG_FAULT_WAKE : Fld := ⟨0x050F0010, 2, 1⟩
def PWR_CFG_I2C_WAKE : Fld := ⟨0x050F0010, 3, 1⟩
def PWR_CFG_ALARM_EN : Fld := ⟨0x050F0010, 4, 1⟩
def PWR_CFG_CAL_HOLD : Fld := ⟨0x050F0010, 5, 1⟩
def PWR_RETAIN_BANKS : Fld := ⟨0x050F0014, 0, 29⟩
def PWR_LAST_WAKE_SRC : Fld := ⟨0x050F0018, 0, 4⟩
def PWR_LAST_WAKE_REPLAYED : Fld := ⟨0x050F0018, 4, 1⟩
def PWR_LAST_WAKE_ABORT : Fld := ⟨0x050F0018, 5, 1⟩
def PWR_LAST_WAKE_FROM : Fld := ⟨0x050F0018, 8, 3⟩
def PWR_LAST_WAKE_ALL : Fld := ⟨0x050F0018, 16, 5⟩
def PWR_LEDGER_PERIOD_LO : Fld := ⟨0x050F0030, 0, 32⟩
def PWR_LEDGER_PERIOD_HI : Fld := ⟨0x050F0034, 0, 32⟩
def PWR_LEDGER_AGE_SECONDS : Fld := ⟨0x050F0038, 0, 32⟩
def PWR_AO_MA_MA : Fld := ⟨0x050F003C, 0, 16⟩
def FLT_STATUS_TI_FENCED : Fld := ⟨0x050E0000, 0, 1⟩
def FLT_STATUS_ANY_FENCE : Fld := ⟨0x050E0000, 1, 1⟩
def FLT_STATUS_FAULT_L : Fld := ⟨0x050E0000, 2, 1⟩
def FLT_STATUS_FENCED_N : Fld := ⟨0x050E0000, 8, 10⟩
def FLT_EVENTS_NEW_MINOR : Fld := ⟨0x050E0004, 0, 1⟩
def FLT_EVENTS_NEW_MAJOR : Fld := ⟨0x050E0004, 1, 1⟩
def FLT_EVENTS_NEW_GRAVE : Fld := ⟨0x050E0004, 2, 1⟩
def FLT_EVENTS_BROKEN_WIRE : Fld := ⟨0x050E0004, 3, 1⟩
def FLT_EVENTS_LOG_OVF_SET : Fld := ⟨0x050E0004, 4, 1⟩
def FLT_EVENTS_INJ_REJ : Fld := ⟨0x050E0004, 5, 1⟩
def FLT_EVENTS_PROMOTED : Fld := ⟨0x050E0004, 6, 1⟩
def FLT_CFG_VECTOR : Fld := ⟨0x050E0008, 0, 6⟩
def FLT_CFG_INT_EN : Fld := ⟨0x050E0008, 6, 1⟩
def FLT_CFG_FAULT_L_MINOR : Fld := ⟨0x050E0008, 7, 1⟩
def FLT_FIRST_0_SRC : Fld := ⟨0x050E0010, 0, 9⟩
def FLT_FIRST_0_CLASS : Fld := ⟨0x050E0010, 9, 2⟩
def FLT_FIRST_0_CAUSE : Fld := ⟨0x050E0010, 16, 8⟩
def FLT_FIRST_0_VALID : Fld := ⟨0x050E0010, 31, 1⟩
def FLT_LOG_0_SRC (n : Nat) : Fld := ⟨0x050E0100 + 0x10 * n, 0, 9⟩
def FLT_LOG_0_CLASS (n : Nat) : Fld := ⟨0x050E0100 + 0x10 * n, 9, 2⟩
def FLT_LOG_0_CAUSE (n : Nat) : Fld := ⟨0x050E0100 + 0x10 * n, 16, 8⟩
def FLT_LOG_0_VALID (n : Nat) : Fld := ⟨0x050E0100 + 0x10 * n, 31, 1⟩
def FLT_FIRST_1_TIME : Fld := ⟨0x050E0014, 0, 32⟩
def FLT_LOG_1_TIME (n : Nat) : Fld := ⟨0x050E0104 + 0x10 * n, 0, 32⟩
def FLT_FIRST_2_TIME : Fld := ⟨0x050E0018, 0, 32⟩
def FLT_LOG_2_TIME (n : Nat) : Fld := ⟨0x050E0108 + 0x10 * n, 0, 32⟩
def FLT_FIRST_3_TIME : Fld := ⟨0x050E001C, 0, 32⟩
def FLT_LOG_3_TIME (n : Nat) : Fld := ⟨0x050E010C + 0x10 * n, 0, 32⟩
def FLT_LOG_STATUS_COUNT : Fld := ⟨0x050E0020, 0, 5⟩
def FLT_LOG_STATUS_OVF : Fld := ⟨0x050E0020, 16, 16⟩
def FLT_LOG_ACK_N : Fld := ⟨0x050E0024, 0, 5⟩
def FLT_CLEAR_SRC : Fld := ⟨0x050E0030, 0, 9⟩
def FLT_CLEAR_GO : Fld := ⟨0x050E0030, 31, 1⟩
def FLT_CLEAR_RESULT_RESULT : Fld := ⟨0x050E0034, 0, 3⟩
def FLT_CLEAR_RESULT_SEQ : Fld := ⟨0x050E0034, 8, 8⟩
def FLT_INJECT_SRC : Fld := ⟨0x050E0040, 0, 9⟩
def FLT_INJECT_CLASS : Fld := ⟨0x050E0040, 9, 2⟩
def FLT_INJECT_BROKEN : Fld := ⟨0x050E0040, 11, 1⟩
def FLT_INJECT_GO : Fld := ⟨0x050E0040, 31, 1⟩
def FLT_TI_REFUSED_COUNT : Fld := ⟨0x050E0044, 0, 32⟩
def FLT_SRC_RAIL (n : Nat) : Fld := ⟨0x050E1000 + 0x8 * n, 0, 2⟩
def FLT_SRC_FENCED (n : Nat) : Fld := ⟨0x050E1000 + 0x8 * n, 2, 1⟩
def FLT_SRC_LATCHED (n : Nat) : Fld := ⟨0x050E1000 + 0x8 * n, 3, 1⟩
def FLT_SRC_LAST_CLASS (n : Nat) : Fld := ⟨0x050E1000 + 0x8 * n, 4, 2⟩
def FLT_SRC_LAST_CAUSE (n : Nat) : Fld := ⟨0x050E1000 + 0x8 * n, 8, 8⟩
def FLT_SRC_WCOUNT (n : Nat) : Fld := ⟨0x050E1000 + 0x8 * n, 16, 8⟩
def FLT_SRC_NOTES (n : Nat) : Fld := ⟨0x050E1000 + 0x8 * n, 24, 8⟩
def FLT_SRC_CFG_N (n : Nat) : Fld := ⟨0x050E1004 + 0x8 * n, 0, 8⟩
def FLT_SRC_CFG_WIN (n : Nat) : Fld := ⟨0x050E1004 + 0x8 * n, 8, 3⟩
def FLT_SRC_CFG_INT_HOST (n : Nat) : Fld := ⟨0x050E1004 + 0x8 * n, 11, 1⟩
def FLT_SRC_CFG_ROLE (n : Nat) : Fld := ⟨0x050E1004 + 0x8 * n, 12, 6⟩
def HOST_STATUS_DOMAIN_OFF : Fld := ⟨0x05100000, 0, 1⟩
def HOST_STATUS_UNMAPPED : Fld := ⟨0x05100000, 1, 1⟩
def HOST_STATUS_FMT : Fld := ⟨0x05100000, 2, 1⟩
def HOST_STATUS_RECALL : Fld := ⟨0x05100000, 3, 1⟩
def HOST_STATUS_NV_BUSY : Fld := ⟨0x05100000, 4, 1⟩
def HOST_STATUS_WR_DIS : Fld := ⟨0x05100000, 5, 1⟩
def HOST_STATUS_LAST_PATH : Fld := ⟨0x05100000, 6, 2⟩
def HOST_STATUS_PCIE_UP : Fld := ⟨0x05100000, 8, 1⟩
def HOST_STATUS_PCIE_SPEED : Fld := ⟨0x05100000, 9, 3⟩
def HOST_STATUS_PCIE_WIDTH : Fld := ⟨0x05100000, 12, 3⟩
def HOST_CFG_PCIE_EN : Fld := ⟨0x05100004, 0, 1⟩
def HOST_CFG_SPI_EN : Fld := ⟨0x05100004, 1, 1⟩
def HOST_CFG_SPI_SET : Fld := ⟨0x05100004, 2, 1⟩
def HOST_CFG_I2C_EN : Fld := ⟨0x05100004, 3, 1⟩
def HOST_CFG_DBG_EN : Fld := ⟨0x05100004, 4, 1⟩
def HOST_CFG_PCIE_WR : Fld := ⟨0x05100004, 8, 1⟩
def HOST_CFG_SPI_WR : Fld := ⟨0x05100004, 9, 1⟩
def HOST_CFG_I2C_WR : Fld := ⟨0x05100004, 10, 1⟩
def HOST_CFG_DBG_WR : Fld := ⟨0x05100004, 11, 1⟩
def HOST_MB_RATE_RATE : Fld := ⟨0x05100008, 0, 16⟩
def HOST_MB_RATE_BURST : Fld := ⟨0x05100008, 16, 8⟩
def HOST_MB_WAIT_WAITING : Fld := ⟨0x0510000C, 0, 5⟩
def HOST_MB_WAIT_WAITS : Fld := ⟨0x0510000C, 16, 16⟩
def HOST_PCI_ID_VENDOR : Fld := ⟨0x05100010, 0, 16⟩
def HOST_PCI_ID_DEVICE : Fld := ⟨0x05100010, 16, 16⟩
def HOST_PCI_SUBSYS_SVID : Fld := ⟨0x05100014, 0, 16⟩
def HOST_PCI_SUBSYS_SID : Fld := ⟨0x05100014, 16, 16⟩
def HOST_EVENTS_CFG_REJ : Fld := ⟨0x05100018, 0, 1⟩
def HOST_EVENTS_SLOT_REJ : Fld := ⟨0x05100018, 1, 1⟩
def HOST_EVENTS_ACK_REJ : Fld := ⟨0x05100018, 2, 1⟩
def HOST_EVENTS_ENG_WR : Fld := ⟨0x05100018, 3, 1⟩
def HOST_INT_PEND_LO_PEND : Fld := ⟨0x05100040, 0, 32⟩
def HOST_INT_PEND_HI_PEND : Fld := ⟨0x05100044, 0, 32⟩
def HOST_INT_EN_LO_EN : Fld := ⟨0x05100048, 0, 32⟩
def HOST_INT_EN_HI_EN : Fld := ⟨0x0510004C, 0, 32⟩
def HOST_SLOT_CTL_SEQ (n : Nat) : Fld := ⟨0x05101000 + 0x80 * n, 0, 16⟩
def HOST_SLOT_CTL_READY (n : Nat) : Fld := ⟨0x05101000 + 0x80 * n, 16, 1⟩
def HOST_SLOT_CTL_OVERRUN (n : Nat) : Fld := ⟨0x05101000 + 0x80 * n, 17, 1⟩
def HOST_SLOT_CTL_PENDING (n : Nat) : Fld := ⟨0x05101000 + 0x80 * n, 18, 1⟩
def HOST_SLOT_CFG_MODE (n : Nat) : Fld := ⟨0x05101004 + 0x80 * n, 0, 1⟩
def HOST_SLOT_CFG_ROLE (n : Nat) : Fld := ⟨0x05101004 + 0x80 * n, 8, 6⟩
def HOST_SLOT_CFG_VECTOR (n : Nat) : Fld := ⟨0x05101004 + 0x80 * n, 16, 6⟩
def HOST_SLOT_ACK_SEQ (n : Nat) : Fld := ⟨0x05101008 + 0x80 * n, 0, 16⟩
def HOST_SLOT_POST_POST (n : Nat) : Fld := ⟨0x0510100C + 0x80 * n, 0, 1⟩
def HOST_SLOT_DATA_DATA (n : Nat) (j : Nat) : Fld := ⟨0x05101020 + 0x80 * n + 0x4 * j, 0, 32⟩
def HOST_SLOT_STAGE_STAGE (n : Nat) (j : Nat) : Fld := ⟨0x05101040 + 0x80 * n + 0x4 * j, 0, 32⟩
def SYN_BAND_W0_N_LO (n : Nat) (j : Nat) : Fld := ⟨0x05041000 + 0x200 * n + 0x8 * j, 0, 8⟩
def SYN_BAND_W0_N_HI (n : Nat) (j : Nat) : Fld := ⟨0x05041000 + 0x200 * n + 0x8 * j, 8, 8⟩
def SYN_BAND_W0_TSLOT (n : Nat) (j : Nat) : Fld := ⟨0x05041000 + 0x200 * n + 0x8 * j, 16, 4⟩
def SYN_BAND_W0_BAND (n : Nat) (j : Nat) : Fld := ⟨0x05041000 + 0x200 * n + 0x8 * j, 24, 8⟩
def SYN_BAND_W1_GTRIM (n : Nat) (j : Nat) : Fld := ⟨0x05041004 + 0x200 * n + 0x8 * j, 0, 5⟩
def SYN_BAND_W1_V (n : Nat) (j : Nat) : Fld := ⟨0x05041004 + 0x200 * n + 0x8 * j, 31, 1⟩
def SYN_RAMP_AT_0_AT (n : Nat) : Fld := ⟨0x05042810 + 0x800 * (n - 1), 0, 32⟩
def SYN_RAMP_AT_1_AT (n : Nat) : Fld := ⟨0x05042814 + 0x800 * (n - 1), 0, 32⟩
def SYN_RAMP_AT_2_AT (n : Nat) : Fld := ⟨0x05042818 + 0x800 * (n - 1), 0, 32⟩
def SYN_RAMP_OUT_LO (n : Nat) : Fld := ⟨0x0504281C + 0x800 * (n - 1), 0, 32⟩
def SYN_RAMP_OUT_HI (n : Nat) : Fld := ⟨0x05042820 + 0x800 * (n - 1), 0, 32⟩
def SYN_RAMP_SEG_W0_RATE (n : Nat) (j : Nat) : Fld := ⟨0x05042C00 + 0x800 * (n - 1) + 0x10 * j, 0, 32⟩
def SYN_RAMP_SEG_W1_DUR (n : Nat) (j : Nat) : Fld := ⟨0x05042C04 + 0x800 * (n - 1) + 0x10 * j, 0, 24⟩
def SYN_RAMP_SEG_W2_HOLD (n : Nat) (j : Nat) : Fld := ⟨0x05042C08 + 0x800 * (n - 1) + 0x10 * j, 0, 24⟩
def SYN_RAMP_SEG_W3_LAST (n : Nat) (j : Nat) : Fld := ⟨0x05042C0C + 0x800 * (n - 1) + 0x10 * j, 0, 1⟩
def OUT_SYNC_AT_0_AT : Fld := ⟨0x05050008, 0, 32⟩
def OUT_SYNC_AT_1_AT : Fld := ⟨0x0505000C, 0, 32⟩
def OUT_SYNC_AT_2_AT : Fld := ⟨0x05050010, 0, 32⟩
def OUT_SYNC_INST_0_INST : Fld := ⟨0x05050020, 0, 32⟩
def OUT_SYNC_INST_1_INST : Fld := ⟨0x05050024, 0, 32⟩
def OUT_SYNC_INST_2_INST : Fld := ⟨0x05050028, 0, 32⟩
def PWR_WAKE_AT_0_AT : Fld := ⟨0x050F0020, 0, 32⟩
def PWR_WAKE_AT_1_AT : Fld := ⟨0x050F0024, 0, 32⟩
def PWR_WAKE_AT_2_AT : Fld := ⟨0x050F0028, 0, 32⟩
def PWR_DOFF_COUNT (n : Nat) : Fld := ⟨0x050F0100 + 0x4 * n, 0, 32⟩
def PWR_DOFF_BANKS_COUNT : Fld := ⟨0x050F0148, 0, 32⟩
def NV_REC_SEQ_SEQ (n : Nat) : Fld := ⟨0x05110050 + 0x4 * n, 0, 32⟩

end R

/-! ### The tables by block -/

def regs_sys_0 : List RegDef := [
  ⟨0x05000000, 1, 0x0, 1, 0x0, [⟨16, 16, .ro, .hard, 19533⟩, ⟨0, 16, .ro, .hard, 38962⟩]⟩,
  ⟨0x05000004, 1, 0x0, 1, 0x0, [⟨0, 8, .ro, .hard, 177⟩, ⟨8, 4, .ro, .factory, 1⟩]⟩,
  ⟨0x05000008, 1, 0x0, 1, 0x0, [⟨0, 3, .ro, .live, 2⟩, ⟨3, 1, .ro, .live, 0⟩, ⟨8, 3, .rw, .image, 2⟩, ⟨11, 1, .rw, .image, 0⟩]⟩,
  ⟨0x0500000C, 1, 0x0, 1, 0x0, [⟨0, 3, .wo, .hard, 0⟩, ⟨31, 1, .wo, .hard, 0⟩]⟩,
  ⟨0x05000010, 1, 0x0, 1, 0x0, [⟨0, 3, .ro, .live, 0⟩, ⟨8, 8, .ro, .live, 0⟩, ⟨16, 1, .w1c, .live, 0⟩]⟩,
  ⟨0x05000014, 1, 0x0, 1, 0x0, [⟨0, 1, .wo, .hard, 0⟩]⟩]

/-- The registers of one block (sys). -/
def regs_sys : List RegDef := regs_sys_0

def regs_tbase_0 : List RegDef := [
  ⟨0x05010000, 1, 0x0, 1, 0x0, [⟨0, 1, .wo, .hard, 0⟩]⟩,
  ⟨0x05010004, 1, 0x0, 1, 0x0, [⟨0, 1, .ro, .live, 1⟩, ⟨1, 1, .ro, .live, 0⟩, ⟨2, 2, .ro, .live, 0⟩, ⟨4, 1, .ro, .live, 0⟩, ⟨5, 1, .ro, .live, 0⟩, ⟨8, 1, .w1c, .live, 0⟩, ⟨9, 1, .w1c, .live, 0⟩, ⟨10, 1, .w1c, .live, 0⟩, ⟨11, 1, .w1c, .live, 0⟩]⟩,
  ⟨0x05010010, 1, 0x0, 1, 0x0, [⟨0, 32, .ro, .live, 0⟩]⟩,
  ⟨0x05010014, 1, 0x0, 1, 0x0, [⟨0, 32, .ro, .live, 0⟩]⟩,
  ⟨0x05010018, 1, 0x0, 1, 0x0, [⟨0, 32, .ro, .live, 0⟩]⟩,
  ⟨0x05010020, 1, 0x0, 1, 0x0, [⟨0, 24, .rw, .image, 104857⟩]⟩,
  ⟨0x05010024, 1, 0x0, 1, 0x0, [⟨0, 16, .rw, .image, 3⟩, ⟨16, 16, .rw, .image, 5⟩]⟩,
  ⟨0x05010028, 1, 0x0, 1, 0x0, [⟨0, 6, .rw, .image, 20⟩]⟩,
  ⟨0x05010030, 1, 0x0, 1, 0x0, [⟨0, 16, .rw, .live, 37⟩]⟩,
  ⟨0x05010034, 1, 0x0, 1, 0x0, [⟨0, 32, .rw, .live, 0⟩]⟩,
  ⟨0x05010038, 1, 0x0, 1, 0x0, [⟨0, 16, .rw, .live, 0⟩]⟩,
  ⟨0x0501003C, 1, 0x0, 1, 0x0, [⟨0, 2, .rw, .live, 0⟩, ⟨8, 1, .wo, .hard, 0⟩, ⟨9, 1, .wo, .hard, 0⟩]⟩,
  ⟨0x05010040, 1, 0x0, 1, 0x0, [⟨0, 32, .ro, .live, 4294967295⟩]⟩,
  ⟨0x05010044, 1, 0x0, 1, 0x0, [⟨0, 32, .ro, .live, 4294967295⟩]⟩,
  ⟨0x05010100, 1, 0x0, 1, 0x0, [⟨0, 2, .rw, .image, 1⟩, ⟨4, 1, .wo, .hard, 0⟩, ⟨8, 3, .rw, .image, 2⟩, ⟨12, 3, .rw, .image, 4⟩]⟩]

def regs_tbase_1 : List RegDef := [
  ⟨0x05010104, 1, 0x0, 1, 0x0, [⟨0, 3, .ro, .live, 0⟩, ⟨4, 1, .ro, .live, 0⟩, ⟨5, 1, .ro, .live, 0⟩, ⟨6, 1, .ro, .live, 0⟩]⟩,
  ⟨0x05010108, 1, 0x0, 1, 0x0, [⟨0, 24, .rw, .image, 42950⟩]⟩,
  ⟨0x0501010C, 1, 0x0, 1, 0x0, [⟨0, 32, .rw, .image, 65536000⟩]⟩,
  ⟨0x05010110, 1, 0x0, 1, 0x0, [⟨0, 32, .ro, .live, 0⟩]⟩,
  ⟨0x05010114, 1, 0x0, 1, 0x0, [⟨0, 32, .ro, .live, 0⟩]⟩,
  ⟨0x05010118, 1, 0x0, 1, 0x0, [⟨0, 32, .ro, .live, 0⟩]⟩,
  ⟨0x0501011C, 1, 0x0, 1, 0x0, [⟨0, 32, .ro, .live, 0⟩]⟩,
  ⟨0x05010120, 1, 0x0, 1, 0x0, [⟨0, 32, .ro, .live, 0⟩]⟩,
  ⟨0x05010124, 1, 0x0, 1, 0x0, [⟨0, 32, .ro, .live, 0⟩]⟩,
  ⟨0x05010128, 1, 0x0, 1, 0x0, [⟨0, 16, .rw, .image, 2000⟩]⟩,
  ⟨0x0501012C, 1, 0x0, 1, 0x0, [⟨0, 24, .rw, .image, 6554⟩]⟩,
  ⟨0x05010130, 1, 0x0, 1, 0x0, [⟨0, 8, .rc, .live, 0⟩, ⟨8, 8, .rc, .live, 0⟩, ⟨16, 8, .rc, .live, 0⟩, ⟨24, 4, .rc, .live, 0⟩, ⟨28, 4, .rc, .live, 0⟩]⟩,
  ⟨0x05010140, 8, 0x4, 1, 0x0, [⟨0, 6, .rw, .image, 0⟩, ⟨6, 3, .rw, .image, 0⟩, ⟨12, 12, .rw, .image, 0⟩]⟩,
  ⟨0x05010160, 8, 0x4, 1, 0x0, [⟨0, 32, .rw, .image, 0⟩]⟩]

/-- The registers of one block (tbase). -/
def regs_tbase : List RegDef := regs_tbase_0 ++ regs_tbase_1

def regs_qual_0 : List RegDef := [
  ⟨0x05020000, 1, 0x0, 1, 0x0, [⟨0, 1, .ro, .live, 0⟩, ⟨1, 1, .ro, .live, 0⟩, ⟨2, 1, .ro, .live, 1⟩, ⟨8, 6, .ro, .live, 0⟩]⟩,
  ⟨0x05020004, 1, 0x0, 1, 0x0, [⟨0, 1, .w1c, .live, 0⟩, ⟨1, 1, .w1c, .live, 0⟩, ⟨2, 1, .w1c, .live, 0⟩]⟩,
  ⟨0x05020010, 1, 0x0, 1, 0x0, [⟨0, 8, .rw, .image, 16⟩, ⟨8, 8, .rw, .image, 16⟩, ⟨16, 12, .rw, .image, 64⟩]⟩,
  ⟨0x05020014, 1, 0x0, 1, 0x0, [⟨0, 4, .rw, .image, 4⟩, ⟨16, 16, .rw, .image, 1500⟩]⟩,
  ⟨0x05020018, 1, 0x0, 1, 0x0, [⟨0, 24, .rw, .image, 19757⟩]⟩,
  ⟨0x0502001C, 1, 0x0, 1, 0x0, [⟨0, 16, .rw, .image, 100⟩, ⟨16, 8, .rw, .image, 4⟩]⟩,
  ⟨0x05020020, 1, 0x0, 1, 0x0, [⟨0, 32, .rw, .image, 32768⟩]⟩,
  ⟨0x05020024, 1, 0x0, 1, 0x0, [⟨0, 32, .rw, .image, 6553600⟩]⟩,
  ⟨0x05020028, 1, 0x0, 1, 0x0, [⟨0, 16, .rw, .image, 1000⟩, ⟨16, 16, .rw, .image, 300⟩]⟩,
  ⟨0x0502002C, 1, 0x0, 1, 0x0, [⟨0, 32, .rw, .image, 14074⟩]⟩,
  ⟨0x05020030, 1, 0x0, 1, 0x0, [⟨0, 32, .rw, .image, 56295⟩]⟩,
  ⟨0x05020034, 1, 0x0, 1, 0x0, [⟨0, 32, .rw, .image, 2815⟩]⟩,
  ⟨0x05020038, 1, 0x0, 1, 0x0, [⟨0, 32, .rw, .image, 327680⟩]⟩,
  ⟨0x0502003C, 1, 0x0, 1, 0x0, [⟨0, 16, .rw, .image, 16⟩]⟩,
  ⟨0x05020040, 1, 0x0, 1, 0x0, [⟨0, 16, .rw, .image, 0⟩]⟩]

def regs_qual_1 : List RegDef := [
  ⟨0x05021000, 48, 0x40, 1, 0x0, [⟨0, 1, .rw, .image, 0⟩, ⟨1, 1, .rw, .image, 1⟩, ⟨2, 2, .rw, .image, 0⟩, ⟨4, 3, .rw, .image, 0⟩, ⟨7, 1, .rw, .image, 0⟩, ⟨8, 6, .rw, .image, 0⟩]⟩,
  ⟨0x05021004, 48, 0x40, 1, 0x0, [⟨0, 21, .rw, .image, 0⟩]⟩,
  ⟨0x05021008, 48, 0x40, 1, 0x0, [⟨0, 2, .rw, .image, 0⟩, ⟨2, 1, .rw, .image, 0⟩, ⟨3, 1, .rw, .image, 1⟩]⟩,
  ⟨0x0502100C, 48, 0x40, 1, 0x0, [⟨0, 3, .ro, .live, 0⟩, ⟨3, 1, .ro, .live, 0⟩, ⟨4, 1, .ro, .live, 0⟩, ⟨5, 1, .ro, .live, 0⟩, ⟨8, 8, .ro, .live, 0⟩, ⟨16, 16, .ro, .live, 0⟩]⟩,
  ⟨0x05021010, 48, 0x40, 1, 0x0, [⟨0, 1, .w1c, .live, 0⟩, ⟨1, 1, .w1c, .live, 0⟩, ⟨2, 1, .w1c, .live, 0⟩, ⟨3, 1, .w1c, .live, 0⟩, ⟨16, 16, .rc, .live, 0⟩]⟩,
  ⟨0x05021014, 48, 0x40, 1, 0x0, [⟨0, 32, .ro, .live, 0⟩]⟩,
  ⟨0x05021018, 48, 0x40, 1, 0x0, [⟨0, 32, .ro, .live, 0⟩]⟩,
  ⟨0x0502101C, 48, 0x40, 1, 0x0, [⟨0, 32, .ro, .live, 0⟩]⟩,
  ⟨0x05021020, 48, 0x40, 1, 0x0, [⟨0, 32, .ro, .live, 0⟩]⟩,
  ⟨0x05021024, 48, 0x40, 1, 0x0, [⟨0, 32, .ro, .live, 0⟩]⟩,
  ⟨0x05021028, 48, 0x40, 1, 0x0, [⟨0, 32, .ro, .live, 0⟩]⟩,
  ⟨0x0502102C, 48, 0x40, 1, 0x0, [⟨0, 32, .ro, .live, 0⟩]⟩,
  ⟨0x05021030, 48, 0x40, 1, 0x0, [⟨0, 32, .rw, .image, 0⟩]⟩,
  ⟨0x05021034, 48, 0x40, 1, 0x0, [⟨0, 32, .wo, .hard, 0⟩]⟩,
  ⟨0x05021038, 48, 0x40, 1, 0x0, [⟨0, 1, .wo, .hard, 0⟩]⟩]

/-- The registers of one block (qual). -/
def regs_qual : List RegDef := regs_qual_0 ++ regs_qual_1

def regs_seam_0 : List RegDef := [
  ⟨0x05030000, 1, 0x0, 1, 0x0, [⟨0, 1, .rw, .image, 0⟩, ⟨1, 1, .rw, .image, 0⟩, ⟨2, 1, .rw, .image, 1⟩, ⟨3, 1, .rw, .live, 0⟩]⟩,
  ⟨0x05030004, 1, 0x0, 1, 0x0, [⟨0, 3, .ro, .live, 0⟩, ⟨4, 6, .ro, .live, 63⟩, ⟨10, 6, .ro, .live, 63⟩, ⟨16, 1, .ro, .live, 0⟩, ⟨17, 1, .ro, .live, 0⟩, ⟨18, 1, .ro, .live, 0⟩, ⟨19, 1, .ro, .live, 0⟩, ⟨20, 1, .ro, .live, 0⟩, ⟨21, 1, .ro, .live, 0⟩, ⟨22, 1, .ro, .live, 0⟩, ⟨23, 1, .ro, .live, 0⟩]⟩,
  ⟨0x05030008, 1, 0x0, 1, 0x0, [⟨0, 1, .w1c, .live, 0⟩, ⟨1, 1, .w1c, .live, 0⟩, ⟨2, 1, .w1c, .live, 0⟩, ⟨3, 1, .w1c, .live, 0⟩, ⟨4, 1, .w1c, .live, 0⟩, ⟨5, 1, .w1c, .live, 0⟩, ⟨6, 1, .w1c, .live, 0⟩, ⟨7, 1, .w1c, .live, 0⟩, ⟨8, 1, .w1c, .live, 0⟩, ⟨9, 1, .w1c, .live, 0⟩, ⟨10, 1, .w1c, .live, 0⟩]⟩,
  ⟨0x0503000C, 1, 0x0, 1, 0x0, [⟨0, 6, .wo, .hard, 0⟩, ⟨6, 1, .wo, .hard, 0⟩, ⟨7, 1, .wo, .hard, 0⟩]⟩,
  ⟨0x05030010, 1, 0x0, 1, 0x0, [⟨0, 6, .rw, .image, 63⟩]⟩,
  ⟨0x05030014, 1, 0x0, 1, 0x0, [⟨0, 16, .rw, .image, 300⟩]⟩,
  ⟨0x05030018, 1, 0x0, 1, 0x0, [⟨0, 3, .rw, .image, 2⟩, ⟨8, 8, .rw, .image, 16⟩, ⟨16, 4, .rw, .image, 4⟩]⟩,
  ⟨0x0503001C, 1, 0x0, 1, 0x0, [⟨0, 32, .rw, .image, 65536⟩]⟩,
  ⟨0x05030020, 1, 0x0, 1, 0x0, [⟨0, 32, .rw, .image, 655360⟩]⟩,
  ⟨0x05030024, 1, 0x0, 1, 0x0, [⟨0, 24, .rw, .image, 6554⟩]⟩,
  ⟨0x05030028, 1, 0x0, 1, 0x0, [⟨0, 16, .rw, .image, 4000⟩]⟩,
  ⟨0x05030030, 1, 0x0, 1, 0x0, [⟨0, 32, .rw, .image, 65536000⟩]⟩,
  ⟨0x05030034, 1, 0x0, 1, 0x0, [⟨0, 32, .rw, .image, 0⟩]⟩,
  ⟨0x05030038, 1, 0x0, 1, 0x0, [⟨0, 6, .ro, .live, 63⟩, ⟨6, 1, .ro, .live, 0⟩, ⟨8, 6, .ro, .live, 63⟩, ⟨14, 1, .ro, .live, 0⟩, ⟨16, 6, .ro, .live, 63⟩, ⟨22, 1, .ro, .live, 0⟩, ⟨24, 6, .ro, .live, 63⟩]⟩,
  ⟨0x0503003C, 1, 0x0, 1, 0x0, [⟨0, 6, .ro, .live, 63⟩]⟩]

def regs_seam_1 : List RegDef := [
  ⟨0x05030040, 1, 0x0, 1, 0x0, [⟨0, 32, .ro, .live, 0⟩]⟩,
  ⟨0x05030044, 1, 0x0, 1, 0x0, [⟨0, 32, .ro, .live, 0⟩]⟩,
  ⟨0x05030048, 1, 0x0, 1, 0x0, [⟨0, 32, .ro, .live, 0⟩]⟩,
  ⟨0x0503004C, 1, 0x0, 1, 0x0, [⟨0, 32, .ro, .live, 0⟩]⟩,
  ⟨0x05030050, 1, 0x0, 1, 0x0, [⟨0, 32, .ro, .live, 0⟩]⟩,
  ⟨0x05030054, 1, 0x0, 1, 0x0, [⟨0, 32, .ro, .live, 0⟩]⟩,
  ⟨0x05030058, 1, 0x0, 1, 0x0, [⟨0, 32, .ro, .live, 14073749⟩]⟩,
  ⟨0x0503005C, 1, 0x0, 1, 0x0, [⟨0, 32, .ro, .live, 0⟩]⟩,
  ⟨0x05030060, 1, 0x0, 1, 0x0, [⟨0, 32, .ro, .live, 0⟩]⟩,
  ⟨0x05030064, 1, 0x0, 1, 0x0, [⟨0, 32, .ro, .live, 0⟩]⟩,
  ⟨0x05030068, 1, 0x0, 1, 0x0, [⟨0, 32, .ro, .live, 0⟩]⟩,
  ⟨0x0503006C, 1, 0x0, 1, 0x0, [⟨0, 32, .ro, .live, 0⟩]⟩,
  ⟨0x05030070, 1, 0x0, 1, 0x0, [⟨0, 32, .ro, .live, 0⟩]⟩,
  ⟨0x05030074, 1, 0x0, 1, 0x0, [⟨0, 32, .ro, .live, 0⟩]⟩,
  ⟨0x05030080, 1, 0x0, 1, 0x0, [⟨0, 32, .ro, .live, 14073749⟩]⟩]

def regs_seam_2 : List RegDef := [
  ⟨0x05030084, 1, 0x0, 1, 0x0, [⟨0, 32, .ro, .live, 0⟩]⟩,
  ⟨0x05030078, 1, 0x0, 1, 0x0, [⟨0, 32, .ro, .live, 0⟩]⟩,
  ⟨0x0503007C, 1, 0x0, 1, 0x0, [⟨0, 32, .ro, .live, 0⟩]⟩,
  ⟨0x05030088, 1, 0x0, 1, 0x0, [⟨0, 32, .ro, .live, 56295⟩]⟩,
  ⟨0x0503008C, 1, 0x0, 1, 0x0, [⟨0, 32, .ro, .live, 1407⟩]⟩,
  ⟨0x050300A0, 1, 0x0, 1, 0x0, [⟨0, 32, .ro, .live, 0⟩]⟩,
  ⟨0x050300A8, 1, 0x0, 1, 0x0, [⟨0, 32, .ro, .live, 0⟩]⟩,
  ⟨0x05030090, 1, 0x0, 1, 0x0, [⟨0, 16, .rw, .image, 900⟩, ⟨16, 8, .rw, .image, 10⟩]⟩,
  ⟨0x05030094, 1, 0x0, 1, 0x0, [⟨0, 16, .rw, .image, 300⟩]⟩,
  ⟨0x05030098, 1, 0x0, 1, 0x0, [⟨0, 32, .rw, .image, 562950⟩]⟩,
  ⟨0x0503009C, 1, 0x0, 1, 0x0, [⟨0, 16, .ro, .live, 0⟩, ⟨16, 8, .ro, .live, 0⟩]⟩,
  ⟨0x050300A4, 1, 0x0, 1, 0x0, [⟨0, 16, .rw, .image, 60⟩]⟩,
  ⟨0x05030100, 1, 0x0, 1, 0x0, [⟨0, 32, .rw, .live, 0⟩]⟩,
  ⟨0x05030104, 1, 0x0, 1, 0x0, [⟨0, 32, .rw, .live, 0⟩]⟩,
  ⟨0x05030108, 1, 0x0, 1, 0x0, [⟨0, 32, .rw, .live, 0⟩]⟩]

def regs_seam_3 : List RegDef := [
  ⟨0x0503010C, 1, 0x0, 1, 0x0, [⟨0, 16, .rw, .live, 0⟩]⟩,
  ⟨0x05030110, 1, 0x0, 1, 0x0, [⟨0, 2, .wo, .hard, 0⟩, ⟨2, 1, .wo, .hard, 0⟩, ⟨3, 8, .wo, .hard, 0⟩, ⟨11, 6, .wo, .hard, 0⟩, ⟨31, 1, .wo, .hard, 0⟩]⟩,
  ⟨0x05030114, 1, 0x0, 1, 0x0, [⟨0, 3, .ro, .live, 0⟩, ⟨8, 8, .ro, .live, 0⟩]⟩,
  ⟨0x05030200, 48, 0x4, 1, 0x0, [⟨0, 4, .rw, .image, 15⟩, ⟨4, 1, .rw, .image, 0⟩]⟩,
  ⟨0x05030400, 80, 0x4, 1, 0x0, [⟨0, 32, .ro, .live, 0⟩]⟩]

/-- The registers of one block (seam). -/
def regs_seam : List RegDef := regs_seam_0 ++ regs_seam_1 ++ regs_seam_2 ++ regs_seam_3

def regs_synth_0 : List RegDef := [
  ⟨0x05040000, 1, 0x0, 1, 0x0, [⟨0, 8, .rw, .image, 80⟩]⟩,
  ⟨0x05040004, 1, 0x0, 1, 0x0, [⟨0, 32, .ro, .live, 0⟩]⟩,
  ⟨0x05040100, 4, 0x40, 1, 0x0, [⟨0, 8, .rw, .image, 125⟩, ⟨8, 5, .rw, .image, 15⟩, ⟨13, 3, .rw, .image, 0⟩, ⟨16, 5, .rw, .image, 12⟩, ⟨21, 4, .rw, .image, 4⟩, ⟨25, 4, .rw, .image, 2⟩, ⟨29, 1, .rw, .image, 0⟩]⟩,
  ⟨0x05040104, 4, 0x40, 1, 0x0, [⟨0, 1, .wo, .hard, 0⟩, ⟨1, 1, .wo, .hard, 0⟩, ⟨2, 1, .wo, .hard, 0⟩, ⟨3, 1, .wo, .hard, 0⟩, ⟨4, 1, .wo, .hard, 0⟩]⟩,
  ⟨0x05040108, 4, 0x40, 1, 0x0, [⟨0, 3, .ro, .live, 0⟩, ⟨3, 1, .ro, .live, 0⟩, ⟨4, 1, .ro, .live, 0⟩, ⟨8, 6, .ro, .live, 0⟩, ⟨16, 8, .ro, .live, 0⟩]⟩,
  ⟨0x0504010C, 4, 0x40, 1, 0x0, [⟨0, 1, .w1c, .live, 0⟩, ⟨1, 1, .w1c, .live, 0⟩, ⟨2, 1, .w1c, .live, 0⟩, ⟨3, 1, .w1c, .live, 0⟩, ⟨4, 1, .w1c, .live, 0⟩, ⟨5, 1, .w1c, .live, 0⟩, ⟨16, 16, .rc, .live, 0⟩]⟩,
  ⟨0x05040110, 4, 0x40, 1, 0x0, [⟨0, 2, .ro, .live, 0⟩, ⟨2, 1, .ro, .live, 0⟩, ⟨4, 2, .rw, .image, 0⟩, ⟨6, 1, .rw, .image, 0⟩, ⟨7, 1, .rw, .image, 1⟩]⟩,
  ⟨0x05040114, 4, 0x40, 1, 0x0, [⟨0, 16, .ro, .live, 0⟩]⟩,
  ⟨0x05040118, 4, 0x40, 1, 0x0, [⟨0, 32, .ro, .live, 0⟩]⟩,
  ⟨0x0504011C, 4, 0x40, 1, 0x0, [⟨0, 32, .ro, .live, 0⟩]⟩,
  ⟨0x05040120, 4, 0x40, 1, 0x0, [⟨0, 32, .ro, .live, 0⟩]⟩,
  ⟨0x05040124, 4, 0x40, 1, 0x0, [⟨0, 32, .ro, .live, 0⟩]⟩,
  ⟨0x05042800, 3, 0x800, 1, 0x0, [⟨0, 2, .rw, .image, 0⟩, ⟨2, 1, .rw, .image, 0⟩]⟩,
  ⟨0x05042804, 3, 0x800, 1, 0x0, [⟨0, 1, .wo, .hard, 0⟩, ⟨1, 1, .wo, .hard, 0⟩]⟩,
  ⟨0x05042808, 3, 0x800, 1, 0x0, [⟨0, 3, .ro, .live, 0⟩, ⟨8, 6, .ro, .live, 0⟩, ⟨16, 1, .w1c, .live, 0⟩]⟩]

def regs_synth_1 : List RegDef := [
  ⟨0x05041000, 4, 0x200, 64, 0x8, [⟨0, 8, .rw, .image, 0⟩, ⟨8, 8, .rw, .image, 0⟩, ⟨16, 4, .rw, .image, 0⟩, ⟨24, 8, .rw, .image, 0⟩]⟩,
  ⟨0x05041004, 4, 0x200, 64, 0x8, [⟨0, 5, .rw, .image, 0⟩, ⟨31, 1, .rw, .image, 0⟩]⟩,
  ⟨0x05042810, 3, 0x800, 1, 0x0, [⟨0, 32, .rw, .live, 0⟩]⟩,
  ⟨0x05042814, 3, 0x800, 1, 0x0, [⟨0, 32, .rw, .live, 0⟩]⟩,
  ⟨0x05042818, 3, 0x800, 1, 0x0, [⟨0, 32, .rw, .live, 0⟩]⟩,
  ⟨0x0504281C, 3, 0x800, 1, 0x0, [⟨0, 32, .ro, .live, 0⟩]⟩,
  ⟨0x05042820, 3, 0x800, 1, 0x0, [⟨0, 32, .ro, .live, 0⟩]⟩,
  ⟨0x05042C00, 3, 0x800, 64, 0x10, [⟨0, 32, .rw, .image, 0⟩]⟩,
  ⟨0x05042C04, 3, 0x800, 64, 0x10, [⟨0, 24, .rw, .image, 0⟩]⟩,
  ⟨0x05042C08, 3, 0x800, 64, 0x10, [⟨0, 24, .rw, .image, 0⟩]⟩,
  ⟨0x05042C0C, 3, 0x800, 64, 0x10, [⟨0, 1, .rw, .image, 0⟩]⟩]

/-- The registers of one block (synth). -/
def regs_synth : List RegDef := regs_synth_0 ++ regs_synth_1

def regs_outs_0 : List RegDef := [
  ⟨0x05050000, 1, 0x0, 1, 0x0, [⟨0, 1, .rw, .image, 0⟩]⟩,
  ⟨0x05050004, 1, 0x0, 1, 0x0, [⟨0, 24, .rw, .image, 0⟩]⟩,
  ⟨0x05050014, 1, 0x0, 1, 0x0, [⟨0, 1, .wo, .hard, 0⟩]⟩,
  ⟨0x05050018, 1, 0x0, 1, 0x0, [⟨0, 3, .ro, .live, 0⟩, ⟨3, 1, .w1c, .live, 0⟩, ⟨8, 8, .rc, .live, 0⟩, ⟨16, 8, .ro, .live, 0⟩]⟩,
  ⟨0x05050100, 24, 0x20, 1, 0x0, [⟨0, 1, .rw, .image, 0⟩, ⟨1, 3, .rw, .image, 0⟩]⟩,
  ⟨0x05050104, 24, 0x20, 1, 0x0, [⟨0, 13, .rw, .image, 125⟩, ⟨16, 13, .rw, .image, 1⟩]⟩,
  ⟨0x05050108, 24, 0x20, 1, 0x0, [⟨0, 12, .rw, .image, 0⟩, ⟨16, 12, .ro, .live, 0⟩]⟩,
  ⟨0x0505010C, 24, 0x20, 1, 0x0, [⟨0, 1, .ro, .live, 0⟩, ⟨1, 1, .ro, .live, 0⟩, ⟨2, 1, .ro, .live, 1⟩, ⟨3, 1, .w1c, .live, 0⟩, ⟨4, 1, .ro, .live, 0⟩]⟩,
  ⟨0x05050800, 8, 0x40, 1, 0x0, [⟨0, 1, .rw, .image, 0⟩, ⟨1, 2, .rw, .image, 0⟩, ⟨3, 2, .rw, .image, 0⟩, ⟨5, 1, .rw, .image, 0⟩, ⟨6, 3, .rw, .image, 0⟩, ⟨9, 1, .rw, .image, 0⟩, ⟨10, 10, .rw, .image, 0⟩]⟩,
  ⟨0x05050804, 8, 0x40, 1, 0x0, [⟨0, 30, .rw, .image, 20000000⟩]⟩,
  ⟨0x05050808, 8, 0x40, 1, 0x0, [⟨0, 32, .rw, .image, 0⟩]⟩,
  ⟨0x0505080C, 8, 0x40, 1, 0x0, [⟨0, 32, .rw, .image, 0⟩]⟩,
  ⟨0x05050810, 8, 0x40, 1, 0x0, [⟨0, 32, .ro, .live, 0⟩]⟩,
  ⟨0x05050814, 8, 0x40, 1, 0x0, [⟨0, 32, .ro, .live, 0⟩]⟩,
  ⟨0x05050818, 8, 0x40, 1, 0x0, [⟨0, 32, .rw, .live, 0⟩]⟩]

def regs_outs_1 : List RegDef := [
  ⟨0x0505081C, 8, 0x40, 1, 0x0, [⟨0, 32, .rw, .live, 0⟩]⟩,
  ⟨0x05050820, 8, 0x40, 1, 0x0, [⟨0, 32, .rw, .live, 0⟩]⟩,
  ⟨0x05050824, 8, 0x40, 1, 0x0, [⟨0, 32, .rw, .image, 0⟩]⟩,
  ⟨0x05050828, 8, 0x40, 1, 0x0, [⟨0, 16, .rw, .image, 0⟩]⟩,
  ⟨0x0505082C, 8, 0x40, 1, 0x0, [⟨0, 32, .rw, .image, 0⟩]⟩,
  ⟨0x05050830, 8, 0x40, 1, 0x0, [⟨0, 27, .rw, .live, 0⟩]⟩,
  ⟨0x05050834, 8, 0x40, 1, 0x0, [⟨0, 1, .ro, .live, 0⟩, ⟨8, 1, .w1c, .live, 0⟩, ⟨9, 1, .w1c, .live, 0⟩, ⟨10, 1, .w1c, .live, 0⟩]⟩,
  ⟨0x05050838, 8, 0x40, 1, 0x0, [⟨0, 1, .wo, .hard, 0⟩, ⟨1, 1, .wo, .hard, 0⟩]⟩,
  ⟨0x05050008, 1, 0x0, 1, 0x0, [⟨0, 32, .rw, .live, 0⟩]⟩,
  ⟨0x0505000C, 1, 0x0, 1, 0x0, [⟨0, 32, .rw, .live, 0⟩]⟩,
  ⟨0x05050010, 1, 0x0, 1, 0x0, [⟨0, 32, .rw, .live, 0⟩]⟩,
  ⟨0x05050020, 1, 0x0, 1, 0x0, [⟨0, 32, .ro, .live, 0⟩]⟩,
  ⟨0x05050024, 1, 0x0, 1, 0x0, [⟨0, 32, .ro, .live, 0⟩]⟩,
  ⟨0x05050028, 1, 0x0, 1, 0x0, [⟨0, 32, .ro, .live, 0⟩]⟩]

/-- The registers of one block (outs). -/
def regs_outs : List RegDef := regs_outs_0 ++ regs_outs_1

def regs_tdc_0 : List RegDef := [
  ⟨0x05060000, 1, 0x0, 1, 0x0, [⟨0, 1, .ro, .live, 1⟩, ⟨1, 1, .ro, .live, 0⟩, ⟨8, 4, .ro, .live, 15⟩]⟩,
  ⟨0x05060004, 1, 0x0, 1, 0x0, [⟨0, 1, .w1c, .live, 0⟩, ⟨1, 1, .w1c, .live, 0⟩, ⟨2, 1, .w1c, .live, 0⟩, ⟨3, 1, .w1c, .live, 0⟩, ⟨4, 1, .w1c, .live, 0⟩, ⟨5, 1, .w1c, .live, 0⟩]⟩,
  ⟨0x05060008, 1, 0x0, 1, 0x0, [⟨0, 8, .rw, .image, 50⟩, ⟨8, 1, .rw, .image, 1⟩, ⟨9, 1, .rw, .image, 1⟩, ⟨12, 2, .rw, .image, 1⟩, ⟨16, 16, .rw, .image, 262⟩]⟩,
  ⟨0x0506000C, 1, 0x0, 1, 0x0, [⟨0, 7, .wo, .hard, 0⟩, ⟨31, 1, .wo, .hard, 0⟩]⟩,
  ⟨0x05060010, 1, 0x0, 1, 0x0, [⟨0, 4, .ro, .live, 0⟩, ⟨4, 1, .ro, .live, 0⟩, ⟨8, 7, .ro, .live, 0⟩, ⟨16, 8, .ro, .live, 0⟩]⟩,
  ⟨0x05060020, 1, 0x0, 1, 0x0, [⟨0, 32, .ro, .live, 0⟩]⟩,
  ⟨0x05060024, 1, 0x0, 1, 0x0, [⟨0, 16, .ro, .live, 0⟩]⟩,
  ⟨0x05060028, 1, 0x0, 1, 0x0, [⟨0, 16, .ro, .live, 0⟩]⟩,
  ⟨0x05060040, 4, 0x4, 1, 0x0, [⟨0, 7, .ro, .live, 127⟩, ⟨8, 2, .ro, .live, 0⟩]⟩,
  ⟨0x05061000, 104, 0x20, 1, 0x0, [⟨0, 1, .rw, .image, 0⟩, ⟨1, 2, .rw, .image, 0⟩, ⟨3, 1, .rw, .image, 1⟩, ⟨4, 2, .rw, .image, 0⟩, ⟨8, 5, .rw, .image, 0⟩]⟩,
  ⟨0x05061004, 104, 0x20, 1, 0x0, [⟨0, 25, .rw, .image, 1⟩]⟩,
  ⟨0x05061008, 104, 0x20, 1, 0x0, [⟨0, 32, .rw, .image, 0⟩]⟩,
  ⟨0x0506100C, 104, 0x20, 1, 0x0, [⟨0, 7, .ro, .live, 0⟩, ⟨8, 1, .ro, .live, 0⟩, ⟨9, 2, .ro, .live, 0⟩, ⟨11, 1, .ro, .live, 0⟩, ⟨12, 1, .ro, .live, 0⟩, ⟨16, 16, .ro, .live, 0⟩]⟩,
  ⟨0x05061010, 104, 0x20, 1, 0x0, [⟨0, 1, .w1c, .live, 0⟩, ⟨1, 1, .w1c, .live, 0⟩, ⟨2, 1, .w1c, .live, 0⟩, ⟨3, 1, .w1c, .live, 0⟩]⟩,
  ⟨0x05061014, 104, 0x20, 1, 0x0, [⟨0, 32, .rc, .live, 0⟩]⟩]

def regs_tdc_1 : List RegDef := [
  ⟨0x05061018, 104, 0x20, 1, 0x0, [⟨0, 32, .rc, .live, 0⟩]⟩,
  ⟨0x0506101C, 104, 0x20, 1, 0x0, [⟨0, 16, .ro, .live, 0⟩, ⟨16, 8, .ro, .live, 0⟩]⟩]

/-- The registers of one block (tdc). -/
def regs_tdc : List RegDef := regs_tdc_0 ++ regs_tdc_1

def regs_links_0 : List RegDef := [
  ⟨0x05080000, 32, 0x1000, 1, 0x0, [⟨0, 1, .rw, .image, 0⟩, ⟨1, 2, .rw, .image, 1⟩, ⟨3, 2, .rw, .image, 0⟩, ⟨5, 1, .rw, .image, 1⟩, ⟨6, 1, .rw, .image, 0⟩, ⟨7, 2, .rw, .image, 0⟩, ⟨9, 1, .rw, .image, 0⟩, ⟨10, 1, .rw, .image, 0⟩, ⟨11, 1, .rw, .image, 1⟩]⟩,
  ⟨0x05080004, 32, 0x1000, 1, 0x0, [⟨0, 1, .wo, .hard, 0⟩, ⟨1, 1, .wo, .hard, 0⟩, ⟨2, 1, .wo, .hard, 0⟩]⟩,
  ⟨0x05080008, 32, 0x1000, 1, 0x0, [⟨0, 3, .ro, .live, 0⟩, ⟨3, 1, .ro, .live, 0⟩, ⟨4, 1, .ro, .live, 0⟩, ⟨5, 1, .ro, .live, 0⟩, ⟨6, 1, .ro, .live, 0⟩, ⟨7, 1, .ro, .live, 1⟩, ⟨8, 1, .ro, .live, 0⟩, ⟨9, 1, .ro, .live, 0⟩, ⟨10, 1, .ro, .live, 0⟩, ⟨11, 1, .ro, .live, 0⟩, ⟨12, 1, .ro, .live, 0⟩]⟩,
  ⟨0x0508000C, 32, 0x1000, 1, 0x0, [⟨0, 1, .w1c, .live, 0⟩, ⟨1, 1, .w1c, .live, 0⟩, ⟨2, 1, .w1c, .live, 0⟩, ⟨3, 1, .w1c, .live, 0⟩, ⟨4, 1, .w1c, .live, 0⟩, ⟨5, 1, .w1c, .live, 0⟩, ⟨6, 1, .w1c, .live, 0⟩, ⟨7, 1, .w1c, .live, 0⟩, ⟨8, 1, .w1c, .live, 0⟩, ⟨9, 1, .w1c, .live, 0⟩]⟩,
  ⟨0x05080010, 32, 0x1000, 1, 0x0, [⟨0, 8, .rw, .image, 0⟩, ⟨8, 1, .rw, .image, 1⟩, ⟨9, 1, .rw, .image, 1⟩, ⟨12, 12, .rw, .image, 0⟩]⟩,
  ⟨0x05080014, 32, 0x1000, 1, 0x0, [⟨0, 16, .rw, .image, 1000⟩]⟩,
  ⟨0x05080018, 32, 0x1000, 1, 0x0, [⟨0, 32, .rw, .image, 0⟩]⟩,
  ⟨0x0508001C, 32, 0x1000, 1, 0x0, [⟨0, 16, .rw, .image, 0⟩]⟩,
  ⟨0x05080020, 32, 0x1000, 1, 0x0, [⟨0, 4, .ro, .live, 15⟩, ⟨4, 1, .ro, .live, 0⟩, ⟨5, 1, .ro, .live, 0⟩]⟩,
  ⟨0x05080024, 32, 0x1000, 1, 0x0, [⟨0, 32, .rw, .image, 2147483648⟩]⟩,
  ⟨0x05080028, 32, 0x1000, 1, 0x0, [⟨0, 10, .rw, .image, 100⟩]⟩,
  ⟨0x0508002C, 32, 0x1000, 1, 0x0, [⟨0, 24, .rw, .live, 0⟩]⟩,
  ⟨0x05080030, 32, 0x1000, 1, 0x0, [⟨0, 32, .ro, .live, 0⟩]⟩,
  ⟨0x05080034, 32, 0x1000, 1, 0x0, [⟨0, 32, .ro, .live, 0⟩]⟩,
  ⟨0x05080038, 32, 0x1000, 1, 0x0, [⟨0, 32, .ro, .live, 0⟩]⟩]

def regs_links_1 : List RegDef := [
  ⟨0x0508003C, 32, 0x1000, 1, 0x0, [⟨0, 32, .ro, .live, 0⟩]⟩,
  ⟨0x05080040, 32, 0x1000, 1, 0x0, [⟨0, 32, .ro, .live, 0⟩]⟩,
  ⟨0x05080044, 32, 0x1000, 1, 0x0, [⟨0, 32, .ro, .live, 0⟩]⟩,
  ⟨0x05080080, 32, 0x1000, 1, 0x0, [⟨0, 32, .rc, .live, 0⟩]⟩,
  ⟨0x05080084, 32, 0x1000, 1, 0x0, [⟨0, 32, .rc, .live, 0⟩]⟩,
  ⟨0x05080088, 32, 0x1000, 1, 0x0, [⟨0, 32, .rc, .live, 0⟩]⟩,
  ⟨0x0508008C, 32, 0x1000, 1, 0x0, [⟨0, 32, .rc, .live, 0⟩]⟩,
  ⟨0x05080090, 32, 0x1000, 1, 0x0, [⟨0, 32, .rc, .live, 0⟩]⟩,
  ⟨0x05080094, 32, 0x1000, 1, 0x0, [⟨0, 32, .rc, .live, 0⟩]⟩,
  ⟨0x05080098, 32, 0x1000, 1, 0x0, [⟨0, 32, .rc, .live, 0⟩]⟩,
  ⟨0x0508009C, 32, 0x1000, 1, 0x0, [⟨0, 32, .rc, .live, 0⟩]⟩,
  ⟨0x05080100, 32, 0x1000, 5, 0x8, [⟨0, 8, .rw, .image, 0⟩, ⟨8, 8, .rw, .image, 0⟩, ⟨16, 16, .rw, .image, 0⟩]⟩,
  ⟨0x05080104, 32, 0x1000, 5, 0x8, [⟨0, 4, .rw, .image, 0⟩, ⟨4, 1, .rw, .image, 0⟩]⟩,
  ⟨0x05080400, 32, 0x1000, 64, 0x10, [⟨0, 32, .rw, .image, 0⟩]⟩,
  ⟨0x05080404, 32, 0x1000, 64, 0x10, [⟨0, 32, .rw, .image, 0⟩]⟩]

def regs_links_2 : List RegDef := [
  ⟨0x05080408, 32, 0x1000, 64, 0x10, [⟨0, 16, .rw, .image, 0⟩, ⟨16, 1, .rw, .image, 0⟩, ⟨17, 1, .rw, .image, 0⟩]⟩]

/-- The registers of one block (links). -/
def regs_links : List RegDef := regs_links_0 ++ regs_links_1 ++ regs_links_2

def regs_epdir_0 : List RegDef := [
  ⟨0x050A0000, 1, 0x0, 1, 0x0, [⟨0, 8, .rw, .image, 8⟩, ⟨8, 4, .rw, .image, 4⟩, ⟨12, 1, .rw, .image, 0⟩]⟩,
  ⟨0x050A0004, 1, 0x0, 1, 0x0, [⟨0, 32, .rw, .image, 4294967295⟩]⟩,
  ⟨0x050A0008, 1, 0x0, 1, 0x0, [⟨0, 18, .ro, .live, 0⟩, ⟨18, 1, .ro, .live, 0⟩]⟩,
  ⟨0x050A000C, 1, 0x0, 1, 0x0, [⟨0, 1, .w1c, .live, 0⟩, ⟨1, 1, .w1c, .live, 0⟩, ⟨2, 1, .w1c, .live, 0⟩]⟩,
  ⟨0x050A0010, 1, 0x0, 1, 0x0, [⟨0, 32, .rc, .live, 0⟩]⟩,
  ⟨0x050A0014, 1, 0x0, 1, 0x0, [⟨0, 32, .rc, .live, 0⟩]⟩,
  ⟨0x050A0018, 1, 0x0, 1, 0x0, [⟨0, 32, .rc, .live, 0⟩]⟩,
  ⟨0x050A0100, 9, 0x20, 1, 0x0, [⟨0, 32, .rw, .live, 0⟩]⟩,
  ⟨0x050A0104, 9, 0x20, 1, 0x0, [⟨0, 32, .rw, .live, 0⟩]⟩,
  ⟨0x050A0108, 9, 0x20, 1, 0x0, [⟨0, 16, .rw, .live, 0⟩, ⟨16, 5, .rw, .live, 0⟩]⟩,
  ⟨0x050A010C, 9, 0x20, 1, 0x0, [⟨0, 17, .rw, .live, 0⟩]⟩,
  ⟨0x050A0110, 9, 0x20, 1, 0x0, [⟨0, 2, .wo, .hard, 0⟩, ⟨31, 1, .wo, .hard, 0⟩]⟩,
  ⟨0x050A0114, 9, 0x20, 1, 0x0, [⟨0, 3, .ro, .live, 0⟩, ⟨3, 1, .ro, .live, 0⟩, ⟨8, 8, .ro, .live, 0⟩]⟩,
  ⟨0x050A0118, 9, 0x20, 1, 0x0, [⟨0, 17, .ro, .live, 0⟩, ⟨17, 1, .ro, .live, 0⟩]⟩]

/-- The registers of one block (epdir). -/
def regs_epdir : List RegDef := regs_epdir_0

def regs_eng_0 : List RegDef := [
  ⟨0x050B0000, 1, 0x0, 1, 0x0, [⟨0, 8, .ro, .live, 255⟩, ⟨8, 8, .ro, .live, 0⟩, ⟨16, 8, .ro, .live, 0⟩]⟩,
  ⟨0x050B0004, 1, 0x0, 1, 0x0, [⟨0, 1, .w1c, .live, 0⟩, ⟨1, 1, .w1c, .live, 0⟩]⟩,
  ⟨0x050B0010, 1, 0x0, 1, 0x0, [⟨0, 6, .wo, .hard, 0⟩, ⟨8, 3, .wo, .hard, 0⟩, ⟨31, 1, .wo, .hard, 0⟩]⟩,
  ⟨0x050B0014, 1, 0x0, 1, 0x0, [⟨0, 3, .ro, .live, 0⟩, ⟨8, 8, .ro, .live, 0⟩]⟩,
  ⟨0x050B0100, 64, 0x8, 1, 0x0, [⟨0, 4, .ro, .live, 0⟩, ⟨8, 8, .ro, .live, 1⟩, ⟨16, 1, .ro, .image, 0⟩]⟩,
  ⟨0x050B0104, 64, 0x8, 1, 0x0, [⟨0, 4, .rw, .image, 0⟩, ⟨4, 4, .rw, .image, 0⟩, ⟨8, 4, .rw, .image, 0⟩]⟩,
  ⟨0x050B1000, 8, 0x100, 1, 0x0, [⟨0, 1, .rw, .image, 1⟩]⟩,
  ⟨0x050B1004, 8, 0x100, 1, 0x0, [⟨0, 1, .wo, .hard, 0⟩, ⟨1, 1, .wo, .hard, 0⟩, ⟨2, 1, .wo, .hard, 0⟩]⟩,
  ⟨0x050B1008, 8, 0x100, 1, 0x0, [⟨0, 3, .ro, .live, 1⟩, ⟨8, 5, .ro, .live, 0⟩]⟩,
  ⟨0x050B100C, 8, 0x100, 1, 0x0, [⟨0, 1, .w1c, .live, 0⟩, ⟨1, 1, .w1c, .live, 0⟩, ⟨2, 1, .w1c, .live, 0⟩, ⟨3, 1, .w1c, .live, 0⟩, ⟨4, 1, .w1c, .live, 0⟩]⟩,
  ⟨0x050B1010, 8, 0x100, 1, 0x0, [⟨0, 16, .rw, .image, 2000⟩]⟩,
  ⟨0x050B1014, 8, 0x100, 1, 0x0, [⟨0, 32, .ro, .live, 0⟩]⟩,
  ⟨0x050B1018, 8, 0x100, 1, 0x0, [⟨0, 18, .rw, .image, 0⟩]⟩,
  ⟨0x050B101C, 8, 0x100, 1, 0x0, [⟨0, 8, .rc, .live, 0⟩, ⟨8, 8, .rc, .live, 0⟩, ⟨16, 8, .rc, .live, 0⟩, ⟨24, 8, .rc, .live, 0⟩]⟩,
  ⟨0x050B1020, 8, 0x100, 1, 0x0, [⟨0, 16, .rw, .image, 2000⟩, ⟨16, 8, .rw, .image, 32⟩]⟩]

def regs_eng_1 : List RegDef := [
  ⟨0x050B1024, 8, 0x100, 1, 0x0, [⟨0, 5, .ro, .live, 0⟩, ⟨16, 16, .rc, .live, 0⟩]⟩,
  ⟨0x050B1028, 8, 0x100, 1, 0x0, [⟨0, 32, .rc, .live, 0⟩]⟩,
  ⟨0x050B102C, 8, 0x100, 1, 0x0, [⟨0, 32, .w1c, .live, 0⟩]⟩,
  ⟨0x050B1030, 8, 0x100, 1, 0x0, [⟨0, 32, .w1c, .live, 0⟩]⟩,
  ⟨0x050B1034, 8, 0x100, 1, 0x0, [⟨0, 32, .w1c, .live, 0⟩]⟩,
  ⟨0x050B1038, 8, 0x100, 1, 0x0, [⟨0, 32, .w1c, .live, 0⟩]⟩,
  ⟨0x050B1040, 8, 0x100, 4, 0x4, [⟨0, 18, .rw, .image, 0⟩, ⟨31, 1, .rw, .image, 1⟩]⟩,
  ⟨0x050B1060, 8, 0x100, 4, 0x8, [⟨0, 18, .ro, .live, 0⟩, ⟨18, 3, .ro, .live, 0⟩, ⟨24, 4, .ro, .live, 0⟩]⟩,
  ⟨0x050B1064, 8, 0x100, 4, 0x8, [⟨0, 32, .ro, .live, 0⟩]⟩,
  ⟨0x050B1080, 8, 0x100, 4, 0x10, [⟨0, 32, .rw, .live, 0⟩]⟩,
  ⟨0x050B1084, 8, 0x100, 4, 0x10, [⟨0, 32, .rw, .live, 0⟩]⟩,
  ⟨0x050B1088, 8, 0x100, 4, 0x10, [⟨0, 32, .rw, .live, 0⟩]⟩]

/-- The registers of one block (eng). -/
def regs_eng : List RegDef := regs_eng_0 ++ regs_eng_1

def regs_rings_0 : List RegDef := [
  ⟨0x050C0000, 4, 0x4, 1, 0x0, [⟨0, 32, .ro, .live, 0⟩]⟩,
  ⟨0x050C0010, 1, 0x0, 1, 0x0, [⟨0, 1, .w1c, .live, 0⟩]⟩,
  ⟨0x050C1000, 128, 0x20, 1, 0x0, [⟨0, 1, .rw, .image, 0⟩, ⟨1, 1, .rw, .live, 0⟩, ⟨2, 2, .rw, .image, 0⟩, ⟨4, 5, .rw, .image, 0⟩, ⟨9, 1, .rw, .image, 0⟩]⟩,
  ⟨0x050C1004, 128, 0x20, 1, 0x0, [⟨0, 22, .rw, .image, 0⟩]⟩,
  ⟨0x050C1008, 128, 0x20, 1, 0x0, [⟨0, 6, .rw, .image, 0⟩, ⟨6, 2, .rw, .image, 0⟩, ⟨8, 6, .rw, .image, 0⟩, ⟨16, 16, .rw, .image, 0⟩]⟩,
  ⟨0x050C100C, 128, 0x20, 1, 0x0, [⟨0, 6, .rw, .image, 0⟩, ⟨6, 2, .rw, .image, 0⟩, ⟨8, 6, .rw, .image, 0⟩, ⟨16, 16, .rw, .image, 0⟩]⟩,
  ⟨0x050C1010, 128, 0x20, 1, 0x0, [⟨0, 17, .ro, .live, 0⟩]⟩,
  ⟨0x050C1014, 128, 0x20, 1, 0x0, [⟨0, 17, .ro, .live, 0⟩]⟩,
  ⟨0x050C1018, 128, 0x20, 1, 0x0, [⟨0, 17, .wo, .hard, 0⟩]⟩,
  ⟨0x050C101C, 128, 0x20, 1, 0x0, [⟨0, 1, .w1c, .live, 0⟩, ⟨1, 1, .w1c, .live, 0⟩, ⟨2, 1, .w1c, .live, 0⟩, ⟨3, 1, .w1c, .live, 0⟩, ⟨4, 1, .w1c, .live, 0⟩, ⟨16, 16, .rc, .live, 0⟩]⟩]

/-- The registers of one block (rings). -/
def regs_rings : List RegDef := regs_rings_0

def regs_banks_0 : List RegDef := [
  ⟨0x050D0000, 1, 0x0, 1, 0x0, [⟨0, 5, .wo, .hard, 0⟩, ⟨8, 1, .wo, .hard, 0⟩, ⟨31, 1, .wo, .hard, 0⟩]⟩,
  ⟨0x050D0004, 1, 0x0, 1, 0x0, [⟨0, 4, .ro, .live, 0⟩, ⟨8, 5, .ro, .live, 0⟩, ⟨16, 8, .ro, .live, 0⟩, ⟨24, 5, .ro, .live, 0⟩]⟩,
  ⟨0x050D0008, 1, 0x0, 1, 0x0, [⟨0, 20, .ro, .live, 0⟩]⟩,
  ⟨0x050D000C, 1, 0x0, 1, 0x0, [⟨0, 1, .w1c, .live, 0⟩]⟩,
  ⟨0x050D1000, 29, 0x80, 1, 0x0, [⟨0, 2, .rw, .image, 0⟩, ⟨2, 1, .rw, .image, 0⟩, ⟨3, 1, .rw, .image, 0⟩]⟩,
  ⟨0x050D1004, 29, 0x80, 1, 0x0, [⟨0, 2, .ro, .live, 0⟩, ⟨2, 1, .ro, .live, 0⟩, ⟨3, 1, .ro, .live, 0⟩, ⟨4, 1, .ro, .live, 0⟩, ⟨8, 5, .ro, .live, 0⟩]⟩,
  ⟨0x050D1008, 29, 0x80, 1, 0x0, [⟨0, 1, .w1c, .live, 0⟩, ⟨1, 1, .w1c, .live, 0⟩, ⟨2, 1, .w1c, .live, 0⟩, ⟨3, 1, .w1c, .live, 0⟩, ⟨4, 1, .w1c, .live, 0⟩, ⟨5, 1, .w1c, .live, 0⟩, ⟨6, 1, .w1c, .live, 0⟩]⟩,
  ⟨0x050D100C, 29, 0x80, 1, 0x0, [⟨0, 32, .rc, .live, 0⟩]⟩,
  ⟨0x050D1010, 29, 0x80, 1, 0x0, [⟨0, 32, .rc, .live, 0⟩]⟩,
  ⟨0x050D1014, 29, 0x80, 1, 0x0, [⟨0, 32, .rc, .live, 0⟩]⟩,
  ⟨0x050D1018, 29, 0x80, 1, 0x0, [⟨0, 32, .rc, .live, 0⟩]⟩,
  ⟨0x050D101C, 29, 0x80, 1, 0x0, [⟨0, 22, .ro, .live, 0⟩]⟩,
  ⟨0x050D1040, 29, 0x80, 16, 0x4, [⟨0, 12, .ro, .live, 0⟩, ⟨12, 2, .ro, .live, 0⟩, ⟨15, 1, .ro, .live, 0⟩]⟩]

/-- The registers of one block (banks). -/
def regs_banks : List RegDef := regs_banks_0

def regs_flt_0 : List RegDef := [
  ⟨0x050E0000, 1, 0x0, 1, 0x0, [⟨0, 1, .ro, .live, 0⟩, ⟨1, 1, .ro, .live, 0⟩, ⟨2, 1, .ro, .live, 0⟩, ⟨8, 10, .ro, .live, 0⟩]⟩,
  ⟨0x050E0004, 1, 0x0, 1, 0x0, [⟨0, 1, .w1c, .live, 0⟩, ⟨1, 1, .w1c, .live, 0⟩, ⟨2, 1, .w1c, .live, 0⟩, ⟨3, 1, .w1c, .live, 0⟩, ⟨4, 1, .w1c, .live, 0⟩, ⟨5, 1, .w1c, .live, 0⟩, ⟨6, 1, .w1c, .live, 0⟩]⟩,
  ⟨0x050E0008, 1, 0x0, 1, 0x0, [⟨0, 6, .rw, .image, 63⟩, ⟨6, 1, .rw, .image, 1⟩, ⟨7, 1, .rw, .image, 0⟩]⟩,
  ⟨0x050E0010, 1, 0x0, 1, 0x0, [⟨0, 9, .ro, .live, 0⟩, ⟨9, 2, .ro, .live, 0⟩, ⟨16, 8, .ro, .live, 0⟩, ⟨31, 1, .w1c, .live, 0⟩]⟩,
  ⟨0x050E0100, 16, 0x10, 1, 0x0, [⟨0, 9, .ro, .live, 0⟩, ⟨9, 2, .ro, .live, 0⟩, ⟨16, 8, .ro, .live, 0⟩, ⟨31, 1, .ro, .live, 0⟩]⟩,
  ⟨0x050E0014, 1, 0x0, 1, 0x0, [⟨0, 32, .ro, .live, 0⟩]⟩,
  ⟨0x050E0104, 16, 0x10, 1, 0x0, [⟨0, 32, .ro, .live, 0⟩]⟩,
  ⟨0x050E0018, 1, 0x0, 1, 0x0, [⟨0, 32, .ro, .live, 0⟩]⟩,
  ⟨0x050E0108, 16, 0x10, 1, 0x0, [⟨0, 32, .ro, .live, 0⟩]⟩,
  ⟨0x050E001C, 1, 0x0, 1, 0x0, [⟨0, 32, .ro, .live, 0⟩]⟩,
  ⟨0x050E010C, 16, 0x10, 1, 0x0, [⟨0, 32, .ro, .live, 0⟩]⟩,
  ⟨0x050E0020, 1, 0x0, 1, 0x0, [⟨0, 5, .ro, .live, 0⟩, ⟨16, 16, .rc, .live, 0⟩]⟩,
  ⟨0x050E0024, 1, 0x0, 1, 0x0, [⟨0, 5, .wo, .hard, 0⟩]⟩,
  ⟨0x050E0030, 1, 0x0, 1, 0x0, [⟨0, 9, .wo, .hard, 0⟩, ⟨31, 1, .wo, .hard, 0⟩]⟩,
  ⟨0x050E0034, 1, 0x0, 1, 0x0, [⟨0, 3, .ro, .live, 0⟩, ⟨8, 8, .ro, .live, 0⟩]⟩]

def regs_flt_1 : List RegDef := [
  ⟨0x050E0040, 1, 0x0, 1, 0x0, [⟨0, 9, .wo, .hard, 0⟩, ⟨9, 2, .wo, .hard, 0⟩, ⟨11, 1, .wo, .hard, 0⟩, ⟨31, 1, .wo, .hard, 0⟩]⟩,
  ⟨0x050E0044, 1, 0x0, 1, 0x0, [⟨0, 32, .rc, .live, 0⟩]⟩,
  ⟨0x050E1000, 408, 0x8, 1, 0x0, [⟨0, 2, .ro, .live, 1⟩, ⟨2, 1, .ro, .live, 0⟩, ⟨3, 1, .ro, .live, 0⟩, ⟨4, 2, .ro, .live, 0⟩, ⟨8, 8, .ro, .live, 0⟩, ⟨16, 8, .ro, .live, 0⟩, ⟨24, 8, .rc, .live, 0⟩]⟩,
  ⟨0x050E1004, 408, 0x8, 1, 0x0, [⟨0, 8, .rw, .image, 0⟩, ⟨8, 3, .rw, .image, 0⟩, ⟨11, 1, .rw, .image, 1⟩, ⟨12, 6, .rw, .image, 19⟩]⟩]

/-- The registers of one block (flt). -/
def regs_flt : List RegDef := regs_flt_0 ++ regs_flt_1

def regs_pwr_0 : List RegDef := [
  ⟨0x050F0000, 1, 0x0, 1, 0x0, [⟨0, 3, .ro, .live, 0⟩, ⟨3, 1, .ro, .live, 0⟩, ⟨4, 1, .ro, .live, 0⟩, ⟨5, 1, .ro, .live, 0⟩, ⟨6, 1, .ro, .live, 0⟩, ⟨7, 1, .ro, .live, 0⟩]⟩,
  ⟨0x050F0004, 1, 0x0, 1, 0x0, [⟨0, 1, .w1c, .live, 0⟩, ⟨1, 1, .w1c, .live, 0⟩, ⟨2, 1, .w1c, .live, 0⟩, ⟨3, 1, .w1c, .live, 0⟩, ⟨4, 1, .w1c, .live, 0⟩, ⟨5, 1, .w1c, .live, 0⟩]⟩,
  ⟨0x050F0008, 1, 0x0, 1, 0x0, [⟨0, 3, .wo, .hard, 0⟩, ⟨31, 1, .wo, .hard, 0⟩]⟩,
  ⟨0x050F000C, 1, 0x0, 1, 0x0, [⟨0, 3, .ro, .live, 0⟩, ⟨8, 8, .ro, .live, 0⟩]⟩,
  ⟨0x050F0010, 1, 0x0, 1, 0x0, [⟨0, 1, .rw, .image, 0⟩, ⟨1, 1, .rw, .image, 1⟩, ⟨2, 1, .rw, .image, 1⟩, ⟨3, 1, .rw, .image, 1⟩, ⟨4, 1, .rw, .live, 0⟩, ⟨5, 1, .rw, .image, 0⟩]⟩,
  ⟨0x050F0014, 1, 0x0, 1, 0x0, [⟨0, 29, .rw, .image, 0⟩]⟩,
  ⟨0x050F0018, 1, 0x0, 1, 0x0, [⟨0, 4, .ro, .live, 0⟩, ⟨4, 1, .ro, .live, 0⟩, ⟨5, 1, .ro, .live, 0⟩, ⟨8, 3, .ro, .live, 0⟩, ⟨16, 5, .ro, .live, 0⟩]⟩,
  ⟨0x050F0030, 1, 0x0, 1, 0x0, [⟨0, 32, .rw, .live, 0⟩]⟩,
  ⟨0x050F0034, 1, 0x0, 1, 0x0, [⟨0, 32, .rw, .live, 0⟩]⟩,
  ⟨0x050F0038, 1, 0x0, 1, 0x0, [⟨0, 32, .ro, .live, 0⟩]⟩,
  ⟨0x050F003C, 1, 0x0, 1, 0x0, [⟨0, 16, .ro, .live, 0⟩]⟩,
  ⟨0x050F0020, 1, 0x0, 1, 0x0, [⟨0, 32, .rw, .live, 0⟩]⟩,
  ⟨0x050F0024, 1, 0x0, 1, 0x0, [⟨0, 32, .rw, .live, 0⟩]⟩,
  ⟨0x050F0028, 1, 0x0, 1, 0x0, [⟨0, 32, .rw, .live, 0⟩]⟩,
  ⟨0x050F0100, 18, 0x4, 1, 0x0, [⟨0, 32, .rc, .live, 0⟩]⟩]

def regs_pwr_1 : List RegDef := [
  ⟨0x050F0148, 1, 0x0, 1, 0x0, [⟨0, 32, .rc, .live, 0⟩]⟩]

/-- The registers of one block (pwr). -/
def regs_pwr : List RegDef := regs_pwr_0 ++ regs_pwr_1

def regs_hostif_0 : List RegDef := [
  ⟨0x05100000, 1, 0x0, 1, 0x0, [⟨0, 1, .w1c, .live, 0⟩, ⟨1, 1, .w1c, .live, 0⟩, ⟨2, 1, .w1c, .live, 0⟩, ⟨3, 1, .w1c, .live, 0⟩, ⟨4, 1, .w1c, .live, 0⟩, ⟨5, 1, .w1c, .live, 0⟩, ⟨6, 2, .ro, .live, 0⟩, ⟨8, 1, .ro, .live, 0⟩, ⟨9, 3, .ro, .live, 0⟩, ⟨12, 3, .ro, .live, 0⟩]⟩,
  ⟨0x05100004, 1, 0x0, 1, 0x0, [⟨0, 1, .ro, .image, 1⟩, ⟨1, 1, .ro, .image, 1⟩, ⟨2, 1, .ro, .image, 0⟩, ⟨3, 1, .ro, .image, 1⟩, ⟨4, 1, .ro, .image, 1⟩, ⟨8, 1, .ro, .image, 1⟩, ⟨9, 1, .ro, .image, 1⟩, ⟨10, 1, .ro, .image, 1⟩, ⟨11, 1, .ro, .image, 1⟩]⟩,
  ⟨0x05100008, 1, 0x0, 1, 0x0, [⟨0, 16, .rw, .image, 4000⟩, ⟨16, 8, .rw, .image, 64⟩]⟩,
  ⟨0x0510000C, 1, 0x0, 1, 0x0, [⟨0, 5, .ro, .live, 0⟩, ⟨16, 16, .rc, .live, 0⟩]⟩,
  ⟨0x05100010, 1, 0x0, 1, 0x0, [⟨0, 16, .ro, .factory, 0⟩, ⟨16, 16, .ro, .hard, 38962⟩]⟩,
  ⟨0x05100014, 1, 0x0, 1, 0x0, [⟨0, 16, .ro, .image, 0⟩, ⟨16, 16, .ro, .image, 0⟩]⟩,
  ⟨0x05100018, 1, 0x0, 1, 0x0, [⟨0, 1, .w1c, .live, 0⟩, ⟨1, 1, .w1c, .live, 0⟩, ⟨2, 1, .w1c, .live, 0⟩, ⟨3, 1, .w1c, .live, 0⟩]⟩,
  ⟨0x05100040, 1, 0x0, 1, 0x0, [⟨0, 32, .w1c, .live, 0⟩]⟩,
  ⟨0x05100044, 1, 0x0, 1, 0x0, [⟨0, 32, .w1c, .live, 0⟩]⟩,
  ⟨0x05100048, 1, 0x0, 1, 0x0, [⟨0, 32, .rw, .image, 4294967295⟩]⟩,
  ⟨0x0510004C, 1, 0x0, 1, 0x0, [⟨0, 32, .rw, .image, 4294967295⟩]⟩,
  ⟨0x05101000, 32, 0x80, 1, 0x0, [⟨0, 16, .ro, .live, 0⟩, ⟨16, 1, .ro, .live, 0⟩, ⟨17, 1, .w1c, .live, 0⟩, ⟨18, 1, .ro, .live, 0⟩]⟩,
  ⟨0x05101004, 32, 0x80, 1, 0x0, [⟨0, 1, .rw, .image, 0⟩, ⟨8, 6, .rw, .image, 19⟩, ⟨16, 6, .rw, .image, 62⟩]⟩,
  ⟨0x05101008, 32, 0x80, 1, 0x0, [⟨0, 16, .wo, .hard, 0⟩]⟩,
  ⟨0x0510100C, 32, 0x80, 1, 0x0, [⟨0, 1, .wo, .hard, 0⟩]⟩]

def regs_hostif_1 : List RegDef := [
  ⟨0x05101020, 32, 0x80, 8, 0x4, [⟨0, 32, .ro, .live, 0⟩]⟩,
  ⟨0x05101040, 32, 0x80, 8, 0x4, [⟨0, 32, .wo, .hard, 0⟩]⟩]

/-- The registers of one block (hostif). -/
def regs_hostif : List RegDef := regs_hostif_0 ++ regs_hostif_1

def regs_nvotp_0 : List RegDef := [
  ⟨0x05110000, 1, 0x0, 1, 0x0, [⟨0, 1, .ro, .live, 0⟩, ⟨1, 1, .ro, .live, 1⟩, ⟨2, 4, .ro, .live, 0⟩]⟩,
  ⟨0x05110004, 1, 0x0, 1, 0x0, [⟨0, 1, .w1c, .live, 1⟩, ⟨1, 1, .w1c, .live, 0⟩, ⟨2, 1, .w1c, .live, 0⟩, ⟨3, 1, .w1c, .live, 0⟩, ⟨4, 1, .w1c, .live, 0⟩, ⟨5, 1, .w1c, .live, 0⟩, ⟨6, 1, .w1c, .live, 0⟩]⟩,
  ⟨0x05110008, 1, 0x0, 1, 0x0, [⟨0, 1, .wo, .hard, 0⟩, ⟨1, 1, .wo, .hard, 0⟩]⟩,
  ⟨0x0511000C, 1, 0x0, 1, 0x0, [⟨0, 32, .rc, .live, 0⟩]⟩,
  ⟨0x05110010, 1, 0x0, 1, 0x0, [⟨0, 32, .rc, .live, 0⟩]⟩,
  ⟨0x05110014, 1, 0x0, 1, 0x0, [⟨0, 19, .ro, .live, 0⟩]⟩,
  ⟨0x05110018, 1, 0x0, 1, 0x0, [⟨0, 32, .rc, .live, 0⟩]⟩,
  ⟨0x0511001C, 1, 0x0, 1, 0x0, [⟨0, 19, .ro, .live, 0⟩]⟩,
  ⟨0x05110020, 1, 0x0, 1, 0x0, [⟨0, 32, .rc, .live, 0⟩]⟩,
  ⟨0x05110030, 1, 0x0, 1, 0x0, [⟨0, 16, .ro, .live, 0⟩]⟩,
  ⟨0x05110034, 1, 0x0, 1, 0x0, [⟨0, 16, .ro, .live, 0⟩]⟩,
  ⟨0x05110040, 3, 0x4, 1, 0x0, [⟨0, 1, .ro, .live, 0⟩, ⟨1, 1, .ro, .live, 0⟩, ⟨2, 1, .ro, .live, 0⟩, ⟨3, 1, .ro, .live, 0⟩, ⟨4, 1, .ro, .live, 0⟩]⟩,
  ⟨0x05110100, 1, 0x0, 1, 0x0, [⟨0, 2, .ro, .live, 0⟩, ⟨2, 1, .ro, .live, 1⟩, ⟨3, 1, .ro, .live, 0⟩, ⟨4, 2, .ro, .live, 0⟩, ⟨6, 1, .ro, .live, 1⟩, ⟨7, 1, .ro, .live, 0⟩, ⟨8, 8, .ro, .live, 0⟩, ⟨16, 4, .ro, .live, 0⟩, ⟨20, 1, .ro, .live, 0⟩, ⟨21, 1, .ro, .live, 0⟩, ⟨22, 1, .ro, .live, 0⟩]⟩,
  ⟨0x05110104, 1, 0x0, 1, 0x0, [⟨0, 1, .w1c, .live, 0⟩, ⟨1, 1, .w1c, .live, 0⟩]⟩,
  ⟨0x05110108, 1, 0x0, 1, 0x0, [⟨0, 19, .rw, .live, 0⟩]⟩]

def regs_nvotp_1 : List RegDef := [
  ⟨0x0511010C, 1, 0x0, 1, 0x0, [⟨0, 32, .rw, .live, 0⟩]⟩,
  ⟨0x05110114, 1, 0x0, 1, 0x0, [⟨0, 32, .rw, .live, 0⟩]⟩,
  ⟨0x05110110, 1, 0x0, 1, 0x0, [⟨0, 3, .wo, .hard, 0⟩, ⟨4, 2, .wo, .hard, 0⟩, ⟨31, 1, .wo, .hard, 0⟩]⟩,
  ⟨0x05110118, 1, 0x0, 1, 0x0, [⟨0, 4, .ro, .live, 0⟩, ⟨8, 8, .ro, .live, 0⟩]⟩,
  ⟨0x0511011C, 1, 0x0, 1, 0x0, [⟨0, 32, .rc, .live, 0⟩]⟩,
  ⟨0x05110120, 1, 0x0, 1, 0x0, [⟨0, 32, .ro, .live, 0⟩]⟩,
  ⟨0x05110124, 1, 0x0, 1, 0x0, [⟨0, 32, .rc, .live, 0⟩]⟩,
  ⟨0x05110050, 3, 0x4, 1, 0x0, [⟨0, 32, .ro, .live, 0⟩]⟩]

/-- The registers of one block (nvotp). -/
def regs_nvotp : List RegDef := regs_nvotp_0 ++ regs_nvotp_1

/-- The register families of the 64 KiB block that an address lies in, 18 R484 (LINKS takes two). -/
def blockRegs (blk : Nat) : List RegDef :=
  match blk with
  | 1280 => regs_sys
  | 1281 => regs_tbase
  | 1282 => regs_qual
  | 1283 => regs_seam
  | 1284 => regs_synth
  | 1285 => regs_outs
  | 1286 => regs_tdc
  | 1288 => regs_links
  | 1289 => regs_links
  | 1290 => regs_epdir
  | 1291 => regs_eng
  | 1292 => regs_rings
  | 1293 => regs_banks
  | 1294 => regs_flt
  | 1295 => regs_pwr
  | 1296 => regs_hostif
  | 1297 => regs_nvotp
  | _ => []

/-- The indices of an address within a family, if the family has a register there. -/
def RegDef.index (d : RegDef) (addr : Nat) : Option (Nat × Nat) :=
  if addr < d.base then none
  else
    let off := addr - d.base
    let i := if d.s1 = 0 then 0 else off / d.s1
    let r := if d.s1 = 0 then off else off % d.s1
    let j := if d.s2 = 0 then 0 else r / d.s2
    let q := if d.s2 = 0 then r else r % d.s2
    if q = 0 ∧ i < d.n1 ∧ j < d.n2 then some (i, j) else none

/-- The register family that an address belongs to. -/
def findReg : List RegDef → Nat → Option RegDef
  | [], _ => none
  | d :: ds, addr => if (d.index addr).isSome then some d else findReg ds addr

/-- The fields of the register at an address; none for a reserved offset (18 R487). -/
def fieldsAt (addr : Nat) : List FieldDef :=
  match findReg (blockRegs (addr / 0x10000)) addr with
  | some d => d.fields
  | none => []

end Sys2Proof.Machine
end

