-- ==== Sys2Proof/Machine/ResetMap.lean ====
section
/-! DEFINITION. Machine/ResetMap.lean: the value of each register field on leaving RECALL in a part that adopts no
generation (14 R414): the table's value, or where it depends on the index of the register the value below. -/
namespace Sys2Proof.Machine

/-- The stage schedule of 02 R66 and R73: FN, ZETA, DWELL. -/
def resetStage (n lo : Nat) : Nat :=
  match lo with
  | 0 => match n with | 0 => 36 | 1 => 28 | 2 => 20 | 3 => 12 | _ => 4
  | 6 => if n = 0 then 2 else 1
  | _ => match n with | 0 => 16 | 1 => 64 | 2 => 256 | 3 => 1024 | _ => 4095

/-- The advance thresholds of 02 R66. -/
def resetStageAdv (n : Nat) : Nat :=
  match n with | 0 => 6553600 | 1 => 655360 | 2 => 65536 | 3 => 13107 | _ => 0

/-- The quality table of 07 R219; `q` is the timescale state, `w` the word of the entry. -/
def resetQuality (q w lo : Nat) : Nat :=
  if w = 0 then
    match lo with
    | 0 => match q with | 2 => 6 | 3 => 7 | 4 => 52 | _ => 248
    | 8 => match q with | 2 => 0x20 | 3 => 0x22 | _ => 0xFE
    | _ => match q with | 2 => 0x4000 | 3 => 0x4000 | _ => 0xFFFF
  else
    match lo with
    | 0 => match q with | 1 => 0xF | 2 => 0x2 | _ => 0xB
    | _ => if q = 2 then 1 else 0

/-- The factory plan of a role, 10 R285, R286: first, second and third engine; 0xF none. -/
def factoryPlan (r : Nat) : Nat × Nat × Nat :=
  if r < 8 then (r, 0xF, 0xF)
  else if r < 16 then (r - 8, Nat.xor (r - 8) 1, Nat.xor (r - 8) 2)
  else match r with
    | 16 => (2, 3, 6)
    | 17 => (3, 2, 7)
    | 18 => (6, 7, 2)
    | 19 => (7, 6, 3)
    | _ => (0xF, 0xF, 0xF)

/-- The role table of 10 R285, R286, R302 with every engine started. -/
def resetRole (r w lo : Nat) : Nat :=
  if w = 0 then
    match lo with
    | 0 => (factoryPlan r).1
    | 8 => 1
    | _ => if r < 20 then 1 else 0
  else
    match lo with
    | 0 => (factoryPlan r).1
    | 4 => (factoryPlan r).2.1
    | _ => (factoryPlan r).2.2

/-- The factory ring layout, 12 R367, R370. -/
def resetRing (r w lo : Nat) : Nat :=
  match w with
  | 0 =>
    match lo with
    | 0 => 1
    | 1 => 0
    | 2 => if r < 64 then 3 else if r < 104 then 0 else if r < 120 then 1 else 2
    | 4 => if r < 64 then 8 else 10
    | _ => if (64 ≤ r ∧ r < 104) ∨ (112 ≤ r ∧ r < 120) then 1 else 0
  | 4 =>
    if r < 64 then r * 0x8000 else if r < 104 then (r - 64) * 0x4000
    else if r < 120 then (r - 104) * 0x8000 else 0x80000 + (r - 120) * 0x10000
  | 8 => if lo = 0 then 0x3F else 0
  | 12 =>
    if r < 32 then match lo with | 0 => 8 + r / 4 | 6 => 1 | 8 => r % 4 | _ => 1
    else if 104 ≤ r ∧ r < 112 then match lo with | 0 => 8 + (r - 104) | 6 => 2 | 8 => 0 | _ => 1
    else if 112 ≤ r ∧ r < 120 then match lo with | 0 => 0x3E | 6 => 0 | 8 => r - 112 | _ => 1
    else if lo = 0 then 0x3F else 0
  | _ => 0

/-- The fault sources of 16 R443; any other ID is reserved. -/
def validSource (s : Nat) : Bool :=
  decide (s ≤ 0x004) || (decide (0x008 ≤ s) && decide (s ≤ 0x011)) || (decide (0x013 ≤ s) && decide (s ≤ 0x01E))
    || (decide (0x020 ≤ s) && decide (s ≤ 0x077)) || (decide (0x080 ≤ s) && decide (s ≤ 0x09C))
    || (decide (0x100 ≤ s) && decide (s ≤ 0x16B)) || (decide (0x180 ≤ s) && decide (s ≤ 0x197))

/-- The factory promotion settings of 16 R443: N and the window code of R444. -/
def factoryPromotion (s : Nat) : Nat × Nat :=
  if s = 0x001 ∨ s = 0x002 ∨ s = 0x004 ∨ s = 0x019 ∨ (0x008 ≤ s ∧ s ≤ 0x00F) then (2, 7)
  else if 0x014 ≤ s ∧ s ≤ 0x017 then (8, 5)
  else if s = 0x01A then (16, 5)
  else if s = 0x01D then (1, 7)
  else if 0x020 ≤ s ∧ s ≤ 0x03F then (100, 4)
  else if 0x080 ≤ s ∧ s ≤ 0x09C then (4, 4)
  else if 0x100 ≤ s ∧ s ≤ 0x16B then (2, 7)
  else (0, 0)

/-- The value on leaving RECALL of a field whose value depends on its register's index; none for any other. -/
def resetOverride (addr lo : Nat) : Option Nat :=
  let o := addr % 0x10000
  match addr / 0x10000 with
  | 0x501 =>
    if 0x140 ≤ o ∧ o < 0x160 then some (resetStage ((o - 0x140) / 4) lo)
    else if 0x160 ≤ o ∧ o < 0x180 then some (resetStageAdv ((o - 0x160) / 4))
    else none
  | 0x502 =>
    if 0x1400 ≤ o ∧ o < 0x1C00 then
      match o % 0x40 with
      | 0x04 => some 156250
      | 0x08 => some 0
      | _ => none
    else none
  | 0x504 =>
    if o = 0x108 then (match lo with | 0 => some 2 | 8 => some 4 | _ => none)
    else if o = 0x100 then (if lo = 29 then some 1 else none)
    else if 0x110 ≤ o ∧ o < 0x200 ∧ o % 0x40 = 0x10 then
      (if lo = 0 ∨ lo = 4 then some ((o - 0x110) / 0x40) else none)
    else if 0x1000 ≤ o ∧ o < 0x1800 then
      let e := o % 0x200 / 8
      if 15 ≤ e then some 0
      else if o % 8 = 0 then
        match lo with | 0 => some 125 | 8 => some 125 | 16 => some e | _ => some 0
      else if lo = 31 then some 1 else some 0
    else none
  | 0x505 =>
    if 0x100 ≤ o ∧ o < 0x400 ∧ o % 0x20 = 0x04 ∧ lo = 16 then
      some (if (o - 0x100) / 0x20 % 6 = 0 then 1 else 0)
    else none
  | 0x506 => if o = 4 ∧ lo = 1 then some 1 else none
  | 0x508 => if 0x100 ≤ o % 0x1000 ∧ o % 0x1000 < 0x128 then
      some (resetQuality ((o % 0x1000 - 0x100) / 8) ((o % 0x1000 - 0x100) % 8) lo) else none
  | 0x509 => if 0x100 ≤ o % 0x1000 ∧ o % 0x1000 < 0x128 then
      some (resetQuality ((o % 0x1000 - 0x100) / 8) ((o % 0x1000 - 0x100) % 8) lo) else none
  | 0x50B =>
    if 0x100 ≤ o ∧ o < 0x300 then some (resetRole ((o - 0x100) / 8) (o % 8) lo)
    else if 0x1000 ≤ o ∧ o < 0x1800 ∧ 0x40 ≤ o % 0x100 ∧ o % 0x100 < 0x50 ∧ lo = 31 then
      some (if o % 0x100 = 0x40 then 1 else 0)
    else if 0x1000 ≤ o ∧ o < 0x1800 ∧ o % 0x100 = 0x60 ∧ lo = 18 then some 1
    else none
  | 0x50C =>
    if 0x1000 ≤ o ∧ o < 0x2000 ∧ o % 0x20 < 0x10 then some (resetRing ((o - 0x1000) / 0x20) (o % 0x20) lo)
    else none
  | 0x50E =>
    if 0x1000 ≤ o ∧ o < 0x1CC0 then
      let s := (o - 0x1000) / 8
      if validSource s then
        (if o % 8 = 0 then none
         else match lo with
          | 0 => some (factoryPromotion s).1
          | 8 => some (factoryPromotion s).2
          | _ => none)
      else some 0
    else none
  | 0x50F => if o = 0 ∧ lo = 5 then some 1 else none
  | _ => none

/-- The reset value a register table states for the field at a bit. -/
def fieldReset : List FieldDef → Nat → Nat
  | [], _ => 0
  | f :: fs, lo => if f.lo = lo then f.reset else fieldReset fs lo

/-- The value of a field on leaving RECALL, by its key (32 times the address plus the lowest bit). -/
def resetField (key : Nat) : Nat :=
  match resetOverride (key / 32) (key % 32) with
  | some v => v
  | none => fieldReset (fieldsAt (key / 32)) (key % 32)

/-- The key of a field in the register store. -/
def Fld.key (f : Fld) : Nat := f.addr * 32 + f.lo

end Sys2Proof.Machine
end

