-- ==== Sys2Proof/Machine/Tab.lean ====
section
/-! DEFINITION. Machine/Tab.lean: sparse tables. A table is a list of (key, value) pairs with strictly rising keys; a key
that is not listed has the value the default function gives it, and no listed value equals that default, so equal
tables are equal lists. Registers, memory and every numbered group of the part are held in this form. -/
namespace Sys2Proof.Machine

/-- A sparse table. -/
abbrev Tab (α : Type) := List (Nat × α)

/-- The listed value of a key. -/
def Tab.find {α : Type} : Tab α → Nat → Option α
  | [], _ => none
  | (k', v) :: r, k => if k' = k then some v else Tab.find r k

/-- The value of a key: the listed one, else the default. -/
def Tab.get {α : Type} (d : Nat → α) (t : Tab α) (k : Nat) : α :=
  match t.find k with
  | some v => v
  | none => d k

/-- The table without a key. -/
def Tab.erase {α : Type} : Tab α → Nat → Tab α
  | [], _ => []
  | (k', v) :: r, k => if k' = k then Tab.erase r k else (k', v) :: Tab.erase r k

/-- Insertion in key order (the key does not stand in the table). -/
def Tab.insert {α : Type} : Tab α → Nat → α → Tab α
  | [], k, v => [(k, v)]
  | (k', v') :: r, k, v => if k < k' then (k, v) :: (k', v') :: r else (k', v') :: Tab.insert r k v

/-- The table with a new value at a key; writing the default removes the entry. -/
def Tab.set {α : Type} [DecidableEq α] (d : Nat → α) (t : Tab α) (k : Nat) (v : α) : Tab α :=
  if v = d k then t.erase k else (t.erase k).insert k v

/-- Every key of the table is above a bound. -/
def Tab.above {α : Type} (b : Nat) (t : Tab α) : Bool :=
  t.all (fun e => decide (b < e.1))

/-- Keys strictly rising and no listed value equal to its default. -/
def Tab.wf {α : Type} [DecidableEq α] (d : Nat → α) : Tab α → Bool
  | [] => true
  | (k, v) :: r => decide (v ≠ d k) && Tab.above k r && Tab.wf d r

end Sys2Proof.Machine
end

