-- ==== Sys2Proof/Machine/State.lean ====
section
/-! DEFINITION. Machine/State.lean: all state of the part as plain data, and its value after reset. Register fields stand in
`State.regs`, one entry per field whose value differs from its value on leaving RECALL; everything else the rules name
stands in the structures below. -/
namespace Sys2Proof.Machine

/-! ### Time base and TSERVO (02) -/

/-- The time base and the phase accounts that the seam unit and the qualifier take from it. All times are in fu. -/
structure TimeBase where
  /-- hub time in total fu (00 R7) -/
  now : Nat
  /-- elapsed time: hub time with every PRESS step taken out (04 R116) -/
  elapsed : Nat
  /-- accumulator of the fraction TB_INC_FRAC (02 R42) -/
  frac : Nat
  /-- accumulator of the numeric steering on the bypass source, units of 2^-48 fu (02 R47) -/
  byp : Int
  /-- the time base ticks (14 R407) -/
  running : Bool
  /-- the armed leap: LEAP_AT in seconds and DELTA, as ARM latched them (02 R50) -/
  leapAt : Nat
  leapDelta : Int
  /-- the snapshot of each host path (02 R49) -/
  snaps : Tab Nat
  /-- hub time that the next tick restores after a wake, fu (15 R435) -/
  restore : Option Nat
  /-- phase added to hub time by y or the holdover value, units of 2^-48 fu (03 R511) -/
  steer : Int
  /-- phase added to hub time by slews, fu (03 R511) -/
  slewed : Int
  /-- phase added to hub time by PRESS steps, fu (03 R511) -/
  stepped : Int
  deriving DecidableEq, Repr

/-- TSERVO's own state beside its registers (02 R59 to R70). -/
structure Tservo where
  /-- steering output y, units of 2^-48 (R62) -/
  y : Int
  /-- holdover value, units of 2^-48 (R69) -/
  hold : Int
  /-- slew term of S, units of 2^-48 (R68) -/
  slew : Int
  /-- time of the last input; none before the first after a restart (R62) -/
  lastIn : Option Nat
  /-- measurement time of the last applied FEED (R59 ORDER) -/
  lastFeed : Option Nat
  /-- times of the last 16 inputs, newest first (R63) -/
  inTimes : List Nat
  /-- bias in use and target bias of SPLIT, fu (R60); the elapsed time at which the bias last moved, and the part of a fu that
  it has still to move, in units of 1 / fuPerSec fu -/
  bias : Int
  biasTarget : Int
  biasAt : Nat
  biasRem : Nat
  /-- elapsed time of entry into the stage (R65, log 69) -/
  stageAt : Nat
  /-- offsets received, newest first, each larger than every newer one: elapsed time and magnitude (R65) -/
  big : List (Nat × Nat)
  deriving DecidableEq, Repr

/-! ### Reference inputs and qualification (03) -/

/-- A phase sample: elapsed time, x of R511, and the steering phase P that was taken out of it. -/
structure Sample where
  t : Nat
  x : Int
  p : Int
  deriving DecidableEq, Repr

/-- A candidate's own state beside its registers (03 R79 to R95, 04 R107). -/
structure Cand where
  /-- origin of the phase count (R511) -/
  origin : Option Int
  /-- steering phase at the origin (R511) -/
  p0 : Int
  /-- kept periods counted since the origin (R511) -/
  kept : Nat
  /-- the stamp that REFT_n handed over and that has not been evaluated, fu (R81, 06 R179) -/
  stamp : Option Int
  /-- elapsed time of the last edge or on-time marker; since when edges have been continuous; the last two markers were one
  nominal period apart within 1 % (R83) -/
  lastEdge : Option Nat
  runAt : Nat
  pairOk : Bool
  /-- phase samples, newest first (R85, R86) -/
  samples : List Sample
  /-- the samples that the shadow fits, newest first: of a pulse candidate the accepted ones (04 R107) -/
  acc : List Sample
  /-- x of the samples of the frequency window, newest first (R84, R97) -/
  fw : List Int
  /-- frequency window: consecutive failing and passing estimates, and the verdict (R84) -/
  fwBad : Nat
  fwGood : Nat
  fwFail : Bool
  /-- jitter window: consecutive samples at or below half the limit, samples since OBSERVING, verdict (R85) -/
  jitGood : Nat
  jitN : Nat
  jitFail : Bool
  /-- drift window: one sample per second, newest first (R86), and y_c -/
  drift : List Sample
  yc : Int
  /-- the cause on drift grounds, and on track grounds, has not cleared (R92) -/
  driftBad : Bool
  trackBad : Bool
  /-- track set: elapsed time and offset with P taken out, newest first, at most 16 (R87) -/
  track : List (Nat × Int)
  /-- consecutive consistent pulses, consecutive failures of the track test (R92) -/
  goodRun : Nat
  badRun : Nat
  /-- consecutive pulses within QUAL_JUMP of hub time (R95) -/
  jumpRun : Nat
  /-- the last pulse was consistent (R87, 04 R125) -/
  consistent : Bool
  /-- the first consistent offset since OBSERVING was entered has been compared (R95) -/
  compared : Bool
  /-- elapsed time from which the observation target counts, pulses counted, elapsed start of the consistent run (R93) -/
  obsFrom : Nat
  obsPulses : Nat
  obsRun : Nat
  /-- elapsed times of entry into SUSPECT and DISQUALIFIED (R92) -/
  suspAt : Nat
  disqAt : Nat
  /-- last accepted IRIG-B label, elapsed time of the on-time edge of its frame, and whether it is trusted (R80); label
  written by the program (R87) -/
  irig : Option Nat
  irigAt : Option Nat
  irigOk : Bool
  prog : Option Nat
  /-- phase samples fed to the shadow since the candidate joined the selected or standby set (04 R107) -/
  fed : Nat
  deriving DecidableEq, Repr

/-! ### Selection, seam and holdover (04) -/

/-- A PRESS form, 04 R125. -/
inductive Form where
  | align | step | slew | abort
  deriving DecidableEq, Repr

/-- Who issued a PRESS. -/
inductive Issuer where
  | host
  /-- the engine operation that waits in the scoreboard place -/
  | engine (eng thr place : Nat)
  /-- the seam unit itself: the acquisition step of R129 -/
  | seam
  deriving DecidableEq, Repr

/-- The fields of a PRESS, 04 R125. -/
structure Press where
  form : Form
  amt : Int
  /-- boundary, hub second -/
  at_ : Nat
  align : Bool
  mask : Nat
  target : Nat
  by_ : Issuer
  deriving DecidableEq, Repr

/-- A slew in progress, 04 R110, R127. `num` counts the phase moved in units of 1 / fuPerSec fu. -/
structure Slew where
  amt : Int
  rate : Nat
  num : Nat
  /-- phase moved so far, fu, unsigned -/
  moved : Nat
  auto : Bool
  by_ : Issuer
  deriving DecidableEq, Repr

/-- A seam in progress, 04 R109, R135: its target, the input e_o it hands across, and whether it ends a holdover. -/
structure SeamRun where
  dst : Nat
  eo : Int
  deriving DecidableEq, Repr

/-- The terms of the holdover model in use, 04 R116: units as the registers of R137. -/
structure Model where
  s0 : Int
  a : Int
  c : Int
  /-- elapsed time t0, fu -/
  t0 : Nat
  tt0 : Int
  uf : Nat
  ua : Nat
  ut : Nat
  deriving DecidableEq, Repr

/-- A learning sample, 04 R115: elapsed time, mean y, substrate temperature in 0.001 degrees C. -/
structure Learn where
  t : Nat
  y : Int
  temp : Int
  deriving DecidableEq, Repr

/-- The seam unit's own state beside its registers. -/
structure Seam where
  /-- build-out of each candidate, fu (R108 to R110) -/
  bo : Tab Int
  run : Option SeamRun
  /-- elapsed time since when the conditions of R104 hold -/
  wtr : Option Nat
  /-- elapsed time since when every input has been within LOCK_X (R112) -/
  lockFrom : Option Nat
  /-- consecutive inputs beyond UNLOCK_X (R112) -/
  unlockN : Nat
  /-- elapsed time of the last applied FEED, or of entry into the state that waits for one (R112) -/
  feedAt : Nat
  /-- the STEP or SLEW that waits for its boundary, and the ALIGN-only PRESSes that wait for theirs (R125) -/
  press : Option Press
  aligns : List Press
  /-- the acquisition step of R57 and its boundary, hub second -/
  acq : Option (Nat × Nat)
  slew : Option Slew
  /-- an automatic slew that waits for the end of a commanded one (R110, log 71) -/
  autoWait : Bool
  /-- inputs r - B of the selected candidate's samples, newest first: elapsed time and value; all of the last 2 ms and one
  older (R107, R109) -/
  ins : List (Nat × Int)
  /-- last 16 servo inputs, newest first (R119) -/
  errs : List Int
  /-- u_x, fu (R119) -/
  ux : Nat
  /-- guard line and learning window, newest first (R115) -/
  guard : List Learn
  window : List Learn
  /-- the model in use, if one has been learned or restored (R116, R119) -/
  model : Option Model
  /-- the model of R119 that a holdover without a learned one froze -/
  frozen : Option Model
  /-- elapsed time of HOLDOVER entry; elapsed time since the state last left LOCKED (R120) -/
  hoAt : Nat
  leftLock : Option Nat
  /-- integral of |T - T0| since HOLDOVER entry, 0.001 degrees C times fu, and when it last grew (R120) -/
  tInt : Nat
  tIntAt : Nat
  /-- day clock in elapsed fu; number and corrected sum of the samples that entered the window this day (R117) -/
  day : Int
  dayN : Nat
  daySum : Int
  /-- daily history, oldest first: mean, age in days (R117) -/
  days : List (Int × Nat)
  /-- elapsed time and steering account at the last learning sample (R115) -/
  learnAt : Nat
  learnSteer : Int
  /-- elapsed time of the last snapshot (R121) -/
  snapAt : Nat
  /-- start of the running 60 s, its samples, and the means formed: elapsed time, mean y, mean T (R118) -/
  min60At : Nat
  min60 : List Learn
  means : List Learn
  /-- oven's factory frequency offset, 2^-48 (02 R70) -/
  ovenOffset : Int
  deriving DecidableEq, Repr

/-! ### Synthesis and outputs (05) -/

/-- A ramp generator beside its registers (05 R155, R156): phase 0 idle, 1 armed, 2 running. -/
structure Ramp where
  phase : Nat
  /-- in the HOLD part of the segment; microseconds left of the part -/
  hold : Bool
  left : Nat
  /-- ramp phase of the rotator, units of 2^-48 fu (R140) -/
  acc : Int
  deriving DecidableEq, Repr

/-- The PLLs and ramp generators beside their registers. -/
structure Synth where
  /-- consecutive passing lock-detector windows of each PLL (R147) -/
  passes : Tab Nat
  /-- TSLOT of the band-table entry in use (R145) -/
  slot : Tab Nat
  /-- GTRIM of that entry, as its five bits, which scales the charge-pump current (R142, R144) -/
  gtrim : Tab Nat
  ramps : Tab Ramp
  /-- words 0 and 1 of a 96-bit hub-time register as written and not yet committed, by address (R166) -/
  stage : Tab Nat
  deriving DecidableEq, Repr

/-- A SYNC that waits (05 R160): its trigger, mask, the hub time AT in fu or the elapsed time of the SYNC_IN edge, and whether its
200 ns hold has begun. -/
structure SyncWait where
  pin : Bool
  mask : Nat
  at_ : Nat
  hold : Bool
  deriving DecidableEq, Repr

/-- A pulse output beside its registers (05 R162 to R165). -/
structure Pulse where
  /-- a frame sequence runs; the index of its next edge; edges still to come, 0 when unlimited -/
  seq : Bool
  m : Nat
  left : Nat
  /-- hub time of the last edge, fu; no edge at or before it comes again -/
  last : Int
  /-- the edge due at the boundary of a STEP that realigned the output, which still leaves, at its hub time before the step (R163) -/
  owed : Option Int
  /-- edges emitted -/
  n : Nat
  /-- control functions latched at the start of the present frame (R165) -/
  cf : Nat
  /-- the 100 elements of the last IRIG-B frame sent: 0, 1, or 2 for a marker (R165) -/
  irig : List Nat
  deriving DecidableEq, Repr

/-- The clock and pulse outputs beside their registers. -/
structure Outs where
  /-- supply class of each I/O bank sensed in RECALL: 0 unpowered, 1 for 1.8 V, 2 for 3.3 V (R157) -/
  vdd : Tab Nat
  /-- the output is held low because its plan exceeds its limit (R157) -/
  exceeds : Tab Bool
  sync : Option SyncWait
  pps : Tab Pulse
  deriving DecidableEq, Repr

/-! ### TDC array (06) -/

/-- A TDC channel beside its registers. -/
structure Tdc where
  /-- stamp records that wait for the ring, oldest first (R179) -/
  fifo : List Nat
  /-- the next stamp carries MISSED; the next queued one carries GAP (R174) -/
  missed : Bool
  gap : Bool
  /-- SEQ of the next stamp (R175) -/
  seq : Nat
  /-- edges to discard before the next kept one (R178) -/
  dec : Nat
  /-- elapsed instant of the last stamped edge, fu (R177) -/
  lastAt : Option Rat
  deriving DecidableEq, Repr

/-- A calibration in progress (06 R187 to R190): phase 0 first overlap, 1 core calibration, 2 second overlap. -/
structure Cal where
  phase : Nat
  /-- the spare that carries the channel, if one does -/
  spare : Option Nat
  /-- SEQ of the GO that asked for it; none for an automatic one (R189, R191) -/
  cmd : Option Nat
  /-- the channel came from a replacement spare (R189) -/
  repl : Bool
  deriving DecidableEq, Repr

/-- The oven controller and the array beside their registers. -/
structure TdcArray where
  ch : Tab Tdc
  cals : Tab (Option Cal)
  /-- the channel the shared writer served last (R181) -/
  last : Nat
  /-- the heater runs (R184, 15 R423, 19 R493) -/
  heater : Bool
  /-- elapsed time at which SOAK set; OVEN_SLOW has been reported since (R186) -/
  soakAt : Int
  slow : Bool
  /-- SPARE_k is due for calibration, and the die temperature of its last one, 0.01 degrees C (R187, R191) -/
  spareDue : Tab Bool
  spareTemp : Tab Int
  deriving DecidableEq, Repr

/-! ### Timing links (07) and the launch calendars (09) -/

/-- A launch in a port's calendar (09 R265 to R268). -/
structure Launch where
  slot : Nat
  gen : Nat
  /-- AT in fu and the tolerance in ns, as read at admission -/
  at_ : Nat
  tol : Nat
  buf : Nat
  notify : Bool
  /-- the 32 header bytes and the frame bytes once fetched; `some none` for a fetch that met DOMAIN_OFF or a bad group -/
  frame : Option (Option (List (BitVec 8)))
  deriving DecidableEq, Repr

/-- A link port beside its registers. -/
structure Link where
  /-- QL announced last; ESMC PDUs sent; the last of them (event PDU, QL) (R220) -/
  ann : Nat
  esmcN : Nat
  esmcLast : Option (Bool × Nat)
  /-- the bytes of that PDU with its FCS (R209, R220) -/
  esmcPdu : List (BitVec 8)
  /-- elapsed time of the last valid ESMC PDU (R220) -/
  esmcAt : Nat
  /-- elapsed time at which the CDR locked, the meter's value and the steering phase then (R199, R216, 03 R511) -/
  lockAt : Nat
  lockV : Int
  lockP : Int
  /-- samples of the round-trip phase, newest first, at most 1,000; the trimmer captured at PC_ARM (R217) -/
  rt : List Int
  t0 : Int
  cal : List Launch
  /-- generation count of each calendar slot (09 R265) -/
  gens : Tab Nat
  /-- the bytes of the last frame that left, with its FCS; whether it was cut short (07 R209, R214, R222) -/
  sent : List (BitVec 8)
  cut : Bool
  /-- the frame at the head of ring 32 + n has passed the test of HORIZON (R212) -/
  headed : Bool
  /-- a fence stopped the receiver of a port that was UP, and the frame part-received has not been counted (R222) -/
  rxCut : Bool
  /-- elapsed time at which the frame on the wire ends (07 R211, R213) -/
  wire : Nat
  deriving DecidableEq, Repr

/-! ### Velmos-2 engines (10, 11) and the control mailbox (01 R27, 10 R298) -/

/-- The fault status of a thread, 10 R276. -/
structure Fs where
  code : Nat
  sticky : Nat
  inTrap : Bool
  trapPc : Nat
  deriving DecidableEq, Repr

/-- A thread's own state; its pc, state, operations in flight and pending events stand in ENG_THR_STATE (10 R305). -/
structure Thread where
  /-- g1 to g31; g0 is never stored (10 R275) -/
  g : Tab (BitVec 64)
  /-- t0 to t7 -/
  t : Tab (BitVec 96)
  /-- the role token under which operations are issued (10 R285) -/
  ep : BitVec 16
  fs : Fs
  /-- the Velmos-1 decode (11 R339) -/
  v1 : Bool
  /-- WAITE in progress: its mask and destination (10 R282) -/
  mask : Nat
  wrd : Nat
  /-- hub time at which each pending event was asserted, and that of the lowest event the last WAITE returned (10 R284) -/
  evAt : Tab Nat
  lastEv : Option Nat
  /-- the timer is armed (10 R281) -/
  armed : Bool
  /-- a FENCED completion traps at the next issue (10 R296) -/
  trapDue : Bool
  deriving DecidableEq, Repr

/-- The destination of an operation, 10 R277. -/
inductive Dest where
  | none
  | g (n : Nat)
  | t (n : Nat)
  deriving DecidableEq, Repr

/-- An operation of 10 R277 with its operand values, as it left the engine. -/
inductive Op where
  | load (addr size : Nat)
  | store (addr size : Nat) (v : BitVec 64)
  | xadd (addr : Nat) (w32 : Bool) (v : BitVec 64)
  | xswp (addr : Nat) (w32 : Bool) (v : BitVec 64)
  | tld (addr : Nat) (v1 : Bool)
  | tst (addr : Nat) (v1 : Bool) (v : BitVec 96)
  | push (ring buf : Nat)
  | pop (ring buf : Nat)
  | peek (ring buf : Nat)
  | devr (addr : Nat)
  | devw (addr : Nat) (v : BitVec 32)
  | press (aux : Nat) (ra rb : BitVec 64)
  | seam (aux : Nat) (ra : BitVec 64)
  | ramp (aux : Nat)
  | feed (x : BitVec 64) (t : BitVec 96)
  | sched (aux : Nat) (ra : BitVec 64)
  deriving DecidableEq, Repr

/-- What an operation brings back: the value for its destination and the exception code of 11 R337 (0 none). -/
structure OpResult where
  val : BitVec 96
  code : Nat
  deriving DecidableEq, Repr

/-- An operation in flight: its place, thread, destination, token, and its result once it has been performed. -/
structure Flight where
  place : Nat
  thr : Nat
  dest : Dest
  tok : BitVec 16
  op : Op
  done : Option OpResult
  deriving DecidableEq, Repr

/-- What waits in a lane of the control mailbox. -/
inductive LaneOp where
  /-- the operation of an engine's scoreboard place -/
  | flight (place thr : Nat)
  /-- a host read or write of a register, with its path (0 PCIe, 1 SPI, 2 I2C, 3 JTAG; 4 ADOPT; 5 the entry
  writes of a mode) and the index of its word in its frame -/
  | read (path addr idx : Nat)
  | write (path addr idx : Nat) (v : BitVec 32)
  /-- a FEED that the program of an endpoint-service role issues from a thread under its token: the difference and the measurement
  time (09 R258) -/
  | roleFeed (thr : Nat) (tok : BitVec 16) (x : Int) (t : Nat)
  deriving DecidableEq, Repr

/-- How a role moves (10 R291): its epoch only, under its plan, on command to an engine, to an engine that has entered RUNNING, or to no
holder (16 R448). -/
inductive RoleMove where
  | self
  | plan (fence : Bool)
  | to (n : Nat)
  | take (n : Nat)
  | unhold
  deriving DecidableEq, Repr

/-- The engine cluster beside its registers. -/
structure Engines where
  /-- threads by 4 n + t -/
  thr : Tab Thread
  /-- operations in flight of each engine, oldest first -/
  fl : Tab (List Flight)
  /-- the thread each engine served last (10 R274) -/
  lastThr : Tab Nat
  /-- the engine was parked with MOVE (10 R300) -/
  moving : Tab Bool
  /-- role epochs: elapsed time of the last advance, and moves that wait for the 100 us interval, oldest first (10 R290, R291) -/
  roleAt : Tab Nat
  roleWait : Tab (List RoleMove)
  /-- the thread of each engine that met an undefined word, plus 1: no other thread of it issues (11 R309) -/
  undef : Tab Nat
  /-- elapsed time of the last BEAT or restart of each heartbeat timer (10 R294) -/
  beatAt : Tab Nat
  /-- the engine group fence is in effect (16 R448) -/
  groupFence : Bool
  deriving DecidableEq, Repr

/-- The control mailbox: lanes 0 to 7 of the engines and lane 8 of the host. -/
structure Mailbox where
  lanes : Tab (List LaneOp)
  credit : Tab Nat
  /-- elapsed time of each lane's last refill, and the part of a credit then left over, in credits per ms times fu (10 R298) -/
  refillAt : Tab Nat
  refillRem : Tab Nat
  /-- the thread of each lane that a credit served last (10 R298) -/
  served : Tab Nat
  /-- lane served last (10 R298) -/
  last : Nat
  deriving DecidableEq, Repr

/-! ### Banks and rings (12) -/

/-- The banks beside their registers. Their bytes stand in `State.mem`. -/
structure Banks where
  /-- banks (29 for always-on memory) whose unlisted bytes are undefined: the number of the loss (R348, R351) -/
  lost : Tab Nat
  losses : Nat
  /-- check state of each 8-byte group of a bank or of the NV store, by address / 8: 0 good, 1 uncorrectable (R346, 13 R393) -/
  ecc : Tab Nat
  /-- why a bank is BUSY: 0 not, 1 rinse, 2 requested destructive darn, 3 boot darn (R349 to R356) -/
  busy : Tab Nat
  /-- the requested darn that runs: bank, destructive (R355) -/
  darn : Option (Nat × Bool)
  /-- the memory group fence is in effect (16 R448) -/
  groupFence : Bool
  /-- the last write of a primary port: address and size (R345) -/
  lastPrim : Option (Nat × Nat)
  /-- failing rows that the requested darn has found so far, and whether one of them could not be patched (R355) -/
  darnRows : Nat
  darnBad : Bool
  deriving DecidableEq, Repr

/-! ### Persistent storage (13) -/

/-- An open page buffer of the NV store (13 R394): its page, its 64 bytes as one value, and the elapsed time of its last
write. -/
structure NvBuf where
  page : Nat
  data : Nat
  last : Nat
  deriving DecidableEq, Repr

/-- A running OTP command (13 R384): OP, GEN, and for BURN the word's offset and data as admitted; for ADOPT `data` counts
its refused writes. -/
structure OtpRun where
  op : Nat
  gen : Nat
  addr : Nat
  data : Nat
  deriving DecidableEq, Repr

/-- The two stores beside their registers. The bytes of both stand in `State.mem` at their windows. -/
structure Stores where
  /-- open page buffers, oldest first -/
  bufs : List NvBuf
  /-- pages whose commit marker is incomplete (R396) -/
  torn : List Nat
  otp : Option OtpRun
  /-- VDD_OTP is outside its burn range (R384) -/
  votpLow : Bool
  /-- usable factory copies (R380): 0, 1, or 2 for none -/
  factory : Nat
  /-- the factory entries of the patch maps in the OTP factory area: bank, row (12 R354) -/
  facPatch : List (Nat × Nat)
  deriving DecidableEq, Repr

/-! ### Power states (15), modes (14) and supplies (19) -/

/-- The power manager, the loader and the supply watch beside their registers. -/
structure Power where
  /-- a MAJOR or GRAVE report wakes the part; its wake is under way (15 R430, R431) -/
  wakeDue : Bool
  /-- target of the entry in progress; the fabric has come to rest (15 R428) -/
  dst : Nat
  drained : Bool
  /-- wake sources latched while ENTERING (15 R429) -/
  latched : List Nat
  /-- PWR_WAKE_AT is armed (15 R430) -/
  alarm : Bool
  /-- PLLs B to D that were not OFF at entry to SLEEP (15 R431) -/
  plls : List Nat
  /-- hub time of the last return to RUN, fu, and the entries of each launch ring that waited at it and have not been judged
  since: what fell due before completes LATE (15 R422) -/
  wokeAt : Nat
  held : Tab Nat
  /-- elapsed time of the last ledger calibration; before a wake it is negative (15 R433) -/
  calAt : Int
  /-- 0 in service, 1 in reset, 2 in RECALL (14 R404, 19 R494) -/
  phase : Nat
  /-- RESET_L is low -/
  resetLow : Bool
  /-- the RECALL that runs or comes is a cold start (02 R54, 14 R405); bit b: bank b was retained (15 R432) -/
  cold : Bool
  retained : Nat
  /-- the request of 14 R411 is latched -/
  factory : Bool
  /-- VDD_OVEN is below its threshold; a core or I/O supply has failed (19 R493) -/
  ovenLow : Bool
  supplyLow : Bool
  deriving DecidableEq, Repr

/-- A frame of a serial path (17 R466, R469). -/
structure Frame where
  /-- number of the frame on its path -/
  no : Nat
  write : Bool
  addr : Nat
  count : Nat
  /-- the words received or returned, in order -/
  data : List Nat
  /-- index and status of the first failed word -/
  fail : Option (Nat × Nat)
  /-- words whose access has not completed -/
  left : Nat
  deriving DecidableEq, Repr

/-- The JTAG port (17 R470 to R472): its instruction, and what the next Capture-DR of DBG_MEM and of DBG_ENG loads. -/
structure Jtag where
  ir : Nat
  memData : Nat
  memStatus : Nat
  engData : Nat
  engStatus : Nat
  deriving DecidableEq, Repr

/-- The host interfaces beside their registers. Paths: 0 PCIe, 1 SPI, 2 I2C, 3 JTAG. -/
structure HostIf where
  /-- the present or last frame of each serial path (17 R464, R466) -/
  frames : Tab (Option Frame)
  /-- data of the last single read of each path -/
  rdata : Tab Nat
  /-- what the last compatibility frame returned: 16-bit values and STATUS (17 R467) -/
  compat : List Nat
  compatStatus : Nat
  jtag : Jtag
  /-- MSI-X: vectors unmasked, pending bits, function enable (17 R461, R478) -/
  unmasked : Tab Bool
  vecPend : Tab Bool
  msixOn : Bool
  /-- messages sent by vector (17 R478) -/
  sent : Tab Nat
  /-- ADDR_1 and ADDR_0 as sampled when RESET_L was released (17 R469) -/
  i2cPins : Nat
  deriving DecidableEq, Repr

/-! ### Endpoint service (09): the working data of the role EPS_g, which the rules name and the record does not hold -/

/-- What the role keeps for a record beside its bytes. -/
structure EpRun where
  /-- consecutive complete exchanges while JOINING (R256) -/
  run : Nat
  /-- d_ms of the last complete exchanges that count towards MPD, newest first, at most 16, fu (R258) -/
  ds : List Int
  /-- a frame was matched in the present interval; the number of the present interval (R257) -/
  hit : Bool
  interval : Nat
  /-- the start of the service whose first interval of this record has ended (R257) -/
  seen : Nat
  /-- the number of the last interval for whose start a Sync has been placed (R257) -/
  placed : Nat
  deriving DecidableEq, Repr

/-- The endpoint service of the eight shards. -/
structure Eps where
  runs : Tab EpRun
  /-- starts of each shard's role on an engine (R257) -/
  starts : Tab Nat
  deriving DecidableEq, Repr

/-! ### The whole state -/

/-- The reasons a step can stop with a fault. The spec gives the block no such reason, so no meaning answers one. -/
inductive Fault where
  /-- Raised by nobody; safe. -/
  | never
  deriving DecidableEq, Repr

/-- The reasons a command can have no meaning. -/
inductive Refusal where
  /-- Raised by an arm of `exec` whose command has no meaning yet; safe. -/
  | notModelled (mnemonic : String)
  deriving DecidableEq, Repr

/-- The state of the part. -/
structure State where
  /-- commands that wait, first in first out -/
  pending : List Instr
  /-- register fields by key -/
  regs : Tab Nat
  /-- bytes of the memory windows by address -/
  mem : List Host.Cell
  tb : TimeBase
  tsv : Tservo
  cands : Tab Cand
  seam : Seam
  syn : Synth
  outs : Outs
  tdc : TdcArray
  links : Tab Link
  eng : Engines
  mb : Mailbox
  host : HostIf
  bank : Banks
  stores : Stores
  pwr : Power
  eps : Eps
  /-- the model's own counter for free values (log 4) -/
  freeCtr : Nat
  deriving DecidableEq, Repr

def TimeBase.init : TimeBase :=
  { now := 0, elapsed := 0, frac := 0, byp := 0, running := false, leapAt := 0, leapDelta := 0, snaps := [],
    restore := none, steer := 0, slewed := 0, stepped := 0 }

def Tservo.init : Tservo :=
  { y := 0, hold := 0, slew := 0, lastIn := none, lastFeed := none, inTimes := [], bias := 0, biasTarget := 0, biasAt := 0,
    biasRem := 0, stageAt := 0, big := [] }

def Cand.init : Cand :=
  { origin := none, p0 := 0, kept := 0, stamp := none, lastEdge := none, runAt := 0,
    pairOk := false, samples := [], acc := [], fw := [], fwBad := 0, fwGood := 0, fwFail := false,
    jitGood := 0, jitN := 0, jitFail := false, drift := [], yc := 0, driftBad := false, trackBad := false, track := [], goodRun := 0, badRun := 0, jumpRun := 0, consistent := false,
    compared := false, obsFrom := 0, obsPulses := 0, obsRun := 0, suspAt := 0, disqAt := 0, irig := none,
    irigAt := none, irigOk := false, prog := none, fed := 0 }

def Seam.init : Seam :=
  { bo := [], run := none, wtr := none, lockFrom := none, unlockN := 0, feedAt := 0, press := none, aligns := [], acq := none,
    slew := none, autoWait := false, ins := [], errs := [], ux := 0, guard := [], window := [], model := none, frozen := none, hoAt := 0, leftLock := none,
    tInt := 0, tIntAt := 0, day := 0, dayN := 0, daySum := 0, days := [], learnAt := 0, learnSteer := 0, snapAt := 0,
    min60At := 0, min60 := [], means := [], ovenOffset := 0 }

def Ramp.init : Ramp := { phase := 0, hold := false, left := 0, acc := 0 }

/-- TSLOT of the entry in use before any START: the slot of the reset value of SYN_DIE_TEMP (log 6). -/
def slotDefault (_ : Nat) : Nat := 4

def Synth.init : Synth := { passes := [], slot := [], gtrim := [], ramps := [], stage := [] }

def Pulse.init : Pulse := { seq := false, m := 0, left := 0, last := -1, owed := none, n := 0, cf := 0, irig := [] }

/-- The supply class of an I/O bank before it is sensed: 3.3 V (DESIGN CHOICE, log 6). -/
def vddDefault (_ : Nat) : Nat := 2

def Outs.init : Outs := { vdd := [], exceeds := [], sync := none, pps := [] }

def Tdc.init : Tdc := { fifo := [], missed := false, gap := false, seq := 0, dec := 0, lastAt := none }

def TdcArray.init : TdcArray :=
  { ch := [], cals := [], last := 0, heater := true, soakAt := 0, slow := false, spareDue := [], spareTemp := [] }

/-- A port as it leaves RECALL; the announced QL is that of FREE-RUN, 0xB (07 R219). -/
def Link.init : Link :=
  { ann := 0xB, esmcN := 0, esmcLast := none, esmcPdu := [], esmcAt := 0, lockAt := 0, lockV := 0,
    lockP := 0, rt := [], t0 := 0, cal := [], gens := [], sent := [], cut := false, headed := false, rxCut := false, wire := 0 }

/-- A thread as it starts under 10 R275: `ep` holds the token of SELF_n (the default of engine n's threads). -/
def Thread.init (n : Nat) : Thread :=
  { g := [], t := [], ep := BitVec.ofNat 16 (n * 256 + 1), fs := { code := 0, sticky := 0, inTrap := false, trapPc := 0 },
    v1 := false, mask := 0, wrd := 0, evAt := [], lastEv := none, armed := false, trapDue := false }

def Engines.init : Engines :=
  { thr := [], fl := [], lastThr := [], moving := [], roleAt := [], roleWait := [], undef := [],
    beatAt := [], groupFence := false }

def Mailbox.init : Mailbox :=
  { lanes := [], credit := [], refillAt := [], refillRem := [], served := [], last := 8 }

def Banks.init : Banks :=
  { lost := [], losses := 0, ecc := [], busy := [], darn := none, groupFence := false, lastPrim := none,
    darnRows := 0, darnBad := false }

def Stores.init : Stores := { bufs := [], torn := [], otp := none, votpLow := false, factory := 0, facPatch := [] }

def Power.init : Power :=
  { wakeDue := false, dst := 0, drained := false, latched := [], alarm := false, plls := [], wokeAt := 0, held := [],
    calAt := 0, phase := 0, resetLow := false, cold := true, retained := 0, factory := false,
    ovenLow := false, supplyLow := false }

def Jtag.init : Jtag := { ir := 1, memData := 0, memStatus := 0, engData := 0, engStatus := 0 }

def EpRun.init : EpRun := { run := 0, ds := [], hit := false, interval := 0, seen := 0, placed := 0 }

def Eps.init : Eps := { runs := [], starts := [] }

def HostIf.init : HostIf :=
  { frames := [], rdata := [], compat := [], compatStatus := 0, jtag := Jtag.init, unmasked := [],
    vecPend := [], msixOn := false, sent := [], i2cPins := 0 }

/-- The machine right after reset: a cold start that has just left RECALL with the factory image, in HUB
(14 R405, R406, R414; DEDUCED, log 6). -/
def State.reset : State :=
  { pending := [], regs := [], mem := [], tb := TimeBase.init, tsv := Tservo.init, cands := [], seam := Seam.init,
    syn := Synth.init, outs := Outs.init, tdc := TdcArray.init, links := [], eng := Engines.init, mb := Mailbox.init, host := HostIf.init, bank := Banks.init, stores := Stores.init, pwr := Power.init, eps := Eps.init, freeCtr := 0 }

end Sys2Proof.Machine
end

