-- ==== Sys2Proof/Machine/Ops.lean ====
section
/-! DEFINITION. Machine/Ops.lean: the named operations over State that every family shares: register fields, hub time, events of
threads, vectors, and what the fault collector records of a report. -/
namespace Sys2Proof.Machine

/-! ### Register fields (00 R12) -/

/-- The value of a register field. -/
def State.fld (s : State) (f : Fld) : Nat := Tab.get resetField s.regs f.key

/-- The state with a register field set; a value wider than the field loses its upper bits. -/
def State.setFld (s : State) (f : Fld) (v : Nat) : State :=
  { s with regs := Tab.set resetField s.regs f.key (v % 2 ^ f.width) }

/-- A one-bit field, or any field, read as true when it is not zero. -/
def State.flag (s : State) (f : Fld) : Bool := s.fld f != 0

/-- A field set to 1. -/
def State.raise (s : State) (f : Fld) : State := s.setFld f 1

/-- A field set to 0. -/
def State.clr (s : State) (f : Fld) : State := s.setFld f 0

/-- A saturating count plus one. -/
def State.bump (s : State) (f : Fld) : State :=
  s.setFld f (min (2 ^ f.width - 1) (s.fld f + 1))

/-- A wrapping count plus one (SEQ fields). -/
def State.next (s : State) (f : Fld) : State := s.setFld f (s.fld f + 1)

/-- A field set when a condition holds. -/
def State.raiseIf (s : State) (c : Bool) (f : Fld) : State := if c then s.raise f else s

/-- Two words read as one unsigned value, low word first. -/
def State.pair (s : State) (lo hi : Fld) : Nat := s.fld lo + 2 ^ lo.width * s.fld hi

def State.setPair (s : State) (lo hi : Fld) (v : Nat) : State :=
  (s.setFld lo v).setFld hi (v / 2 ^ lo.width)

/-- A value of `w` bits read as signed. -/
def toSigned (w v : Nat) : Int := if v < 2 ^ (w - 1) then (v : Int) else (v : Int) - 2 ^ w

/-- A signed value in `w` bits. -/
def ofSigned (w : Nat) (v : Int) : Nat := (v % (2 ^ w : Int)).toNat

/-- Two words read as one signed 64-bit value (00 R10). -/
def State.int64 (s : State) (lo hi : Fld) : Int := toSigned 64 (s.pair lo hi)

def State.setInt64 (s : State) (lo hi : Fld) (v : Int) : State := s.setPair lo hi (ofSigned 64 v)

/-- A 32-bit field read as signed. -/
def State.int32 (s : State) (f : Fld) : Int := toSigned 32 (s.fld f)

/-! ### Power (14 R404, 15 R421) -/

def State.pwrState (s : State) : Nat := s.fld R.PWR_STATUS_STATE

/-- The part is in service: RUN, IDLE or SLEEP, out of reset and out of RECALL. -/
def State.powered (s : State) : Bool := decide (s.pwrState < 3) && s.pwr.phase == 0

/-- The part is in service or in RECALL. -/
def State.awakes (s : State) : Bool := decide (s.pwrState < 3) && s.pwr.phase != 1

/-- The part's I2C target address (17 R469). -/
def State.i2cMine (s : State) (dev : BitVec 7) : Bool := dev.toNat == 0x58 + s.host.i2cPins

/-! ### Hub time (00 R7 to R9) -/

/-- fu in a second. -/
def fuPerSec : Nat := 65536000000000

/-- fu in a millisecond, a microsecond. -/
def fuPerMs : Nat := 65536000000
def fuPerUs : Nat := 65536000

/-- The 96-bit form of a total of fu (R7); the seconds field has 48 bits. -/
def encodeHub (fu : Nat) : Nat :=
  (fu / fuPerSec % 2 ^ 48) * 2 ^ 48 + fu % fuPerSec / 65536 * 2 ^ 16 + fu % 65536

/-- The nanoseconds field of a 96-bit value is legal (R8). -/
def hubLegal (v : Nat) : Bool := decide (v / 2 ^ 16 % 2 ^ 32 ≤ 999999999)

/-- The total of fu that a 96-bit value stands for. -/
def decodeHub (v : Nat) : Nat :=
  v / 2 ^ 48 * fuPerSec + v / 2 ^ 16 % 2 ^ 32 * 65536 + v % 2 ^ 16

/-- The hub second. -/
def State.hubSec (s : State) : Nat := s.tb.now / fuPerSec

/-- Three words read as one 96-bit value. -/
def State.triple (s : State) (f0 f1 f2 : Fld) : Nat := s.fld f0 + 2 ^ 32 * s.fld f1 + 2 ^ 64 * s.fld f2

def State.setTriple (s : State) (f0 f1 f2 : Fld) (v : Nat) : State :=
  ((s.setFld f0 v).setFld f1 (v / 2 ^ 32)).setFld f2 (v / 2 ^ 64)

/-! ### Tables of the block's units -/

def State.cand (s : State) (n : Nat) : Cand := Tab.get (fun _ => Cand.init) s.cands n

def State.setCand (s : State) (n : Nat) (c : Cand) : State :=
  { s with cands := Tab.set (fun _ => Cand.init) s.cands n c }

/-- The thread table's default: engine `i / 4` as it starts. -/
def threadDefault (i : Nat) : Thread := Thread.init (i / 4)

def State.thread (s : State) (e t : Nat) : Thread := Tab.get threadDefault s.eng.thr (4 * e + t)

def State.setThread (s : State) (e t : Nat) (x : Thread) : State :=
  { s with eng := { s.eng with thr := Tab.set threadDefault s.eng.thr (4 * e + t) x } }

/-! ### Threads (10 R274, R275, R281) -/

/-- g0 reads zero (R275). -/
def Thread.gpr (x : Thread) (n : Nat) : BitVec 64 := if n = 0 then 0 else Tab.get (fun _ => 0) x.g n

/-- Writes of g0 are discarded (R275). -/
def Thread.setGpr (x : Thread) (n : Nat) (v : BitVec 64) : Thread :=
  if n = 0 then x else { x with g := Tab.set (fun _ => 0) x.g n v }

def Thread.treg (x : Thread) (n : Nat) : BitVec 96 := Tab.get (fun _ => 0) x.t n

def Thread.setTreg (x : Thread) (n : Nat) (v : BitVec 96) : Thread :=
  { x with t := Tab.set (fun _ => 0) x.t n v }

def State.tstate (s : State) (e t : Nat) : Nat := s.fld (R.ENG_THR_STATE_W0_TSTATE e t)

def State.setTstate (s : State) (e t v : Nat) : State := s.setFld (R.ENG_THR_STATE_W0_TSTATE e t) v

def State.pc (s : State) (e t : Nat) : Nat := s.fld (R.ENG_THR_STATE_W0_PC e t)

/-- pc is a multiple of 4 modulo 2^18 (R275, 11 R306). -/
def State.setPc (s : State) (e t v : Nat) : State := s.setFld (R.ENG_THR_STATE_W0_PC e t) (v / 4 * 4)

/-- The bits of a mask with value 1, lowest first, of 32. -/
def lowestBit (v : Nat) : Option Nat := (List.range 32).find? (fun k => v.testBit k)

/-- A WAITING thread with a masked event pending goes on (R282): its destination takes the masked events and the
lowest of them becomes the one STAMP measures from (R284). -/
def State.wakeThread (s : State) (e t : Nat) : State :=
  let x := s.thread e t
  let m := Nat.land (s.fld (R.ENG_THR_STATE_W1_PENDING e t)) x.mask
  if s.tstate e t = 2 ∧ m ≠ 0 then
    let at_ := match lowestBit m with
      | some k => some (Tab.get (fun _ => 0) x.evAt k)
      | none => none
    ((s.setThread e t { x.setGpr x.wrd (BitVec.ofNat 64 m) with lastEv := at_ }).setTstate e t 1)
  else s

/-- An event becomes pending at a thread (R281). -/
def State.raiseEvent (s : State) (e t k : Nat) : State :=
  let p := s.fld (R.ENG_THR_STATE_W1_PENDING e t)
  let x := s.thread e t
  ((s.setFld (R.ENG_THR_STATE_W1_PENDING e t) (Nat.lor p (2 ^ k))).setThread e t
    (if p.testBit k then x else { x with evAt := Tab.set (fun _ => 0) x.evAt k s.tb.elapsed })).wakeThread e t

/-! ### Vectors (17 R478, R479) -/

/-- A vector is raised: its pending bit sets and its message goes out, or waits for the unmask. -/
def State.raiseVector (s : State) (v : Nat) : State :=
  let f := if v < 32 then R.HOST_INT_PEND_LO_PEND else R.HOST_INT_PEND_HI_PEND
  let s := s.setFld f (Nat.lor (s.fld f) (2 ^ (v % 32)))
  if s.host.msixOn ∧ s.flag R.HOST_STATUS_PCIE_UP then
    if Tab.get (fun _ => false) s.host.unmasked v then
      { s with host := { s.host with sent := Tab.set (fun _ => 0) s.host.sent v (Tab.get (fun _ => 0) s.host.sent v + 1) } }
    else { s with host := { s.host with vecPend := Tab.set (fun _ => false) s.host.vecPend v true } }
  else s

/-- The collector's condition of 16 R449. -/
def State.collectorCond (s : State) : Bool :=
  s.flag R.FLT_EVENTS_NEW_MINOR || s.flag R.FLT_EVENTS_NEW_MAJOR || s.flag R.FLT_EVENTS_NEW_GRAVE
    || s.flag R.FLT_EVENTS_BROKEN_WIRE

/-- The pin INT_L is low (17 R479). -/
def State.intL (s : State) : Bool :=
  Nat.land (s.fld R.HOST_INT_PEND_LO_PEND) (s.fld R.HOST_INT_EN_LO_EN) != 0
    || Nat.land (s.fld R.HOST_INT_PEND_HI_PEND) (s.fld R.HOST_INT_EN_HI_EN) != 0
    || (s.collectorCond && s.flag R.FLT_CFG_INT_EN)

/-! ### What the fault collector records (16 R440 to R449) -/

/-- A fence of this source is in effect. -/
def State.fenced (s : State) (src : Nat) : Bool := s.flag (R.FLT_SRC_FENCED src)

/-- The TI group fence of R447 and its latch (R451). -/
def State.tiFenced (s : State) : Bool := s.flag R.FLT_STATUS_TI_FENCED

def State.tservoFenced (s : State) : Bool := s.fenced 0x001 || s.tiFenced
def State.seamFenced (s : State) : Bool := s.fenced 0x002 || s.tiFenced
def State.qualFenced (s : State) : Bool := s.fenced 0x010

/-- The pin FAULT_L and the fence summary follow the fences (R449, R455). -/
def State.faultLines (s : State) : State :=
  let any := s.flag R.FLT_STATUS_ANY_FENCE || s.tiFenced
  s.setFld R.FLT_STATUS_FAULT_L
    (if any || (s.flag R.FLT_CFG_FAULT_L_MINOR && s.flag R.FLT_EVENTS_NEW_MINOR) then 1 else 0)

/-- Counting the fences in effect: FENCED_N and ANY_FENCE (R455). -/
def State.fenceOn (s : State) (src : Nat) : State :=
  if s.fenced src then s
  else
    (((s.raise (R.FLT_SRC_FENCED src)).next R.FLT_STATUS_FENCED_N).raise R.FLT_STATUS_ANY_FENCE).faultLines

def State.fenceOff (s : State) (src : Nat) : State :=
  if s.fenced src then
    let s := s.clr (R.FLT_SRC_FENCED src)
    let n := s.fld R.FLT_STATUS_FENCED_N - 1
    ((s.setFld R.FLT_STATUS_FENCED_N n).setFld R.FLT_STATUS_ANY_FENCE (if n = 0 then 0 else 1)).faultLines
  else s

/-- First-source capture of a report of class MINOR or above (R445). -/
def State.captureFirst (s : State) (src cls cause : Nat) : State :=
  if s.flag R.FLT_FIRST_0_VALID then s
  else
    let t := encodeHub s.tb.now
    (((((((s.setFld R.FLT_FIRST_0_SRC src).setFld R.FLT_FIRST_0_CLASS cls).setFld R.FLT_FIRST_0_CAUSE cause).raise
      R.FLT_FIRST_0_VALID).setFld R.FLT_FIRST_1_TIME t).setFld R.FLT_FIRST_2_TIME (t / 2 ^ 32)).setFld
      R.FLT_FIRST_3_TIME (t / 2 ^ 64))

/-- A NOTE increments the NOTES count of its source and nothing else (R440, R518). -/
def State.note (s : State) (src : Nat) : State := s.bump (R.FLT_SRC_NOTES src)

/-- A report of class MAJOR or GRAVE is appended to the log, or counted as an overflow (R445). -/
def State.appendLog (s : State) (src cls cause : Nat) : State :=
  let n := s.fld R.FLT_LOG_STATUS_COUNT
  if n < 16 then
    let t := encodeHub s.tb.now
    (((((((s.setFld (R.FLT_LOG_0_SRC n) src).setFld (R.FLT_LOG_0_CLASS n) cls).setFld (R.FLT_LOG_0_CAUSE n) cause).raise
      (R.FLT_LOG_0_VALID n)).setFld (R.FLT_LOG_1_TIME n) t).setFld (R.FLT_LOG_2_TIME n) (t / 2 ^ 32)).setFld
      (R.FLT_LOG_3_TIME n) (t / 2 ^ 64)).setFld R.FLT_LOG_STATUS_COUNT (n + 1)
  else ((s.bump R.FLT_LOG_STATUS_OVF).raise R.FLT_EVENTS_LOG_OVF_SET).note 0x01E

/-- The interrupt of R449: the collector's vector is raised when its condition becomes true (17 R478, log 77). -/
def State.collectorInt (s : State) (f : Fld) : State :=
  let t := s.raise f
  (if s.collectorCond then t else t.raiseVector (s.fld R.FLT_CFG_VECTOR)).faultLines

/-- The FAULT event goes to THR_0 of the holder of the role that the source names (R449). -/
def State.routeFault (s : State) (src : Nat) : State :=
  let r := s.fld (R.FLT_SRC_CFG_ROLE src)
  if r = 0x3F then s
  else
    let h := s.fld (R.ENG_ROLE_HOLDER r)
    if h < 8 then s.raiseEvent h 0 20 else s

/-- A report of MAJOR or GRAVE wakes the part from IDLE or SLEEP with FAULT_WAKE set (R452, 15 R430); the wake itself is
in Machine/PowerCore.lean. -/
def State.faultWake (s : State) (cls : Nat) : State :=
  let st := s.fld R.PWR_STATUS_STATE
  if 2 ≤ cls ∧ s.flag R.PWR_CFG_FAULT_WAKE ∧ (st = 1 ∨ st = 2 ∨ s.flag R.PWR_STATUS_ENTERING) then
    { s with pwr := { s.pwr with wakeDue := true } }
  else s

/-- All that a report of a source writes in the collector itself: the source's state, first capture, the log, the NEW
bits with their interrupt, and the FAULT event (R440, R445, R449). Promotion and fences are in Machine/Faults.lean. -/
def State.record (s : State) (src cls cause : Nat) : State :=
  if cls = 0 then s.note src
  else
    let s := (s.setFld (R.FLT_SRC_LAST_CLASS src) cls).setFld (R.FLT_SRC_LAST_CAUSE src) cause
    let s := s.captureFirst src cls cause
    let s := if 2 ≤ cls then s.appendLog src cls cause else s
    let s := match cls with
      | 1 => if s.flag (R.FLT_SRC_CFG_INT_HOST src) then s.collectorInt R.FLT_EVENTS_NEW_MINOR else s
      | 2 => s.collectorInt R.FLT_EVENTS_NEW_MAJOR
      | _ => s.collectorInt R.FLT_EVENTS_NEW_GRAVE
    (s.routeFault src).faultWake cls

end Sys2Proof.Machine
end

