-- ==== Sys2Proof/Machine/Mem.lean ====
section
/-! DEFINITION. Machine/Mem.lean: the memory windows (12 R341, R342, 18 R483), their bytes, and the gates that stand before a
bank and a power domain (01 R37, 12 R350, 15 R426). -/
namespace Sys2Proof.Machine

/-- Base of bank b (12 R341). -/
def bankBase (b : Nat) : Nat :=
  if b < 8 then 0x40000 * b
  else if b < 16 then 0x800000 + 0x100000 * (b - 8)
  else if b < 24 then 0x1000000 + 0x400000 * (b - 16)
  else if b < 27 then 0x3000000 + 0x400000 * (b - 24)
  else if b = 27 then 0x3C00000 else 0x3E00000

/-- Size of bank b in bytes (12 R341). -/
def bankSize (b : Nat) : Nat :=
  if b < 8 then 0x40000 else if b < 16 then 0x100000 else if b < 27 then 0x400000 else 0x200000

/-- The bank whose window holds an address (12 R341, 18 R483). -/
def bankOf (a : Nat) : Option Nat :=
  if a < 0x200000 then some (a / 0x40000)
  else if 0x800000 ≤ a ∧ a < 0x1000000 then some (8 + (a - 0x800000) / 0x100000)
  else if 0x1000000 ≤ a ∧ a < 0x3000000 then some (16 + (a - 0x1000000) / 0x400000)
  else if 0x3000000 ≤ a ∧ a < 0x3C00000 then some (24 + (a - 0x3000000) / 0x400000)
  else if 0x3C00000 ≤ a ∧ a < 0x3E00000 then some 27
  else if 0x3E00000 ≤ a ∧ a < 0x4000000 then some 28
  else none

/-- The always-on memory (18 R483). -/
def aoBase : Nat := 0x4000000
def isAo (a : Nat) : Bool := decide (0x4000000 ≤ a) && decide (a < 0x4004000)

/-- The NV window and the OTP window (18 R483). -/
def nvBase : Nat := 0x4100000
def isNv (a : Nat) : Bool := decide (0x4100000 ≤ a) && decide (a < 0x4180000)
def otpBase : Nat := 0x4200000
def isOtp (a : Nat) : Bool := decide (0x4200000 ≤ a) && decide (a < 0x4280000)

/-- The register blocks (18 R484). -/
def isReg (a : Nat) : Bool :=
  decide (0x5000000 ≤ a) && decide (a < 0x5120000) && !(decide (0x5070000 ≤ a) && decide (a < 0x5080000))

/-- The blocks that the host and the engines reach through the control mailbox (18 R484). -/
def isMailbox (a : Nat) : Bool := decide (0x5010000 ≤ a) && decide (a < 0x5070000)

/-- An address that 18 R483 and R484 list. -/
def mapped (a : Nat) : Bool := (bankOf a).isSome || isAo a || isNv a || isOtp a || isReg a

/-- The window or block of an address: a bank by number, then always-on memory, NV, OTP, and the register blocks. -/
def windowOf (a : Nat) : Option Nat :=
  match bankOf a with
  | some b => some b
  | none =>
    if isAo a then some 29 else if isNv a then some 30 else if isOtp a then some 31
    else if isReg a then some (if 0x5080000 ≤ a ∧ a < 0x50A0000 then 0x508 else a / 0x10000) else none

/-- The window that 18 R483 lists for an address: IB_0 to IB_7, DB_0 to DB_7 and EP_0 to EP_7 are one each. -/
def spaceOf (a : Nat) : Option Nat := (windowOf a).map (fun w => if w < 24 then w / 8 else w)

/-! ### Bytes -/

/-- The bank or always-on memory that an address lies in; 30 for any other address. -/
def regionOf (a : Nat) : Nat := (bankOf a).getD (if isAo a then 29 else 30)

/-- The factory copies of the OTP store (13 R373); their contents are not stated (log 5). -/
def isFactory (a : Nat) : Bool := decide (0x4200000 ≤ a) && decide (a < 0x4208000)

/-- What an unlisted address reads as: zero, or a free byte in the factory copies and where a region has lost its contents
(log 5). -/
def memDefault (lost : Tab Nat) (a : Nat) : BitVec 8 :=
  match Tab.get (fun _ => 0) lost (regionOf a) with
  | 0 => if isFactory a then Config.freeByte 0 a else 0
  | k + 1 => Config.freeByte k a

/-- The canonical form of memory. -/
abbrev Memory.wf (lost : Tab Nat) (m : List Host.Cell) : Bool := Tab.wf (memDefault lost) m

def State.byte (s : State) (a : Nat) : BitVec 8 := Tab.get (memDefault s.bank.lost) s.mem a

def State.setByte (s : State) (a : Nat) (v : BitVec 8) : State :=
  { s with mem := Tab.set (memDefault s.bank.lost) s.mem a v }

/-- `n` bytes from an address as one value, lowest byte first (00 R9). -/
def State.bytes (s : State) (a : Nat) : Nat → Nat
  | 0 => 0
  | n + 1 => (s.byte a).toNat + 256 * s.bytes (a + 1) n

/-- `n` bytes stored from an address, lowest byte first. -/
def State.setBytes (s : State) (a : Nat) : Nat → Nat → State
  | 0, _ => s
  | n + 1, v => (s.setByte a (BitVec.ofNat 8 v)).setBytes (a + 1) n (v / 256)

/-- The check state of a group that is not listed: good, or free where a region has lost its contents (12 R348; log 5). -/
def eccDefault (lost : Tab Nat) (g : Nat) : Nat :=
  match Tab.get (fun _ => 0) lost (regionOf (8 * g)) with
  | 0 => 0
  | k + 1 => if Config.freeCheck k g then 1 else 0

def State.ecc (s : State) (g : Nat) : Nat := Tab.get (eccDefault s.bank.lost) s.bank.ecc g

def State.setEcc (s : State) (g v : Nat) : State :=
  { s with bank := { s.bank with ecc := Tab.set (eccDefault s.bank.lost) s.bank.ecc g v } }

/-- Every byte of a region reads zero, with valid check bits (12 R349, R351). -/
def State.zeroRegion (s : State) (r : Nat) : State :=
  { s with
    mem := s.mem.filter (fun c => regionOf c.1 != r)
    bank := { s.bank with
      lost := Tab.set (fun _ => 0) s.bank.lost r 0
      ecc := s.bank.ecc.filter (fun c => regionOf (8 * c.1) != r) } }

/-- A region loses its contents: every byte is a free value (12 R348, R357, 15 R436). -/
def State.loseRegion (s : State) (r : Nat) : State :=
  { s with
    mem := s.mem.filter (fun c => regionOf c.1 != r)
    bank := { s.bank with
      losses := s.bank.losses + 1
      lost := Tab.set (fun _ => 0) s.bank.lost r (s.bank.losses + 1)
      ecc := s.bank.ecc.filter (fun c => regionOf (8 * c.1) != r) } }

/-! ### Gates -/

/-- The memory group fence or the bank's own fence is in effect (12 R350, 16 R448). -/
def State.bankFenced (s : State) (b : Nat) : Bool := s.fenced (0x080 + b) || s.bank.groupFence

/-- The bank serves accesses (12 R348, R350). -/
def State.bankOpen (s : State) (b : Nat) : Bool :=
  s.fld (R.BNK_STATUS_PWR_NOW b) == 0 && !s.flag (R.BNK_STATUS_BUSY b) && !s.bankFenced b

/-- The gate of a bank answers DOMAIN_OFF (15 R426). -/
def State.bankOff (s : State) : State := s.bump R.PWR_DOFF_BANKS_COUNT

/-- The gate of a power domain answers DOMAIN_OFF; PWR_DOFF_0 reads zero (15 R426, R439). -/
def State.gateOff (s : State) (d : Nat) : State := if d = 0 then s else s.bump (R.PWR_DOFF_COUNT d)

/-- The ring manager is fenced (16 R446, R448). -/
def State.ringsFenced (s : State) : Bool := s.fenced 0x019 || s.bank.groupFence

/-- The quiet condition of a bank's primary master (12 R348). -/
def State.bankQuiet (s : State) (b : Nat) : Bool :=
  let ringsOff (lo n : Nat) : Bool := (List.range n).all (fun k => !s.flag (R.RING_CFG_EN (lo + k)))
  if b < 24 then
    let e := s.fld (R.ENG_STATE_STATE (b % 8))
    e == 0 || e == 4
  else match b with
    | 24 => (List.range 32).all (fun n => s.fld (R.LNK_STATUS_STATE n) == 0)
    | 25 => ringsOff 104 24
    | 26 => ringsOff 64 40
    | 28 => (List.range 32).all (fun n => s.fld (R.LNK_STATUS_STATE n) == 0)
    | _ => true

end Sys2Proof.Machine
end

