-- ==== Sys2Proof/Machine/BankCore.lean ====
section
/-! DEFINITION. Machine/BankCore.lean: bank status, and how a darn ends, as the fault collector and the power manager need them
(12 R350, R355, R357). -/
namespace Sys2Proof.Machine

def State.busyKind (s : State) (b : Nat) : Nat := Tab.get (fun _ => 0) s.bank.busy b

/-- BUSY with its reason (R350); 0 ends it. -/
def State.setBusy (s : State) (b k : Nat) : State :=
  let s := { s with bank := { s.bank with busy := Tab.set (fun _ => 0) s.bank.busy b k } }
  s.setFld (R.BNK_STATUS_BUSY b) (if k = 0 then 0 else 1)

/-- BNK_STATUS.FENCED follows the bank's fences (R372). -/
def State.showBankFence (s : State) (b : Nat) : State :=
  s.setFld (R.BNK_STATUS_FENCED b) (if s.bankFenced b then 1 else 0)

/-- The requested darn ends with a code and a number of failing rows (R355). -/
def State.darnFinish (s : State) (b code rows : Nat) : State :=
  let s := { s with bank := { s.bank with darn := none } }
  let s := (s.setBusy b 0).clr (R.BNK_STATUS_DARN b)
  ((s.setFld R.BNK_DARN_STATUS_RESULT code).setFld R.BNK_DARN_STATUS_FAIL_ROWS (min 31 rows)).raise
    (R.BNK_EVENTS_DARN_END b)

/-- The bank leaves ON or is fenced: its darn ends ABORTED with the failing rows found so far; a destructive one, requested or of the
boot, leaves its contents undefined (R356, R357). -/
def State.abortDarn (s : State) (b : Nat) : State :=
  if s.busyKind b = 3 then ((s.loseRegion b).setBusy b 0).raise (R.BNK_EVENTS_DARN_END b)
  else match s.bank.darn with
    | some (b', hard) =>
      if b' ≠ b then s else (if hard then s.loseRegion b else s).darnFinish b 8 s.bank.darnRows
    | none => s

/-- A fence of the bank takes effect (R350, R357). -/
def State.fenceBank (s : State) (b : Nat) : State := (s.abortDarn b).showBankFence b

end Sys2Proof.Machine
end

