-- ==== Sys2Proof/Machine/Packet.lean ====
section
/-! DEFINITION. Machine/Packet.lean: the parts of an Ethernet frame that a port and the classifier read or write: tags, PTP messages,
ESMC PDUs, insertions and checksums (07 R201 to R204, R214, R215, R220). Bytes past the end of a frame read as zero
(DESIGN CHOICE, log 18); the formats of IEEE 802.3, IEEE 1588, UDP and G.8264 that the rules name are taken from those
standards (PRESUMED, log 18). -/
namespace Sys2Proof.Machine

/-- A byte of a frame. -/
def fb (f : List (BitVec 8)) (i : Nat) : Nat := (f.getD i 0).toNat

/-- `n` bytes of a frame as one value, highest byte first. -/
def fbe (f : List (BitVec 8)) (i n : Nat) : Nat := (List.range n).foldl (fun a k => a * 256 + fb f (i + k)) 0

/-- `n` bytes as one value, lowest byte first (00 R9). -/
def fle (f : List (BitVec 8)) (i n : Nat) : Nat := (List.range n).foldr (fun k a => fb f (i + k) + 256 * a) 0

/-- The bytes of a value, lowest first; highest first. -/
def leBytes : Nat → Nat → List (BitVec 8)
  | 0, _ => []
  | n + 1, v => BitVec.ofNat 8 v :: leBytes n (v / 256)

def beBytes (n v : Nat) : List (BitVec 8) := (leBytes n v).reverse

/-- A list of bytes as one value, lowest first. -/
def leVal (l : List (BitVec 8)) : Nat := l.foldr (fun b a => b.toNat + 256 * a) 0

/-- Bytes written over a frame from a place; nothing is written past its end. -/
def overlay (f : List (BitVec 8)) (i : Nat) (l : List (BitVec 8)) : List (BitVec 8) :=
  (f.take i ++ l.take (f.length - i)) ++ f.drop (i + l.length)

/-! ### Frame kinds (R201) -/

def isTag (f : List (BitVec 8)) (i : Nat) : Bool := fbe f i 2 == 0x8100 || fbe f i 2 == 0x88A8

/-- Tags before the EtherType, at most two (R201). -/
def tags (f : List (BitVec 8)) : Nat := if isTag f 12 then (if isTag f 16 then 2 else 1) else 0

/-- Where the EtherType stands, and its value. -/
def etherAt (f : List (BitVec 8)) : Nat := 12 + 4 * tags f
def etherType (f : List (BitVec 8)) : Nat := fbe f (etherAt f) 2

/-- The place of the UDP header and the IP version, for UDP over IPv4 or IPv6 without extension headers. -/
def udpAt (f : List (BitVec 8)) : Option (Nat × Nat) :=
  let p := etherAt f + 2
  if etherType f = 0x0800 ∧ fb f (p + 9) = 17 then some (p + 4 * (fb f p % 16), 4)
  else if etherType f = 0x86DD ∧ fb f (p + 6) = 17 then some (p + 40, 6)
  else none

/-- The place of a PTP message (R201), with the place of the UDP header and the IP version, or 0 and 0. -/
def ptpAt (f : List (BitVec 8)) : Option (Nat × Nat × Nat) :=
  if etherType f = 0x88F7 then some (etherAt f + 2, 0, 0)
  else match udpAt f with
    | some (u, v) => if fbe f (u + 2) 2 = 319 ∨ fbe f (u + 2) 2 = 320 then some (u + 8, u, v) else none
    | none => none

/-- Slow Protocols, subtype 0x0A, OUI 00-19-A7 (R201). -/
def isEsmc (f : List (BitVec 8)) : Bool :=
  let p := etherAt f + 2
  etherType f == 0x8809 && fb f p == 0x0A && fbe f (p + 1) 3 == 0x0019A7

/-- The longest frame without FCS that a port takes: 1,518 bytes and 4 for each tag (R201; DEDUCED, log 18). -/
def tooLong (f : List (BitVec 8)) : Bool := decide (1518 + 4 * tags f < f.length)

/-- A frame that is discarded and counted in LNK_RX_ERR: too long, MAC control, or PTP of another major version (R201). -/
def rxError (f : List (BitVec 8)) : Bool :=
  tooLong f || etherType f == 0x8808
    || (match ptpAt f with
      | some (p, _, _) => fb f (p + 1) % 16 != 2
      | none => false)

/-- The message type of a PTP frame, and CLASS of a frame (R205): 0 event, 1 general, 2 ESMC, 3 other. -/
def ptpType (f : List (BitVec 8)) (p : Nat) : Nat := fb f p % 16

def frameClass (f : List (BitVec 8)) : Nat :=
  match ptpAt f with
  | some (p, _, _) => if ptpType f p < 4 then 0 else 1
  | none => if isEsmc f then 2 else 3

/-- minorVersionPTP is 1 (R205). -/
def isV2019 (f : List (BitVec 8)) : Bool :=
  match ptpAt f with
  | some (p, _, _) => fb f (p + 1) / 16 == 1
  | none => false

/-- domainNumber and sdoId (R204). -/
def ptpDomain (f : List (BitVec 8)) (p : Nat) : Nat := fb f (p + 4)
def ptpSdo (f : List (BitVec 8)) (p : Nat) : Nat :=
  fb f p / 16 * 256 + (if fb f (p + 1) / 16 = 0 then 0 else fb f (p + 5))

/-- The 10 bytes of sourcePortIdentity (R208, 09 R252). -/
def ptpSource (f : List (BitVec 8)) (p : Nat) : List (BitVec 8) := (List.range 10).map (fun k => f.getD (p + 20 + k) 0)

/-! ### ESMC (R220) -/

/-- A valid ESMC PDU carries ITU-T subtype 1, version 1 and a QL TLV. -/
def esmcValid (f : List (BitVec 8)) : Bool :=
  let p := etherAt f + 2
  isEsmc f && fbe f (p + 4) 2 == 1 && fb f (p + 6) / 16 == 1 && fb f (p + 10) == 1 && fbe f (p + 11) 2 == 4

def esmcQl (f : List (BitVec 8)) : Nat := fb f (etherAt f + 15) % 16

/-- The PDU carries an extended QL TLV. -/
def esmcExt (f : List (BitVec 8)) : Bool := fb f (etherAt f + 16) == 2

/-! ### Launched frames (R209, R212 to R215). `raw` is the 32 header bytes and the frame bytes. -/

def launchAt (raw : List (BitVec 8)) : Nat := fle raw 0 12
def launchTol (raw : List (BitVec 8)) : Nat := fle raw 12 2
def launchLen (raw : List (BitVec 8)) : Nat := fle raw 14 2
def launchFlag (raw : List (BitVec 8)) (k : Nat) : Bool := (fb raw 16).testBit k
def launchEntries (raw : List (BitVec 8)) : Nat := fb raw 17

/-- E = ceil((32 + L) / 128) (R205, R209). -/
def entriesFor (len : Nat) : Nat := (32 + len + 127) / 128

/-- LEN and ENTRIES are in range and consistent (R212). -/
def sizeOk (raw : List (BitVec 8)) : Bool :=
  decide (14 ≤ launchLen raw) && decide (launchLen raw ≤ 1526) && launchEntries raw == entriesFor (launchLen raw)

/-- The FORMAT test of the header (R212), without what it says of the frame. -/
def headerOk (raw : List (BitVec 8)) : Bool := sizeOk raw && hubLegal (launchAt raw)

/-- The frame is a PTP event message; an Announce. -/
def isEvent (f : List (BitVec 8)) : Bool := frameClass f == 0
def isAnnounce (f : List (BitVec 8)) : Bool :=
  match ptpAt f with
  | some (p, _, _) => ptpType f p == 0xB
  | none => false

/-- The FORMAT test (R212). -/
def formatOk (raw : List (BitVec 8)) : Bool :=
  let f := raw.drop 32
  headerOk raw && (!launchFlag raw 0 || isEvent f) && (!(launchFlag raw 1 || launchFlag raw 2) || isAnnounce f)

/-- The sum of 16-bit words from a place, modulo 65,535. -/
def onesSum (f : List (BitVec 8)) (u : Nat) : Nat :=
  (List.range (f.length - u)).foldl (fun a k => (a + (if k % 2 = 0 then 256 else 1) * fb f (u + k)) % 65535) 0

/-- The two bytes after the PTP message that keep the UDP checksum valid when a frame changes from `f` to `g` (R214). Of
the two values that stand for zero the port's choice is free. -/
def padFix (f g : List (BitVec 8)) (u p : Nat) : List (BitVec 8) :=
  let i := p + fbe f (p + 2) 2
  let d := (onesSum g u + 65535 - onesSum f u) % 65535
  let d := if (i - u) % 2 = 0 then d else 256 * d % 65535
  let v := (fbe g i 2 + 65535 - d) % 65535
  overlay g i (beBytes 2 (if v = 0 ∧ Config.onesZero then 0xFFFF else v))

/-- The frame kept valid after an insertion (R214, R215). -/
def keepValid (f g : List (BitVec 8)) : List (BitVec 8) :=
  match ptpAt f with
  | some (_, u, 4) => overlay g (u + 6) (beBytes 2 0)
  | some (p, u, 6) => if f = g then g else padFix f g u p
  | _ => g

/-- ONE_STEP insertion of a departure time in fu (R214). -/
def insertTime (f : List (BitVec 8)) (t : Nat) : List (BitVec 8) :=
  match ptpAt f with
  | some (p, _, _) =>
    let g := overlay f (p + 34) (beBytes 6 (t / fuPerSec % 2 ^ 48) ++ beBytes 4 (t % fuPerSec / 65536))
    overlay g (p + 8) (beBytes 8 ((fbe f (p + 8) 8 + t % 65536) % 2 ^ 64))
  | none => f

/-- Announce insertions (R215). -/
def insertQuality (f : List (BitVec 8)) (cls acc var : Nat) : List (BitVec 8) :=
  match ptpAt f with
  | some (p, _, _) => overlay f (p + 48) (beBytes 1 cls ++ beBytes 1 acc ++ beBytes 2 var)
  | none => f

def insertUtc (f : List (BitVec 8)) (off : Nat) : List (BitVec 8) :=
  match ptpAt f with
  | some (p, _, _) => overlay f (p + 44) (beBytes 2 off)
  | none => f

/-- A frame shorter than 60 bytes is padded with zero bytes (R209). -/
def padFrame (f : List (BitVec 8)) : List (BitVec 8) := f ++ List.replicate (60 - f.length) 0

end Sys2Proof.Machine
end

