-- ==== Sys2Proof/Machine/Crc.lean ====
section
/-! DEFINITION. Machine/Crc.lean: the reflected CRCs that the rules name: CRC-32C of the directory (09 R251) and CRC-32 of the
stores (13 R378, R397) and of the FCS (07 R209). -/
namespace Sys2Proof.Machine

/-- One bit of a reflected CRC with reflected polynomial `p`. -/
def crcBit (p c : Nat) : Nat := if c % 2 = 1 then Nat.xor (c / 2) p else c / 2

def crcBits (p : Nat) : Nat → Nat → Nat
  | 0, c => c
  | n + 1, c => crcBits p n (crcBit p c)

/-- One byte. -/
def crcByte (p c : Nat) (b : BitVec 8) : Nat := crcBits p 8 (Nat.xor c b.toNat)

/-- The CRC of bytes from a start value, inverted at the end. -/
def crc (p start : Nat) (l : List (BitVec 8)) : Nat := Nat.xor (l.foldl (crcByte p) start) 0xFFFFFFFF

/-- CRC-32C, polynomial 0x1EDC6F41 (09 R251). -/
def crc32c (start : Nat) (l : List (BitVec 8)) : Nat := crc 0x82F63B78 start l

/-- CRC-32 of IEEE 802.3, polynomial 0x04C11DB7. -/
def crc32 (l : List (BitVec 8)) : Nat := crc 0xEDB88320 0xFFFFFFFF l

/-- A frame with the FCS that a port appends (07 R209), as IEEE 802.3 computes it (log 18). -/
def withFcs (f : List (BitVec 8)) : List (BitVec 8) := f ++ leBytes 4 (crc32 f)

end Sys2Proof.Machine
end

