-- ==== Sys2Proof/Machine/Esmc.lean ====
section
/-! DEFINITION. Machine/Esmc.lean: the quality that each link port announces, and the ESMC PDUs it sends (07 R219, R220). -/
namespace Sys2Proof.Machine

def State.link (s : State) (n : Nat) : Link := Tab.get (fun _ => Link.init) s.links n

def State.setLink (s : State) (n : Nat) (l : Link) : State :=
  { s with links := Tab.set (fun _ => Link.init) s.links n l }

/-- The state of a link port (R200). -/
def State.linkState (s : State) (n : Nat) : Nat := s.fld (R.LNK_STATUS_STATE n)

/-- The QL that port n announces (R219): DNU toward the selected link, the received QL of the selected link with FOLLOW,
else that of the table entry for the timescale state. -/
def State.announcedQl (s : State) (n : Nat) : Nat :=
  let ts := s.fld R.SEAM_STATUS_TS_STATE
  let sel := s.fld R.SEAM_STATUS_SEL
  if sel = 16 + n then 0xF
  else if s.flag (R.LNK_QUAL_W1_FOLLOW n ts) ∧ 16 ≤ sel ∧ sel < 48 ∧ s.flag (R.LNK_QL_RX_VALID (sel - 16)) then
    s.fld (R.LNK_QL_RX_QL (sel - 16))
  else s.fld (R.LNK_QUAL_W1_QL n ts)

/-- ESMC PDUs leave in RUN and IDLE from a port that is UP with ESMC_TX set (R220, 15 R422). -/
def State.esmcSends (s : State) (n : Nat) : Bool :=
  s.flag (R.LNK_CFG_ESMC_TX n) && s.linkState n == 3

/-- The module's transmit disable, an output of the port: asserted in DISABLED (R200), and in FENCED with FENCE_TXDIS (R222). -/
def State.txDisable (s : State) (n : Nat) : Bool :=
  s.linkState n == 0 || (s.linkState n == 4 && s.flag (R.LNK_CFG_FENCE_TXDIS n))

/-- The bytes of an ESMC PDU: to 01-80-C2-00-00-02 from LNK_MAC (R220), with the QL TLV of G.8264 (log 18), padded and with its
FCS (R209). -/
def State.esmcBytes (s : State) (n : Nat) (event : Bool) (ql : Nat) : List (BitVec 8) :=
  let mac := s.fld (R.LNK_MAC_HI_MAC_HI n) * 2 ^ 32 + s.fld (R.LNK_MAC_LO_MAC_LO n)
  withFcs (padFrame (beBytes 6 0x0180C2000002 ++ beBytes 6 mac ++ beBytes 2 0x8809 ++ beBytes 4 0x0A0019A7 ++ beBytes 2 1
    ++ beBytes 4 (if event then 0x18000000 else 0x10000000) ++ beBytes 3 0x010004 ++ beBytes 1 ql))

/-- A PDU leaves port n: an event PDU or an information PDU (R220). -/
def State.esmcSend (s : State) (n : Nat) (event : Bool) : State :=
  let l := s.link n
  let ql := s.announcedQl n
  s.setLink n { l with esmcN := l.esmcN + 1, esmcLast := some (event, ql), esmcPdu := s.esmcBytes n event ql }

/-- A port whose announced QL has changed sends an event PDU (R220). -/
def State.announcePort (s : State) (n : Nat) : State :=
  let q := s.announcedQl n
  let l := s.link n
  if l.ann = q then s
  else
    let s := s.setLink n { l with ann := q }
    if s.esmcSends n then s.esmcSend n true else s

def State.announce (s : State) : State := (List.range 32).foldl (fun s n => s.announcePort n) s

end Sys2Proof.Machine
end

