-- ==== Sys2Proof/Machine/Fit.lean ====
section
/-! DEFINITION. Machine/Fit.lean: least-squares lines, exact in rationals (03 R85, R86; 04 R107, R116 to R118). -/
namespace Sys2Proof.Machine

/-- The sums of a fit: n, sum t, sum x, sum t t, sum t x, sum x x. -/
structure Sums where
  n : Int
  t : Int
  x : Int
  tt : Int
  tx : Int
  xx : Int
  deriving DecidableEq, Repr

def fitSums : List (Int × Int) → Sums
  | [] => { n := 0, t := 0, x := 0, tt := 0, tx := 0, xx := 0 }
  | (t, x) :: r =>
    let q := fitSums r
    { n := q.n + 1, t := q.t + t, x := q.x + x, tt := q.tt + t * t, tx := q.tx + t * x, xx := q.xx + x * x }

/-- n times the spread of t: zero when every t is the same. -/
def Sums.det (q : Sums) : Int := q.n * q.tt - q.t * q.t

/-- The slope of the least-squares line; 0 when the points have one t. -/
def Sums.slope (q : Sums) : Rat :=
  if q.det = 0 then 0 else ((q.n * q.tx - q.t * q.x : Int) : Rat) / ((q.det : Int) : Rat)

/-- The value of the least-squares line at t; 0 without points. -/
def Sums.at (q : Sums) (t : Int) : Rat :=
  if q.n = 0 then 0 else (q.x : Rat) / (q.n : Rat) + q.slope * ((t : Rat) - (q.t : Rat) / (q.n : Rat))

/-- The mean square residual about the line; 0 without points. -/
def Sums.meanSquare (q : Sums) : Rat :=
  if q.n = 0 then 0
  else
    let n := (q.n : Rat)
    let sxx := (q.xx : Rat) - (q.x : Rat) * (q.x : Rat) / n
    let stx := (q.tx : Rat) - (q.t : Rat) * (q.x : Rat) / n
    (sxx - q.slope * stx) / n

/-- The variance of the slope, from the mean square residual with n - 2 degrees of freedom (log 9). -/
def Sums.slopeVar (q : Sums) : Rat :=
  let n := (q.n : Rat)
  q.meanSquare * n / (n - 2) * n / (q.det : Rat)

/-- The variance of the value at t (log 9). -/
def Sums.atVar (q : Sums) (t : Int) : Rat :=
  let n := (q.n : Rat)
  let d := (t : Rat) - (q.t : Rat) / n
  q.meanSquare * n / (n - 2) * (1 / n + d * d * n / (q.det : Rat))

/-- The line through phase samples, in elapsed time. -/
def sampleSums (l : List Sample) : Sums := fitSums (l.map (fun e => ((e.t : Int), e.x)))

end Sys2Proof.Machine
end

