-- ==== Sys2Proof/Machine/Servo.lean ====
section
/-! DEFINITION. Machine/Servo.lean: TSERVO (02 R58 to R71): the control law, the stage schedule, holding. -/
namespace Sys2Proof.Machine

/-! ### The coefficients of a stage (R62, R63) -/

/-- zeta of a ZETA code (R63). -/
def zetaOf (code : Nat) : Rat :=
  match code with
  | 0 => 1 / 2 | 1 => 707 / 1000 | 2 => 1 | 3 => 3 / 2 | 4 => 2 | 5 => 3 | 6 => 4 | _ => 5

/-- f_n of an FN code, in hertz: 1 mHz times 2^(FN/4) (R63). -/
def naturalFreq (fn : Nat) : Rat :=
  (1 / 1000 : Rat) * ((2 ^ (fn / 4) : Nat) : Rat) * (if fn % 4 = 0 then 1 else Config.servoRoot (fn % 4))

/-- The mean input rate over the last 16 inputs, in hertz; with fewer, over those there are, from the second on (R63, R66,
log 69). -/
def Tservo.inputRate (v : Tservo) : Option Rat :=
  match v.inTimes.head?, v.inTimes.getLast? with
  | some a, some b => if b < a then some (((v.inTimes.length - 1 : Nat) : Rat) * (fuPerSec : Rat) / ((a - b : Nat) : Rat)) else none
  | _, _ => none

/-- The limit of R63 applies to a stage's f_n. -/
def State.bwClamped (s : State) (n : Nat) : Bool :=
  match s.tsv.inputRate with
  | some r => decide (r / 20 < naturalFreq (s.fld (R.TSV_STAGE_FN n)))
  | none => false

/-- omega of a stage, with f_n limited to 1/20 of the mean input rate (R62, R63). -/
def State.omega (s : State) (n : Nat) : Rat :=
  let f := naturalFreq (s.fld (R.TSV_STAGE_FN n))
  let f := match s.tsv.inputRate with
    | some r => if r / 20 < f then r / 20 else f
    | none => f
  2 * Config.servoPi * f

/-- kp = 2 zeta omega (R62). -/
def State.kp (s : State) (n : Nat) : Rat := 2 * zetaOf (s.fld (R.TSV_STAGE_ZETA n)) * s.omega n

/-- ki = omega^2 (R62). -/
def State.ki (s : State) (n : Nat) : Rat := s.omega n * s.omega n

/-- An offset of fu in seconds. -/
def fuSeconds (x : Int) : Rat := (x : Rat) / (fuPerSec : Rat)

/-- A fraction in units of 2^-48, rounded as TSERVO rounds (free). -/
def servoUnits (q : Rat) : Int := Config.servoRound (q * ((2 ^ 48 : Nat) : Rat))

/-! ### The registers of TSERVO -/

def State.integ (s : State) : Int := s.int64 R.TSV_INTEG_LO R.TSV_INTEG_HI
def State.setInteg (s : State) (v : Int) : State := s.setInt64 R.TSV_INTEG_LO R.TSV_INTEG_HI v
def State.lastX (s : State) : Int := s.int64 R.TSV_LASTX_LO R.TSV_LASTX_HI
def State.stage (s : State) : Nat := s.fld R.TSV_STATUS_STAGE
def State.holding (s : State) : Bool := s.flag R.TSV_STATUS_HOLDING
def State.tsvSrc (s : State) : Nat := s.fld R.TSV_CTL_SRC

/-- y, or the holdover value while TSERVO is HOLDING (R68). -/
def State.steerBase (s : State) : Int := if s.holding then s.tsv.hold else s.tsv.y

/-- The steering word S (R68). -/
def State.steer (s : State) : Int := s.steerBase + s.tsv.slew

/-- The offset that rotator p is asked for: S, plus the ramp output of PLLs B to D (05 R139). -/
def State.rotDemand (s : State) (p : Nat) : Int :=
  if p = 0 then s.steer else s.steer + s.int64 (R.SYN_RAMP_OUT_LO p) (R.SYN_RAMP_OUT_HI p)

/-- S_p of rotator p, held at 500 ppm (05 R139). -/
def State.rotFreq (s : State) (p : Nat) : Int := max (-140737488355) (min 140737488355 (s.rotDemand p))

/-- SYN_ROT_FREQ_p shows S_p and ROT_CLAMP that it is held (05 R139). -/
def State.showRotator (s : State) (p : Nat) : State :=
  let c := decide (140737488355 < (s.rotDemand p).natAbs)
  (s.setInt64 (R.SYN_ROT_FREQ_LO p) (R.SYN_ROT_FREQ_HI p) (s.rotFreq p)).setFld (R.SYN_PLL_STATUS_ROT_CLAMP p)
    (if c then 1 else 0)

/-- TSV_STEER shows S (R73), and the rotators follow it (05 R139). -/
def State.showSteer (s : State) : State :=
  let s := s.setInt64 R.TSV_STEER_LO R.TSV_STEER_HI s.steer
  (((s.showRotator 0).showRotator 1).showRotator 2).showRotator 3

/-- The limit of R67 in units of 2^-48: YMAX in units of 2^-32, at most 500 ppm. -/
def State.ymax (s : State) : Int := ((min (s.fld R.TSV_YMAX_YMAX) 2147484 : Nat) : Int) * 65536

/-! ### One input (R62, R67) -/

/-- The list of offsets that the stage schedule needs: elapsed time and magnitude, an entry only while nothing newer is as large. -/
def keepBig (t m : Nat) (l : List (Nat × Nat)) : List (Nat × Nat) :=
  (t, m) :: l.filter (fun e => decide (m < e.2))

/-- One input offset x in fu, received after tau fu (none for the first input after a restart) (R62). -/
def State.servoInput (s : State) (x : Int) (tau : Option Nat) : State :=
  if s.tservoFenced then s
  else
    let v := { s.tsv with
      inTimes := (s.tb.elapsed :: s.tsv.inTimes).take 16
      lastIn := some s.tb.elapsed
      big := keepBig s.tb.elapsed x.natAbs s.tsv.big }
    let s := { s with tsv := v }
    let n := s.stage
    let i0 := s.integ
    let i1 := match tau with
      | some d => i0 - servoUnits (s.ki n * fuSeconds x * fuSeconds d)
      | none => i0
    let y1 := i1 - servoUnits (s.kp n * fuSeconds x)
    let exceeds := decide (s.ymax < y1) || decide (y1 < -s.ymax)
    let y2 := if s.ymax < y1 then s.ymax else if y1 < -s.ymax then -s.ymax else y1
    let s := if exceeds then s.raise R.TSV_STATUS_CLAMP else (s.setInteg i1).clr R.TSV_STATUS_CLAMP
    let s := s.setFld R.TSV_STATUS_BW_CLAMP (if s.bwClamped n then 1 else 0)
    let s := s.setInt64 R.TSV_LASTX_LO R.TSV_LASTX_HI x
    ({ s with tsv := { s.tsv with y := y2 } }).showSteer

/-- The interval since the last input (R60, R62). -/
def State.inputTau (s : State) : Option Nat :=
  match s.tsv.lastIn with
  | some t => some (s.tb.elapsed - t)
  | none => none

/-! ### Stages (R64, R65) -/

/-- Entry into a stage, with the integrator adjusted so that the steering word does not jump (R64). y moves with the next
input, also under SRC = NONE (log 69). -/
def State.enterStage (s : State) (n : Nat) : State :=
  let k0 := s.kp s.stage
  let s := s.setFld R.TSV_STATUS_STAGE n
  let s := s.setInteg (s.integ + servoUnits ((s.kp n - k0) * fuSeconds s.lastX))
  { s with tsv := { s.tsv with stageAt := s.tb.elapsed } }

/-- RESTART_STAGE, limited to LAST_STAGE (R65). -/
def State.restartStage (s : State) : Nat := min (s.fld R.TSV_CTL_RESTART_STAGE) (s.fld R.TSV_CTL_LAST_STAGE)

/-- Every offset of the last `d` fu was within the limit (R65). -/
def Tservo.within (v : Tservo) (now d limit : Nat) : Bool :=
  v.big.all (fun e => decide (e.2 ≤ limit) || decide (e.1 + d < now))

/-- The condition of R65 for leaving the present stage; its seconds are those that passed, without PRESS steps (log 69). -/
def State.stageReady (s : State) : Bool :=
  let n := s.stage
  let d := s.fld (R.TSV_STAGE_DWELL n) * fuPerSec
  decide (n < s.fld R.TSV_CTL_LAST_STAGE) && decide (s.tsv.stageAt + d ≤ s.tb.elapsed)
    && s.tsv.within s.tb.elapsed d (s.fld (R.TSV_STAGE_ADV_ADV n))

/-! ### Holding (R69, R516) -/

/-- Entry into HOLDING (R69). -/
def State.servoHold (s : State) (value : Int) : State :=
  if s.tservoFenced then s
  else ({ s.raise R.TSV_STATUS_HOLDING with tsv := { s.tsv with hold := value } }).showSteer

/-- A new holdover value while HOLDING (R69, 04 R119). -/
def State.servoHoldValue (s : State) (value : Int) : State :=
  if s.tservoFenced then s else ({ s with tsv := { s.tsv with hold := value } }).showSteer

/-- Leaving HOLDING: the integrator takes the steering word less any slew term, RESTART_STAGE, HOLDING clear (R69). The stage
change adds no term of R64, and the input times of R63 start anew (log 69). -/
def State.servoRelease (s : State) : State :=
  if s.tservoFenced then s
  else
    let v := s.steerBase
    let s := s.setInteg v
    let s := { s with tsv := { s.tsv with y := v, lastIn := none, inTimes := [], stageAt := s.tb.elapsed } }
    ((s.setFld R.TSV_STATUS_STAGE s.restartStage).clr R.TSV_STATUS_HOLDING).showSteer

/-- The bias of SPLIT moves toward its target by no more than TSV_BIAS_SLEW per second of hub time (R60); the seconds are those
that passed, without PRESS steps (log 69), and a part of a fu is carried to the next move. -/
def State.moveBias (s : State) : State :=
  let acc := s.tsv.biasRem + (s.tb.elapsed - s.tsv.biasAt) * s.fld R.TSV_BIAS_SLEW_SLEW
  let step := acc / fuPerSec
  let d := s.tsv.biasTarget - s.tsv.bias
  let b := if d.natAbs ≤ step then s.tsv.biasTarget
    else if 0 < d then s.tsv.bias + step else s.tsv.bias - step
  { s with tsv := { s.tsv with
    bias := b, biasAt := s.tb.elapsed, biasRem := if d.natAbs ≤ step then 0 else acc % fuPerSec } }

/-- An offset that the seam unit delivers (R58, R60): used under SEAM and SPLIT while not HOLDING. -/
def State.seamInput (s : State) (e : Int) : State :=
  if s.holding then s
  else match s.tsvSrc with
    | 1 => s.servoInput e s.inputTau
    | 3 => let s := s.moveBias; s.servoInput (e + s.tsv.bias) s.inputTau
    | _ => s

end Sys2Proof.Machine
end

