-- ==== Sys2Proof/Machine/SeamCore.lean ====
section
/-! DEFINITION. Machine/SeamCore.lean: the seam unit's order, standbys, seams, holdover entry and exit, and the inputs it
delivers (04 R100 to R120, R130 to R136). -/
namespace Sys2Proof.Machine

/-! ### Candidates as the seam unit sees them -/

/-- The state of a candidate; a fenced qualifier makes every candidate ABSENT (16 R446). -/
def State.candState (s : State) (n : Nat) : Nat :=
  if s.qualFenced then 0 else s.fld (R.QUAL_CAND_STATE_STATE n)

/-- A time candidate: a pulse or IRIG-B input (03 R75). -/
def State.timeCand (s : State) (n : Nat) : Bool := decide (n < 16) && s.fld (R.QUAL_CAND_CFG_KIND n) != 0

def State.steppedCand (s : State) (n : Nat) : Bool := s.flag (R.QUAL_CAND_STATE_STEPPED n)

def State.selected (s : State) : Nat := s.fld R.SEAM_STATUS_SEL
def State.prefCand (s : State) : Nat := s.fld R.SEAM_STATUS_PREF
def State.tsState (s : State) : Nat := s.fld R.SEAM_STATUS_TS_STATE
def State.isFree (s : State) : Bool := s.flag R.SEAM_CTL_FREE

/-- The seam unit follows offsets from FEEDs alone (R513). -/
def State.srcFeed (s : State) : Bool := s.tsvSrc == 2

/-- QUALIFIED and not STEPPED under HOLD (R101, R102). -/
def State.fit (s : State) (n : Nat) : Bool :=
  decide (n < 48) && s.candState n == 2 && (!s.steppedCand n || s.flag R.SEAM_CTL_TIME_RETURN)

/-- Eligible under R101. -/
def State.eligible (s : State) (n : Nat) : Bool := s.flag (R.SEAM_RANK_ELIG n) && s.fit n

/-- Insertion by rank, equal ranks in number order. -/
def insertRank (s : State) (n : Nat) : List Nat → List Nat
  | [] => [n]
  | m :: r => if s.fld (R.SEAM_RANK_RANK n) < s.fld (R.SEAM_RANK_RANK m) then n :: m :: r else m :: insertRank s n r

/-- Candidates that meet a condition, by rank and then by number. -/
def State.byRank (s : State) (p : Nat → Bool) : List Nat :=
  (List.range 48).foldl (fun l n => if p n then insertRank s n l else l) []

/-- The automatic order (R101). -/
def State.autoOrder (s : State) : List Nat :=
  if s.fit s.prefCand then s.prefCand :: (s.byRank (fun n => s.eligible n && n != s.prefCand))
  else s.byRank (fun n => s.eligible n)

/-- The first candidate in the automatic order other than the selected one (R103, R130). -/
def State.firstOther (s : State) : Option Nat := s.autoOrder.find? (fun n => n != s.selected)

/-- The span of a shadow: 4 pulses, or 256 samples (R107). -/
def State.shadowSpan (s : State) (n : Nat) : Nat := if s.timeCand n then 4 else 256

def State.shadowValid (s : State) (n : Nat) : Bool := decide (s.shadowSpan n ≤ (s.cand n).fed)

/-- The phase that steering and PRESS have added to hub time (03 R511). -/
def State.steerPhase (s : State) : Int := s.tb.steer / (2 ^ 48 : Int) + s.tb.slewed + s.tb.stepped

/-- P_c: that phase since the candidate's origin (03 R511). -/
def State.candPhase (s : State) (n : Nat) : Int := s.steerPhase - (s.cand n).p0

def State.buildout (s : State) (n : Nat) : Int := Tab.get (fun _ => 0) s.seam.bo n

/-- A build-out is set; SEAM_BUILDOUT shows that of the selected candidate. -/
def State.setBuildout (s : State) (n : Nat) (v : Int) : State :=
  let s := { s with seam := { s.seam with bo := Tab.set (fun _ => 0) s.seam.bo n v } }
  if n = s.selected then s.setInt64 R.SEAM_BUILDOUT_LO R.SEAM_BUILDOUT_HI v else s

/-! ### Standbys (R106) -/

/-- The standby set (R106). -/
def State.standbySet (s : State) : List Nat :=
  let p := s.prefCand
  let first := if p < 48 ∧ p ≠ s.selected ∧ (s.candState p = 2 ∨ s.candState p = 1) then [p] else []
  let second := s.autoOrder.filter (fun n => n != s.selected && !first.contains n)
  let third := s.byRank (fun n => s.candState n == 1 && s.flag (R.SEAM_RANK_ELIG n) && n != s.selected
    && !first.contains n)
  (first ++ second ++ third).take 3

def State.setStandby (s : State) (l : List Nat) : State :=
  let g := fun (k : Nat) => (l[k]?).getD 0x3F
  let v := fun (k : Nat) => match l[k]? with
    | some n => if s.shadowValid n then 1 else 0
    | none => 0
  (((((s.setFld R.SEAM_STBY_STBY_0 (g 0)).setFld R.SEAM_STBY_V0 (v 0)).setFld R.SEAM_STBY_STBY_1 (g 1)).setFld
    R.SEAM_STBY_V1 (v 1)).setFld R.SEAM_STBY_STBY_2 (g 2)).setFld R.SEAM_STBY_V2 (v 2)

/-- The candidates for which a shadow is kept: the selected one and the standbys. -/
def State.shadowed (s : State) (n : Nat) : Bool :=
  n == s.selected || n == s.fld R.SEAM_STBY_STBY_0 || n == s.fld R.SEAM_STBY_STBY_1 || n == s.fld R.SEAM_STBY_STBY_2
    || (s.flag R.SEAM_STATUS_PREARMED && n == s.fld R.SEAM_STBY_FALLBACK)

/-- A candidate that is in neither set loses its shadow (R107). -/
def State.dropShadows (s : State) : State :=
  let l := s.cands.map (fun e => (e.1, if s.shadowed e.1 then e.2 else { e.2 with fed := 0 }))
  { s with cands := l.filter (fun e => e.2 != Cand.init) }

/-- The conditions of R104 for the revert timer. -/
def State.revertHolds (s : State) : Bool :=
  s.flag R.SEAM_CTL_REVERT && s.selected != s.prefCand && s.fit s.prefCand && !s.flag R.QUAL_STATUS_DISAGREE
    && !s.isFree && decide (s.selected < 48)

/-- The revert timer runs from when its conditions first hold, and restarts when one fails (R104, R105). -/
def State.revertCheck (s : State) : State :=
  if s.revertHolds then
    match s.seam.wtr with
    | some _ => s
    | none => { s with seam := { s.seam with wtr := some s.tb.elapsed } }
  else { s with seam := { s.seam with wtr := none } }

/-- The first STEPPED, QUALIFIED time candidate in automatic order, which TIME_RETURN HOLD reports (R132). -/
def State.trCandidate (s : State) : Option Nat :=
  let p := fun n => s.timeCand n && s.candState n == 2 && s.steppedCand n
  if p s.prefCand then some s.prefCand else (s.byRank (fun n => p n && s.flag (R.SEAM_RANK_ELIG n))).head?

/-- The report of a returned time candidate in HOLDOVER or LOST under HOLD (R132). -/
def State.trReport (s : State) : State :=
  if (s.tsState = 3 ∨ s.tsState = 4) ∧ ¬ s.flag R.SEAM_CTL_TIME_RETURN then
    match s.trCandidate with
    | some n =>
      let s := s.raiseIf (!s.flag R.SEAM_STATUS_TR_WAIT) R.SEAM_EVENTS_TR_REPORT
      ((s.raise R.SEAM_STATUS_TR_WAIT).setFld R.SEAM_TR_CAND_CAND n).setPair R.SEAM_TR_OFFSET_LO R.SEAM_TR_OFFSET_HI
        (s.pair (R.QUAL_CAND_TOFF_LO n) (R.QUAL_CAND_TOFF_HI n))
    | none => (s.clr R.SEAM_STATUS_TR_WAIT).setFld R.SEAM_TR_CAND_CAND 0x3F
  else (s.clr R.SEAM_STATUS_TR_WAIT).setFld R.SEAM_TR_CAND_CAND 0x3F

/-- What the seam unit renews at every change of candidate state or of selection. -/
def State.reform (s : State) : State := ((s.setStandby s.standbySet).dropShadows.revertCheck).trReport

/-! ### Timescale states (R112 to R114) -/

/-- Leaving LOCKED: the event, the guard line, the start of t_h (R115, R120). -/
def State.leaveLocked (s : State) : State :=
  if s.tsState = 2 then
    { s.raise R.SEAM_EVENTS_UNLOCK with seam := { s.seam with guard := [], leftLock := some s.tb.elapsed } }
  else s

/-- The state becomes ACQUIRING; the LOCK_S interval starts with the next input (R112, R513). -/
def State.toAcquiring (s : State) : State :=
  ({ (s.leaveLocked).setFld R.SEAM_STATUS_TS_STATE 1 with
    seam := { s.leaveLocked.seam with lockFrom := none, unlockN := 0 } }).announce

/-- LOCKED is entered: the event, the NOTE of R114, and an end of uncertain time with a time candidate (02 R56). -/
def State.toLocked (s : State) : State :=
  let s := { (s.setFld R.SEAM_STATUS_TS_STATE 2).raise R.SEAM_EVENTS_LOCK with
    seam := { s.seam with unlockN := 0, leftLock := none } }
  let s := (s.note 0x003).announce
  if s.timeCand s.selected ∧ ¬ s.tiFenced then
    (s.clr R.TB_STATUS_TIME_UNCERTAIN).setPair R.TB_UNC_BOUND_LO_BOUND R.TB_UNC_BOUND_HI_BOUND 0
  else s

/-! ### The model in use (R116, R119, R120) -/

/-- The model of R119 while none has been learned or restored, with the uncertainties of R117 and R118. -/
def State.unlearned (s : State) : Model :=
  { s0 := -s.seam.ovenOffset, a := 0, c := 0, t0 := s.tb.elapsed, tt0 := s.int32 R.SEAM_SUB_TEMP, uf := 14073749,
    ua := 56295, ut := 1407 }

/-- The model in use: one learned or restored, else that of R119, which a HOLDOVER entry freezes (R136). -/
def State.modelInUse (s : State) : Model :=
  match s.seam.model with
  | some m => m
  | none => s.seam.frozen.getD s.unlearned

/-- s_m of R116 at the present moment, as an exact value. -/
def State.modelExact (s : State) : Rat :=
  let m := s.modelInUse
  (m.s0 : Rat) + (m.a : Rat) * (((s.tb.elapsed : Int) - (m.t0 : Int) : Int) : Rat) / ((86400 * fuPerSec : Nat) : Rat)
    + (m.c : Rat) * ((s.int32 R.SEAM_SUB_TEMP - m.tt0 : Int) : Rat) / 1000

/-- s_m of R116 in units of 2^-48. -/
def State.modelValue (s : State) : Int := Config.modelRound s.modelExact

/-- The registers show the model in use (R137). -/
def State.showModel (s : State) : State :=
  let m := s.modelInUse
  let s := ((s.setInt64 R.SEAM_HO_S0_LO R.SEAM_HO_S0_HI m.s0).setInt64 R.SEAM_HO_AGING_LO R.SEAM_HO_AGING_HI m.a)
  let s := (s.setFld R.SEAM_HO_TEMPCO (ofSigned 32 m.c)).setFld R.SEAM_HO_T0 (ofSigned 32 m.tt0)
  ((s.setPair R.SEAM_HO_UF_LO R.SEAM_HO_UF_HI m.uf).setFld R.SEAM_HO_UA m.ua).setFld R.SEAM_HO_UT m.ut

/-- u_x: three times the RMS of the last 16 servo inputs (R119). -/
def Seam.spread (m : Seam) : Nat :=
  let n := m.errs.length
  if n = 0 then 0
  else Config.rmsRound (9 * ((m.errs.foldl (fun a e => a + e * e) 0 : Int) : Rat) / ((n : Nat) : Rat))

/-- PRESS_BUSY (R137): a STEP or SLEW is pending or a slew is in progress. -/
def State.pressBusy (s : State) : State :=
  let b := s.seam.slew.isSome || s.seam.press.isSome || s.seam.acq.isSome
  s.setFld R.SEAM_STATUS_PRESS_BUSY (if b then 1 else 0)

/-- HOLDOVER is entered from ACQUIRING or LOCKED (R119, R136); any other state does not change. An acquisition step that still
waited goes with its selection (log 71). -/
def State.enterHoldover (s : State) : State :=
  if s.seamFenced ∨ ¬ (s.tsState = 1 ∨ s.tsState = 2) then s
  else
    let s := s.leaveLocked
    let s := { s with seam := { s.seam with guard := [], ux := s.seam.spread, hoAt := s.tb.elapsed, tInt := 0,
                                            tIntAt := s.tb.elapsed, lockFrom := none, unlockN := 0, ins := [],
                                            frozen := some s.modelInUse, acq := if s.srcFeed then s.seam.acq else none } }
    let s := (s.setFld R.SEAM_STATUS_TS_STATE 3).raise R.SEAM_EVENTS_HO_ENTER
    let s := if s.srcFeed then s else s.setFld R.SEAM_STATUS_SEL 0x3F
    let s := (s.clr R.SEAM_STATUS_SEAMING).pressBusy
    let s := s.servoHold s.modelValue
    let s := match s.seam.model with
      | some _ => s.record 0x003 1 0x10
      | none => (s.raise R.SEAM_STATUS_HOLDOVER_UNLEARNED).record 0x003 2 0x13
    s.announce.reform

/-- HOLDOVER or LOST is left for ACQUIRING (02 R69, R112, R136). -/
def State.leaveHoldover (s : State) : State :=
  if s.tsState = 3 ∨ s.tsState = 4 then
    let s := { s with seam := { s.seam with frozen := none } }
    ((((s.servoRelease).toAcquiring).raise R.SEAM_EVENTS_HO_EXIT).clr R.SEAM_STATUS_HOLDOVER_UNLEARNED).trReport
  else s

/-! ### Inputs delivered (R108) -/

/-- What the seam unit notes of an input e: the last 16, and the lock and unlock conditions of R112. -/
def State.noteInput (s : State) (e : Int) : State :=
  let m := { s.seam with errs := (e :: s.seam.errs).take 16 }
  let m :=
    if s.tsState = 1 then
      if e.natAbs ≤ s.fld R.SEAM_LOCK_X_LIMIT then
        { m with lockFrom := match m.lockFrom with | some t => some t | none => some s.tb.elapsed }
      else { m with lockFrom := none }
    else if s.tsState = 2 then
      { m with unlockN := if s.fld R.SEAM_UNLOCK_X_LIMIT < e.natAbs then m.unlockN + 1 else 0 }
    else m
  { s with seam := m }

/-- An acquisition step of this candidate is pending (02 R57). -/
def State.acquiring (s : State) (n : Nat) : Bool :=
  match s.seam.acq with
  | some (m, _) => m == n
  | none => false

/-- TSERVO takes the inputs of the seam unit (02 R58, R69, R513). -/
def State.servoListens (s : State) : Bool :=
  (s.tsvSrc == 1 || s.tsvSrc == 3) && !s.holding && !s.tservoFenced

/-- The servo input e = r - B of the selected candidate (R108); none in FREE-RUN, before the acquisition step, under a
fence, or while the selected candidate has failed. The seam unit notes an input only where TSERVO receives it (R513). -/
def State.deliver (s : State) (n : Nat) (r : Int) : State :=
  if n ≠ s.selected ∨ s.seamFenced ∨ s.acquiring n ∨ s.tsState = 0 ∨ ¬ (s.candState n = 2 ∨ s.candState n = 3) then s
  else
    let e := r - s.buildout n
    if s.servoListens then (s.noteInput e).seamInput e else s

/-! ### Seams (R103, R109, R135) -/

/-- An input older than 2 ms (R107). -/
def settled (now : Nat) (e : Nat × Int) : Bool := decide (e.1 + 2 * fuPerMs ≤ now)

/-- The input derived from a sample of the selected candidate is retained: those of the last 2 ms and one older (R107). -/
def State.retainInput (s : State) (e : Int) : State :=
  let l := (s.tb.elapsed, e) :: s.seam.ins
  { s with seam := { s.seam with
    ins := l.filter (fun e => !settled s.tb.elapsed e) ++ (l.filter (settled s.tb.elapsed)).take 1 } }

/-- e_o: the last input derived from the retained samples of the selected candidate; after its failure the last from at least
2 ms before, or from the last accepted pulse (R107, R109). Outside ACQUIRING and LOCKED it is 0. -/
def State.retainedInput (s : State) (failed : Bool) : Int :=
  let old := fun (e : Nat × Int) => !failed || s.timeCand s.selected || settled s.tb.elapsed e
  if s.tsState = 1 ∨ s.tsState = 2 then ((s.seam.ins.find? old).map (·.2)).getD 0 else 0

/-- A seam onto n begins (R135). -/
def State.startSeam (s : State) (n : Nat) (eo : Int) : State :=
  if s.seamFenced then s
  else { s.raise R.SEAM_STATUS_SEAMING with seam := { s.seam with run := some { dst := n, eo := eo } } }

/-- The reaction to a failure of the selected candidate, or of a seam's target (R103, R111, R134). -/
def State.fallBack (s : State) : State :=
  if s.seamFenced then s
  else
    let s := { s with seam := { s.seam with guard := [] } }
    let s := (s.clr R.SEAM_STATUS_PREARMED).setFld R.SEAM_STBY_FALLBACK 0x3F
    match s.firstOther with
    | some n =>
      if s.shadowValid n then
        s.startSeam n (s.retainedInput true)
      else if s.srcFeed then s else s.enterHoldover
    | none => if s.srcFeed then s else s.enterHoldover

/-- Phase still to move of a slew in progress ends with the slew (R127, R129): the slew stops at what has moved. -/
def State.stopSlew (s : State) : State :=
  match s.seam.slew with
  | none => s
  | some _ =>
    let s := { s with seam := { s.seam with slew := none }, tsv := { s.tsv with slew := 0 } }
    ((s.setInt64 R.SEAM_SLEW_REM_LO R.SEAM_SLEW_REM_HI 0).clr R.SEAM_STATUS_AUTO_SLEW).showSteer

/-- SEAM_SLEW_RATE as it acts: 0 as 1, at most 655,360 (R137). -/
def State.slewRate (s : State) : Nat := min 655360 (max 1 (s.fld R.SEAM_SLEW_RATE_RATE))

/-- A slew starts (R110, R127). -/
def State.startSlew (s : State) (amt : Int) (auto : Bool) (by_ : Issuer) : State :=
  let rate := s.slewRate
  let sign : Int := if amt < 0 then -1 else 1
  let s := { s with
    seam := { s.seam with slew := some { amt := amt, rate := rate, num := 0, moved := 0, auto := auto, by_ := by_ } }
    tsv := { s.tsv with slew := sign * servoUnits ((rate : Rat) / (fuPerSec : Rat)) } }
  let s := s.setInt64 R.SEAM_SLEW_REM_LO R.SEAM_SLEW_REM_HI amt
  (((if auto then s.raise R.SEAM_STATUS_AUTO_SLEW else s).showSteer)).pressBusy

/-- A PRESS reaches its final status (R125, 11 R332). -/
def State.pressFinish (s : State) (code : Nat) : State :=
  ((s.setFld R.SEAM_PRESS_STATUS_RESULT code).raise R.SEAM_EVENTS_PRESS_DONE).pressBusy

/-- An automatic slew that waited for the end of a commanded one starts (R110, log 71). -/
def State.resumeAuto (s : State) : State :=
  if s.seam.autoWait ∧ ¬ s.seamFenced ∧ s.timeCand s.selected then
    ({ s with seam := { s.seam with autoWait := false } }).startSlew (-s.buildout s.selected) true .seam
  else s

/-- A commanded slew that is stopped completes ABORTED; an automatic one just stops (R127, R129, R517). -/
def State.abortSlew (s : State) : State :=
  match s.seam.slew with
  | none => s
  | some w =>
    let s := s.stopSlew
    if w.auto then s.pressBusy else (s.pressFinish 5).resumeAuto

/-- Nothing of the automatic slew is left to come. -/
def State.dropAuto (s : State) : State := { s with seam := { s.seam with autoWait := false } }

/-- The selected candidate became SUSPECT (R115, R130). -/
def State.prearm (s : State) : State :=
  if s.seamFenced then s
  else
    let s := { s with seam := { s.seam with guard := [] } }
    (s.setFld R.SEAM_STBY_FALLBACK (s.firstOther.getD 0x3F)).raise R.SEAM_STATUS_PREARMED

/-- The selected candidate is QUALIFIED again, or another one is selected (R130). -/
def State.disarm (s : State) : State :=
  (s.clr R.SEAM_STATUS_PREARMED).setFld R.SEAM_STBY_FALLBACK 0x3F

/-- The automatic slew of a seam onto a time candidate begins, or waits for the end of a commanded one (R110, log 71). -/
def State.autoSlew (s : State) (b : Int) : State :=
  if s.seam.slew.isNone then s.startSlew (-b) true .seam else { s with seam := { s.seam with autoWait := true } }

/-- The acquisition step takes the place of every slew and pending PRESS (02 R57, R129). -/
def State.beginAcquisition (s : State) (n : Nat) : State :=
  let s := s.abortSlew
  let s := match s.seam.press with
    | some _ => ({ s with seam := { s.seam with press := none } }).pressFinish 5
    | none => s
  ({ s with seam := { s.seam with acq := some (n, s.hubSec + 1) } }).pressBusy

/-- The phase that the shadow of a candidate predicts at the present moment, x̂ of R109. -/
def State.shadowLine (s : State) (n : Nat) : Int :=
  Config.lineRound ((sampleSums ((s.cand n).acc.take (s.shadowSpan n))).at (s.tb.elapsed : Int))

/-- A seam completes (R109, R110, R135): its first input comes from the last sample that the shadow took (log 71). -/
def State.completeSeam (s : State) : State :=
  match s.seam.run with
  | none => s
  | some r =>
    let n := r.dst
    let s := match s.seam.slew with
      | some w => if w.auto then s.stopSlew else s
      | none => s
    let b := s.shadowLine n + s.candPhase n - r.eo
    let s := { s with seam := { s.seam with run := none, guard := [], acq := none, autoWait := false, ins := [] } }
    let s := (s.clr R.SEAM_STATUS_SEAMING).raise R.SEAM_EVENTS_SEAM_DONE
    let s := ((s.setFld R.SEAM_STATUS_SEL n).setBuildout n b).disarm.pressBusy
    let s := if s.candState n = 3 then s.prearm else s
    let s := if n = s.prefCand then s.clr R.SEAM_STATUS_SEL_PENDING else s
    let s := if s.srcFeed then s
      else if s.tsState = 0 then (s.enterStage 0).toAcquiring
      else s.leaveHoldover
    let s :=
      if s.flag R.TB_STATUS_TIME_UNCERTAIN ∧ s.timeCand n then s.beginAcquisition n
      else if s.timeCand n then s.autoSlew b
      else s
    let s := match (s.cand n).acc.head? with
      | some e =>
        let r := e.x + s.candPhase n
        (s.retainInput (r - s.buildout n)).deliver n r
      | none => s
    s.announce.reform

/-- The selected candidate is in service. -/
def State.selectedGood (s : State) : Bool :=
  decide (s.selected < 48) && (s.candState s.selected == 2 || s.candState s.selected == 3)

/-- The reaction of the seam unit to a candidate that became ABSENT or DISQUALIFIED (R103, R134). The loss of a seam's target
leaves a selected candidate that is in service selected. -/
def State.candFailed (s : State) (n : Nat) : State :=
  let onto := match s.seam.run with
    | some r => r.dst == n
    | none => false
  if onto then
    let s := (({ s with seam := { s.seam with run := none } }).clr R.SEAM_STATUS_SEAMING).raise R.SEAM_EVENTS_SEAM_ABORT
    if s.selectedGood then s else s.fallBack
  else if n = s.selected ∧ s.seam.run = none then s.fallBack
  else s

end Sys2Proof.Machine
end

