-- ==== Sys2Proof/Machine/TimeBase.lean ====
section
/-! DEFINITION. Machine/TimeBase.lean: the time base (02 R42 to R56): ticks, snapshots, leap seconds, uncertain time; and what a
PRESS does to hub time (04 R125 to R129, R517). -/
namespace Sys2Proof.Machine

/-- The answer of a meaning. -/
abbrev Out := Host.Outcome State Fault Refusal

/-- A command to a unit in service: in reset, RECALL, DEEP SLEEP and OFF the unit does not run, and nothing happens. -/
def State.live (s t : State) : Out := .next (if s.powered then t else s)

/-- A command to a unit that RECALL serves too: SYS, HOST, the stores and what the loader starts. -/
def State.awake (s t : State) : Out := .next (if s.awakes then t else s)

/-- A write to TBASE under the TI group fence is answered as DOMAIN_OFF and counted (16 R447). -/
def State.tbaseGuard (s : State) (act : State → State) : State :=
  if s.tiFenced then s.bump R.FLT_TI_REFUSED_COUNT else act s

/-- A write to the TSERVO registers under a fence of TSERVO is answered as DOMAIN_OFF (16 R446). -/
def State.servoGuard (s : State) (act : State → State) : State :=
  s.tbaseGuard (fun s => if s.tservoFenced then s else act s)

/-! ### UTC and leap seconds (R50 to R53) -/

/-- The leap-second check of a tick: the leap is applied, or LEAP_ACTIVE follows the second before it (R51, R52). -/
def State.leapCheck (s : State) : State :=
  if s.flag R.TB_STATUS_LEAP_ARMED then
    if s.tb.leapAt ≤ s.hubSec then
      let s := s.setFld R.TB_UTC_OFFSET_OFFSET (ofSigned 16 (toSigned 16 (s.fld R.TB_UTC_OFFSET_OFFSET) + s.tb.leapDelta))
      (((s.clr R.TB_STATUS_LEAP_ARMED).raise R.TB_STATUS_LEAP_DONE).clr R.TB_STATUS_LEAP_ACTIVE)
    else if s.tb.leapDelta = 1 then
      s.setFld R.TB_STATUS_LEAP_ACTIVE (if s.hubSec + 1 = s.tb.leapAt then 1 else 0)
    else s
  else s

/-- DELTA of TB_LEAP_CTL as a number (R50). -/
def leapDeltaOf (d : Nat) : Int := if d = 1 then 1 else if d = 3 then -1 else 0

/-- LEAP_AT as the two registers hold it. -/
def State.leapAtReg (s : State) : Nat := s.fld R.TB_LEAP_AT_LO_AT_LO + 2 ^ 32 * s.fld R.TB_LEAP_AT_HI_AT_HI

/-- ARM with the DELTA of the same write (R50). -/
def State.leapArm (s : State) (delta : Nat) : State :=
  if delta = 2 then s.raise R.TB_STATUS_LEAP_REJ
  else
    let s := s.setFld R.TB_LEAP_CTL_DELTA delta
    if delta = 0 then (s.clr R.TB_STATUS_LEAP_ARMED).clr R.TB_STATUS_LEAP_ACTIVE
    else if s.leapAtReg ≤ s.hubSec then s.raise R.TB_STATUS_LEAP_REJ
    else
      let s := { s with tb := { s.tb with leapAt := s.leapAtReg, leapDelta := leapDeltaOf delta } }
      ((s.raise R.TB_STATUS_LEAP_ARMED).clr R.TB_STATUS_LEAP_ACTIVE)

/-- CANCEL (R50). -/
def State.leapCancel (s : State) : State := (s.clr R.TB_STATUS_LEAP_ARMED).clr R.TB_STATUS_LEAP_ACTIVE

/-- A write of TB_LEAP_CTL (R50, R72); with ARM and CANCEL both 1 it arms and then cancels (log 28). -/
def State.writeLeapCtl (s : State) (v : Nat) : State :=
  let delta := v % 4
  if delta = 2 then s.raise R.TB_STATUS_LEAP_REJ
  else
    let s := s.setFld R.TB_LEAP_CTL_DELTA delta
    let s := if v.testBit 8 then s.leapArm delta else s
    if v.testBit 9 then s.leapCancel else s

/-! ### Uncertain time (R54 to R56) -/

def State.uncBound (s : State) : Nat := s.pair R.TB_UNC_BOUND_LO_BOUND R.TB_UNC_BOUND_HI_BOUND
def State.setUncBound (s : State) (v : Nat) : State := s.setPair R.TB_UNC_BOUND_LO_BOUND R.TB_UNC_BOUND_HI_BOUND v

/-- The bound that means unknown. -/
def uncUnknown : Nat := 2 ^ 64 - 1

/-- DECLARE_KNOWN (R56). -/
def State.declareKnown (s : State) : State :=
  (s.clr R.TB_STATUS_TIME_UNCERTAIN).setUncBound 0

/-- U_osc, units of 2^-48 (04 R120). -/
def State.uOsc (s : State) : Nat := s.pair R.SEAM_UOSC_LO R.SEAM_UOSC_HI

/-- One second's growth of the bound: fu in a second times U_osc (R55), whole fu (log 69). -/
def State.uncGrowth (s : State) : Nat := fuPerSec * s.uOsc / 2 ^ 48

/-- The growth of R55; a known bound stays below the value that means unknown (log 69). -/
def State.uncGrow (s : State) : State :=
  if s.flag R.TB_STATUS_TIME_UNCERTAIN ∧ s.uncBound ≠ uncUnknown ∧ s.tsState ≠ 2 ∧ ¬ s.tiFenced then
    s.setUncBound (min (uncUnknown - 1) (s.uncBound + s.uncGrowth))
  else s

/-! ### Moving hub time (R23, 04 R126 to R128) -/

/-- A PRESS step moves hub time; elapsed time leaves it out. -/
def State.moveHub (s : State) (amt : Int) : State :=
  { s with tb := { s.tb with now := ((s.tb.now : Int) + amt).toNat, stepped := s.tb.stepped + amt } }

/-- The offset of a time candidate, QUAL_CAND_TOFF (03 R82). -/
def State.toff (s : State) (n : Nat) : Int := s.int64 (R.QUAL_CAND_TOFF_LO n) (R.QUAL_CAND_TOFF_HI n)

/-- A time candidate with a consistent offset (R125). -/
def State.hasOffset (s : State) (n : Nat) : Bool :=
  s.timeCand n && (s.cand n).consistent && s.candState n != 0

/-- The amount limits of R125: a SLEW of more than 1 ms, a STEP out of the seconds range. -/
def State.amountBad (s : State) (form : Form) (amt : Int) : Bool :=
  match form with
  | .slew => decide (65536000000 < amt.natAbs)
  | .step => decide ((s.tb.now : Int) + amt < 0) || decide (((2 ^ 48 * fuPerSec : Nat) : Int) ≤ (s.tb.now : Int) + amt)
  | _ => false

def State.standoff (s : State) (k : Nat) : Int := s.int64 (R.PPS_STANDOFF_LO k) (R.PPS_STANDOFF_HI k)
def State.setStandoff (s : State) (k : Nat) (v : Int) : State :=
  s.setInt64 (R.PPS_STANDOFF_LO k) (R.PPS_STANDOFF_HI k) v

def State.pulse (s : State) (k : Nat) : Pulse := Tab.get (fun _ => Pulse.init) s.outs.pps k

def State.setPulse (s : State) (k : Nat) (p : Pulse) : State :=
  { s with outs := { s.outs with pps := Tab.set (fun _ => Pulse.init) s.outs.pps k p } }

/-- Placement is stopped by the output's own fence or the TI group fence (16 R446, R447). -/
def State.pulseFenced (s : State) (k : Nat) : Bool := s.fenced (0x008 + k) || s.tiFenced

def State.ppsMode (s : State) (k : Nat) : Nat := s.fld (R.PPS_CFG_MODE k)

/-- Frame period in fu (R162). -/
def State.framePeriod (s : State) (k : Nat) : Nat := s.fld (R.PPS_FR_PER_NS k) * 65536 + s.fld (R.PPS_FR_PER_FU k)

def State.frameStart (s : State) (k : Nat) : Nat :=
  decodeHub (s.triple (R.PPS_FR_START_0 k) (R.PPS_FR_START_1 k) (R.PPS_FR_START_2 k))

/-- Offset and standoff together (R162). -/
def State.ppsShift (s : State) (k : Nat) : Int := s.int64 (R.PPS_OFFSET_LO k) (R.PPS_OFFSET_HI k) + s.standoff k

/-- The first edge time of n pulses per second above a bound, times before offset and standoff (R162). -/
def gridAfter (n : Nat) (b : Int) : Int :=
  let f : Int := (fuPerSec : Int)
  let sec := b / f
  let pts := (List.range (n + 1)).map (fun j => sec * f + ((j * fuPerSec / n : Nat) : Int))
  (pts.find? (fun t => decide (b < t))).getD ((sec + 1) * f)

/-- The next edge of an output (R162, R164). -/
def State.ppsNext (s : State) (k : Nat) : Int :=
  let p := s.pulse k
  let d := s.ppsShift k
  match s.ppsMode k with
  | 1 => gridAfter (max 1 (s.fld (R.PPS_CFG_NPPS k))) (p.last - d) + d
  | 2 => ((s.frameStart k + p.m * s.framePeriod k : Nat) : Int) + d
  | _ => gridAfter 1 (p.last - d) + d

/-- The output emits (PPS_STATUS.RUNNING). -/
def State.ppsEmits (s : State) (k : Nat) : Bool :=
  s.flag (R.PPS_CFG_EN k) && !s.pulseFenced k && (s.ppsMode k != 2 || (s.pulse k).seq)

/-- The pulse outputs named in a mask come back onto hub time (05 R163). -/
def State.alignOutputs (s : State) (mask : Nat) : State :=
  (List.range 8).foldl (fun s k => if mask.testBit k then s.setStandoff k 0 else s) s

/-- The index of the first frame edge after a time, standoff 0 (R163). -/
def State.frameAfter (s : State) (k : Nat) (b : Int) : Nat :=
  let d := b - ((s.frameStart k : Int) + s.int64 (R.PPS_OFFSET_LO k) (R.PPS_OFFSET_HI k))
  if d < 0 ∨ s.framePeriod k = 0 then 0 else d.toNat / s.framePeriod k + 1

/-- A STEP has moved hub time to `now` and names the output, whose next edge was due at `e`: the edge due at the boundary leaves
once, and the realigned edges begin after it; none before the stepped time is made up (05 R163). -/
def State.realign (s : State) (k : Nat) (amt e : Int) : State :=
  let now : Int := (s.tb.now : Int)
  let due := s.ppsEmits k && decide (e ≤ now - amt)
  let b := if due then now else now - 1
  let p := s.pulse k
  (s.setStandoff k 0).setPulse k { p with last := b, owed := if due then some e else p.owed,
                                          m := if s.ppsMode k = 2 then s.frameAfter k b else p.m }

/-- At a STEP of an amount, an output not named stands off by it and keeps the instants of its edges; a named one comes
back (05 R163). -/
def State.standoffStep1 (s : State) (amt : Int) (mask k : Nat) : State :=
  let p := s.pulse k
  if mask.testBit k then s.realign k amt (s.ppsNext k)
  else (s.setStandoff k (s.standoff k + amt)).setPulse k { p with last := p.last + amt }

def State.standoffStep (s : State) (amt : Int) (mask : Nat) : State :=
  (List.range 8).foldl (fun s k => s.standoffStep1 amt mask k) s

/-- The amount of a STEP or SLEW as it is read when it applies (R128): or the status with which it moves nothing. -/
def State.pressAmount (s : State) (p : Press) : Nat × Int :=
  if p.target = 0x3F then (0, p.amt)
  else if ¬ s.hasOffset p.target then (4, 0)
  else if s.amountBad p.form (-s.toff p.target) then (3, 0)
  else (0, -s.toff p.target)

/-- STEPPED is cleared, as a write of 1 to STEPPED_SET does (03 R95). -/
def State.clearStepped (s : State) (n : Nat) : State :=
  let s := (s.clr (R.QUAL_CAND_STATE_STEPPED n)).clr (R.QUAL_CAND_EVENTS_STEPPED_SET n)
  s.setCand n { s.cand n with jumpRun := 0 }

/-- The actions of a STEP in its tick, in the order of R126. -/
def State.stepActions (s : State) (amt : Int) (align : Bool) (mask : Nat) : State :=
  let s := s.moveHub amt
  let s := if s.selected < 48 then s.setBuildout s.selected (s.buildout s.selected + amt) else s
  s.standoffStep amt (if align then mask else 0)

/-- A STEP whose boundary is reached (R126, R128, R517). -/
def State.applyStep (s : State) (p : Press) : State :=
  let s := { s with seam := { s.seam with press := none } }
  if s.seamFenced then s.pressFinish 5
  else
    match s.pressAmount p with
    | (0, amt) =>
      let s := s.stepActions amt p.align p.mask
      let s := if p.target = 0x3F then s else s.clearStepped p.target
      (s.pressFinish 0).reform
    | (code, _) => s.pressFinish code

/-- The pending STEP, when its boundary has been reached. -/
def State.dueStep (s : State) : Option Press :=
  match s.seam.press with
  | some p => if p.form = .step ∧ p.at_ ≤ s.hubSec then some p else none
  | none => none

/-- The acquisition step of 02 R57 and R129 at its boundary; the inputs before it are of no use after it, and the LOCK_S
interval starts anew (R513). -/
def State.applyAcquisition (s : State) (n : Nat) : State :=
  if s.seamFenced ∨ ¬ s.hasOffset n then
    let s := { s with seam := { s.seam with acq := some (n, s.hubSec + 1) } }
    if s.seamFenced then s else (s.setFld R.SEAM_PRESS_STATUS_RESULT 4).raise R.SEAM_EVENTS_PRESS_DONE
  else
    let amt := -s.toff n
    let s := { s with seam := { s.seam with acq := none, ins := [], lockFrom := none, unlockN := 0 } }
    let align := s.flag R.SEAM_CTL_ACQ_ALIGN
    let s := (s.stepActions amt align 0xFF).setBuildout n 0
    ((s.clearStepped n).pressFinish 0).reform

/-- The acquisition step whose boundary has been reached. -/
def State.dueAcquisition (s : State) : Option Nat :=
  match s.seam.acq with
  | some (n, b) => if b ≤ s.hubSec then some n else none
  | none => none

/-- Any step that the seam unit has delivered for the tick (R45 step 2). -/
def State.stepDue (s : State) : State :=
  match s.dueAcquisition with
  | some n => s.applyAcquisition n
  | none =>
    match s.dueStep with
    | some p => s.applyStep p
    | none => s

/-! ### Ticks (R42, R45 to R48) -/

/-- The source of the time-base clock (R46). -/
def State.clkSrc (s : State) : Nat := s.fld R.TB_STATUS_CLK_SRC

/-- fu that `n` increments add, and the accumulators after them (R42, R47). -/
def State.increments (s : State) (n : Nat) : Nat × Nat × Int :=
  if s.clkSrc = 2 then
    let acc := s.tb.byp + (n : Int) * 655360 * s.steer
    let whole := acc / (2 ^ 48 : Int)
    ((((n * 655360 : Nat) : Int) + whole).toNat, s.tb.frac, acc % (2 ^ 48 : Int))
  else
    let den := s.fld R.TB_INC_FRAC_DEN
    if den = 0 then (n * s.fld R.TB_INC_INT_INT, s.tb.frac, s.tb.byp)
    else
      let acc := s.tb.frac + n * s.fld R.TB_INC_FRAC_NUM
      (n * s.fld R.TB_INC_INT_INT + acc / den, acc % den, s.tb.byp)

/-- A slew in progress moves with the time that passes: `d` fu (R127). The last part is shortened so that the total is met. -/
def State.slewAdvance (s : State) (d : Nat) : State :=
  match s.seam.slew with
  | none => s
  | some w =>
    let num := w.num + d * w.rate
    let m := min w.amt.natAbs (num / fuPerSec)
    let sign : Int := if w.amt < 0 then -1 else 1
    let delta := sign * (((m : Nat) : Int) - ((w.moved : Nat) : Int))
    let s := { s with seam := { s.seam with slew := some { w with num := num, moved := m } }
                      tb := { s.tb with slewed := s.tb.slewed + delta } }
    let s := s.setInt64 R.SEAM_SLEW_REM_LO R.SEAM_SLEW_REM_HI (w.amt - sign * ((m : Nat) : Int))
    if s.selected < 48 then s.setBuildout s.selected (s.buildout s.selected + delta) else s

/-- `n` increments, with the phase that steering and a slew add meanwhile (R42, R47, 03 R511). -/
def State.advance (s : State) (n : Nat) : State :=
  let (d, frac, byp) := s.increments n
  let st := (d : Int) * s.steerBase
  let s := { s with tb := { s.tb with
    now := s.tb.now + d, elapsed := s.tb.elapsed + d, frac := frac, byp := byp, steer := s.tb.steer + st } }
  s.slewAdvance d

/-- One tick: increment, PRESS step, leap check (R45). -/
def State.tick1 (s : State) : State := ((s.advance 1).stepDue).leapCheck

/-- The first tick after a wake restores hub time from the save set and the ledger (15 R435). -/
def State.restoreTick (s : State) : State :=
  match s.tb.restore with
  | none => s
  | some t => { s with tb := { s.tb with now := t, restore := none } }

/-- `n` ticks. For more than one, the increments of all but the last are added at once, with a step and the leap check
after them (log 10); nothing reads the count in between. -/
def State.ticks (s : State) (n : Nat) : State :=
  if ¬ s.tb.running ∨ n = 0 then s
  else
    let s := s.restoreTick
    let s := if n = 1 then s else ((((s.advance (n - 1)).leapCheck).stepDue).leapCheck)
    s.tick1

/-! ### The meanings of the time-base rows -/

/-- TB_NOW_0_READ (R49): the path's snapshot takes the whole count, bits [31:0] are returned. -/
def State.snapshotRead (s : State) (path : Nat) : State :=
  let v := encodeHub s.tb.now
  { s with tb := { s.tb with snaps := Tab.set (fun _ => 0) s.tb.snaps path v }
           host := { s.host with rdata := Tab.set (fun _ => 0) s.host.rdata path (v % 2 ^ 32) } }

def execTbNow0Read (path : Fin 4) (s : State) : Out := s.live (s.snapshotRead path)

/-- The mode admits the writes of R44 (14 R410): RECALL, COMMISSION, FACTORY. -/
def State.structural (s : State) : Bool :=
  s.fld R.SYS_MODE_MODE == 0 || s.fld R.SYS_MODE_MODE == 4 || s.fld R.SYS_MODE_MODE == 5

/-- A write of TB_INC_INT, TB_INC_FRAC or TB_DIV (R44): register 0, 1, 2. -/
def State.writeIncrement (s : State) (reg v : Nat) : State :=
  if ¬ s.structural then s.raise R.TB_STATUS_INC_REJ
  else match reg with
    | 0 => s.setFld R.TB_INC_INT_INT v
    | 1 =>
      let num := v % 2 ^ 16
      let den := v / 2 ^ 16 % 2 ^ 16
      if den ≠ 0 ∧ den ≤ num then s.raise R.TB_STATUS_INC_REJ
      else (s.setFld R.TB_INC_FRAC_NUM num).setFld R.TB_INC_FRAC_DEN den
    | _ =>
      let d := v % 2 ^ 6
      if d < 16 ∨ 32 < d then s.raise R.TB_STATUS_INC_REJ else s.setFld R.TB_DIV_DIV d

def execTbIncWrite (reg : Fin 3) (v : BitVec 32) (s : State) : Out :=
  s.live (s.tbaseGuard (fun s => s.writeIncrement reg v.toNat))

/-- LEAP_ARM (R50). -/
def execLeapArm (delta : Fin 4) (s : State) : Out := s.live (s.tbaseGuard (fun s => s.leapArm delta))

/-- LEAP_CANCEL (R50). -/
def execLeapCancel (s : State) : Out := s.live (s.tbaseGuard (fun s => s.leapCancel))

/-- DECLARE_KNOWN (R56). -/
def execDeclareKnown (s : State) : Out := s.live (s.tbaseGuard (fun s => s.declareKnown))

/-- UNC_BOUND_GROW (R55). -/
def execUncBoundGrow (s : State) : Out := s.live s.uncGrow

/-- The time base starts on the bypass source when PLL A is not LOCKED 2 ms after RECALL ends (14 R407). -/
def State.startOnBypass (s : State) : State :=
  if s.tb.running ∨ s.fld (R.SYN_PLL_STATUS_STATE 0) = 3 then s
  else (({ s with tb := { s.tb with running := true } }).setFld R.TB_STATUS_CLK_SRC 2).raise R.TB_STATUS_TIME_DEGRADED

def execTbStartTimeout (s : State) : Out := s.live s.startOnBypass

/-! ### The meanings of the TSERVO rows -/

/-- TSV_STAGE_ADVANCE (R65). -/
def execTsvStageAdvance (s : State) : Out :=
  s.live (if s.stageReady ∧ ¬ s.tservoFenced then s.enterStage (s.stage + 1) else s)

/-- RESTART (R65), which also leaves LOCKED (04 R112); the time of the last input stays known (log 69). -/
def State.servoRestart (s : State) : State :=
  let s := s.enterStage s.restartStage
  if s.tsState = 2 then s.toAcquiring else s

def execTsvRestart (s : State) : Out := s.live (s.servoGuard (fun s => s.servoRestart))

/-- A write of LAST_STAGE (R65). -/
def State.writeLastStage (s : State) (n : Nat) : State :=
  let s := s.setFld R.TSV_CTL_LAST_STAGE n
  if n < s.stage then s.enterStage n else s

def execTsvLastStageWrite (n : Fin 8) (s : State) : Out := s.live (s.servoGuard (fun s => s.writeLastStage n))

/-- A write of TSV_STAGE_n; in the present stage a change of kp adjusts the integrator (R64). -/
def State.writeStage (s : State) (n v : Nat) : State :=
  let k0 := s.kp s.stage
  let s := ((s.setFld (R.TSV_STAGE_FN n) v).setFld (R.TSV_STAGE_ZETA n) (v / 2 ^ 6)).setFld (R.TSV_STAGE_DWELL n) (v / 2 ^ 12)
  if n = s.stage then s.setInteg (s.integ + servoUnits ((s.kp n - k0) * fuSeconds s.lastX)) else s

def execTsvStageWrite (n : Fin 8) (v : BitVec 32) (s : State) : Out :=
  s.live (s.servoGuard (fun s => s.writeStage n v.toNat))

/-- A write of TSV_CTL.SRC: a change takes LOCKED to ACQUIRING; with NONE the steering word holds the integrator
(R58, 04 R112, 14 R404), to which the limit of R67 is not applied (log 69). -/
def State.writeSrc (s : State) (v : Nat) : State :=
  if v = s.tsvSrc then s
  else
    let s := s.setFld R.TSV_CTL_SRC v
    let s := { s with tsv := { s.tsv with lastIn := none },
                      seam := { s.seam with feedAt := s.tb.elapsed } }
    let s := if v = 0 ∧ ¬ s.holding then ({ s with tsv := { s.tsv with y := s.integ } }).showSteer else s
    if s.tsState = 2 then s.toAcquiring
    else if s.tsState = 0 ∧ v ≠ 2 ∧ ¬ s.isFree ∧ s.selectedGood then (s.enterStage 0).toAcquiring
    else s

def execTsvSrcWrite (v : Fin 4) (s : State) : Out := s.live (s.servoGuard (fun s => s.writeSrc v))

/-- A write of the whole of TSV_CTL: its fields, then RESTART (R65, R73). -/
def State.writeTsvCtl (s : State) (v : Nat) : State :=
  let s := s.setFld R.TSV_CTL_RESTART_STAGE (v / 2 ^ 8)
  let s := s.writeLastStage (v / 2 ^ 12 % 8)
  let s := s.writeSrc (v % 4)
  if v.testBit 4 then s.servoRestart else s

end Sys2Proof.Machine
end

