-- ==== Sys2Proof/Machine/Qual.lean ====
section
/-! DEFINITION. Machine/Qual.lean: the qualifier (03): phase samples, the five monitors, the ensemble, candidate states. -/
namespace Sys2Proof.Machine

def State.soak (s : State) : Bool := s.flag R.TDC_STATUS_SOAK
def State.candEn (s : State) (n : Nat) : Bool := s.flag (R.QUAL_CAND_CFG_EN n)
def State.kind (s : State) (n : Nat) : Nat := if n < 16 then s.fld (R.QUAL_CAND_CFG_KIND n) else 0
def State.uncertain (s : State) : Bool := s.flag R.TB_STATUS_TIME_UNCERTAIN

/-- Pulses per second of a pulse candidate (R76). -/
def State.pulseRate (s : State) (n : Nat) : Nat :=
  if s.kind n = 2 then max 1 (s.fld (R.QUAL_CAND_NOM_NOM n)) else 1

/-- The sample interval tau0 in fu (R82). -/
def State.tau0 (s : State) (n : Nat) : Nat :=
  if s.timeCand n then fuPerSec / s.pulseRate n else fuPerMs

/-- The nominal period of the candidate's edges in fu (R83). -/
def State.nominal (s : State) (n : Nat) : Nat :=
  if s.timeCand n then fuPerSec / s.pulseRate n
  else fuPerSec / (1000 * max 1 (s.fld (R.QUAL_CAND_NOM_NOM n)))

/-- Without an edge for this long, loss of signal is declared (R83); PERIODS 0 and 1 act as 2 (R98). -/
def State.losTime (s : State) (n : Nat) : Nat :=
  let periods := max 2 (s.fld R.QUAL_LOS_PERIODS) * s.nominal n
  let ms := s.fld R.QUAL_LOS_PPS_MS * fuPerMs
  if s.timeCand n then (if s.kind n = 2 then min periods ms else ms) else periods

/-- An edge or on-time marker at elapsed time t (R83). -/
def Cand.edge (c : Cand) (t nominal los : Nat) : Cand :=
  match c.lastEdge with
  | none => { c with lastEdge := some t, runAt := t, pairOk := false }
  | some l =>
    { c with lastEdge := some t, runAt := if l + los < t then t else c.runAt,
             pairOk := decide (99 * nominal ≤ 100 * (t - l)) && decide (100 * (t - l) ≤ 101 * nominal) }

/-- An edge less than half a nominal period after the previous one is a glitch (R83). -/
def Cand.glitch (c : Cand) (t nominal : Nat) : Bool :=
  match c.lastEdge with
  | some l => decide (2 * (t - l) < nominal)
  | none => false

/-- A raw edge of REF_IN_n at elapsed time t (R83): counted as a glitch, or noted. Of IRIG-B only the markers count. -/
def State.rawEdge (s : State) (n t : Nat) : State :=
  if s.qualFenced ∨ s.kind n = 3 then s
  else if (s.cand n).glitch t (s.nominal n) then s.bump (R.QUAL_CAND_EVENTS_GLITCH n)
  else s.setCand n ((s.cand n).edge t (s.nominal n) (s.losTime n))

/-- The edges that REF_IN_n has shown restore activity: continuous for 1 ms, or two markers one period apart (R83). -/
def State.edgesBack (s : State) (n : Nat) : Bool :=
  let c := s.cand n
  match c.lastEdge with
  | none => false
  | some l => decide (s.tb.elapsed < l + s.losTime n)
      && (if s.timeCand n then c.pairOk else decide (c.runAt + fuPerMs ≤ s.tb.elapsed))

def State.tdcCh (s : State) (c : Nat) : Tdc := Tab.get (fun _ => Tdc.init) s.tdc.ch c
def State.setTdcCh (s : State) (c : Nat) (x : Tdc) : State :=
  { s with tdc := { s.tdc with ch := Tab.set (fun _ => Tdc.init) s.tdc.ch c x } }

/-- The channels of REFT_0 to REFT_15, EVT_0 to EVT_15 and MON_0 to MON_7 (06 R171). -/
def isReft (c : Nat) : Bool := decide (64 ≤ c) && decide (c < 80)
def isEvt (c : Nat) : Bool := decide (80 ≤ c) && decide (c < 96)
def isMon (c : Nat) : Bool := decide (96 ≤ c) && decide (c < 104)

/-- A write of D, or a change of it by the qualifier, restarts the decimator's count (06 R178). -/
def State.restartDec (s : State) (c : Nat) : State := s.setTdcCh c { s.tdcCh c with dec := 0 }

def State.subst (s : State) (c : Nat) : Bool := s.flag (R.TDC_CH_STATUS_SUBST c)

/-- The channel has no core (06 R192): its own is fenced, or under calibration with no spare in its place. -/
def State.coreless (s : State) (c : Nat) : Bool :=
  !s.subst c && (s.fenced (0x100 + c) || match Tab.get (fun _ => none) s.tdc.cals c with
    | some x => x.phase == 1
    | none => false)

/-- REF_IN_n has shown no edge for as long as R83 asks, or its channel has no core (06 R192). -/
def State.edgesLost (s : State) (n : Nat) : Bool :=
  s.coreless (64 + n) || match (s.cand n).lastEdge with
    | none => true
    | some l => decide (l + s.losTime n ≤ s.tb.elapsed)

/-! ### Changes of state (R91, R92) and what the seam unit does at each -/

/-- A candidate as it stands when it becomes ABSENT: the origin, the windows, the drift watch and the labels that its own
frames gave are gone (R80, R86, R511). -/
def Cand.gone (c : Cand) : Cand := { Cand.init with prog := c.prog }

/-- Entry into OBSERVING: the timer starts; from ABSENT or DISQUALIFIED the track set is emptied, and while hub time is certain
the first consistent offset is to be compared (R87, R93, R95). -/
def Cand.observe (c : Cand) (now : Nat) (fresh uncertain : Bool) : Cand :=
  let c := { c with obsFrom := now, obsPulses := 0, obsRun := now }
  if fresh then { c with track := [], compared := uncertain, goodRun := 0, badRun := 0, trackBad := false } else c

/-- A change of candidate state with its cause (bit of CAUSE, 8 for none), its events, and the seam unit's reaction. -/
def State.setCandState (s : State) (n st cause : Nat) : State :=
  let old := s.fld (R.QUAL_CAND_STATE_STATE n)
  if old = st then s
  else
    let s := s.setFld (R.QUAL_CAND_STATE_STATE n) st
    let s := if cause < 8 then s.setFld (R.QUAL_CAND_STATE_CAUSE n) (2 ^ cause) else s
    let s := (s.raise (R.QUAL_CAND_EVENTS_STATE_CHG n)).raise R.QUAL_EVENTS_ANY_STATE
    let c := s.cand n
    let s := match st with
      | 0 => (((s.setCand n c.gone).clr (R.QUAL_CAND_STATE_DRIFT_ARMED n)).clr (R.QUAL_CAND_STATE_LABEL_OK n)).setFld
          (R.QUAL_CAND_STATE_TIMER n) 0
      | 1 => (s.setCand n (c.observe s.tb.elapsed (old == 0 || old == 4) s.uncertain)).setFld (R.QUAL_CAND_STATE_TIMER n) 0
      | 3 => s.setCand n { c with suspAt := s.tb.elapsed }
      | 4 => s.setCand n { c with disqAt := s.tb.elapsed }
      | _ => s
    let s :=
      if st = 0 ∨ st = 4 then s.candFailed n
      else if n = s.selected ∧ st = 3 then s.prearm
      else if n = s.selected ∧ st = 2 then s.disarm
      else s
    s.reform

/-- STEPPED becomes 1 (R95). -/
def State.setStepped (s : State) (n : Nat) : State :=
  if s.steppedCand n then s
  else (s.raise (R.QUAL_CAND_STATE_STEPPED n)).raise (R.QUAL_CAND_EVENTS_STEPPED_SET n)

/-! ### The frequency window (R84) -/

/-- The span m of an estimate in samples. -/
def State.fwSpan (s : State) (n : Nat) : Nat :=
  if s.timeCand n then max 2 (s.fld R.QUAL_FW_TAU_PULSES) else max 1 (s.fld R.QUAL_FW_TAU_CLK_MS)

def State.freqWindow (s : State) (n : Nat) : State :=
  let c := s.cand n
  let m := s.fwSpan n
  match c.fw[0]?, c.fw[m]? with
  | some a, some b =>
    let d := a - b
    let span := m * s.tau0 n
    let lim := s.fld R.QUAL_FWIN_FWIN
    let exceeds := decide (lim * span < d.natAbs * 2 ^ 32)
    let under := decide (10 * (d.natAbs * 2 ^ 32) ≤ 9 * (lim * span))
    let bad := if exceeds then c.fwBad + 1 else 0
    let good := if under then c.fwGood + 1 else 0
    let fail := if 2 ≤ bad then true else if 2 ≤ good then false else c.fwFail
    let s := s.setCand n { c with fwBad := bad, fwGood := good, fwFail := fail }
    s.setInt64 (R.QUAL_CAND_FREQ_LO n) (R.QUAL_CAND_FREQ_HI n)
      (Config.freqRound ((d : Rat) * ((2 ^ 48 : Nat) : Rat) / ((span : Nat) : Rat)))
  | _, _ => s

/-! ### The jitter monitor (R85) -/

def State.jitSpan (s : State) (n : Nat) : Nat := if s.timeCand n then 16 else 1000

def State.jitter (s : State) (n : Nat) : State :=
  let c := s.cand n
  let w := s.jitSpan n
  let lim := if s.timeCand n then s.fld R.QUAL_JIT_PPS_LIMIT else s.fld R.QUAL_JIT_CLK_LIMIT
  if c.jitN < w then s.setFld (R.QUAL_CAND_JIT_JIT n) 0
  else
    let ms := (sampleSums (c.samples.take w)).meanSquare
    let good := if 4 * ms ≤ ((lim * lim : Nat) : Rat) then c.jitGood + 1 else 0
    let fail := if ((lim * lim : Nat) : Rat) < ms then true else if w ≤ good then false else c.jitFail
    (s.setCand n { c with jitGood := good, jitFail := fail }).setFld (R.QUAL_CAND_JIT_JIT n) (Config.rmsRound ms)

/-! ### Time of day (R82, R87) -/

/-- The place of a pulse against the grid of its candidate: the nearest second and index j (R82). -/
def nearestPlace (e : Int) (n : Nat) : Nat × Nat :=
  let f : Int := (fuPerSec : Int)
  let k := (e * n + f / 2) / f
  ((k / n).toNat, (k % n).toNat)

/-- The second that a trusted IRIG-B decode labels at present: the label of the frame whose on-time edge is the present one, or
one more at the edge that ends the frame; an older decode labels nothing (R80, log 70). -/
def Cand.irigLabel (c : Cand) (now : Nat) : Option Nat :=
  match c.irig, c.irigAt with
  | some l, some a =>
    if ¬ c.irigOk then none
    else if 2 * (now - a) < fuPerSec then some l
    else if 2 * (now - a) < 3 * fuPerSec then some (l + 1)
    else none
  | _, _ => none

/-- The label of the pulse, where TOD_SRC names a source; `none` inside when it is missing (R87). -/
def State.label (s : State) (n : Nat) : Option (Option Nat) :=
  let src := s.fld (R.QUAL_CAND_CFG_TOD_SRC n)
  if src = 0x3F then none
  else if src = 0x3E then some (s.cand n).prog
  else if src < 16 then some ((s.cand src).irigLabel s.tb.elapsed)
  else some none

/-- What a pulse shows: its offset, whether a named label is missing, whether the label test fails. The place and the second
are those nearest the edge itself (R82). -/
def State.pulseOffset (s : State) (n : Nat) (edge : Int) : Int × Bool × Bool :=
  let e := edge - s.int32 (R.QUAL_CAND_DELAY_DELAY n)
  let r := s.pulseRate n
  let (sec, j) := nearestPlace edge r
  let place := fun (l : Nat) => (((l * fuPerSec + j * fuPerSec / r : Nat)) : Int)
  match s.label n with
  | none => (e - place sec, false, false)
  | some none => (e - place sec, true, false)
  | some (some l) => (e - place l, false, !s.uncertain && l != sec)

/-- The value that the track set predicts at the present time (R87). -/
def trackPrediction (l : List (Nat × Int)) (t : Nat) : Option Rat :=
  match l with
  | [] => none
  | [e] => some (e.2 : Rat)
  | _ => some ((fitSums (l.map (fun e => ((e.1 : Int), e.2)))).at (t : Int))

def State.trackOk (s : State) (n : Nat) (x : Int) : Bool :=
  match trackPrediction (s.cand n).track s.tb.elapsed with
  | none => true
  | some p =>
    let d := (x : Rat) - p
    let j := ((s.fld R.QUAL_JUMP_JUMP : Nat) : Rat)
    decide (d ≤ j) && decide (-j ≤ d)

/-! ### One sample -/

/-- The sample enters the candidate's windows and, where it is accepted, its shadow (04 R107); while SOAK is set the frequency
window gathers nothing and what it held is dropped (R97, log 70). -/
def State.addSample (s : State) (n : Nat) (x p : Int) (ok : Bool) : State :=
  let c := s.cand n
  let e : Sample := { t := s.tb.elapsed, x := x, p := p }
  let c := { c with samples := (e :: c.samples).take (s.jitSpan n),
                    acc := if ok then (e :: c.acc).take (s.shadowSpan n) else c.acc,
                    fw := if s.soak then [] else (x :: c.fw).take (s.fwSpan n + 1),
                    jitN := c.jitN + 1,
                    fed := if s.shadowed n && ok then c.fed + 1 else c.fed }
  let s := s.setCand n c
  let s := if ok && n == s.selected then s.retainInput (x + p - s.buildout n) else s
  let s := if s.soak then s else s.freqWindow n
  s.jitter n

/-- The seconds or pulses toward the observation target (R93, R99). -/
def State.obsTimer (s : State) (n : Nat) : Nat :=
  let c := s.cand n
  if s.kind n = 1 ∨ s.kind n = 3 then c.obsPulses else (s.tb.elapsed - c.obsFrom) / fuPerSec

/-- A monitor that applies to the candidate fails (R92, R93). -/
def Cand.monitorFails (c : Cand) : Bool := c.fwFail || c.jitFail || c.driftBad

/-- OBSERVING: a failing monitor or an inconsistent pulse restarts the timer, which advances only while SOAK is clear
(R92, R93); `dt` is the time since the previous sample. -/
def State.observeStep (s : State) (n dt : Nat) (pulse good : Bool) : State :=
  let c := s.cand n
  let now := s.tb.elapsed
  let c :=
    if c.monitorFails || (pulse && !good) then { c with obsFrom := now, obsPulses := 0 }
    else if s.soak then { c with obsFrom := c.obsFrom + dt }
    else if pulse then { c with obsPulses := c.obsPulses + 1 } else c
  let c := if pulse && !good then { c with obsRun := now } else if s.soak then { c with obsRun := c.obsRun + dt } else c
  let s := s.setCand n c
  s.setFld (R.QUAL_CAND_STATE_TIMER n) (s.obsTimer n)

/-- Every cause of SUSPECT has cleared (R92). -/
def Cand.cleared (c : Cand) : Bool := !c.jitFail && !c.driftBad && !c.trackBad

/-- The evaluation of R91 and R92 at a sample, first match wins. -/
def State.evaluate (s : State) (n : Nat) (labelFail : Bool) : State :=
  let c := s.cand n
  let st := s.fld (R.QUAL_CAND_STATE_STATE n)
  if st = 2 ∨ st = 3 then
    if c.fwFail then s.setCandState n 4 1
    else if labelFail then s.setCandState n 4 4
    else if 3 ≤ c.badRun then (s.setStepped n).setCandState n 4 5
    else if st = 2 ∧ c.jitFail then s.setCandState n 3 2
    else if st = 2 ∧ c.trackBad then s.setCandState n 3 5
    else if st = 3 ∧ c.cleared then s.setCandState n 2 8
    else s
  else s

/-- The first consistent offset after OBSERVING was entered with hub time certain is compared with hub time (R95). -/
def State.firstOffset (s : State) (n : Nat) (off : Int) : State :=
  let c := s.cand n
  if c.compared then s
  else
    let s := s.setCand n { c with compared := true }
    if s.fld R.QUAL_JUMP_JUMP < off.natAbs then s.setStepped n else s

/-- STEPPED clears after 16 consecutive pulses within QUAL_JUMP of hub time (R95). -/
def State.jumpCount (s : State) (n : Nat) (off : Int) : State :=
  let c := s.cand n
  let k := if off.natAbs ≤ s.fld R.QUAL_JUMP_JUMP then c.jumpRun + 1 else 0
  let s := s.setCand n { c with jumpRun := k }
  if 16 ≤ k ∧ s.steppedCand n then (s.clr (R.QUAL_CAND_STATE_STEPPED n)).reform else s

/-- The samples a pulse gives to the track set and its counts (R87, R92). -/
def Cand.pulse (c : Cand) (t : Nat) (x : Int) (good trackFail : Bool) : Cand :=
  let c := { c with consistent := good }
  let c := if good then
      { c with track := ((t, x) :: c.track).take 16, goodRun := c.goodRun + 1 }
    else { c with goodRun := 0 }
  let c := if trackFail then { c with badRun := c.badRun + 1, trackBad := true } else { c with badRun := 0 }
  if 3 ≤ c.goodRun then { c with trackBad := false } else c

/-- A pulse of a time candidate (R82, R87, R91). -/
def State.pulseSample (s : State) (n : Nat) (edge : Int) : State :=
  let c := s.cand n
  let s := match c.origin with
    | some _ => s
    | none => s.setCand n { c with origin := some 0, p0 := s.steerPhase }
  let dt := match c.samples.head? with | some e => s.tb.elapsed - e.t | none => 0
  let (off, missing, labelFail) := s.pulseOffset n edge
  let p := s.candPhase n
  let x := off - p
  let track := s.trackOk n x
  let good := !missing && !labelFail && track
  let s := s.setInt64 (R.QUAL_CAND_TOFF_LO n) (R.QUAL_CAND_TOFF_HI n) off
  let c := s.cand n
  let s := s.setCand n { c.pulse s.tb.elapsed x good (!track) with prog := none }
  let s := s.addSample n x p good
  let s := if good then s.firstOffset n off else s
  let s := s.jumpCount n off
  let s := if s.fld (R.QUAL_CAND_STATE_STATE n) = 1 then s.observeStep n dt true good else s
  let s := s.evaluate n labelFail
  (s.deliver n off).trReport

/-- A phase sample of a clock or link candidate (R81, R511). `v` is the stamp, or the phase meter's value; `gap` counts the
kept nominal periods since the last sample. The origin of a link candidate is the meter's value when its CDR locked. -/
def State.clockSample (s : State) (n : Nat) (v : Int) (gap : Nat) : State :=
  let c := s.cand n
  let dt := match c.samples.head? with | some e => s.tb.elapsed - e.t | none => 0
  let c := match c.origin with
    | some _ => { c with kept := c.kept + gap }
    | none =>
      if n < 16 then { c with origin := some v, p0 := s.steerPhase, kept := 0 }
      else { c with origin := some ((s.link (n - 16)).lockV), p0 := (s.link (n - 16)).lockP, kept := 0 }
  let s := s.setCand n c
  let o := c.origin.getD v
  let r := if n < 16 then v - o - ((c.kept * fuPerMs : Nat) : Int) else v - o
  let p := s.candPhase n
  let s := s.addSample n (r - p) p true
  let s := if s.fld (R.QUAL_CAND_STATE_STATE n) = 1 then s.observeStep n dt false true else s
  (s.evaluate n false).deliver n r

/-- A stamp, a pulse or a phase-meter value of a candidate (R91), as REFT_n or the meter handed it over (R81); of IRIG-B the
stamp of an on-time marker. Of a link candidate `gap` = 0 says that an edge of the recovered clock came less than half a nominal
period after the last one, a glitch (R83). -/
def State.phaseSample (s : State) (n : Nat) (v : Int) (gap : Nat) : State :=
  if s.qualFenced ∨ ¬ s.candEn n then s
  else if 16 ≤ n ∧ gap = 0 then s.bump (R.QUAL_CAND_EVENTS_GLITCH n)
  else if (s.cand n).stamp ≠ some v then s
  else
    let c := { s.cand n with stamp := none }
    let s := s.setCand n (if n < 16 ∧ s.kind n = 3 then c.edge s.tb.elapsed (s.nominal n) (s.losTime n) else c)
    if s.fld (R.QUAL_CAND_STATE_STATE n) = 0 then s
    else
      let s := if s.timeCand n then s.pulseSample n v else s.clockSample n v gap
      (s.setStandby (([s.fld R.SEAM_STBY_STBY_0, s.fld R.SEAM_STBY_STBY_1, s.fld R.SEAM_STBY_STBY_2]).filter
        (fun k => k != 0x3F))).revertCheck

def execQualPhaseSample (n : Fin 48) (v : Int) (gap : Nat) (s : State) : Out := s.live (s.phaseSample n v gap)

/-! ### IRIG-B (R78 to R80) -/

/-- The value of a bit from its width in microseconds: 0, 1, or 2 for a position marker (R78). -/
def irigBit (w : Nat) : Option Nat :=
  if 1600 ≤ w ∧ w ≤ 2400 then some 0
  else if 4600 ≤ w ∧ w ≤ 5400 then some 1
  else if 7600 ≤ w ∧ w ≤ 8400 then some 2
  else none

/-- The places of the markers: the reference marker and P0 to P9 (PRESUMED, log 11). -/
def irigMarker (i : Nat) : Bool := i == 0 || i % 10 == 9

/-- The weighted sum of bits at places, lowest weight first. -/
def irigSum (b : List Nat) (places : List Nat) : Nat :=
  places.foldr (fun i a => (b[i]?).getD 0 + 2 * a) 0

/-- A decoded frame: BCD digits in order, the binary seconds, the year. -/
structure IrigFrame where
  digits : List Nat
  sec : Nat
  min : Nat
  hour : Nat
  day : Nat
  sbs : Nat
  year : Nat
  deriving DecidableEq, Repr

/-- The fields at their places in the frame (PRESUMED, log 11). -/
def irigFields (b : List Nat) : IrigFrame :=
  let s0 := irigSum b [1, 2, 3, 4]
  let s1 := irigSum b [6, 7, 8]
  let m0 := irigSum b [10, 11, 12, 13]
  let m1 := irigSum b [15, 16, 17]
  let h0 := irigSum b [20, 21, 22, 23]
  let h1 := irigSum b [25, 26]
  let d0 := irigSum b [30, 31, 32, 33]
  let d1 := irigSum b [35, 36, 37, 38]
  let d2 := irigSum b [40, 41]
  let y0 := irigSum b [50, 51, 52, 53]
  let y1 := irigSum b [55, 56, 57, 58]
  { digits := [s0, s1, m0, m1, h0, h1, d0, d1, d2, y0, y1], sec := s0 + 10 * s1, min := m0 + 10 * m1,
    hour := h0 + 10 * h1, day := d0 + 10 * d1 + 100 * d2, year := y0 + 10 * y1,
    sbs := irigSum b [80, 81, 82, 83, 84, 85, 86, 87, 88, 90, 91, 92, 93, 94, 95, 96, 97] }

def codeHasSbs (c : Nat) : Bool := c == 0 || c == 3 || c == 4 || c == 7
def codeHasYear (c : Nat) : Bool := decide (4 ≤ c)

/-- Days from 1970-01-01 to the first day of a year. -/
def daysToYear (y : Nat) : Nat := 365 * (y - 1970) + (y - 1969) / 4 - (y - 1901) / 100 + (y - 1601) / 400

/-- Seconds since 1970 of a day of year and a time of day. -/
def irigSeconds (f : IrigFrame) (year : Nat) : Nat :=
  ((daysToYear year + (f.day - 1)) * 24 + f.hour) * 3600 + f.min * 60 + f.sec

/-- The label in TAI seconds for a year (R79). -/
def State.irigTai (s : State) (n : Nat) (f : IrigFrame) (year : Nat) : Int :=
  let v := (irigSeconds f year : Int)
  if s.flag (R.QUAL_CAND_CFG_IRIG_TS n) then v else v + toSigned 16 (s.fld R.TB_UTC_OFFSET_OFFSET)

/-- The year of a frame (R79); a two-digit year is one of 2000 to 2099 (log 70). -/
def State.irigYear (s : State) (n : Nat) (f : IrigFrame) : Option Nat :=
  if codeHasYear (s.fld (R.QUAL_CAND_CFG_IRIG_CODE n)) then some (2000 + f.year)
  else if s.uncertain then some (s.fld R.QUAL_IRIG_YEAR_YEAR)
  else
    let y := 1970 + s.hubSec / 31556952
    [y, y - 1, y + 1].find? (fun y => decide ((s.irigTai n f y - (s.hubSec : Int)).natAbs ≤ 183 * 86400))

/-- The frame is accepted, with its label, or rejected (R78, R79). -/
def State.irigDecode (s : State) (n : Nat) (w : List Nat) : Option Nat :=
  let b := w.filterMap irigBit
  if w.length ≠ 100 ∨ b.length ≠ 100 then none
  else if ¬ (List.range 100).all (fun i => ((b[i]?).getD 0 == 2) == irigMarker i) then none
  else
    let f := irigFields b
    let code := s.fld (R.QUAL_CAND_CFG_IRIG_CODE n)
    if ¬ (f.digits.take (if codeHasYear code then 11 else 9)).all (fun d => decide (d ≤ 9)) then none
    else if 60 < f.sec ∨ (f.sec = 60 ∧ ¬ s.flag R.TB_STATUS_LEAP_ACTIVE) then none
    else if codeHasSbs code ∧ f.sbs ≠ f.hour * 3600 + f.min * 60 + f.sec then none
    else
      match s.irigYear n f with
      | some y => let t := s.irigTai n f y; if t < 0 then none else some t.toNat
      | none => none

/-- Two consecutive labels that make the label trusted: one second apart, or by the armed leap (R80), which the model takes
as either 1 + DELTA or 1 - DELTA while LEAP_ARMED is set (log 70). -/
def State.labelStep (s : State) (a b : Nat) : Bool :=
  b == a + 1 || (s.flag R.TB_STATUS_LEAP_ARMED && s.tb.leapDelta != 0
    && ((b : Int) == (a : Int) + 1 + s.tb.leapDelta || (b : Int) == (a : Int) + 1 - s.tb.leapDelta))

/-- A received IRIG-B frame: bit widths in microseconds (R78, R80). Its on-time edge is the last marker sampled, where that
lies within the length of a frame (log 70). -/
def State.irigFrame (s : State) (n : Nat) (w : List Nat) : State :=
  if s.qualFenced ∨ ¬ s.candEn n ∨ s.kind n ≠ 3 then s
  else
    let c := s.cand n
    match s.irigDecode n w with
    | none => (s.setCand n { c with irig := none, irigAt := none, irigOk := false }).clr (R.QUAL_CAND_STATE_LABEL_OK n)
    | some l =>
      let ok := match c.irig with
        | some a => s.labelStep a l
        | none => false
      let at_ := match c.lastEdge with
        | some e => if 2 * (s.tb.elapsed - e) < 3 * fuPerSec then some e else none
        | none => none
      (s.setCand n { c with irig := some l, irigAt := at_, irigOk := ok }).setFld (R.QUAL_CAND_STATE_LABEL_OK n) (if ok then 1 else 0)

def execIrigFrame (n : Fin 16) (w : List Nat) (s : State) : Out := s.live (s.irigFrame n w)

/-! ### Activity (R83) -/

/-- Loss of signal (R83, R92), whatever shows it. -/
def State.lossOfSignal (s : State) (n : Nat) : State :=
  if ¬ s.candEn n ∨ s.fld (R.QUAL_CAND_STATE_STATE n) = 0 then s
  else (s.raise (R.QUAL_CAND_EVENTS_LOS n)).setCandState n 0 0

/-- LOSS_OF_SIGNAL (R83): of a reference input, when its edges have stopped; of a link, when no recovered-clock edge came. -/
def execLossOfSignal (n : Fin 48) (s : State) : Out :=
  s.live (if s.qualFenced ∨ (n.val < 16 ∧ ¬ s.edgesLost n) then s else s.lossOfSignal n)

/-- What restores activity has come (R83, 06 R192): the edges of a reference input whose REFT channel has a core; of a link
its CDR, locked for 1 ms. -/
def State.active (s : State) (n : Nat) : Bool :=
  if n < 16 then s.edgesBack n && !s.coreless (64 + n)
  else s.flag (R.LNK_STATUS_CDR_LOCK (n - 16)) && decide ((s.link (n - 16)).lockAt + fuPerMs ≤ s.tb.elapsed)

/-- Activity restored (R83, R92). -/
def State.activityRestored (s : State) (n : Nat) : State :=
  if s.qualFenced ∨ ¬ s.candEn n ∨ ¬ s.active n then s
  else if s.fld (R.QUAL_CAND_STATE_STATE n) = 0 then s.setCandState n 1 8 else s

def execActivityRestored (n : Fin 48) (s : State) : Out := s.live (s.activityRestored n)

/-! ### The drift watch and the ensemble (R86 to R90, R512) -/

/-- DRIFT_WIN as it acts (R98). -/
def State.driftWin (s : State) : Nat := max 100 (s.fld R.QUAL_DRIFT_WIN_WIN)

def State.driftArmed (s : State) (n : Nat) : Bool := s.flag (R.QUAL_CAND_STATE_DRIFT_ARMED n)

/-- One sample of one candidate's drift watch (R86). -/
def State.driftSample (s : State) (n : Nat) : State :=
  let c := s.cand n
  if s.fld (R.QUAL_CAND_STATE_STATE n) = 0 then s
  else match c.samples.head? with
    | none => s
    | some e =>
      let d := (e :: c.drift).take s.driftWin
      let armed := decide (s.driftWin ≤ d.length)
      let yc := if armed then Config.freqRound ((sampleSums d).slope * ((2 ^ 48 : Nat) : Rat)) else c.yc
      (s.setCand n { c with drift := d, yc := yc }).setFld (R.QUAL_CAND_STATE_DRIFT_ARMED n) (if armed then 1 else 0)

/-- The members of the ensemble (R88). -/
def State.ensemble (s : State) : List Nat :=
  (List.range 48).filter (fun n => (s.candState n == 2 || s.candState n == 3) && s.flag (R.QUAL_CAND_CFG_ENS n)
    && s.driftArmed n)

def insertInt (v : Int) : List Int → List Int
  | [] => [v]
  | w :: r => if v ≤ w then v :: w :: r else w :: insertInt v r

/-- The median; for an even count the mean of the middle two (R88). -/
def median (l : List Int) : Int :=
  let q := l.foldr insertInt []
  let k := q.length
  if k % 2 = 1 then (q[k / 2]?).getD 0
  else Config.freqRound ((((q[k / 2 - 1]?).getD 0 + (q[k / 2]?).getD 0 : Int) : Rat) / 2)

/-- What a candidate's drift is measured against (R88, R512). -/
inductive DriftRef where
  | members (y : Int)
  | oven (y : Int)
  | nothing
  deriving DecidableEq, Repr

/-- The disagreement of two members, and whether the oven's bound decides between them (R88, R90). -/
def State.pairDiff (s : State) : Option Nat :=
  match s.ensemble with
  | [a, b] => some ((s.cand a).yc - (s.cand b).yc).natAbs
  | _ => none

/-- DISAGREE after this evaluation (R88, R90). -/
def State.disagreeNow (s : State) : Bool :=
  match s.pairDiff with
  | none => false
  | some d =>
    let lim := s.fld R.QUAL_AGREE_LIMIT
    if 2 * s.uOsc < d then false
    else if lim < d then true
    else if 10 * d ≤ 8 * lim then false
    else s.flag R.QUAL_STATUS_DISAGREE

/-- The reference of the members in this second (R88). -/
def State.memberRef (s : State) : DriftRef :=
  let ys := s.ensemble.map (fun n => (s.cand n).yc)
  let ym := -s.modelValue
  if 3 ≤ ys.length then .members (median ys)
  else match s.pairDiff with
    | none => .oven ym
    | some d =>
      if s.disagreeNow then .nothing
      else if d ≤ s.fld R.QUAL_AGREE_LIMIT then .members (median ys)
      else .oven ym

/-- The reference of one candidate (R88, R512). -/
def State.driftRef (s : State) (n : Nat) : DriftRef :=
  if s.ensemble.contains n then s.memberRef
  else match s.memberRef with
    | .members y => .members y
    | _ => .oven (-s.modelValue)

/-- DISAGREE sets or clears, with its event and report (R90). -/
def State.setDisagree (s : State) : State :=
  let v := s.disagreeNow
  let old := s.flag R.QUAL_STATUS_DISAGREE
  let s := s.setFld R.QUAL_STATUS_DISAGREE (if v then 1 else 0)
  if v && !old then (s.raise R.QUAL_EVENTS_DISAGREE_SET).record 0x010 1 0x14 else s

/-- The drift of one candidate cannot be told from oven aging (R89). -/
def State.unverifiable (s : State) (n : Nat) : Bool :=
  match s.driftRef n with
  | .oven y =>
    let d := ((s.cand n).yc - y).natAbs
    decide (s.fld R.QUAL_DRIFT_SOFT_LIMIT < d) && decide (d ≤ s.uOsc)
  | _ => false

/-- The drift measure of one candidate and its verdicts (R86, R89, R92). -/
def State.driftVerdict (s : State) (n : Nat) (ref : DriftRef) : State :=
  let c := s.cand n
  let y := match ref with | .members y => y | .oven y => y | .nothing => -s.modelValue
  let d := c.yc - y
  let s := s.setInt64 (R.QUAL_CAND_DRIFT_LO n) (R.QUAL_CAND_DRIFT_HI n) d
  let ver := match ref with
    | .members _ => true
    | .oven _ => decide (s.uOsc < d.natAbs)
    | .nothing => false
  let soft := s.fld R.QUAL_DRIFT_SOFT_LIMIT
  let bad := if ver && decide (soft < d.natAbs) then true
    else if 10 * d.natAbs ≤ 8 * soft then false else c.driftBad
  let s := s.setCand n { c with driftBad := bad }
  let st := s.fld (R.QUAL_CAND_STATE_STATE n)
  if (st = 2 ∨ st = 3) ∧ ver ∧ s.fld R.QUAL_DRIFT_HARD_LIMIT < d.natAbs then s.setCandState n 4 3
  else if st = 2 ∧ ver ∧ soft < d.natAbs then s.setCandState n 3 3
  else if st = 3 ∧ (s.cand n).cleared then s.setCandState n 2 8
  else s

/-- The evaluation of the drift watch, once per second (R86, R88). While SOAK is set it holds its verdicts (R97). -/
def State.driftEval (s : State) : State :=
  if s.qualFenced ∨ s.soak then s
  else
    let s := (List.range 48).foldl State.driftSample s
    let refs := ((List.range 48).filter (fun n => s.driftArmed n)).map (fun n => (n, s.driftRef n))
    let unv := refs.any (fun e => s.unverifiable e.1)
    let s := s.setDisagree
    let old := s.flag R.QUAL_STATUS_UNVERIFIABLE
    let s := s.setFld R.QUAL_STATUS_UNVERIFIABLE (if unv then 1 else 0)
    let s := if unv && !old then (s.raise R.QUAL_EVENTS_UNVERIFIABLE_SET).note 0x010 else s
    let s := refs.foldl (fun s e => s.driftVerdict e.1 e.2) s
    s.revertCheck

def execDriftWatchEval (s : State) : Out := s.live s.driftEval

/-! ### Timers and commands (R92 to R95, R98) -/

/-- The observation target has been reached (R93). -/
def State.obsDone (s : State) (n : Nat) : Bool :=
  let c := s.cand n
  let base := if s.kind n = 1 ∨ s.kind n = 3 then decide (s.fld R.QUAL_OBS_PULSES ≤ c.obsPulses)
    else decide (c.obsFrom + s.fld R.QUAL_OBS_OBS_S * fuPerSec ≤ s.tb.elapsed)
  base && (!s.steppedCand n || decide (c.obsRun + s.fld R.QUAL_OBS_REQUAL_S * fuPerSec ≤ s.tb.elapsed))

/-- CAND_QUALIFY (R93). -/
def State.candQualify (s : State) (n : Nat) : State :=
  if s.fld (R.QUAL_CAND_STATE_STATE n) = 1 ∧ ¬ s.qualFenced ∧ ¬ s.soak ∧ s.obsDone n ∧ ¬ (s.cand n).monitorFails then
    s.setCandState n 2 8
  else s

def execCandQualify (n : Fin 48) (s : State) : Out := s.live (s.candQualify n)

/-- DRIFT_HOLD_EXPIRE (R92). -/
def State.driftHoldExpire (s : State) (n : Nat) : State :=
  if s.fld (R.QUAL_CAND_STATE_STATE n) = 3 ∧ ¬ s.qualFenced
      ∧ (s.cand n).suspAt + s.fld R.QUAL_DRIFT_WIN_HOLD * fuPerSec ≤ s.tb.elapsed then
    s.setCandState n 4 6
  else s

def execDriftHoldExpire (n : Fin 48) (s : State) : Out := s.live (s.driftHoldExpire n)

/-- The cause of DISQUALIFIED has cleared (R92). -/
def State.disqCleared (s : State) (n : Nat) : Bool :=
  let c := s.cand n
  let d := (s.int64 (R.QUAL_CAND_DRIFT_LO n) (R.QUAL_CAND_DRIFT_HI n)).natAbs
  !c.fwFail && !c.jitFail && (!s.driftArmed n || decide (10 * d ≤ 8 * s.fld R.QUAL_DRIFT_SOFT_LIMIT))

/-- DISQ_MIN_EXPIRE (R92). -/
def State.disqMinExpire (s : State) (n : Nat) : State :=
  if s.fld (R.QUAL_CAND_STATE_STATE n) = 4 ∧ ¬ s.qualFenced ∧ s.disqCleared n
      ∧ (s.cand n).disqAt + s.fld R.QUAL_DISQ_MIN_MIN * fuPerSec ≤ s.tb.elapsed then
    s.setCandState n 1 8
  else s

def execDisqMinExpire (n : Fin 48) (s : State) : Out := s.live (s.disqMinExpire n)

/-- REOBSERVE (R92, R94). -/
def State.reobserve (s : State) (n : Nat) : State :=
  if n = s.selected then s.raise (R.QUAL_CAND_EVENTS_CMD_REJ n)
  else
    let st := s.fld (R.QUAL_CAND_STATE_STATE n)
    if st = 2 ∨ st = 3 ∨ st = 4 then s.setCandState n 1 7 else s

def execReobserve (n : Fin 48) (s : State) : Out := s.live (s.reobserve n)

/-- A write of EN (R74, R92, R94); the ownership of REFT_n, and D with it, changes (R81, 06 R178). -/
def State.writeCandEn (s : State) (n : Nat) (en : Bool) : State :=
  let s := if n < 16 ∧ en ≠ s.candEn n then s.restartDec (64 + n) else s
  if en then s.raise (R.QUAL_CAND_CFG_EN n)
  else
    let s := s.clr (R.QUAL_CAND_CFG_EN n)
    if s.fld (R.QUAL_CAND_STATE_STATE n) = 0 then s else s.setCandState n 0 7

def execQualCandEnWrite (n : Fin 48) (en : Bool) (s : State) : Out := s.live (s.writeCandEn n en)

/-- QUAL_STEPPED_CLEAR (R95). -/
def execQualSteppedClear (n : Fin 48) (s : State) : Out := s.live (s.clearStepped n).reform

/-- A write of QUAL_DRIFT_WIN: a change of the window disarms every drift watch (R98). -/
def State.writeDriftWin (s : State) (v : Nat) : State :=
  let s' := (s.setFld R.QUAL_DRIFT_WIN_WIN v).setFld R.QUAL_DRIFT_WIN_HOLD (v / 2 ^ 16)
  if s.fld R.QUAL_DRIFT_WIN_WIN = s'.fld R.QUAL_DRIFT_WIN_WIN then s'
  else (List.range 48).foldl (fun s n => (s.setCand n { s.cand n with drift := [], driftBad := false }).clr
    (R.QUAL_CAND_STATE_DRIFT_ARMED n)) s'

def execQualDriftWinWrite (v : BitVec 32) (s : State) : Out := s.live (s.writeDriftWin v.toNat)

end Sys2Proof.Machine
end

