-- ==== Sys2Proof/Machine/Seam.lean ====
section
/-! DEFINITION. Machine/Seam.lean: the rows of the seam unit (04): selection, timescale states, holdover learning and evaluation,
snapshots, PRESS. -/
namespace Sys2Proof.Machine

/-- A write to SEAM or an operation on it under the seam unit's fence is answered as DOMAIN_OFF (16 R446). -/
def State.seamGuard (s : State) (act : State → State) : State := if s.seamFenced then s else act s

/-! ### Selection (R102 to R105) -/

/-- e_o of a seam that begins now, with the selected candidate in service (R109). -/
def State.handInput (s : State) : Int := s.retainedInput false

/-- SELECT (R102, R113); without a valid shadow of its target it waits as SEL_PENDING (R109, log 71). -/
def State.select (s : State) (m : Nat) : State :=
  if 47 < m then s.raise R.SEAM_EVENTS_SEL_REJ
  else
    let s := s.setFld R.SEAM_STATUS_PREF m
    let s :=
      if s.isFree then s.raise R.SEAM_STATUS_SEL_PENDING
      else if m = s.selected then s.clr R.SEAM_STATUS_SEL_PENDING
      else if s.fit m ∧ s.shadowValid m then (s.clr R.SEAM_STATUS_SEL_PENDING).startSeam m s.handInput
      else s.raise R.SEAM_STATUS_SEL_PENDING
    s.reform

def execSelect (m : Fin 64) (s : State) : Out := s.live (s.seamGuard (fun s => s.select m))

/-- CLEAR_PREF (R102). -/
def State.clearPref (s : State) : State :=
  ((s.setFld R.SEAM_STATUS_PREF 0x3F).clr R.SEAM_STATUS_SEL_PENDING).reform

def execClearPref (s : State) : Out := s.live (s.seamGuard (fun s => s.clearPref))

/-- No seam is in progress and the seam unit may begin one. -/
def State.seamIdle (s : State) : Bool := s.seam.run.isNone && !s.seamFenced && !s.isFree

/-- A pending PREF that has become fit is seamed to (R102). -/
def State.pendingSeam (s : State) : State :=
  let p := s.prefCand
  if s.seamIdle ∧ s.flag R.SEAM_STATUS_SEL_PENDING ∧ s.fit p ∧ s.shadowValid p ∧ p ≠ s.selected then
    (s.clr R.SEAM_STATUS_SEL_PENDING).startSeam p s.handInput
  else s

def execSelPendingSeam (s : State) : Out := s.live s.pendingSeam

/-- A seam onto n is called for without a failure: in FREE-RUN, HOLDOVER and LOST (R103), also onto the candidate that a FEED
holdover kept selected once SRC has left FEED; and under SRC = FEED in place of a selection that is missing or has failed
(R513). -/
def State.wants (s : State) (n : Nat) : Bool :=
  if s.tsState = 1 ∨ s.tsState = 2 then s.srcFeed && !s.selectedGood && n != s.selected
  else n != s.selected || !s.srcFeed

/-- The selection of FREE-RUN, HOLDOVER and LOST (R103). -/
def State.autoSelect (s : State) : State :=
  if s.seamIdle then
    match s.autoOrder.head? with
    | some n => if s.shadowValid n ∧ s.wants n then s.startSeam n 0 else s
    | none => s
  else s

def execAutoSelect (s : State) : Out := s.live s.autoSelect

/-- The revert timer expires (R104). -/
def State.revertExpire (s : State) : State :=
  match s.seam.wtr with
  | some t =>
    if s.seamIdle ∧ s.revertHolds ∧ t + s.fld R.SEAM_WTR_WTR * fuPerSec ≤ s.tb.elapsed ∧ s.shadowValid s.prefCand then
      s.startSeam s.prefCand s.handInput
    else s
  | none => s

def execRevertTimerExpire (s : State) : Out := s.live s.revertExpire

/-- SEAM_COMPLETE (R135). -/
def execSeamComplete (s : State) : Out := s.live s.completeSeam

/-! ### Timescale states (R112, R113, R513) -/

/-- The condition of the row from ACQUIRING to LOCKED. -/
def State.lockReady (s : State) : Bool :=
  s.tsState == 1 && !s.seamFenced && decide (s.fld R.SEAM_LOCK_STAGE ≤ s.stage) && !s.flag R.SEAM_STATUS_AUTO_SLEW
    && !s.seam.autoWait && (match s.seam.lockFrom with
        | some t => decide (t + s.fld R.SEAM_LOCK_LOCK_S * fuPerSec ≤ s.tb.elapsed)
        | none => false)

def State.unlockReady (s : State) : Bool :=
  s.tsState == 2 && !s.seamFenced && decide (max 1 (s.fld R.SEAM_LOCK_UNLOCK_N) ≤ s.seam.unlockN)

/-- TS_LOCK (R112). -/
def State.lockNow (s : State) : State := if s.lockReady then s.toLocked else s

def execTsUnlock (s : State) : Out := s.live (if s.unlockReady then s.toAcquiring else s)

/-- No FEED has been applied for SEAM_FEED_LOSS (R112). -/
def State.feedLoss (s : State) : State :=
  if s.srcFeed ∧ s.seam.feedAt + s.fld R.SEAM_FEED_LOSS_MS * fuPerMs ≤ s.tb.elapsed then s.enterHoldover else s

def execFeedLossExpire (s : State) : Out := s.live s.feedLoss

/-- FREE = 1: FREE-RUN, no selection, TSERVO not HOLDING and steering by the integrator (R113). -/
def State.toFree (s : State) : State :=
  let s := s.leaveLocked
  let s := match s.seam.slew with
    | some w => if w.auto then s.stopSlew else s
    | none => s
  let s := if s.tsState = 3 ∨ s.tsState = 4 then
      ((s.servoRelease).raise R.SEAM_EVENTS_HO_EXIT).clr R.SEAM_STATUS_HOLDOVER_UNLEARNED
    else s
  let s := { s with seam := { s.seam with run := none, lockFrom := none, unlockN := 0, acq := none, autoWait := false,
                                          ins := [], frozen := none }
                    tsv := { s.tsv with y := s.integ, lastIn := none } }
  let s := ((s.setFld R.SEAM_STATUS_TS_STATE 0).setFld R.SEAM_STATUS_SEL 0x3F).clr R.SEAM_STATUS_SEAMING
  ((s.clr R.SEAM_STATUS_PREARMED).setFld R.SEAM_STBY_FALLBACK 0x3F).showSteer.pressBusy.announce.reform

/-- A write of FREE (R113). -/
def State.writeFree (s : State) (v : Bool) : State :=
  if v then (if s.isFree then s else (s.raise R.SEAM_CTL_FREE).toFree)
  else s.clr R.SEAM_CTL_FREE

def execSeamFreeWrite (v : Bool) (s : State) : Out := s.live (s.seamGuard (fun s => s.writeFree v))

/-! ### Temperature and the bounds of R120 -/

/-- The substrate temperature is read, and the integral of |T - T0| grows by the time since it last did (R115, R120). -/
def State.readTemp (s : State) (temp : Int) : State :=
  let d := (s.int32 R.SEAM_SUB_TEMP - s.modelInUse.tt0).natAbs
  let s := if s.tsState = 3 ∨ s.tsState = 4 then
      { s with seam := { s.seam with tInt := s.seam.tInt + d * (s.tb.elapsed - s.seam.tIntAt), tIntAt := s.tb.elapsed } }
    else s
  s.setFld R.SEAM_SUB_TEMP (ofSigned 32 temp)

/-- u_f in use: 5e-8 while SOAK is set (R120). -/
def State.ufNow (s : State) : Nat := if s.soak then 14073749 else s.modelInUse.uf

/-- U_osc of R120 in units of 2^-48. -/
def State.uOscExact (s : State) : Rat :=
  let m := s.modelInUse
  let th : Nat := match s.seam.leftLock with
    | some t => if s.tsState = 2 then 0 else s.tb.elapsed - t
    | none => 0
  (s.ufNow : Rat) + ((m.ua * th : Nat) : Rat) / ((86400 * fuPerSec : Nat) : Rat)
    + ((m.ut * (s.int32 R.SEAM_SUB_TEMP - m.tt0).natAbs : Nat) : Rat) / 1000

/-- U of R120 in fu: u_x outside HOLDOVER and LOST. -/
def State.uExact (s : State) : Rat :=
  if s.tsState = 3 ∨ s.tsState = 4 then
    let m := s.modelInUse
    let t := s.tb.elapsed - s.seam.hoAt
    (s.seam.ux : Rat) + (((s.ufNow * t : Nat) : Rat)
      + ((m.ua * t * t : Nat) : Rat) / ((2 * 86400 * fuPerSec : Nat) : Rat)
      + ((m.ut * s.seam.tInt : Nat) : Rat) / 1000) / ((2 ^ 48 : Nat) : Rat)
  else (s.seam.ux : Rat)

/-- U and U_osc are published; a U beyond SEAM_HOLD_LIMIT makes the state LOST (R120). -/
def State.publish (s : State) (temp : Int) : State :=
  let s := s.readTemp temp
  let s := if s.tsState = 3 ∨ s.tsState = 4 then s else { s with seam := { s.seam with ux := s.seam.spread } }
  let u := (Config.modelRound s.uExact).toNat
  let s := s.setPair R.SEAM_UOSC_LO R.SEAM_UOSC_HI (Config.modelRound s.uOscExact).toNat
  let s := s.setPair R.SEAM_UNC_LO R.SEAM_UNC_HI u
  if s.tsState = 3 ∧ ¬ s.seamFenced ∧ s.pair R.SEAM_HOLD_LIMIT_LO_LIMIT R.SEAM_HOLD_LIMIT_HI_LIMIT < u then
    ((s.setFld R.SEAM_STATUS_TS_STATE 4).raise R.SEAM_EVENTS_LOST_ENTER).announce.record 0x003 1 0x11
  else s

def execUncertaintyPublish (temp : Int) (s : State) : Out := s.live (s.publish temp)

/-! ### Holdover learning (R115 to R118) -/

/-- The conditions of R115. -/
def State.learning (s : State) : Bool :=
  s.tsState == 2 && s.candState s.selected != 3 && !s.soak && !s.flag R.TSV_STATUS_CLAMP && !s.seamFenced

/-- The mean of y since the last sample (R115). -/
def State.meanY (s : State) : Int :=
  let d := s.tb.elapsed - s.seam.learnAt
  if d = 0 then s.tsv.y
  else Config.modelRound (((s.tb.steer - s.seam.learnSteer : Int) : Rat) / ((d : Nat) : Rat))

/-- A sample corrected by c (T - T0) (R116, R117). -/
def State.corrected (s : State) (e : Learn) : Int :=
  let m := s.modelInUse
  e.y - Config.modelRound ((m.c : Rat) * ((e.temp - m.tt0 : Int) : Rat) / 1000)

/-- A sample leaves the guard line into the window, the day and the running 60 s (R115, R117, R118). -/
def State.enterWindow (s : State) (e : Learn) : State :=
  let win := (e :: s.seam.window).take (max 300 (s.fld R.SEAM_HO_CFG_WIN_S))
  let s := { s with seam := { s.seam with window := win, dayN := s.seam.dayN + 1,
                                          daySum := s.seam.daySum + s.corrected e, min60 := e :: s.seam.min60 } }
  s.setFld R.SEAM_HO_LEARN_WIN_N win.length

/-- LEARN_SAMPLE (R115). -/
def State.learnSample (s : State) (temp : Int) : State :=
  let y := s.meanY
  let s := s.readTemp temp
  let take := s.learning
  let s := { s with seam := { s.seam with learnAt := s.tb.elapsed, learnSteer := s.tb.steer } }
  if take then
    let g := { t := s.tb.elapsed, y := y, temp := temp } :: s.seam.guard
    let k := s.fld R.SEAM_HO_CFG_GUARD_S
    let out := g.drop k
    let s := { s with seam := { s.seam with guard := g.take k } }
    out.foldr (fun e s => s.enterWindow e) s
  else s

def execLearnSample (temp : Int) (s : State) : Out := s.live (s.learnSample temp)

/-- The aging rate and its uncertainty from the daily history (R117). -/
def Seam.aging (m : Seam) : Int × Nat :=
  if m.days.length < 3 then (0, 56295)
  else
    let q := fitSums (m.days.map (fun e => (-((e.2 : Nat) : Int), e.1)))
    (Config.modelRound q.slope, max 1407 (Config.modelRound (3 * Config.standardError q.slopeVar)).toNat)

/-- The temperature coefficient and its uncertainty from the 60 s means (R118). -/
def Seam.tempco (m : Seam) (a : Int) (now : Nat) : Int × Nat :=
  let l := m.means.filter (fun e => decide (now ≤ e.t + 604800 * fuPerSec))
  let ts := l.map (fun e => e.temp)
  let span : Int := match ts with
    | [] => 0
    | t :: r => r.foldl max t - r.foldl min t
  if span < 500 then (0, 1407)
  else
    let q := fitSums (l.map (fun e => (e.temp,
      e.y - Config.modelRound ((a : Rat) * (((e.t : Int) - (now : Int) : Int) : Rat) / ((86400 * fuPerSec : Nat) : Rat)))))
    (Config.modelRound (1000 * q.slope), (Config.modelRound (3000 * Config.standardError q.slopeVar)).toNat)

/-- The model is recomputed from the window and put in use (R116); in HOLDOVER and LOST it stays frozen (R119). -/
def State.recompute (s : State) : State :=
  let w := s.seam.window
  if s.seamFenced ∨ s.tsState = 3 ∨ s.tsState = 4 ∨ w.length < s.fld R.SEAM_HO_MIN_COMPLETE_S ∨ w.isEmpty then s
  else
    let t0 : Nat := match w.head? with | some e => e.t | none => s.tb.elapsed
    let (a, ua) := s.seam.aging
    let (c, ut) := s.seam.tempco a s.tb.elapsed
    let tt0 := Config.modelRound (((w.foldl (fun x e => x + e.temp) 0 : Int) : Rat) / ((w.length : Nat) : Rat))
    let q := fitSums (w.map (fun e => ((e.t : Int),
      e.y - Config.modelRound ((c : Rat) * ((e.temp - tt0 : Int) : Rat) / 1000))))
    let m : Model := { s0 := Config.modelRound (q.at ((t0 : Nat) : Int)), a := a, c := c, t0 := t0, tt0 := tt0,
                       uf := max 141 (Config.modelRound (3 * Config.standardError (q.atVar ((t0 : Nat) : Int)))).toNat, ua := ua, ut := ut }
    (({ s with seam := { s.seam with model := some m } }).raise R.SEAM_STATUS_LEARNED).showModel

def execHoModelRecompute (s : State) : Out := s.live s.recompute

/-- The end of a day of the day clock (R117). -/
def State.dayClose (s : State) : State :=
  if ((s.tb.elapsed : Nat) : Int) < s.seam.day + (86400 * fuPerSec : Nat) ∨ s.seamFenced then s
  else
    let aged := s.seam.days.map (fun e => (e.1, min 65535 (e.2 + 1)))
    let days := if 43200 ≤ s.seam.dayN then
        let mean := Config.modelRound ((s.seam.daySum : Rat) / ((s.seam.dayN : Nat) : Rat))
        let l := aged ++ [(mean, 0)]
        l.drop (l.length - 30)
      else aged
    let s := { s with seam := { s.seam with day := s.seam.day + (86400 * fuPerSec : Nat), dayN := 0, daySum := 0, days := days } }
    s.setFld R.SEAM_HO_LEARN_DAYS days.length

def execDayClose (s : State) : Out := s.live s.dayClose

/-- The end of 60 s of elapsed time: a mean of the samples that entered the window (R118). -/
def State.tempMean (s : State) : State :=
  if s.tb.elapsed < s.seam.min60At + 60 * fuPerSec ∨ s.seamFenced then s
  else
    let l := s.seam.min60
    let n : Rat := ((l.length : Nat) : Rat)
    let means := if l.isEmpty then s.seam.means
      else { t := s.tb.elapsed, y := Config.modelRound (((l.foldl (fun x e => x + e.y) 0 : Int) : Rat) / n),
             temp := Config.modelRound (((l.foldl (fun x e => x + e.temp) 0 : Int) : Rat) / n) } :: s.seam.means
    let means := means.filter (fun e => decide (s.tb.elapsed ≤ e.t + 604800 * fuPerSec))
    { s with seam := { s.seam with min60At := s.seam.min60At + 60 * fuPerSec, min60 := [], means := means } }

def execTempMean60s (s : State) : Out := s.live s.tempMean

/-- HO_MODEL_EVAL (R119): s_m becomes the holdover value. -/
def State.modelEval (s : State) (temp : Int) : State :=
  let s := s.readTemp temp
  if (s.tsState = 3 ∨ s.tsState = 4) ∧ s.holding then s.servoHoldValue s.modelValue else s

def execHoModelEval (temp : Int) (s : State) : Out := s.live (s.modelEval temp)

/-! ### Snapshots (R121, R122) -/

/-- One entry of the daily history as 64 bits. -/
def dayWord (e : Int × Nat) : Nat := ofSigned 48 e.1 + min 65535 e.2 * 2 ^ 48

def dayWords : List (Int × Nat) → Nat
  | [] => 0
  | e :: r => dayWord e + 2 ^ 64 * dayWords r

/-- The 320 bytes of R122 as one number, byte 0 lowest. -/
def State.snapshotBits (s : State) : Nat :=
  let m := s.modelInUse
  encodeHub s.tb.now
    + 2 ^ 96 * (s.fld R.SEAM_STATUS_LEARNED + 2 * s.fld R.TB_STATUS_TIME_UNCERTAIN)
    + 2 ^ 112 * s.seam.days.length
    + 2 ^ 128 * ofSigned 64 m.s0 + 2 ^ 192 * ofSigned 64 m.a + 2 ^ 256 * ofSigned 32 m.c + 2 ^ 288 * ofSigned 32 m.tt0
    + 2 ^ 320 * (m.uf % 2 ^ 64) + 2 ^ 384 * (m.ua % 2 ^ 32) + 2 ^ 416 * (m.ut % 2 ^ 32)
    + 2 ^ 448 * ((((s.tb.elapsed : Nat) : Int) - s.seam.day).toNat / fuPerSec % 86400)
    + 2 ^ 512 * dayWords s.seam.days

/-- SNAPSHOT (R121). -/
def State.takeSnapshot (s : State) : State :=
  let p := s.fld R.SEAM_SNAP_PERIOD_PERIOD
  if s.flag R.SEAM_STATUS_LEARNED ∧ p ≠ 0 ∧ ¬ s.seamFenced ∧ s.seam.snapAt + p * fuPerSec ≤ s.tb.elapsed then
    let v := s.snapshotBits
    let s := (List.range 80).foldl (fun s k => s.setFld (R.SEAM_SNAP_WORD k) (v / 2 ^ (32 * k))) s
    let s := { s with seam := { s.seam with snapAt := s.tb.elapsed } }
    (s.next R.SEAM_SNAP_SEQ).raise R.SEAM_EVENTS_SNAP
  else s

def execSnapshot (s : State) : Out := s.live s.takeSnapshot

/-! ### PRESS (R125 to R129) -/

/-- The boundary of a PRESS: AT, or the next hub second. -/
def State.boundary (s : State) (at_ : Nat) : Nat := if at_ = 0 then s.hubSec + 1 else at_

/-- FORMAT of R125. -/
def State.pressFormat (s : State) (p : Press) : Bool :=
  match p.form with
  | .align => !p.align
  | .abort => false
  | _ => s.amountBad p.form (if s.hasOffset p.target then -s.toff p.target else p.amt)

/-- NO_TARGET of R125. -/
def State.pressNoTarget (s : State) (p : Press) : Bool :=
  match p.form with
  | .step | .slew => p.target != 0x3F && !s.hasOffset p.target
  | _ => false

/-- ABORT (R127). -/
def State.pressAbort (s : State) : State :=
  let s := s.abortSlew
  match s.seam.press with
  | some _ => ({ s with seam := { s.seam with press := none } }).pressFinish 5
  | none => s

/-- The check of R125: the first status that applies, and the state with the PRESS accepted where that is PENDING. -/
def State.pressCheck (s : State) (p : Press) : Nat × State :=
  if p.form = .abort then (0, s.pressAbort)
  else if s.flag R.SEAM_STATUS_PRESS_BUSY then (2, s)
  else if s.pressFormat p then (3, s)
  else if s.pressNoTarget p then (4, s)
  else if p.at_ ≠ 0 ∧ p.at_ ≤ s.hubSec then (6, s)
  else
    let p := { p with at_ := s.boundary p.at_ }
    let m := if p.form = .align then { s.seam with aligns := s.seam.aligns ++ [p] }
      else { s.seam with press := some p }
    (1, ({ s with seam := m }).pressBusy)

/-- A host GO (R125, R138): SEQ counts it, RESULT shows the status, and a status other than PENDING ends it. -/
def State.pressHost (s : State) (form : Form) (align : Bool) (mask target : Nat) : State :=
  let p : Press := { form := form, amt := s.int64 R.SEAM_PRESS_AMT_LO R.SEAM_PRESS_AMT_HI,
                     at_ := s.pair R.SEAM_PRESS_AT_LO R.SEAM_PRESS_AT_HI, align := align, mask := mask,
                     target := target, by_ := .host }
  let (code, s) := s.pressCheck p
  let s := (s.next R.SEAM_PRESS_STATUS_SEQ).setFld R.SEAM_PRESS_STATUS_RESULT code
  if code = 1 then s else s.raise R.SEAM_EVENTS_PRESS_DONE

def execPressCmdAlign (align : Bool) (mask : BitVec 8) (s : State) : Out :=
  s.live (s.seamGuard (fun s => s.pressHost .align align mask.toNat 0x3F))

def execPressCmdStep (align : Bool) (mask : BitVec 8) (target : Fin 64) (s : State) : Out :=
  s.live (s.seamGuard (fun s => s.pressHost .step align mask.toNat target))

def execPressCmdSlew (align : Bool) (mask : BitVec 8) (target : Fin 64) (s : State) : Out :=
  s.live (s.seamGuard (fun s => s.pressHost .slew align mask.toNat target))

def execPressCmdAbort (s : State) : Out := s.live (s.seamGuard (fun s => s.pressHost .abort false 0 0x3F))

/-- PRESS_STEP_APPLY (R126): the STEP at its boundary, with the leap check of its tick (02 R45, R51). -/
def State.pressStepApply (s : State) : State :=
  match s.dueStep with
  | some p => (s.applyStep p).leapCheck
  | none => s

/-- ACQUISITION_STEP (02 R57): the step at its boundary. -/
def State.acquisitionStep (s : State) : State :=
  match s.dueAcquisition with
  | some n => (s.applyAcquisition n).leapCheck
  | none => s

def execAcquisitionStep (s : State) : Out := s.live s.acquisitionStep

/-- The ALIGN-only PRESSes whose boundary has been reached (R125, 05 R163, R517). -/
def State.pressAlignApply (s : State) : State :=
  let due := s.seam.aligns.filter (fun p => decide (p.at_ ≤ s.hubSec))
  let s := { s with seam := { s.seam with aligns := s.seam.aligns.filter (fun p => decide (s.hubSec < p.at_)) } }
  due.foldl (fun s p => if s.seamFenced then s.pressFinish 5 else (s.alignOutputs p.mask).pressFinish 0) s

def execPressAlignApply (s : State) : Out := s.live s.pressAlignApply

/-- A SLEW at its boundary (R127, R128, R517). An automatic slew that began meanwhile stops, and goes on after it (log 71). -/
def State.slewStart (s : State) : State :=
  match s.seam.press with
  | some p =>
    if p.form = .slew ∧ p.at_ ≤ s.hubSec then
      let s := { s with seam := { s.seam with press := none } }
      if s.seamFenced then s.pressFinish 5
      else match s.pressAmount p with
        | (0, amt) =>
          let wait := s.seam.slew.isSome || s.seam.autoWait
          let s := s.stopSlew
          ({ s with seam := { s.seam with autoWait := wait } }).startSlew amt false p.by_
        | (code, _) => s.pressFinish code
    else s
  | none => s

def execSlewStart (s : State) : Out := s.live s.slewStart

/-- A slew ends when its amount has been moved to within 1 fu; the last part makes up the total (R110, R127). -/
def State.slewEnd (s : State) : State :=
  match s.seam.slew with
  | some w =>
    if w.amt.natAbs ≤ w.moved + 1 then
      let sign : Int := if w.amt < 0 then -1 else 1
      let rest := sign * (((w.amt.natAbs - w.moved : Nat)) : Int)
      let s := { s with tb := { s.tb with slewed := s.tb.slewed + rest } }
      let s := if s.selected < 48 then s.setBuildout s.selected (s.buildout s.selected + rest) else s
      let s := s.stopSlew
      if w.auto then s.pressBusy else (s.pressFinish 0).resumeAuto
    else s
  | none => s

def execSlewEnd (s : State) : Out := s.live s.slewEnd

end Sys2Proof.Machine
end

