-- ==== Sys2Proof/Machine/LinkCore.lean ====
section
/-! DEFINITION. Machine/LinkCore.lean: what fences and clock losses do to a link port (07 R200, R218, R222), shared by the rows of
05, 07, 15 and 16. -/
namespace Sys2Proof.Machine

/-- A port changes state; entry into UP and exit from it set their events (R200). -/
def State.setLinkState (s : State) (n v : Nat) : State :=
  let old := s.linkState n
  let s := s.setFld (R.LNK_STATUS_STATE n) v
  if old = v then s
  else if v = 3 then s.raise (R.LNK_EVENTS_UP n)
  else if old = 3 then s.raise (R.LNK_EVENTS_DOWN n)
  else s

/-- Compensation stops, the trimmer holds and the unwrapped phase is lost (R218). -/
def State.phaseLost (s : State) (n : Nat) : State :=
  let s := s.setLink n { s.link n with rt := [] }
  ((s.clr (R.LNK_STATUS_PC_RUN n)).raise (R.LNK_STATUS_PHASE_LOST n)).raise (R.LNK_EVENTS_PHASE_LOST_SET n)

/-- The port reports loss of signal on its candidate (R199). -/
def State.linkLos (s : State) (n : Nat) : State := if s.qualFenced then s else s.lossOfSignal (16 + n)

/-- A fence of the port takes effect (R222). -/
def State.linkFence (s : State) (n : Nat) : State :=
  if s.linkState n = 4 then s
  else
    let up := s.linkState n == 3
    let s := (s.setLinkState n 4).raise (R.LNK_EVENTS_FENCE n)
    let l := s.link n
    let s := s.setLink n { l with rxCut := up }
    let s := if s.tb.elapsed < l.wire then s.setLink n { s.link n with cut := true, wire := s.tb.elapsed } else s
    (((s.clr (R.LNK_STATUS_CDR_LOCK n)).clr (R.LNK_STATUS_AN_DONE n)).phaseLost n).linkLos n

/-- Domain A loses its source: the link-clock source of a port reports its MAJOR and the port is fenced (R222). -/
def State.linkClkReport (s : State) (n : Nat) : State :=
  let s := s.record (0x040 + n) 2 0x0D
  (s.fenceOn (0x040 + n)).linkFence n

def State.linkClockLost (s : State) : State := (List.range 32).foldl (fun s n => s.linkClkReport n) s

end Sys2Proof.Machine
end

