-- ==== Sys2Proof/Machine/Synth.lean ====
section
/-! DEFINITION. Machine/Synth.lean: the PLLs, the clock domains, the stand-ins and the ramp generators (05 R139 to R156, R514),
without the reports to the fault collector that Machine/Faults.lean adds. -/
namespace Sys2Proof.Machine

def State.pllState (s : State) (p : Nat) : Nat := s.fld (R.SYN_PLL_STATUS_STATE p)
def State.pllN (s : State) (p : Nat) : Nat := s.fld (R.SYN_PLL_CFG_N p)
def State.domSrc (s : State) (d : Nat) : Nat := s.fld (R.SYN_DOMAIN_SRC d)
def State.domGated (s : State) (d : Nat) : Bool := s.flag (R.SYN_DOMAIN_GATED d)

def State.ramp (s : State) (p : Nat) : Ramp := Tab.get (fun _ => Ramp.init) s.syn.ramps p

def State.setRamp (s : State) (p : Nat) (r : Ramp) : State :=
  { s with syn := { s.syn with ramps := Tab.set (fun _ => Ramp.init) s.syn.ramps p r } }

/-- SLEEP holds the outputs of domains B to D (R158, 15 R423). -/
def State.asleep (s : State) : Bool := s.fld R.PWR_STATUS_STATE == 2

/-- PLL q carries a domain other than its own. -/
def State.carriesOther (s : State) (q : Nat) : Bool :=
  (List.range 4).any (fun d => d != q && s.domSrc d == q && !s.domGated d)

/-- R152: PLL q can carry domain p. -/
def State.canCarry (s : State) (q p : Nat) : Bool :=
  q != p && s.pllState q == 3 && s.pllN q == s.pllN p && (s.ramp q).acc == 0 && (s.ramp q).phase == 0
    && s.domSrc q == q && !s.domGated q

/-! ### The clock source of the time base (02 R46, R48; 14 R407) -/

/-- The time-base path's fence keeps the time base on bypass (16 R446). -/
def State.tbPathFenced (s : State) : Bool := s.fenced 0x004

def State.tbBypass (s : State) : State :=
  if s.tb.running then (s.setFld R.TB_STATUS_CLK_SRC 2).raise R.TB_STATUS_TIME_DEGRADED else s

/-- Domain A has a locked source: the time base takes it, and starts if it has not (02 R48, 14 R407). -/
def State.tbLive (s : State) : State :=
  let s := { s with tb := { s.tb with running := true } }
  if s.tbPathFenced then (s.setFld R.TB_STATUS_CLK_SRC 2).raise R.TB_STATUS_TIME_DEGRADED
  else (s.setFld R.TB_STATUS_CLK_SRC (if s.domSrc 0 = 0 then 0 else 1)).clr R.TB_STATUS_TIME_DEGRADED

/-! ### Domains (R149 to R154) -/

def privileged (i : Nat) : Bool := i % 6 == 0

/-- The outputs of a domain (R149). -/
def domainOutputs (d : Nat) : List Nat := (List.range 6).map (fun k => 6 * d + k)

def State.gateOutput (s : State) (i : Nat) : State :=
  let s := s.raise (R.OUT_STATUS_GATED i)
  if privileged i then s.raise (R.OUT_STATUS_BYPASS i) else s

def State.resumeOutput (s : State) (i : Nat) : State :=
  ((s.clr (R.OUT_STATUS_GATED i)).clr (R.OUT_STATUS_BYPASS i)).raise (R.OUT_STATUS_PHASE_LOST i)

/-- The source of a domain is lost (R149 steps 1 to 4): outputs gated or on bypass, and for domain A the time base on bypass
and the ports fenced. -/
def State.gateDomain (s : State) (d : Nat) : State :=
  if s.domGated d then s
  else
    let s := s.raise (R.SYN_DOMAIN_GATED d)
    let s := (domainOutputs d).foldl (fun s i => s.gateOutput i) s
    if d = 0 then s.tbBypass.linkClockLost else s

/-- A domain moves to a source; a change of source is a completed move (R153). -/
def State.moveDomain (s : State) (d q : Nat) : State :=
  let s := if s.domSrc d = q then s else (s.setFld (R.SYN_DOMAIN_SRC d) q).raise (R.SYN_PLL_EVENTS_HANDOVER_DONE d)
  if d = 0 ∧ ¬ s.domGated 0 then s.tbLive else s

/-- A gated domain is given a source (R151). -/
def State.giveSource (s : State) (d q : Nat) : State :=
  let s := s.clr (R.SYN_DOMAIN_GATED d)
  let s := (domainOutputs d).foldl (fun s i => s.resumeOutput i) s
  s.moveDomain d q

/-- The source that R151 gives a gated domain: `back` for a HANDBACK, which asks for case 1. -/
def State.choice (s : State) (d : Nat) (back : Bool) : Option Nat :=
  let q := s.fld (R.SYN_DOMAIN_STANDIN d)
  if s.asleep ∧ d ≠ 0 then none
  else if s.pllState d = 3 ∧ (back ∨ s.flag (R.SYN_DOMAIN_AUTO_RETURN d)) then some d
  else if s.flag (R.SYN_DOMAIN_AUTO d) ∧ s.canCarry q d then some q
  else none

def State.resource (s : State) (d : Nat) (back : Bool) : State :=
  if s.domGated d then
    match s.choice d back with
    | some q => s.giveSource d q
    | none => s
  else s

/-- Every change of a PLL's state gives every gated domain its chance; a domain that finds its source can make its PLL a stand-in
for another, so four rounds settle all four (R151). -/
def State.resourceAll (s : State) : State := (List.range 16).foldl (fun s k => s.resource (k % 4) false) s

/-- The domains that a PLL feeds lose their source (R149, R154). -/
def State.gateFed (s : State) (q : Nat) : State :=
  (List.range 4).foldl (fun s d => if s.domSrc d = q then s.gateDomain d else s) s

/-! ### PLL states (R144 to R147) -/

def State.setPllState (s : State) (p v : Nat) : State :=
  { s.setFld (R.SYN_PLL_STATUS_STATE p) v with syn := { s.syn with passes := Tab.set (fun _ => 0) s.syn.passes p 0 } }

/-- TSLOT holds a die temperature in 0.001 degrees C (R143). -/
def slotHolds (slot : Nat) (t : Int) : Bool :=
  if slot = 15 then true
  else if slot = 0 then decide (t < -35000)
  else if slot = 14 then decide (95000 ≤ t)
  else decide (-45000 + 10000 * (slot : Int) ≤ t) && decide (t < -35000 + 10000 * (slot : Int))

def State.dieTemp (s : State) : Int := s.int32 R.SYN_DIE_TEMP_TEMP

/-- The entry that START selects (R144 step 2). -/
def State.bandEntry (s : State) (p : Nat) : Option Nat :=
  (List.range 64).find? (fun e =>
    s.flag (R.SYN_BAND_W1_V p e) && decide (s.fld (R.SYN_BAND_W0_N_LO p e) ≤ s.pllN p)
      && decide (s.pllN p ≤ s.fld (R.SYN_BAND_W0_N_HI p e)) && slotHolds (s.fld (R.SYN_BAND_W0_TSLOT p e)) s.dieTemp)

/-- The limit of a standard in MHz (R157). -/
def stdLimit (std : Nat) : Option Nat :=
  match std with
  | 0 => some 6750
  | 1 => some 1600
  | 2 => some 250
  | 3 => some 250
  | 4 => some 250
  | _ => none

/-- N × 100 MHz / D is within a standard's limit. -/
def freqOk (n d std : Nat) : Bool :=
  match stdLimit std with
  | some m => decide (n * 100 ≤ m * d)
  | none => false

/-- START re-checks the enabled outputs of the domain under the plan (R157). -/
def State.checkOutput (s : State) (p i : Nat) : State :=
  let bad := s.flag (R.OUT_CFG_EN i) && !freqOk (s.pllN p) (s.fld (R.OUT_DIV_D i)) (s.fld (R.OUT_CFG_STD i))
  let s := { s with outs := { s.outs with exceeds := Tab.set (fun _ => false) s.outs.exceeds i bad } }
  s.raiseIf bad (R.OUT_STATUS_STD_REJ i)

/-- The time base starts on bypass when PLL A cannot (14 R407). -/
def State.bootBandMiss (s : State) (p : Nat) : State := if p = 0 then s.startOnBypass else s

/-- START (R144) without its report; a BAND_MISS state after it is one. -/
def State.pllStart (s : State) (p : Nat) : State :=
  if s.fenced (0x014 + p) then s.raise (R.SYN_PLL_EVENTS_CMD_REJ p)
  else if s.pllState p ≠ 0 ∧ s.pllState p ≠ 5 then s
  else
    match s.bandEntry p with
    | none => (((s.setPllState p 5).raise (R.SYN_PLL_EVENTS_BAND_MISS p)).resourceAll).bootBandMiss p
    | some e =>
      let s := (s.setFld (R.SYN_PLL_STATUS_ENTRY p) e).setFld (R.SYN_PLL_STATUS_BAND p) (s.fld (R.SYN_BAND_W0_BAND p e))
      let s := { s with syn := { s.syn with
        slot := Tab.set slotDefault s.syn.slot p (s.fld (R.SYN_BAND_W0_TSLOT p e))
        gtrim := Tab.set (fun _ => 0) s.syn.gtrim p (s.fld (R.SYN_BAND_W1_GTRIM p e)) } }
      let s := (s.clr (R.SYN_PLL_STATUS_BAND_STALE p)).setPllState p 2
      ((domainOutputs p).foldl (fun s i => s.checkOutput p i) s).resourceAll

/-- The PLL goes to OFF, and its domains lose their source as on a loss of lock (R146, 16 R446, 15 R423). -/
def State.pllHalt (s : State) (p : Nat) : State :=
  let was := s.pllState p
  let s := (s.clr (R.SYN_PLL_STATUS_BAND_STALE p)).setPllState p 0
  (if was = 0 ∨ was = 5 then s else s.gateFed p).resourceAll

/-- STOP (R146). -/
def State.pllStop (s : State) (p : Nat) : State :=
  if s.carriesOther p then s.raise (R.SYN_PLL_EVENTS_CMD_REJ p) else s.pllHalt p

/-- LOCKED is declared (R147): the domains that the PLL feeds are live, and gated ones are looked at again (R151). -/
def State.pllLocked (s : State) (p : Nat) : State :=
  let s := (s.setPllState p 3).raise (R.SYN_PLL_EVENTS_LOCK p)
  let s := if s.domSrc 0 = p ∧ ¬ s.domGated 0 then s.tbLive else s
  s.resourceAll

/-- Loss of lock is declared (R147, R149) without the report of step 5. -/
def State.pllUnlock (s : State) (p : Nat) : State :=
  let s := ((s.setPllState p 4).raise (R.SYN_PLL_EVENTS_UNLOCK p)).bump (R.SYN_PLL_EVENTS_UNLOCK_N p)
  (s.gateFed p).resourceAll

/-- A window passes (R147). -/
def State.windowPasses (s : State) (p : Nat) (delta : Int) : Bool :=
  decide (delta.natAbs ≤ max 1 (s.fld (R.SYN_PLL_CFG_LD_TH p)))

/-- SYN_LD_DELTA takes the count; one that its 16 bits cannot hold is a free value (log 13). -/
def State.showDelta (s : State) (p : Nat) (delta : Int) : State :=
  if -32768 ≤ delta ∧ delta ≤ 32767 then s.setFld (R.SYN_LD_DELTA_DELTA p) (ofSigned 16 delta)
  else { s.setFld (R.SYN_LD_DELTA_DELTA p) (Config.freeValue s.freeCtr).toNat with freeCtr := s.freeCtr + 1 }

/-- The cycles of f_ref in a lock-detector window, 2^k with k = LD_K held to 10 to 20 (R147). -/
def State.ldCycles (s : State) (p : Nat) : Nat := 2 ^ max 10 (min 20 (s.fld (R.SYN_PLL_CFG_LD_K p)))

/-- The end of a lock-detector window with its count of edges (R147), without the report of a loss; the flag says that lock was
lost. -/
def State.ldWindow (s : State) (p count : Nat) : State × Bool :=
  let st := s.pllState p
  let delta : Int := (count : Int) - (s.ldCycles p : Int)
  if st ≠ 2 ∧ st ≠ 3 ∧ st ≠ 4 then (s, false)
  else
    let s := s.showDelta p delta
    if s.windowPasses p delta then
      let k := Tab.get (fun _ => 0) s.syn.passes p + 1
      if st ≠ 3 ∧ max 1 (s.fld (R.SYN_PLL_CFG_LD_M p)) ≤ k then (s.pllLocked p, false)
      else ({ s with syn := { s.syn with passes := Tab.set (fun _ => 0) s.syn.passes p k } }, false)
    else if st = 3 then (s.pllUnlock p, true)
    else ({ s with syn := { s.syn with passes := Tab.set (fun _ => 0) s.syn.passes p 0 } }, false)

/-- BAND_STALE (R145): the die temperature is outside the TSLOT of the entry in use. -/
def State.bandStale (s : State) (p : Nat) (t : Int) : State :=
  let s := s.setFld R.SYN_DIE_TEMP_TEMP (ofSigned 32 t)
  let st := s.pllState p
  if (st = 2 ∨ st = 3 ∨ st = 4) ∧ ¬ slotHolds (Tab.get slotDefault s.syn.slot p) t then
    s.raise (R.SYN_PLL_STATUS_BAND_STALE p)
  else s

def execBandStale (p : Fin 4) (t : Int) (s : State) : Out := s.live (s.bandStale p t)

/-! ### Plans and commands (R140 to R142, R153) -/

/-- A write of SYN_PLL_CFG (R141, R142). -/
def State.writePllCfg (s : State) (p v : Nat) : State :=
  let n := v % 2 ^ 8
  let filt := v / 2 ^ 13 % 8
  let badN := (n != s.pllN p && s.pllState p != 0) || decide (n < 80) || decide (135 < n) || (p == 0 && !s.structural)
  let badF := decide (5 ≤ filt)
  let s := if badN then s else s.setFld (R.SYN_PLL_CFG_N p) n
  let s := if badF then s else s.setFld (R.SYN_PLL_CFG_FILT p) filt
  let s := (s.setFld (R.SYN_PLL_CFG_ICP p) (v / 2 ^ 8)).setFld (R.SYN_PLL_CFG_LD_K p) (v / 2 ^ 16)
  let s := ((s.setFld (R.SYN_PLL_CFG_LD_M p) (v / 2 ^ 21)).setFld (R.SYN_PLL_CFG_LD_TH p) (v / 2 ^ 25)).setFld
    (R.SYN_PLL_CFG_BOOT p) (v / 2 ^ 29)
  s.raiseIf (badN || badF) (R.SYN_PLL_EVENTS_PLAN_REJ p)

def execPllPlanWrite (p : Fin 4) (v : BitVec 32) (s : State) : Out := s.live (s.writePllCfg p v.toNat)

/-- A write of SYN_SERDES_DIV (R141). -/
def State.writeSerdesDiv (s : State) (v : Nat) : State :=
  let d := v % 2 ^ 8
  if ¬ s.structural ∨ d < 16 then s.raise (R.SYN_PLL_EVENTS_PLAN_REJ 0)
  else s.setFld R.SYN_SERDES_DIV_DIV d

/-- HANDOVER (R153). -/
def State.handover (s : State) (p : Nat) : State :=
  let q := s.fld (R.SYN_DOMAIN_STANDIN p)
  if ¬ s.canCarry q p then s.raise (R.SYN_PLL_EVENTS_CMD_REJ p)
  else if s.domGated p then s.resource p false
  else s.moveDomain p q

def execHandover (p : Fin 4) (s : State) : Out := s.live (s.handover p)

/-- PLL p meets what R152 asks of a target, as far as it can concern a PLL that takes its own domain back: the plan of the present
source, and no ramp (R153; DEDUCED, log 73). -/
def State.canReturn (s : State) (p : Nat) : Bool :=
  s.pllN p == s.pllN (s.domSrc p) && (s.ramp p).acc == 0 && (s.ramp p).phase == 0

/-- HANDBACK (R151, R153). -/
def State.handback (s : State) (p : Nat) : State :=
  if s.pllState p ≠ 3 then s.raise (R.SYN_PLL_EVENTS_CMD_REJ p)
  else if s.domGated p then s.resource p true
  else if ¬ s.canReturn p then s.raise (R.SYN_PLL_EVENTS_CMD_REJ p)
  else s.moveDomain p p

def execHandback (p : Fin 4) (s : State) : Out := s.live (s.handback p)

/-- A write of SYN_DOMAIN (R151). -/
def State.writeDomain (s : State) (p v : Nat) : State :=
  let s := (s.setFld (R.SYN_DOMAIN_STANDIN p) (v / 2 ^ 4)).setFld (R.SYN_DOMAIN_AUTO p) (v / 2 ^ 6)
  (s.setFld (R.SYN_DOMAIN_AUTO_RETURN p) (v / 2 ^ 7)).resource p false

def execSynDomainWrite (p : Fin 4) (v : BitVec 32) (s : State) : Out := s.live (s.writeDomain p v.toNat)

/-! ### Ramps (R140, R155, R156, R514) -/

def State.rampOut (s : State) (p : Nat) : Int := s.int64 (R.SYN_RAMP_OUT_LO p) (R.SYN_RAMP_OUT_HI p)
def State.setRampOut (s : State) (p : Nat) (v : Int) : State :=
  (s.setInt64 (R.SYN_RAMP_OUT_LO p) (R.SYN_RAMP_OUT_HI p) v).showRotator p

/-- SYN_ROT_RPH shows the accumulated amount in fu (R140); its rounding is free (log 13). -/
def State.setRampAcc (s : State) (p : Nat) (a : Int) : State :=
  let s := s.setRamp p { s.ramp p with acc := a }
  s.setInt64 (R.SYN_ROT_RPH_LO p) (R.SYN_ROT_RPH_HI p) (Config.phaseRound ((a : Rat) / ((2 ^ 48 : Nat) : Rat)))

/-- ROT_CLR (R140). -/
def State.rotClr (s : State) (p : Nat) : State :=
  if p = 0 then s
  else if (s.ramp p).phase ≠ 0 ∨ s.carriesOther p then s.raise (R.SYN_PLL_EVENTS_CMD_REJ p)
  else (s.setRamp p { s.ramp p with acc := 0 }).setInt64 (R.SYN_ROT_RPH_LO p) (R.SYN_ROT_RPH_HI p) 0

def execRotClr (p : Fin 4) (s : State) : Out := s.live (s.rotClr p)

def State.segRate (s : State) (p k : Nat) : Int := s.int32 (R.SYN_RAMP_SEG_W0_RATE p k)
def State.segDur (s : State) (p k : Nat) : Nat := s.fld (R.SYN_RAMP_SEG_W1_DUR p k)
def State.segHold (s : State) (p k : Nat) : Nat := s.fld (R.SYN_RAMP_SEG_W2_HOLD p k)
def State.segLast (s : State) (p k : Nat) : Bool := s.flag (R.SYN_RAMP_SEG_W3_LAST p k)

/-- FORMAT of R156: the first segment with LAST, and every RATE up to it. -/
def State.rampFormat (s : State) (p : Nat) : Bool :=
  match (List.range 64).find? (fun k => s.segLast p k) with
  | none => true
  | some l => (List.range (l + 1)).any (fun k => decide (281475 < (s.segRate p k).natAbs))

/-- SYN_RAMP_AT as committed, in fu. -/
def State.rampAt (s : State) (p : Nat) : Nat :=
  decodeHub (s.triple (R.SYN_RAMP_AT_0_AT p) (R.SYN_RAMP_AT_1_AT p) (R.SYN_RAMP_AT_2_AT p))

def State.rampBegin (s : State) (p : Nat) : State :=
  let s := (s.setFld (R.SYN_RAMP_STATUS_RESULT p) 2).setFld (R.SYN_RAMP_STATUS_SEG p) 0
  s.setRamp p { s.ramp p with phase := 2, hold := false, left := s.segDur p 0 }

/-- GO (R156, R514): the code it returns and the state after it. -/
def State.rampGo (s : State) (p : Nat) : Nat × State :=
  if s.rampFormat p then (7, s.setFld (R.SYN_RAMP_STATUS_RESULT p) 7)
  else if (s.ramp p).phase ≠ 0 then (6, s.raise (R.SYN_PLL_EVENTS_CMD_REJ p))
  else if s.carriesOther p ∨ s.pllState p ≠ 3 then (6, s.setFld (R.SYN_RAMP_STATUS_RESULT p) 6)
  else if s.flag (R.SYN_RAMP_CTL_START_MODE p) then
    if s.rampAt p < s.tb.now + 2 * fuPerUs then (5, s.setFld (R.SYN_RAMP_STATUS_RESULT p) 5)
    else (1, (s.setFld (R.SYN_RAMP_STATUS_RESULT p) 1).setRamp p { s.ramp p with phase := 1 })
  else (2, s.rampBegin p)

/-- ABORT (R156). -/
def State.rampAbort (s : State) (p : Nat) : Nat × State :=
  if (s.ramp p).phase = 0 then (s.fld (R.SYN_RAMP_STATUS_RESULT p), s)
  else (4, (s.setFld (R.SYN_RAMP_STATUS_RESULT p) 4).setRamp p { s.ramp p with phase := 0 })

/-- The generators are those of PLLs B to D, p = 1 to 3. -/
def rampIndex (p : Fin 3) : Nat := p.val + 1

def execSynRampGo (p : Fin 3) (s : State) : Out := s.live (s.rampGo (rampIndex p)).2
def execSynRampAbort (p : Fin 3) (s : State) : Out := s.live (s.rampAbort (rampIndex p)).2

/-- An armed ramp starts when hub time has reached its AT (R156). -/
def State.rampStartAt (s : State) (p : Nat) : State :=
  if (s.ramp p).phase = 1 ∧ s.rampAt p ≤ s.tb.now then s.rampBegin p else s

def execRampStartAt (p : Fin 3) (s : State) : Out := s.live (s.rampStartAt (rampIndex p))

/-- The end of the LAST segment (R155). -/
def State.rampEnd (s : State) (p : Nat) : State :=
  match s.fld (R.SYN_RAMP_CTL_END p) with
  | 1 => (((s.setRampOut p 0).setFld (R.SYN_RAMP_STATUS_RESULT p) 3)).setRamp p { s.ramp p with phase := 0 }
  | 2 => (s.setFld (R.SYN_RAMP_STATUS_SEG p) 0).setRamp p { s.ramp p with hold := false, left := s.segDur p 0 }
  | _ => (s.setFld (R.SYN_RAMP_STATUS_RESULT p) 3).setRamp p { s.ramp p with phase := 0 }

/-- Parts of no length are passed over: at most one round of the 64 segments in one update. -/
def State.rampNorm : Nat → State → Nat → State
  | 0, s, _ => s
  | k + 1, s, p =>
    let r := s.ramp p
    if r.phase ≠ 2 ∨ r.left ≠ 0 then s
    else
      let g := s.fld (R.SYN_RAMP_STATUS_SEG p)
      if ¬ r.hold then State.rampNorm k (s.setRamp p { r with hold := true, left := s.segHold p g }) p
      else if s.segLast p g then State.rampNorm k (s.rampEnd p) p
      else State.rampNorm k ((s.setFld (R.SYN_RAMP_STATUS_SEG p) (g + 1)).setRamp p
        { r with hold := false, left := s.segDur p (g + 1) }) p

/-- One microsecond of a generator (R140, R155): the phase of the past microsecond is accumulated, then the offset changes. -/
def State.rampUpdate (s : State) (p : Nat) : State :=
  let o := s.rampOut p
  let s := if o = 0 then s else s.setRampAcc p ((s.ramp p).acc + o * (fuPerUs : Int))
  let s := State.rampNorm 130 s p
  let r := s.ramp p
  if r.phase ≠ 2 ∨ r.left = 0 then s
  else
    let s := if r.hold then s else s.setRampOut p (o + s.segRate p (s.fld (R.SYN_RAMP_STATUS_SEG p)))
    State.rampNorm 130 (s.setRamp p { s.ramp p with left := r.left - 1 }) p

def execRampUpdate (p : Fin 3) (s : State) : Out := s.live (s.rampUpdate (rampIndex p))

end Sys2Proof.Machine
end

