-- ==== Sys2Proof/Machine/Outs.lean ====
section
/-! DEFINITION. Machine/Outs.lean: clock outputs, SYNC, pulse and frame outputs (05 R157 to R166). -/
namespace Sys2Proof.Machine

/-! ### Clock outputs (R150, R157, R159) -/

/-- The I/O bank of a clock output (19 R497) and the supply class sensed there (R157). -/
def State.bankVdd (s : State) (b : Nat) : Nat := Tab.get vddDefault s.outs.vdd b

/-- An LVCMOS standard needs its voltage on the bank (R157). -/
def State.lvcmosOk (s : State) (bank std : Nat) : Bool :=
  if std = 3 then s.bankVdd bank == 1 else if std = 4 then s.bankVdd bank == 2 else true

def State.outOver (s : State) (i : Nat) : Bool := Tab.get (fun _ => false) s.outs.exceeds i

def State.clearOver (s : State) (i : Nat) : State :=
  { s with outs := { s.outs with exceeds := Tab.set (fun _ => false) s.outs.exceeds i false } }

/-- A write of OUT_CFG (R157, R158). -/
def State.writeOutCfg (s : State) (i v : Nat) : State :=
  let std := v / 2 % 8
  if freqOk (s.pllN (i / 6)) (s.fld (R.OUT_DIV_D i)) std ∧ s.lvcmosOk (3 + i / 6) std then
    ((s.setFld (R.OUT_CFG_EN i) v).setFld (R.OUT_CFG_STD i) std).clearOver i
  else s.raise (R.OUT_STATUS_STD_REJ i)

def execOutCfgWrite (i : Fin 24) (v : BitVec 32) (s : State) : Out := s.live (s.writeOutCfg i v.toNat)

/-- A write of OUT_DIV (R150, R157): BYP_D stands on privileged outputs alone. -/
def State.writeOutDiv (s : State) (i v : Nat) : State :=
  let d := v % 2 ^ 13
  let b := v / 2 ^ 16 % 2 ^ 13
  let std := s.fld (R.OUT_CFG_STD i)
  let bOk := !privileged i || (decide (1 ≤ b) && decide (b ≤ 4096) && freqOk 1 b std)
  if 2 ≤ d ∧ d ≤ 4096 ∧ freqOk (s.pllN (i / 6)) d std ∧ bOk then
    let s := s.raiseIf (d != s.fld (R.OUT_DIV_D i)) (R.OUT_STATUS_PHASE_LOST i)
    let s := (s.setFld (R.OUT_DIV_D i) d).clearOver i
    if privileged i then s.setFld (R.OUT_DIV_BYP_D i) b else s
  else s.raise (R.OUT_STATUS_STD_REJ i)

def execOutDivWrite (i : Fin 24) (v : BitVec 32) (s : State) : Out := s.live (s.writeOutDiv i v.toNat)

def State.trimBusy (s : State) (i : Nat) : State :=
  s.setFld (R.OUT_STATUS_TRIM_BUSY i) (if s.fld (R.OUT_TRIM_TRIM i) = s.fld (R.OUT_TRIM_TRIM_NOW i) then 0 else 1)

/-- A write of TRIM (R159). -/
def State.writeTrim (s : State) (i v : Nat) : State := (s.setFld (R.OUT_TRIM_TRIM i) v).trimBusy i

def execOutTrimWrite (i : Fin 24) (v : BitVec 12) (s : State) : Out := s.live (s.writeTrim i v.toNat)

/-- One output period's part of the walk: at most 64 steps toward the target (R159). -/
def trimStep (now target : Nat) : Nat :=
  if now < target then min target (now + 64) else max target (now - 64)

def State.trimWalk (s : State) (i : Nat) : State :=
  (s.setFld (R.OUT_TRIM_TRIM_NOW i) (trimStep (s.fld (R.OUT_TRIM_TRIM_NOW i)) (s.fld (R.OUT_TRIM_TRIM i)))).trimBusy i

def execTrimWalkStep (i : Fin 24) (s : State) : Out := s.live (s.trimWalk i)

/-! ### SYNC (R160, R161) -/

/-- An output that a SYNC restarts: its domain is not gated and its source PLL is LOCKED (R160). -/
def State.syncable (s : State) (i : Nat) : Bool := !s.domGated (i / 6) && s.pllState (s.domSrc (i / 6)) == 3

def State.syncSet (s : State) (mask : Nat) : List Nat :=
  (List.range 24).filter (fun i => mask.testBit i && s.syncable i)

/-- A SYNC completes with a code (R161). -/
def State.syncEnd (s : State) (code : Nat) : State :=
  (s.setFld R.OUT_SYNC_STATUS_RESULT code).next R.OUT_SYNC_STATUS_SEQ

def State.syncMask (s : State) : Nat := s.fld R.OUT_SYNC_MASK_MASK

/-- GO (R160, R161). -/
def State.syncGo (s : State) : State :=
  let at_ := decodeHub (s.triple R.OUT_SYNC_AT_0_AT R.OUT_SYNC_AT_1_AT R.OUT_SYNC_AT_2_AT)
  if s.outs.sync.isSome then s.syncEnd 2
  else if at_ < s.tb.now + 2 * fuPerUs then s.syncEnd 3
  else if s.syncSet s.syncMask = [] then s.syncEnd 4
  else
    { s.setFld R.OUT_SYNC_STATUS_RESULT 1 with
      outs := { s.outs with sync := some { pin := false, mask := s.syncMask, at_ := at_, hold := false } } }

def execSyncGo (s : State) : Out := s.live s.syncGo

/-- A SYNC_IN edge (R160, R161). -/
def State.syncPin (s : State) : State :=
  if ¬ s.flag R.OUT_SYNC_CTL_PIN_EN then s
  else if s.outs.sync.isSome then s.bump R.OUT_SYNC_STATUS_PIN_IGN
  else if s.syncSet s.syncMask = [] then s.syncEnd 4
  else { s with outs := { s.outs with sync := some { pin := true, mask := s.syncMask, at_ := s.tb.elapsed, hold := false } } }

def execSyncInEdge (s : State) : Out := s.live s.syncPin

/-- 200 ns in fu. -/
def syncHoldFu : Nat := 200 * 65536

/-- The hold of the named outputs begins, 200 ns before the instant (R160). -/
def State.syncHold (s : State) : State :=
  match s.outs.sync with
  | some w =>
    if w.pin ∨ w.at_ ≤ s.tb.now + syncHoldFu then { s with outs := { s.outs with sync := some { w with hold := true } } }
    else s
  | none => s

def execSyncHoldStart (s : State) : Out := s.live s.syncHold

/-- A hub time can be the sync instant (R160): for a hub-time SYNC it is that of the first feedback edge at or after AT, less than
10 ns on; after a SYNC_IN edge it is that of the 25th one, 240 to 250 ns after, within a tick of the present hub time. -/
def State.syncDue (s : State) (w : SyncWait) (at_ : Nat) : Bool :=
  if w.pin then
    let d : Int := (at_ : Int) - (s.tb.now : Int)
    let t : Int := (s.tb.elapsed : Int) + d - (w.at_ : Int)
    decide (d.natAbs ≤ 10 * 65536) && decide (240 * 65536 ≤ t) && decide (t ≤ 250 * 65536)
  else decide (w.at_ ≤ at_) && decide (at_ < w.at_ + 10 * 65536) && decide (w.at_ ≤ s.tb.now)

/-- The sync instant at a hub time (R160). -/
def State.syncInstant (s : State) (at_ : Nat) : State :=
  match s.outs.sync with
  | some w =>
    if s.syncDue w at_ then
      let s := (s.syncSet w.mask).foldl (fun s i => s.clr (R.OUT_STATUS_PHASE_LOST i)) s
      let s := s.setTriple R.OUT_SYNC_INST_0_INST R.OUT_SYNC_INST_1_INST R.OUT_SYNC_INST_2_INST (encodeHub at_)
      ({ s with outs := { s.outs with sync := none } }).syncEnd 0
    else s
  | none => s

def execSyncInstant (at_ : Nat) (s : State) : Out := s.live (s.syncInstant at_)

/-! ### Pulse outputs (R162 to R165) -/

/-! ### The content of an IRIG-B frame sent (R165) -/

/-- The label of the frame that starts at a hub second: TAI, or UTC by the offset (R165). -/
def State.irigOutLabel (s : State) (k sec : Nat) : Nat :=
  if s.flag (R.PPS_CFG_IRIG_TS k) then sec
  else ((sec : Int) - toSigned 16 (s.fld R.TB_UTC_OFFSET_OFFSET)).toNat

/-- The year of a day count from 1970-01-01. -/
def yearOfDay (d : Nat) : Nat :=
  let y := 1970 + d * 400 / 146097
  ([y + 1, y, y - 1].find? (fun y => decide (daysToYear y ≤ d) && decide (1970 ≤ y))).getD 1970

/-- The bits of a BCD digit or a binary value at places, lowest first. -/
def placeBits (v : Nat) (places : List Nat) : List (Nat × Nat) :=
  (List.range places.length).map (fun i => ((places[i]?).getD 0, v / 2 ^ i % 2))

/-- The elements of a frame: code, label in seconds, a leap second in progress, control functions. Places as for
reception (PRESUMED, log 11). -/
def irigFrameOut (code label : Nat) (leap : Bool) (cf : Nat) : List Nat :=
  let l := if leap then label - 1 else label
  let day := l / 86400
  let y := yearOfDay day
  let doy := day - daysToYear y + 1
  let sod := l % 86400 + (if leap then 1 else 0)
  let sec := l % 60 + (if leap then 1 else 0)
  let min := l / 60 % 60
  let hour := l / 3600 % 24
  let cfOn := code == 0 || code == 1 || code == 4 || code == 5
  let bits :=
    placeBits (sec % 10) [1, 2, 3, 4] ++ placeBits (sec / 10) [6, 7, 8] ++ placeBits (min % 10) [10, 11, 12, 13]
      ++ placeBits (min / 10) [15, 16, 17] ++ placeBits (hour % 10) [20, 21, 22, 23] ++ placeBits (hour / 10) [25, 26]
      ++ placeBits (doy % 10) [30, 31, 32, 33] ++ placeBits (doy / 10 % 10) [35, 36, 37, 38]
      ++ placeBits (doy / 100) [40, 41]
      ++ (if codeHasYear code then placeBits (y % 10) [50, 51, 52, 53] ++ placeBits (y / 10 % 10) [55, 56, 57, 58]
          else if cfOn then placeBits cf [50, 51, 52, 53, 54, 55, 56, 57, 58] else [])
      ++ (if cfOn then placeBits (cf / 2 ^ 9) [60, 61, 62, 63, 64, 65, 66, 67, 68, 70, 71, 72, 73, 74, 75, 76, 77, 78] else [])
      ++ (if codeHasSbs code then
            placeBits sod [80, 81, 82, 83, 84, 85, 86, 87, 88, 90, 91, 92, 93, 94, 95, 96, 97] else [])
  (List.range 100).map (fun i =>
    if irigMarker i then 2 else match bits.find? (fun e => e.1 == i) with | some e => e.2 | none => 0)

/-- The frame that PPS_OUT_k starts at an edge (R165); a UTC frame reads second 60 while LEAP_ACTIVE is set (02 R52). -/
def State.irigOut (s : State) (k : Nat) (edge : Int) : List Nat :=
  let sec := ((edge - s.ppsShift k) / (fuPerSec : Int)).toNat
  irigFrameOut (s.fld (R.PPS_CFG_IRIG_CODE k)) (s.irigOutLabel k sec)
    (s.flag R.TB_STATUS_LEAP_ACTIVE && !s.flag (R.PPS_CFG_IRIG_TS k)) (s.fld (R.PPS_IRIG_CF k))

def State.ppsRunning (s : State) (k : Nat) : State :=
  s.setFld (R.PPS_STATUS_RUNNING k) (if s.ppsEmits k then 1 else 0)

/-- An edge of a frame sequence is counted (R164). -/
def Pulse.frameCount (p : Pulse) : Pulse := { p with left := p.left - 1, seq := p.left != 1 }

/-- An edge leaves (R162, R164, R165). -/
def State.ppsEmit (s : State) (k : Nat) (p : Pulse) (e : Int) : State :=
  let p := { p with n := p.n + 1, cf := s.fld (R.PPS_IRIG_CF k), irig := if s.ppsMode k = 3 then s.irigOut k e else p.irig }
  if s.ppsMode k = 2 then ((s.setPulse k p).raiseIf (!p.seq) (R.PPS_STATUS_FR_DONE k)).ppsRunning k else s.setPulse k p

/-- PPS_EDGE: the output emits its next edge once hub time has reached it, before that the one that a realigning STEP left due
(R162, R163). -/
def State.ppsEdge (s : State) (k : Nat) : State :=
  let p := s.pulse k
  let e := s.ppsNext k
  match p.owed with
  | some e =>
    if s.ppsEmits k then
      s.ppsEmit k (let p := { p with owed := none }; if s.ppsMode k = 2 then p.frameCount else p) e
    else s.setPulse k { p with owed := none }
  | none =>
    if s.ppsEmits k ∧ s.tb.running ∧ e ≤ (s.tb.now : Int) then
      s.ppsEmit k (let p := { p with last := e }; if s.ppsMode k = 2 then { p.frameCount with m := p.m + 1 } else p) e
    else s

def execPpsEdge (k : Fin 8) (s : State) : Out := s.live (s.ppsEdge k)

/-! ### Writes of the configuration (R162, R164) -/

/-- WIDTH fits the period of a mode (R162). -/
def widthOk (mode w npps per : Nat) : Bool :=
  match mode with
  | 0 => decide (5 ≤ w) && decide (2 * w ≤ 1000000000)
  | 1 => decide (5 ≤ w) && decide (2 * w * npps ≤ 1000000000)
  | 2 => decide (5 ≤ w) && decide (2 * w * 65536 ≤ per)
  | _ => true

/-- 20 ns in fu (R164). -/
def minPeriod : Nat := 20 * 65536

/-- A mode with its rate, width and period is one that R162 and R164 admit. -/
def State.ppsCfgOk (s : State) (k mode npps w : Nat) : Bool :=
  (mode != 1 || (decide (2 ≤ npps) && decide (npps ≤ 999))) && (mode != 2 || decide (minPeriod ≤ s.framePeriod k))
    && widthOk mode w npps (s.framePeriod k)

/-- A write of PPS_CFG (R162, R164, R170). -/
def State.writePpsCfg (s : State) (k v : Nat) : State :=
  let mode := v / 2 % 4
  let std := v / 2 ^ 3 % 4
  let npps := v / 2 ^ 10 % 2 ^ 10
  let stdOk := decide (std ≠ 3) && (std == 2 || s.bankVdd 1 == std + 1)
  if stdOk ∧ s.ppsCfgOk k mode npps (s.fld (R.PPS_WIDTH_WIDTH k)) then
    let was := s.flag (R.PPS_CFG_EN k)
    let old := s.ppsMode k
    let s := (((s.setFld (R.PPS_CFG_EN k) v).setFld (R.PPS_CFG_MODE k) mode).setFld (R.PPS_CFG_STD k) std).setFld
      (R.PPS_CFG_POL k) (v / 2 ^ 5)
    let s := ((s.setFld (R.PPS_CFG_IRIG_CODE k) (v / 2 ^ 6)).setFld (R.PPS_CFG_IRIG_TS k) (v / 2 ^ 9)).setFld
      (R.PPS_CFG_NPPS k) npps
    let p := s.pulse k
    let p := if v % 2 = 0 ∨ mode ≠ old then { p with seq := false } else p
    let p := if (v % 2 = 1 ∧ ¬ was) ∨ mode ≠ old then { p with last := max p.last (s.tb.now : Int) } else p
    (s.setPulse k p).ppsRunning k
  else s.raise (R.PPS_STATUS_CFG_REJ k)

/-- A write of the width. -/
def State.writePpsWidth (s : State) (k v : Nat) : State :=
  let w := v % 2 ^ 30
  if widthOk (s.ppsMode k) w (s.fld (R.PPS_CFG_NPPS k)) (s.framePeriod k) then s.setFld (R.PPS_WIDTH_WIDTH k) w
  else s.raise (R.PPS_STATUS_CFG_REJ k)

/-- A write of the frame period: refused below 20 ns while a sequence runs (R164). -/
def State.writePeriod (s : State) (k : Nat) (f : Fld) (v : Nat) : State :=
  let t := s.setFld f v
  if (s.pulse k).seq ∧ t.framePeriod k < minPeriod then s.raise (R.PPS_STATUS_CFG_REJ k) else t

/-- Registers by number: 0 CFG, 1 WIDTH, 2 OFFSET_LO, 3 OFFSET_HI, 4 FR_PER_NS, 5 FR_PER_FU. PPS_OFFSET_0 is zero. -/
def State.writePps (s : State) (k reg v : Nat) : State :=
  match reg with
  | 0 => s.writePpsCfg k v
  | 1 => s.writePpsWidth k v
  | 2 => if k = 0 then s else s.setFld (R.PPS_OFFSET_LO k) v
  | 3 => if k = 0 then s else s.setFld (R.PPS_OFFSET_HI k) v
  | 4 => s.writePeriod k (R.PPS_FR_PER_NS k) v
  | _ => s.writePeriod k (R.PPS_FR_PER_FU k) v

def execPpsCfgWrite (k : Fin 8) (reg : Fin 6) (v : BitVec 32) (s : State) : Out := s.live (s.writePps k reg v.toNat)

/-- The first m whose time is at least 2 us ahead (R164). -/
def firstFrame (start per now : Nat) : Nat :=
  let t := now + 2 * fuPerUs
  if t ≤ start ∨ per = 0 then 0 else (t - start + per - 1) / per

/-- FR_ARM (R164). -/
def State.frArm (s : State) (k : Nat) : State :=
  if s.ppsMode k ≠ 2 then s
  else if s.framePeriod k < minPeriod then s.raise (R.PPS_STATUS_CFG_REJ k)
  else if ¬ s.flag (R.PPS_CFG_EN k) then s
  else
    (s.setPulse k { s.pulse k with
      seq := true, m := firstFrame (s.frameStart k) (s.framePeriod k) s.tb.now, left := s.fld (R.PPS_FR_COUNT k) }).ppsRunning k

def execFrArm (k : Fin 8) (s : State) : Out := s.live (s.frArm k)

/-- FR_STOP (R164). -/
def State.frStop (s : State) (k : Nat) : State := (s.setPulse k { s.pulse k with seq := false }).ppsRunning k

def execFrStop (k : Fin 8) (s : State) : Out := s.live (s.frStop k)

/-! ### 96-bit hub-time registers (R166) -/

/-- A word of a 96-bit register is staged until word _2 commits. -/
def State.stageWord (s : State) (addr v : Nat) : State :=
  { s with syn := { s.syn with stage := Tab.set (fun _ => 0) s.syn.stage addr (v % 2 ^ 32) } }

/-- A write of word _2: the three words are committed, or refused with the block's HT_REJ when the value breaks 00 R8. -/
def State.commitHub (s : State) (f0 f1 f2 rej : Fld) (v : Nat) : State :=
  let w0 := Tab.get (fun _ => 0) s.syn.stage f0.addr
  let w1 := Tab.get (fun _ => 0) s.syn.stage f1.addr
  let x := w0 + 2 ^ 32 * w1 + 2 ^ 64 * (v % 2 ^ 32)
  if hubLegal x then s.setTriple f0 f1 f2 x else s.raise rej

/-- Registers by number: 0 to 2 SYN_RAMP_AT of PLLs B to D, 3 OUT_SYNC_AT, 4 to 11 PPS_FR_START of outputs 0 to 7. -/
def State.commitAt (s : State) (r v : Nat) : State :=
  if r < 3 then
    s.commitHub (R.SYN_RAMP_AT_0_AT (r + 1)) (R.SYN_RAMP_AT_1_AT (r + 1)) (R.SYN_RAMP_AT_2_AT (r + 1))
      (R.SYN_RAMP_STATUS_HT_REJ (r + 1)) v
  else if r = 3 then
    s.commitHub R.OUT_SYNC_AT_0_AT R.OUT_SYNC_AT_1_AT R.OUT_SYNC_AT_2_AT R.OUT_SYNC_STATUS_HT_REJ v
  else
    s.commitHub (R.PPS_FR_START_0 (r - 4)) (R.PPS_FR_START_1 (r - 4)) (R.PPS_FR_START_2 (r - 4)) (R.PPS_STATUS_HT_REJ (r - 4)) v

def execHtRegCommit (r : Fin 12) (v : BitVec 32) (s : State) : Out := s.live (s.commitAt r v.toNat)

end Sys2Proof.Machine
end

