-- ==== Sys2Proof/Machine/RingCore.lean ====
section
/-! DEFINITION. Machine/RingCore.lean: the descriptors of the rings and their event conditions (12 R358 to R366). -/
namespace Sys2Proof.Machine

/-- The bank that stores ring r (R358). -/
def ringBank (r : Nat) : Nat := if r < 64 then 24 else if r < 104 then 26 else 25

def State.ringOn (s : State) (r : Nat) : Bool := s.flag (R.RING_CFG_EN r)

/-- Entries of the ring: 2^LOG2N (R358). -/
def State.ringN (s : State) (r : Nat) : Nat := 2 ^ s.fld (R.RING_CFG_LOG2N r)

/-- Bytes of an entry (R358, R370). -/
def State.ringEsz (s : State) (r : Nat) : Nat := 16 * 2 ^ s.fld (R.RING_CFG_ESZ r)

def State.ringHead (s : State) (r : Nat) : Nat := s.fld (R.RING_HEAD_INDEX r)
def State.ringTail (s : State) (r : Nat) : Nat := s.fld (R.RING_TAIL_INDEX r)

/-- Entries present (R359). -/
def State.ringCount (s : State) (r : Nat) : Nat := (s.ringTail r + 2 ^ 17 - s.ringHead r) % 2 ^ 17

/-- Entries free (R359). -/
def State.ringFree (s : State) (r : Nat) : Nat := s.ringN r - s.ringCount r

/-- The free entries that the producer side sees: none on a disabled or stopped ring (R366). -/
def State.ringRoom (s : State) (r : Nat) : Nat :=
  if s.ringOn r ∧ ¬ s.flag (R.RING_CFG_STOP r) then s.ringFree r else 0

/-- The address of the entry of an index (R359). -/
def State.ringEntry (s : State) (r i : Nat) : Nat :=
  bankBase (ringBank r) + s.fld (R.RING_BASE_OFFSET r) + i % s.ringN r * s.ringEsz r

/-- A producer found the ring full (R370). -/
def State.ringFull (s : State) (r : Nat) : State := (s.raise (R.RING_STAT_FULL_SET r)).bump (R.RING_STAT_FULL_N r)

/-! ### Events (R364). `prod` selects the producer side. -/

def ringRole (r : Nat) (prod : Bool) : Fld := if prod then R.RING_PROD_ROLE r else R.RING_CONS_ROLE r
def ringThr (r : Nat) (prod : Bool) : Fld := if prod then R.RING_PROD_THR r else R.RING_CONS_THR r
def ringBit (r : Nat) (prod : Bool) : Fld := if prod then R.RING_PROD_BIT r else R.RING_CONS_BIT r
def ringLevel (r : Nat) (prod : Bool) : Fld := if prod then R.RING_PROD_LEVEL r else R.RING_CONS_LEVEL r

/-- The hardware sides of the rings (01 R30): ROLE is fixed at 0x3F (R370). -/
def hardSide (r : Nat) (prod : Bool) : Bool :=
  if prod then decide (r < 32) || (decide (64 ≤ r) && decide (r < 104)) else decide (32 ≤ r) && decide (r < 64)

/-- The event condition of a side (R364); a LEVEL of 0 acts as 1. -/
def State.ringCond (s : State) (r : Nat) (prod : Bool) : Bool :=
  decide (max 1 (s.fld (ringLevel r prod)) ≤ if prod then s.ringRoom r else s.ringCount r)

/-- The holder of a role, if an engine holds it (10 R285). -/
def State.holder (s : State) (r : Nat) : Option Nat :=
  let h := s.fld (R.ENG_ROLE_HOLDER r)
  if h < 8 then some h else none

/-- The RING_k event of a side at the engine that holds its role, when the condition holds. -/
def State.ringLatch (s : State) (r : Nat) (prod : Bool) : State :=
  let role := s.fld (ringRole r prod)
  if role < 0x3E ∧ s.ringCond r prod then
    match s.holder role with
    | some h => s.raiseEvent h (s.fld (ringThr r prod)) (s.fld (ringBit r prod))
    | none => s
  else s

/-- What a descriptor update raises at a side: the event of an engine whenever the condition holds after it; the
host's vector when the condition became true, or after a doorbell (R364). -/
def State.ringSignal (s : State) (r : Nat) (prod was renew : Bool) : State :=
  if s.fld (ringRole r prod) = 0x3E then
    if s.ringCond r prod ∧ (was = false ∨ renew) then s.raiseVector (s.fld (ringBit r prod)) else s
  else s.ringLatch r prod

/-- A descriptor update (R360), and what it raises. -/
def State.ringUpdate (s : State) (r : Nat) (renew : Bool) (act : State → State) : State :=
  let p := s.ringCond r true
  let c := s.ringCond r false
  ((act s).ringSignal r true p renew).ringSignal r false c renew

/-- TAIL moves forward; HEAD moves forward (R359). -/
def State.ringPushTail (s : State) (r n : Nat) : State :=
  s.ringUpdate r false (fun s => s.setFld (R.RING_TAIL_INDEX r) (s.ringTail r + n))

def State.ringPopHead (s : State) (r n : Nat) : State :=
  s.ringUpdate r false (fun s => s.setFld (R.RING_HEAD_INDEX r) (s.ringHead r + n))

/-- The sides of rings whose role is `role`. -/
def State.ringSides (s : State) (role : Nat) : List (Nat × Bool) :=
  ((List.range 128).flatMap (fun r => [(r, true), (r, false)])).filter (fun e => s.fld (ringRole e.1 e.2) == role)

/-- A role that arrives at an engine brings the events whose condition holds (R364). -/
def State.ringArrive (s : State) (role : Nat) : State :=
  (s.ringSides role).foldl (fun s e => s.ringLatch e.1 e.2) s

/-- A pending event is cleared. -/
def State.dropEvent (s : State) (e t k : Nat) : State :=
  let f := R.ENG_THR_STATE_W1_PENDING e t
  if (s.fld f).testBit k then s.setFld f (s.fld f - 2 ^ k) else s

/-- The sides of rings that name bit k of thread t for a role which engine e holds (R281). -/
def State.namers (s : State) (e t k : Nat) : List (Nat × Bool) :=
  ((List.range 128).flatMap (fun r => [(r, true), (r, false)])).filter (fun x =>
    s.fld (ringRole x.1 x.2) < 0x3E && s.holder (s.fld (ringRole x.1 x.2)) == some e
      && s.fld (ringThr x.1 x.2) == t && s.fld (ringBit x.1 x.2) == k)

/-- The RING_k condition still holds for engine e, thread t, bit k (R281, R327). -/
def State.ringHolds (s : State) (e t k : Nat) : Bool := (s.namers e t k).any (fun x => s.ringCond x.1 x.2)

/-- A role left engine e and has no holder: its ring events are pending at no engine (R364). A bit that another ring of
the engine also names stays. -/
def State.ringLeave (s : State) (role e : Nat) : State :=
  (s.ringSides role).foldl (fun s x =>
    let t := s.fld (ringThr x.1 x.2)
    let k := s.fld (ringBit x.1 x.2)
    if (s.namers e t k).isEmpty then s.dropEvent e t k else s) s

end Sys2Proof.Machine
end

