-- ==== Sys2Proof/Machine/EngCore.lean ====
section
/-! DEFINITION. Machine/EngCore.lean: engine states, roles and epochs, the fence of an engine and its trap (10 R285 to R302). -/
namespace Sys2Proof.Machine

def State.engState (s : State) (n : Nat) : Nat := s.fld (R.ENG_STATE_STATE n)
def State.setEngState (s : State) (n v : Nat) : State := s.setFld (R.ENG_STATE_STATE n) v

/-- Operations of an engine in flight, oldest first (R277). -/
def State.flights (s : State) (n : Nat) : List Flight := Tab.get (fun _ => []) s.eng.fl n
def State.setFlights (s : State) (n : Nat) (l : List Flight) : State :=
  { s with eng := { s.eng with fl := Tab.set (fun _ => []) s.eng.fl n l } }

def State.epoch (s : State) (r : Nat) : Nat := s.fld (R.ENG_ROLE_EPOCH r)

/-- The present token of a role (R285). -/
def State.token (s : State) (r : Nat) : BitVec 16 := BitVec.ofNat 16 (r * 256 + s.epoch r)

/-- A token is current while its epoch equals the epoch in the table (R285). -/
def State.current (s : State) (tok : BitVec 16) : Bool := s.epoch (tok.toNat / 256 % 64) == tok.toNat % 256

/-- The role table is fenced (16 R446). -/
def State.rolesFenced (s : State) : Bool := s.fenced 0x01D

/-! ### The fence handler (R296) -/

/-- An exception recorded in fs (R276, 11 R337). -/
def Fs.record (f : Fs) (code : Nat) : Fs := { f with code := code, sticky := Nat.lor f.sticky (2 ^ (code - 1)) }

def State.recordExc (s : State) (e t code : Nat) : State :=
  if code = 0 then s
  else
    let x := s.thread e t
    s.setThread e t { x with fs := x.fs.record code }

/-- A FENCED completion at a thread whose present instruction is at `at_` (R296): the trap, or the STICKY bit only while
IN_TRAP is set. The handler starts in the Velmos-2 decode (11 R339). -/
def State.fencedTrap (s : State) (e t at_ : Nat) : State :=
  let x := s.thread e t
  if x.fs.inTrap then s.setThread e t { x with fs := { x.fs with sticky := Nat.lor x.fs.sticky 1 }, trapDue := false }
  else
    ((s.setThread e t { x with
        fs := { code := 1, sticky := Nat.lor x.fs.sticky 1, inTrap := true, trapPc := at_ }
        v1 := false
        trapDue := false }).setPc e t (s.fld (R.ENG_FENCE_VEC_VEC e))).setTstate e t 1

/-- A WAITING thread of a fenced engine traps at once; the trap was taken at its WAITE (R296; DEDUCED, log 14). -/
def State.fenceWaiting (s : State) (e : Nat) : State :=
  (List.range 4).foldl (fun s t =>
    if s.tstate e t = 2 then s.fencedTrap e t ((s.pc e t + 2 ^ 18 - 4) % 2 ^ 18) else s) s

/-! ### Epochs and moves (R290, R291) -/

def epochGap : Nat := 100 * fuPerUs

/-- The epoch table takes an advance now. -/
def State.bumpEpoch (s : State) (r : Nat) : State :=
  let s := s.next (R.ENG_ROLE_EPOCH r)
  { s with eng := { s.eng with roleAt := Tab.set (fun _ => 0) s.eng.roleAt r (s.tb.elapsed + 1) } }

/-- No advance of the role has been applied in the last 100 us (R290). -/
def State.epochFree (s : State) (r : Nat) : Bool :=
  let at_ := Tab.get (fun _ => 0) s.eng.roleAt r
  at_ == 0 || decide (at_ + epochGap ≤ s.tb.elapsed + 1)

def engineBit (lo hi : Fld) (s : State) (r : Nat) : State :=
  let f := if r < 32 then lo else hi
  s.setFld f (Nat.lor (s.fld f) (2 ^ (r % 32)))

/-- A role arrives at an engine: ROLE_IN and the events of its rings (R281, R291, 12 R364). -/
def State.roleIn (s : State) (r n : Nat) : State :=
  (((engineBit (R.ENG_ROLE_ARRIVED_LO_ROLES n) (R.ENG_ROLE_ARRIVED_HI_ROLES n) s r).raiseEvent n 0 17)).ringArrive r

/-- A role leaves an engine other than by a fence of it: ROLE_OUT (R281, R291). -/
def State.roleOut (s : State) (r n : Nat) : State :=
  (engineBit (R.ENG_ROLE_LEFT_LO_ROLES n) (R.ENG_ROLE_LEFT_HI_ROLES n) s r).raiseEvent n 0 18

/-- A role has no holder: ROLE_UNHELD with a MINOR (R291). -/
def State.roleUnheld (s : State) (r : Nat) (old : Option Nat) : State :=
  let s := (s.setFld (R.ENG_ROLE_HOLDER r) 0xF).raise R.ENGC_EVENTS_ROLE_UNHELD
  let s := match old with
    | some h => s.ringLeave r h
    | none => s
  s.record 0x01D 1 0x1E

/-- The endpoint service of a shard starts on an engine (09 R257). -/
def State.epsStart (s : State) (r : Nat) : State :=
  if 8 ≤ r ∧ r < 16 then
    { s with eps := { s.eps with starts := Tab.set (fun _ => 0) s.eps.starts (r - 8) (Tab.get (fun _ => 0) s.eps.starts (r - 8) + 1) } }
  else s

/-- The holder of a role changes; the epoch has been advanced. `fence` says that the old holder was fenced (R291). -/
def State.giveRole (s : State) (r : Nat) (dst : Option Nat) (fence : Bool) : State :=
  let old := s.holder r
  let s := match dst with
    | some n => ((s.setFld (R.ENG_ROLE_HOLDER r) n).epsStart r).roleIn r n
    | none => s.roleUnheld r old
  match old with
  | some h => if fence then s else s.roleOut r h
  | none => s

/-- The first engine of the plan that is not the old holder, is RUNNING and is not fenced (R291). -/
def State.planTarget (s : State) (r : Nat) : Option Nat :=
  [s.fld (R.ENG_ROLE_PLAN_P0 r), s.fld (R.ENG_ROLE_PLAN_P1 r), s.fld (R.ENG_ROLE_PLAN_P2 r)].find? (fun n =>
    decide (n < 8) && s.holder r != some n && s.engState n == 1)

/-- The three steps of a move, in one access slot (R291). A held move to an engine that is no longer RUNNING goes by the plan, and one of
a role that has meanwhile found a holder falls away (log 75). -/
def State.moveNow (s : State) (r : Nat) (m : RoleMove) : State :=
  match m with
  | .self => s.bumpEpoch r
  | .plan fence => (s.bumpEpoch r).giveRole r (s.planTarget r) fence
  | .to n => (s.bumpEpoch r).giveRole r (if s.engState n = 1 then some n else s.planTarget r) false
  | .take n => if s.holder r = none ∧ s.engState n = 1 then (s.bumpEpoch r).giveRole r (some n) false else s
  | .unhold => (s.bumpEpoch r).giveRole r none true

/-- The moves of a role that wait, oldest first (R290). -/
def State.heldMoves (s : State) (r : Nat) : List RoleMove := Tab.get (fun _ => []) s.eng.roleWait r

def State.setHeldMoves (s : State) (r : Nat) (l : List RoleMove) : State :=
  { s with eng := { s.eng with roleWait := Tab.set (fun _ => []) s.eng.roleWait r l } }

/-- A move of a role; with its advance it is held while the last advance is less than 100 us old (R290, R291). -/
def State.moveRole (s : State) (r : Nat) (m : RoleMove) : State :=
  if s.heldMoves r = [] ∧ s.epochFree r then s.moveNow r m else s.setHeldMoves r (s.heldMoves r ++ [m])

/-- The oldest move that is held takes place; no role moves while the role table is fenced (R290, 16 R446). -/
def State.heldEpoch (s : State) (r : Nat) : State :=
  match s.heldMoves r with
  | m :: l => if s.epochFree r ∧ (m = .self ∨ ¬ s.rolesFenced) then (s.setHeldMoves r l).moveNow r m else s
  | [] => s

/-- The roles that an engine holds. -/
def State.rolesOf (s : State) (n : Nat) : List Nat := (List.range 64).filter (fun r => s.holder r == some n)

/-- A role of a fenced engine: its epoch advances, and any role but SELF_n moves (R295). -/
def State.fenceRole (s : State) (n r : Nat) : State :=
  s.moveRole r (if r = n ∨ s.rolesFenced then .self else .plan true)

/-- The fence of an engine (R295); an engine that is OFF has nothing to fence. -/
def State.fenceEngine (s : State) (n : Nat) : State :=
  if s.engState n = 3 ∨ s.engState n = 4 then s
  else
    let s := (s.setEngState n 3).raise (R.ENG_EVENTS_FENCE n)
    let s := { s with eng := { s.eng with moving := Tab.set (fun _ => false) s.eng.moving n false } }
    ((s.rolesOf n).foldl (fun s r => s.fenceRole n r) s).fenceWaiting n

/-- The engine group fence fences every engine, and no role but SELF then has a holder (16 R448). -/
def State.fenceAllEngines (s : State) : State :=
  let s := { s with eng := { s.eng with groupFence := true } }
  let mark (s : State) (n : Nat) : State :=
    if s.engState n = 3 ∨ s.engState n = 4 then s
    else
      let s := (s.setEngState n 3).raise (R.ENG_EVENTS_FENCE n)
      { s with eng := { s.eng with moving := Tab.set (fun _ => false) s.eng.moving n false } }
  let s := (List.range 8).foldl mark s
  let role (s : State) (r : Nat) : State :=
    match s.holder r with
    | some _ => s.moveRole r (if r < 8 then .self else .unhold)
    | none => s
  let s := (List.range 64).foldl role s
  (List.range 8).foldl (fun s n => s.fenceWaiting n) s

/-! ### RUN and PARK (R300) -/

/-- The heartbeat timer restarts with a full interval (R294). -/
def State.beat (s : State) (n : Nat) : State :=
  { s with eng := { s.eng with beatAt := Tab.set (fun _ => 0) s.eng.beatAt n s.tb.elapsed } }

/-- Every thread with V starts at its entry; the others are HALTED (R275). -/
def State.startThread (s : State) (n t : Nat) : State :=
  if s.flag (R.ENG_THR_ENTRY_V n t) then
    ((s.setThread n t { Thread.init n with
        ep := s.token n, evAt := (s.thread n t).evAt, armed := (s.thread n t).armed }).setPc n t
      (s.fld (R.ENG_THR_ENTRY_ENTRY n t))).setTstate n t 1
  else s.setTstate n t 0

/-- The role's plan names the engine. -/
def State.planNames (s : State) (r n : Nat) : Bool :=
  s.fld (R.ENG_ROLE_PLAN_P0 r) == n || s.fld (R.ENG_ROLE_PLAN_P1 r) == n || s.fld (R.ENG_ROLE_PLAN_P2 r) == n

/-- Every role without a holder whose plan names the engine moves to it (R291). -/
def State.takeUnheld (s : State) (n : Nat) : State :=
  if s.rolesFenced then s
  else
    (List.range 64).foldl (fun s r =>
      if s.flag (R.ENG_ROLE_DEFINED r) ∧ s.holder r = none ∧ s.planNames r n then
        s.moveRole r (.take n)
      else s) s

/-- An engine enters RUNNING. -/
def State.engRun (s : State) (n : Nat) : State :=
  let s := (s.setEngState n 1).beat n
  let s := { s with eng := { s.eng with undef := Tab.set (fun _ => 0) s.eng.undef n 0 } }
  ((List.range 4).foldl (fun s t => s.startThread n t) s).takeUnheld n

/-- RUN is written (R300). -/
def State.runCmd (s : State) (n : Nat) : State :=
  match s.engState n with
  | 0 => s.engRun n
  | 1 => s
  | _ => s.raise (R.ENG_EVENTS_CMD_REJ n)

/-- The engine holds a role other than SELF_n. -/
def State.holdsRole (s : State) (n : Nat) : Bool := (s.rolesOf n).any (fun r => r != n)

/-- PARK is written (R300); the PARK of a FENCED engine lifts the fences of its own sources (R297). -/
def State.parkCmd (s : State) (n : Nat) (move : Bool) : State :=
  let drain (s : State) : State :=
    let s := s.setEngState n 2
    { s with eng := { s.eng with moving := Tab.set (fun _ => false) s.eng.moving n move } }
  match s.engState n with
  | 1 => if s.holdsRole n ∧ ¬ move then s.raise (R.ENG_EVENTS_CMD_REJ n) else drain s
  | 3 =>
    if s.eng.groupFence then s.raise (R.ENG_EVENTS_CMD_REJ n)
    else drain (((s.fenceOff (0x060 + n)).fenceOff (0x068 + n)).fenceOff (0x070 + n))
  | _ => s

/-- A DRAINING engine with no operation in flight becomes PARKED; with MOVE its roles move (R300). -/
def State.drainDone (s : State) (n : Nat) : State :=
  if s.engState n = 2 ∧ s.flights n = [] then
    let mv := Tab.get (fun _ => false) s.eng.moving n
    let s := s.setEngState n 0
    let s := { s with eng := { s.eng with moving := Tab.set (fun _ => false) s.eng.moving n false } }
    if mv then (s.rolesOf n).foldl (fun s r => if r = n ∨ s.rolesFenced then s else s.moveRole r (.plan false)) s else s
  else s

end Sys2Proof.Machine
end

