-- ==== Sys2Proof/Machine/TdcCore.lean ====
section
/-! DEFINITION. Machine/TdcCore.lean: SOAK, and how spare cores carry channels of the TDC array, as the fault collector and the
power manager need them (06 R184 to R193). -/
namespace Sys2Proof.Machine

def State.cal (s : State) (c : Nat) : Option Cal := Tab.get (fun _ => none) s.tdc.cals c
def State.setCal (s : State) (c : Nat) (x : Option Cal) : State :=
  let s := { s with tdc := { s.tdc with cals := Tab.set (fun _ => none) s.tdc.cals c x } }
  s.setFld R.TDC_STATUS_CAL_BUSY (if s.tdc.cals.isEmpty then 0 else 1)

/-- SOAK sets (R184); QUAL_STATUS.SOAK_HOLD mirrors it (03 R97). -/
def State.soakSet (s : State) : State :=
  if s.flag R.TDC_STATUS_SOAK then s
  else
    let s := ((s.raise R.TDC_STATUS_SOAK).raise R.QUAL_STATUS_SOAK_HOLD).raise R.TDC_EVENTS_SOAK_SET
    { s with tdc := { s.tdc with soakAt := s.tb.elapsed, slow := false } }

/-- The heater switches off: it draws nothing, and the settled seconds start anew (R195, log 72). -/
def State.heaterOff (s : State) : State :=
  (({ s with tdc := { s.tdc with heater := false } }).setFld R.TDC_OVEN_HEAT_MW 0).setFld R.TDC_OVEN_SETTLE_SECONDS 0

/-- The heater runs again, and its restart sets SOAK (R184, 15 R431, 19 R493). -/
def State.heaterOn (s : State) : State :=
  if s.tdc.heater then s else ({ s with tdc := { s.tdc with heater := true } }).soakSet

/-- SPARE_k is free (R195): it serves no channel and no fence of its source is in effect. -/
def State.spareFree (s : State) (k : Nat) : Bool := s.fld (R.TDC_SPARE_USE k) == 0 && !s.fenced (0x168 + k)

def State.freeSpares (s : State) : List Nat := (List.range 4).filter (fun k => s.spareFree k)

def State.showSpares (s : State) : State :=
  s.setFld R.TDC_STATUS_SPARE_FREE ((s.freeSpares.map (fun k => 2 ^ k)).foldl (· + ·) 0)

/-- A spare is given to a channel: 1 for a calibration, 2 as a replacement. -/
def State.takeSpare (s : State) (k c use : Nat) : State :=
  ((s.setFld (R.TDC_SPARE_TARGET k) c).setFld (R.TDC_SPARE_USE k) use).showSpares

def State.dropSpare (s : State) (k : Nat) : State :=
  ((s.setFld (R.TDC_SPARE_TARGET k) 0x7F).setFld (R.TDC_SPARE_USE k) 0).showSpares

/-- A spare carries the channel (R188). -/
def State.onSpare (s : State) (c k : Nat) : State :=
  (s.raise (R.TDC_CH_STATUS_SUBST c)).setFld (R.TDC_CH_STATUS_SPARE c) k

def State.onOwn (s : State) (c : Nat) : State :=
  (s.clr (R.TDC_CH_STATUS_SUBST c)).setFld (R.TDC_CH_STATUS_SPARE c) 0

/-- The channel lost its core: a free spare replaces it, reserved ones included, or it stays without (R192). -/
def State.replaceCore (s : State) (c : Nat) : State :=
  match (if s.flag R.TDC_CAL_CFG_AUTO_REPLACE then s.freeSpares.head? else none) with
  | some k => ((s.takeSpare k c 2).onSpare c k).raise R.TDC_EVENTS_REPLACED
  | none =>
    let s := if s.freeSpares.isEmpty then s.raise R.TDC_EVENTS_NO_SPARE_FENCE else s
    if 64 ≤ c ∧ c < 80 ∧ ¬ s.qualFenced then s.lossOfSignal (c - 64) else s

/-- A calibration ends with a code of R189, which is shown if its GO was the last one admitted. -/
def State.calEnd (s : State) (c code : Nat) : State :=
  match s.cal c with
  | none => s
  | some x =>
    let s := (s.setCal c none).raise R.TDC_EVENTS_CAL_END
    if x.cmd = some (s.fld R.TDC_CAL_STATUS_SEQ) then s.setFld R.TDC_CAL_STATUS_RESULT code else s

/-- The core of channel c is fenced (R192, R193). -/
def State.fenceCore (s : State) (c : Nat) : State :=
  let s := s.raise (R.TDC_CH_STATUS_FENCED c)
  match s.cal c with
  | some ⟨_, some k, _, _⟩ => (((s.takeSpare k c 2).onSpare c k).calEnd c 6)
  | some ⟨_, none, _, _⟩ => (s.calEnd c 6).replaceCore c
  | none => if s.subst c then s else s.replaceCore c

/-- A spare core is fenced while it may carry a channel (R193), or while it is itself being calibrated. -/
def State.fenceSpare (s : State) (k : Nat) : State :=
  let c := s.fld (R.TDC_SPARE_TARGET k)
  if s.fld (R.TDC_SPARE_USE k) = 0 then s.showSpares
  else if 103 < c then s.dropSpare k
  else
    let s := s.dropSpare k
    match s.cal c with
    | some ⟨0, some _, _, _⟩ => s.calEnd c 5
    | some ⟨1, some _, a, r⟩ =>
      let s := (s.onOwn c).replaceCore c
      s.setCal c (some ⟨1, if s.subst c then some (s.fld (R.TDC_CH_STATUS_SPARE c)) else none, a, r⟩)
    | some ⟨_, some _, _, _⟩ => (s.onOwn c).calEnd c 2
    | _ =>
      let s := s.onOwn c
      if s.fenced (0x100 + c) then s.replaceCore c else s

end Sys2Proof.Machine
end

