-- ==== Sys2Proof/Machine/PowerCore.lean ====
section
/-! DEFINITION. Machine/PowerCore.lean: the power state, what it holds back, and the return to RUN from IDLE and SLEEP
(15 R421 to R431). -/
namespace Sys2Proof.Machine

def State.entering (s : State) : Bool := s.flag R.PWR_STATUS_ENTERING

/-- Engines issue: the part is in RUN and no entry is in progress (R422, R428 step 2). -/
def State.enginesIssue (s : State) : Bool := s.pwrState == 0 && !s.entering

/-- The data-plane fabric moves handshakes: RUN, and an entry has not brought it to rest (R422, R428). -/
def State.fabricMoves (s : State) : Bool := s.pwrState == 0 && !s.pwr.drained

/-- The power states in which a wake source counts (R430): 1 WAKE_L, 2 alarm, 3 I2C, 4 host, 5 fault. -/
def wakeCounts (src st : Nat) : Bool :=
  match src with
  | 1 => decide (1 ≤ st)
  | 2 | 3 => decide (1 ≤ st) && decide (st ≤ 3)
  | _ => decide (1 ≤ st) && decide (st ≤ 2)

/-- The highest of several sources in the order WAKE_L, host, alarm, fault, I2C (R430). -/
def wakeSource (l : List Nat) : Nat := ([1, 4, 2, 5, 3].find? (fun k => l.contains k)).getD 0

/-- PWR_LAST_WAKE and the WAKE event (R429, R430). -/
def State.lastWake (s : State) (srcs : List Nat) (replayed abort : Bool) : State :=
  let all := ((List.range 6).filter (fun k => srcs.contains k)).foldl (fun a k => a + 2 ^ (k - 1)) 0
  let s := (s.setFld R.PWR_LAST_WAKE_SRC (wakeSource srcs)).setFld R.PWR_LAST_WAKE_FROM s.pwrState
  let s := (s.setFld R.PWR_LAST_WAKE_ALL all).setFld R.PWR_LAST_WAKE_REPLAYED (if replayed then 1 else 0)
  s.setFld R.PWR_LAST_WAKE_ABORT (if abort then 1 else 0)

/-- What is held while the part is in IDLE or SLEEP resumes (R422, R431): heartbeat timers restart, and launches that fell
due are marked to complete LATE; the endpoint service starts its intervals afresh. -/
def State.resumeRun (s : State) : State :=
  let s := s.setFld R.PWR_STATUS_STATE 0
  let held : Tab Nat := (List.range 32).foldl (fun t n => Tab.set (fun _ => 0) t n (s.ringCount (32 + n))) []
  let s := { s with pwr := { s.pwr with wokeAt := s.tb.now + 1, held := held, drained := false } }
  let s := (List.range 8).foldl (fun s g => s.epsStart (8 + g)) s
  (List.range 8).foldl (fun s n => if s.engState n = 1 then s.beat n else s) s

/-- A port with EN = 1 goes to DOWN and trains, with PHASE_LOST set (R431). -/
def State.wakeLink (s : State) (n : Nat) : State :=
  if s.flag (R.LNK_CFG_EN n) ∧ s.linkState n = 0 then (s.setLinkState n 1).phaseLost n else s

/-- START without its report, or with it when it found no entry (05 R144). -/
def State.startPll (s : State) (p : Nat) : State :=
  let t := s.pllStart p
  if s.pllState p ≠ 5 ∧ t.pllState p = 5 then t.record (0x014 + p) 1 0x0C
  else if s.pllState p = 5 ∧ t.pllState p = 5 ∧ ¬ s.fenced (0x014 + p) then t.record (0x014 + p) 1 0x0C
  else t

/-- Domains B to D after SLEEP (R431): one that PLL A carries resumes, a privileged output that stays gated is on bypass (05 R149). -/
def State.wakeDomain (s : State) (d : Nat) : State :=
  if ¬ s.domGated d then s
  else if s.domSrc d = 0 ∧ s.pllState 0 = 3 then s.giveSource d 0
  else s.raise (R.OUT_STATUS_BYPASS (6 * d))

/-- The heater has a use in the present state (R421, 16 R446). -/
def State.heaterWanted (s : State) : Bool :=
  (decide (s.pwrState < 2) || (s.pwrState == 2 && s.flag R.PWR_CFG_OVEN_SLEEP)) && !s.fenced 0x011

/-- What R423 stopped starts again (R431). -/
def State.wakeSleep (s : State) : State :=
  let l := s.pwr.plls
  let s := { s with pwr := { s.pwr with plls := [] } }
  let s := [1, 2, 3].foldl (fun s d => s.wakeDomain d) s
  let s := l.foldl (fun s p => s.startPll p) s
  let s := (List.range 32).foldl (fun s n => s.wakeLink n) s
  if s.pwr.ovenLow || s.fenced 0x011 then s else s.heaterOn

/-- The part returns to RUN from IDLE or SLEEP (R430, R431). -/
def State.wakeRun (s : State) (srcs : List Nat) (replayed : Bool) : State :=
  let st := s.pwrState
  let s := (s.lastWake srcs replayed false).raise R.PWR_EVENTS_WAKE
  let s := if srcs.contains 2 then { s with pwr := { s.pwr with alarm := false } } else s
  let s := s.resumeRun
  if st = 2 then s.wakeSleep else s

/-- A wake from DEEP SLEEP or OFF: the part waits for its supplies and then begins RECALL (R424, R432). -/
def State.wakeDeep (s : State) (srcs : List Nat) (replayed : Bool) : State :=
  let s := (s.lastWake srcs replayed false).raise R.PWR_EVENTS_WAKE
  { s with pwr := { s.pwr with phase := 1, alarm := false } }

/-- The entry is abandoned at the next abort point: the part goes on as before (R429). -/
def State.abortEntry (s : State) (src : Nat) : State :=
  let s := (s.lastWake [src] false true).raise R.PWR_EVENTS_ABORTED
  let s := (s.setFld R.PWR_RESULT_RESULT 3).clr R.PWR_STATUS_ENTERING
  { s with pwr := { s.pwr with drained := decide (s.pwrState ≠ 0), latched := [] } }

/-- A wake event (R429, R430). While ENTERING it is latched or abandons the entry, by ENTRY_POLICY. -/
def State.wakeEvent (s : State) (src : Nat) : State :=
  if s.pwr.resetLow ∨ s.pwr.phase ≠ 0 then s
  else if s.entering then
    if ¬ wakeCounts src s.pwr.dst then s
    else if s.flag R.PWR_CFG_ENTRY_POLICY then s.abortEntry src
    else if s.pwr.latched.contains src then s
    else { s with pwr := { s.pwr with latched := src :: s.pwr.latched } }
  else if ¬ wakeCounts src s.pwrState then s
  else if s.pwrState ≤ 2 then s.wakeRun [src] false
  else s.wakeDeep [src] false

/-- Wakes latched during an entry act at once when it has completed (R429). -/
def State.replayWakes (s : State) : State :=
  let l := s.pwr.latched.filter (fun k => wakeCounts k s.pwrState)
  let s := { s with pwr := { s.pwr with latched := [] } }
  if l.isEmpty then s
  else if s.pwrState ≤ 2 then s.wakeRun l true
  else s.wakeDeep l true

/-- The wake that a MAJOR or GRAVE report asked for (R430). -/
def State.settleWake (s : State) : State :=
  if s.pwr.wakeDue then ({ s with pwr := { s.pwr with wakeDue := false } }).wakeEvent 5 else s

/-- TB_TICK (02 R45). A wake that a report inside a control-plane reaction asked for takes place by the next tick (log 15). -/
def execTbTick (n : Nat) (s : State) : Out := s.live (s.settleWake.ticks n)

end Sys2Proof.Machine
end

