-- ==== Sys2Proof/Machine/Faults.lean ====
section
/-! DEFINITION. Machine/Faults.lean: the fault collector (16): reports with their promotion and fences, and clearing. -/
namespace Sys2Proof.Machine

/-! ### Sources (R443) -/

/-- The sources of the timescale integrity group (R518). -/
def isTi (src : Nat) : Bool := decide (src < 0x010)

/-- A MAJOR of this source fences nothing: TB, SEAM_HO, PWR and FCOL (R443, R518). -/
def fencesNothing (src : Nat) : Bool := src == 0x000 || src == 0x003 || src == 0x01C || src == 0x01E

/-- The severe class of a source (R443); where the table gives none, the highest class among its events (DEDUCED, log 16). -/
def severeClass (src : Nat) : Nat :=
  if src = 0x003 then 2
  else if isTi src ∨ src = 0x019 ∨ src = 0x01D then 3 else 2

/-- The events that feed the promotion counter (R443). -/
def counted (src cls cause : Nat) : Bool :=
  if src = 0x001 ∨ src = 0x002 ∨ src = 0x004 ∨ (0x008 ≤ src ∧ src ≤ 0x00F) ∨ src = 0x019 ∨ src = 0x01D then cls == 2
  else if 0x014 ≤ src ∧ src ≤ 0x017 then cls == 1 && cause == 0x0B
  else if src = 0x01A then cls == 1 && cause == 0x06
  else if 0x020 ≤ src ∧ src ≤ 0x03F then cls == 1 && cause == 0x0F
  else if 0x080 ≤ src ∧ src ≤ 0x09C then cls == 1 && cause == 0x06
  else if 0x100 ≤ src ∧ src ≤ 0x16B then cls == 1 && cause == 0x17
  else false

/-! ### Fences (R446 to R448) -/

/-- The qualifier's fence: every candidate is ABSENT to the seam unit (R446). -/
def State.fenceQual (s : State) : State :=
  let s := match s.seam.run with
    | some r => s.candFailed r.dst
    | none => s
  (if s.selected < 48 then s.candFailed s.selected else s).reform

/-- A counted MINOR that a source raises as its own fence takes effect (R444): a promotion has nothing more to fence. -/
def State.minorUnderFence (s : State) (src cause : Nat) : State :=
  let s := (s.record src 1 cause).bump (R.FLT_SRC_WCOUNT src)
  let n := s.fld (R.FLT_SRC_CFG_N src)
  if n ≠ 0 ∧ s.fld (R.FLT_SRC_CFG_WIN src) ≠ 0 ∧ n ≤ s.fld (R.FLT_SRC_WCOUNT src) then
    ((s.clr (R.FLT_SRC_WCOUNT src)).raise R.FLT_EVENTS_PROMOTED).record src (severeClass src) 0x02
  else s

/-- The effect of a unit fence at the moment it takes effect (R446). Where none is listed the unit reads its fence itself. -/
def State.fenceUnit (s : State) (src : Nat) : State :=
  if src = 0x002 then s.dropAuto.abortSlew
  else if src = 0x004 then s.tbBypass
  else if 0x008 ≤ src ∧ src ≤ 0x00F then s.ppsRunning (src - 0x008)
  else if src = 0x010 then s.fenceQual
  else if src = 0x011 then s.heaterOff
  else if 0x014 ≤ src ∧ src ≤ 0x017 then s.pllHalt (src - 0x014)
  else if src = 0x01A then { s with stores := { s.stores with bufs := [] } }.setFld R.NV_STATUS_OPEN 0
  else if 0x020 ≤ src ∧ src ≤ 0x05F then s.linkFence (src % 0x20)
  else if 0x060 ≤ src ∧ src ≤ 0x077 then s.fenceEngine (src % 8)
  else if 0x080 ≤ src ∧ src ≤ 0x09C then s.fenceBank (src - 0x080)
  else if 0x100 ≤ src ∧ src ≤ 0x167 then
    (if (s.cal (src - 0x100)).isSome then (s.fenceCore (src - 0x100)).minorUnderFence src 0x17 else s.fenceCore (src - 0x100))
  else if 0x168 ≤ src ∧ src ≤ 0x16B then s.fenceSpare (src - 0x168)
  else s

/-- The unit that a source names is fenced; a unit already fenced is fenced no more (R446, R452). -/
def State.fenceSource (s : State) (src : Nat) : State :=
  if fencesNothing src then s
  else if s.fenced src then s
  else (s.fenceOn src).fenceUnit src

/-- The time base declares hub time unknown for as long as the TI fence is in effect (R447). -/
def State.tiUnknown (s : State) : State := (s.raise R.TB_STATUS_TIME_UNCERTAIN).setUncBound uncUnknown

/-- The TI group fence and its latch (R447, R451). -/
def State.fenceTi (s : State) (src : Nat) : State :=
  let s := (s.raise (R.FLT_SRC_LATCHED src)).fenceOn src
  if s.tiFenced then s
  else
    let s := ((s.raise R.FLT_STATUS_TI_FENCED).faultLines).tiUnknown
    let s := s.dropAuto.abortSlew
    (List.range 8).foldl (fun s k => s.ppsRunning k) s

/-- The memory group fence (R448). -/
def State.fenceMemory (s : State) : State :=
  let s := { s with bank := { s.bank with groupFence := true } }
  (List.range 29).foldl (fun s b => s.fenceBank b) s

/-- The group that a GRAVE of the source fences (R443, R447, R448). -/
def State.fenceGroup (s : State) (src : Nat) : State :=
  if isTi src then s.fenceTi src
  else if src = 0x019 then s.fenceMemory
  else if src = 0x01D then s.fenceAllEngines
  else s

/-! ### Reports (R440 to R449) -/

/-- The effects of a report's class (R440). -/
def State.classEffects (s : State) (src cls cause : Nat) : State :=
  let s := s.record src cls cause
  let s := if 2 ≤ cls then s.fenceSource src else s
  if cls = 3 then s.fenceGroup src else s

/-- A counted event (R444): the severe class with cause PROMOTED when the count is complete. -/
def State.countEvent (s : State) (src : Nat) : State :=
  let s := s.bump (R.FLT_SRC_WCOUNT src)
  let n := s.fld (R.FLT_SRC_CFG_N src)
  if n ≠ 0 ∧ s.fld (R.FLT_SRC_CFG_WIN src) ≠ 0 ∧ n ≤ s.fld (R.FLT_SRC_WCOUNT src) then
    ((s.clr (R.FLT_SRC_WCOUNT src)).raise R.FLT_EVENTS_PROMOTED).classEffects src (severeClass src) 0x02
  else s

/-- A report of a source (R440 to R449); in DEEP SLEEP and OFF no source reports (R453). -/
def State.report (s : State) (src cls cause : Nat) : State :=
  if 3 ≤ s.pwrState ∨ ¬ validSource src then s
  else
    let s := s.classEffects src cls cause
    let s := if counted src cls cause then s.countEvent src else s
    s.settleWake

/-- FAULT_REPORT (R440). -/
def execFaultReport (src : Fin 512) (cls : Fin 4) (cause : BitVec 8) (s : State) : Out :=
  s.awake (s.report src cls cause.toNat)

/-- A reporting pair that is invalid for more than 1 us: the severe class with cause BROKEN_WIRE (R441). -/
def State.brokenWire (s : State) (src : Nat) : State :=
  if 3 ≤ s.pwrState ∨ ¬ validSource src then s
  else (s.collectorInt R.FLT_EVENTS_BROKEN_WIRE).report src (severeClass src) 0x01

/-- BROKEN_WIRE (R441): the code that the pair shows, 0b00 or 0b11 when it is invalid. 0b01 is a healthy pair again. -/
def execBrokenWire (src : Fin 512) (rail : Fin 4) (s : State) : Out :=
  s.awake (if ¬ validSource src then s
    else
      let s := s.setFld (R.FLT_SRC_RAIL src) rail
      if rail = 0 ∨ rail = 3 then s.brokenWire src else s)

/-- The promotion window of a source expires (R444). Its length in ledger periods is not checked (log 78). -/
def execPromoWindowExpire (src : Fin 512) (s : State) : Out := s.awake (s.clr (R.FLT_SRC_WCOUNT src))

/-! ### Clearing (R446, R450, R516) -/

/-- A candidate re-enters through OBSERVING (R446). -/
def State.reenter (s : State) (n : Nat) : State :=
  let st := s.fld (R.QUAL_CAND_STATE_STATE n)
  if st = 0 then s
  else if st = 1 then s.setCand n ((s.cand n).observe s.tb.elapsed true s.uncertain)
  else s.setCandState n 1 8

/-- A TSERVO fence is lifted (R516). -/
def State.servoResume (s : State) : State :=
  if s.tsState = 3 ∨ s.tsState = 4 then s.servoHold s.modelValue else s.servoRelease

/-- A seam unit fence is lifted: a selected candidate that failed meanwhile is left (R103). -/
def State.seamResume (s : State) : State :=
  let s := if s.selected < 48 ∧ (s.candState s.selected = 0 ∨ s.candState s.selected = 4) then s.candFailed s.selected else s
  s.reform

/-- What lifting a fence gives back (R446, R448). -/
def State.unfenceUnit (s : State) (src : Nat) : State :=
  if src = 0x001 then s.servoResume
  else if src = 0x002 then s.seamResume
  else if src = 0x004 then (if s.tb.running ∧ ¬ s.domGated 0 then s.tbLive else s)
  else if 0x008 ≤ src ∧ src ≤ 0x00F then s.ppsRunning (src - 0x008)
  else if src = 0x010 then (List.range 48).foldl (fun s n => s.reenter n) s
  else if src = 0x011 then (if s.pwr.ovenLow ∨ ¬ s.heaterWanted then s else s.heaterOn)
  else if src = 0x019 then
    let s := { s with bank := { s.bank with groupFence := false } }
    (List.range 29).foldl (fun s b => s.showBankFence b) s
  else if src = 0x01D then { s with eng := { s.eng with groupFence := false } }
  else if 0x080 ≤ src ∧ src ≤ 0x09C then s.showBankFence (src - 0x080)
  else if 0x100 ≤ src ∧ src ≤ 0x167 then s.clr (R.TDC_CH_STATUS_FENCED (src - 0x100))
  else if 0x168 ≤ src ∧ src ≤ 0x16B then s.showSpares
  else s

/-- The sources whose clearing write is another one: engines and link ports (R450). -/
def unitProc (src : Nat) : Bool := decide (0x020 ≤ src) && decide (src ≤ 0x077)

/-- The result of a clearing write (R450). -/
def State.clearCode (s : State) (src : Nat) : Nat :=
  if ¬ validSource src then 5
  else if isTi src ∧ s.tiFenced then 4
  else if unitProc src then 3
  else if ¬ s.fenced src then 6
  else if s.fld (R.FLT_SRC_RAIL src) ≠ 1 then 2
  else 1

/-- A clearing write with GO (R450). -/
def State.fltClear (s : State) (src : Nat) : State :=
  let code := s.clearCode src
  let s := (s.setFld R.FLT_CLEAR_RESULT_RESULT code).next R.FLT_CLEAR_RESULT_SEQ
  if code = 1 then (s.fenceOff src).unfenceUnit src else s

def execFltClear (src : Fin 512) (s : State) : Out := s.awake (s.fltClear src)

/-! ### Log, capture and injection (R445, R454) -/

/-- Log entry j takes what entry j + n holds. -/
def State.shiftLog (s : State) (n j : Nat) : State :=
  let m := j + n
  let get (f : Nat → Fld) : Nat := if m < 16 then s.fld (f m) else 0
  let s' := ((s.setFld (R.FLT_LOG_0_SRC j) (get R.FLT_LOG_0_SRC)).setFld (R.FLT_LOG_0_CLASS j) (get R.FLT_LOG_0_CLASS))
  let s' := (s'.setFld (R.FLT_LOG_0_CAUSE j) (get R.FLT_LOG_0_CAUSE)).setFld (R.FLT_LOG_0_VALID j) (get R.FLT_LOG_0_VALID)
  let s' := (s'.setFld (R.FLT_LOG_1_TIME j) (get R.FLT_LOG_1_TIME)).setFld (R.FLT_LOG_2_TIME j) (get R.FLT_LOG_2_TIME)
  s'.setFld (R.FLT_LOG_3_TIME j) (get R.FLT_LOG_3_TIME)

/-- A write of n to FLT_LOG_ACK removes the n oldest entries; above COUNT it removes all (R445, R455). -/
def State.logAck (s : State) (n : Nat) : State :=
  let c := s.fld R.FLT_LOG_STATUS_COUNT
  let k := min n c
  if k = 0 then s
  else ((List.range 16).foldl (fun s j => s.shiftLog k j) s).setFld R.FLT_LOG_STATUS_COUNT (c - k)

def execFltLogAck (n : Fin 32) (s : State) : Out := s.awake (s.logAck n)

def execFltFirstAck (s : State) : Out := s.awake (s.clr R.FLT_FIRST_0_VALID)

/-- A write of GO to FLT_INJECT (R454): in FACTORY mode the source reports, or its wire is broken for 2 us. -/
def State.fltInject (s : State) (src cls : Nat) (broken : Bool) : State :=
  if s.fld R.SYS_MODE_MODE ≠ 5 then s.raise R.FLT_EVENTS_INJ_REJ
  else if broken then s.brokenWire src
  else s.report src cls 0x20

def execFltInject (src : Fin 512) (cls : Fin 4) (broken : Bool) (s : State) : Out := s.awake (s.fltInject src cls broken)

end Sys2Proof.Machine
end

