-- ==== Sys2Proof/Machine/Access.lean ====
section
/-! DEFINITION. Machine/Access.lean: accesses to the banks through their gates, with the outcomes of 12 R346 and 10 R301, and the
copies that the ring manager makes (12 R360, R361). An error acknowledge of a gate and of an uncorrectable group look
alike to the requester (12 R346, 01 R37). -/
namespace Sys2Proof.Machine

/-- The primary port of a bank of an engine is that of ENG_(b mod 8) (12 R341, R343). -/
def primaryOf (e b : Nat) : Bool := decide (b < 24) && b % 8 == e

/-- A read or a narrow write met an uncorrectable group (12 R346). -/
def State.groupUe (s : State) (b a : Nat) : State :=
  let s := s.bump (R.BNK_UE_COUNT b)
  let s := if s.flag (R.BNK_EVENTS_UE_SET b) then s else s.setFld (R.BNK_UE_ADDR_OFFSET b) ((a - bankBase b) / 8 * 8)
  (s.raise (R.BNK_EVENTS_UE_SET b)).report (0x080 + b) 1 0x06

/-- The 8-byte group of an address is uncorrectable. -/
def State.badGroup (s : State) (a : Nat) : Bool := s.ecc (a / 8) != 0

/-- A read of `n` bytes within one group of bank b: the state, the data, and whether it met an error acknowledge. -/
def State.bankRead (s : State) (b a n : Nat) : State × Nat × Bool :=
  if ¬ s.bankOpen b then (s.bankOff, 0, true)
  else if s.badGroup a then (s.groupUe b a, 0, true)
  else (s, s.bytes a n, false)

/-- A write of `n` bytes within one group of bank b; a whole group takes fresh check bits (12 R346). `prim` says that it
came through the primary port. -/
def State.bankWrite (s : State) (b a n v : Nat) (prim : Bool) : State × Bool :=
  if ¬ s.bankOpen b then (s.bankOff, true)
  else if s.badGroup a ∧ n ≠ 8 then (s.groupUe b a, true)
  else
    let s := if n = 8 then s.setEcc (a / 8) 0 else s
    let s := s.setBytes a n v
    ({ s with bank := { s.bank with lastPrim := if prim then some (a, n) else s.bank.lastPrim } }, false)

/-- A range of bytes cut at the borders of the 8-byte groups, with at most `f` pieces. -/
def pieces : Nat → Nat → Nat → List (Nat × Nat)
  | 0, _, _ => []
  | f + 1, a, n => if n = 0 then [] else (a, min n (8 - a % 8)) :: pieces f (a + min n (8 - a % 8)) (n - min n (8 - a % 8))

/-- A write into IB_n is dropped and counted unless ENG_n is PARKED or OFF (10 R301). -/
def State.ibAllows (s : State) (n : Nat) : Bool := s.engState n == 0 || s.engState n == 4

def State.ibDrop (s : State) (n : Nat) : State := (s.bump (R.ENG_IB_WDROP_COUNT n)).raise (R.ENG_EVENTS_IB_WDROP_SET n)

/-- A write to the DIR window is dropped, counted and reported (09 R255). -/
def State.dirDrop (s : State) : State := ((s.bump R.EPD_DIR_WDROP_COUNT).raise R.EPD_DIR_EVENTS_WDROP_SET).note 0x018

/-- A write from outside the bank's own blocks: IB under 10 R301, DIR under 09 R255, any other bank as it comes. -/
def State.bankStore (s : State) (b a n v : Nat) (prim : Bool) : State × Bool :=
  if ¬ s.bankOpen b then (s.bankOff, true)
  else if b < 8 ∧ ¬ s.ibAllows b then (s.ibDrop b, false)
  else if b = 28 then (s.dirDrop, false)
  else s.bankWrite b a n v prim

/-- A read of `n` bytes of one bank, group by group in ascending order: a group that fails reads zero. Each group is an access of its own,
and each that meets a closed gate counts (log 77). -/
def State.readRange (s : State) (b a n : Nat) : State × Nat × Bool :=
  (pieces (n + 1) a n).foldl (fun acc p =>
    let (s, w, e') := acc.1.bankRead b p.1 p.2
    (s, acc.2.1 + 256 ^ (p.1 - a) * w, acc.2.2 || e')) (s, 0, false)

/-- A write of `n` bytes of one bank, group by group. -/
def State.writeRange (s : State) (b a n v : Nat) (prim : Bool) : State × Bool :=
  (pieces (n + 1) a n).foldl (fun acc p =>
    let (s, e') := acc.1.bankStore b p.1 p.2 (v / 256 ^ (p.1 - a)) prim
    (s, acc.2 || e')) (s, false)

/-- The bank of an address that lies in one; used only for such addresses. -/
def bankAt (a : Nat) : Nat := (bankOf a).getD 0

/-- The ring manager's copy of `n` bytes, whole groups: an uncorrectable group is replaced by zero, and the flag says that
one was met (12 R361). The banks of both ranges are open. The ring manager is the primary master of RB_1 (12 R341). -/
def State.copyGroups (s : State) (sa da n : Nat) : State × Bool :=
  (List.range (n / 8)).foldl (fun acc k =>
    let (s, v, e) := acc.1.bankRead (bankAt (sa + 8 * k)) (sa + 8 * k) 8
    let b := bankAt (da + 8 * k)
    let (s, e') := s.bankWrite b (da + 8 * k) 8 v (b == 25)
    (s, acc.2 || e || e')) (s, false)

/-- BANK_CE_WRITEBACK (12 R346): the group at an address was found with a single-bit error and is written back, or, with
`ue`, was found uncorrectable by a read whose data nobody takes. -/
def State.ceWriteback (s : State) (b a : Nat) (ue : Bool) : State :=
  if ue then (s.setEcc (a / 8) 1).groupUe b a
  else
    let s := s.bump (R.BNK_CE_COUNT b)
    let s := if s.flag (R.BNK_EVENTS_CE_SET b) then s else s.note (0x080 + b)
    s.raise (R.BNK_EVENTS_CE_SET b)

def execBankCeWriteback (addr : BitVec 32) (ue : Bool) (s : State) : Out :=
  s.live (match bankOf addr.toNat with
    | some b => if s.bankOpen b then s.ceWriteback b addr.toNat ue else s
    | none => s)

/-- The bytes of a primary write that lie in a range. -/
def overlaps (a n a' n' : Nat) : Bool := decide (a < a' + n') && decide (a' < a + n)

/-- A secondary write of one byte in the slot of the last primary write: overlapping bytes keep the primary's data
(12 R345). -/
def State.hostByte (s : State) (keep : Option (Nat × Nat)) (b a v : Nat) : State × Bool :=
  match keep with
  | some (a', n') => if overlaps a 1 a' n' then (s, false) else s.bankStore b a 1 v false
  | none => s.bankStore b a 1 v false

/-- One group of a host write (12 R344, R345); the host is the primary master of HB, and reaches every other bank through its secondary
port. `same` says that it arrived in the slot of the last primary write of the bank. -/
def State.hostGroup (s : State) (b a n v : Nat) (same : Bool) : State × Bool :=
  match (if same ∧ b ≠ 27 then s.bank.lastPrim else none) with
  | none => s.bankStore b a n v (b == 27)
  | some (a', n') =>
    if bankOf a' ≠ some b then s.bankStore b a n v false
    else if a' / 8 = a / 8 then
      if overlaps a n a' n' then
        let s := ((s.bump (R.BNK_COLLIDE_COUNT b)).raise (R.BNK_EVENTS_COLLIDE_SET b)).note (0x080 + b)
        (List.range n).foldl (fun acc k =>
          let (s, e) := acc.1.hostByte (some (a', n')) b (a + k) (v / 256 ^ k % 256)
          (s, acc.2 || e)) (s, false)
      else s.bankStore b a n v false
    else if a' / 8 % 8 = a / 8 % 8 then (s.bump (R.BNK_STALL_COUNT b)).bankStore b a n v false
    else s.bankStore b a n v false

end Sys2Proof.Machine
end

