-- ==== Sys2Proof/Machine/Banks.lean ====
section
/-! DEFINITION. Machine/Banks.lean: bank power, rinse and darn (12 R348 to R357). -/
namespace Sys2Proof.Machine

/-! ### Power (R348, R349, R357) -/

def State.rejBank (s : State) (b : Nat) : State := s.raise (R.BNK_EVENTS_CFG_REJ b)

/-- A rinse of the bank begins (R349). -/
def State.startRinse (s : State) (b : Nat) : State := s.setBusy b 1

/-- The bank leaves ON: a darn ends ABORTED, a rinse is cut short (R357). -/
def State.leaveOn (s : State) (b : Nat) : State :=
  let s := s.abortDarn b
  if s.busyKind b = 0 then s else (s.loseRegion b).setBusy b 0

/-- The bank takes a power state (R348, R349). -/
def State.bankPower (s : State) (b p : Nat) : State :=
  let now := s.fld (R.BNK_STATUS_PWR_NOW b)
  if p = now then s
  else
    let s := if now = 0 then s.leaveOn b else s
    let s := if p = 2 then s.loseRegion b else s
    let s := s.setFld (R.BNK_STATUS_PWR_NOW b) p
    if p = 0 ∧ now = 2 ∧ s.flag (R.BNK_CFG_RINSE b) then s.startRinse b else s

/-- A requested destructive darn of the bank runs. -/
def State.darnsHard (s : State) (b : Nat) : Bool := s.bank.darn == some (b, true)

/-- A write of BNK_CFG.PWR is refused (R348, R357). -/
def State.refusesPwr (s : State) (b p : Nat) : Bool :=
  p != s.fld (R.BNK_CFG_PWR b) && (p == 3 || (p != 0 && (!s.bankQuiet b || s.darnsHard b)))

/-- A write of BNK_CFG (R348, R357, R372); a refused one changes no field of the register. -/
def State.writeBankCfg (s : State) (b v : Nat) : State :=
  let p := v % 4
  if s.refusesPwr b p then s.rejBank b
  else
    let s := (s.setFld (R.BNK_CFG_RINSE b) (v / 4)).setFld (R.BNK_CFG_BOOT_DARN b) (v / 8)
    if p = s.fld (R.BNK_CFG_PWR b) then s else (s.setFld (R.BNK_CFG_PWR b) p).bankPower b p

/-- RINSE_END (R349); a boot darn of the bank starts after it (13 R382 step 5). -/
def State.rinseEnd (s : State) (b : Nat) : State :=
  if s.busyKind b = 1 then
    ((s.zeroRegion b).setBusy b (if s.pwr.phase = 2 ∧ s.flag (R.BNK_CFG_BOOT_DARN b) then 3 else 0)).raise (R.BNK_EVENTS_RINSE_END b)
  else s

def execRinseEnd (b : Fin 29) (s : State) : Out := s.awake (s.rinseEnd b)

/-! ### Darn (R351 to R356) -/

/-- The result of a GO (R355). -/
def State.darnCode (s : State) (b : Nat) (hard : Bool) : Nat :=
  if 28 < b ∨ s.fld (R.BNK_STATUS_PWR_NOW b) ≠ 0 ∨ s.bankFenced b then 7
  else if s.bank.darn.isSome ∨ s.flag (R.BNK_STATUS_BUSY b) then 5
  else if hard ∧ ¬ s.bankQuiet b then 6
  else 1

/-- A GO (R355). -/
def State.darnGo (s : State) (b : Nat) (hard : Bool) : State :=
  let code := s.darnCode b hard
  let s := ((s.setFld R.BNK_DARN_STATUS_RESULT code).setFld R.BNK_DARN_STATUS_BANK b).next R.BNK_DARN_STATUS_SEQ
  if code = 1 then
    let s := ({ s with bank := { s.bank with darn := some (b, hard), darnRows := 0, darnBad := false } }).setFld R.BNK_DARN_PROG_GROUPS 0
    if hard then s.setBusy b 2 else s.raise (R.BNK_STATUS_DARN b)
  else s

def execDarnPreserving (b : Fin 32) (s : State) : Out := s.live (s.darnGo b false)
def execDarnDestructive (b : Fin 32) (s : State) : Out := s.live (s.darnGo b true)

/-- The valid patch entries of a bank (R372). -/
def State.showPatched (s : State) (b : Nat) : State :=
  s.setFld (R.BNK_STATUS_PATCHED b) ((List.range 16).filter (fun j => s.flag (R.BNK_PATCH_V b j))).length

/-- A patch entry (R354). -/
def State.setPatch (s : State) (b j row origin : Nat) : State :=
  (((s.setFld (R.BNK_PATCH_ROW b j) row).setFld (R.BNK_PATCH_ORIGIN b j) origin).raise (R.BNK_PATCH_V b j)).showPatched b

def State.freePatch (s : State) (b : Nat) : Option Nat := (List.range 16).find? (fun j => !s.flag (R.BNK_PATCH_V b j))

/-- The entry that patches a row. -/
def State.patchOf (s : State) (b row : Nat) : Option Nat :=
  (List.range 16).find? (fun j => s.flag (R.BNK_PATCH_V b j) && s.fld (R.BNK_PATCH_ROW b j) == row)

/-- A failing row is replaced by the lowest free patch row (R353); `good` says that the patch row passes its own test.
Whether it could be is the answer. -/
def State.patchRow (s : State) (b row : Nat) (good : Bool) : State × Bool :=
  match s.freePatch b with
  | some j =>
    if ¬ good then (s, false)
    else
      let s := match s.patchOf b row with
        | some k => s.clr (R.BNK_PATCH_V b k)
        | none => s
      (s.setPatch b j row 2, true)
  | none => (s, false)

/-- The failing rows that a darn found, each with whether its patch row passes. -/
def State.patchRows (s : State) (b : Nat) (rows : List (Nat × Bool)) : State × Bool :=
  rows.foldl (fun acc r =>
    let (s, ok) := acc.1.patchRow b r.1 r.2
    (s, acc.2 && ok)) (s, true)

/-- A row that could not be patched (R353). -/
def State.noPatch (s : State) (b : Nat) : State := (s.raise (R.BNK_EVENTS_NO_PATCH b)).report (0x080 + b) 1 0x09

/-- The code of a completed darn (R355). -/
def darnResult (rows : Nat) (bad : Bool) : Nat := if rows = 0 then 2 else if bad then 4 else 3

/-- A requested darn of the bank runs. -/
def State.darnRuns (s : State) (b : Nat) : Bool := s.bank.darn.map (fun x => x.1) == some b

/-- The darn of the bank has found failing rows, and patched those it could (R353); the requested darn counts them. -/
def State.darnFound (s : State) (b : Nat) (rows : List (Nat × Bool)) : State :=
  let (s, ok) := s.patchRows b rows
  let s := if ok then s else s.noPatch b
  if s.darnRuns b then
    { s with bank := { s.bank with darnRows := s.bank.darnRows + rows.length, darnBad := s.bank.darnBad || !ok } }
  else s

/-- The darn of the bank completes (R351, R355, R356). -/
def State.darnDone (s : State) (b : Nat) : State :=
  let s := if s.darnsHard b ∨ s.busyKind b = 3 then s.zeroRegion b else s
  if s.darnRuns b then
    (s.darnFinish b (darnResult s.bank.darnRows s.bank.darnBad) s.bank.darnRows).setFld R.BNK_DARN_PROG_GROUPS (bankSize b / 8)
  else (s.setBusy b 0).raise (R.BNK_EVENTS_DARN_END b)

/-- DARN_END (R351 to R356): a requested darn of the bank, or its boot darn, reports the failing rows found since the last report. With
`groups` the darn goes on, and has completed so many groups; without, it completes. -/
def State.darnEnd (s : State) (b : Nat) (rows : List (Nat × Bool)) (groups : Option Nat) : State :=
  if ¬ s.darnRuns b ∧ s.busyKind b ≠ 3 then s
  else
    let s := s.darnFound b rows
    match groups with
    | some g => if s.darnRuns b then s.setFld R.BNK_DARN_PROG_GROUPS (min g (bankSize b / 8)) else s
    | none => s.darnDone b

def execDarnEnd (b : Fin 29) (rows : List (Nat × Bool)) (groups : Option (BitVec 20)) (s : State) : Out :=
  s.awake (s.darnEnd b rows (groups.map (fun g => g.toNat)))

end Sys2Proof.Machine
end

