-- ==== Sys2Proof/Machine/Control.lean ====
section
/-! DEFINITION. Machine/Control.lean: the control-plane rows that report through the fault collector (04 R112, R126, 05 R144 to
R149). -/
namespace Sys2Proof.Machine

/-- TS_LOCK (04 R112). -/
def execTsLock (s : State) : Out := s.live s.lockNow

/-- PRESS_STEP_APPLY (04 R126). -/
def execPressStepApply (s : State) : Out := s.live s.pressStepApply

/-- PLL_START (05 R144). -/
def execPllStart (p : Fin 4) (s : State) : Out := s.live (s.startPll p)

/-- PLL_STOP (05 R146): where domain A stops, the link-clock sources report their MAJORs (07 R222), which wake the part. -/
def execPllStop (p : Fin 4) (s : State) : Out := s.live (s.pllStop p).settleWake

/-- A lock-detector window ends (05 R147); a loss of lock reports PLL_UNLOCK (05 R149 step 5). -/
def State.windowEnd (s : State) (p count : Nat) : State :=
  let r := s.ldWindow p count
  if r.2 then r.1.report (0x014 + p) 1 0x0B else r.1

def execLdWindowEnd (p : Fin 4) (count : Nat) (s : State) : Out := s.live (s.windowEnd p count).settleWake

end Sys2Proof.Machine
end

