-- ==== Sys2Proof/Machine/Commands.lean ====
section
/-! DEFINITION. Machine/Commands.lean: commands given through registers that more than one requester can write: roles and engines
(10 R293, R300), credits (10 R298, R299, 17 R458), result slots (17 R473 to R476), modes (14 R404, R408) and power states
(15 R427). -/
namespace Sys2Proof.Machine

/-! ### Lanes and credits of the control mailbox (10 R298, 17 R458). Lane 8 is the host's. -/

def State.lane (s : State) (l : Nat) : List LaneOp := Tab.get (fun _ => []) s.mb.lanes l
def State.setLane (s : State) (l : Nat) (x : List LaneOp) : State :=
  { s with mb := { s.mb with lanes := Tab.set (fun _ => []) s.mb.lanes l x } }

/-- RATE and BURST of a lane; 0 acts as 1. -/
def State.laneRate (s : State) (l : Nat) : Nat := max 1 (if l = 8 then s.fld R.HOST_MB_RATE_RATE else s.fld (R.ENG_MB_RATE_RATE l))
def State.laneBurst (s : State) (l : Nat) : Nat :=
  max 1 (if l = 8 then s.fld R.HOST_MB_RATE_BURST else s.fld (R.ENG_MB_RATE_BURST l))

/-- Credits of a lane; unlisted, the full factory BURST. -/
def creditDefault (l : Nat) : Nat := if l = 8 then 64 else 32
def State.credit (s : State) (l : Nat) : Nat := min (s.laneBurst l) (Tab.get creditDefault s.mb.credit l)
def State.setCredit (s : State) (l v : Nat) : State :=
  { s with mb := { s.mb with credit := Tab.set creditDefault s.mb.credit l v } }

/-- Credits refill at RATE per ms, up to BURST (R298); time is elapsed time, and the part of a credit is kept. -/
def State.refill (s : State) (l : Nat) : State :=
  let at_ := Tab.get (fun _ => 0) s.mb.refillAt l
  let x := Tab.get (fun _ => 0) s.mb.refillRem l + (s.tb.elapsed - at_) * s.laneRate l
  let s := s.setCredit l (min (s.laneBurst l) (s.credit l + x / fuPerMs))
  { s with mb := { s.mb with
    refillAt := Tab.set (fun _ => 0) s.mb.refillAt l s.tb.elapsed
    refillRem := Tab.set (fun _ => 0) s.mb.refillRem l (x % fuPerMs) } }

/-- MB_CREDIT_REFILL (R298, 17 R458). -/
def execMbCreditRefill (l : Fin 9) (s : State) : Out := s.awake (s.refill l)

/-- The sum of the nine limits with `v` in place of lane l's (R299). -/
def State.rateSum (s : State) (l v : Nat) : Nat :=
  (List.range 9).foldl (fun a k => a + (if k = l then max 1 v else s.laneRate k)) 0

/-- A write of ENG_MB_RATE or HOST_MB_RATE (R299, 17 R458): a RATE beyond the limit keeps the old one. -/
def State.writeMbRate (s : State) (l v : Nat) : State :=
  let rate := v % 2 ^ 16
  let burst := v / 2 ^ 16
  let s := s.refill l
  let bad := decide (20000 < s.rateSum l rate)
  if l = 8 then
    let s := if bad then s.raise R.HOST_EVENTS_CFG_REJ else s.setFld R.HOST_MB_RATE_RATE rate
    s.setFld R.HOST_MB_RATE_BURST burst
  else
    let s := if bad then s.raise R.ENGC_EVENTS_CMD_REJ else s.setFld (R.ENG_MB_RATE_RATE l) rate
    s.setFld (R.ENG_MB_RATE_BURST l) burst

/-- ENG_MB_RATE_WRITE (R299) and HOST_MB_RATE_WRITE (17 R458). -/
def execEngMbRateWrite (n : Fin 8) (v : BitVec 32) (s : State) : Out := s.live (s.writeMbRate n v.toNat)
def execHostMbRateWrite (v : BitVec 32) (s : State) : Out := s.awake (s.writeMbRate 8 v.toNat)

/-- An operation of a lane needs a credit: writes and device operations of the six blocks (R298). -/
def State.needsCredit (s : State) (l : Nat) (o : LaneOp) : Bool :=
  match o with
  | .read _ _ _ => false
  | .write _ a _ _ => isMailbox a
  | .roleFeed _ _ _ _ => true
  | .flight p t => match (s.flights l).find? (fun f => f.place == p && f.thr == t) with
    | some f => (match f.op with
      | .devr _ => false
      | _ => true)
    | none => false

/-- Operations that wait in a lane for a credit (10 R304, 17 R481). -/
def State.laneWaiting (s : State) (l : Nat) : Nat :=
  ((s.lane l).filter (fun o => s.needsCredit l o)).length - s.credit l

/-- An operation enters a lane; one that finds no credit waits and is counted (R28). -/
def State.laneAdd (s : State) (l : Nat) (o : LaneOp) : State :=
  let was := s.laneWaiting l
  let s := s.setLane l (s.lane l ++ [o])
  if was < s.laneWaiting l then s.bump (if l = 8 then R.HOST_MB_WAIT_WAITS else R.ENG_MB_WAIT_WAITS l) else s

/-! ### Roles and engines -/

/-- The code of a ROLE_CMD (R293, 16 R446). -/
def State.roleCode (s : State) (r dst : Nat) : Nat :=
  if s.rolesFenced then 3
  else if ¬ s.flag (R.ENG_ROLE_DEFINED r) then 1
  else if r < 8 then 2
  else if s.holder r = some dst then 4
  else if s.engState dst ≠ 1 then 3
  else 0

/-- A ROLE_CMD (R293). -/
def State.roleCmd (s : State) (r dst : Nat) : State :=
  let code := s.roleCode r dst
  let s := if code = 0 then s.moveRole r (.to dst) else s
  (s.setFld R.ENG_ROLE_RESULT_RESULT code).next R.ENG_ROLE_RESULT_SEQ

def execRoleCmd (r : Fin 64) (dst : Fin 8) (s : State) : Out := s.live (s.roleCmd r dst)

/-- EPOCH_ADVANCE_DEFERRED (R290). -/
def execEpochAdvanceDeferred (r : Fin 64) (s : State) : Out := s.live (s.heldEpoch r)

/-- ENG_RUN, ENG_PARK and ENG_DRAIN_DONE (R300). -/
def execEngRun (n : Fin 8) (s : State) : Out := s.live (s.runCmd n)
def execEngPark (n : Fin 8) (move : Bool) (s : State) : Out := s.live (s.parkCmd n move)
def execEngDrainDone (n : Fin 8) (s : State) : Out := s.live (s.drainDone n)

/-- A write of ENG_CMD: RUN, then PARK (log 27). -/
def State.writeEngCmd (s : State) (n v : Nat) : State :=
  let s := if v.testBit 0 then s.runCmd n else s
  if v.testBit 1 then s.parkCmd n (v.testBit 2) else s

/-- The heartbeat interval in us; values below 100 act as 100 (R304). -/
def State.hbInterval (s : State) (n : Nat) : Nat := max 100 (s.fld (R.ENG_HB_IVL_IVL n))

/-- HEARTBEAT_EXPIRE (R294): no earlier than 1 % before the interval is over. -/
def State.hbExpire (s : State) (n : Nat) : State :=
  if s.engState n = 1 ∧ s.pwrState = 0
      ∧ 99 * s.hbInterval n * fuPerUs ≤ 100 * (s.tb.elapsed - Tab.get (fun _ => 0) s.eng.beatAt n) then
    (s.raise (R.ENG_EVENTS_HB_MISS n)).report (0x060 + n) 2 0x04
  else s

def execHeartbeatExpire (n : Fin 8) (s : State) : Out := s.live (s.hbExpire n)

/-- A thread's timer as committed, in fu. -/
def State.timerAt (s : State) (n t : Nat) : Nat :=
  decodeHub (s.triple (R.ENG_THR_TIMER_0_AT n t) (R.ENG_THR_TIMER_1_AT n t) (R.ENG_THR_TIMER_2_AT n t))

/-- The commit of a timer: it arms, or a value that breaks 00 R8 sets CMD_REJ (R305). -/
def State.commitTimer (s : State) (n t v : Nat) : State :=
  let w0 := Tab.get (fun _ => 0) s.syn.stage (R.ENG_THR_TIMER_0_AT n t).addr
  let w1 := Tab.get (fun _ => 0) s.syn.stage (R.ENG_THR_TIMER_1_AT n t).addr
  let x := w0 + 2 ^ 32 * w1 + 2 ^ 64 * (v % 2 ^ 32)
  if hubLegal x then
    (s.setTriple (R.ENG_THR_TIMER_0_AT n t) (R.ENG_THR_TIMER_1_AT n t) (R.ENG_THR_TIMER_2_AT n t) x).setThread n t
      { s.thread n t with armed := true }
  else s.raise (R.ENG_EVENTS_CMD_REJ n)

/-- THREAD_TIMER (R281): hub time has reached the timer; it fires and disarms. -/
def State.threadTimer (s : State) (n t : Nat) : State :=
  if (s.thread n t).armed ∧ s.timerAt n t ≤ s.tb.now then
    (s.setThread n t { s.thread n t with armed := false }).raiseEvent n t 19
  else s

def execThreadTimer (n : Fin 8) (t : Fin 4) (s : State) : Out := s.live (s.threadTimer n t)

/-! ### Result slots (17 R473 to R476) -/

def slotStage (k w : Nat) : Fld := ⟨0x05101040 + 0x80 * k + 4 * w, 0, 32⟩

def State.rejSlot (s : State) : State := s.raise R.HOST_EVENTS_SLOT_REJ

/-- The requester (0 a host path, 1 + n engine n) may post to slot k (R473). -/
def State.maySlot (s : State) (by_ k : Nat) : Bool :=
  by_ != 0 && s.fld (R.HOST_SLOT_CFG_ROLE k) != 0x3F && s.holder (s.fld (R.HOST_SLOT_CFG_ROLE k)) == some (by_ - 1)

/-- STAGE becomes DATA, SEQ increments, READY sets and the vector is raised (R474). -/
def State.slotPublish (s : State) (k : Nat) : State :=
  let s := (List.range 8).foldl (fun s w => s.setFld (R.HOST_SLOT_DATA_DATA k w) (s.fld (slotStage k w))) s
  ((s.next (R.HOST_SLOT_CTL_SEQ k)).raise (R.HOST_SLOT_CTL_READY k)).raiseVector (s.fld (R.HOST_SLOT_CFG_VECTOR k))

/-- A POST (R473, R474). -/
def State.slotPost (s : State) (by_ k : Nat) : State :=
  if ¬ s.maySlot by_ k ∨ s.flag (R.HOST_SLOT_CTL_PENDING k) then s.rejSlot
  else if ¬ s.flag (R.HOST_SLOT_CTL_READY k) then s.slotPublish k
  else if s.flag (R.HOST_SLOT_CFG_MODE k) then (s.raise (R.HOST_SLOT_CTL_OVERRUN k)).slotPublish k
  else s.raise (R.HOST_SLOT_CTL_PENDING k)

/-- A store to STAGE (R473). -/
def State.writeStageWord (s : State) (by_ k w v : Nat) : State :=
  if ¬ s.maySlot by_ k ∨ s.flag (R.HOST_SLOT_CTL_PENDING k) then s.rejSlot else s.setFld (slotStage k w) v

/-- An acknowledgement (R476). -/
def State.slotAck (s : State) (k v : Nat) : State :=
  if s.flag (R.HOST_SLOT_CTL_READY k) ∧ v = s.fld (R.HOST_SLOT_CTL_SEQ k) then
    let s := s.clr (R.HOST_SLOT_CTL_READY k)
    if s.flag (R.HOST_SLOT_CTL_PENDING k) then (s.clr (R.HOST_SLOT_CTL_PENDING k)).slotPublish k else s
  else s.raise R.HOST_EVENTS_ACK_REJ

/-- SLOT_POST, SLOT_STAGE_WRITE and SLOT_ACK; `by_` 0 is a host path, 1 + n engine n. -/
def execSlotPost (by_ : Fin 9) (k : Fin 32) (s : State) : Out := s.awake (s.slotPost by_ k)
def execSlotStageWrite (by_ : Fin 9) (k : Fin 32) (w : Fin 8) (v : BitVec 32) (s : State) : Out :=
  s.awake (s.writeStageWord by_ k w v.toNat)
def execSlotAck (k : Fin 32) (v : BitVec 16) (s : State) : Out := s.awake (s.slotAck k v.toNat)

/-! ### Modes (14 R404, R408) -/

def freeAddr : Nat := 0x05030000
def srcAddr : Nat := 0x05010100

/-- The entry writes of a mode (R404): FREE, then SRC. -/
def State.modeWrites (s : State) (m : Nat) : List (Nat × Nat) :=
  match m with
  | 1 => [(freeAddr, 1)]
  | 2 => [(freeAddr, 0), (srcAddr, 1)]
  | 3 => [(freeAddr, 0), (srcAddr, if s.flag R.SYS_MODE_RELAY_SRC then 2 else 3)]
  | 5 => [(freeAddr, 1)]
  | _ => []

/-- An entry write as its block takes it. -/
def State.entryWrite (s : State) (w : Nat × Nat) : State :=
  if w.1 = freeAddr then s.seamGuard (fun s => s.writeFree (w.2 == 1)) else s.servoGuard (fun s => s.writeSrc w.2)

/-- PLL A is LOCKED and feeds domain A (R410). -/
def State.leaveReady (s : State) : Bool := s.pllState 0 == 3 && s.domSrc 0 == 0 && !s.domGated 0

/-- The code of a mode command (R408). -/
def State.modeCode (s : State) (dst : Nat) : Nat :=
  let m := s.fld R.SYS_MODE_MODE
  if m = 0 ∨ s.flag R.SYS_MODE_CHANGING then 5
  else if m = 5 then 6
  else if dst = 0 ∨ 5 ≤ dst then 3
  else if m = 4 ∧ ¬ s.leaveReady then 4
  else if dst = m then 2
  else 1

/-- A mode command (R408): an accepted one sends its entry writes to the host lane. -/
def State.modeCmd (s : State) (dst : Nat) : State :=
  let code := s.modeCode dst
  let s := (s.setFld R.SYS_MODE_STATUS_RESULT code).next R.SYS_MODE_STATUS_SEQ
  if code = 1 then
    let s := (s.setFld R.SYS_MODE_MODE dst).raise R.SYS_MODE_CHANGING
    (s.modeWrites dst).foldl (fun s w => s.laneAdd 8 (.write 5 w.1 0 (BitVec.ofNat 32 w.2))) s
  else s

/-- MODE_CMD (R408), by the host. -/
def execModeCmd (dst : Fin 8) (s : State) : Out := s.awake (s.modeCmd dst)

/-- Entry writes that the mailbox has not admitted. -/
def State.entryWaits (s : State) : Bool :=
  (s.lane 8).any (fun o => match o with
    | .write 5 _ _ _ => true
    | _ => false)

/-- MODE_CHANGE_DONE (R408). -/
def State.modeDone (s : State) : State :=
  if s.flag R.SYS_MODE_CHANGING ∧ ¬ s.entryWaits then (s.clr R.SYS_MODE_CHANGING).setFld R.SYS_MODE_STATUS_RESULT 2 else s

def execModeChangeDone (s : State) : Out := s.awake s.modeDone

/-! ### Power states (15 R427) -/

/-- The code of a PWR_CMD (R427). -/
def State.pwrCode (s : State) (dst : Nat) : Nat :=
  let st := s.pwrState
  if s.entering ∨ s.pwr.phase = 2 ∨ (3 ≤ dst ∧ dst ≤ 4 ∧ (s.stores.otp.isSome ∨ s.flag R.NV_STATUS_SCAN_BUSY)) then 5
  else if 5 ≤ dst ∨ (dst ≠ 0 ∧ dst ≤ st) then 4
  else if 2 ≤ dst ∧ s.domSrc 0 ≠ 0 ∧ ¬ s.domGated 0 then 6
  else if dst = 0 then 2
  else 1

/-- A PWR_CMD with GO (R427). -/
def State.pwrGo (s : State) (dst : Nat) : State :=
  if 3 ≤ s.pwrState then s
  else
    let code := s.pwrCode dst
    let s := (s.setFld R.PWR_RESULT_RESULT code).next R.PWR_RESULT_SEQ
    if code = 1 then { s.raise R.PWR_STATUS_ENTERING with pwr := { s.pwr with dst := dst, latched := [] } }
    else if code = 2 ∧ s.pwrState ≠ 0 then s.wakeEvent 4
    else s

def execPwrEnterIdle (s : State) : Out := s.awake (s.pwrGo 1)
def execPwrEnterSleep (s : State) : Out := s.awake (s.pwrGo 2)
def execPwrEnterDeepSleep (s : State) : Out := s.awake (s.pwrGo 3)
def execPwrEnterOff (s : State) : Out := s.awake (s.pwrGo 4)

/-- PWR_WAKE_HOST (R430): PWR_CMD with TO = RUN. -/
def execPwrWakeHost (s : State) : Out := s.awake (s.pwrGo 0)

end Sys2Proof.Machine
end

