-- ==== Sys2Proof/Machine/Directory.lean ====
section
/-! DEFINITION. Machine/Directory.lean: the endpoint directory (09 R250 to R255, R273). A command completes at its admission; where a
bucket offers several free slots, or a level of the search several chains, the choice is free (log 21). -/
namespace Sys2Proof.Machine

/-- The bucket pair of a key's 11 bytes (R251). -/
def bucketsOf (salt : Nat) (key : List (BitVec 8)) : Nat × Nat :=
  let c := crc32c salt key
  let h1 := c % 2 ^ 14
  let h2 := c / 2 ^ 14 % 2 ^ 14
  (h1, if h2 = h1 then Nat.xor h1 0x2000 else h2)

/-- The addresses of the eight entries of a bucket (R250). -/
def slotsOf (b : Nat) : List Nat := (List.range 8).map (fun j => bankBase 28 + 128 * b + 16 * j)

/-- An entry as one value: the key, V, INDEX (R250). -/
def entryOf (key index : Nat) : Nat := key % 2 ^ 88 + 2 ^ 88 + 2 ^ 96 * index
def entryKey (e : Nat) : Nat := e % 2 ^ 88
def entryIndex (e : Nat) : Nat := e / 2 ^ 96 % 2 ^ 17
def entryValid (e : Nat) : Bool := e.testBit 88

def State.salt (s : State) : Nat := s.fld R.EPD_DIR_SALT_SALT

/-- The entry at an address as a search sees it: zero where the bank gives an error acknowledge. -/
def State.dirPeek (s : State) (a : Nat) : Nat :=
  if ¬ s.bankOpen 28 then 0
  else (if s.badGroup a then 0 else s.bytes a 8) + 2 ^ 64 * (if s.badGroup (a + 8) then 0 else s.bytes (a + 8) 8)

/-- The entry that holds a key among some slots: each is read through the bank (12 R346). -/
def State.dirScan (s : State) (key : Nat) : List Nat → State × Option (Nat × Nat)
  | [] => (s, none)
  | a :: l =>
    let (s, v, _) := s.readRange 28 a 16
    if entryValid v ∧ entryKey v = key then (s, some (a, entryIndex v)) else s.dirScan key l

/-- A lookup in both buckets of a key; a closed bank gives one DOMAIN_OFF. -/
def State.dirFind (s : State) (key : Nat) : State × Option (Nat × Nat) :=
  if ¬ s.bankOpen 28 then (s.bankOff, none)
  else
    let (h1, h2) := bucketsOf s.salt (leBytes 11 key)
    s.dirScan key (slotsOf h1 ++ slotsOf h2)

/-- An entry written by the classifier, two whole groups. -/
def State.dirPut (s : State) (a v : Nat) : State :=
  let (s, _) := s.bankWrite 28 a 8 v true
  (s.bankWrite 28 (a + 8) 8 (v / 2 ^ 64) true).1

/-- One of several, by a free choice. -/
def pickOne {α : Type} (l : List α) (k : Nat) : Option α := l[Config.pick k % l.length]?

def State.emptySlots (s : State) (b : Nat) : List Nat := (slotsOf b).filter (fun a => s.dirPeek a == 0)

/-- The other bucket of the entry at an address (R254). -/
def State.otherBucket (s : State) (a : Nat) : Nat :=
  let (h1, h2) := bucketsOf s.salt (leBytes 11 (entryKey (s.dirPeek a)))
  if (a - bankBase 28) / 128 = h1 then h2 else h1

/-- The breadth-first search of R254: chains of slots, the first of them in a bucket of the new key, with the free slot that
ends each. -/
def State.dirSearch (s : State) (key : Nat) : Nat → List (List Nat) → Option (List Nat × Nat)
  | 0, _ => none
  | f + 1, l =>
    let done := l.flatMap (fun p => (s.emptySlots (s.otherBucket (p.getLastD 0))).map (fun e => (p, e)))
    if done.isEmpty then
      s.dirSearch key f (l.flatMap (fun p =>
        ((slotsOf (s.otherBucket (p.getLastD 0))).filter (fun a => !p.contains a)).map (fun a => p ++ [a])))
    else pickOne done key

/-- The moves of a chain from its end: each entry is written into its new place, then its old place is cleared (R254). -/
def State.dirMoves (s : State) (chain : List Nat) (free : Nat) : State :=
  (chain.foldr (fun a acc =>
    let v := acc.1.dirPeek a
    ((acc.1.dirPut acc.2 v).dirPut a 0, a)) (s, free)).1

/-- INSERT of a key that is absent: where its entry goes (R254). -/
def State.dirInsert (s : State) (key index : Nat) : State × Bool :=
  let (h1, h2) := bucketsOf s.salt (leBytes 11 key)
  let e1 := s.emptySlots h1
  let e2 := s.emptySlots h2
  let put (s : State) (a : Nat) : State × Bool := ((s.dirPut a (entryOf key index)).next R.EPD_DIR_STATUS_COUNT, true)
  match pickOne (if e2.length ≤ e1.length then e1 else e2) key with
  | some a => put s a
  | none =>
    match s.dirSearch key 4 ((slotsOf h1 ++ slotsOf h2).map (fun a => [a])) with
    | some (p, e) => put (s.dirMoves p e) (p.headD 0)
    | none => ((s.raise R.EPD_DIR_EVENTS_FULL_SET).note 0x018, false)

/-- The result of a directory command on a key (R253): the code, and INDEX when the key is present. `op` 0 LOOKUP,
1 INSERT, 2 REMOVE, 3 refused. -/
def State.dirOp (s : State) (op key index : Nat) : State × Nat × Option Nat :=
  if op = 3 then (s, 5, none)
  else if op = 1 ∧ index / 2 ^ 14 ≠ key / 2 ^ 80 % 2 ^ 5 / 4 then (s, 4, none)
  else
    let (s, hit) := s.dirFind key
    match op, hit with
    | 1, some (_, i) => (s, 1, some i)
    | 1, none =>
      let (s, ok) := s.dirInsert key index
      (s, if ok then 0 else 2, none)
    | _, none => (s, 3, none)
    | 0, some (_, i) => (s, 0, some i)
    | _, some (a, i) =>
      let s := s.dirPut a 0
      (s.setFld R.EPD_DIR_STATUS_COUNT (s.fld R.EPD_DIR_STATUS_COUNT - 1), 0, some i)

/-- The key in the registers of a slot (R273). -/
def State.slotKey (s : State) (slot : Nat) : Nat :=
  s.fld (R.EPD_KEY_0_ID slot) + 2 ^ 32 * s.fld (R.EPD_KEY_1_ID slot) + 2 ^ 64 * s.fld (R.EPD_KEY_2_PORT slot)
    + 2 ^ 80 * s.fld (R.EPD_KEY_2_LINK slot)

/-- The slot belongs to a fenced engine (R253). -/
def State.slotFenced (s : State) (slot : Nat) : Bool := slot != 0 && s.engState (slot - 1) == 3

/-- A command slot completes (R253, R273). -/
def State.slotDone (s : State) (slot code : Nat) (hit : Option Nat) : State :=
  let s := (s.setFld (R.EPD_RESULT_RESULT slot) code).next (R.EPD_RESULT_SEQ slot)
  (s.setFld (R.EPD_RIDX_INDEX slot) (hit.getD 0)).setFld (R.EPD_RIDX_HIT slot) (if hit.isSome then 1 else 0)

/-- A write of GO to a slot by the host (0) or ENG_(by - 1) (R253). -/
def State.dirCmd (s : State) (by_ slot op : Nat) : State :=
  if s.fenced 0x018 ∨ (by_ ≠ 0 ∧ by_ ≠ slot) then s.raise R.EPD_DIR_EVENTS_CMD_REJ
  else if s.slotFenced slot then s.slotDone slot 6 none
  else
    let (s, code, hit) := s.dirOp op (s.slotKey slot) (s.fld (R.EPD_IDX_INDEX slot))
    s.slotDone slot code hit

def execEpdLookup (by_ slot : Fin 9) (s : State) : Out := s.live (s.dirCmd by_ slot 0)
def execEpdInsert (by_ slot : Fin 9) (s : State) : Out := s.live (s.dirCmd by_ slot 1)
def execEpdRemove (by_ slot : Fin 9) (s : State) : Out := s.live (s.dirCmd by_ slot 2)

/-- DIR_WINDOW_WRITE (R255). -/
def execDirWindowWrite (addr : BitVec 21) (s : State) : Out :=
  s.live (s.bankStore 28 (bankBase 28 + addr.toNat) 1 0 false).1

/-- A write of the salt (R255). -/
def State.writeSalt (s : State) (v : Nat) : State :=
  if s.fld R.EPD_DIR_STATUS_COUNT ≠ 0 then s.raise R.EPD_DIR_EVENTS_CMD_REJ else s.setFld R.EPD_DIR_SALT_SALT v

def execEpdDirSaltWrite (v : BitVec 32) (s : State) : Out := s.live (s.writeSalt v.toNat)

end Sys2Proof.Machine
end

