-- ==== Sys2Proof/Machine/TdcArray.lean ====
section
/-! DEFINITION. Machine/TdcArray.lean: the rows of the TDC array (06 R172 to R193). -/
namespace Sys2Proof.Machine

/-! ### Channels (R171, R176 to R178) -/

/-- The qualifier owns REFT_n (03 R81). -/
def State.owned (s : State) (c : Nat) : Bool := isReft c && s.candEn (c - 64)

/-- The channel stamps: its EN, or the qualifier's ownership (03 R81); a link channel follows its port (R196). -/
def State.chOn (s : State) (c : Nat) : Bool :=
  if c < 64 then s.linkState (c % 32) != 0 else s.flag (R.TDC_CH_CFG_EN c) || s.owned c

/-- The decimation in force (R178, 03 R81). -/
def State.decimation (s : State) (c : Nat) : Nat :=
  if s.owned c then (if s.timeCand (c - 64) then 1 else max 1 (s.fld (R.QUAL_CAND_NOM_NOM (c - 64))))
  else if isReft c || isMon c then max 1 (s.fld (R.TDC_CH_DEC_D c)) else 1

/-- The edge is one that the channel takes: rising while the qualifier owns it, else by EDGE (R176). -/
def State.takesEdge (s : State) (c : Nat) (falling : Bool) : Bool :=
  match (if s.owned c then 0 else s.fld (R.TDC_CH_CFG_EDGE c)) with
  | 0 => !falling
  | 1 => falling
  | _ => true

/-! ### Stamps (R172 to R175) -/

/-- The stamp of an edge that lies `num / den` of the way from the present tick to the next, before it is put into the
format of 00 R7 (R172). -/
def State.stampTime (s : State) (c num den : Nat) : Int :=
  let d : Int := ((max 1 den : Nat) : Int)
  let inc : Int := ((s.advance 1).tb.now : Int) - (s.tb.now : Int)
  let delay := s.int32 (R.TDC_CH_DELAY_DELAY c)
  ((s.tb.now : Int) * d + inc * (num : Int) - delay * d) / (8 * d) * 8

/-- The 96 bits of a stamp time; the seconds field has 48 bits. -/
def stampBits (t : Int) : Nat := encodeHub (t % ((2 ^ 48 * fuPerSec : Nat) : Int)).toNat

def b2n (b : Bool) : Nat := if b then 1 else 0

/-- A stamp record (R174). -/
def State.stampRecord (s : State) (c : Nat) (t : Int) (falling : Bool) : Nat :=
  let x := s.tdcCh c
  let flags := b2n falling + 2 * b2n x.missed + 4 * b2n x.gap + 8 * b2n (s.subst c)
    + 16 * b2n s.uncertain + 32 * b2n s.soak
  stampBits t + 2 ^ 96 * c + 2 ^ 104 * flags + 2 ^ 112 * x.seq

/-- The channel has stamped: SEQ advances and MISSED is spent (R174, R175). `queued` says that the stamp reached its queue
or frame, which spends GAP. -/
def State.stamped (s : State) (c : Nat) (queued : Bool) : State :=
  let x := s.tdcCh c
  (s.setTdcCh c { x with seq := (x.seq + 1) % 2 ^ 16, missed := false, gap := x.gap && !queued }).setFld
    (R.TDC_CH_STATUS_SEQ c) x.seq

/-- An edge of the channel was lost (R177, R192). -/
def State.missEdge (s : State) (c : Nat) : State :=
  ((s.bump (R.TDC_CH_MISSED_COUNT c)).raise (R.TDC_CH_EVENTS_MISSED_SET c)).setTdcCh c { s.tdcCh c with missed := true }

/-- A stamp was dropped: counted, the next queued one carries GAP, and the first since DROP_SET was clear raises a NOTE
(R180, R182). -/
def State.dropStamp (s : State) (c : Nat) : State :=
  let s := if s.flag (R.TDC_CH_EVENTS_DROP_SET c) then s else s.note (0x100 + c)
  ((s.bump (R.TDC_CH_DROP_COUNT c)).raise (R.TDC_CH_EVENTS_DROP_SET c)).setTdcCh c { s.tdcCh c with gap := true }

/-- The FIFO of a channel, with its LEVEL and HIWAT (R180). -/
def State.setFifo (s : State) (c : Nat) (l : List Nat) : State :=
  let old := (s.tdcCh c).fifo.length
  let s := (s.setTdcCh c { s.tdcCh c with fifo := l }).setFld (R.TDC_CH_STATUS_LEVEL c) l.length
  s.raiseIf (decide (old < 48) && decide (48 ≤ l.length)) (R.TDC_CH_EVENTS_HIWAT c)

/-- The elapsed instant of an edge that lies `num / den` of the way from the present tick to the next. -/
def State.edgeAt (s : State) (num den : Nat) : Rat :=
  let inc : Int := ((s.advance 1).tb.now : Int) - (s.tb.now : Int)
  (s.tb.elapsed : Rat) + (inc * (num : Int) : Int) / ((max 1 den : Nat) : Rat)

/-- The edge lies within 1.25 ns of the last stamped one (R177). -/
def Tdc.blind (x : Tdc) (t : Rat) : Bool :=
  match x.lastAt with
  | some l => decide ((t - l) * 100 < 8192)
  | none => false

/-- The qualifier takes each stamp of a REFT channel that it owns (R171, R179, 03 R81). -/
def State.handStamp (s : State) (c : Nat) (v : Int) : State :=
  if s.owned c ∧ ¬ s.qualFenced then s.setCand (c - 64) { s.cand (c - 64) with stamp := some v } else s

/-- A kept edge is stamped and queued (R172 to R180). -/
def State.stampEdge (s : State) (c : Nat) (falling : Bool) (num den : Nat) : State :=
  let r := s.stampRecord c (s.stampTime c num den) falling
  let s := s.setTdcCh c { s.tdcCh c with lastAt := some (s.edgeAt num den) }
  if s.flag (R.TDC_CH_CFG_EN c) ∧ s.flag (R.TDC_CH_CFG_RING_EN c) then
    let l := (s.tdcCh c).fifo
    if l.length < 64 then (s.stamped c true).setFifo c (l ++ [r]) else (s.stamped c false).dropStamp c
  else s.stamped c false

/-- An edge that the channel takes: decimated (R178), missed without a core (R192) or within the dead time (R177), else
stamped; a stamp that is no glitch goes to the qualifier. -/
def State.keepEdge (s : State) (c : Nat) (falling : Bool) (num den : Nat) (glitch : Bool) : State :=
  let x := s.tdcCh c
  if 0 < x.dec then s.setTdcCh c { x with dec := x.dec - 1 }
  else
    let v := s.stampTime c num den
    let s := s.setTdcCh c { x with dec := s.decimation c - 1 }
    if s.coreless c ∨ x.blind (s.edgeAt num den) then s.missEdge c
    else
      let s := s.stampEdge c falling num den
      if glitch then s else s.handStamp c v

/-- An edge of a REFT channel that the qualifier owns is a glitch (03 R83). -/
def State.edgeGlitch (s : State) (c t : Nat) : Bool :=
  s.owned c && s.kind (c - 64) != 3 && (s.cand (c - 64)).glitch t (s.nominal (c - 64))

/-- An edge at the front end of a REFT, EVT or MON channel, `num / den` of the way from the present tick to the next. The
qualifier watches the edges of a REFT channel that it owns before they are decimated (03 R83). No stamp is made while the time
base holds (14 R407). -/
def State.tdcEdge (s : State) (c : Nat) (falling : Bool) (num den : Nat) : State :=
  if c < 64 ∨ ¬ s.chOn c ∨ ¬ s.tb.running ∨ ¬ s.takesEdge c falling then s
  else
    let t := (s.edgeAt num den).floor.toNat
    let s' := if s.owned c then s.rawEdge (c - 64) t else s
    s'.keepEdge c falling num den (s.edgeGlitch c t)

/-- TDC_EDGE (R172). -/
def execTdcEdge (c : Fin 104) (falling : Bool) (num den : Nat) (s : State) : Out :=
  s.live (s.tdcEdge c falling num den)

/-! ### The shared writer (R179 to R181) -/

/-- The channels of the writer in its order, after the one served last. -/
def State.writerOrder (s : State) : List Nat :=
  (List.range 40).map (fun k => 64 + (s.tdc.last - 64 + 1 + k) % 40)

/-- The channel that the writer serves next: a stamp waits and its ring has space. -/
def State.writerNext (s : State) : Option Nat :=
  s.writerOrder.find? (fun c => !(s.tdcCh c).fifo.isEmpty && decide (0 < s.ringRoom c))

/-- One stamp moves into its ring entry, which is zero beyond its 16 bytes (R179). -/
def State.writeStamp (s : State) (c : Nat) : State :=
  match (s.tdcCh c).fifo with
  | [] => s
  | r :: l =>
    let s := (s.setFifo c l)
    let s := { s with tdc := { s.tdc with last := c } }
    if ¬ s.bankOpen 26 then ((s.bankOff).report (0x100 + c) 1 0x0A).dropStamp c
    else
      let a := s.ringEntry c (s.ringTail c)
      let (s, _) := s.writeRange 26 a (s.ringEsz c) r true
      s.ringPushTail c 1

/-- TDC_RING_WRITE (R181): held in IDLE and SLEEP (15 R422), and with the ring manager fenced (16 R446). -/
def execTdcRingWrite (s : State) : Out :=
  s.live (if ¬ s.fabricMoves ∨ s.ringsFenced then s
    else match s.writerNext with
      | some c => s.writeStamp c
      | none => s)

/-! ### Writes (R175, R178, R183) -/

/-- EN and RING_EN of a REFT, EVT or MON channel. -/
def State.writeChEn (s : State) (c : Nat) (en ringEn : Bool) : State :=
  if c < 64 then s
  else
    let s := if en ∧ ¬ s.flag (R.TDC_CH_CFG_EN c) then s.setTdcCh c { s.tdcCh c with seq := 0 } else s
    (s.setFld (R.TDC_CH_CFG_EN c) (b2n en)).setFld (R.TDC_CH_CFG_RING_EN c) (b2n ringEn)

def execTdcChEnWrite (c : Fin 104) (en ringEn : Bool) (s : State) : Out := s.live (s.writeChEn c en ringEn)

/-- A write of TDC_CH_DEC (R178, R196). -/
def State.writeDec (s : State) (c d : Nat) : State :=
  if ¬ (isReft c || isMon c) ∨ s.owned c then s
  else if 2 ^ 24 < d then s.raise (R.TDC_CH_EVENTS_CFG_REJ c)
  else (s.setFld (R.TDC_CH_DEC_D c) d).restartDec c

def execTdcChDecWrite (c : Fin 104) (d : BitVec 25) (s : State) : Out := s.live (s.writeDec c d.toNat)

/-- A write of TDC_CH_CFG: refused values keep the old ones (R196). -/
def State.writeChCfg (s : State) (c v : Nat) : State :=
  let s := s.writeChEn c (v.testBit 0) (v.testBit 3)
  let edge := v / 2 % 4
  let mode := v / 16 % 4
  let mon := v / 256 % 32
  let s := if c < 64 then s
    else if edge = 3 then s.raise (R.TDC_CH_EVENTS_CFG_REJ c) else s.setFld (R.TDC_CH_CFG_EDGE c) edge
  let s := if ¬ isEvt c then s
    else if 2 ≤ mode then s.raise (R.TDC_CH_EVENTS_CFG_REJ c) else s.setFld (R.TDC_CH_CFG_IN_MODE c) mode
  if ¬ isMon c then s
  else if 24 ≤ mon then s.raise (R.TDC_CH_EVENTS_CFG_REJ c) else s.setFld (R.TDC_CH_CFG_MON_OUT c) mon

/-! ### SOAK (R184, R186) -/

/-- The oven is within `d` thousandths of a degree of its set point of 92 degrees C (R184). -/
def ovenWithin (temp : Int) (d : Nat) : Bool := decide ((temp - 92000).natAbs ≤ d)

/-- The oven's own measurements: temperature in 0.001 degrees C, heater power in mW, 0 while the heater is off, and settled
seconds, 0 beyond 0.05 degrees C (R184, R195). -/
def State.showOven (s : State) (temp : Int) (mw settle : Nat) : State :=
  ((s.setFld R.TDC_OVEN_TEMP_TEMP (ofSigned 32 temp)).setFld R.TDC_OVEN_HEAT_MW (if s.tdc.heater then min 65535 mw else 0)).setFld
    R.TDC_OVEN_SETTLE_SECONDS (if ovenWithin temp 50 then min 65535 settle else 0)

/-- The seconds settled so far. -/
def State.settled (s : State) : Nat := s.fld R.TDC_OVEN_SETTLE_SECONDS

/-- SOAK_SET (R184): the oven has departed by more than 0.2 degrees C. -/
def execSoakSet (temp : Int) (mw : Nat) (s : State) : Out :=
  s.live ((if ovenWithin temp 200 then s else s.soakSet).showOven temp mw s.settled)

/-- SOAK clears once both conditions have held for 60 s; with SOAK_CAL every channel becomes due (R184, R191). -/
def State.soakClear (s : State) : State :=
  if ¬ s.soak ∨ ¬ s.tdc.heater then s
  else
    let s := ((s.clr R.TDC_STATUS_SOAK).clr R.QUAL_STATUS_SOAK_HOLD).raise R.TDC_EVENTS_SOAK_CLR
    if s.flag R.TDC_CAL_CFG_SOAK_CAL then
      let s := { s with tdc := { s.tdc with spareDue := [(0, true), (1, true), (2, true), (3, true)] } }
      (List.range 104).foldl (fun s c => s.raise (R.TDC_CH_STATUS_CAL_DUE c)) s
    else s

def execSoakClear (temp : Int) (mw settle : Nat) (s : State) : Out :=
  s.live ((if 60 ≤ settle ∧ ovenWithin temp 50 then s.soakClear else s).showOven temp mw settle)

/-- OVEN_SLOW (R186): 15 minutes of SOAK. -/
def State.ovenSlow (s : State) : State :=
  if s.soak ∧ ¬ s.tdc.slow ∧ s.tdc.soakAt + (900 * fuPerSec : Nat) ≤ ((s.tb.elapsed : Nat) : Int) then
    let s := { s with tdc := { s.tdc with slow := true } }
    (s.raise R.TDC_EVENTS_OVEN_SLOW).report 0x011 1 0x16
  else s

def execOvenSlow (temp : Int) (mw : Nat) (s : State) : Out := s.live (s.ovenSlow.showOven temp mw s.settled)

/-! ### Calibration (R187 to R191) -/

/-- A calibration of channel c begins (R188 to R190): straight on the own core when a replacement spare carries the channel
or the channel is off, else with a first overlap. -/
def State.calStart (s : State) (c : Nat) (cmd : Option Nat) : State :=
  if s.subst c then s.setCal c (some ⟨1, some (s.fld (R.TDC_CH_STATUS_SPARE c)), cmd, true⟩)
  else if s.chOn c then
    match s.freeSpares.head? with
    | some k => (s.takeSpare k c 1).setCal c (some ⟨0, some k, cmd, false⟩)
    | none => s
  else s.setCal c (some ⟨1, none, cmd, false⟩)

/-- The channel is being calibrated, or a spare carries it as a replacement under its fence (R189). -/
def State.calBusy (s : State) (c : Nat) : Bool := (s.cal c).isSome || (s.subst c && s.fenced (0x100 + c))

/-- The result of a GO (R189). -/
def State.calCode (s : State) (c : Nat) : Nat :=
  if 103 < c then 8
  else if s.soak then 7
  else if s.calBusy c then 4
  else if s.chOn c ∧ ¬ s.subst c ∧ s.freeSpares.isEmpty then 3
  else 1

/-- TDC_CAL_GO (R189). -/
def State.calGo (s : State) (c : Nat) : State :=
  let code := s.calCode c
  let s := ((s.setFld R.TDC_CAL_STATUS_RESULT code).setFld R.TDC_CAL_STATUS_CH c).next R.TDC_CAL_STATUS_SEQ
  let s := s.clr R.TDC_CAL_STATUS_UNCHECKED
  if code = 1 then s.calStart c (some (s.fld R.TDC_CAL_STATUS_SEQ)) else s

def execTdcCalGo (c : Fin 128) (s : State) : Out := s.live (s.calGo c)

/-- UNCHECKED of a commanded calibration (R188). -/
def State.unchecked (s : State) (x : Cal) (common : Nat) : State :=
  s.raiseIf (decide (common < 2) && x.cmd == some (s.fld R.TDC_CAL_STATUS_SEQ)) R.TDC_CAL_STATUS_UNCHECKED

/-- TDC_OVERLAP_END (R188): the number of common edges and the mean difference of their stamps, fu. -/
def State.overlapEnd (s : State) (c common : Nat) (diff : Int) : State :=
  let bad := decide (2 ≤ common) && decide (s.fld R.TDC_CAL_CFG_TOL < diff.natAbs)
  match s.cal c with
  | some ⟨0, some k, a, r⟩ =>
    if bad then (s.dropSpare k).calEnd c 5
    else ((s.unchecked ⟨0, some k, a, r⟩ common).onSpare c k).setCal c (some ⟨1, some k, a, r⟩)
  | some ⟨2, some k, a, r⟩ =>
    if bad then (s.takeSpare k c 2).calEnd c 5
    else (((s.unchecked ⟨2, some k, a, r⟩ common).onOwn c).dropSpare k).calEnd c 2
  | _ => s

def execTdcOverlapEnd (c : Fin 104) (common : Nat) (diff : Int) (s : State) : Out := s.live (s.overlapEnd c common diff)

/-- TDC_CORE_CAL_DONE (R187, R189) with the largest residual in fu. -/
def State.coreCalDone (s : State) (c residual : Nat) : State :=
  match s.cal c with
  | some ⟨1, k, a, r⟩ =>
    let s := (s.setFld (R.TDC_CH_CAL_CAL_TEMP c) (ofSigned 16 (s.dieTemp / 10))).setFld (R.TDC_CH_CAL_INL c) (min 255 residual)
    let s := s.clr (R.TDC_CH_STATUS_CAL_DUE c)
    if 33 < residual then
      let s := match k with
        | some k => s.takeSpare k c 2
        | none => s
      (s.calEnd c 6).report (0x100 + c) 1 0x17
    else match k with
      | some k => s.setCal c (some ⟨2, some k, a, r⟩)
      | none => s.calEnd c 2
  | _ => s

/-- SPARE_k is being calibrated itself, which shows as USE 1 without a channel (R187, log 72). -/
def State.spareCalibrated (s : State) (k : Nat) : Bool :=
  s.fld (R.TDC_SPARE_USE k) == 1 && s.fld (R.TDC_SPARE_TARGET k) == 0x7F

/-- The calibration of a free spare ends (R187, R191). -/
def State.spareCalDone (s : State) (k residual : Nat) : State :=
  if ¬ s.spareCalibrated k then s
  else
    let s := (s.dropSpare k).raise R.TDC_EVENTS_CAL_END
    let s := { s with tdc := { s.tdc with
      spareDue := Tab.set (fun _ => false) s.tdc.spareDue k false
      spareTemp := Tab.set (fun _ => 0) s.tdc.spareTemp k (s.dieTemp / 10) } }
    if 33 < residual then s.report (0x168 + k) 1 0x17 else s

/-- TDC_CORE_CAL_DONE for the core of a channel, or of SPARE_k as 104 + k. -/
def execTdcCoreCalDone (c : Fin 108) (residual : Nat) (s : State) : Out :=
  s.live (if c.val < 104 then s.coreCalDone c residual else s.spareCalDone (c - 104) residual)

/-- TDC_CAL_DUE (R191): the die temperature has left the recorded calibration temperature by more than AUTO_DT. -/
def State.calDue (s : State) (c : Nat) : State :=
  let dt := s.fld R.TDC_CAL_CFG_AUTO_DT
  let cal := toSigned 16 (s.fld (R.TDC_CH_CAL_CAL_TEMP c))
  if dt ≠ 0 ∧ 100 * dt < (s.dieTemp - 10 * cal).natAbs then s.raise (R.TDC_CH_STATUS_CAL_DUE c) else s

def State.spareDue (s : State) (k : Nat) : Bool := Tab.get (fun _ => false) s.tdc.spareDue k

/-- The same of SPARE_k (R187). -/
def State.spareCalDue (s : State) (k : Nat) : State :=
  let dt := s.fld R.TDC_CAL_CFG_AUTO_DT
  if dt ≠ 0 ∧ 100 * dt < (s.dieTemp - 10 * Tab.get (fun _ => 0) s.tdc.spareTemp k).natAbs then
    { s with tdc := { s.tdc with spareDue := Tab.set (fun _ => false) s.tdc.spareDue k true } }
  else s

def execTdcCalDue (c : Fin 108) (s : State) : Out :=
  s.live (if c.val < 104 then s.calDue c else s.spareCalDue (c - 104))

/-- The array can start an automatic calibration of a due channel: an unreserved spare is free, or none is needed. -/
def State.canAuto (s : State) (c : Nat) : Bool :=
  s.flag (R.TDC_CH_STATUS_CAL_DUE c) && !s.calBusy c
    && (s.subst c || !s.chOn c || decide (s.fld R.TDC_CAL_CFG_RESERVE < s.freeSpares.length))

/-- A due and free spare above RESERVE that can be calibrated (R187, log 72). -/
def State.spareAuto (s : State) (k : Nat) : Bool :=
  s.spareDue k && s.spareFree k && decide (s.fld R.TDC_CAL_CFG_RESERVE < s.freeSpares.length)

/-- TDC_AUTO_CAL_START (R191): due channels in order of number, then due spares. -/
def State.autoCal (s : State) : State :=
  match (List.range 104).find? (fun c => s.canAuto c) with
  | some c => s.calStart c none
  | none =>
    match (List.range 4).find? (fun k => s.spareAuto k) with
    | some k => s.takeSpare k 0x7F 1
    | none => s

def execTdcAutoCalStart (s : State) : Out := s.live s.autoCal

end Sys2Proof.Machine
end

