-- ==== Sys2Proof/Machine/Links.lean ====
section
/-! DEFINITION. Machine/Links.lean: port states, reception, phase measurement and compensation of the timing links
(07 R197 to R208, R216 to R223). -/
namespace Sys2Proof.Machine

def State.rejLink (s : State) (n : Nat) : State := s.raise (R.LNK_EVENTS_CFG_REJ n)

/-- A write to a port whose power domain is off in SLEEP is answered DOMAIN_OFF (15 R423, R426). -/
def State.linkGate (s : State) (act : State → State) : State := if s.pwrState = 2 then s.gateOff 5 else act s

/-! ### States (R197 to R200) -/

/-- The nominal SerDes reference is 156.25 MHz: 100 MHz times N_A over DIV (R198, 05 R141). -/
def State.serdesOk (s : State) : Bool := s.fld (R.SYN_PLL_CFG_N 0) * 64 == 100 * s.fld R.SYN_SERDES_DIV_DIV

/-- The combinations of RATE and FEC that R197 lists. -/
def rateOk (rate fec : Nat) : Bool :=
  match rate with
  | 0 => fec == 0
  | 1 => decide (fec ≤ 1)
  | 2 => decide (fec ≤ 2)
  | _ => false

/-- What EN = 1 needs (R198, R205). -/
def State.enableOk (s : State) (n : Nat) : Bool :=
  s.serdesOk && s.ringEsz n == 128 && s.ringEsz (32 + n) == 128

/-- The module is present and reports a signal. -/
def State.moduleOk (s : State) (n : Nat) : Bool := !s.flag (R.LNK_STATUS_MOD_ABS n) && !s.flag (R.LNK_STATUS_MOD_LOS n)

/-- DOWN goes on to TRAINING when the CDR has lock and the module allows it (R200). -/
def State.linkTrain (s : State) (n : Nat) : State :=
  if s.linkState n = 1 ∧ s.flag (R.LNK_STATUS_CDR_LOCK n) ∧ s.moduleOk n then s.setLinkState n 2 else s

/-- TRAINING or UP falls back to DOWN (R200). -/
def State.linkDown (s : State) (n : Nat) : State :=
  if s.linkState n = 2 ∨ s.linkState n = 3 then (s.setLinkState n 1).clr (R.LNK_STATUS_AN_DONE n) else s

/-- EN written 1 takes DISABLED to DOWN (R200), and the candidate's NOM is set (R199). -/
def State.linkEnable (s : State) (n : Nat) : State :=
  if s.linkState n = 0 then
    (s.setLinkState n 1).setFld (R.QUAL_CAND_NOM_NOM (16 + n)) 156250
  else s

/-- The part of a write of LNK_CFG beside EN: RATE, FEC and AN only while EN is 0 (R198), ACCEPT but not 3 (R208). -/
def State.linkFields (s : State) (n v : Nat) : State :=
  let rate := v / 2 % 4
  let fec := v / 8 % 4
  let an := v / 32 % 2
  let same := rate == s.fld (R.LNK_CFG_RATE n) && fec == s.fld (R.LNK_CFG_FEC n) && an == s.fld (R.LNK_CFG_AN n)
  let s := if same then s
    else if s.flag (R.LNK_CFG_EN n) then s.rejLink n
    else
      let s := s.setFld (R.LNK_CFG_AN n) an
      if rateOk rate fec then (s.setFld (R.LNK_CFG_RATE n) rate).setFld (R.LNK_CFG_FEC n) fec else s.rejLink n
  let acc := v / 128 % 4
  let s := if acc = 3 then s.rejLink n else s.setFld (R.LNK_CFG_ACCEPT n) acc
  (((s.setFld (R.LNK_CFG_OTHER_EN n) (v / 64)).setFld (R.LNK_CFG_ESMC_TX n) (v / 512)).setFld
    (R.LNK_CFG_ESMC_RX n) (v / 1024)).setFld (R.LNK_CFG_FENCE_TXDIS n) (v / 2048)

/-- LINK_ENABLE (R198): a write of LNK_CFG with EN = 1. -/
def State.writeEnable (s : State) (n v : Nat) : State :=
  let s := s.linkFields n v
  if s.flag (R.LNK_CFG_EN n) then s
  else if ¬ s.enableOk n then s.rejLink n
  else (s.raise (R.LNK_CFG_EN n)).linkEnable n

def execLinkEnable (n : Fin 32) (v : BitVec 32) (s : State) : Out := s.live (s.linkGate (fun s => s.writeEnable n v.toNat))

/-- CDR_LOCK (R200): `phase` is the value of the phase meter, which unwraps from there (R216). -/
def State.cdrLock (s : State) (n : Nat) (phase : Int) : State :=
  if s.linkState n = 0 ∨ s.linkState n = 4 then s
  else
    let s := if s.flag (R.LNK_STATUS_CDR_LOCK n) then s
      else s.setLink n { s.link n with lockAt := s.tb.elapsed, lockV := phase, lockP := s.steerPhase }
    (s.raise (R.LNK_STATUS_CDR_LOCK n)).linkTrain n

def execCdrLock (n : Fin 32) (phase : Int) (s : State) : Out := s.live (s.cdrLock n phase)

/-- BLOCK_LOCK (R200), with the state of Clause 37 negotiation, which only RATE 0 has (R197). -/
def State.blockLock (s : State) (n : Nat) (an : Bool) : State :=
  let needs := s.fld (R.LNK_CFG_RATE n) == 0 && s.flag (R.LNK_CFG_AN n)
  if s.linkState n = 2 ∧ (¬ needs ∨ an) then
    let s := s.setLinkState n 3
    if needs then s.raise (R.LNK_STATUS_AN_DONE n) else s
  else s

def execBlockLock (n : Fin 32) (an : Bool) (s : State) : Out := s.live (s.blockLock n an)

/-- CDR_LOSS (R199, R200, R218). -/
def State.cdrLoss (s : State) (n : Nat) : State :=
  if ¬ s.flag (R.LNK_STATUS_CDR_LOCK n) then s
  else (((s.clr (R.LNK_STATUS_CDR_LOCK n)).linkDown n).phaseLost n).linkLos n

def execCdrLoss (n : Fin 32) (s : State) : Out := s.live (s.cdrLoss n)

/-- BLOCK_LOCK_LOSS (R200). -/
def execBlockLockLoss (n : Fin 32) (s : State) : Out := s.live (s.linkDown n)

/-- MODULE_LOS (R199, R200). -/
def State.moduleLos (s : State) (n : Nat) (on : Bool) : State :=
  let s := s.setFld (R.LNK_STATUS_MOD_LOS n) (b2n on)
  if on then
    let s := s.linkDown n
    if s.linkState n = 0 then s else s.linkLos n
  else s.linkTrain n

def execModuleLos (n : Fin 32) (on : Bool) (s : State) : Out := .next (s.moduleLos n on)

/-- MODULE_PRESENCE (R200). -/
def State.modulePresence (s : State) (n : Nat) (absent : Bool) : State :=
  let s := s.setFld (R.LNK_STATUS_MOD_ABS n) (b2n absent)
  if absent then s.linkDown n else s.linkTrain n

def execModulePresence (n : Fin 32) (absent : Bool) (s : State) : Out := .next (s.modulePresence n absent)

/-- MODULE_TX_FAULT (16 R443). -/
def State.moduleTxFault (s : State) (n : Nat) (on : Bool) : State :=
  let was := s.flag (R.LNK_STATUS_MOD_TX_FAULT n)
  let s := s.setFld (R.LNK_STATUS_MOD_TX_FAULT n) (b2n on)
  if on && !was then s.report (0x020 + n) 1 0x0E else s

def execModuleTxFault (n : Fin 32) (on : Bool) (s : State) : Out := .next (s.moduleTxFault n on)

/-- PCS_BLOCK_ERRORS (16 R443): a port with block lock. -/
def execPcsBlockErrors (n : Fin 32) (s : State) : Out :=
  s.live (if s.linkState n = 3 then s.report (0x020 + n) 1 0x0F else s)

/-! ### Reception (R201 to R208) -/

/-- The destination address is LNK_MAC, a group or broadcast (R201). -/
def State.addressed (s : State) (n : Nat) (f : List (BitVec 8)) : Bool :=
  fb f 0 % 2 == 1 || fbe f 0 6 == s.fld (R.LNK_MAC_HI_MAC_HI n) * 2 ^ 32 + s.fld (R.LNK_MAC_LO_MAC_LO n)

/-- The pre-filter passes the frame (R201). -/
def State.preFilter (s : State) (n : Nat) (f : List (BitVec 8)) : Bool :=
  s.addressed n f
    && ((ptpAt f).isSome || (isEsmc f && s.flag (R.LNK_CFG_ESMC_RX n)) || s.flag (R.LNK_CFG_OTHER_EN n))

/-- A PTP frame passes LNK_PTP_FILT (R204). -/
def State.ptpFilter (s : State) (n : Nat) (f : List (BitVec 8)) : Bool :=
  match ptpAt f with
  | some (p, _, _) =>
    (s.flag (R.LNK_PTP_FILT_DOM_ANY n) || ptpDomain f p == s.fld (R.LNK_PTP_FILT_DOMAIN n))
      && (s.flag (R.LNK_PTP_FILT_SDO_ANY n) || ptpSdo f p == s.fld (R.LNK_PTP_FILT_SDOID n))
  | none => true

/-- An entry of the accept list matches a PTP frame (R208). -/
def State.accMatch (s : State) (n : Nat) (src : List (BitVec 8)) (j : Nat) : Bool :=
  s.flag (R.LNK_ACC_W2_V n j) && fbe src 0 4 == s.fld (R.LNK_ACC_W1_ID_HI n j)
    && fbe src 4 4 == s.fld (R.LNK_ACC_W0_ID_LO n j)
    && (s.flag (R.LNK_ACC_W2_ANY_PORT n j) || fbe src 8 2 == s.fld (R.LNK_ACC_W2_PORT n j))

/-- The ACCEPT flag (R205, R208). -/
def State.accepted (s : State) (n : Nat) (f : List (BitVec 8)) : Bool :=
  if s.fld (R.LNK_CFG_ACCEPT n) = 0 then true
  else match ptpAt f with
    | some (p, _, _) => (List.range 64).any (fun j => s.accMatch n (ptpSource f p) j)
    | none => false

/-- The classifier's lookup (09 R252): EP, when the directory finds the key; a closed DIR bank is reported (01 R37). -/
def State.epLookup (s : State) (n : Nat) (f : List (BitVec 8)) : State × Option Nat :=
  match ptpAt f with
  | none => (s, none)
  | some (p, _, _) =>
    let off := !s.fenced 0x018 && !s.bankOpen 28
    let (s, hit) := if s.fenced 0x018 then (s, none) else s.dirFind (leVal (ptpSource f p ++ [BitVec.ofNat 8 n]))
    let s := if off then s.report (0x020 + n) 1 0x0A else s
    match hit with
    | some (_, i) => (s.bump R.EPD_LOOKUP_HIT_COUNT, some i)
    | none => (s.bump R.EPD_LOOKUP_MISS_COUNT, none)

/-- A frame that was stamped is dropped (06 R182). -/
def State.dropFrame (s : State) (n : Nat) (noStamp : Bool) : State := if noStamp then s else s.dropStamp n

/-- The bytes of a receive entry's header (R205). -/
def rxHeader (stamp len cls flags ep ents : Nat) : List (BitVec 8) :=
  leBytes 16 stamp ++ leBytes 2 len ++ leBytes 1 cls ++ leBytes 1 flags ++ leBytes 4 ep ++ leBytes 1 ents ++ leBytes 7 0

/-- Bytes written to E consecutive entries of a ring from its TAIL; unused bytes are zero (R205). -/
def State.ringWrite (s : State) (r : Nat) (b : List (BitVec 8)) (ents : Nat) : State :=
  let tail := s.ringTail r
  (List.range ents).foldl (fun s k =>
    (s.writeRange (ringBank r) (s.ringEntry r (tail + k)) 128 (leVal ((b.drop (128 * k)).take 128)) true).1) s

/-- The frame is written to ring n and made visible in one update, or dropped where the ring lacks room (R206). A frame that meets a
closed bank counts once (log 77). -/
def State.deliverFrame (s : State) (n : Nat) (f : List (BitVec 8)) (stamp flags : Nat) (ep : Option Nat) (noStamp : Bool) : State :=
  let ents := entriesFor f.length
  if s.ringsFenced ∨ s.ringRoom n < ents then
    ((s.bump (R.LNK_RX_OVF n)).ringFull n).dropFrame n noStamp
  else if ¬ s.bankOpen 24 then ((s.bankOff).report (0x020 + n) 1 0x0A).dropFrame n noStamp
  else
    let h := rxHeader stamp f.length (frameClass f) flags (ep.getD 0xFFFFFFFF) ents
    ((s.ringWrite n (h ++ f) ents).ringPushTail n ents).bump (R.LNK_RX_OK n)

/-- FLAGS of a receive entry (R205). -/
def State.rxFlags (s : State) (n : Nat) (f : List (BitVec 8)) (ep : Option Nat) (noStamp : Bool) : Nat :=
  b2n ep.isSome + 2 * b2n (s.accepted n f) + 4 * b2n noStamp + 8 * b2n (isV2019 f)
    + 16 * b2n (s.flag (R.LNK_STATUS_PHASE_LOST n))

/-- The stamp of a passing frame (R202, R206): its record, and whether no core stamped it. The next stamp carries GAP
when this one does not reach the ring, which the caller settles. -/
def State.rxStamp (s : State) (n num den : Nat) : State × Nat × Bool :=
  if s.coreless n then
    let s := s.missEdge n
    (s, 2 ^ 96 * n + 2 ^ 104 * 2, true)
  else if ¬ s.tb.running then (s, 2 ^ 96 * n, true)
  else (s.stamped n true, s.stampRecord n (s.stampTime n num den) false, false)

/-- The filters of R204 and R208 after the lookup, and the delivery. -/
def State.classify (s : State) (n : Nat) (f : List (BitVec 8)) (stamp : Nat) (noStamp : Bool) : State :=
  let (s, ep) := s.epLookup n f
  if ¬ s.ptpFilter n f then (s.bump (R.LNK_RX_FILTERED n)).dropFrame n noStamp
  else if s.fld (R.LNK_CFG_ACCEPT n) = 2 ∧ (ptpAt f).isSome ∧ ¬ s.accepted n f then
    ((s.bump (R.LNK_RX_FILTERED n)).raise (R.LNK_EVENTS_ACCEPT_DROP n)).dropFrame n noStamp
  else s.deliverFrame n f stamp (s.rxFlags n f ep noStamp) ep noStamp

/-- The received QL (R220). -/
def State.setQl (s : State) (n ql : Nat) (valid : Bool) : State :=
  let s := if s.fld (R.LNK_QL_RX_QL n) = ql then s else (s.setFld (R.LNK_QL_RX_QL n) ql).raise (R.LNK_EVENTS_QL_CHG n)
  (s.setFld (R.LNK_QL_RX_VALID n) (b2n valid)).announce

/-- A valid ESMC PDU gives its QL (R220). -/
def State.esmcReceive (s : State) (n : Nat) (f : List (BitVec 8)) : State :=
  if s.flag (R.LNK_CFG_ESMC_RX n) ∧ esmcValid f then
    let s := s.setFld (R.LNK_QL_RX_EXT n) (b2n (esmcExt f))
    (s.setLink n { s.link n with esmcAt := s.tb.elapsed }).setQl n (esmcQl f) true
  else s

/-- A frame arrives at a port: `good` its FCS, `num / den` the place of its first bit between two ticks, `excess` that it
lies beyond the capacity of R207 (R201 to R208; 15 R422 in IDLE). In FENCED the first is the one part-received, which is
counted (R222, log 70). -/
def State.linkRx (s : State) (n : Nat) (f : List (BitVec 8)) (good : Bool) (num den : Nat) (excess : Bool) : State :=
  if s.linkState n = 4 then
    if (s.link n).rxCut then (s.setLink n { s.link n with rxCut := false }).bump (R.LNK_RX_FENCED n) else s
  else if s.linkState n ≠ 3 then s
  else if ¬ good ∨ rxError f then s.bump (R.LNK_RX_ERR n)
  else if ¬ s.preFilter n f then s
  else
    let s := s.esmcReceive n f
    let (s, stamp, noStamp) := s.rxStamp n num den
    if excess ∨ ¬ s.fabricMoves then (s.bump (R.LNK_RX_OVF n)).dropFrame n noStamp
    else s.classify n f stamp noStamp

/-- LINK_RX_FRAME (R201). -/
def execLinkRxFrame (n : Fin 32) (f : List (BitVec 8)) (good : Bool) (num den : Nat) (excess : Bool) (s : State) : Out :=
  s.live (s.linkRx n f good num den excess)

/-- QL_TIMEOUT (R220). -/
def State.qlTimeout (s : State) (n : Nat) : State :=
  if s.flag (R.LNK_CFG_ESMC_RX n) ∧ (s.link n).esmcAt + 5 * fuPerSec ≤ s.tb.elapsed ∧ s.pwrState ≠ 2 then
    let s := s.setLink n { s.link n with esmcAt := s.tb.elapsed }
    (s.setQl n 0xF false).raise (R.LNK_EVENTS_QL_TIMEOUT n)
  else s

def execQlTimeout (n : Fin 32) (s : State) : Out := s.live (s.qlTimeout n)

/-- ESMC_TX_INFO (R220). -/
def execEsmcTxInfo (n : Fin 32) (s : State) : Out := s.live (if s.esmcSends n then s.esmcSend n false else s)

/-! ### Phase meter and compensation (R216 to R218) -/

/-- LINK_PHASE_SAMPLE (R216): the phase against hub time, which the qualifier takes (03 R81), and the round-trip phase. -/
def State.linkPhase (s : State) (n : Nat) (phase rt : Int) : State :=
  if ¬ s.flag (R.LNK_STATUS_CDR_LOCK n) then s
  else
    let s := (s.setInt64 (R.LNK_PHASE_LO n) (R.LNK_PHASE_HI n) phase).setInt64 (R.LNK_RTPH_LO n) (R.LNK_RTPH_HI n) rt
    let s := s.setLink n { s.link n with rt := (rt :: (s.link n).rt).take 1000 }
    (s.setCand (16 + n) { s.cand (16 + n) with stamp := some phase }).phaseSample (16 + n) phase 1

def execLinkPhaseSample (n : Fin 32) (phase rt : Int) (s : State) : Out := s.live (s.linkPhase n phase rt)

def State.trim (s : State) (n : Nat) : Int := toSigned 24 (s.fld (R.LNK_TRIM_TRIM n))

/-- PC_ARM (R217). -/
def State.pcArm (s : State) (n : Nat) : State :=
  if s.linkState n ≠ 3 then s.rejLink n
  else
    let s := (s.setFld (R.LNK_RTPH0_LO n) (s.fld (R.LNK_RTPH_LO n))).setFld (R.LNK_RTPH0_HI n) (s.fld (R.LNK_RTPH_HI n))
    let s := s.setLink n { s.link n with t0 := s.trim n }
    (s.raise (R.LNK_STATUS_PC_RUN n)).clr (R.LNK_STATUS_PHASE_LOST n)

def execPcArm (n : Fin 32) (s : State) : Out := s.live (s.linkGate (fun s => s.pcArm n))

/-- PC_STOP (R218). -/
def execPcStop (n : Fin 32) (s : State) : Out := s.live (s.linkGate (fun s => s.phaseLost n))

/-- The trimmer step in fu: 2^-10 of a unit interval (R217). -/
def linkTrimStep (rate : Nat) : Rat :=
  let baud : Nat := match rate with | 0 => 1250000000 | 1 => 10312500000 | _ => 25781250000
  (fuPerSec : Rat) / ((baud * 1024 : Nat) : Rat)

/-- The nearest integer; a value half way between two goes where `Config.tieUp` sends it (log 19). -/
def roundNearest (x : Rat) : Int :=
  let f := x.floor
  let d := x - f
  if d < 1 / 2 then f else if 1 / 2 < d then f + 1 else if Config.tieUp f then f + 1 else f

/-- The mean of the newest samples (R217). -/
def meanOf (l : List Int) : Rat := if l.isEmpty then 0 else (l.foldl (· + ·) 0 : Int) / (l.length : Rat)

/-- T of R217. -/
def State.pcTarget (s : State) (n : Nat) : Int :=
  let tau := min 1000 (max 1 (s.fld (R.LNK_PC_TAU_TAU n)))
  let d := meanOf ((s.link n).rt.take tau) - s.int64 (R.LNK_RTPH0_LO n) (R.LNK_RTPH0_HI n)
  let k : Rat := (s.fld (R.LNK_PC_SPLIT_K n) : Rat) / 2 ^ 32
  roundNearest ((s.link n).t0 - k * d / linkTrimStep (s.fld (R.LNK_CFG_RATE n)))

/-- PC_UPDATE (R217): at a limit the trimmer holds there. -/
def State.pcUpdate (s : State) (n : Nat) : State :=
  if ¬ s.flag (R.LNK_STATUS_PC_RUN n) ∨ (s.link n).rt.isEmpty then s
  else
    let t := s.pcTarget n
    if -8388608 ≤ t ∧ t ≤ 8388607 then
      (s.setFld (R.LNK_TRIM_TRIM n) (ofSigned 24 t)).clr (R.LNK_STATUS_PC_CLAMP n)
    else
      let s := s.setFld (R.LNK_TRIM_TRIM n) (ofSigned 24 (if t < 0 then -8388608 else 8388607))
      if s.flag (R.LNK_STATUS_PC_CLAMP n) then s
      else ((s.raise (R.LNK_STATUS_PC_CLAMP n)).raise (R.LNK_EVENTS_PC_CLAMP_SET n)).report (0x020 + n) 0 0x21

def execPcUpdate (n : Fin 32) (s : State) : Out := s.live (s.pcUpdate n)

/-- LNK_TRIM_WRITE (R218); the walk to the new value is timing. -/
def State.writeLinkTrim (s : State) (n v : Nat) : State :=
  if s.flag (R.LNK_STATUS_PC_RUN n) then s.rejLink n else s.setFld (R.LNK_TRIM_TRIM n) v

def execLnkTrimWrite (n : Fin 32) (v : BitVec 24) (s : State) : Out := s.live (s.linkGate (fun s => s.writeLinkTrim n v.toNat))

/-! ### READMIT (R223) -/

/-- Domain A is fed by a LOCKED PLL (R206, R223). -/
def State.domainALocked (s : State) : Bool := !s.domGated 0 && s.pllState (s.domSrc 0) == 3

/-- The conditions of R223: the fence is in effect and the cause has gone. -/
def State.readmitOk (s : State) (n : Nat) : Bool :=
  s.linkState n == 4 && s.domainALocked
    && s.fld (R.FLT_SRC_RAIL (0x020 + n)) == 1 && s.fld (R.FLT_SRC_RAIL (0x040 + n)) == 1

/-- LINK_READMIT (R223). -/
def State.linkReadmit (s : State) (n : Nat) : State :=
  if s.readmitOk n then
    let s := (s.fenceOff (0x020 + n)).fenceOff (0x040 + n)
    s.setLinkState n (if s.flag (R.LNK_CFG_EN n) then 1 else 0)
  else s.rejLink n

def execLinkReadmit (n : Fin 32) (s : State) : Out := s.live (s.linkGate (fun s => s.linkReadmit n))

end Sys2Proof.Machine
end

