-- ==== Sys2Proof/Machine/Records.lean ====
section
/-! DEFINITION. Machine/Records.lean: endpoint records in their banks and the rings between a shard's role and the host (09 R246 to
R249, R256, R262, R263). -/
namespace Sys2Proof.Machine

/-! ### Records. A record is handled as its 256 bytes. -/

abbrev Record := List (BitVec 8)

/-- The address of record i (R246). -/
def recordAt (i : Nat) : Nat := 0x1000000 + 0x100 * i

/-- The shard of record i (R246), and the role that serves it (R256). -/
def shardOf (i : Nat) : Nat := i / 2 ^ 14
def epsRole (g : Nat) : Nat := 8 + g

/-- The role runs: an engine that is RUNNING and issues holds it, and the shard's bank serves accesses. -/
def State.epsRuns (s : State) (g : Nat) : Bool :=
  s.enginesIssue && s.bankOpen (16 + g) && (match s.holder (epsRole g) with
    | some h => s.engState h == 1
    | none => false)

/-- A write by the role comes through the primary port when it runs on ENG_g (R246). -/
def State.epsPrim (s : State) (g : Nat) : Bool := s.holder (epsRole g) == some g

/-- Record i and whether a group of it met an error acknowledge. -/
def State.getRec (s : State) (i : Nat) : State × Record × Bool :=
  let (s, v, e) := s.readRange (16 + shardOf i) (recordAt i) 256
  (s, leBytes 256 v, e)

/-- A field of a record, lowest byte first. -/
def Record.get (r : Record) (off n : Nat) : Nat := fle r off n
def Record.put (r : Record) (off n v : Nat) : Record := overlay r off (leBytes n v)
def Record.int (r : Record) (off n : Nat) : Int := toSigned (8 * n) (fle r off n)
def Record.putInt (r : Record) (off n : Nat) (v : Int) : Record := r.put off n (ofSigned (8 * n) v)

/-- A saturating counter of four bytes plus one (R248). -/
def Record.count (r : Record) (off : Nat) : Record := r.put off 4 (min (2 ^ 32 - 1) (r.get off 4 + 1))

def Record.state (r : Record) : Nat := r.get 6 1 % 8
def Record.putState (r : Record) (v : Nat) : Record := r.put 6 1 (r.get 6 1 / 8 * 8 + v)

/-- A bit of a byte. -/
def Record.bit (r : Record) (off k : Nat) : Bool := (r.get off 1).testBit k
def Record.putBit (r : Record) (off k : Nat) (b : Bool) : Record :=
  if r.bit off k = b then r else r.put off 1 (if b then r.get off 1 + 2 ^ k else r.get off 1 - 2 ^ k)

def Record.retired (r : Record) : Bool := r.bit 6 3
def Record.borrow (r : Record) : Bool := r.bit 8 3
def Record.upstream (r : Record) : Bool := r.bit 8 4
def Record.roleNo (r : Record) : Nat := r.get 9 3
def noRole : Nat := 0xFFFFFF
def noRecord : Nat := 0xFFFFFFFF

/-- One update of a record (R249): UPD increments before and after, and bytes 0 to 255 take their new values. -/
def State.putRec (s : State) (i : Nat) (r : Record) : State :=
  (s.writeRange (16 + shardOf i) (recordAt i) 256 (leVal (r.put 142 2 (r.get 142 2 + 2))) (s.epsPrim (shardOf i))).1

/-- The bytes of a record as the role has them, for the two preconditions that look through a shard. -/
def State.peekRec (s : State) (i off n : Nat) : Nat := s.bytes (recordAt i + off) n

/-- The record of the shard that borrows the role of d, if one does (R259). -/
def State.borrower (s : State) (d : Nat) : Option Nat :=
  ((List.range (2 ^ 14)).map (fun k => shardOf d * 2 ^ 14 + k)).find? (fun i =>
    (s.peekRec i 8 1).testBit 3 && s.peekRec i 12 4 == d)

/-- A launch whose handle a record's LAUNCH_0 to 3 holds completed LATE: the role counts it (R268). -/
def State.countLate (s : State) (link handle : Nat) : State :=
  let g := link / 4
  if ¬ s.epsRuns g then s
  else
    match ((List.range (2 ^ 14)).map (fun k => g * 2 ^ 14 + k)).find? (fun i =>
      [176, 184, 192, 200].any (fun o => s.peekRec i o 4 == handle)) with
    | some i =>
      let (s, r, e) := s.getRec i
      if e then s else s.putRec i (r.count 152)
    | none => s

/-! ### The working data of the role -/

def State.epRun (s : State) (i : Nat) : EpRun := Tab.get (fun _ => EpRun.init) s.eps.runs i
def State.setEpRun (s : State) (i : Nat) (x : EpRun) : State :=
  { s with eps := { s.eps with runs := Tab.set (fun _ => EpRun.init) s.eps.runs i x } }

/-! ### The rings of a shard (R262, 12 R359, R360) -/

/-- An entry of 32 bytes into a ring of RB_1; a full ring drops it with FULL_SET. -/
def State.ringPut (s : State) (r : Nat) (l : List (BitVec 8)) : State :=
  if s.ringsFenced ∨ ¬ s.bankOpen 25 ∨ s.ringEsz r ≠ 32 then s
  else if s.ringRoom r = 0 then s.ringFull r
  else ((s.writeRange 25 (s.ringEntry r (s.ringTail r)) 32 (leVal l) true).1).ringPushTail r 1

/-- An alarm entry for a record's change of state (R263). -/
def State.epAlarm (s : State) (i kind st : Nat) (r : Record) : State :=
  s.ringPut (112 + shardOf i) (leBytes 1 kind ++ leBytes 1 st ++ leBytes 2 0 ++ leBytes 4 i ++ leBytes 4 (r.get 0 4)
    ++ leBytes 4 s.hubSec ++ leBytes 16 0)

end Sys2Proof.Machine
end

