-- ==== Sys2Proof/Machine/Launch.lean ====
section
/-! DEFINITION. Machine/Launch.lean: frames that leave a port, from ring 32 + n and from the launch calendar (07 R209 to R215, 09 R265
to R270). -/
namespace Sys2Proof.Machine

def tolFu (ns : Nat) : Nat := ns * 65536

/-- The launch horizon, 2^32 ns (R212, 09 R266). -/
def horizon : Nat := 2 ^ 32 * 65536

/-! ### The ring head (R209, R210) -/

/-- The launch at the head of ring 32 + n: its 32 header bytes and frame, and whether an uncorrectable group was met
(12 R361). None on an empty or fenced ring, on a closed bank, or while entries of the frame are still to come. -/
def State.ringLaunch (s : State) (n : Nat) : State × Option (List (BitVec 8) × Bool) :=
  let r := 32 + n
  if ¬ s.ringOn r ∨ s.ringsFenced ∨ s.ringCount r = 0 then (s, none)
  else if ¬ s.bankOpen 24 then ((s.bankOff).report (0x020 + n) 1 0x0A, none)
  else
    let head := s.ringHead r
    let (s, h, e) := s.readRange 24 (s.ringEntry r head) 128
    let first := leBytes 128 h
    let ents := if sizeOk first then entriesFor (launchLen first) else 1
    if s.ringCount r < ents then (s, none)
    else
      let (s, l, e) := (List.range (ents - 1)).foldl (fun acc k =>
        let (s, v, e') := acc.1.readRange 24 (s.ringEntry r (head + 1 + k)) 128
        (s, acc.2.1 ++ leBytes 128 v, acc.2.2 || e')) (s, first, e)
      (s, some (l.take (32 + launchLen l), e))

/-- Entries that a launch at the head occupies; free where LEN and ENTRIES do not agree (log 20). -/
def State.headEntries (s : State) (n : Nat) (raw : List (BitVec 8)) : Nat :=
  if sizeOk raw then launchEntries raw
  else max 1 (min (s.ringCount (32 + n)) (Config.formatEntries (launchLen raw) (launchEntries raw)))

def State.held (s : State) (n : Nat) : Nat := Tab.get (fun _ => 0) s.pwr.held n
def State.setHeld (s : State) (n k : Nat) : State :=
  { s with pwr := { s.pwr with held := Tab.set (fun _ => 0) s.pwr.held n k } }

/-- The frame at the head of ring 32 + n has been tested for HORIZON (R212). -/
def State.setHeaded (s : State) (n : Nat) (b : Bool) : State := s.setLink n { s.link n with headed := b }

/-! ### Outcomes (R212) -/

/-- The counters and the event of a status (R212). -/
def State.countLaunch (s : State) (n code : Nat) : State :=
  match code with
  | 0 => s.bump (R.LNK_TX_SENT n)
  | 5 => s.bump (R.LNK_TX_SENT n)
  | 1 => (s.bump (R.LNK_TX_LATE n)).raise (R.LNK_EVENTS_LATE_SET n)
  | _ => s.bump (R.LNK_TX_OTHER n)

/-- The outcome written into a first entry or block: bytes 0 to 15 when the frame departed, and STATUS. -/
def State.outcomeAt (s : State) (b a code : Nat) (stamp : Option Nat) (prim : Bool) : State :=
  let s := match stamp with
    | some v => (s.writeRange b a 16 v prim).1
    | none => s
  (s.writeRange b (a + 24) 1 code prim).1

/-- A ring frame completes: its outcome, then the ring manager frees its entries (R212). -/
def State.ringComplete (s : State) (n : Nat) (raw : List (BitVec 8)) (code : Nat) (stamp : Option Nat) : State :=
  let r := 32 + n
  let k := min (s.ringCount r) (s.headEntries n raw)
  let s := s.outcomeAt 24 (s.ringEntry r (s.ringHead r)) code stamp true
  (((s.countLaunch n code).setHeld n (s.held n - k)).setHeaded n false).ringPopHead r k

/-- The thread or threads of the holder that carry the present token of the role; THR_0 when none does (10 R281;
DEDUCED, log 22). -/
def State.launchDone (s : State) (n : Nat) : State :=
  let role := 8 + n / 4
  match s.holder role with
  | some h =>
    let l := (List.range 4).filter (fun t => (s.thread h t).ep == s.token role)
    (if l.isEmpty then [0] else l).foldl (fun s t => s.raiseEvent h t 16) s
  | none => s

/-- The handle of R265. -/
def handleOf (link slot gen : Nat) : Nat := 2 ^ 31 + link * 2 ^ 26 + slot * 2 ^ 16 + gen

/-- A calendar launch completes (09 R268). -/
def State.calComplete (s : State) (n : Nat) (x : Launch) (code : Nat) (stamp : Option Nat) : State :=
  let b := (bankOf x.buf).getD 0
  let s := if s.bankOpen b then s.outcomeAt b x.buf code stamp false else (s.bankOff).report (0x020 + n) 1 0x0A
  let l := s.link n
  let s := (s.setLink n { l with cal := l.cal.filter (fun y => y.slot != x.slot) }).countLaunch n code
  let s := if code = 1 then s.countLate n (handleOf n x.slot x.gen) else s
  if x.notify then s.launchDone n else s

/-! ### The calendar (R210, 09 R265 to R270) -/

/-- The calendar head (R210: ordered by AT). -/
def State.calHead (s : State) (n : Nat) : Option Launch := (s.link n).cal.head?

/-- The port fetches a calendar frame from its bank; a gate or a bad group cannot supply it (09 R268). -/
def State.calFetch (s : State) (n : Nat) (x : Launch) : State :=
  let b := (bankOf x.buf).getD 0
  let put (s : State) (v : Option (List (BitVec 8))) : State :=
    let l := s.link n
    s.setLink n { l with cal := l.cal.map (fun y => if y.slot = x.slot then { y with frame := some v } else y) }
  if ¬ s.bankOpen b then put ((s.bankOff).report (0x020 + n) 1 0x0A) none
  else
    let (s, h, e) := s.readRange b x.buf 32
    let len := min 1526 (launchLen (leBytes 32 h))
    let (s, v, e') := s.readRange b (x.buf + 32) len
    put s (if e || e' then none
      else some (leBytes 12 (encodeHub x.at_) ++ leBytes 2 x.tol ++ (leBytes 32 h).drop 14 ++ leBytes len v))

/-- The start of a launch's fetch has come: 20 us before AT (R210). -/
def State.fetchTime (s : State) (x : Launch) : Bool := decide (x.at_ ≤ s.tb.now + 20 * fuPerUs)

/-- CALENDAR_FETCH (R210). -/
def State.calendarFetch (s : State) (n : Nat) : State :=
  if ¬ s.fabricMoves ∨ ¬ s.tb.running then s
  else match (s.link n).cal.find? (fun x => x.frame.isNone && s.fetchTime x) with
    | some x => s.calFetch n x
    | none => s

def execCalendarFetch (n : Fin 32) (s : State) : Out := s.live (s.calendarFetch n)

/-- Insertion in order of AT, behind launches of equal AT. -/
def insertLaunch (x : Launch) : List Launch → List Launch
  | [] => [x]
  | y :: l => if x.at_ < y.at_ then x :: y :: l else y :: insertLaunch x l

/-- The banks of R265: DB, EP and HB. -/
def launchBank (a : Nat) : Bool :=
  match bankOf a with
  | some b => (decide (8 ≤ b) && decide (b ≤ 23)) || b == 27
  | none => false

/-- The token is that of EPS_floor(LINK / 4) (09 R266). -/
def ownsLaunch (tok link : Nat) : Bool := tok / 256 % 64 == 8 + link / 4

/-- The header that the launch logic reads at admission (09 R266). -/
def State.launchHeader (s : State) (link buf : Nat) : State × List (BitVec 8) :=
  let b := (bankOf buf).getD 0
  let (s, h, _) := s.readRange b buf 32
  let s := if s.bankOpen b then s else s.report (0x020 + link) 1 0x0A
  (s, leBytes 32 h)

/-- The launch enters the calendar in a free slot, whose choice is free (log 21). -/
def State.calPlace (s : State) (link buf : Nat) (notify : Bool) (h : List (BitVec 8)) : State × Nat × Nat :=
  let l := s.link link
  let free := (List.range 1024).filter (fun k => !l.cal.any (fun x => x.slot == k))
  match pickOne free buf with
  | none => (s, 1, 0)
  | some slot =>
    let gen := (Tab.get (fun _ => 0) l.gens slot + 1) % 2 ^ 16
    let tol := if launchFlag h 3 then launchTol h else s.fld (R.LNK_LATE_TOL_TOL link)
    let x : Launch := { slot := slot, gen := gen, at_ := decodeHub (launchAt h), tol := tol, buf := buf, notify := notify, frame := none }
    (s.setLink link { l with cal := insertLaunch x l.cal, gens := Tab.set (fun _ => 0) l.gens slot gen }, 0,
      handleOf link slot gen)

/-- PLACE (09 R266): the code and the handle. -/
def State.schedPlace (s : State) (tok link buf : Nat) (notify : Bool) : State × Nat × Nat :=
  if ¬ ownsLaunch tok link then (s, 5, 0)
  else if buf % 128 ≠ 0 ∨ ¬ launchBank buf then (s, 4, 0)
  else
    let (s, h) := s.launchHeader link buf
    let at_ := decodeHub (launchAt h)
    if ¬ headerOk h ∨ launchAt h = 0 ∨ ¬ launchBank (buf + 128 * launchEntries h - 1) then (s, 4, 0)
    else if s.tb.now + horizon < at_ then (s, 2, 0)
    else if at_ < s.tb.now + 25 * fuPerUs then (s, 3, 0)
    else s.calPlace link buf notify h

/-- CANCEL (09 R269). -/
def State.schedCancel (s : State) (tok handle : Nat) : State × Nat :=
  let link := handle / 2 ^ 26 % 32
  if ¬ ownsLaunch tok link then (s, 5)
  else
    let l := s.link link
    match l.cal.find? (fun x => handle / 2 ^ 31 % 2 == 1 && x.slot == handle / 2 ^ 16 % 1024 && x.gen == handle % 2 ^ 16) with
    | none => (s, 6)
    | some x =>
      if x.frame.isSome ∨ s.fetchTime x then (s, 7)
      else (s.setLink link { l with cal := l.cal.filter (fun y => y.slot != x.slot) }, 0)

/-! ### Departure (R211 to R215) -/

/-- The status with which a frame at a head ends without leaving, if it does (R212). `late` says that it fell due while
the part was in IDLE or SLEEP (15 R422), `tested` that HORIZON was tested before: when the frame reached the head, or at
admission (09 R266). -/
def State.launchFails (s : State) (n : Nat) (raw : List (BitVec 8)) (at_ : Option Nat) (tol : Nat) (late tested : Bool) :
    Option Nat :=
  let due := match at_ with | none => true | some a => decide (a ≤ s.tb.now)
  let far := match at_ with | none => false | some a => decide (s.tb.now + horizon < a)
  let st := s.linkState n
  if ¬ formatOk raw then some 3
  else if far && !tested then some 4
  else if st != 3 && st != 4 && due then some 2
  else if late || (st == 4 && due) then some 1
  else match at_ with
    | some a => if a + tolFu tol < s.tb.now then some 1 else none
    | none => none

/-- AT of a ring frame; none for an immediate one (R209). -/
def ringAt (raw : List (BitVec 8)) : Option Nat := if launchAt raw = 0 then none else some (decodeHub (launchAt raw))

def State.ringTol (s : State) (n : Nat) (raw : List (BitVec 8)) : Nat :=
  if launchFlag raw 3 then launchTol raw else s.fld (R.LNK_LATE_TOL_TOL n)

/-- The frame at the ring head fell due while the part was held (15 R422). -/
def State.ringLate (s : State) (n : Nat) (raw : List (BitVec 8)) : Bool :=
  decide (0 < s.held n) && (match ringAt raw with | none => true | some a => decide (a < s.pwr.wokeAt))

/-- A departing frame with its insertions, padding and FCS (R209, R214, R215); `t` is the predicted departure in fu. -/
def State.departBytes (s : State) (n t : Nat) (raw : List (BitVec 8)) : List (BitVec 8) :=
  let f := raw.drop 32
  let q := s.fld R.SEAM_STATUS_TS_STATE
  let g := if launchFlag raw 0 then insertTime f t else f
  let g := if launchFlag raw 1 then
      insertQuality g (s.fld (R.LNK_QUAL_W0_CLASS n q)) (s.fld (R.LNK_QUAL_W0_ACC n q)) (s.fld (R.LNK_QUAL_W0_VAR n q))
    else g
  let g := if launchFlag raw 2 then insertUtc g (s.fld R.TB_UTC_OFFSET_OFFSET) else g
  withFcs (padFrame (if launchFlag raw 0 || launchFlag raw 1 || launchFlag raw 2 then keepValid f g else f))

/-- A frame departs: its bytes, its LTX stamp record (R202, R212), and the status. `dur` is the time it takes on the wire
and `pred` how far the predicted departure lies from the stamp, in fu (R214). -/
def State.depart (s : State) (n : Nat) (raw : List (BitVec 8)) (num den dur : Nat) (pred : Int) : State × Nat × Nat :=
  let c := 32 + n
  let t := s.stampTime c num den
  let l := s.link n
  let s := s.setLink n { l with
    sent := s.departBytes n (t + pred).toNat raw, cut := false, wire := s.tb.elapsed + dur }
  if s.coreless c then (s.missEdge c, 5, 2 ^ 96 * c)
  else (s.stamped c true, 0, s.stampRecord c t false)

def State.sendRing (s : State) (n : Nat) (raw : List (BitVec 8)) (num den dur : Nat) (pred : Int) : State :=
  let (s, code, r) := s.depart n raw num den dur pred
  s.ringComplete n raw code (some r)

def State.sendCal (s : State) (n : Nat) (x : Launch) (raw : List (BitVec 8)) (num den dur : Nat) (pred : Int) : State :=
  let (s, code, r) := s.depart n raw num den dur pred
  s.calComplete n x code (some r)

/-- A calendar head that is due without a fetch is fetched now (R211: a forward step). -/
def State.calReady (s : State) (n : Nat) : State :=
  match s.calHead n with
  | some x => if x.frame.isNone ∧ x.at_ ≤ s.tb.now then s.calFetch n x else s
  | none => s

/-- The status with which the calendar head ends without leaving, if it does. -/
def State.calFails (s : State) (n : Nat) (x : Launch) : Option Nat :=
  match x.frame with
  | some (some raw) => s.launchFails n raw (some x.at_) x.tol (decide (x.at_ < s.pwr.wokeAt)) true
  | some none => if s.tb.now < x.at_ then none else some 1
  | none => none

/-- The arbitration of R211 between the frames that can leave: 0 none, 1 ring, 2 calendar. -/
def State.arbitrate (s : State) (ring : Option (Option Nat)) (cal : Option Nat) (dur : Nat) : Nat :=
  let now := s.tb.now
  let calDue := match cal with | some c => decide (c ≤ now) | none => false
  match ring with
  | some (some a) =>
    if a ≤ now then (match cal with | some c => if c ≤ a then 2 else 1 | none => 1)
    else if calDue then 2 else 0
  | some none =>
    if calDue then 2
    else (match cal with | some c => if now + dur < c then 1 else 0 | none => 1)
  | none => if calDue then 2 else 0

/-- A frame leaves the port (R211). -/
def State.launchSend (s : State) (n : Nat) (ring : Option (List (BitVec 8))) (num den dur : Nat) (pred : Int) : State :=
  if s.linkState n ≠ 3 ∨ s.tb.elapsed < (s.link n).wire then s
  else
    let cal := s.calHead n
    match s.arbitrate (ring.map ringAt) (cal.map (fun x => x.at_)) dur, ring, cal with
    | 1, some raw, _ => s.sendRing n raw num den dur pred
    | 2, _, some ⟨slot, gen, at_, tol, buf, notify, some (some raw)⟩ =>
      s.sendCal n ⟨slot, gen, at_, tol, buf, notify, some (some raw)⟩ raw num den dur pred
    | _, _, _ => s

/-- What the two heads of a port do (R211, R212): a head that fails completes; else a frame may leave. -/
def State.launchStep (s : State) (n num den dur : Nat) (pred : Int) : State :=
  let s := s.calReady n
  let (s, ring) := s.ringLaunch n
  let fail := match ring with
    | some (raw, bad) => if bad then some (raw, 1)
      else (s.launchFails n raw (ringAt raw) (s.ringTol n raw) (s.ringLate n raw) (s.link n).headed).map (fun c => (raw, c))
    | none => none
  match fail with
  | some (raw, code) => s.ringComplete n raw code none
  | none =>
    let s := if ring.isSome then (s.setHeld n 0).setHeaded n true else s
    match s.calHead n with
    | none => s.launchSend n (ring.map (fun x => x.1)) num den dur pred
    | some x =>
      match s.calFails n x with
      | some code => s.calComplete n x code none
      | none => s.launchSend n (ring.map (fun x => x.1)) num den dur pred

/-- LAUNCH_FRAME (R210 to R215). Nothing falls due while the time base holds (14 R407), and nothing moves in IDLE and
SLEEP (15 R422). -/
def State.launchFrame (s : State) (n num den dur : Nat) (pred : Int) : State :=
  if ¬ s.fabricMoves ∨ ¬ s.tb.running then s else s.launchStep n num den dur pred

def execLaunchFrame (n : Fin 32) (num den dur : Nat) (pred : Int) (s : State) : Out :=
  s.live (s.launchFrame n num den dur pred)

/-! ### EN = 0 (R213) -/

/-- Every frame in ring 32 + n completes DOWN, in ring order. -/
def State.ringDown (n : Nat) : Nat → State → State
  | 0, s => s
  | k + 1, s =>
    match s.ringLaunch n with
    | (s, some (raw, _)) => State.ringDown n k (s.ringComplete n raw 2 none)
    | (s, none) => s

/-- Every launch in the calendar completes DOWN, in calendar order. -/
def State.calDown (s : State) (n : Nat) : State := (s.link n).cal.foldl (fun s x => s.calComplete n x 2 none) s

/-- What EN = 0 does to a port that is enabled (R213, R218): the frame on the wire ends as it would. -/
def State.linkStop (s : State) (n : Nat) : State :=
  let s := (State.ringDown n (s.ringCount (32 + n)) s).calDown n
  let s := s.phaseLost n
  if s.linkState n = 4 then s
  else
    let s := (s.setLinkState n 0).linkLos n
    (s.clr (R.LNK_STATUS_CDR_LOCK n)).clr (R.LNK_STATUS_AN_DONE n)

/-- LINK_DISABLE (R213): a write of LNK_CFG with EN = 0. -/
def State.writeDisable (s : State) (n v : Nat) : State :=
  let was := s.flag (R.LNK_CFG_EN n)
  let s := s.linkFields n v
  if was then (s.clr (R.LNK_CFG_EN n)).linkStop n else s

def execLinkDisable (n : Fin 32) (v : BitVec 32) (s : State) : Out := s.live (s.linkGate (fun s => s.writeDisable n v.toNat))

end Sys2Proof.Machine
end

