-- ==== Sys2Proof/Machine/Feed.lean ====
section
/-! DEFINITION. Machine/Feed.lean: FEEDs (02 R59, R60, 04 R112, 14 R409). -/
namespace Sys2Proof.Machine

/-- The status of a FEED (R59), in the order of its checks. -/
def State.feedCode (s : State) (x : Int) (raw : Nat) : Nat :=
  let src := s.tsvSrc
  let t := decodeHub raw
  if src = 0 ∨ src = 1 ∨ (s.holding ∧ (src = 3 ∨ s.seamFenced)) then 1
  else if ¬ hubLegal raw then 5
  else if s.tb.now < t ∨ t + s.fld R.TSV_FEED_AGE_AGE * fuPerMs < s.tb.now then 2
  else if (match s.tsv.lastFeed with | some l => decide (t ≤ l) | none => false) then 3
  else if 0 < s.stage ∧ s.fld R.TSV_XLIM_XLIM < x.natAbs then 4
  else 0

/-- Every status other than APPLIED is counted (R59). -/
def State.feedCount (s : State) (code : Nat) : State :=
  match code with
  | 1 => s.bump R.TSV_COUNT_IGNORED
  | 2 => s.bump R.TSV_COUNT_STALE
  | 3 => s.bump R.TSV_COUNT_ORDER
  | 4 => s.bump R.TSV_COUNT_OUTLIER
  | 5 => (s.bump R.TSV_COUNT_FORMAT).raise R.TB_STATUS_HT_REJ
  | _ => s

/-- The state follows the FEEDs under SRC = FEED (04 R112, R513; 14 R409). -/
def State.feedState (s : State) : State :=
  if s.tsState = 3 ∨ s.tsState = 4 then s.leaveHoldover
  else if s.tsState = 0 ∧ ¬ s.isFree ∧ ¬ s.seamFenced then (s.enterStage 0).toAcquiring
  else s

/-- An applied FEED (R60). -/
def State.feedApply (s : State) (x : Int) (t : Nat) : State :=
  let last := s.tsv.lastFeed
  if s.tsvSrc = 3 then
    let s := s.moveBias
    { s with tsv := { s.tsv with biasTarget := x, lastFeed := some t } }
  else
    let s := s.feedState
    let tau := match s.tsv.lastIn, last with
      | some _, some l => some (t - l)
      | _, _ => none
    let s := { s with tsv := { s.tsv with lastFeed := some t }, seam := { s.seam with feedAt := s.tb.elapsed } }
    (s.noteInput x).servoInput x tau

/-- A FEED at its admission (R59): its status, and the state. `raw` is the measurement time in the format of 00 R7. -/
def State.feed (s : State) (x : Int) (raw : Nat) : Nat × State :=
  let code := s.feedCode x raw
  (code, if code = 0 then s.feedApply x (decodeHub raw) else s.feedCount code)

end Sys2Proof.Machine
end

