-- ==== Sys2Proof/Machine/Nv.lean ====
section
/-! DEFINITION. Machine/Nv.lean: the NV store (13 R391 to R400): window accesses, page buffers, commits, the scan and the records.
The voltages of R395 are those that NV_RES_MV and NV_VIN_MV show; the commands of the store bring them (log 24). -/
namespace Sys2Proof.Machine

/-- The window serves accesses: no scan (R392) and no fence (16 R446). -/
def State.nvOpen (s : State) : Bool := !s.flag R.NV_STATUS_SCAN_BUSY && !s.fenced 0x01A

/-- A check of R395 fails. -/
def State.nvLow (s : State) : Bool := decide (s.fld R.NV_VIN_MV < 3000) || decide (s.fld R.NV_RES_MV < 4200)

/-- The two voltages as sensed. -/
def State.nvSense (s : State) (res vin : Nat) : State :=
  ((s.setFld R.NV_RES_MV (min 65535 res)).setFld R.NV_VIN_MV (min 65535 vin))

def State.setBufs (s : State) (l : List NvBuf) : State :=
  ({ s with stores := { s.stores with bufs := l } }).setFld R.NV_STATUS_OPEN l.length

/-- The open buffer of a page. -/
def State.nvBuf (s : State) (page : Nat) : Option NvBuf := s.stores.bufs.find? (fun b => b.page == page)

/-- The group of an offset: 0 good, 1 uncorrectable, 2 with a single-bit error (R393). -/
def State.nvEcc (s : State) (off : Nat) : Nat := s.ecc ((nvBase + off) / 8)

/-- A single-bit error met at an offset (R393). -/
def State.nvCe (s : State) : State :=
  let s := if s.flag R.NV_EVENTS_CE_SET then s else s.report 0x01A 0 0x07
  (s.bump R.NV_CE).raise R.NV_EVENTS_CE_SET

/-- An uncorrectable group met at an offset (R393). -/
def State.nvUe (s : State) (off : Nat) : State :=
  let s := if s.flag R.NV_EVENTS_FAIL_SET then s else s.setFld R.NV_UE_ADDR (off / 8 * 8)
  ((s.bump R.NV_UE).raise R.NV_EVENTS_FAIL_SET).report 0x01A 1 0x06

/-- An aligned 32-bit read of the window (R391, R393, R394): the data, and whether it met an error acknowledge. -/
def State.nvRead (s : State) (off : Nat) : State × Nat × Bool :=
  match s.nvBuf (off / 64) with
  | some b => (s, b.data / 256 ^ (off % 64) % 2 ^ 32, false)
  | none =>
    match s.nvEcc off with
    | 1 => (s.nvUe off, 0, true)
    | 2 => (s.nvCe, s.bytes (nvBase + off) 4, false)
    | _ => (s, s.bytes (nvBase + off) 4, false)

/-- The eight groups of a page take fresh codes. -/
def State.freshPage (s : State) (page : Nat) : State :=
  (List.range 8).foldl (fun s k => s.setEcc (nvBase / 8 + 8 * page + k) 0) s

/-- A commit of a buffer (R395): refused NV_LOW, or every byte reads new and the marker is complete. -/
def State.nvCommit (s : State) (b : NvBuf) : State :=
  let s := s.setBufs (s.stores.bufs.filter (fun x => x.page != b.page))
  if s.nvLow then ((s.bump R.NV_LOWDROP).raise R.NV_EVENTS_LOW_SET).report 0x01A 1 0x19
  else
    let s := (s.setBytes (nvBase + 64 * b.page) 64 b.data).freshPage b.page
    { s with stores := { s.stores with torn := s.stores.torn.filter (fun p => p != b.page) } }

/-- The reserve fails, outside its specification, while a buffer is committed (R396): its place among the open buffers, the groups written
before, and what the interrupted group then holds: 0 old, 1 new, else it is uncorrectable. The page's marker stays incomplete. -/
def State.tearCommit (s : State) (tear : Option (Nat × Nat × Nat)) : State :=
  match tear with
  | none => s
  | some (i, g, how) => match s.stores.bufs[i]? with
    | none => s
    | some b =>
      let a := nvBase + 64 * b.page
      let n := if how = 1 then min 8 (g + 1) else min 8 g
      let s := (List.range n).foldl (fun s k => (s.setBytes (a + 8 * k) 8 (b.data / 256 ^ (8 * k))).setEcc (a / 8 + k) 0) s
      let s := if g < 8 ∧ 2 ≤ how then s.setEcc (a / 8 + g) 1 else s
      { s with stores := { s.stores with torn := b.page :: s.stores.torn.filter (fun p => p != b.page) } }

/-- Every open buffer is committed, in the order the buffers were opened (R394). -/
def State.nvFlush (s : State) : State := if s.nvOpen then s.stores.bufs.foldl (fun s b => s.nvCommit b) s else s

/-- A 32-bit value merged into a page (R394). -/
def mergeWord (data off v : Nat) : Nat :=
  data - data / 256 ^ off % 2 ^ 32 * 256 ^ off + v % 2 ^ 32 * 256 ^ off

/-- A buffer for the page, the oldest committed first when eight are open (R394). Filling it is no read of R393 (log 42). -/
def State.openBuf (s : State) (page : Nat) : State :=
  match s.nvBuf page with
  | some _ => s
  | none =>
    let s := if s.stores.bufs.length < 8 then s
      else match s.stores.bufs.head? with
        | some b => s.nvCommit b
        | none => s
    s.setBufs (s.stores.bufs ++ [{ page := page, data := s.bytes (nvBase + 64 * page) 64, last := s.tb.elapsed }])

/-- An aligned 32-bit write to the window (R394). -/
def State.nvWrite (s : State) (off v : Nat) : State :=
  let page := off / 64
  let s := s.openBuf page
  let put (b : NvBuf) : NvBuf :=
    if b.page = page then { b with data := mergeWord b.data (off % 64) v, last := s.tb.elapsed } else b
  let s := s.setBufs (s.stores.bufs.map put)
  if off % 64 = 0x3C then
    match s.nvBuf page with
    | some b => s.nvCommit b
    | none => s
  else s

/-- NV_WRITE (R394): an aligned 32-bit write that the window admits. -/
def execNvWrite (off : BitVec 17) (v : BitVec 32) (res vin : Nat) (s : State) : Out :=
  s.awake (let s := s.nvSense res vin
    if s.nvOpen then s.nvWrite (4 * off.toNat) v.toNat else s)

/-- NV_BUFFER_IDLE_COMMIT (R394). -/
def State.nvIdle (s : State) : State :=
  (s.stores.bufs.filter (fun b => decide (b.last + 100 * fuPerUs ≤ s.tb.elapsed))).foldl (fun s b => s.nvCommit b) s

def execNvBufferIdleCommit (res vin : Nat) (s : State) : Out := s.awake (s.nvSense res vin).nvIdle

/-- NV_FLUSH (R394). -/
def execNvFlush (res vin : Nat) (s : State) : Out := s.awake (s.nvSense res vin).nvFlush

/-! ### Records (R397 to R399) -/

/-- The offset of copy c of record k, the size of its payload (R397). -/
def recBase (k c : Nat) : Nat :=
  match k with
  | 0 => 0x400 * c
  | 1 => 0x800 + 0x400 * c
  | _ => 0x1000 + 0x800 * c

def recLen (k : Nat) : Nat := match k with | 0 => 320 | 1 => 928 | _ => 1024

/-- Bytes of a copy: header, payload, CRC (R398). -/
def recSpan (k : Nat) : Nat := 20 + recLen k

/-- A field of a copy. -/
def State.recField (s : State) (k c off n : Nat) : Nat := s.bytes (nvBase + recBase k c + off) n

/-- A copy is valid (R398). -/
def State.copyValid (s : State) (k c : Nat) : Bool :=
  let base := recBase k c
  let n := 16 + recLen k
  s.recField k c 0 4 == 0x4352564E && s.recField k c 4 2 == k + 1 && s.recField k c 6 2 == 1
    && s.recField k c 12 4 == recLen k
    && s.recField k c n 4 == crc32 (leBytes n (s.recField k c 0 n))
    && (List.range (recSpan k)).all (fun i => s.nvEcc (base + i) != 1 && !s.stores.torn.contains ((base + i) / 64))

def State.recSeq (s : State) (k c : Nat) : Nat := s.recField k c 8 4

/-- Selection of a copy (R399): CUR, and whether it is a tie. -/
def State.selectCopy (s : State) (k : Nat) : Nat × Bool :=
  let a := s.recSeq k 0
  let b := s.recSeq k 1
  let d := (a + 2 ^ 32 - b) % 2 ^ 32
  if d = 0 then (0, !(s.recField k 0 0 (recSpan k) == s.recField k 1 0 (recSpan k)))
  else if d < 2 ^ 31 then (0, false)
  else if 2 ^ 31 < d then (1, false)
  else (0, true)

/-- One record is evaluated (R399). -/
def State.evalRecord (s : State) (k : Nat) : State :=
  let va := s.copyValid k 0
  let vb := s.copyValid k 1
  let (cur, tie) := if va && vb then s.selectCopy k else (if vb && !va then 1 else 0, false)
  let bit (b : Bool) : Nat := if b then 1 else 0
  let s := ((s.setFld (R.NV_REC_VALID_A k) (bit va)).setFld (R.NV_REC_VALID_B k) (bit vb)).setFld (R.NV_REC_CUR k) cur
  let s := (s.setFld (R.NV_REC_PRESENT k) (bit (va || vb))).setFld (R.NV_REC_TIE k) (bit tie)
  let s := s.setFld (R.NV_REC_SEQ_SEQ k) (if va || vb then s.recSeq k cur else 0)
  if tie then (s.raise R.NV_EVENTS_TIE_SET).report 0x01A 0 0x1A else s

def State.evalRecords (s : State) : State := ((s.evalRecord 0).evalRecord 1).evalRecord 2

/-- NV_RECHECK (R399). -/
def execNvRecheck (s : State) : Out := s.awake s.evalRecords

/-- Bytes of the payload of the selected copy; none when the record is absent. -/
def State.recPayload (s : State) (k off n : Nat) : Option Nat :=
  if s.flag (R.NV_REC_PRESENT k) then some (s.recField k (s.fld (R.NV_REC_CUR k)) (16 + off) n) else none

/-! ### The scan (R392, R396) -/

/-- A page found with an incomplete marker (R396). -/
def State.foundTorn (s : State) (p : Nat) : State :=
  let s := if s.flag R.NV_EVENTS_TORN_SET then s else s.setFld R.NV_TORN_ADDR (64 * p)
  (s.bump R.NV_TORN).raise R.NV_EVENTS_TORN_SET

/-- The scan completes with the pages it found torn and the groups with a correctable and an uncorrectable error. -/
def State.nvScan (s : State) (torn ce ue : List Nat) : State :=
  if ¬ s.flag R.NV_STATUS_SCAN_BUSY then s
  else
    let torn := (torn.map (fun p => p % 8192)).eraseDups
    let s := { s with stores := { s.stores with torn := torn ++ s.stores.torn.filter (fun p => !torn.contains p) } }
    let s := ce.eraseDups.foldl (fun s g => (s.setEcc (nvBase / 8 + g % 65536) 2).nvCe) s
    let s := ue.eraseDups.foldl (fun s g => (s.setEcc (nvBase / 8 + g % 65536) 1).nvUe (8 * (g % 65536))) s
    let s := s.stores.torn.foldl (fun s p => s.foundTorn p) s
    ((s.clr R.NV_STATUS_SCAN_BUSY).raise R.NV_EVENTS_SCAN_DONE).evalRecords

end Sys2Proof.Machine
end

