-- ==== Sys2Proof/Machine/Endpoints.lean ====
section
/-! DEFINITION. Machine/Endpoints.lean: the endpoint service (09 R256 to R264, 17 R477), as the program of the factory image runs it:
intervals, frames and exchanges, and the commands of the host. -/
namespace Sys2Proof.Machine

/-! ### Intervals (R257) -/

/-- The length of a record's interval, 2^e s for e = -4 to 6, in fu; an exponent outside acts as the nearer end
(DESIGN CHOICE, log 26). -/
def intervalFu (r : Record) : Nat :=
  fuPerSec / 16 * 2 ^ (min 6 (max (-4) (r.int 7 1)) + 4).toNat

/-- The number of the present interval of record i: intervals begin at every multiple of 2^e s, offset by
(i[13:0] / 16,384) 2^e s. -/
def State.intervalNo (s : State) (i : Nat) (r : Record) : Nat :=
  let n := intervalFu r
  (s.tb.now + n - i % 2 ^ 14 * n / 2 ^ 14) / n

/-- The hub time at which interval k of record i begins. -/
def intervalStart (i k : Nat) (r : Record) : Nat :=
  let n := intervalFu r
  k * n + i % 2 ^ 14 * n / 2 ^ 14 - n

/-- The states in which exchanges run (R258). -/
def inService (st : Nat) : Bool := st == 1 || st == 2 || st == 3 || st == 5

/-- An exchange in progress is abandoned (R258). -/
def Record.abandon (r : Record) : Record :=
  if r.bit 141 0 then ((r.putBit 141 0 false).putBit 141 1 true).count 148 else r

/-- A new state; a record that leaves the states of R258 abandons its exchange. -/
def Record.enter (r : Record) (st : Nat) : Record := (if inService st then r else r.abandon).putState st

/-- A new measurement of MPD begins: the role's mean starts afresh. -/
def EpRun.afresh (x : EpRun) : EpRun := { x with ds := [], run := 0 }

/-- SERVED, or SPARED with BORROW (R256). -/
def Record.servedState (r : Record) : Nat := if r.borrow then 5 else 2

/-- DEAD_K, JOIN_N (R272). -/
def State.deadK (s : State) : Nat := max 2 (s.fld R.EPD_CFG_DEAD_K)
def State.joinN (s : State) : Nat := max 1 (s.fld R.EPD_CFG_JOIN_N)

/-- The state after an interval without a matched frame, SILENT_N incremented (R256). -/
def State.afterSilence (s : State) (r : Record) : Nat :=
  let st := r.state
  if (st = 1 ∨ st = 3) ∧ s.deadK ≤ r.get 140 1 then 4
  else if st = 2 ∨ st = 5 then 3
  else st

/-- The alarm of a change of state (R263). -/
def State.stateAlarm (s : State) (i was : Nat) (r : Record) : State :=
  let st := r.state
  if st = was then s
  else if st = 4 ∨ st = 6 ∨ (st = 3 ∧ s.flag R.EPD_CFG_SILENT_ALARM) then s.epAlarm i 0x50 st r
  else if st = 1 ∧ was = 4 then s.epAlarm i 0x51 st r
  else s

/-- An interval of record i has ended: without a frame the record falls silent, unless it was the first interval after
the service started; then the next interval's exchange begins. -/
def State.intervalClose (s : State) (i : Nat) : State :=
  let (s, r, e) := s.getRec i
  let x := s.epRun i
  let st := r.state
  let k := s.intervalNo i r
  if e ∨ st = 0 ∨ st = 7 ∨ k ≤ x.interval then s
  else
    let start := Tab.get (fun _ => 0) s.eps.starts (shardOf i)
    let busy := r.bit 141 0
    let r := if x.hit ∨ x.seen ≠ start then r else
      let r := r.put 140 1 (min 255 (r.get 140 1 + 1))
      r.enter (s.afterSilence r)
    let x := if busy ∧ ¬ r.bit 141 0 then x.afresh else x
    let x := { x with hit := false, interval := k, seen := start, run := if busy then 0 else x.run }
    let s := (s.setEpRun i x).putRec i (if inService r.state then r.putBit 141 0 true else r)
    s.stateAlarm i st r

/-- The Sync of the next interval is due to be placed: its start lies from 25 us to 3 ms ahead (R266, R271), the record is in service and
is no upstream master, and it has not been placed (log 74). -/
def State.syncDueFor (s : State) (i : Nat) (r : Record) : Bool :=
  let k := s.intervalNo i r + 1
  let at_ := intervalStart i k r
  inService r.state && !r.upstream && decide ((s.epRun i).placed < k)
    && decide (s.tb.now + 25 * fuPerUs ≤ at_) && decide (at_ ≤ s.tb.now + 3 * fuPerMs)

/-- Where a record keeps a new launch: the first of LAUNCH_0 to 3 that names no launch of the calendar, else the first. -/
def State.launchField (s : State) (r : Record) : Nat :=
  let cal := (s.link (r.get 16 1 % 32)).cal
  ([176, 184, 192, 200].find? (fun o => !cal.any (fun x => r.get o 4 == handleOf (r.get 16 1 % 32) x.slot x.gen))).getD 176

/-- The role writes AT into the first block of the frame that its program has prepared at `buf`, places it in the calendar of the
record's link for the start of the next interval, and keeps the handle and its TAG in the record (R257, R265, R267, log 74). -/
def State.syncPlace (s : State) (i buf : Nat) : State :=
  let (s, r, e) := s.getRec i
  if e ∨ ¬ s.syncDueFor i r ∨ ¬ launchBank buf then s
  else
    let g := shardOf i
    let k := s.intervalNo i r + 1
    let b := (bankOf buf).getD 0
    let s := (s.writeRange b buf 12 (encodeHub (intervalStart i k r)) (primaryOf ((s.holder (epsRole g)).getD 8) b)).1
    let (s, code, h) := s.schedPlace (s.token (epsRole g)).toNat (r.get 16 1 % 32) buf false
    if code ≠ 0 then s
    else
      let o := s.launchField r
      let s := s.setEpRun i { s.epRun i with placed := k }
      s.putRec i ((r.put o 4 h).put (o + 4) 4 (s.bytes (buf + 20) 4))

/-- EP_INTERVAL_END (R257): what the role does for record i at the end of an interval, and when the start of the next comes near. An
interval that has not ended is not closed; `buf` is the frame buffer that the role's program uses for the record's Sync. -/
def State.intervalEnd (s : State) (i buf : Nat) : State :=
  if ¬ s.epsRuns (shardOf i) then s else (s.intervalClose i).syncPlace i buf

def execEpIntervalEnd (i : Fin 131072) (buf : BitVec 32) (s : State) : Out := s.live (s.intervalEnd i buf.toNat)

/-! ### Exchanges (R258, 08 R231 to R236) -/

/-- The terms of a port: delta_tx, delta_rx with the temperature applied (08 R235), and alpha. -/
structure PortTerms where
  tx : Rat
  rx : Rat
  alpha : Rat

/-- Terms from their six words: TX, RX, ALPHA, CT, TREF; `valid` and `av` are the VALID and ALPHA_VALID flags. Terms that
are not valid act as zero (DESIGN CHOICE, log 26). -/
def portTerms (tx rx alpha ct tref temp : Int) (valid av : Bool) : PortTerms :=
  let d : Rat := (ct : Rat) * ((temp - tref : Int) : Rat) / 512000
  { tx := if valid then (tx : Rat) + d else 0
    rx := if valid then (rx : Rat) - d else 0
    alpha := if av then (alpha : Rat) / 2 ^ 32 else 0 }

/-- The part's own port: the PORTCAL entry of its link, valid for the RATE of its measurement, at SEAM_SUB_TEMP. -/
def State.ownTerms (s : State) (link : Nat) : PortTerms :=
  let at_ (o : Nat) : Int := toSigned 32 ((s.recPayload 2 (32 * link + o) 4).getD 0)
  let byte (o : Nat) : Nat := (s.recPayload 2 (32 * link + o) 1).getD 0
  portTerms (at_ 0) (at_ 4) (at_ 8) (at_ 12) (at_ 16) (s.int32 R.SEAM_SUB_TEMP)
    ((byte 25).testBit 0 && byte 24 == s.fld (R.LNK_CFG_RATE link)) ((byte 25).testBit 2)

/-- The endpoint's port: bytes 32 to 56 of its record, at the temperature that it reports. -/
def Record.terms (r : Record) (temp : Int) : PortTerms :=
  portTerms (r.int 32 4) (r.int 36 4) (r.int 40 4) (r.int 44 4) (r.int 48 4) temp (r.bit 56 0) (r.bit 56 1)

/-- theta and d_ms of an exchange (08 R232), m the serving port's terms and s the other's. -/
def exchangeOf (m s : PortTerms) (alpha : Rat) (t1 t2 t3 t4 : Int) : Int × Int :=
  let f : Rat := ((t4 - t1 - (t3 - t2) : Int) : Rat) - (m.tx + m.rx) - (s.tx + s.rx)
  let theta := (((t2 - t1 - (t4 - t3) : Int) : Rat) - ((m.tx - m.rx) - (s.tx - s.rx)) - alpha * f) / 2
  let d := m.tx + f * (1 + alpha) / 2 + s.rx
  (Config.exchangeRound theta, Config.exchangeRound d)

/-- theta and d_ms for a record. For an upstream master the part is S, and the record's alpha, outward from the part, is
inward for the master (R258; DEDUCED, log 26). -/
def State.exchange (s : State) (r : Record) (temp t1 t2 t3 t4 : Int) : Int × Int :=
  let own := s.ownTerms (r.get 16 1 % 32)
  let far := r.terms temp
  if r.upstream then exchangeOf far own (-far.alpha) t1 t2 t3 t4 else exchangeOf own far far.alpha t1 t2 t3 t4

/-- The mean of d_ms, rounded to whole fu. -/
def meanFu (l : List Int) : Int := if l.isEmpty then 0 else Config.exchangeRound ((l.sum : Rat) / (l.length : Rat))

/-- 1 ns in fu (R258). -/
def outlierFu : Nat := 65536

/-- FEED by the program of EPS_g (R258): it enters the lane of the role's engine with the role's token (01 R25, R27), from the thread
that carries the token, else THR_0. -/
def State.roleFeed (s : State) (g : Nat) (x : Int) (t : Nat) : State :=
  match s.holder (epsRole g) with
  | some n =>
    let tok := s.token (epsRole g)
    s.laneAdd n (.roleFeed (((List.range 4).find? (fun t => (s.thread n t).ep == tok)).getD 0) tok x t)
  | none => s

/-- A complete exchange (R256, R258): its times, MPD and OFFSET, and the state. -/
def State.completeExchange (s : State) (i : Nat) (r : Record) (temp : Int) (t1 t2 t3 t4 : Nat) : State × Record :=
  let x := s.epRun i
  let (theta, d) := s.exchange r temp (decodeHub t1) (decodeHub t2) (decodeHub t3) (decodeHub t4)
  let r := (((r.put 64 12 t1).put 76 12 t2).put 88 12 t3).put 100 12 t4
  let r := ((r.count 144).putBit 141 0 false).putInt 120 8 theta
  let fresh := r.bit 141 1
  let out := !fresh && !x.ds.isEmpty && decide (outlierFu < (d - r.int 112 8).natAbs)
  let ds := if out then x.ds else (d :: x.ds).take 16
  let r := if out then r.count 160 else r.putInt 112 8 (meanFu ds)
  let r := if fresh ∧ 16 ≤ ds.length then r.putBit 141 1 false else r
  let run := x.run + 1
  let r := if r.state = 3 ∨ (r.state = 1 ∧ s.joinN ≤ run) then r.putState r.servedState else r
  let s := s.setEpRun i { x with run := run, ds := ds }
  (if r.upstream then s.roleFeed (shardOf i) theta t3 else s, r)

/-- What a matched frame does to a record that is neither UNKNOWN nor RETIRED (R256 to R260). `lost` says that it is a frame of the
exchange with PHASE_LOST, `moved` that the route has changed, `done` that with this frame the role holds all four times from valid
stamps. -/
def State.matched (s : State) (i : Nat) (r : Record) (lost moved done : Bool) (temp : Int) (t1 t2 t3 t4 : Nat) : State × Record :=
  let r := (r.put 140 1 0).put 128 12 (encodeHub s.tb.now)
  let s := s.setEpRun i { s.epRun i with hit := true }
  match r.state with
  | 4 =>
    if r.retired then (s, (r.enter 6).count 156)
    else (s.setEpRun i { s.epRun i with run := 0 }, r.enter 1)
  | 6 => (s, r.count 156)
  | _ =>
    if lost ∧ r.bit 141 0 then (s.setEpRun i (s.epRun i).afresh, (r.abandon).count 164)
    else if moved ∧ r.bit 141 0 then (s.setEpRun i (s.epRun i).afresh, r.abandon)
    else if done ∧ r.bit 141 0 then s.completeExchange i r temp t1 t2 t3 t4
    else (s, r)

/-- The parts of a receive entry that the role reads (07 R205): ENTRIES, CLASS, FLAGS, EP, and the stamp. -/
def entryCount (l : List (BitVec 8)) : Nat := max 1 (fb l 24)
def entryMatched (l : List (BitVec 8)) : Bool := decide (fb l 18 < 2) && (fb l 19).testBit 0

/-- The frame's own stamp carries no NO_STAMP, MISSED or SOAK (R258, 06 R174). -/
def stampValid (l : List (BitVec 8)) : Bool := !(fb l 19).testBit 2 && !(fb l 13).testBit 1 && !(fb l 13).testBit 5

/-- The frame is a Delay_Req: its stamp is T4 of the part's exchange (R258). -/
def isDelayReq (l : List (BitVec 8)) : Bool :=
  let f := l.drop 32
  match ptpAt f with
  | some (p, _, _) => ptpType f p == 1
  | none => false

/-- The frame is one of an exchange: Sync, Delay_Req, Follow_Up, Delay_Resp (R258; the types of IEEE 1588, log 18). -/
def inExchange (l : List (BitVec 8)) : Bool :=
  let f := l.drop 32
  match ptpAt f with
  | some (p, _, _) => [0, 1, 8, 9].contains (ptpType f p)
  | none => false

/-- The role takes the frame at the head of ring n (R257, R264). -/
def State.epFrame (s : State) (n : Nat) (moved full : Bool) (t1 t2 t3 t4 : Nat) (temp : Int) : State :=
  let g := n / 4
  if ¬ s.epsRuns g ∨ ¬ s.bankOpen 24 ∨ ¬ s.ringOn n ∨ s.ringsFenced ∨ s.ringCount n = 0 then s
  else
    let (s, v, _) := s.readRange 24 (s.ringEntry n (s.ringHead n)) 128
    let l := leBytes 128 v
    let i := fle l 20 4
    let s := s.ringPopHead n (min (s.ringCount n) (entryCount l))
    if ¬ entryMatched l ∨ i / 2 ^ 14 ≠ g then s
    else
      let (s, r, e) := s.getRec i
      let st := r.state
      if e ∨ st = 0 ∨ st = 7 then s
      else
        let own := isDelayReq l
        let t4 := if own then fle l 0 12 else t4
        let done := full && (!own || stampValid l) && hubLegal t1 && hubLegal t2 && hubLegal t3 && hubLegal t4
        let (s, r) := s.matched i r ((fb l 19).testBit 4 && inExchange l) moved done temp t1 t2 t3 t4
        (s.putRec i r).stateAlarm i st r

/-- EP_FRAME (R257): the role takes the frame at the head of ring n. What its program holds of the exchange comes with the
command: `moved` says that the route has changed since the exchange began, `full` that with this frame all four times are held from
valid stamps, and `temp` is the endpoint's temperature in 0.001 degrees C; of a Delay_Req, T4 is the stamp in the entry. -/
def execEpFrame (n : Fin 32) (moved full : Bool) (t1 t2 t3 t4 : BitVec 96) (temp : Int) (s : State) : Out :=
  s.live (s.epFrame n moved full t1.toNat t2.toNat t3.toNat t4.toNat temp)

/-! ### Commands of the host (R262) -/

/-- A command entry. -/
structure EpCmd where
  op : Nat
  index : Nat
  key : Nat
  off : Nat
  tag : Nat
  index2 : Nat

/-- The fields of a command entry; the key is CLOCK_ID, PORT and LINK as a directory entry has them (R250). -/
def epCmdOf (l : List (BitVec 8)) : EpCmd :=
  { op := fle l 0 1, index := fle l 4 4, key := fle l 8 10 + 2 ^ 80 * (fle l 18 1 % 32), off := fle l 20 4,
    tag := fle l 24 4, index2 := fle l 28 4 }

def EpCmd.link (c : EpCmd) : Nat := c.key / 2 ^ 80 % 32

/-- The head of command ring 104 + g, when the role can take and answer it: both rings enabled with entries of 32 bytes, and
the response ring not full (log 26). -/
def State.epHead (s : State) (g : Nat) : Option (State × EpCmd) :=
  let r := 104 + g
  if ¬ s.epsRuns g ∨ ¬ s.bankOpen 25 ∨ s.ringsFenced ∨ ¬ s.ringOn r ∨ s.ringEsz r ≠ 32 ∨ s.ringCount r = 0
    ∨ s.ringEsz (112 + g) ≠ 32 ∨ s.ringRoom (112 + g) = 0 then none
  else
    let (t, v, bad) := s.readRange 25 (s.ringEntry r (s.ringHead r)) 32
    some (t.raiseIf bad (R.RING_STAT_ENTRY_UE r), epCmdOf (leBytes 32 v))

/-- The response to a command (R262). -/
def State.epAnswer (s : State) (g : Nat) (c : EpCmd) (status slot : Nat) : State :=
  s.ringPut (112 + g) (leBytes 1 c.op ++ leBytes 1 status ++ leBytes 1 slot ++ leBytes 1 0 ++ leBytes 4 c.index
    ++ leBytes 16 0 ++ leBytes 4 c.tag ++ leBytes 4 c.index2)

/-- The role takes the head of its command ring, when it is one of `ops`, and answers it with what `act` gives: the state,
STATUS and the slot result. -/
def State.epCommand (s : State) (g : Nat) (ops : Nat → Bool) (act : State → EpCmd → State × Nat × Nat) : State :=
  match s.epHead g with
  | none => s
  | some (t, c) =>
    if ops c.op then
      let (t, status, slot) := act (t.ringPopHead (104 + g) 1) c
      t.epAnswer g c status slot
    else s

/-- INDEX lies in shard g. -/
def inShard (g i : Nat) : Bool := i / 2 ^ 14 == g

/-- A command on record INDEX: STATUS 1 outside the shard, 2 where the record cannot be read or does not meet `pre`. -/
def State.onRecord (s : State) (g : Nat) (c : EpCmd) (pre : State → Record → Bool)
    (act : State → Record → State × Nat × Nat) : State × Nat × Nat :=
  if ¬ inShard g c.index then (s, 1, 0xFF)
  else
    let (s, r, e) := s.getRec c.index
    if e ∨ ¬ pre s r then (s, 2, 0xFF) else act s r

/-- A command on records INDEX (d) and INDEX2 (s). -/
def State.onPair (s : State) (g : Nat) (c : EpCmd) (pre : Record → Record → Bool)
    (act : State → Record → Record → State) : State × Nat × Nat :=
  if ¬ inShard g c.index ∨ ¬ inShard g c.index2 then (s, 1, 0xFF)
  else
    let (s, d, e) := s.getRec c.index
    let (s, p, e') := s.getRec c.index2
    if e ∨ e' ∨ ¬ pre d p then (s, 2, 0xFF) else (act s d p, 0, 0xFF)

/-- 256 bytes of HB at an offset; bytes past the end of HB read as zero (DESIGN CHOICE, log 26). -/
def State.hbImage (s : State) (off : Nat) : State × Record :=
  let n := min 256 (bankSize 27 - off)
  let (s, v, _) := s.readRange 27 (bankBase 27 + off) n
  (s, leBytes 256 v)

/-- Bytes `a` to `a + n - 1` of an image in a record. -/
def Record.take (r img : Record) (a n : Nat) : Record := overlay r a ((img.drop a).take n)

/-- A record becomes JOINING. -/
def State.joins (s : State) (i : Nat) : State :=
  let x := s.epRun i
  s.setEpRun i { x with run := 0, hit := false }

/-- The role gives a directory command through slot 1 + n of its engine (R253): the slot's result, none where the GO of a fenced
directory is ignored (16 R446). -/
def State.roleDir (s : State) (g op key index : Nat) : State × Option Nat :=
  match s.holder (epsRole g) with
  | some n =>
    let k := n + 1
    let s := (s.setFld (R.EPD_KEY_0_ID k) key).setFld (R.EPD_KEY_1_ID k) (key / 2 ^ 32)
    let s := (s.setFld (R.EPD_KEY_2_PORT k) (key / 2 ^ 64)).setFld (R.EPD_KEY_2_LINK k) (key / 2 ^ 80)
    let s := s.setFld (R.EPD_IDX_INDEX k) index
    let t := s.dirCmd k k op
    (t, if s.fenced 0x018 then none else some (t.fld (R.EPD_RESULT_RESULT k)))
  | none => (s, none)

/-- PROVISION. -/
def State.provision (s : State) (g : Nat) (c : EpCmd) : State × Nat × Nat :=
  s.onRecord g c (fun _ r => r.state == 0) (fun s r =>
    let (s, code) := s.roleDir g 1 c.key c.index
    if code ≠ some 0 then (s, 3, code.getD 0xFF)
    else
      let (s, img) := s.hbImage c.off
      let r := (((r.take img 0 64).take img 208 48).put 6 1 1).put 16 1 c.link
      let s := s.setEpRun c.index { EpRun.init with
        interval := s.intervalNo c.index r, seen := Tab.get (fun _ => 0) s.eps.starts g }
      (s.putRec c.index r, 0, 0))

def execProvision (g : Fin 8) (s : State) : Out := s.live (s.epCommand g (· == 0x40) (fun s c => s.provision g c))

/-- Every launch held in LAUNCH_0 to 3 is cancelled (R259, R262). -/
def State.cancelLaunches (s : State) (g : Nat) (r : Record) : State :=
  [176, 184, 192, 200].foldl (fun s o =>
    let h := r.get o 4
    if h < 2 ^ 31 then s else (s.schedCancel (s.token (epsRole g)).toNat h).1) s

/-- SPARE (R259). -/
def spareAllowed (d p : Record) : Bool :=
  d.state == 4 && !d.retired && p.bit 8 2 && p.roleNo == noRole && (p.state == 2 || p.state == 3)

def State.spare (s : State) (g : Nat) (c : EpCmd) : State × Nat × Nat :=
  s.onPair g c spareAllowed (fun s d p =>
    let p' := ((p.put 9 3 d.roleNo).putBit 8 3 true).put 12 4 c.index
    let p' := if p.state = 2 then p'.putState 5 else p'
    ((s.putRec c.index2 p').putRec c.index (d.putBit 6 3 true)).cancelLaunches g d)

def execSpare (g : Fin 8) (s : State) : Out := s.live (s.epCommand g (· == 0x41) (fun s c => s.spare g c))

/-- READMIT (R261). -/
def State.epReadmit (s : State) (g : Nat) (c : EpCmd) : State × Nat × Nat :=
  s.onRecord g c (fun _ r => (r.state == 4 || r.state == 6) && r.retired) (fun s d =>
    let d' := ((d.put 4 2 (d.get 4 2 + 1)).putBit 6 3 false).putBit 141 1 true
    let d' := (if (s.borrower c.index).isSome then d'.put 9 3 noRole else d').putState 1
    let s := (s.setEpRun c.index (s.epRun c.index).afresh).putRec c.index d'
    (s.stateAlarm c.index d.state d', 0, 0xFF))

def execEpReadmit (g : Fin 8) (s : State) : Out := s.live (s.epCommand g (· == 0x42) (fun s c => s.epReadmit g c))

/-- RESTORE (R261). -/
def State.restore (s : State) (g : Nat) (c : EpCmd) : State × Nat × Nat :=
  s.onPair g c (fun d p => d.state == 2 && d.roleNo == noRole && p.borrow && p.get 12 4 == c.index
      && (p.state == 5 || p.state == 3)) (fun s d p =>
    let p' := ((p.put 9 3 noRole).putBit 8 3 false).put 12 4 noRecord
    let p' := if p.state = 5 then p'.putState 2 else p'
    (s.putRec c.index (d.put 9 3 p.roleNo)).putRec c.index2 p')

def execRestore (g : Fin 8) (s : State) : Out := s.live (s.epCommand g (· == 0x43) (fun s c => s.restore g c))

/-- RETIRE. -/
def State.retire (s : State) (g : Nat) (c : EpCmd) : State × Nat × Nat :=
  s.onRecord g c (fun s r => r.state != 0 && r.state != 7 && !r.borrow && (s.borrower c.index).isNone) (fun s r =>
    let (s, code) := s.roleDir g 2 c.key c.index
    if code ≠ some 0 then (s, 3, code.getD 0xFF)
    else ((s.cancelLaunches g r).putRec c.index (r.enter 7), 0, 0))

def execRetire (g : Fin 8) (s : State) : Out := s.live (s.epCommand g (· == 0x44) (fun s c => s.retire g c))

/-- FREE: the whole record but UPD is zero. -/
def State.epFree (s : State) (g : Nat) (c : EpCmd) : State × Nat × Nat :=
  s.onRecord g c (fun _ r => r.state == 7) (fun s r =>
    ((s.setEpRun c.index EpRun.init).putRec c.index (Record.put (leBytes 256 0) 142 2 (r.get 142 2)), 0, 0xFF))

def execFree (g : Fin 8) (s : State) : Out := s.live (s.epCommand g (· == 0x45) (fun s c => s.epFree g c))

/-- SETCAL. -/
def State.epSetCal (s : State) (g : Nat) (c : EpCmd) : State × Nat × Nat :=
  s.onRecord g c (fun _ r => r.state != 0 && r.state != 7) (fun s r =>
    let (s, img) := s.hbImage c.off
    ((s.setEpRun c.index { s.epRun c.index with ds := [] }).putRec c.index ((r.take img 32 32).putBit 141 1 true), 0, 0xFF))

def execSetcal (g : Fin 8) (s : State) : Out := s.live (s.epCommand g (· == 0x46) (fun s c => s.epSetCal g c))

/-- NOP (17 R477). -/
def execNop (g : Fin 8) (s : State) : Out := s.live (s.epCommand g (· == 0x00) (fun s _ => (s, 0, 0xFF)))

/-- READ_RECORD (17 R477); bytes past the end of HB are not written (DESIGN CHOICE, log 26). -/
def State.readRecord (s : State) (g : Nat) (c : EpCmd) : State × Nat × Nat :=
  if ¬ inShard g c.index then (s, 1, 0xFF)
  else
    let (s, r, _) := s.getRec c.index
    let n := min 256 (bankSize 27 - c.off)
    ((s.writeRange 27 (bankBase 27 + c.off) n (leVal r) false).1, 0, 0xFF)

def execReadRecord (g : Fin 8) (s : State) : Out := s.live (s.epCommand g (· == 0x01) (fun s c => s.readRecord g c))

/-- BAD_OP (17 R477): an OP that neither R262 nor R477 lists. -/
def unlistedOp (op : Nat) : Bool := decide (1 < op) && (decide (op < 0x40) || decide (0x46 < op))

def execBadOp (g : Fin 8) (s : State) : Out := s.live (s.epCommand g unlistedOp (fun s _ => (s, 4, 0xFF)))

end Sys2Proof.Machine
end

