-- ==== Sys2Proof/Machine/Image.lean ====
section
/-! DEFINITION. Machine/Image.lean: the OTP store and the Byorn image in it (13 R373 to R389). -/
namespace Sys2Proof.Machine

/-! ### Generations (R373, R375, R378) -/

def genBase (g : Nat) : Nat := 0x8000 + 0x1E000 * g
def genSize : Nat := 0x1E000

/-- A word of the OTP store. -/
def State.otpWord (s : State) (off : Nat) : Nat := s.bytes (otpBase + off) 4

/-- A header field of a generation. -/
def State.genField (s : State) (g off n : Nat) : Nat := s.bytes (otpBase + genBase g + off) n

/-- LENGTH and the check of its limit (R375). -/
def State.genLength (s : State) (g : Nat) : Nat := s.genField g 20 4
def State.lengthOk (s : State) (g : Nat) : Bool := s.genLength g % 4 == 0 && decide (s.genLength g ≤ 122800)

/-- SEAL_CRC over bytes 0 to 63 + LENGTH (R378). -/
def State.genCrc (s : State) (g : Nat) : Nat :=
  let n := 64 + s.genLength g
  crc32 (leBytes n (s.genField g 0 n))

def trailerOff : Nat := 0x1DFF0

/-- A generation with no listed byte is all zero: its unlisted bytes read zero. -/
def State.genBlank (s : State) (g : Nat) : Bool :=
  !s.mem.any (fun c => decide (otpBase + genBase g ≤ c.1) && decide (c.1 < otpBase + genBase g + genSize))

/-- The state of a generation (R378): 0 BLANK, 1 WRITING, 2 SEALED, 3 REVOKED. -/
def State.genState (s : State) (g : Nat) : Nat :=
  if s.genField g (trailerOff + 8) 4 ≠ 0 ∨ s.genField g (trailerOff + 12) 4 ≠ 0 then 3
  else if s.genField g (trailerOff + 4) 4 = 0x4C414553 ∧ s.genField g 0 4 = 0x4E525942 ∧ s.lengthOk g
      ∧ s.genField g trailerOff 4 = s.genCrc g then 2
  else if s.genBlank g then 0 else 1

/-! ### Records (R376, R377, R379) -/

/-- The records of an image: TYPE, FLAGS, the address of the payload, LEN; none when they do not tile the bytes from an
offset to an end. -/
def State.imageRecs (s : State) : Nat → Nat → Nat → Option (List (Nat × Nat × Nat × Nat))
  | 0, a, e => if a = e then some [] else none
  | f + 1, a, e =>
    if a = e then some []
    else if e < a + 8 then none
    else
      let len := s.bytes (a + 4) 4
      if len % 4 ≠ 0 ∨ e < a + 8 + len then none
      else match s.imageRecs f (a + 8 + len) e with
        | some l => some ((s.bytes a 2, s.bytes (a + 2) 2, a + 8, len) :: l)
        | none => none

def State.genRecs (s : State) (g : Nat) : Option (List (Nat × Nat × Nat × Nat)) :=
  let a := otpBase + genBase g + 64
  s.imageRecs (s.genLength g / 8 + 1) a (a + s.genLength g)

/-- The mask of a field within its register. -/
def FieldDef.bits (f : FieldDef) : Nat := (2 ^ f.width - 1) * 2 ^ f.lo

/-- The instances of an IMAGE family whose own source the tables give otherwise: PPS_OFFSET_0 (HARD, 05 R170), P0 and DEFINED of
ROLE_0 to ROLE_7 (HARD, 10 R303), EN of the LRX and LTX channels (LIVE, 06 R196), CONS_HOST of rings other than 64 to 103 and ROLE
of hardware sides (HARD, 12 R370). -/
def notImage (addr lo : Nat) : Bool :=
  addr == 0x05050808 || addr == 0x0505080C
    || (decide (0x050B0100 ≤ addr) && decide (addr < 0x050B0140)
        && (if addr % 8 = 0 then lo == 16 else lo == 0))
    || (decide (0x05061000 ≤ addr) && decide (addr < 0x05061800) && addr % 0x20 == 0 && lo == 0)
    || (decide (0x050C1000 ≤ addr) && decide (addr < 0x050C2000)
        && (match addr % 0x20 with
          | 0 => lo == 9 && !(decide (64 ≤ (addr - 0x050C1000) / 0x20) && decide ((addr - 0x050C1000) / 0x20 < 104))
          | 8 => lo == 0 && hardSide ((addr - 0x050C1000) / 0x20) true
          | 12 => lo == 0 && hardSide ((addr - 0x050C1000) / 0x20) false
          | _ => false))

/-- A field whose Source is IMAGE. -/
def imageSrc (addr : Nat) (f : FieldDef) : Bool := f.src == .image && !notImage addr f.lo

/-- A field that an image may set: Source IMAGE, or TB_UTC_OFFSET (R377). -/
def imageField (addr : Nat) (f : FieldDef) : Bool := imageSrc addr f || addr == 0x05010030

/-- A link candidate's fields, which take no write and read zero, NOM its fixed value (03 R99); the TDC fields of other channel
classes (06 R196); BYP_D of an output that is not privileged (05 R157). -/
def fieldIgnored (addr lo : Nat) : Bool :=
  let o := addr % 0x10000
  match addr / 0x10000 with
  | 0x502 => decide (0x1400 ≤ o) && decide (o < 0x1C00)
      && (o % 0x40 == 0x04 || o % 0x40 == 0x08 || o % 0x40 == 0x30 || (o % 0x40 == 0 && decide (2 ≤ lo)))
  | 0x505 => decide (0x100 ≤ o) && decide (o < 0x400) && o % 0x20 == 4 && lo == 16 && !privileged ((o - 0x100) / 0x20)
  | 0x506 =>
    let c := (o - 0x1000) / 0x20
    decide (0x1000 ≤ o) && decide (o < 0x1D00)
      && ((o % 0x20 == 0 && ((lo == 4 && !isEvt c) || (lo == 8 && !isMon c) || decide (c < 64)))
        || (o % 0x20 == 4 && !(isReft c || isMon c)))
  | _ => false

/-- The fields of a register that a mask covers. -/
def coveredFields (addr mask : Nat) : List FieldDef := (fieldsAt addr).filter (fun f => Nat.land mask f.bits == f.bits)

/-- A REG triple is valid (R377). -/
def tripleOk (addr mask value : Nat) : Bool :=
  !(fieldsAt addr).isEmpty && addr % 4 == 0 && Nat.land value mask == value
    && (coveredFields addr mask).all (imageField addr)
    && (coveredFields addr mask).foldl (fun a f => a + f.bits) 0 == mask

/-- The triples of a REG record. -/
def State.triplesOf (s : State) (a len : Nat) : List (Nat × Nat × Nat) :=
  (List.range (len / 12)).map (fun k => (s.bytes (a + 12 * k) 4, s.bytes (a + 12 * k + 4) 4, s.bytes (a + 12 * k + 8) 4))

/-- The banks that DATA and FILL may name (R379). -/
def dataBank (b : Nat) : Bool := (decide (8 ≤ b) && decide (b ≤ 23)) || b == 27

/-- The checks of R379 on one record. -/
def State.recordOk (s : State) (r : Nat × Nat × Nat × Nat) : Bool :=
  let (ty, flags, a, len) := r
  let w0 := s.bytes a 4
  let off := s.bytes (a + 4) 4
  match ty with
  | 1 => len % 12 == 0 && (s.triplesOf a len).all (fun t => tripleOk t.1 t.2.1 t.2.2)
  | 2 => decide (8 ≤ len) && decide (w0 < 256) && off % 4 == 0 && decide (off + (len - 8) ≤ 0x40000)
  | 3 => decide (8 ≤ len) && decide (w0 < 32) && dataBank w0 && off % 4 == 0 && decide (off + (len - 8) ≤ bankSize w0)
  | 4 => len == 16 && decide (w0 < 32) && dataBank w0 && off % 4 == 0 && decide (off + s.bytes (a + 8) 4 ≤ bankSize w0)
  | 5 => true
  | _ => flags % 2 == 1

/-- The image of a generation is valid (R379). -/
def State.imageValid (s : State) (g : Nat) : Bool :=
  s.genField g 0 4 == 0x4E525942 && s.genField g 4 2 == 2
    && decide (s.genField g 8 1 ≤ 8) && decide (s.genField g 9 1 ≤ 32) && decide (s.genField g 10 1 ≤ 24)
    && decide (s.genField g 11 1 ≤ 4) && decide (s.genField g 12 2 ≤ 104) && decide (s.genField g 16 4 ≤ 131072)
    && s.lengthOk g
    && (match s.genRecs g with
      | some l => l.length == s.genField g 28 4 && l.all (fun r => s.recordOk r)
      | none => false)

/-- The generation that R381 would adopt. -/
def State.adoptable (s : State) : Option Nat := [3, 2, 1, 0].find? (fun g => s.genState g == 2 && s.imageValid g)

/-- Every REG triple of a generation, in order. -/
def State.genTriples (s : State) (g : Nat) : List (Nat × Nat × Nat) :=
  ((s.genRecs g).getD []).flatMap (fun r => if r.1 = 1 then s.triplesOf r.2.2.1 r.2.2.2 else [])

/-- The low bits of a word-aligned address field read zero: ENG_FENCE_VEC and ENG_THR_ENTRY (10 R304, R305). -/
def alignedField (addr lo : Nat) : Bool :=
  let o := addr % 0x10000
  addr / 0x10000 == 0x50B && decide (0x1000 ≤ o) && decide (o < 0x1800) && lo == 0
    && (o % 0x100 == 0x18 || (decide (0x40 ≤ o % 0x100) && decide (o % 0x100 < 0x50)))

/-- The value that a generation gives a field: its last triple that specifies it (R377), else the factory value (R383). -/
def fieldValue (l : List (Nat × Nat × Nat)) (addr : Nat) (f : FieldDef) : Nat :=
  let v := l.foldl (fun v t => if t.1 = addr ∧ Nat.land t.2.1 f.bits = f.bits then t.2.2 / 2 ^ f.lo % 2 ^ f.width else v)
    (resetField (addr * 32 + f.lo))
  if alignedField addr f.lo then v / 4 * 4 else v

/-! ### Loading (R382 steps 4 and 8) -/

/-- A value that the register's own table refuses in a write, judged by itself (02 R72, 03 R99, 05 R141, R142, R157, R162, R170,
06 R196, 07 R208, 12 R348). -/
def badValue (addr lo v : Nat) : Bool :=
  let o := addr % 0x10000
  match addr / 0x10000 with
  | 0x501 => o == 0x28 && (decide (v < 16) || decide (32 < v))
  | 0x502 => decide (0x1000 ≤ o) && decide (o < 0x1C00) && o % 0x40 == 8 && lo == 0 && v == 3
  | 0x504 =>
    if o = 0 then decide (v < 16)
    else decide (0x100 ≤ o) && decide (o < 0x200) && o % 0x40 == 0
      && ((lo == 0 && (decide (v < 80) || decide (135 < v))) || (lo == 13 && decide (5 ≤ v)))
  | 0x505 =>
    if 0x100 ≤ o ∧ o < 0x400 then
      match o % 0x20 with
      | 0x00 => lo == 1 && decide (5 ≤ v)
      | 0x04 => (lo == 0 && (decide (v < 2) || decide (4096 < v))) || (lo == 16 && (v == 0 || decide (4096 < v)))
      | _ => false
    else decide (0x800 ≤ o) && decide (o < 0xA00) && o % 0x40 == 0 && lo == 3 && v == 3
  | 0x506 =>
    decide (0x1000 ≤ o) && decide (o < 0x1D00)
      && ((o % 0x20 == 0 && ((lo == 1 && v == 3) || (lo == 4 && decide (2 ≤ v)) || (lo == 8 && decide (24 ≤ v))))
        || (o % 0x20 == 4 && decide (2 ^ 24 < v)))
  | 0x508 => o % 0x1000 == 0 && lo == 7 && v == 3
  | 0x509 => o % 0x1000 == 0 && lo == 7 && v == 3
  | 0x50D => decide (0x1000 ≤ o) && lo == 0 && v == 3 && o % 0x80 == 0
  | _ => false

/-- The event of a refused write of a register. -/
def rejEvent (addr : Nat) : Option Fld :=
  let o := addr % 0x10000
  match addr / 0x10000 with
  | 0x501 => some R.TB_STATUS_INC_REJ
  | 0x504 => some (R.SYN_PLL_EVENTS_PLAN_REJ (if o = 0 then 0 else (o - 0x100) / 0x40))
  | 0x505 => some (if o < 0x800 then R.OUT_STATUS_STD_REJ ((o - 0x100) / 0x20) else R.PPS_STATUS_CFG_REJ ((o - 0x800) / 0x40))
  | 0x506 => some (R.TDC_CH_EVENTS_CFG_REJ ((o - 0x1000) / 0x20))
  | 0x508 => some (R.LNK_EVENTS_CFG_REJ (o / 0x1000))
  | 0x509 => some (R.LNK_EVENTS_CFG_REJ (16 + o / 0x1000))
  | 0x50B => some R.ENGC_EVENTS_CMD_REJ
  | 0x50D => some (R.BNK_EVENTS_CFG_REJ ((o - 0x1000) / 0x80))
  | 0x510 => some R.HOST_EVENTS_CFG_REJ
  | _ => none

/-- A refusal of a register's value in RECALL sets the block's event (log 73). -/
def State.rejReg (s : State) (addr : Nat) : State :=
  match rejEvent addr with
  | some f => s.raise f
  | none => s

/-- One field of a REG triple is applied: what no write sets stays, and so does a field whose value a write would be refused. -/
def State.loadField (s : State) (addr value : Nat) (f : FieldDef) : State :=
  let v := value / 2 ^ f.lo % 2 ^ f.width
  if fieldIgnored addr f.lo then s
  else if badValue addr f.lo v then s.rejReg addr
  else s.setFld ⟨addr, f.lo, f.width⟩ (if alignedField addr f.lo then v / 4 * 4 else v)

/-- A REG triple is applied. -/
def State.loadTriple (s : State) (t : Nat × Nat × Nat) : State :=
  (coveredFields t.1 t.2.1).foldl (fun s f => s.loadField t.1 t.2.2 f) s

/-- `n` bytes written over a memory window by the loader, with fresh check bits. -/
def State.loadBytes (s : State) (a n v : Nat) : State :=
  let s := s.setBytes a n v
  (List.range ((n + 7) / 8 + 1)).foldl (fun s k => if 8 * (a / 8 + k) < a + n then s.setEcc (a / 8 + k) 0 else s) s

/-- The 32-bit pattern of a FILL over its length. -/
def fillValue (pat : Nat) (n : Nat) : Nat := (List.range ((n + 3) / 4)).foldr (fun _ a => pat + 2 ^ 32 * a) 0

/-- A PROG, DATA or FILL record is written: its target ranges as address, length and value. -/
def State.recTargets (s : State) (r : Nat × Nat × Nat × Nat) : List (Nat × Nat × Nat) :=
  let (ty, _, a, len) := r
  let w0 := s.bytes a 4
  let off := s.bytes (a + 4) 4
  match ty with
  | 2 => ((List.range 8).filter (fun n => w0.testBit n)).map (fun n => (bankBase n + off, len - 8, s.bytes (a + 8) (len - 8)))
  | 3 => [(bankBase w0 + off, len - 8, s.bytes (a + 8) (len - 8))]
  | 4 => [(bankBase w0 + off, s.bytes (a + 8) 4, fillValue (s.bytes (a + 12) 4) (s.bytes (a + 8) 4))]
  | _ => []

def State.loadRecord (s : State) (r : Nat × Nat × Nat × Nat) : State :=
  (s.recTargets r).foldl (fun s t => s.loadBytes t.1 t.2.1 t.2.2) s

/-! ### Structural fields (R389) -/

/-- Every field of the register is structural. -/
def structuralReg (addr : Nat) : Bool :=
  let o := addr % 0x10000
  match addr / 0x10000 with
  | 0x501 => decide (0x20 ≤ o) && decide (o ≤ 0x28)
  | 0x504 => o == 0 || (decide (0x100 ≤ o) && decide (o < 0x200) && o % 0x40 == 0)
  | 0x505 => decide (0x100 ≤ o) && decide (o < 0x400) && o % 0x20 == 4
  | 0x508 => o % 0x1000 == 0
  | 0x509 => o % 0x1000 == 0
  | 0x50A => o == 4
  | 0x50B =>
    (decide (0x100 ≤ o) && decide (o < 0x300))
      || (decide (0x1000 ≤ o) && decide (o < 0x1800)
        && (o % 0x100 == 0 || o % 0x100 == 0x18 || (decide (0x40 ≤ o % 0x100) && decide (o % 0x100 < 0x50))))
  | 0x50C => decide (0x1000 ≤ o) && decide (o < 0x2000) && decide (o % 0x20 < 0x10)
  | 0x50D => decide (0x1000 ≤ o) && decide (o < 0x1000 + 0x80 * 29) && o % 0x80 == 0
  | 0x50F => addr == R.PWR_RETAIN_BANKS.addr
  | 0x510 => o == 4 || o == 0x10 || o == 0x14
  | _ => false

/-- A field is structural (R389). -/
def structural (addr : Nat) (f : FieldDef) : Bool :=
  structuralReg addr || (addr == R.PWR_CFG_OVEN_SLEEP.addr && f.lo == R.PWR_CFG_OVEN_SLEEP.lo)

/-- The non-structural IMAGE fields of a register: those that ADOPT writes (R388). -/
def adoptFields (addr : Nat) : List FieldDef :=
  (fieldsAt addr).filter (fun f => imageSrc addr f && !fieldIgnored addr f.lo && !structural addr f)

/-- The structural IMAGE fields of a register. -/
def structFields (addr : Nat) : List FieldDef :=
  (fieldsAt addr).filter (fun f => imageSrc addr f && !fieldIgnored addr f.lo && structural addr f)

/-- Every register address of the map, in address order within each block. -/
def RegDef.addrs (d : RegDef) : List Nat :=
  (List.range d.n1).flatMap (fun i => (List.range d.n2).map (fun j => d.base + i * d.s1 + j * d.s2))

def allRegs : List Nat :=
  ((List.range 0x12).filter (fun k => k ≠ 9)).flatMap (fun k => (blockRegs (0x500 + k)).flatMap RegDef.addrs)

/-- The adopted generation differs from the running part in a structural field or a record (R388; its LIVE fields do not count, log 76). -/
def State.structDiffers (s : State) (g : Nat) : Bool :=
  let l := s.genTriples g
  allRegs.any (fun a => (structFields a).any (fun f => fieldValue l a f != s.fld ⟨a, f.lo, f.width⟩))
    || ((s.genRecs g).getD []).any (fun r => (s.recTargets r).any (fun t => s.bytes t.1 t.2.1 != t.2.2 % 256 ^ t.2.1))

/-! ### Commands (R384 to R387) -/

/-- GEN_STATE shows the generations (R403). -/
def State.showGens (s : State) : State :=
  s.setFld R.OTP_STATUS_GEN_STATE ((List.range 4).foldr (fun g a => s.genState g + 4 * a) 0)

/-- The generation and the offset within it of a store offset past the factory copies. -/
def genOf (off : Nat) : Nat := (off - 0x8000) / genSize
def inGen (off : Nat) : Nat := (off - 0x8000) % genSize

/-- ADDR of R384. -/
def State.burnAddrBad (s : State) (off : Nat) : Bool :=
  off % 4 != 0 || decide (off < 0x8000) || decide (trailerOff ≤ inGen off)
    || decide (1 < s.genState (genOf off))

/-- The code of a GO (R384), the first that applies. -/
def State.otpCode (s : State) (op gen : Nat) : Nat :=
  if s.stores.otp.isSome ∨ s.fenced 0x01B then 3
  else if 3 < op then 4
  else if op < 3 ∧ s.stores.votpLow then 5
  else if op = 0 ∧ s.burnAddrBad (s.fld R.OTP_ADDR_ADDR) then 6
  else if op = 0 ∧ Nat.land (s.otpWord (s.fld R.OTP_ADDR_ADDR)) (s.fld R.OTP_DATA) ≠ s.otpWord (s.fld R.OTP_ADDR_ADDR) then 7
  else if (op = 1 ∧ s.genState gen ≠ 1) ∨ (op = 2 ∧ s.genState gen = 0) ∨ (op = 3 ∧ s.genState gen ≠ 2) then 8
  else if op = 3 ∧ s.adoptable ≠ some gen then 9
  else if (op = 1 ∨ op = 3) ∧ ¬ s.imageValid gen then 10
  else if op = 1 ∧ s.genCrc gen ≠ s.fld R.OTP_EXPECT_CRC then 11
  else 1

/-- An ending (R384). -/
def State.otpEnd (s : State) (code : Nat) : State := (s.setFld R.OTP_RESULT_RESULT code).raise R.OTP_EVENTS_CMD_DONE

/-- A GO (R384). -/
def State.otpGo (s : State) (op gen : Nat) : State :=
  let code := s.otpCode op gen
  let s := s.next R.OTP_RESULT_SEQ
  if code = 1 then
    let run : OtpRun := { op := op, gen := gen, addr := s.fld R.OTP_ADDR_ADDR, data := if op = 3 then 0 else s.fld R.OTP_DATA }
    let s := { s with stores := { s.stores with otp := some run } }
    (s.setFld R.OTP_RESULT_RESULT 1).raise R.OTP_STATUS_BUSY
  else s.otpEnd code

def State.otpSense (s : State) (low : Bool) : State :=
  ({ s with stores := { s.stores with votpLow := low } }).setFld R.OTP_STATUS_OTP_LOW (if low then 1 else 0)

def execOtpBurn (gen : Fin 4) (low : Bool) (s : State) : Out := s.awake ((s.otpSense low).otpGo 0 gen)
def execOtpSeal (gen : Fin 4) (low : Bool) (s : State) : Out := s.awake ((s.otpSense low).otpGo 1 gen)
def execOtpRevoke (gen : Fin 4) (low : Bool) (s : State) : Out := s.awake ((s.otpSense low).otpGo 2 gen)

/-- Bits of a word are burned but for those that fail all four pulses (R385): whether it reads back as intended. -/
def State.burnWord (s : State) (off v : Nat) (stuck : Nat) : State × Bool :=
  let old := s.otpWord off
  let new := Nat.lor old (Nat.land v (2 ^ 32 - 1 - stuck % 2 ^ 32))
  (s.setBytes (otpBase + off) 4 new, new == v % 2 ^ 32)

/-- Two words burned one after the other, the second only when the first read back (R386, R387). -/
def State.burnTwo (s : State) (o0 v0 k0 o1 v1 k1 : Nat) : State × Bool :=
  match s.burnWord o0 v0 k0 with
  | (s, true) => s.burnWord o1 v1 k1
  | (s, false) => (s, false)

/-- What a running BURN, SEAL or REVOKE does to the store; `stuck` names the bits that fail to burn. -/
def State.burnRun (s : State) (x : OtpRun) (stuck0 stuck1 : Nat) : State × Bool :=
  let t := genBase x.gen + trailerOff
  match x.op with
  | 0 => s.burnWord x.addr x.data stuck0
  | 1 => s.burnTwo t (s.genCrc x.gen) stuck0 (t + 4) 0x4C414553 stuck1
  | 2 => if s.genState x.gen = 3 then (s, true) else s.burnTwo (t + 8) 0xFFFFFFFF stuck0 (t + 12) 0xFFFFFFFF stuck1
  | _ => (s, true)

/-- No write of an ADOPT waits in the host lane (R388). -/
def State.adoptQuiet (s : State) : Bool :=
  !(Tab.get (fun _ => []) s.mb.lanes 8).any (fun o => match o with | .write 4 _ _ _ => true | _ => false)

/-- An ADOPT completes (R388). -/
def State.adoptEnd (s : State) (x : OtpRun) : State :=
  let s := (s.setFld R.OTP_STATUS_LIVE_GEN x.gen).clr R.OTP_STATUS_LIVE_NONE
  let s := (s.setFld R.OTP_IMAGE_ID (s.genField x.gen 24 4)).setFld R.OTP_STATUS_STRUCT_PENDING
    (if s.structDiffers x.gen then 1 else 0)
  s.otpEnd (if x.data = 0 then 2 else 13)

/-- OTP_CMD_COMPLETE (R384). -/
def State.otpComplete (s : State) (stuck0 stuck1 : Nat) : State :=
  match s.stores.otp with
  | none => s
  | some x =>
    if x.op = 3 ∧ ¬ s.adoptQuiet then s
    else
      let s := ({ s with stores := { s.stores with otp := none } }).clr R.OTP_STATUS_BUSY
      if x.op = 3 then s.adoptEnd x
      else
        let (s, ok) := s.burnRun x stuck0 stuck1
        (s.otpEnd (if ok then 2 else 12)).showGens

def execOtpCmdComplete (stuck0 stuck1 : BitVec 32) (s : State) : Out := s.awake (s.otpComplete stuck0.toNat stuck1.toNat)

/-- OTP_WINDOW_WRITE (R374): a store to the window changes nothing and is counted. -/
def execOtpWindowWrite (s : State) : Out := s.awake (s.bump R.OTP_WDROP)

end Sys2Proof.Machine
end

