-- ==== Sys2Proof/Machine/Rings.lean ====
section
/-! DEFINITION. Machine/Rings.lean: ring registers and doorbells (12 R358, R365, R366, R370) and the copies of PUSH, POP and PEEK (R360
to R362, 11 R324, R325). -/
namespace Sys2Proof.Machine

def State.rejRing (s : State) (r : Nat) : State := s.raise (R.RING_STAT_CFG_REJ r)

/-! ### Registers (R358, R366, R370) -/

/-- The bytes of a ring's storage: its first offset and its length (R358). -/
def State.ringSpan (s : State) (r : Nat) : Nat × Nat := (s.fld (R.RING_BASE_OFFSET r), s.ringN r * s.ringEsz r)

/-- The storage of two rings of one bank overlaps. -/
def State.ringsOverlap (s : State) (r q : Nat) : Bool :=
  let (a, n) := s.ringSpan r
  let (b, m) := s.ringSpan q
  decide (ringBank r = ringBank q) && overlaps a n b m

/-- The checks of R358 on a ring that is to be enabled. -/
def State.ringFits (s : State) (r : Nat) : Bool :=
  let (a, n) := s.ringSpan r
  let k := s.fld (R.RING_CFG_LOG2N r)
  decide (4 ≤ k) && decide (k ≤ 16) && decide (a + n ≤ bankSize (ringBank r))
    && (decide (64 ≤ r) || s.ringEsz r == 128)
    && (List.range 128).all (fun q => q == r || !s.ringOn q || !s.ringsOverlap r q)

/-- ESZ, LOG2N and CONS_HOST as a write gives them; CONS_HOST is fixed but for rings 64 to 103 (R370). -/
def State.ringShape (s : State) (r v : Nat) : State :=
  let s := (s.setFld (R.RING_CFG_ESZ r) (v / 4)).setFld (R.RING_CFG_LOG2N r) (v / 16)
  if 64 ≤ r ∧ r < 104 then s.setFld (R.RING_CFG_CONS_HOST r) (v / 512) else s

/-- A write would change ESZ, LOG2N or CONS_HOST. -/
def State.shapeChanges (s : State) (r v : Nat) : Bool :=
  let t := s.ringShape r v
  t.fld (R.RING_CFG_ESZ r) != s.fld (R.RING_CFG_ESZ r) || t.fld (R.RING_CFG_LOG2N r) != s.fld (R.RING_CFG_LOG2N r)
    || t.fld (R.RING_CFG_CONS_HOST r) != s.fld (R.RING_CFG_CONS_HOST r)

/-- A ring whose other fields stand is enabled, or refused (R358, R366). -/
def State.ringTurnOn (s : State) (r : Nat) : State :=
  if s.ringFits r then
    (((s.raise (R.RING_CFG_EN r)).clr (R.RING_CFG_STOP r)).setFld (R.RING_HEAD_INDEX r) 0).setFld (R.RING_TAIL_INDEX r) 0
  else s.rejRing r

/-- What a write of RING_CFG does to the ring (R358, R366, R515). -/
def State.ringCfg (s : State) (r v : Nat) : State :=
  if s.ringOn r then
    if s.shapeChanges r v ∨ (v % 2 = 0 ∧ s.ringCount r ≠ 0) then s.rejRing r
    else (s.setFld (R.RING_CFG_STOP r) (v / 2)).setFld (R.RING_CFG_EN r) v
  else
    let s := (s.ringShape r v).setFld (R.RING_CFG_STOP r) (v / 2)
    if v % 2 = 0 then s else s.ringTurnOn r

/-- A write of RING_CFG; any write to a ring's registers is a descriptor update (R360), refused ones too. -/
def State.writeRingCfg (s : State) (r v : Nat) : State := s.ringUpdate r false (fun s => s.ringCfg r v)

/-- A write of RING_BASE (R366); bits [6:0] read zero (R370). -/
def State.writeRingBase (s : State) (r v : Nat) : State :=
  let v := v % 2 ^ 22 / 128 * 128
  s.ringUpdate r false (fun s =>
    if s.ringOn r ∧ v ≠ s.fld (R.RING_BASE_OFFSET r) then s.rejRing r else s.setFld (R.RING_BASE_OFFSET r) v)

/-- A write of RING_PROD or RING_CONS (R370). -/
def State.writeRingSide (s : State) (r : Nat) (prod : Bool) (v : Nat) : State :=
  let role := if hardSide r prod then 0x3F else v % 64
  let bit := v / 256 % 64
  s.ringUpdate r false (fun s =>
    if role < 0x3E ∧ 15 < bit then s.rejRing r
    else
      (((s.setFld (ringRole r prod) role).setFld (ringThr r prod) (v / 64)).setFld (ringBit r prod) bit).setFld
        (ringLevel r prod) (v / 65536))

def execRingEnable (r : Fin 128) (v : BitVec 32) (s : State) : Out := s.live (s.writeRingCfg r (v.toNat / 2 * 2 + 1))
def execRingDisable (r : Fin 128) (v : BitVec 32) (s : State) : Out := s.live (s.writeRingCfg r (v.toNat / 2 * 2))

/-- RING_STOP_WRITE (R366). -/
def execRingStopWrite (r : Fin 128) (stop : Bool) (s : State) : Out :=
  s.live (s.ringUpdate r false (fun s => s.setFld (R.RING_CFG_STOP r) (if stop then 1 else 0)))

/-! ### Doorbells (R365) -/

/-- The host owns the producer side; the consumer side (01 R30, R362). -/
def hostProduces (r : Nat) : Bool := decide (104 ≤ r) && decide (r < 112)
def State.hostConsumes (s : State) (r : Nat) : Bool :=
  (decide (64 ≤ r) && decide (r < 120)) && s.flag (R.RING_CFG_CONS_HOST r)

/-- A doorbell that the ring refuses (R365). -/
def State.rejDoorbell (s : State) (r : Nat) : State := s.ringUpdate r false (fun s => s.raise (R.RING_STAT_DB_REJ r))

/-- A write of the new index by the host; a fenced ring manager answers DOMAIN_OFF (16 R446). -/
def State.doorbell (s : State) (r idx : Nat) : State :=
  if s.ringsFenced then s.raise R.HOST_STATUS_DOMAIN_OFF
  else if hostProduces r then
    if (idx + 2 ^ 17 - s.ringTail r) % 2 ^ 17 ≤ s.ringRoom r then
      s.ringUpdate r true (fun s => s.setFld (R.RING_TAIL_INDEX r) idx)
    else s.rejDoorbell r
  else if s.hostConsumes r then
    if (idx + 2 ^ 17 - s.ringHead r) % 2 ^ 17 ≤ s.ringCount r then
      s.ringUpdate r true (fun s => s.setFld (R.RING_HEAD_INDEX r) idx)
    else s.rejDoorbell r
  else s.rejDoorbell r

/-! ### PUSH, POP and PEEK (R360 to R362, 11 R324, R325): the state, rd, and the exception code -/

/-- An address in DB, EP, RB_0, RB_1, SB or HB. -/
def bufferByte (a : Nat) : Bool :=
  match bankOf a with
  | some b => decide (8 ≤ b) && decide (b ≤ 27)
  | none => false

/-- The `n` bytes of the buffer lie in DB, EP, RB_0, RB_1, SB or HB, aligned to 16 bytes (11 R324). -/
def ringBuf (buf n : Nat) : Bool := buf % 16 == 0 && bufferByte buf && bufferByte (buf + n - 1)

/-- The group rule of 11 R325. -/
def ringGroup (r : Nat) (push : Bool) : Bool :=
  if push then (decide (32 ≤ r) && decide (r < 64)) || decide (112 ≤ r)
  else decide (r < 32) || (decide (64 ≤ r) && decide (r < 112)) || decide (120 ≤ r)

/-- The owner check of R362. -/
def State.ringOwner (s : State) (r role : Nat) (push : Bool) : Bool :=
  let d := s.fld (ringRole r push)
  (decide (0x3E ≤ d) || d == role) && (push || !(s.hostConsumes r || d == 0x3E))

/-- Both banks of a copy serve accesses. -/
def State.copyOpen (s : State) (r buf n : Nat) : Bool :=
  s.bankOpen (ringBank r) && s.bankOpen (bankAt buf) && s.bankOpen (bankAt (buf + n - 1))

/-- A copy met a gate: nothing moves, the copy counts once (log 77), and the ring manager reports (01 R37). -/
def State.copyGate (s : State) : State := (s.bankOff).report 0x019 1 0x0A

/-- A copy met an uncorrectable group (R361). -/
def State.copyUe (s : State) (r : Nat) (bad : Bool) : State := s.raiseIf bad (R.RING_STAT_ENTRY_UE r)

/-- The checks before a ring instruction moves anything: the code it completes with, if it does. -/
def State.ringRefuses (s : State) (r role buf : Nat) (push : Bool) : State × Option Nat :=
  if ¬ ringBuf buf (s.ringEsz r) ∨ ¬ ringGroup r push then (s, some 3)
  else if ¬ s.ringOwner r role push then (s.raise (R.RING_STAT_OWN_REJ r), some 3)
  else if s.ringsFenced then (s, some 2)
  else if push ∧ s.ringRoom r = 0 then (s.ringFull r, some 5)
  else if ¬ push ∧ (¬ s.ringOn r ∨ s.ringCount r = 0) then (s, some 4)
  else if ¬ s.copyOpen r buf (s.ringEsz r) then (s.copyGate, some 2)
  else (s, none)

/-- PUSH (11 R324). -/
def State.pushOp (s : State) (r role buf : Nat) : State × Nat × Nat :=
  match s.ringRefuses r role buf true with
  | (s, some c) => (s, 0, c)
  | (s, none) =>
    let free := s.ringFree r
    let (s, bad) := s.copyGroups buf (s.ringEntry r (s.ringTail r)) (s.ringEsz r)
    ((s.copyUe r bad).ringPushTail r 1, free, if bad then 2 else 0)

/-- POP and PEEK (11 R324). -/
def State.popOp (s : State) (r role buf : Nat) (peek : Bool) : State × Nat × Nat :=
  match s.ringRefuses r role buf false with
  | (s, some c) => (s, 0, c)
  | (s, none) =>
    let n := s.ringCount r
    let (s, bad) := s.copyGroups (s.ringEntry r (s.ringHead r)) buf (s.ringEsz r)
    let s := s.copyUe r bad
    (if peek then s else s.ringPopHead r 1, n, if bad then 2 else 0)

end Sys2Proof.Machine
end

