-- ==== Sys2Proof/Machine/RegPath.lean ====
section
/-! DEFINITION. Machine/RegPath.lean: what a 32-bit write to and a read of a register does (00 R12, the register tables of every
chapter, 18 R484, R487). `by_` is the requester: 0 a host path, the loader or ADOPT, 1 + n engine n. -/
namespace Sys2Proof.Machine

/-! ### The access codes (00 R12) -/

/-- A write of one field: RW takes the bits, W1C is cleared by each 1, the others ignore it. -/
def State.plainField (s : State) (a v : Nat) (f : FieldDef) : State :=
  let x : Fld := ⟨a, f.lo, f.width⟩
  let w := v / 2 ^ f.lo % 2 ^ f.width
  match f.acc with
  | .rw => s.setFld x w
  | .w1c => s.setFld x (s.fld x - Nat.land (s.fld x) w)
  | _ => s

/-- A write of a register whose fields have no effect of their own. -/
def State.plainWrite (s : State) (a v : Nat) : State := (fieldsAt a).foldl (fun s f => s.plainField a v f) s

/-- What a read returns of one field, in its place. -/
def State.fieldRead (s : State) (a : Nat) (f : FieldDef) : Nat :=
  if f.acc = .wo then 0 else s.fld ⟨a, f.lo, f.width⟩ * 2 ^ f.lo

/-- The word that a read of a register returns; reserved bits read zero (00 R14). -/
def State.plainRead (s : State) (a : Nat) : Nat := (fieldsAt a).foldl (fun x f => x + s.fieldRead a f) 0

/-- A read clears the RC fields (00 R12). -/
def State.readClear (s : State) (a : Nat) : State :=
  (fieldsAt a).foldl (fun s f => if f.acc = .rc then s.setFld ⟨a, f.lo, f.width⟩ 0 else s) s

/-- Instance and register offset of an address in an array of register groups. -/
def inst (a base stride : Nat) : Nat := (a - base) / stride
def offs (a base stride : Nat) : Nat := (a - base) % stride

/-- Bit 31 of a command word. -/
def goBit (v : Nat) : Bool := v.testBit 31

/-! ### The blocks behind the control mailbox (18 R484) -/

/-- TBASE and TSERVO (02 R72, R73). -/
def State.writeTbase (s : State) (a v : Nat) : State :=
  let o := a % 0x10000
  if o < 0x100 then
    s.tbaseGuard (fun s =>
      if o = 0x00 then (if v.testBit 0 then s.declareKnown else s)
      else if o = 0x20 then s.writeIncrement 0 v
      else if o = 0x24 then s.writeIncrement 1 v
      else if o = 0x28 then s.writeIncrement 2 v
      else if o = 0x3C then s.writeLeapCtl v
      else s.plainWrite a v)
  else
    s.servoGuard (fun s =>
      if o = 0x100 then s.writeTsvCtl v
      else if 0x140 ≤ o ∧ o < 0x160 then s.writeStage ((o - 0x140) / 4) v
      else s.plainWrite a v)

/-- A write that can change the decimation which the qualifier sets on a channel it owns (03 R81): a change restarts its count. -/
def State.ownWrite (s : State) (n a v : Nat) : State :=
  let t := s.plainWrite a v
  if s.candEn n ∧ t.decimation (64 + n) ≠ s.decimation (64 + n) then t.restartDec (64 + n) else t

/-- A write of QUAL_CAND_CFG (03 R99): the fields beside EN and ENS belong to the external inputs, candidates 0 to 15. -/
def State.writeCandCfg (s : State) (n a v : Nat) : State :=
  let s := if n < 16 then s.ownWrite n a (v / 2 * 2 + s.fld (R.QUAL_CAND_CFG_EN n)) else s.setFld (R.QUAL_CAND_CFG_ENS n) (v / 2)
  if v.testBit 0 = s.flag (R.QUAL_CAND_CFG_EN n) then s else s.writeCandEn n (v.testBit 0)

/-- A write of QUAL_CAND_IN (03 R99): MODE 3 is not written. -/
def State.writeCandIn (s : State) (n a v : Nat) : State :=
  if v % 4 = 3 then s.plainWrite a (v / 4 * 4 + s.fld (R.QUAL_CAND_IN_MODE n)) else s.plainWrite a v

/-- A write of QUAL_CAND_EVENTS (03 R95): clearing STEPPED_SET clears STEPPED. -/
def State.writeCandEvents (s : State) (n a v : Nat) : State :=
  let s := s.plainWrite a v
  if v.testBit 1 then (s.clearStepped n).reform else s

/-- A label that a program writes (03 R87): the on-time second of the next pulse, within 2^32 s of the hub second. -/
def State.writeTod (s : State) (n v : Nat) : State :=
  s.setCand n { s.cand n with prog := some (s.hubSec / 2 ^ 32 * 2 ^ 32 + v) }

/-- QUAL (03 R98, R99). -/
def State.writeQual (s : State) (a v : Nat) : State :=
  let o := a % 0x10000
  if o = 0x28 then s.writeDriftWin v
  else if o < 0x1000 ∨ 0x1C00 ≤ o then s.plainWrite a v
  else
    let n := inst o 0x1000 0x40
    match offs o 0x1000 0x40 with
    | 0x00 => s.writeCandCfg n a v
    | 0x04 => if n < 16 then s.ownWrite n a v else s
    | 0x08 => if n < 16 then s.writeCandIn n a v else s
    | 0x30 => if n < 16 then s.plainWrite a v else s
    | 0x10 => s.writeCandEvents n a v
    | 0x34 => s.writeTod n v
    | 0x38 => if v.testBit 0 then s.reobserve n else s
    | _ => s.plainWrite a v

/-- A write of SEAM_CTL (04 R137): FREE has its effect. -/
def State.writeSeamCtl (s : State) (a v : Nat) : State :=
  let free := v.testBit 3
  let s := s.plainWrite a (v % 8 + 8 * s.fld R.SEAM_CTL_FREE)
  if free = s.flag R.SEAM_CTL_FREE then s else s.writeFree free

/-- A write of SEAM_SEL_CMD (04 R102): SELECT, then CLEAR_PREF (log 28). -/
def State.writeSelCmd (s : State) (v : Nat) : State :=
  let s := if v.testBit 6 then s.select (v % 64) else s
  if v.testBit 7 then s.clearPref else s

/-- A PRESS form by its code (04 R125). -/
def formOf (f : Nat) : Form := match f with | 0 => .align | 1 => .step | 2 => .slew | _ => .abort

/-- SEAM (04 R137, R138). -/
def State.writeSeam (s : State) (a v : Nat) : State :=
  s.seamGuard (fun s =>
    match a % 0x10000 with
    | 0x000 => s.writeSeamCtl a v
    | 0x00C => s.writeSelCmd v
    | 0x110 =>
      if goBit v then s.pressHost (formOf (v % 4)) (v.testBit 2) (v / 8 % 256) (v / 2048 % 64) else s
    | _ => s.plainWrite a v)

/-- A write of SYN_PLL_CMD (05 R167): its commands in the order of their bits (log 28). -/
def State.writePllCmd (s : State) (p v : Nat) : State :=
  let s := if v.testBit 0 then s.startPll p else s
  let s := if v.testBit 1 then s.pllStop p else s
  let s := if v.testBit 2 then s.handover p else s
  let s := if v.testBit 3 then s.handback p else s
  (if v.testBit 4 then s.rotClr p else s).settleWake

/-- A write of SYN_RAMP_CMD (05 R156): GO, then ABORT (log 28). -/
def State.writeRampCmd (s : State) (p v : Nat) : State :=
  let s := if v.testBit 0 then (s.rampGo p).2 else s
  if v.testBit 1 then (s.rampAbort p).2 else s

/-- SYNTH (05 R167, R168). -/
def State.writeSynth (s : State) (a v : Nat) : State :=
  let o := a % 0x10000
  if o = 0 then s.writeSerdesDiv v
  else if 0x100 ≤ o ∧ o < 0x200 then
    let p := inst o 0x100 0x40
    match offs o 0x100 0x40 with
    | 0x00 => s.writePllCfg p v
    | 0x04 => s.writePllCmd p v
    | 0x10 => s.writeDomain p v
    | _ => s.plainWrite a v
  else if 0x2800 ≤ o ∧ o < 0x4000 then
    let p := inst o 0x2800 0x800
    match offs o 0x2800 0x800 with
    | 0x04 => s.writeRampCmd (p + 1) v
    | 0x10 => s.stageWord a v
    | 0x14 => s.stageWord a v
    | 0x18 => s.commitAt p v
    | _ => s.plainWrite a v
  else s.plainWrite a v

/-- A write of PPS_CMD (05 R164): FR_ARM, then FR_STOP (log 28). -/
def State.writePpsCmd (s : State) (k v : Nat) : State :=
  let s := if v.testBit 0 then s.frArm k else s
  if v.testBit 1 then s.frStop k else s

/-- The registers of a pulse output (05 R170). -/
def State.writePpsReg (s : State) (k o a v : Nat) : State :=
  match o with
  | 0x00 => s.writePps k 0 v
  | 0x04 => s.writePps k 1 v
  | 0x08 => s.writePps k 2 v
  | 0x0C => s.writePps k 3 v
  | 0x18 => s.stageWord a v
  | 0x1C => s.stageWord a v
  | 0x20 => s.commitAt (4 + k) v
  | 0x24 => s.writePps k 4 v
  | 0x28 => s.writePps k 5 v
  | 0x38 => s.writePpsCmd k v
  | _ => s.plainWrite a v

/-- OUTS (05 R169, R170). -/
def State.writeOuts (s : State) (a v : Nat) : State :=
  let o := a % 0x10000
  if o = 0x08 ∨ o = 0x0C then s.stageWord a v
  else if o = 0x10 then s.commitAt 3 v
  else if o = 0x14 then (if v.testBit 0 then s.syncGo else s)
  else if 0x100 ≤ o ∧ o < 0x400 then
    let i := inst o 0x100 0x20
    match offs o 0x100 0x20 with
    | 0x00 => s.writeOutCfg i v
    | 0x04 => s.writeOutDiv i v
    | 0x08 => s.writeTrim i v
    | _ => s.plainWrite a v
  else if 0x800 ≤ o ∧ o < 0xA00 then s.writePpsReg (inst o 0x800 0x40) (offs o 0x800 0x40) a v
  else s.plainWrite a v

/-- TDC (06 R195, R196). -/
def State.writeTdc (s : State) (a v : Nat) : State :=
  let o := a % 0x10000
  if o = 0x0C then (if goBit v then s.calGo (v % 128) else s)
  else if 0x1000 ≤ o ∧ o < 0x1D00 then
    let c := inst o 0x1000 0x20
    match offs o 0x1000 0x20 with
    | 0x00 => s.writeChCfg c v
    | 0x04 => s.writeDec c (v % 2 ^ 25)
    | _ => s.plainWrite a v
  else s.plainWrite a v

/-! ### The other blocks -/

/-- A write of LNK_CMD (07 R224): its commands in the order of their bits (log 28). -/
def State.writeLnkCmd (s : State) (n v : Nat) : State :=
  let s := if v.testBit 0 then s.pcArm n else s
  let s := if v.testBit 1 then s.phaseLost n else s
  if v.testBit 2 then s.linkReadmit n else s

/-- LINKS (07 R224, R225); the quality table changes what the port announces (07 R219). -/
def State.writeLinks (s : State) (a v : Nat) : State :=
  let n := (a - 0x5080000) / 0x1000
  let o := a % 0x1000
  if o = 0 then (if v % 2 = 1 then s.writeEnable n v else s.writeDisable n v)
  else if o = 4 then s.writeLnkCmd n v
  else if o = 0x2C then s.writeLinkTrim n (v % 2 ^ 24)
  else if 0x100 ≤ o ∧ o < 0x128 then (s.plainWrite a v).announce
  else s.plainWrite a v

/-- EPDIR (09 R253, R255, R273). -/
def State.writeEpdir (s : State) (by_ a v : Nat) : State :=
  let o := a % 0x10000
  if o = 4 then s.writeSalt v
  else if 0x100 ≤ o ∧ o < 0x220 then
    let slot := inst o 0x100 0x20
    if by_ ≠ 0 ∧ by_ ≠ slot then s.raise R.EPD_DIR_EVENTS_CMD_REJ
    else if offs o 0x100 0x20 = 0x10 then (if goBit v then s.dirCmd by_ slot (v % 4) else s)
    else s.plainWrite a v
  else s.plainWrite a v

/-- A write of ENG_ROLE_PLAN: P0 of SELF_0 to SELF_7 is fixed (10 R303). -/
def State.writePlan (s : State) (a v : Nat) : State :=
  let r := inst (a % 0x10000) 0x100 8
  if r < 8 then s.plainWrite a (v / 16 * 16 + s.fld (R.ENG_ROLE_PLAN_P0 r)) else s.plainWrite a v

/-- The global ENG registers (10 R303). -/
def State.writeEngGlobal (s : State) (by_ a v : Nat) : State :=
  if by_ ≠ 0 then s.raise R.ENGC_EVENTS_CMD_REJ
  else
    let o := a % 0x10000
    if o = 0x10 then (if goBit v then s.roleCmd (v % 64) (v / 256 % 8) else s)
    else if 0x100 ≤ o ∧ o < 0x300 ∧ o % 8 = 4 then s.writePlan a v
    else s.plainWrite a v

/-- The per-engine registers that only the host writes (10 R304). -/
def hostOnlyEng (o : Nat) : Bool :=
  o == 0x00 || o == 0x04 || o == 0x10 || o == 0x18 || o == 0x20 || (decide (0x40 ≤ o) && decide (o < 0x50))

/-- A word of a thread's timer, from ENG_n itself (10 R305). -/
def State.writeTimer (s : State) (n o a v : Nat) : State :=
  if o % 0x10 = 8 then s.commitTimer n ((o - 0x80) / 0x10) v
  else if o % 0x10 < 8 then s.stageWord a v
  else s

/-- The registers of ENG_n (10 R304, R305); a timer takes no write from another requester. -/
def State.writeEngN (s : State) (by_ n o a v : Nat) : State :=
  if 0x80 ≤ o ∧ o < 0xC0 then (if by_ = n + 1 then s.writeTimer n o a v else s.raise (R.ENG_EVENTS_CMD_REJ n))
  else if by_ ≠ 0 ∧ hostOnlyEng o then s.raise (R.ENG_EVENTS_CMD_REJ n)
  else if o = 0x04 then s.writeEngCmd n v
  else if o = 0x18 ∨ (0x40 ≤ o ∧ o < 0x50) then s.plainWrite a (v / 4 * 4)
  else if o = 0x20 then s.writeMbRate n v
  else s.plainWrite a v

def State.writeEng (s : State) (by_ a v : Nat) : State :=
  let o := a % 0x10000
  if o < 0x1000 then s.writeEngGlobal by_ a v
  else if o < 0x1800 then s.writeEngN by_ (inst o 0x1000 0x100) (o % 0x100) a v
  else s

/-- RINGS (12 R369, R370): engine stores are dropped. -/
def State.writeRings (s : State) (by_ a v : Nat) : State :=
  if by_ ≠ 0 then s.raise R.RINGS_EVENTS_ENG_WR
  else
    let o := a % 0x10000
    if o < 0x1000 ∨ 0x2000 ≤ o then s.plainWrite a v
    else
      let r := inst o 0x1000 0x20
      match offs o 0x1000 0x20 with
      | 0x00 => s.writeRingCfg r v
      | 0x04 => s.writeRingBase r v
      | 0x08 => s.writeRingSide r true v
      | 0x0C => s.writeRingSide r false v
      | 0x18 => s.doorbell r (v % 2 ^ 17)
      | _ => s.ringUpdate r false (fun s => s.plainWrite a v)

/-- BANKS (12 R371, R372): engine stores are dropped. -/
def State.writeBanks (s : State) (by_ a v : Nat) : State :=
  if by_ ≠ 0 then s.raise R.BNK_EVENTS_G_ENG_WR
  else
    let o := a % 0x10000
    if o = 0 then (if goBit v then s.darnGo (v % 32) (v.testBit 8) else s)
    else if 0x1000 ≤ o ∧ o < 0x1E80 ∧ offs o 0x1000 0x80 = 0 then s.writeBankCfg (inst o 0x1000 0x80) v
    else s.plainWrite a v

/-- FAULT (16 R455, R456). -/
def State.writeFault (s : State) (a v : Nat) : State :=
  match a % 0x10000 with
  | 0x04 => (s.plainWrite a v).faultLines
  | 0x08 => (s.plainWrite a v).faultLines
  | 0x24 => s.logAck (v % 32)
  | 0x30 => if goBit v then s.fltClear (v % 512) else s
  | 0x40 => if goBit v then s.fltInject (v % 512) (v / 512 % 4) (v.testBit 11) else s
  | _ => s.plainWrite a v

/-- The commit of PWR_WAKE_AT arms the alarm; a value that breaks 00 R8 sets HT_REJ (15 R438). -/
def State.commitWake (s : State) (v : Nat) : State :=
  let w0 := Tab.get (fun _ => 0) s.syn.stage R.PWR_WAKE_AT_0_AT.addr
  let w1 := Tab.get (fun _ => 0) s.syn.stage R.PWR_WAKE_AT_1_AT.addr
  let x := w0 + 2 ^ 32 * w1 + 2 ^ 64 * (v % 2 ^ 32)
  if hubLegal x then
    let s := s.setTriple R.PWR_WAKE_AT_0_AT R.PWR_WAKE_AT_1_AT R.PWR_WAKE_AT_2_AT x
    { s with pwr := { s.pwr with alarm := true } }
  else s.raise R.PWR_EVENTS_HT_REJ

/-- PWR (15 R427, R433, R438). -/
def State.writePwr (s : State) (by_ a v : Nat) : State :=
  match a % 0x10000 with
  | 0x08 => if by_ ≠ 0 then s.raise R.PWR_EVENTS_ENG_WR else if goBit v then s.pwrGo (v % 8) else s
  | 0x20 => s.stageWord a v
  | 0x24 => s.stageWord a v
  | 0x28 => s.commitWake v
  | 0x30 => if s.flag R.PWR_CFG_CAL_HOLD then s.plainWrite a v else s
  | 0x34 => if s.flag R.PWR_CFG_CAL_HOLD then s.plainWrite a v else s
  | _ => s.plainWrite a v

/-- The registers of a result slot (17 R473, R476, R482). -/
def State.writeSlot (s : State) (by_ k o a v : Nat) : State :=
  if o = 0x0C then (if v.testBit 0 then s.slotPost by_ k else s)
  else if 0x40 ≤ o ∧ o < 0x60 then s.writeStageWord by_ k ((o - 0x40) / 4) v
  else if by_ ≠ 0 then s.raise R.HOST_EVENTS_ENG_WR
  else if o = 0x08 then s.slotAck k (v % 2 ^ 16)
  else s.plainWrite a v

/-- HOST (17 R458, R481, R482). -/
def State.writeHost (s : State) (by_ a v : Nat) : State :=
  let o := a % 0x10000
  if 0x1000 ≤ o ∧ o < 0x2000 then s.writeSlot by_ (inst o 0x1000 0x80) (offs o 0x1000 0x80) a v
  else if by_ ≠ 0 then s.raise R.HOST_EVENTS_ENG_WR
  else if o = 0x08 then s.writeMbRate 8 v
  else s.plainWrite a v

/-- SYS (14 R404, R408, R411): SYS_FACTORY_REQ takes no write here. -/
def State.writeSys (s : State) (by_ a v : Nat) : State :=
  if a % 0x10000 = 0x0C then
    if by_ ≠ 0 then s.raise R.SYS_MODE_STATUS_ENG_WR else if goBit v then s.modeCmd (v % 8) else s
  else s.plainWrite a v

/-! ### ADOPT (13 R388) -/

/-- The value that ADOPT writes to a register: the non-structural IMAGE fields of the generation, and what the other RW fields
hold. -/
def State.adoptValue (s : State) (l : List (Nat × Nat × Nat)) (a : Nat) : Nat :=
  (fieldsAt a).foldl (fun x f =>
    x + (if f.acc ≠ .rw then 0
      else if (adoptFields a).contains f then fieldValue l a f
      else s.fld ⟨a, f.lo, f.width⟩) * 2 ^ f.lo) 0

/-- The registers that ADOPT writes, in the order of 13 R382 step 4: those that no triple names, by address; then those that one
does, by their last triple. -/
def adoptRegs (l : List (Nat × Nat × Nat)) : List Nat :=
  let rs := allRegs.filter (fun a => (adoptFields a).any (fun f => f.acc == .rw))
  let named := (l.map (fun t => t.1)).reverse.eraseDups.reverse
  rs.filter (fun a => !named.contains a) ++ named.filter (fun a => rs.contains a)

/-- A field that a write was to set holds another value: the write was refused. -/
def State.adoptRefused (s : State) (a v : Nat) : Bool :=
  (adoptFields a).any (fun f => f.acc == .rw && s.fld ⟨a, f.lo, f.width⟩ != v / 2 ^ f.lo % 2 ^ f.width)

/-- A refused write is counted (13 R388). -/
def State.adoptCount (s : State) (bad : Bool) : State :=
  if bad then
    let s := s.bump R.OTP_ADOPT_REJ
    { s with stores := { s.stores with otp := s.stores.otp.map (fun x => { x with data := x.data + 1 }) } }
  else s

/-! ### A write and a read of a register -/

/-- A write of the blocks that the mailbox guards. -/
def State.writeMail (s : State) (a v : Nat) : State :=
  match a / 0x10000 with
  | 0x501 => s.writeTbase a v
  | 0x502 => s.writeQual a v
  | 0x503 => s.writeSeam a v
  | 0x504 => s.writeSynth a v
  | 0x505 => s.writeOuts a v
  | 0x506 => s.writeTdc a v
  | _ => s

/-- A write of the directly reached blocks but NVCTL and OTPCTL. -/
def State.writeDirect (s : State) (by_ a v : Nat) : State :=
  match a / 0x10000 with
  | 0x500 => s.writeSys by_ a v
  | 0x508 => s.writeLinks a v
  | 0x509 => s.writeLinks a v
  | 0x50A => s.writeEpdir by_ a v
  | 0x50B => s.writeEng by_ a v
  | 0x50C => s.writeRings by_ a v
  | 0x50D => s.writeBanks by_ a v
  | 0x50E => s.writeFault a v
  | 0x50F => s.writePwr by_ a v
  | 0x510 => s.writeHost by_ a v
  | _ => s

/-- One write of ADOPT (13 R388): a mailbox block's enters the host lane, another block's takes effect. -/
def State.adoptWrite (s : State) (a v : Nat) : State :=
  if isMailbox a then s.laneAdd 8 (.write 4 a 0 (BitVec.ofNat 32 v))
  else
    let s := s.writeDirect 0 a v
    s.adoptCount (s.adoptRefused a v)

/-- ADOPT begins: its writes are made in order (13 R388). -/
def State.adoptStart (s : State) (gen : Nat) : State :=
  let l := s.genTriples gen
  (adoptRegs l).foldl (fun s a => s.adoptWrite a (s.adoptValue l a)) s

/-- A GO of any OP (13 R384). -/
def State.otpCmd (s : State) (op gen : Nat) : State :=
  let t := s.otpGo op gen
  if op = 3 ∧ s.stores.otp = none ∧ t.stores.otp ≠ none then t.adoptStart gen else t

/-- OTP_ADOPT (13 R388). -/
def execOtpAdopt (gen : Fin 4) (s : State) : Out := s.awake (s.otpCmd 3 gen)

/-- A write of NV_CMD: FLUSH, then RECHECK (13 R402, log 28). -/
def State.writeNvCmd (s : State) (v : Nat) : State :=
  let s := if v.testBit 0 then s.nvFlush else s
  if v.testBit 1 then s.evalRecords else s

/-- NVCTL and OTPCTL (13 R402, R403). -/
def State.writeNvOtp (s : State) (a v : Nat) : State :=
  match a % 0x10000 with
  | 0x008 => s.writeNvCmd v
  | 0x110 => if goBit v then s.otpCmd (v % 8) (v / 16 % 4) else s
  | _ => s.plainWrite a v

/-- A 32-bit write of a register block. -/
def State.regWrite (s : State) (by_ a v : Nat) : State :=
  if isMailbox a then s.writeMail a v
  else if a / 0x10000 = 0x511 then s.writeNvOtp a v
  else s.writeDirect by_ a v

/-- The fields whose value follows other state, by register. -/
def State.derived (s : State) (a : Nat) : List (Fld × Nat) :=
  let bits (l : List Nat) (p : Nat → Bool) : Nat := l.foldr (fun n x => (if p n then 1 else 0) + 2 * x) 0
  let b (c : Bool) : Nat := if c then 1 else 0
  let o := a % 0x10000
  match a / 0x10000 with
  | 0x501 =>
    let v := encodeHub s.tb.now
    [(R.TB_NOW_0_NOW, v), (R.TB_NOW_1_NOW, v / 2 ^ 32), (R.TB_NOW_2_NOW, v / 2 ^ 64)]
  | 0x502 =>
    if o = 0 then [(R.QUAL_STATUS_ENS_N, s.ensemble.length)]
    else if 0x1000 ≤ o ∧ o < 0x1C00 ∧ (offs o 0x1000 0x40 = 0x28 ∨ offs o 0x1000 0x40 = 0x2C) then
      let n := inst o 0x1000 0x40
      if s.timeCand n then [] else [(R.QUAL_CAND_TOFF_LO n, 0), (R.QUAL_CAND_TOFF_HI n, 0)]
    else []
  | 0x506 =>
    if 0x1000 ≤ o ∧ o < 0x1D00 then
      let c := inst o 0x1000 0x20
      if c < 64 then [(R.TDC_CH_CFG_EN c, b (s.flag (R.LNK_CFG_EN (c % 32))))]
      else if s.owned c then [(R.TDC_CH_DEC_D c, s.decimation c)] else []
    else []
  | 0x508 | 0x509 =>
    let n := (a - 0x5080000) / 0x1000
    [(R.LNK_STATUS_TX_COHERENT n, b (s.linkState n == 3 && s.domainALocked)),
     (R.LNK_STATUS_RX_COHERENT n, b (s.selected == 16 + n && s.tsState == 2))]
  | 0x50B =>
    if o = 0 then
      [(R.ENG_STATUS_RUNNING, bits (List.range 8) (fun n => s.engState n == 1)),
       (R.ENG_STATUS_FENCED, bits (List.range 8) (fun n => s.engState n == 3)),
       (R.ENG_STATUS_PARKED, bits (List.range 8) (fun n => s.engState n == 0))]
    else if 0x1000 ≤ o ∧ o < 0x1800 then
      let n := inst o 0x1000 0x100
      let hold := s.engState n != 1 || s.pwrState != 0
      [(R.ENG_STATE_INFLIGHT n, (s.flights n).length),
       (R.ENG_HB_AGE_AGE n, if hold then 0 else min (2 ^ 32 - 1) ((s.tb.elapsed - Tab.get (fun _ => 0) s.eng.beatAt n) / fuPerUs)),
       (R.ENG_MB_WAIT_WAITING n, min 31 (s.laneWaiting n))]
        ++ (List.range 4).map (fun t =>
          (R.ENG_THR_STATE_W0_INFLIGHT n t, ((s.flights n).filter (fun f => f.thr == t)).length))
    else []
  | 0x50C =>
    if o < 0x10 then
      (List.range 4).map (fun w => (R.RINGS_PEND_PEND w, bits (List.range 32) (fun k =>
        let r := 32 * w + k
        s.flag (R.RING_STAT_FULL_SET r) || s.flag (R.RING_STAT_DB_REJ r) || s.flag (R.RING_STAT_CFG_REJ r)
          || s.flag (R.RING_STAT_OWN_REJ r) || s.flag (R.RING_STAT_ENTRY_UE r))))
    else []
  | 0x50F =>
    [(R.PWR_LEDGER_AGE_SECONDS, min (2 ^ 32 - 1) ((((s.tb.elapsed : Nat) : Int) - s.pwr.calAt).toNat / fuPerSec))]
  | 0x510 =>
    if o = 0x0C then [(R.HOST_MB_WAIT_WAITING, min 31 (s.laneWaiting 8))]
    else if 0x1000 ≤ o ∧ o < 0x2000 then
      let k := inst o 0x1000 0x80
      if s.flag (R.HOST_SLOT_CTL_READY k) then [] else (List.range 8).map (fun w => (R.HOST_SLOT_DATA_DATA k w, 0))
    else []
  | 0x511 => [(R.NV_STATUS_LOW, b s.nvLow)]
  | _ => []

/-- The state with the derived fields of a register shown. -/
def State.shown (s : State) (a : Nat) : State := (s.derived a).foldl (fun s p => s.setFld p.1 p.2) s

/-- The value of a register; reserved offsets read zero (18 R487). -/
def State.regValue (s : State) (a : Nat) : Nat := (s.shown a).plainRead a

/-- A read of a register by anything but a host path: its value, and the RC fields cleared. -/
def State.regRead (s : State) (a : Nat) : State × Nat := (s.readClear a, s.regValue a)

end Sys2Proof.Machine
end

