-- ==== Sys2Proof/Machine/EngOps.lean ====
section
/-! DEFINITION. Machine/EngOps.lean: the operations of the engines at their destinations (10 R277, R278, R288, 11 R313 to R316, R320,
R324, R325, R330 to R338). -/
namespace Sys2Proof.Machine

/-! ### Results (11 R337) -/

def OpResult.ok (v : Nat) : OpResult := { val := BitVec.ofNat 96 v, code := 0 }
/-- An exception leaves zero in the destination. -/
def OpResult.exc (code : Nat) : OpResult := { val := 0, code := code }

/-- A destination drops a stale operation and counts it (10 R288). -/
def State.lint (s : State) (e : Nat) (f : Fld) : State × OpResult :=
  let s := s.bump f
  let s := if s.flag (R.ENG_EVENTS_LINT_SET e) then s else (s.raise (R.ENG_EVENTS_LINT_SET e)).note (0x070 + e)
  (s, .exc 1)

/-! ### Addresses (11 R313, R314) -/

/-- An access of `size` bytes at an alignment is good; `atomic` for XADD and XSWP. -/
def accessOk (atomic : Bool) (size align a : Nat) : Bool :=
  decide (a < 2 ^ 32) && a % align == 0 && spaceOf a == spaceOf (a + size - 1)
    && (match bankOf a with
      | some b => !atomic || (decide (8 ≤ b) && decide (b < 28))
      | none => !atomic && size == 4 && align == 4 && (isAo a || isNv a || isOtp a || (isReg a && !isMailbox a)))

/-! ### Gates of the windows beside the banks -/

/-- A write of a register is answered as DOMAIN_OFF: by the gate of PD_LINK (15 R423), or for a fence (16 R446, R447). -/
def State.writeOff (s : State) (a : Nat) : Bool :=
  if isMailbox a then
    s.fenced 0x013 || (a / 0x10000 == 0x503 && s.seamFenced)
      || (a / 0x10000 == 0x501 && (s.tiFenced || (decide (0x100 ≤ a % 0x10000) && s.tservoFenced)))
  else
    ((a / 0x10000 == 0x508 || a / 0x10000 == 0x509) && s.pwrState == 2)
      || (a / 0x10000 == 0x50C && decide (0x1000 ≤ a % 0x10000) && decide (a % 0x10000 < 0x2000) && a % 0x20 == 0x18 && s.ringsFenced)

/-- A read is answered as DOMAIN_OFF by the gate of PD_LINK. -/
def State.readOff (s : State) (a : Nat) : Bool := (a / 0x10000 == 0x508 || a / 0x10000 == 0x509) && s.pwrState == 2

/-- A write that is answered as DOMAIN_OFF, and what it leaves: the count of the gate, or of the TI group fence (16 R447). -/
def State.offWrite (s : State) (a : Nat) : State :=
  if isMailbox a then (if a / 0x10000 = 0x501 ∧ s.tiFenced ∧ ¬ s.fenced 0x013 then s.bump R.FLT_TI_REFUSED_COUNT else s)
  else if a / 0x10000 = 0x50C then s else s.gateOff 5

/-- A write of a register with its answer: true for DOMAIN_OFF. -/
def State.regStore (s : State) (by_ a v : Nat) : State × Bool :=
  if s.writeOff a then (s.offWrite a, true) else (s.regWrite by_ a v, false)

/-- A read of a register with its answer. -/
def State.regLoad (s : State) (a : Nat) : State × Nat × Bool :=
  if s.readOff a then (s.gateOff 5, 0, true)
  else
    let (s, v) := s.regRead a
    (s, v, false)

/-- An aligned 32-bit read of always-on memory, NV, OTP or a directly reached register: the state, the data, DOMAIN_OFF. -/
def State.load32 (s : State) (a : Nat) : State × Nat × Bool :=
  if isAo a ∨ isOtp a then (s, s.bytes a 4, false)
  else if isNv a then (if s.nvOpen then s.nvRead (a - nvBase) else (s, 0, true))
  else s.regLoad a

/-- An aligned 32-bit write of the same windows; a store to OTP changes nothing and is counted (13 R374). -/
def State.store32 (s : State) (by_ a v : Nat) : State × Bool :=
  if isAo a then (s.setBytes a 4 v, false)
  else if isOtp a then (s.bump R.OTP_WDROP, false)
  else if isNv a then (if s.nvOpen then (s.nvWrite (a - nvBase) v, false) else (s, true))
  else s.regStore by_ a v

/-! ### Loads, stores and atomics (11 R313 to R316, R320) -/

/-- A read that met an error acknowledge brings zero and CODE 2. -/
def opRead (x : State × Nat × Bool) : State × OpResult := (x.1, if x.2.2 then .exc 2 else .ok x.2.1)
def opWrite (x : State × Bool) : State × OpResult := (x.1, if x.2 then .exc 2 else .ok 0)

/-- A load of `size` bytes at an alignment. -/
def State.loadOp (s : State) (a size align : Nat) : State × OpResult :=
  if ¬ accessOk false size align a then (s, .exc 3)
  else match bankOf a with
    | some b => opRead (s.readRange b a size)
    | none => opRead (s.load32 a)

/-- A store of engine e into a bank; an engine never writes its own IB (10 R301). -/
def State.engStore (s : State) (e b a size v : Nat) : State × Bool :=
  if ¬ s.bankOpen b then (s.bankOff, true)
  else if b = e then (s.ibDrop b, false)
  else if b < 8 ∧ ¬ s.ibAllows b then (s.ibDrop b, false)
  else if b = 28 then (s.dirDrop, false)
  else s.writeRange b a size v (primaryOf e b)

/-- A stale store is dropped at the bank or at the NV window (10 R288, 13 R391), and wherever its address is bad: FENCED comes before
every other code (11 R338; log 49). -/
def State.staleStore (s : State) (tok : BitVec 16) (ok : Bool) (a : Nat) : Bool :=
  !s.current tok && (!ok || (bankOf a).isSome || isNv a)

/-- A store. -/
def State.storeOp (s : State) (e : Nat) (tok : BitVec 16) (a size align v : Nat) : State × OpResult :=
  if s.staleStore tok (accessOk false size align a) a then s.lint e (R.ENG_LINT_BANK e)
  else if ¬ accessOk false size align a then (s, .exc 3)
  else match bankOf a with
    | some b => opWrite (s.engStore e b a size v)
    | none => opWrite (s.store32 (e + 1) a v)

/-- An atomic: one access that reads the old word and writes the new one (11 R316). -/
def State.atomicOp (s : State) (e : Nat) (tok : BitVec 16) (a size : Nat) (new : Nat → Nat) : State × OpResult :=
  if ¬ s.current tok then s.lint e (R.ENG_LINT_BANK e)
  else if ¬ accessOk true size size a then (s, .exc 3)
  else match bankOf a with
    | none => (s, .exc 3)
    | some b =>
      match s.bankRead b a size with
      | (s, _, true) => (s, .exc 2)
      | (s, old, false) =>
        let (s, off) := s.bankWrite b a size (new old) (primaryOf e b)
        (s, if off then .exc 2 else .ok old)

/-- The 96-bit value of the 8 bytes of a Velmos-1 TLD, and the 8 bytes of a TST (11 R340). -/
def v1Load (n : Nat) : Nat := n / 1000000000 % 2 ^ 48 * 2 ^ 48 + n % 1000000000 * 2 ^ 16
def v1Store (v : Nat) : Nat := v / 2 ^ 48 * 1000000000 + v / 2 ^ 16 % 2 ^ 32

/-- The three 32-bit accesses of a TLD and of a TST, in ascending order (11 R320). -/
def State.load96 (s : State) (a : Nat) : State × Nat × Bool :=
  (List.range 3).foldl (fun acc k =>
    let (s, w, e) := acc.1.bankRead (bankAt (a + 4 * k)) (a + 4 * k) 4
    (s, acc.2.1 + 2 ^ (32 * k) * w, acc.2.2 || e)) (s, 0, false)

def State.store96 (s : State) (e a v : Nat) : State × Bool :=
  (List.range 3).foldl (fun acc k =>
    let (s, off) := acc.1.engStore e (bankAt (a + 4 * k)) (a + 4 * k) 4 (v / 2 ^ (32 * k) % 2 ^ 32)
    (s, acc.2 || off)) (s, false)

def State.tldOp (s : State) (a : Nat) (v1 : Bool) : State × OpResult :=
  if v1 then
    let (s, r) := s.loadOp a 8 8
    (s, if r.code = 0 then .ok (v1Load r.val.toNat) else r)
  else if ¬ accessOk false 12 4 a then (s, .exc 3)
  else opRead (s.load96 a)

def State.tstOp (s : State) (e : Nat) (tok : BitVec 16) (a : Nat) (v1 : Bool) (v : BitVec 96) : State × OpResult :=
  if v1 then s.storeOp e tok a 8 8 (v1Store v.toNat)
  else if s.staleStore tok (accessOk false 12 4 a) a then s.lint e (R.ENG_LINT_BANK e)
  else if ¬ accessOk false 12 4 a then (s, .exc 3)
  else opWrite (s.store96 e a v.toNat)

/-! ### Ring operations (11 R324, R325, 10 R288) -/

def opRing (x : State × Nat × Nat) : State × OpResult := (x.1, { val := BitVec.ofNat 96 x.2.1, code := x.2.2 })

/-- PUSH and POP of a stale token are dropped by the ring manager before any other check (12 R362); PEEK is not checked. -/
def State.ringOp (s : State) (e : Nat) (tok : BitVec 16) (check : Bool) (act : State → State × Nat × Nat) : State × OpResult :=
  if check ∧ ¬ s.current tok then s.lint e (R.ENG_LINT_RING e) else opRing (act s)

def roleOf (tok : BitVec 16) : Nat := tok.toNat / 256 % 64

/-! ### The launch logic (11 R336, 09 R266, R269) -/

def schedVal (handle code : Nat) : OpResult := .ok (handle + 2 ^ 32 * code)

def State.schedOp (s : State) (e : Nat) (tok : BitVec 16) (aux : Nat) (ra : BitVec 64) : State × OpResult :=
  if ¬ s.current tok then s.lint e (R.ENG_LINT_LAUNCH e)
  else
    let cancel := aux.testBit 6
    let handle := ra.toNat % 2 ^ 32
    if aux.testBit 7 ∨ (cancel ∧ aux.testBit 5) then (s, schedVal (if cancel then handle else 0) 4)
    else if cancel then
      let (s, code) := s.schedCancel tok.toNat handle
      (s, schedVal handle code)
    else
      let (s, code, h) := s.schedPlace tok.toNat (aux % 32) ra.toNat (aux.testBit 5)
      (s, schedVal h code)

/-! ### Device operations at their admission (11 R331 to R335) -/

/-- The fields of a PRESS (11 R332). -/
def pressOf (aux : Nat) (ra rb : BitVec 64) (by_ : Issuer) : Press :=
  { form := formOf (aux % 4), amt := ra.toInt, at_ := rb.toNat % 2 ^ 48, align := aux.testBit 2,
    mask := rb.toNat / 2 ^ 48 % 256, target := rb.toNat / 2 ^ 56 % 64, by_ := by_ }

def State.pressOp (s : State) (by_ : Issuer) (aux : Nat) (ra rb : BitVec 64) : State × OpResult :=
  if s.seamFenced then (s, .exc 2)
  else
    let (code, s) := if rb.toNat / 2 ^ 62 ≠ 0 then (3, s) else s.pressCheck (pressOf aux ra rb by_)
    (s.raiseIf (code != 1) R.SEAM_EVENTS_PRESS_DONE, .ok code)

/-- SEAM (11 R333). -/
def State.seamOp (s : State) (aux : Nat) (ra : BitVec 64) : State × OpResult :=
  let m := ra.toNat % 64
  if s.seamFenced then (s, .exc 2)
  else if aux = 1 then (s.select m, .ok (if 47 < m then 1 else 0))
  else if aux = 2 then (s.clearPref, .ok 0)
  else (s, .ok 2)

/-- RAMP (11 R334). -/
def State.rampOp (s : State) (aux : Nat) : State × OpResult :=
  let p := aux % 4
  if p = 0 ∨ 8 ≤ aux then (s, .ok 7)
  else
    let (code, s) := if aux.testBit 2 then s.rampAbort p else s.rampGo p
    (s, .ok code)

/-- FEED (11 R335); a fenced TSERVO answers DOMAIN_OFF (16 R446). -/
def State.feedOp (s : State) (x : BitVec 64) (t : BitVec 96) : State × OpResult :=
  if s.tservoFenced then (s, .exc 2)
  else
    let (code, s) := s.feed x.toInt t.toNat
    (s, .ok code)

/-- A device operation that the mailbox admits (10 R27, R288, 16 R446). -/
def State.deviceOp (s : State) (e : Nat) (f : Flight) : State × OpResult :=
  if ¬ s.current f.tok then s.lint e (R.ENG_LINT_MBOX e)
  else match f.op with
    | .devr a => opRead (s.regLoad a)
    | .devw a v => if s.fenced 0x013 then (s.offWrite a, .exc 2) else opWrite (s.regStore (e + 1) a v.toNat)
    | .press aux ra rb => if s.fenced 0x013 then (s, .exc 2) else s.pressOp (.engine e f.thr f.place) aux ra rb
    | .seam aux ra => if s.fenced 0x013 then (s, .exc 2) else s.seamOp aux ra
    | .ramp aux => if s.fenced 0x013 then (s, .exc 2) else s.rampOp aux
    | .feed x t => if s.fenced 0x013 then (s, .exc 2) else s.feedOp x t
    | _ => (s, .ok 0)

/-! ### Destinations (10 R278) -/

/-- The address of a DEVR or DEVW reaches the mailbox (11 R331). -/
def devAddr (a : Nat) : Bool := a % 4 == 0 && isMailbox a

/-- The destination of an operation: a window or register block, 0x1000 + ring, 0x2000 the mailbox, 0x3000 the launch logic; none for
an address that reaches nothing. -/
def Op.goesTo : Op → Option Nat
  | .load a _ | .store a _ _ | .xadd a _ _ | .xswp a _ _ | .tld a _ | .tst a _ _ => windowOf a
  | .push r _ | .pop r _ | .peek r _ => some (0x1000 + r)
  | .devr a | .devw a _ => if devAddr a then some 0x2000 else none
  | .press _ _ _ | .seam _ _ | .ramp _ | .feed _ _ => some 0x2000
  | .sched _ _ => some 0x3000

/-- The operation waits for the control mailbox. -/
def Op.mail (o : Op) : Bool := o.goesTo == some 0x2000

def word32 (w32 : Bool) : Nat := if w32 then 4 else 8

/-- An operation is performed at a destination other than the mailbox. -/
def State.perform (s : State) (e : Nat) (f : Flight) : State × OpResult :=
  match f.op with
  | .load a n => s.loadOp a n n
  | .store a n v => s.storeOp e f.tok a n n v.toNat
  | .xadd a w v => s.atomicOp e f.tok a (word32 w) (fun old => (old + v.toNat) % 256 ^ word32 w)
  | .xswp a w v => s.atomicOp e f.tok a (word32 w) (fun _ => v.toNat)
  | .tld a v1 => s.tldOp a v1
  | .tst a v1 v => s.tstOp e f.tok a v1 v
  | .push r buf => s.ringOp e f.tok true (fun s => s.pushOp r (roleOf f.tok) buf)
  | .pop r buf => s.ringOp e f.tok true (fun s => s.popOp r (roleOf f.tok) buf false)
  | .peek r buf => s.ringOp e f.tok false (fun s => s.popOp r (roleOf f.tok) buf true)
  | .sched aux ra => s.schedOp e f.tok aux ra
  | _ => if s.current f.tok then (s, .exc 3) else s.lint e (R.ENG_LINT_MBOX e)

end Sys2Proof.Machine
end

