-- ==== Sys2Proof/Machine/Mailbox.lean ====
section
/-! DEFINITION. Machine/Mailbox.lean: accesses of the host paths to one 32-bit word (17 R457 to R464, 18 R486 to R488) and the
admission of operations by the control mailbox (01 R26 to R29, 10 R298, 17 R458). Paths: 0 PCIe, 1 SPI, 2 I2C, 3 JTAG; in
the host lane also 4 ADOPT and 5 the entry writes of a mode. -/
namespace Sys2Proof.Machine

/-! ### One word of a host path -/

/-- A word failed with a status code of 17 R464: its bit of HOST_STATUS and the path. Over PCIe an access during the NV scan
shows DOMAIN_OFF too (R463). -/
def State.hostFail (s : State) (path code : Nat) : State :=
  if code = 0 then s
  else
    let s := match code with
      | 1 => s.raise R.HOST_STATUS_DOMAIN_OFF
      | 2 => if path = 0 then (s.raise R.HOST_STATUS_NV_BUSY).raise R.HOST_STATUS_DOMAIN_OFF else s.raise R.HOST_STATUS_NV_BUSY
      | 3 => s.raise R.HOST_STATUS_FMT
      | 4 => s.raise R.HOST_STATUS_UNMAPPED
      | 5 => s.raise R.HOST_STATUS_RECALL
      | 7 => s.raise R.HOST_STATUS_WR_DIS
      | _ => s
    s.setFld R.HOST_STATUS_LAST_PATH path

/-- The blocks that RECALL serves: SYS, HOST, NVCTL and OTPCTL (17 R463). -/
def recallServes (a : Nat) : Bool :=
  a / 0x10000 == 0x500 || a / 0x10000 == 0x510 || a / 0x10000 == 0x511

/-- WR of a path (17 R460). -/
def State.pathWr (s : State) (path : Nat) : Bool :=
  match path with
  | 0 => s.flag R.HOST_CFG_PCIE_WR
  | 1 => s.flag R.HOST_CFG_SPI_WR
  | 2 => s.flag R.HOST_CFG_I2C_WR
  | 3 => s.flag R.HOST_CFG_DBG_WR
  | _ => true

/-- EN of a path (17 R460). A PCIe link that is down carries nothing. -/
def State.pathEn (s : State) (path : Nat) : Bool :=
  match path with
  | 0 => s.flag R.HOST_CFG_PCIE_EN && s.flag R.HOST_STATUS_PCIE_UP
  | 1 => s.flag R.HOST_CFG_SPI_EN
  | 2 => s.flag R.HOST_CFG_I2C_EN
  | _ => s.flag R.HOST_CFG_DBG_EN

/-- The first condition of 17 R464 that a mapped or unmapped word meets before its target is reached; 0 for none. -/
def State.wordCheck (s : State) (path : Nat) (wr : Bool) (a : Nat) : Nat :=
  if ¬ mapped a then 4
  else if s.pwr.phase = 2 ∧ ¬ recallServes a then 5
  else if wr ∧ ¬ s.pathWr path then 7
  else if isNv a ∧ s.flag R.NV_STATUS_SCAN_BUSY then 2
  else 0

/-- A read of TB_NOW by a path goes through the path's snapshot (02 R49). -/
def State.hostNow (s : State) (path a : Nat) : State × Nat :=
  if a = R.TB_NOW_0_NOW.addr then
    let s := s.snapshotRead path
    (s, Tab.get (fun _ => 0) s.tb.snaps path % 2 ^ 32)
  else (s, Tab.get (fun _ => 0) s.tb.snaps path / 2 ^ (8 * (a - R.TB_NOW_0_NOW.addr)) % 2 ^ 32)

def isNow (a : Nat) : Bool := decide (R.TB_NOW_0_NOW.addr ≤ a) && decide (a ≤ R.TB_NOW_2_NOW.addr)

/-- The answer of a target as a status code: 0 or DOMAIN_OFF. -/
def offCode (off : Bool) : Nat := if off then 1 else 0

/-- A read of a word: the state, the data, the status. -/
def State.hostRead (s : State) (path a : Nat) : State × Nat × Nat :=
  match s.wordCheck path false a with
  | 0 =>
    if isNow a then
      let (s, v) := s.hostNow path a
      (s, v, 0)
    else match bankOf a with
      | some b =>
        let (s, v, off) := s.readRange b a 4
        (s, v, offCode off)
      | none =>
        let (s, v, off) := s.load32 a
        (s, v, offCode off)
  | c => (s, 0, c)

/-- A flight of an engine by its place. -/
def State.flightAt (s : State) (e place : Nat) : Option Flight := (s.flights e).find? (fun f => f.place == place)

/-- A flight has been performed with a result. -/
def State.flightDone (s : State) (e place : Nat) (r : OpResult) : State :=
  s.setFlights e ((s.flights e).map (fun f => if f.place = place then { f with done := some r } else f))

/-- An operation is performed, and its result waits for the completion. -/
def State.performFlight (s : State) (e : Nat) (f : Flight) : State :=
  let (s, r) := s.perform e f
  s.flightDone e f.place r

/-- The operations of a list that one thread sent to one destination and that have not been performed, in issue order (R278). -/
def sameDest (l : List Flight) (f : Flight) : List Flight :=
  l.filter (fun g => g.thr == f.thr && g.done.isNone && g.op.goesTo == f.op.goesTo)

/-- An operation and all earlier ones of its thread to the same destination are performed (R278). -/
def State.performUpTo (s : State) (e : Nat) (f : Flight) : State :=
  (sameDest ((s.flights e).takeWhile (fun g => g.place != f.place)) f ++ [f]).foldl (fun s g => s.performFlight e g) s

/-- An operation that has left its engine for a bank: its own access, or the copy of a ring instruction. -/
def State.headsFor (s : State) (b : Nat) (o : Op) : Bool :=
  match o with
  | .push r buf | .pop r buf | .peek r buf => ringBank r == b || bankOf buf == some b || bankOf (buf + s.ringEsz r - 1) == some b
  | .tld a _ | .tst a _ _ => bankOf a == some b || bankOf (a + 11) == some b
  | o => o.goesTo == some b

/-- The operations on their way to a bank are performed before its gate closes (01 R38). -/
def State.settleBank (s : State) (b : Nat) : State :=
  (List.range 8).foldl (fun s e =>
    ((s.flights e).filter (fun f => s.headsFor b f.op)).foldl (fun s f =>
      match s.flightAt e f.place with
      | some g => if g.done.isNone then s.performUpTo e g else s
      | none => s) s) s

/-- BNK_CFG as the host writes it (01 R38, 12 R348). -/
def State.bankCfgWrite (s : State) (b v : Nat) : State :=
  let leaves := s.fld (R.BNK_STATUS_PWR_NOW b) = 0 ∧ v % 4 ≠ 0 ∧ v % 4 ≠ s.fld (R.BNK_CFG_PWR b) ∧ ¬ s.refusesPwr b (v % 4)
  (if leaves then s.settleBank b else s).writeBankCfg b v

/-- The bank whose BNK_CFG has an address. -/
def cfgBank (a : Nat) : Option Nat :=
  if 0x50D1000 ≤ a ∧ a < 0x50D1E80 ∧ a % 0x80 = 0 then some ((a - 0x50D1000) / 0x80) else none

def execBnkPwrWrite (b : Fin 29) (v : BitVec 32) (s : State) : Out := s.live (s.bankCfgWrite b v.toNat)

/-- A write of a word: the state, the status. -/
def State.hostWrite (s : State) (path a v : Nat) : State × Nat :=
  match s.wordCheck path true a with
  | 0 => match bankOf a with
    | some b =>
      let (s, off) := s.writeRange b a 4 v (b == 27)
      (s, offCode off)
    | none => match cfgBank a with
      | some b => (s.bankCfgWrite b v, 0)
      | none =>
        let (s, off) := s.store32 0 a v
        (s, offCode off)
  | c => (s, c)

/-! ### Where the result of a word goes -/

/-- Bits of the number of a frame in the tag of its words; the index of a word has eight. -/
def Frame.tag (f : Frame) (i : Nat) : Nat := 256 * f.no + i

/-- A word of a native SPI or I2C frame completes (17 R466); words of an older frame of the path change nothing in it. -/
def Frame.done (f : Frame) (tag code : Nat) (v : Option Nat) : Frame :=
  let idx := tag % 256
  if tag / 256 ≠ f.no then f
  else { f with
    data := (match v with
      | some x => f.data ++ [x]
      | none => f.data)
    fail := (if code ≠ 0 ∧ f.fail.isNone then some (idx, code) else f.fail)
    left := f.left - 1 }

/-- The SPI path uses the compatibility set (17 R465). -/
def State.compatSet (s : State) : Bool := s.flag R.HOST_CFG_SPI_SET

/-- A word of a path completes with a status, and with data when it was a read. -/
def State.hostDone (s : State) (path idx code : Nat) (v : Option Nat) : State :=
  let s := s.hostFail path code
  let h := match v with
    | some x => { s.host with rdata := Tab.set (fun _ => 0) s.host.rdata path x }
    | none => s.host
  match path with
  | 0 => { s with host := h }
  | 3 => { s with host := { h with jtag := { h.jtag with memData := v.getD 0, memStatus := code } } }
  | _ =>
    if path = 1 ∧ s.compatSet then
      { s with host := { h with compatStatus := if h.compatStatus = 0 then code else h.compatStatus } }
    else
      { s with host := { h with
        frames := Tab.set (fun _ => none) h.frames path ((Tab.get (fun _ => none) h.frames path).map (fun f => f.done idx code v)) } }

/-- A read or write of a path, performed. -/
def State.doRead (s : State) (path a idx : Nat) : State :=
  let (s, v, c) := s.hostRead path a
  s.hostDone path idx c (some v)

/-- A write of one word by a path. -/
def State.doWrite (s : State) (path a idx v : Nat) : State :=
  match path with
  | 4 =>
    let (s, off) := s.regStore 0 a v
    s.adoptCount (off || s.adoptRefused a v)
  | 5 => if s.fenced 0x013 then s else s.entryWrite (a, v)
  | _ =>
    let (s, c) := s.hostWrite path a v
    s.hostDone path idx c none

/-! ### Admission (10 R298) -/

/-- The thread of an engine lane, or the path of the host lane, that a waiting operation belongs to: operations of one are admitted
in order. -/
def LaneOp.owner : LaneOp → Nat
  | .flight _ t => t
  | .read p _ _ => p
  | .write p _ _ _ => p
  | .roleFeed t _ _ _ => t

/-- The first operation of each owner, in the order of the lane. -/
def laneHeads : List LaneOp → List LaneOp
  | [] => []
  | o :: l => o :: (laneHeads l).filter (fun x => x.owner != o.owner)

/-- Owners in round-robin order, starting after the one served last. -/
def afterOwner (last : Nat) : List Nat := (List.range 6).map (fun k => (last + 1 + k) % 6)

def State.served (s : State) (l : Nat) : Nat := Tab.get (fun _ => 5) s.mb.served l

/-- The head that the next credit goes to. -/
def State.creditHead (s : State) (l : Nat) : Option LaneOp :=
  if s.credit l = 0 then none
  else
    let hs := (laneHeads (s.lane l)).filter (fun o => s.needsCredit l o)
    (afterOwner (s.served l)).findSome? (fun k => hs.find? (fun o => o.owner == k))

/-- The operation that a lane would have admitted next: the oldest of those that need no credit and of the one that the next credit
goes to. -/
def State.laneNext (s : State) (l : Nat) : Option LaneOp :=
  (laneHeads (s.lane l)).find? (fun o => !s.needsCredit l o || s.creditHead l == some o)

/-- Lanes in round-robin order, starting after the one served last. -/
def State.laneOrder (s : State) : List Nat := (List.range 9).map (fun k => (s.mb.last + 1 + k) % 9)

/-- What an admitted operation does. -/
def State.laneDo (s : State) (l : Nat) (o : LaneOp) : State :=
  match o with
  | .flight place _ => match s.flightAt l place with
    | some f =>
      let (s, r) := s.deviceOp l f
      s.flightDone l place r
    | none => s
  | .read path a idx => s.doRead path a idx
  | .write path a idx v => s.doWrite path a idx v.toNat
  | .roleFeed _ tok x t =>
    if ¬ s.current tok then (s.lint l (R.ENG_LINT_MBOX l)).1
    else if s.fenced 0x013 then s
    else (s.feedOp (BitVec.ofInt 64 x) (BitVec.ofNat 96 t)).1

/-- The mailbox admits an operation of a lane. -/
def State.laneAdmit (s : State) (l : Nat) (o : LaneOp) : State :=
  let s' := s.setLane l ((s.lane l).erase o)
  let s' := { s' with mb := { s'.mb with last := l } }
  let s' := if s.needsCredit l o then
      let s' := s'.setCredit l (s.credit l - 1)
      { s' with mb := { s'.mb with served := Tab.set (fun _ => 5) s'.mb.served l o.owner } }
    else s'
  (s'.laneDo l o).settleWake

/-- MAILBOX_ADMIT (01 R27): the next lane with an admissible operation is served. -/
def State.mailboxAdmit (s : State) : State :=
  if 3 ≤ s.pwrState ∨ s.pwr.phase ≠ 0 then s
  else match s.laneOrder.findSome? (fun l => (s.laneNext l).map (fun o => (l, o))) with
    | some (l, o) => s.laneAdmit l o
    | none => s

def execMailboxAdmit (s : State) : Out := .next s.mailboxAdmit

/-- The mailbox admits operations in order until one of a lane has been admitted, or nothing more can be. -/
def State.admitUntil (l : Nat) (o : LaneOp) : Nat → State → State
  | 0, s => s
  | n + 1, s => if (s.lane l).contains o then State.admitUntil l o n s.mailboxAdmit else s

/-- The operations that wait in all lanes. -/
def State.mailWaiting (s : State) : Nat := (List.range 9).foldl (fun a l => a + (s.lane l).length) 0

/-! ### An access that a path issues (17 R457, R458) -/

/-- An earlier access of the path waits in the host lane. -/
def State.pathWaits (s : State) (path : Nat) : Bool := (s.lane 8).any (fun o => o.owner == path)

/-- The access goes through the host lane: its block does, or an earlier access of the path is still there. -/
def State.viaLane (s : State) (path a : Nat) : Bool := isMailbox a || s.pathWaits path

def State.issueRead (s : State) (path a idx : Nat) : State :=
  if s.wordCheck path false a = 0 ∧ s.viaLane path a ∨ s.pathWaits path then s.laneAdd 8 (.read path a idx)
  else (s.doRead path a idx).settleWake

def State.issueWrite (s : State) (path a idx v : Nat) : State :=
  if s.wordCheck path true a = 0 ∧ s.viaLane path a ∨ s.pathWaits path then s.laneAdd 8 (.write path a idx (BitVec.ofNat 32 v))
  else (s.doWrite path a idx v).settleWake

/-- The path serves accesses: the part has power and is out of reset, and the path is enabled. -/
def State.pathServes (s : State) (path : Nat) : Bool :=
  decide (s.pwrState < 3) && (s.pwr.phase == 0 || s.pwr.phase == 2) && s.pathEn path

/-- An access of a path that is not one aligned word with all byte enables. -/
def State.wrongSize (s : State) (path a : Nat) (v : Option Nat) : State :=
  if path = 0 ∧ ¬ mapped a then s.hostDone 0 0 4 v
  else (if isNv a then s.raise R.NV_EVENTS_FMT_SET else s).hostDone path 0 3 v

/-- A bank takes accesses of any length and byte enables over PCIe (17 R463). -/
def pcieBank (path a : Nat) : Bool := path == 0 && (bankOf a).isSome

/-- REGISTER_WRITE (00 R12): a host write of one aligned word by a path. `whole` is false for a PCIe access that is not one DW with all
byte enables: FMT, and FMT_SET for the NV window (17 R463, 13 R391). A write that reaches a bank with some of its bytes is
HOST_BANK_WRITE; here such a write carries none. -/
def execRegisterWrite (path : Fin 4) (addr v : BitVec 32) (whole : Bool) (s : State) : Out :=
  .next (if ¬ s.pathServes path then s
    else if addr.toNat % 4 ≠ 0 ∨ ¬ whole then (if pcieBank path addr.toNat then s else s.wrongSize path addr.toNat none)
    else s.issueWrite path addr.toNat 0 v.toNat)

/-- A write to offset 8 r of BAR2 (12 R365): a word at RING_DB_r over PCIe, for rings 64 to 127. -/
def State.bar2Doorbell (s : State) (r idx : Nat) : State :=
  if ¬ s.pathServes 0 ∨ r < 64 then s
  else match s.wordCheck 0 true (R.RING_DB_INDEX r).addr with
    | 0 => if s.ringsFenced then s.hostFail 0 1 else s.doorbell r idx
    | c => s.hostFail 0 c

/-- RING_DOORBELL (12 R365): the new index reaches `RING_DB_r`, or BAR2. -/
def execRingDoorbell (r : Fin 128) (idx : BitVec 17) (bar2 : Bool) (s : State) : Out :=
  if bar2 then .next (s.bar2Doorbell r idx.toNat).settleWake else s.live (s.doorbell r idx.toNat)

/-- REGISTER_READ_CLEAR (00 R12): a host read of one aligned word by a path; RC fields are cleared by it. -/
def execRegisterReadClear (path : Fin 4) (addr : BitVec 32) (whole : Bool) (s : State) : Out :=
  .next (if ¬ s.pathServes path then s
    else if pcieBank path addr.toNat then s.issueRead path (addr.toNat / 4 * 4) 0
    else if addr.toNat % 4 ≠ 0 ∨ ¬ whole then s.wrongSize path addr.toNat (some 0)
    else s.issueRead path addr.toNat 0)

end Sys2Proof.Machine
end

