-- ==== Sys2Proof/Machine/IsaCore.lean ====
section
/-! DEFINITION. Machine/IsaCore.lean: how a thread issues an instruction and how an operation completes (10 R274, R277 to R279, R287,
R289, R296, 11 R306 to R309, R337 to R340). -/
namespace Sys2Proof.Machine

/-! ### Registers of a word (11 R308, R340) -/

/-- The general register that a field names: Velmos-1 words name g0 to g15. -/
def Thread.no (x : Thread) (r : Nat) : Nat := if x.v1 then r % 16 else r

def Thread.rd (x : Thread) (r : Nat) : BitVec 64 := x.gpr (x.no r)
def Thread.wr (x : Thread) (r : Nat) (v : BitVec 64) : Thread := x.setGpr (x.no r) v

/-- The scoreboard entry of a general register; g0 is never pending. -/
def Thread.dest (x : Thread) (r : Nat) : Dest := if x.no r = 0 then .none else .g (x.no r)

/-! ### Issue (10 R274, R277) -/

def State.flightsOf (s : State) (e t : Nat) : List Flight := (s.flights e).filter (fun f => f.thr == t)

/-- A register is the destination of an operation in flight. -/
def State.regPending (s : State) (e t : Nat) (d : Dest) : Bool := d != .none && (s.flightsOf e t).any (fun f => f.dest == d)

/-- After an undefined word only the thread that met it still issues, its fence handler (11 R309). -/
def State.barred (s : State) (e t : Nat) : Bool :=
  let u := Tab.get (fun _ => 0) s.eng.undef e
  u != 0 && u != t + 1

/-- The thread is the next READY one in round-robin order after the thread served last. -/
def State.turn (s : State) (e t : Nat) : Bool :=
  let last := Tab.get (fun _ => 3) s.eng.lastThr e
  ((List.range 4).map (fun k => (last + 1 + k) % 4)).find? (fun k => s.tstate e k == 1 && !s.barred e k) == some t

/-- The thread issues now: the part is in RUN, the engine is RUNNING or FENCED (R296), and it is the thread's turn. -/
def State.mayIssue (s : State) (e t : Nat) : Bool :=
  s.enginesIssue && s.pwr.phase == 0 && (s.engState e == 1 || s.engState e == 3) && s.turn e t

/-- The issue slot of a thread: a trap that is due takes it (R296). -/
def State.issueNow (s : State) (e t : Nat) (act : State → State) : State :=
  let s := { s with eng := { s.eng with lastThr := Tab.set (fun _ => 3) s.eng.lastThr e t } }
  if (s.thread e t).trapDue then s.fencedTrap e t (s.pc e t) else act s

def State.issue (s : State) (e t : Nat) (act : State → State) : State := if s.mayIssue e t then s.issueNow e t act else s

/-- An instruction that names a pending register stalls its thread (R277). -/
def State.withRegs (s : State) (e t : Nat) (uses : List Dest) (act : State → State) : State :=
  if uses.any (fun d => s.regPending e t d) then s.setTstate e t 3 else act s

/-- pc moves on (11 R306). -/
def nextPc (pc : Nat) : Nat := (pc + 4) % 2 ^ 18
def State.stepPc (s : State) (e t : Nat) : State := s.setPc e t (nextPc (s.pc e t))

/-- The thread takes its new registers and moves on. -/
def State.retireIns (s : State) (e t : Nat) (x : Thread) : State := (s.setThread e t x).stepPc e t

/-! ### Undefined words (11 R309) -/

/-- The instruction source of the engine reports, the engine is fenced, and the thread traps with TRAP_PC at the word; the other threads
issue nothing further. -/
def State.undefinedWord (s : State) (e t : Nat) : State :=
  let s' := (s.report (0x068 + e) 2 0x05).fencedTrap e t (s.pc e t)
  { s' with eng := { s'.eng with undef := Tab.set (fun _ => 0) s'.eng.undef e (t + 1) } }

/-- A word that the Velmos-1 decode makes unavailable (11 R340). -/
def State.unlessV1 (s : State) (e t : Nat) (act : State → State) : State :=
  if (s.thread e t).v1 then s.undefinedWord e t else act s

/-! ### Operations (10 R277, R278, R289, 11 R337) -/

/-- A value for a destination. -/
def State.setDest (s : State) (e t : Nat) (d : Dest) (v : BitVec 96) : State :=
  match d with
  | .none => s
  | .g n => s.setThread e t ((s.thread e t).setGpr n (v.setWidth 64))
  | .t n => s.setThread e t ((s.thread e t).setTreg n v)

/-- An operation or a BEAT completes FENCED at issue (R289, R296). -/
def State.issueFenced (s : State) (e t : Nat) (d : Dest) : State :=
  let s := s.setDest e t d 0
  let trapped := (s.thread e t).fs.inTrap
  let s := s.fencedTrap e t (s.pc e t)
  if trapped then s.stepPc e t else s

/-- No place is free for another operation (R277). -/
def State.scoreFull (s : State) (e t : Nat) : Bool :=
  decide (8 ≤ (s.flightsOf e t).length) || decide (16 ≤ (s.flights e).length)

def State.freePlace (s : State) (e : Nat) : Nat :=
  ((List.range 16).find? (fun p => !(s.flights e).any (fun f => f.place == p))).getD 0

/-- An operation leaves the engine: to its lane of the mailbox, or to its destination, where it is performed at once unless it is
still on its way there. -/
def State.sendOp (s : State) (e t : Nat) (d : Dest) (op : Op) (transit : Bool) : State :=
  let f : Flight := { place := s.freePlace e, thr := t, dest := d, tok := (s.thread e t).ep, op := op, done := none }
  let s := s.setFlights e (s.flights e ++ [f])
  if op.mail then s.laneAdd e (.flight f.place t)
  else if transit then s
  else s.performUpTo e f

/-- A thread issues an operation. -/
def State.operate (s : State) (e t : Nat) (uses : List Dest) (d : Dest) (op : Op) (transit : Bool) : State :=
  s.withRegs e t uses (fun s =>
    if s.engState e = 3 ∨ ¬ s.current (s.thread e t).ep then s.issueFenced e t d
    else if s.scoreFull e t then s.setTstate e t 3
    else (s.sendOp e t d op transit).stepPc e t)

/-- An operation completes with a code (R296, 11 R337): a FENCED one also traps at the next issue, or leaves its STICKY bit only. -/
def State.completeCode (s : State) (e t code : Nat) : State :=
  let x := s.thread e t
  if code ≠ 1 then s.recordExc e t code
  else if x.fs.inTrap then s.setThread e t { x with fs := { x.fs with sticky := Nat.lor x.fs.sticky 1 } }
  else s.setThread e t { x with fs := x.fs.record 1, trapDue := true }

/-- A STALLED thread goes on. -/
def State.unstall (s : State) (e t : Nat) : State := if s.tstate e t = 3 then s.setTstate e t 1 else s

/-- The completion handshake of an operation (R277): its destination is written, its place is free, and its thread, if STALLED, goes on;
so does every STALLED thread when the engine had no place left. A thread whose other reason to stall stands is STALLED again at its
turn. -/
def State.finish (s : State) (e : Nat) (f : Flight) (r : OpResult) : State :=
  let full := decide (16 ≤ (s.flights e).length)
  let s := s.setFlights e ((s.flights e).filter (fun g => g.place != f.place))
  let s := (s.setDest e f.thr f.dest r.val).completeCode e f.thr r.code
  if full then (List.range 4).foldl (fun s t => s.unstall e t) s else s.unstall e f.thr

/-- OP_COMPLETE (R277): an operation that still waits in the mailbox does not complete. -/
def State.opComplete (s : State) (e place : Nat) : State :=
  match s.flightAt e place with
  | none => s
  | some f =>
    let s := if f.done.isNone ∧ ¬ f.op.mail then s.performUpTo e f else s
    match (s.flightAt e place).bind (fun g => g.done) with
    | some r => (s.finish e f r).settleWake
    | none => s

def execOpComplete (e : Fin 8) (place : Fin 16) (s : State) : Out :=
  .next (if s.pwrState = 0 ∧ ¬ s.pwr.drained then s.opComplete e place else s)

/-! ### Instructions of one shape -/

/-- rd takes a function of rd, ra and rb. -/
def State.alu3 (s : State) (e t rd ra rb : Nat) (f : BitVec 64 → BitVec 64 → BitVec 64 → BitVec 64) : State :=
  let x := s.thread e t
  s.withRegs e t [x.dest rd, x.dest ra, x.dest rb] (fun s => s.retireIns e t (x.wr rd (f (x.rd rd) (x.rd ra) (x.rd rb))))

/-- rd takes a function of ra. -/
def State.alu2 (s : State) (e t rd ra : Nat) (f : BitVec 64 → BitVec 64) : State :=
  let x := s.thread e t
  s.withRegs e t [x.dest rd, x.dest ra] (fun s => s.retireIns e t (x.wr rd (f (x.rd ra))))

/-- A relation as 0 or 1. -/
def bit64 (c : Bool) : BitVec 64 := if c then 1 else 0

/-- The relations of CMPxx in the order of the encoding table (11 R311). -/
def cmp (k : Nat) (a b : BitVec 64) : BitVec 64 :=
  bit64 (match k with
    | 0 => a == b
    | 1 => a != b
    | 2 => decide (a.toInt < b.toInt)
    | 3 => decide (b.toInt ≤ a.toInt)
    | 4 => decide (a.toNat < b.toNat)
    | _ => decide (b.toNat ≤ a.toNat))

/-- MULH: bits [127:64] of the signed product (11 R311). -/
def mulh (a b : BitVec 64) : BitVec 64 := BitVec.ofInt 64 (a.toInt * b.toInt / 2 ^ 64)

/-- The functions of major 0x00 by fn (11 R310, R311); the first argument is rd before the write. -/
def aluFn (fn : Nat) : Option (BitVec 64 → BitVec 64 → BitVec 64 → BitVec 64) :=
  match fn with
  | 0x000 => some (fun _ a b => a + b)
  | 0x001 => some (fun _ a b => a - b)
  | 0x002 => some (fun _ a b => a &&& b)
  | 0x003 => some (fun _ a b => a ||| b)
  | 0x004 => some (fun _ a b => a ^^^ b)
  | 0x005 => some (fun _ a b => a <<< (b.toNat % 64))
  | 0x006 => some (fun _ a b => a >>> (b.toNat % 64))
  | 0x007 => some (fun _ a b => a.sshiftRight (b.toNat % 64))
  | 0x008 => some (fun _ a b => a * b)
  | 0x009 => some (fun _ a b => mulh a b)
  | 0x00A => some (fun d a b => if d = 0 then b else a)
  | 0x010 => some (fun _ a b => cmp 0 a b)
  | 0x011 => some (fun _ a b => cmp 1 a b)
  | 0x012 => some (fun _ a b => cmp 2 a b)
  | 0x013 => some (fun _ a b => cmp 3 a b)
  | 0x014 => some (fun _ a b => cmp 4 a b)
  | 0x015 => some (fun _ a b => cmp 5 a b)
  | _ => none

/-- The RRI functions by major (11 R310, R312). -/
def aluImm (major : Nat) (imm : BitVec 16) : Option (BitVec 64 → BitVec 64) :=
  let i : BitVec 64 := imm.signExtend 64
  let u : BitVec 64 := imm.setWidth 64
  match major with
  | 0x01 => some (fun a => a + i)
  | 0x02 => some (fun a => a &&& u)
  | 0x03 => some (fun a => a ||| u)
  | 0x04 => some (fun a => a ^^^ u)
  | 0x05 => some (fun a => a <<< (imm.toNat % 64))
  | 0x06 => some (fun a => a >>> (imm.toNat % 64))
  | 0x07 => some (fun a => a.sshiftRight (imm.toNat % 64))
  | 0x08 => some (fun a => cmp 0 a i)
  | 0x09 => some (fun a => cmp 1 a i)
  | 0x0A => some (fun a => cmp 2 a i)
  | 0x0B => some (fun a => cmp 3 a i)
  | 0x0C => some (fun a => cmp 4 a i)
  | 0x0D => some (fun a => cmp 5 a i)
  | _ => none

/-- An RRR integer instruction by its fn. -/
def State.aluRow (s : State) (e t fn rd ra rb : Nat) : State :=
  match aluFn fn with
  | some f => s.alu3 e t rd ra rb f
  | none => s.undefinedWord e t

/-- An RRI integer instruction by its major. -/
def State.immRow (s : State) (e t major rd ra : Nat) (imm : BitVec 16) : State :=
  match aluImm major imm with
  | some f => s.alu2 e t rd ra f
  | none => s.undefinedWord e t

/-! ### Branches (11 R317, R318, R339) -/

/-- The target of a BR-format instruction. -/
def target (pc : Nat) (imm : BitVec 21) : Nat := (((pc : Int) + 4 * imm.toInt) % (2 ^ 18 : Int)).toNat

def State.jump (s : State) (e t : Nat) (imm : BitVec 21) : State := s.setPc e t (target (s.pc e t) imm)

/-- The conditions of BEQ, BNE, BLT and BGE. -/
def branchTakes (k : Nat) (v : BitVec 64) : Bool :=
  match k with
  | 0 => v == 0
  | 1 => v != 0
  | 2 => decide (v.toInt < 0)
  | _ => decide (0 ≤ v.toInt)

def State.branch (s : State) (e t k rs : Nat) (imm : BitVec 21) : State :=
  let x := s.thread e t
  s.withRegs e t [x.dest rs] (fun s => if branchTakes k (x.rd rs) then s.jump e t imm else s.stepPc e t)

/-- CALL: the link is g31, in Velmos-1 g15. -/
def State.call (s : State) (e t : Nat) (imm : BitVec 21) : State :=
  let x := s.thread e t
  let n := if x.v1 then 15 else 31
  s.withRegs e t [.g n] (fun s =>
    (s.setThread e t (x.setGpr n (BitVec.ofNat 64 (nextPc (s.pc e t))))).jump e t imm)

def State.enter1 (s : State) (e t : Nat) (imm : BitVec 21) : State :=
  (s.jump e t imm).setThread e t { s.thread e t with v1 := true }

def State.ret (s : State) (e t ra : Nat) : State :=
  let x := s.thread e t
  s.withRegs e t [x.dest ra] (fun s =>
    let v := (x.rd ra).toNat
    (if v % 4 = 0 then s else s.recordExc e t 3).setPc e t (v % 2 ^ 18))

/-! ### Memory (11 R313, R320, R340) -/

/-- The effective address. -/
def effAddr (base : BitVec 64) (imm : BitVec 12) : Nat := (base + imm.signExtend 64).toNat

def State.load (s : State) (e t size rd ra : Nat) (imm : BitVec 12) (transit : Bool) : State :=
  let x := s.thread e t
  s.operate e t [x.dest rd, x.dest ra] (x.dest rd) (.load (effAddr (x.rd ra) imm) size) transit

def State.store (s : State) (e t size rs ra : Nat) (imm : BitVec 12) (transit : Bool) : State :=
  let x := s.thread e t
  s.operate e t [x.dest rs, x.dest ra] .none (.store (effAddr (x.rd ra) imm) size (x.rd rs)) transit

def State.atomic (s : State) (e t rd ra rb : Nat) (swap w32 transit : Bool) : State :=
  s.unlessV1 e t (fun s =>
    let x := s.thread e t
    let a := (x.rd ra).toNat
    s.operate e t [x.dest rd, x.dest ra, x.dest rb] (x.dest rd)
      (if swap then .xswp a w32 (x.rd rb) else .xadd a w32 (x.rd rb)) transit)

def State.tld (s : State) (e t td ra : Nat) (imm : BitVec 12) (transit : Bool) : State :=
  let x := s.thread e t
  s.operate e t [.t td, x.dest ra] (.t td) (.tld (effAddr (x.rd ra) imm) x.v1) transit

def State.tst (s : State) (e t ts ra : Nat) (imm : BitVec 12) (transit : Bool) : State :=
  let x := s.thread e t
  s.operate e t [.t ts, x.dest ra] .none (.tst (effAddr (x.rd ra) imm) x.v1 (x.treg ts)) transit

/-! ### Time (11 R319 to R323) -/

/-- The fu that a time value stands for, normalised: nanoseconds carry into the 48-bit seconds field. -/
def timeFu (v : BitVec 96) : Nat := decodeHub v.toNat % (2 ^ 48 * fuPerSec)

/-- A total of fu as a normal time value; the seconds field wraps. -/
def timeOf (fu : Int) : BitVec 96 := BitVec.ofNat 96 (encodeHub (fu % ((2 ^ 48 * fuPerSec : Nat) : Int)).toNat)

/-- TADD takes fu, in Velmos-1 ns. -/
def State.tadd (s : State) (e t td ta rb : Nat) : State :=
  let x := s.thread e t
  s.withRegs e t [.t td, .t ta, x.dest rb] (fun s =>
    let d := (x.rd rb).toInt * (if x.v1 then 65536 else 1)
    s.retireIns e t (x.setTreg td (timeOf ((timeFu (x.treg ta) : Int) + d))))

/-- A difference held within ±(2^63 - 1). -/
def clamp63 (d : Int) : Int := max (-(2 ^ 63 - 1)) (min (2 ^ 63 - 1) d)

def State.tsub (s : State) (e t rd ta tb : Nat) : State :=
  let x := s.thread e t
  s.withRegs e t [x.dest rd, .t ta, .t tb] (fun s =>
    let d := clamp63 ((timeFu (x.treg ta) : Int) - timeFu (x.treg tb))
    s.retireIns e t (x.wr rd (BitVec.ofInt 64 (if x.v1 then d.tdiv 65536 else d))))

def State.tcmp (s : State) (e t rd ta tb : Nat) : State :=
  let x := s.thread e t
  s.withRegs e t [x.dest rd, .t ta, .t tb] (fun s =>
    let a := timeFu (x.treg ta)
    let b := timeFu (x.treg tb)
    s.retireIns e t (x.wr rd (BitVec.ofInt 64 (if a < b then -1 else if a = b then 0 else 1))))

/-- TCVT.SEC, .NS, .FRAC and .FU by their number. -/
def tcvtOf (k : Nat) (v : BitVec 96) : Nat :=
  let fu := timeFu v
  match k with
  | 0 => fu / fuPerSec
  | 1 => fu % fuPerSec / 65536
  | 2 => fu % 65536
  | _ => fu % fuPerSec

def State.tcvt (s : State) (e t k rd ta : Nat) : State :=
  let x := s.thread e t
  if x.v1 ∧ k = 3 then s.undefinedWord e t
  else s.withRegs e t [x.dest rd, .t ta] (fun s => s.retireIns e t (x.wr rd (BitVec.ofNat 64 (tcvtOf k (x.treg ta)))))

def State.tcvtMk (s : State) (e t td ra rb : Nat) : State :=
  s.unlessV1 e t (fun s =>
    let x := s.thread e t
    s.withRegs e t [.t td, x.dest ra, x.dest rb] (fun s =>
      s.retireIns e t (x.setTreg td (timeOf ((x.rd ra).toNat % 2 ^ 48 * fuPerSec + (x.rd rb).toNat : Nat)))))

def State.tcvtMov (s : State) (e t td ta : Nat) : State :=
  let x := s.thread e t
  s.withRegs e t [.t td, .t ta] (fun s => s.retireIns e t (x.setTreg td (x.treg ta)))

/-- The latency that STAMP returns, ns (10 R284). -/
def State.stampLatency (s : State) (x : Thread) : Nat :=
  match x.lastEv with
  | none => 0xFFFF
  | some at_ => min 65535 ((s.tb.elapsed - at_) / 65536)

def State.stamp (s : State) (e t td rb : Nat) : State :=
  let x := s.thread e t
  s.withRegs e t ([.t td] ++ if x.v1 then [] else [x.dest rb]) (fun s =>
    let y := x.setTreg td (BitVec.ofNat 96 (encodeHub s.tb.now))
    s.retireIns e t (if x.v1 then y else y.wr rb (BitVec.ofNat 64 (s.stampLatency x))))

/-! ### Rings and devices (11 R324, R331 to R336) -/

/-- Ring functions: 0 PUSH, 1 POP, 2 PEEK. Velmos-1 names rings 0 to 63. -/
def State.ring (s : State) (e t fn rd r ra : Nat) (transit : Bool) : State :=
  let x := s.thread e t
  if x.v1 ∧ 64 ≤ r then s.undefinedWord e t
  else
    let buf := (x.rd ra).toNat
    s.operate e t [x.dest rd, x.dest ra] (x.dest rd)
      (match fn with | 0 => .push r buf | 1 => .pop r buf | _ => .peek r buf) transit

def State.devRead (s : State) (e t rd ra : Nat) (transit : Bool) : State :=
  let x := s.thread e t
  s.operate e t [x.dest rd, x.dest ra] (x.dest rd) (.devr ((x.rd ra).toNat % 2 ^ 32)) transit

def State.devWrite (s : State) (e t rd ra rb : Nat) (transit : Bool) : State :=
  let x := s.thread e t
  s.operate e t [x.dest rd, x.dest ra, x.dest rb] (x.dest rd)
    (.devw ((x.rd ra).toNat % 2 ^ 32) ((x.rd rb).setWidth 32)) transit

/-- A device operation of selectors 2 to 6. -/
def State.device (s : State) (e t rd : Nat) (uses : Thread → List Dest) (op : Thread → Op) (transit : Bool) : State :=
  s.unlessV1 e t (fun s =>
    let x := s.thread e t
    s.operate e t (x.dest rd :: uses x) (x.dest rd) (op x) transit)

def State.press (s : State) (e t rd ra rb aux : Nat) (transit : Bool) : State :=
  s.device e t rd (fun x => [x.dest ra, x.dest rb]) (fun x => .press aux (x.rd ra) (x.rd rb)) transit
def State.seamDev (s : State) (e t rd ra aux : Nat) (transit : Bool) : State :=
  s.device e t rd (fun x => [x.dest ra]) (fun x => .seam aux (x.rd ra)) transit
def State.rampDev (s : State) (e t rd aux : Nat) (transit : Bool) : State := s.device e t rd (fun _ => []) (fun _ => .ramp aux) transit
def State.feedDev (s : State) (e t rd ra ts : Nat) (transit : Bool) : State :=
  s.device e t rd (fun x => [x.dest ra, .t ts]) (fun x => .feed (x.rd ra) (x.treg ts)) transit
def State.schedDev (s : State) (e t rd ra aux : Nat) (transit : Bool) : State :=
  s.device e t rd (fun x => [x.dest ra]) (fun x => .sched aux (x.rd ra)) transit

/-! ### Events, liveness, status (10 R282, R287, 11 R327 to R329) -/

/-- The mask of WAITE and EVACK. -/
def eventMask (x : Thread) (r : Nat) : Nat := (x.rd r).toNat % (if x.v1 then 2 ^ 16 else 2 ^ 32)

/-- The assertion time of the lowest of the events of a mask. -/
def Thread.lowestAt (x : Thread) (m : Nat) : Option Nat := (lowestBit m).map (fun k => Tab.get (fun _ => 0) x.evAt k)

def State.waiteGo (s : State) (e t rd ra : Nat) (x : Thread) : State :=
  let m := eventMask x ra
  let p := Nat.land (s.fld (R.ENG_THR_STATE_W1_PENDING e t)) m
  if m = 0 then (s.retireIns e t { x.wr rd 0 with v1 := false }).setTstate e t 0
  else if p ≠ 0 then s.retireIns e t { x.wr rd (BitVec.ofNat 64 p) with lastEv := x.lowestAt p }
  else
    let pc := s.pc e t
    let s := (s.retireIns e t { x with mask := m, wrd := x.no rd }).setTstate e t 2
    if s.engState e = 3 then s.fencedTrap e t pc else s

def State.waite (s : State) (e t rd ra : Nat) : State :=
  let x := s.thread e t
  s.withRegs e t [x.dest rd, x.dest ra] (fun s => s.waiteGo e t rd ra x)

/-- An event that EVACK clears: bit k of the mask, unless it is a RING_k event whose condition still holds. -/
def State.evackBit (s : State) (e t m k : Nat) : State :=
  if m.testBit k ∧ ¬ (k < 16 ∧ s.ringHolds e t k) then s.dropEvent e t k else s

def State.evack (s : State) (e t ra : Nat) : State :=
  let x := s.thread e t
  s.withRegs e t [x.dest ra] (fun s =>
    ((List.range 32).foldl (fun s k => s.evackBit e t (eventMask x ra) k) s).stepPc e t)

def State.beatIns (s : State) (e t : Nat) : State := if s.engState e = 3 then s.issueFenced e t .none else (s.beat e).stepPc e t

/-- FENCE stalls while an operation of the thread is in flight (10 R279). -/
def State.fenceIns (s : State) (e t : Nat) : State := if s.flightsOf e t = [] then s.stepPc e t else s.setTstate e t 3

/-- EPOCH (10 R287). -/
def State.epochIns (s : State) (e t r : Nat) : State :=
  s.unlessV1 e t (fun s =>
    if s.holder r = some e then s.retireIns e t { s.thread e t with ep := s.token r } else s.issueFenced e t .none)

/-- fs as a word (10 R276). -/
def Fs.word (f : Fs) : Nat := f.code + 2 ^ 8 * f.sticky + (if f.inTrap then 2 ^ 16 else 0) + 2 ^ 32 * f.trapPc

def rdsrOf (e t : Nat) (x : Thread) (sel : Nat) : Nat :=
  match sel with
  | 0 => x.fs.word
  | 1 => x.ep.toNat
  | _ => e + 16 * t

def State.rdsr (s : State) (e t rd sel : Nat) : State :=
  let x := s.thread e t
  if x.v1 ∧ sel ≠ 0 then s.undefinedWord e t
  else s.withRegs e t [x.dest rd] (fun s => s.retireIns e t (x.wr rd (BitVec.ofNat 64 (rdsrOf e t x sel))))

def State.wrfs (s : State) (e t ra : Nat) : State :=
  s.unlessV1 e t (fun s =>
    let x := s.thread e t
    s.withRegs e t [x.dest ra] (fun s =>
      let v := (x.rd ra).toNat
      s.retireIns e t { x with fs := { x.fs with code := v % 256, sticky := v / 256 % 32, inTrap := v.testBit 16 } }))

end Sys2Proof.Machine
end

