-- ==== Sys2Proof/Machine/Isa.lean ====
section
/-! DEFINITION. Machine/Isa.lean: the instructions of 11 R310 as commands: thread t of engine e issues the instruction with the operands
of its word. The command names the instruction that the word at pc holds; a thread that cannot issue does nothing (log 29). -/
namespace Sys2Proof.Machine

/-! ### Integer instructions (11 R311, R312) -/

/-- ADD (R311). -/
def execAdd (e : Fin 8) (t : Fin 4) (rd ra rb : Fin 32) (s : State) : Out :=
  .next (s.issue e t (fun s => s.aluRow e t 0x000 rd ra rb))

/-- SUB (R311). -/
def execSub (e : Fin 8) (t : Fin 4) (rd ra rb : Fin 32) (s : State) : Out :=
  .next (s.issue e t (fun s => s.aluRow e t 0x001 rd ra rb))

/-- AND (R311). -/
def execAnd (e : Fin 8) (t : Fin 4) (rd ra rb : Fin 32) (s : State) : Out :=
  .next (s.issue e t (fun s => s.aluRow e t 0x002 rd ra rb))

/-- OR (R311). -/
def execOr (e : Fin 8) (t : Fin 4) (rd ra rb : Fin 32) (s : State) : Out :=
  .next (s.issue e t (fun s => s.aluRow e t 0x003 rd ra rb))

/-- XOR (R311). -/
def execXor (e : Fin 8) (t : Fin 4) (rd ra rb : Fin 32) (s : State) : Out :=
  .next (s.issue e t (fun s => s.aluRow e t 0x004 rd ra rb))

/-- SHL (R311). -/
def execShl (e : Fin 8) (t : Fin 4) (rd ra rb : Fin 32) (s : State) : Out :=
  .next (s.issue e t (fun s => s.aluRow e t 0x005 rd ra rb))

/-- SHR (R311). -/
def execShr (e : Fin 8) (t : Fin 4) (rd ra rb : Fin 32) (s : State) : Out :=
  .next (s.issue e t (fun s => s.aluRow e t 0x006 rd ra rb))

/-- SRA (R311). -/
def execSra (e : Fin 8) (t : Fin 4) (rd ra rb : Fin 32) (s : State) : Out :=
  .next (s.issue e t (fun s => s.aluRow e t 0x007 rd ra rb))

/-- MUL (R311). -/
def execMul (e : Fin 8) (t : Fin 4) (rd ra rb : Fin 32) (s : State) : Out :=
  .next (s.issue e t (fun s => s.aluRow e t 0x008 rd ra rb))

/-- MULH (R311). -/
def execMulh (e : Fin 8) (t : Fin 4) (rd ra rb : Fin 32) (s : State) : Out :=
  .next (s.issue e t (fun s => s.aluRow e t 0x009 rd ra rb))

/-- SEL (R311). -/
def execSel (e : Fin 8) (t : Fin 4) (rd ra rb : Fin 32) (s : State) : Out :=
  .next (s.issue e t (fun s => s.aluRow e t 0x00A rd ra rb))

/-- CMPEQ (R311). -/
def execCmpeq (e : Fin 8) (t : Fin 4) (rd ra rb : Fin 32) (s : State) : Out :=
  .next (s.issue e t (fun s => s.aluRow e t 0x010 rd ra rb))

/-- CMPNE (R311). -/
def execCmpne (e : Fin 8) (t : Fin 4) (rd ra rb : Fin 32) (s : State) : Out :=
  .next (s.issue e t (fun s => s.aluRow e t 0x011 rd ra rb))

/-- CMPLT (R311). -/
def execCmplt (e : Fin 8) (t : Fin 4) (rd ra rb : Fin 32) (s : State) : Out :=
  .next (s.issue e t (fun s => s.aluRow e t 0x012 rd ra rb))

/-- CMPGE (R311). -/
def execCmpge (e : Fin 8) (t : Fin 4) (rd ra rb : Fin 32) (s : State) : Out :=
  .next (s.issue e t (fun s => s.aluRow e t 0x013 rd ra rb))

/-- CMPLTU (R311). -/
def execCmpltu (e : Fin 8) (t : Fin 4) (rd ra rb : Fin 32) (s : State) : Out :=
  .next (s.issue e t (fun s => s.aluRow e t 0x014 rd ra rb))

/-- CMPGEU (R311). -/
def execCmpgeu (e : Fin 8) (t : Fin 4) (rd ra rb : Fin 32) (s : State) : Out :=
  .next (s.issue e t (fun s => s.aluRow e t 0x015 rd ra rb))

/-- ADDI (R312). -/
def execAddi (e : Fin 8) (t : Fin 4) (rd ra : Fin 32) (imm : BitVec 16) (s : State) : Out :=
  .next (s.issue e t (fun s => s.immRow e t 0x01 rd ra imm))

/-- ANDI (R312). -/
def execAndi (e : Fin 8) (t : Fin 4) (rd ra : Fin 32) (imm : BitVec 16) (s : State) : Out :=
  .next (s.issue e t (fun s => s.immRow e t 0x02 rd ra imm))

/-- ORI (R312). -/
def execOri (e : Fin 8) (t : Fin 4) (rd ra : Fin 32) (imm : BitVec 16) (s : State) : Out :=
  .next (s.issue e t (fun s => s.immRow e t 0x03 rd ra imm))

/-- XORI (R312). -/
def execXori (e : Fin 8) (t : Fin 4) (rd ra : Fin 32) (imm : BitVec 16) (s : State) : Out :=
  .next (s.issue e t (fun s => s.immRow e t 0x04 rd ra imm))

/-- SHLI (R312). -/
def execShli (e : Fin 8) (t : Fin 4) (rd ra : Fin 32) (n : BitVec 6) (s : State) : Out :=
  .next (s.issue e t (fun s => s.immRow e t 0x05 rd ra (n.setWidth 16)))

/-- SHRI (R312). -/
def execShri (e : Fin 8) (t : Fin 4) (rd ra : Fin 32) (n : BitVec 6) (s : State) : Out :=
  .next (s.issue e t (fun s => s.immRow e t 0x06 rd ra (n.setWidth 16)))

/-- SRAI (R312). -/
def execSrai (e : Fin 8) (t : Fin 4) (rd ra : Fin 32) (n : BitVec 6) (s : State) : Out :=
  .next (s.issue e t (fun s => s.immRow e t 0x07 rd ra (n.setWidth 16)))

/-- CMPEQI (R312). -/
def execCmpeqi (e : Fin 8) (t : Fin 4) (rd ra : Fin 32) (imm : BitVec 16) (s : State) : Out :=
  .next (s.issue e t (fun s => s.immRow e t 0x08 rd ra imm))

/-- CMPNEI (R312). -/
def execCmpnei (e : Fin 8) (t : Fin 4) (rd ra : Fin 32) (imm : BitVec 16) (s : State) : Out :=
  .next (s.issue e t (fun s => s.immRow e t 0x09 rd ra imm))

/-- CMPLTI (R312). -/
def execCmplti (e : Fin 8) (t : Fin 4) (rd ra : Fin 32) (imm : BitVec 16) (s : State) : Out :=
  .next (s.issue e t (fun s => s.immRow e t 0x0A rd ra imm))

/-- CMPGEI (R312). -/
def execCmpgei (e : Fin 8) (t : Fin 4) (rd ra : Fin 32) (imm : BitVec 16) (s : State) : Out :=
  .next (s.issue e t (fun s => s.immRow e t 0x0B rd ra imm))

/-- CMPLTUI (R312). -/
def execCmpltui (e : Fin 8) (t : Fin 4) (rd ra : Fin 32) (imm : BitVec 16) (s : State) : Out :=
  .next (s.issue e t (fun s => s.immRow e t 0x0C rd ra imm))

/-- CMPGEUI (R312). -/
def execCmpgeui (e : Fin 8) (t : Fin 4) (rd ra : Fin 32) (imm : BitVec 16) (s : State) : Out :=
  .next (s.issue e t (fun s => s.immRow e t 0x0D rd ra imm))

/-! ### Memory (11 R313 to R316, R320). `transit` says that the operation has left and not yet reached its destination (log 29) -/

/-- LD8 (R315). -/
def execLd8 (e : Fin 8) (t : Fin 4) (rd ra : Fin 32) (imm : BitVec 12) (transit : Bool) (s : State) : Out :=
  .next (s.issue e t (fun s => s.load e t 1 rd ra imm transit))

/-- LD16 (R315). -/
def execLd16 (e : Fin 8) (t : Fin 4) (rd ra : Fin 32) (imm : BitVec 12) (transit : Bool) (s : State) : Out :=
  .next (s.issue e t (fun s => s.load e t 2 rd ra imm transit))

/-- LD32 (R315). -/
def execLd32 (e : Fin 8) (t : Fin 4) (rd ra : Fin 32) (imm : BitVec 12) (transit : Bool) (s : State) : Out :=
  .next (s.issue e t (fun s => s.load e t 4 rd ra imm transit))

/-- LD64 (R315). -/
def execLd64 (e : Fin 8) (t : Fin 4) (rd ra : Fin 32) (imm : BitVec 12) (transit : Bool) (s : State) : Out :=
  .next (s.issue e t (fun s => s.load e t 8 rd ra imm transit))

/-- ST8 (R315). -/
def execSt8 (e : Fin 8) (t : Fin 4) (rs ra : Fin 32) (imm : BitVec 12) (transit : Bool) (s : State) : Out :=
  .next (s.issue e t (fun s => s.store e t 1 rs ra imm transit))

/-- ST16 (R315). -/
def execSt16 (e : Fin 8) (t : Fin 4) (rs ra : Fin 32) (imm : BitVec 12) (transit : Bool) (s : State) : Out :=
  .next (s.issue e t (fun s => s.store e t 2 rs ra imm transit))

/-- ST32 (R315). -/
def execSt32 (e : Fin 8) (t : Fin 4) (rs ra : Fin 32) (imm : BitVec 12) (transit : Bool) (s : State) : Out :=
  .next (s.issue e t (fun s => s.store e t 4 rs ra imm transit))

/-- ST64 (R315). -/
def execSt64 (e : Fin 8) (t : Fin 4) (rs ra : Fin 32) (imm : BitVec 12) (transit : Bool) (s : State) : Out :=
  .next (s.issue e t (fun s => s.store e t 8 rs ra imm transit))

/-- XADD (R316). -/
def execXadd (e : Fin 8) (t : Fin 4) (rd ra rb : Fin 32) (w32 transit : Bool) (s : State) : Out :=
  .next (s.issue e t (fun s => s.atomic e t rd ra rb false w32 transit))

/-- XSWP (R316). -/
def execXswp (e : Fin 8) (t : Fin 4) (rd ra rb : Fin 32) (w32 transit : Bool) (s : State) : Out :=
  .next (s.issue e t (fun s => s.atomic e t rd ra rb true w32 transit))

/-- TLD (R320). -/
def execTld (e : Fin 8) (t : Fin 4) (td : Fin 8) (ra : Fin 32) (imm : BitVec 12) (transit : Bool) (s : State) : Out :=
  .next (s.issue e t (fun s => s.tld e t td ra imm transit))

/-- TST (R320). -/
def execTst (e : Fin 8) (t : Fin 4) (ts : Fin 8) (ra : Fin 32) (imm : BitVec 12) (transit : Bool) (s : State) : Out :=
  .next (s.issue e t (fun s => s.tst e t ts ra imm transit))

/-! ### Branches (11 R317, R318, R339) -/

/-- BR (R317). -/
def execBr (e : Fin 8) (t : Fin 4) (imm : BitVec 21) (s : State) : Out := .next (s.issue e t (fun s => s.jump e t imm))

/-- BEQ (R317). -/
def execBeq (e : Fin 8) (t : Fin 4) (rs : Fin 32) (imm : BitVec 21) (s : State) : Out :=
  .next (s.issue e t (fun s => s.branch e t 0 rs imm))

/-- BNE (R317). -/
def execBne (e : Fin 8) (t : Fin 4) (rs : Fin 32) (imm : BitVec 21) (s : State) : Out :=
  .next (s.issue e t (fun s => s.branch e t 1 rs imm))

/-- BLT (R317). -/
def execBlt (e : Fin 8) (t : Fin 4) (rs : Fin 32) (imm : BitVec 21) (s : State) : Out :=
  .next (s.issue e t (fun s => s.branch e t 2 rs imm))

/-- BGE (R317). -/
def execBge (e : Fin 8) (t : Fin 4) (rs : Fin 32) (imm : BitVec 21) (s : State) : Out :=
  .next (s.issue e t (fun s => s.branch e t 3 rs imm))

/-- CALL (R317). -/
def execCall (e : Fin 8) (t : Fin 4) (imm : BitVec 21) (s : State) : Out := .next (s.issue e t (fun s => s.call e t imm))

/-- ENTER1 (R339). -/
def execEnter1 (e : Fin 8) (t : Fin 4) (imm : BitVec 21) (s : State) : Out := .next (s.issue e t (fun s => s.enter1 e t imm))

/-- RET (R318). -/
def execRet (e : Fin 8) (t : Fin 4) (ra : Fin 32) (s : State) : Out := .next (s.issue e t (fun s => s.ret e t ra))

/-! ### Time (11 R319 to R323) -/

/-- TADD (R321). -/
def execTadd (e : Fin 8) (t : Fin 4) (td ta : Fin 8) (rb : Fin 32) (s : State) : Out :=
  .next (s.issue e t (fun s => s.tadd e t td ta rb))

/-- TSUB (R321). -/
def execTsub (e : Fin 8) (t : Fin 4) (rd : Fin 32) (ta tb : Fin 8) (s : State) : Out :=
  .next (s.issue e t (fun s => s.tsub e t rd ta tb))

/-- TCMP (R321). -/
def execTcmp (e : Fin 8) (t : Fin 4) (rd : Fin 32) (ta tb : Fin 8) (s : State) : Out :=
  .next (s.issue e t (fun s => s.tcmp e t rd ta tb))

/-- TCVT_SEC (R322). -/
def execTcvtSec (e : Fin 8) (t : Fin 4) (rd : Fin 32) (ta : Fin 8) (s : State) : Out :=
  .next (s.issue e t (fun s => s.tcvt e t 0 rd ta))

/-- TCVT_NS (R322). -/
def execTcvtNs (e : Fin 8) (t : Fin 4) (rd : Fin 32) (ta : Fin 8) (s : State) : Out :=
  .next (s.issue e t (fun s => s.tcvt e t 1 rd ta))

/-- TCVT_FRAC (R322). -/
def execTcvtFrac (e : Fin 8) (t : Fin 4) (rd : Fin 32) (ta : Fin 8) (s : State) : Out :=
  .next (s.issue e t (fun s => s.tcvt e t 2 rd ta))

/-- TCVT_FU (R322). -/
def execTcvtFu (e : Fin 8) (t : Fin 4) (rd : Fin 32) (ta : Fin 8) (s : State) : Out :=
  .next (s.issue e t (fun s => s.tcvt e t 3 rd ta))

/-- TCVT_MK (R322). -/
def execTcvtMk (e : Fin 8) (t : Fin 4) (td : Fin 8) (ra rb : Fin 32) (s : State) : Out :=
  .next (s.issue e t (fun s => s.tcvtMk e t td ra rb))

/-- TCVT_MOV (R322). -/
def execTcvtMov (e : Fin 8) (t : Fin 4) (td ta : Fin 8) (s : State) : Out := .next (s.issue e t (fun s => s.tcvtMov e t td ta))

/-- STAMP (R323). -/
def execStamp (e : Fin 8) (t : Fin 4) (td : Fin 8) (rb : Fin 32) (s : State) : Out :=
  .next (s.issue e t (fun s => s.stamp e t td rb))

/-! ### Rings (11 R324, R325) -/

/-- PUSH (R324). -/
def execPush (e : Fin 8) (t : Fin 4) (rd : Fin 32) (r : Fin 128) (ra : Fin 32) (transit : Bool) (s : State) : Out :=
  .next (s.issue e t (fun s => s.ring e t 0 rd r ra transit))

/-- POP (R324). -/
def execPop (e : Fin 8) (t : Fin 4) (rd : Fin 32) (r : Fin 128) (ra : Fin 32) (transit : Bool) (s : State) : Out :=
  .next (s.issue e t (fun s => s.ring e t 1 rd r ra transit))

/-- PEEK (R324). -/
def execPeek (e : Fin 8) (t : Fin 4) (rd : Fin 32) (r : Fin 128) (ra : Fin 32) (transit : Bool) (s : State) : Out :=
  .next (s.issue e t (fun s => s.ring e t 2 rd r ra transit))

/-! ### Events, liveness, status (10 R282, R287, 11 R327 to R329) -/

/-- WAITE (R282). -/
def execWaite (e : Fin 8) (t : Fin 4) (rd ra : Fin 32) (s : State) : Out := .next (s.issue e t (fun s => s.waite e t rd ra))

/-- EVACK (R327). -/
def execEvack (e : Fin 8) (t : Fin 4) (ra : Fin 32) (s : State) : Out := .next (s.issue e t (fun s => s.evack e t ra))

/-- BEAT (R294). -/
def execBeat (e : Fin 8) (t : Fin 4) (s : State) : Out := .next (s.issue e t (fun s => s.beatIns e t))

/-- FENCE (R279). -/
def execFence (e : Fin 8) (t : Fin 4) (s : State) : Out := .next (s.issue e t (fun s => s.fenceIns e t))

/-- RDSR (R329). -/
def execRdsr (e : Fin 8) (t : Fin 4) (rd : Fin 32) (sel : Fin 3) (s : State) : Out :=
  .next (s.issue e t (fun s => s.rdsr e t rd sel))

/-- WRFS (R329). -/
def execWrfs (e : Fin 8) (t : Fin 4) (ra : Fin 32) (s : State) : Out := .next (s.issue e t (fun s => s.wrfs e t ra))

/-- EPOCH (R287). -/
def execEpoch (e : Fin 8) (t : Fin 4) (r : Fin 64) (s : State) : Out := .next (s.issue e t (fun s => s.epochIns e t r))

/-! ### Device operations (11 R331 to R336). `hi` holds the aux bits above the form -/

/-- DEVR (R331). -/
def execDevr (e : Fin 8) (t : Fin 4) (rd ra : Fin 32) (s : State) : Out :=
  .next (s.issue e t (fun s => s.devRead e t rd ra false))

/-- DEVW (R331). -/
def execDevw (e : Fin 8) (t : Fin 4) (rd ra rb : Fin 32) (s : State) : Out :=
  .next (s.issue e t (fun s => s.devWrite e t rd ra rb false))

/-- PRESS_ALIGN (R332). -/
def execPressAlign (e : Fin 8) (t : Fin 4) (rd ra rb : Fin 32) (align : Bool) (s : State) : Out :=
  .next (s.issue e t (fun s => s.press e t rd ra rb (0 + if align then 4 else 0) false))

/-- PRESS_STEP (R332). -/
def execPressStep (e : Fin 8) (t : Fin 4) (rd ra rb : Fin 32) (align : Bool) (s : State) : Out :=
  .next (s.issue e t (fun s => s.press e t rd ra rb (1 + if align then 4 else 0) false))

/-- PRESS_SLEW (R332). -/
def execPressSlew (e : Fin 8) (t : Fin 4) (rd ra rb : Fin 32) (align : Bool) (s : State) : Out :=
  .next (s.issue e t (fun s => s.press e t rd ra rb (2 + if align then 4 else 0) false))

/-- PRESS_ABORT (R332). -/
def execPressAbort (e : Fin 8) (t : Fin 4) (rd ra rb : Fin 32) (align : Bool) (s : State) : Out :=
  .next (s.issue e t (fun s => s.press e t rd ra rb (3 + if align then 4 else 0) false))

/-- SEAM_SELECT (R333). -/
def execSeamSelect (e : Fin 8) (t : Fin 4) (rd ra : Fin 32) (hi : Fin 64) (s : State) : Out :=
  .next (s.issue e t (fun s => s.seamDev e t rd ra (1 + 4 * hi.val) false))

/-- SEAM_CLEAR_PREF (R333). -/
def execSeamClearPref (e : Fin 8) (t : Fin 4) (rd ra : Fin 32) (hi : Fin 64) (s : State) : Out :=
  .next (s.issue e t (fun s => s.seamDev e t rd ra (2 + 4 * hi.val) false))

/-- RAMP_GO (R334). -/
def execRampGo (e : Fin 8) (t : Fin 4) (rd : Fin 32) (pll : Fin 4) (hi : Fin 32) (s : State) : Out :=
  .next (s.issue e t (fun s => s.rampDev e t rd (pll.val + 8 * hi.val) false))

/-- RAMP_ABORT (R334). -/
def execRampAbort (e : Fin 8) (t : Fin 4) (rd : Fin 32) (pll : Fin 4) (hi : Fin 32) (s : State) : Out :=
  .next (s.issue e t (fun s => s.rampDev e t rd (pll.val + 4 + 8 * hi.val) false))

/-- FEED (R335). -/
def execFeed (e : Fin 8) (t : Fin 4) (rd ra : Fin 32) (ts : Fin 8) (s : State) : Out :=
  .next (s.issue e t (fun s => s.feedDev e t rd ra ts false))

/-- SCHED_PLACE (R266). -/
def execSchedPlace (e : Fin 8) (t : Fin 4) (rd ra link : Fin 32) (notify b7 transit : Bool) (s : State) : Out :=
  .next (s.issue e t (fun s => s.schedDev e t rd ra (link.val + (if notify then 32 else 0) + (if b7 then 128 else 0)) transit))

/-- SCHED_CANCEL (R269). -/
def execSchedCancel (e : Fin 8) (t : Fin 4) (rd ra low : Fin 32) (b5 b7 transit : Bool) (s : State) : Out :=
  .next (s.issue e t (fun s => s.schedDev e t rd ra (low.val + 64 + (if b5 then 32 else 0) + (if b7 then 128 else 0)) transit))

/-! ### Undefined words (11 R309) -/

/-- UNDEFINED_INSTRUCTION (R309). -/
def execUndefinedInstruction (e : Fin 8) (t : Fin 4) (s : State) : Out := .next (s.issue e t (fun s => s.undefinedWord e t))

end Sys2Proof.Machine
end

