-- ==== Sys2Proof/Machine/JtagPort.lean ====
section
/-! DEFINITION. Machine/JtagPort.lean: the JTAG port (17 R470 to R472, 14 R411) and the decoder of Velmos words that STEP uses
(11 R306 to R310, R340). -/
namespace Sys2Proof.Machine

def State.setIr (s : State) (v : Nat) : State := { s with host := { s.host with jtag := { s.host.jtag with ir := v } } }

/-- What the next Capture-DR loads under the instruction in force (R470 to R472); the boundary-scan cells are the pins and not
state. -/
def State.capture (s : State) : Nat :=
  let j := s.host.jtag
  match j.ir with
  | 0x01 => 0xB9832E5F
  | 0x20 => if s.flag R.HOST_CFG_DBG_EN then 2 ^ 32 * j.memData + 2 ^ 64 * j.memStatus else 0
  | 0x21 => if s.flag R.HOST_CFG_DBG_EN then 2 ^ 16 * j.engData + 2 ^ 48 * j.engStatus else 0
  | _ => 0

def execExtest (s : State) : Out := .next (s.setIr 0x00)
def execIdcode (s : State) : Out := .next (s.setIr 0x01)
def execSamplePreload (s : State) : Out := .next (s.setIr 0x02)
def execHighz (s : State) : Out := .next (s.setIr 0x05)
def execClamp (s : State) : Out := .next (s.setIr 0x06)

/-- BYPASS: its own code, and every code that R470 does not list. -/
def execBypass (s : State) : Out := .next (s.setIr 0xFF)

/-! ### DBG_MEM (R471, 14 R411) -/

def factoryReqAddr : Nat := 0x05000014

/-- REQ latched while RESET_L is low (14 R411). -/
def State.factoryReq (s : State) (v : Nat) : State :=
  if s.pwr.resetLow ∧ v.testBit 0 then { s with pwr := { s.pwr with factory := true } } else s

def execFactoryReq (v : BitVec 32) (s : State) : Out := .next (s.factoryReq v.toNat)

def State.setMem (s : State) (data status : Nat) : State :=
  { s with host := { s.host with jtag := { s.host.jtag with memData := data, memStatus := status } } }

def State.dbgMem (s : State) (addr data : Nat) (write : Bool) : State :=
  let s := s.setIr 0x20
  if s.pwr.resetLow then (if write ∧ addr = factoryReqAddr then s.factoryReq data else s)
  else if ¬ s.flag R.HOST_CFG_DBG_EN then s.setMem 0 0
  else if ¬ s.pathServes 3 then s
  else
    let s := s.setMem 0 0
    if addr % 4 ≠ 0 then s.hostDone 3 0 3 none
    else if write then s.issueWrite 3 addr 0 data
    else s.issueRead 3 addr 0

def execDbgMem (addr data : BitVec 32) (write : Bool) (s : State) : Out := .next (s.dbgMem addr.toNat data.toNat write)

/-! ### Velmos words (11 R306 to R310, R340) -/

/-- A Velmos word under its decode: the register fields use four bits each in Velmos-1. -/
structure VWord where
  w : Nat
  v1 : Bool
  deriving DecidableEq, Repr

def VWord.bits (x : VWord) (lo n : Nat) : Nat := x.w / 2 ^ lo % 2 ^ n
def VWord.reg (x : VWord) (lo : Nat) : Nat := x.bits lo (if x.v1 then 4 else 5)
def VWord.rd (x : VWord) : Nat := x.reg 21
def VWord.ra (x : VWord) : Nat := x.reg 16
def VWord.rb (x : VWord) : Nat := x.reg 11
def VWord.fn (x : VWord) : Nat := x.bits 0 11
def VWord.major (x : VWord) : Nat := x.bits 26 6
def VWord.imm16 (x : VWord) : BitVec 16 := BitVec.ofNat 16 x.w
def VWord.imm12 (x : VWord) : BitVec 12 := BitVec.ofNat 12 x.w
def VWord.imm21 (x : VWord) : BitVec 21 := BitVec.ofNat 21 x.w
/-- The size of an LDn or STn. -/
def VWord.size (x : VWord) : Nat := 2 ^ x.bits 12 2

/-- Time and STAMP words, major 0x20. -/
def State.runTime (s : State) (e t : Nat) (x : VWord) : State :=
  let u := s.undefinedWord e t
  match x.fn with
  | 0x000 => if x.rd < 8 ∧ x.ra < 8 then s.tadd e t x.rd x.ra x.rb else u
  | 0x001 => if x.ra < 8 ∧ x.rb < 8 then s.tsub e t x.rd x.ra x.rb else u
  | 0x002 => if x.ra < 8 ∧ x.rb < 8 then s.tcmp e t x.rd x.ra x.rb else u
  | 0x010 => if x.ra < 8 ∧ x.rb = 0 then s.tcvt e t 0 x.rd x.ra else u
  | 0x011 => if x.ra < 8 ∧ x.rb = 0 then s.tcvt e t 1 x.rd x.ra else u
  | 0x012 => if x.ra < 8 ∧ x.rb = 0 then s.tcvt e t 2 x.rd x.ra else u
  | 0x013 => if x.ra < 8 ∧ x.rb = 0 then s.tcvt e t 3 x.rd x.ra else u
  | 0x014 => if x.rd < 8 then s.tcvtMk e t x.rd x.ra x.rb else u
  | 0x015 => if x.rd < 8 ∧ x.ra < 8 ∧ x.rb = 0 then s.tcvtMov e t x.rd x.ra else u
  | 0x020 => if x.rd < 8 ∧ x.ra = 0 then s.stamp e t x.rd x.rb else u
  | _ => u

/-- Event, liveness and status words, major 0x30. -/
def State.runMisc (s : State) (e t : Nat) (x : VWord) : State :=
  let u := s.undefinedWord e t
  match x.fn with
  | 0x000 => if x.rb = 0 then s.waite e t x.rd x.ra else u
  | 0x001 => if x.rd = 0 ∧ x.rb = 0 then s.evack e t x.ra else u
  | 0x002 => if x.rd = 0 ∧ x.ra = 0 ∧ x.rb = 0 then s.beatIns e t else u
  | 0x003 => if x.rd = 0 ∧ x.ra = 0 ∧ x.rb = 0 then s.fenceIns e t else u
  | 0x005 => if x.ra < 3 ∧ x.rb = 0 then s.rdsr e t x.rd x.ra else u
  | 0x006 => if x.rd = 0 ∧ x.rb = 0 then s.wrfs e t x.ra else u
  | _ => u

/-- Device words, major 0x38. A field that R332 or R335 requires to be zero makes the word undefined (log 30). -/
def State.runDev (s : State) (e t : Nat) (x : VWord) : State :=
  let u := s.undefinedWord e t
  let aux := x.bits 0 8
  match x.bits 8 3 with
  | 0 => if x.rb = 0 ∧ aux = 0 then s.devRead e t x.rd x.ra false else u
  | 1 => if aux = 0 then s.devWrite e t x.rd x.ra x.rb false else u
  | 2 => if aux < 8 then s.press e t x.rd x.ra x.rb aux false else u
  | 3 => if x.rb = 0 then s.seamDev e t x.rd x.ra aux false else u
  | 4 => if x.ra = 0 ∧ x.rb = 0 then s.rampDev e t x.rd aux false else u
  | 5 => if x.rb = 0 ∧ aux < 8 then s.feedDev e t x.rd x.ra aux false else u
  | 6 => if x.rb = 0 then s.schedDev e t x.rd x.ra aux false else u
  | _ => u

/-- The remaining words. -/
def State.runCore (s : State) (e t : Nat) (x : VWord) : State :=
  let u := s.undefinedWord e t
  match x.major with
  | 0x10 => if x.bits 14 2 = 0 then s.load e t x.size x.rd x.ra x.imm12 false else u
  | 0x11 => if x.bits 14 2 = 0 then s.store e t x.size x.rd x.ra x.imm12 false else u
  | 0x12 => if x.bits 2 9 = 0 then s.atomic e t x.rd x.ra x.rb (x.w.testBit 0) (x.w.testBit 1) false else u
  | 0x13 => if x.rd < 8 ∧ x.bits 12 4 = 0 then s.tld e t x.rd x.ra x.imm12 false else u
  | 0x14 => if x.rd < 8 ∧ x.bits 12 4 = 0 then s.tst e t x.rd x.ra x.imm12 false else u
  | 0x18 => if x.rd = 0 then s.jump e t x.imm21 else u
  | 0x19 => s.branch e t 0 x.rd x.imm21
  | 0x1A => s.branch e t 1 x.rd x.imm21
  | 0x1B => s.branch e t 2 x.rd x.imm21
  | 0x1C => s.branch e t 3 x.rd x.imm21
  | 0x1D => if x.rd = 0 then s.call e t x.imm21 else u
  | 0x1E => if x.rd = 0 then s.enter1 e t x.imm21 else u
  | 0x1F => if x.rd = 0 ∧ x.rb = 0 ∧ x.fn = 0 then s.ret e t x.ra else u
  | 0x20 => s.runTime e t x
  | 0x28 => if x.bits 11 5 = 0 ∧ x.bits 0 4 < 3 then s.ring e t (x.bits 0 4) x.rd (x.bits 4 7) x.ra false else u
  | 0x30 => s.runMisc e t x
  | 0x31 => if x.rd = 0 ∧ x.ra = 0 ∧ x.bits 6 10 = 0 then s.epochIns e t (x.bits 0 6) else u
  | 0x38 => s.runDev e t x
  | _ => u

/-- A word is issued. -/
def State.runWord (s : State) (e t : Nat) (x : VWord) : State :=
  if x.major = 0 then s.aluRow e t x.fn x.rd x.ra x.rb
  else if 0x05 ≤ x.major ∧ x.major ≤ 0x07 ∧ x.bits 6 10 ≠ 0 then s.undefinedWord e t
  else if x.major ≤ 0x0D then s.immRow e t x.major x.rd x.ra x.imm16
  else s.runCore e t x

/-! ### DBG_ENG (R472) -/

def State.setEngCap (s : State) (data status : Nat) : State :=
  { s with host := { s.host with jtag := { s.host.jtag with engData := data % 2 ^ 32, engStatus := status } } }

/-- The port serves DBG_ENG. -/
def State.dbgServes (s : State) : Bool := s.pathServes 3 && s.pwr.phase == 0

/-- The word that SEL names, if it names one. -/
def State.dbgWord (s : State) (e t sel : Nat) : Option Nat :=
  let x := s.thread e t
  if sel < 64 then some ((x.gpr (sel / 2)).toNat / 2 ^ (32 * (sel % 2)))
  else if sel < 88 then some ((x.treg ((sel - 64) / 3)).toNat / 2 ^ (32 * ((sel - 64) % 3)))
  else if sel = 88 then some (s.pc e t)
  else if sel = 89 then some x.ep.toNat
  else if sel = 90 then some x.fs.word
  else if sel = 91 then some x.fs.trapPc
  else none

/-- READ; a SEL that R472 does not list reads a value that the spec does not state (log 12). -/
def State.dbgRead (s : State) (e t sel : Nat) : State :=
  let s := s.setIr 0x21
  if ¬ s.dbgServes then s
  else if s.engState e ≠ 0 ∧ s.engState e ≠ 3 then s.setEngCap 0 9
  else match s.dbgWord e t sel with
    | some v => s.setEngCap v 0
    | none => { s.setEngCap (Config.freeValue s.freeCtr).toNat 0 with freeCtr := s.freeCtr + 1 }

def execDbgEngRead (e : Fin 8) (t : Fin 4) (sel : BitVec 8) (s : State) : Out := .next (s.dbgRead e t sel.toNat)

/-- A 32-bit part of a value replaced. -/
def putWord (old k v : Nat) : Nat := old - old / 2 ^ (32 * k) % 2 ^ 32 * 2 ^ (32 * k) + v % 2 ^ 32 * 2 ^ (32 * k)

/-- fs with its low word replaced; with its high word. -/
def Fs.putLow (f : Fs) (v : Nat) : Fs := { f with code := v % 256, sticky := v / 256 % 32, inTrap := v.testBit 16 }
def Fs.putHigh (f : Fs) (v : Nat) : Fs := { f with trapPc := v % 2 ^ 18 }

/-- A word of a thread is replaced. -/
def State.dbgPut (s : State) (e t sel v : Nat) : State :=
  let x := s.thread e t
  if sel < 64 then s.setThread e t (x.setGpr (sel / 2) (BitVec.ofNat 64 (putWord (x.gpr (sel / 2)).toNat (sel % 2) v)))
  else if sel < 88 then
    let j := (sel - 64) / 3
    s.setThread e t (x.setTreg j (BitVec.ofNat 96 (putWord (x.treg j).toNat ((sel - 64) % 3) v)))
  else if sel = 88 then s.setPc e t (v % 2 ^ 18)
  else if sel = 89 then s.setThread e t { x with ep := BitVec.ofNat 16 v }
  else if sel = 90 then s.setThread e t { x with fs := x.fs.putLow v }
  else if sel = 91 then s.setThread e t { x with fs := x.fs.putHigh v }
  else s

/-- WRITE. -/
def State.dbgWrite (s : State) (e t sel v : Nat) : State :=
  let s := s.setIr 0x21
  if ¬ s.dbgServes then s
  else if s.engState e ≠ 0 then s.setEngCap 0 9
  else (s.dbgPut e t sel v).setEngCap 0 0

def execDbgEngWrite (e : Fin 8) (t : Fin 4) (sel : BitVec 8) (v : BitVec 32) (s : State) : Out :=
  .next (s.dbgWrite e t sel.toNat v.toNat)

/-- The word that a thread's pc names in IB_e, under the thread's decode. -/
def State.fetchWord (s : State) (e t : Nat) : VWord := { w := s.bytes (bankBase e + s.pc e t) 4, v1 := (s.thread e t).v1 }

/-- The operations of a thread that are in flight complete; one in the mailbox is admitted first, after what is admitted before it. -/
def State.completeAll (s : State) (e t : Nat) : State :=
  (s.flightsOf e t).foldl (fun s f =>
    (State.admitUntil e (.flight f.place t) s.mailWaiting s).opComplete e f.place) s

/-- STEP: the heartbeat timer stays held. -/
def State.dbgStep (s : State) (e t : Nat) : State :=
  let s := s.setIr 0x21
  if ¬ s.dbgServes then s
  else if s.engState e ≠ 0 then s.setEngCap 0 9
  else if ¬ s.bankOpen e then s.setEngCap 0 0
  else ((s.issueNow e t (fun s => s.runWord e t (s.fetchWord e t))).completeAll e t).setEngCap 0 0

def execDbgEngStep (e : Fin 8) (t : Fin 4) (s : State) : Out := .next (s.dbgStep e t)

end Sys2Proof.Machine
end

