-- ==== Sys2Proof/Machine/PcieHost.lean ====
section
/-! DEFINITION. Machine/PcieHost.lean: the PCIe path beside single words (17 R461 to R463, R478, 18 R488) and writes into the IB banks
(10 R301). -/
namespace Sys2Proof.Machine

/-! ### Link and MSI-X (17 R461, R478) -/

/-- PCIE_LINK_STATE: the link is up at a rate and width, with the MSI-X enable that the host has set, or down. -/
def State.pcieLink (s : State) (up : Bool) (gen width : Nat) (msix : Bool) : State :=
  if up then
    if ¬ s.flag R.HOST_CFG_PCIE_EN then s
    else
      let s := { s with host := { s.host with msixOn := msix } }
      ((s.raise R.HOST_STATUS_PCIE_UP).setFld R.HOST_STATUS_PCIE_SPEED gen).setFld R.HOST_STATUS_PCIE_WIDTH width
  else ((s.clr R.HOST_STATUS_PCIE_UP).setFld R.HOST_STATUS_PCIE_SPEED 0).setFld R.HOST_STATUS_PCIE_WIDTH 0

def execPcieLinkState (up : Bool) (gen : Fin 4) (width : Fin 3) (msix : Bool) (s : State) : Out :=
  .next (s.pcieLink up (gen + 1) (2 ^ width.val) msix)

/-- PCIE_PERST: the PCIe core and its configuration space reset, and nothing else. -/
def State.perst (s : State) : State :=
  let s := { s with host := { s.host with msixOn := false, unmasked := [], vecPend := [] } }
  s.pcieLink false 0 0 false

def execPciePerst (s : State) : Out := .next s.perst

/-- A vector is unmasked, and its pending message goes out; or it is masked again. -/
def State.msixMask (s : State) (v : Nat) (mask : Bool) : State :=
  let h := { s.host with unmasked := Tab.set (fun _ => false) s.host.unmasked v (!mask) }
  if ¬ mask ∧ s.host.msixOn ∧ s.flag R.HOST_STATUS_PCIE_UP ∧ Tab.get (fun _ => false) h.vecPend v then
    { s with host := { h with
      vecPend := Tab.set (fun _ => false) h.vecPend v false
      sent := Tab.set (fun _ => 0) h.sent v (Tab.get (fun _ => 0) h.sent v + 1) } }
  else { s with host := h }

def execMsixUnmask (v : Fin 64) (mask : Bool) (s : State) : Out := .next (s.msixMask v mask)

/-! ### Writes into banks (17 R463, 18 R488) -/

/-- The runs of enabled bytes of a list, as offset from its start and bytes. -/
def byteRuns : Nat → List (Option (BitVec 8)) → List (Nat × List (BitVec 8))
  | _, [] => []
  | i, none :: l => byteRuns (i + 1) l
  | i, some b :: l =>
    match byteRuns (i + 1) l with
    | (j, bs) :: r => if j = i + 1 then (i, b :: bs) :: r else (i, [b]) :: (j, bs) :: r
    | [] => [(i, [b])]

/-- Bytes as a value, lowest first. -/
def bytesVal (l : List (BitVec 8)) : Nat := l.foldr (fun b a => b.toNat + 256 * a) 0

/-- One 8-byte group of a host write by its own address. -/
def State.hostPiece (s : State) (a : Nat) (l : List (Option (BitVec 8))) (same : Bool) : State :=
  match bankOf a with
  | none => s.hostFail 0 (if mapped a then 3 else 4)
  | some b =>
    match s.wordCheck 0 true a with
    | 0 =>
      let (s, off) := (byteRuns 0 l).foldl (fun acc r =>
        let (s, off) := acc.1.hostGroup b (a + r.1) r.2.length (bytesVal r.2) same
        (s, acc.2 || off)) (s, false)
      s.hostFail 0 (offCode off)
    | c => s.hostFail 0 c

/-- A host write cut at the borders of the 8-byte groups; each piece takes the outcome of its own address. -/
def State.hostBurst (s : State) : Nat → Nat → List (Option (BitVec 8)) → Bool → State
  | 0, _, _, _ => s
  | n + 1, a, l, same =>
    if l.isEmpty then s
    else
      let k := 8 - a % 8
      (s.hostPiece a (l.take k) same).hostBurst n (a + k) (l.drop k) same

/-- HOST_BANK_WRITE (17 R463): the bytes of a PCIe write, none for a byte that is not enabled. `same` says that it arrives in the slot of
the last primary write of its bank (12 R344, R345). -/
def execHostBankWrite (addr : BitVec 27) (data : List (Option (BitVec 8))) (same : Bool) (s : State) : Out :=
  .next (if ¬ s.pathServes 0 then s else (s.hostBurst (data.length + 1) addr.toNat data same).settleWake)

/-- IB_WRITE (10 R301): an aligned 32-bit write into IB_n by the host over PCIe (0) or by engine `by_` - 1. -/
def State.ibWrite (s : State) (by_ n off v : Nat) : State :=
  let a := bankBase n + off / 4 * 4
  if by_ = n + 1 then s.ibDrop n
  else
    let (s, err) := s.writeRange n a 4 v (n == 27)
    if by_ = 0 then s.hostFail 0 (offCode err) else s

def execIbWrite (by_ : Fin 9) (n : Fin 8) (off : BitVec 18) (v : BitVec 32) (s : State) : Out :=
  .next (if s.pwrState < 3 ∧ s.pwr.phase = 0 then (s.ibWrite by_ n off.toNat v.toNat).settleWake else s)

end Sys2Proof.Machine
end

