-- ==== Sys2Proof/Machine/Power.lean ====
section
/-! DEFINITION. Machine/Power.lean: the entry into a power state, the save set, the sleep ledger, the wake sources and the
always-on regulator (15 R421 to R436), and the supply of the oven (19 R493). -/
namespace Sys2Proof.Machine

/-! ### The sleep ledger (R433) -/

/-- PWR_LEDGER_AGE. -/
def State.ledgerAge (s : State) : Nat := (((s.tb.elapsed : Nat) : Int) - s.pwr.calAt).toNat / fuPerSec

def State.ledgerPeriod (s : State) : Nat := s.pair R.PWR_LEDGER_PERIOD_LO R.PWR_LEDGER_PERIOD_HI

/-- A calibration window ends with a period in units of 2^-32 ns; CAL_HOLD keeps the register as it is. -/
def State.calibrate (s : State) (period : Nat) : State :=
  let s := if s.flag R.PWR_CFG_CAL_HOLD then s
    else s.setPair R.PWR_LEDGER_PERIOD_LO R.PWR_LEDGER_PERIOD_HI period
  { s.raise R.PWR_STATUS_CAL_VALID with pwr := { s.pwr with calAt := ((s.tb.elapsed : Nat) : Int) } }

/-- LEDGER_CAL_WINDOW (R433): the time base ticks. -/
def execLedgerCalWindow (period : BitVec 64) (s : State) : Out :=
  s.live (if s.tb.running then s.calibrate period.toNat else s)

/-- LEDGER_SRC_DETECT (R433): XTAL32 is taken as fitted. -/
def execLedgerSrcDetect (s : State) : Out :=
  s.live (if s.tb.running then s.clr R.PWR_STATUS_LEDGER_SRC else s)

/-! ### The save set (R434) -/

/-- The DELTA code of an armed leap. -/
def leapCode (d : Int) : Nat := if d = 1 then 1 else if d = -1 then 3 else 0

/-- Bytes 0 to 123 of the save set as one number, byte 0 lowest: the state entered and the alarm's ledger count. -/
def State.saveBits (s : State) (st alarm : Nat) : Nat :=
  let armed := s.flag R.TB_STATUS_LEAP_ARMED
  0x5653414F + 2 ^ 32 * 1 + 2 ^ 48 * st + 2 ^ 56 * s.fld R.SYS_MODE_MODE
    + 2 ^ 64 * encodeHub s.tb.now + 2 ^ 160 * s.ledgerPeriod + 2 ^ 224 * s.fld R.PWR_STATUS_LEDGER_SRC
    + 2 ^ 232 * (s.fld R.TB_STATUS_TIME_UNCERTAIN + 2 * s.fld R.TB_STATUS_LEAP_ARMED)
    + 2 ^ 240 * s.fld R.TB_UTC_OFFSET_OFFSET
    + 2 ^ 256 * ((if armed then s.tb.leapAt else s.leapAtReg) % 2 ^ 48)
    + 2 ^ 304 * (if armed then leapCode s.tb.leapDelta else s.fld R.TB_LEAP_CTL_DELTA)
    + 2 ^ 312 * s.fld R.SEAM_STATUS_PREF + 2 ^ 320 * s.fld R.EPD_DIR_STATUS_COUNT + 2 ^ 352 * s.uncBound
    + 2 ^ 416 * alarm + 2 ^ 448 * (s.fld R.PWR_RESULT_RESULT + 2 ^ 8 * s.fld R.PWR_RESULT_SEQ)

/-- PWR_WAKE_AT as a count of ledger periods from now by the calibration in use (R433); free where the period is 0 or the alarm
is past, and its rounding free (log 31). -/
def State.alarmCount (s : State) : Nat :=
  let at_ := decodeHub (s.triple R.PWR_WAKE_AT_0_AT R.PWR_WAKE_AT_1_AT R.PWR_WAKE_AT_2_AT)
  let p := s.ledgerPeriod
  if p = 0 ∨ at_ < s.tb.now then (Config.freeValue s.freeCtr).toNat
  else
    let n := (at_ - s.tb.now) * 2 ^ 16
    if n % p = 0 then n / p else Config.countRound (mkRat n p)

/-- The save set is written, its CRC-32 behind it. The ledger count of an armed alarm is a free value (R433, log 31). -/
def State.writeSave (s : State) (st : Nat) : State :=
  let armed := s.pwr.alarm && s.flag R.PWR_CFG_ALARM_EN
  let x := s.saveBits st (if armed then s.alarmCount % 2 ^ 32 else 2 ^ 32 - 1)
  let s := s.setBytes aoBase 128 (x + 2 ^ 992 * crc32 (leBytes 124 x))
  { s.clr R.PWR_STATUS_RETAIN_LOST with freeCtr := s.freeCtr + 1 }

/-- A field of the save set. -/
def State.saved (s : State) (off n : Nat) : Nat := s.bytes (aoBase + off) n

/-- The save set is valid. -/
def State.saveValid (s : State) : Bool :=
  s.saved 0 4 == 0x5653414F && s.saved 124 4 == crc32 (leBytes 124 (s.saved 0 124)) && !s.flag R.PWR_STATUS_RETAIN_LOST

/-! ### Entry (R423, R424, R428) -/

/-- The state of the command is entered: ENTERING clears, DONE. -/
def State.entered (s : State) (st : Nat) : State :=
  ((s.setFld R.PWR_STATUS_STATE st).clr R.PWR_STATUS_ENTERING).setFld R.PWR_RESULT_RESULT 2

/-- No engine has an operation in flight (R428 step 2). -/
def State.enginesQuiet (s : State) : Bool := (List.range 8).all (fun n => (s.flights n).isEmpty && (s.lane n).isEmpty)

/-- No operation waits in a lane of the mailbox: those requested complete before a domain is isolated (01 R38). -/
def State.lanesEmpty (s : State) : Bool := (List.range 9).all (fun l => (s.lane l).isEmpty)

/-- PWR_ENTRY_DRAINED (R428 steps 2 and 3). -/
def State.entryDrained (s : State) : State :=
  if ¬ s.entering ∨ ¬ s.enginesQuiet then s
  else
    let s := { s with pwr := { s.pwr with drained := true } }
    if s.pwr.dst = 1 then (s.entered 1).replayWakes else s

def execPwrEntryDrained (s : State) : Out := s.live s.entryDrained

/-- The PLLs of SLEEP that are not OFF. -/
def State.sleepPlls (s : State) : List Nat := [1, 2, 3].filter (fun p => s.pllState p != 0)

/-- The outputs of domains B to D are static low in SLEEP, privileged ones included, also of a domain that PLL A carries (05 R158). -/
def State.darkDomains (s : State) : State :=
  [1, 2, 3].foldl (fun s d =>
    let s := if s.domSrc d = 0 then s.gateDomain d else s
    s.clr (R.OUT_STATUS_BYPASS (6 * d))) s

/-- SLEEP is entered (R423). -/
def State.enterSleep (s : State) : State :=
  let l := s.sleepPlls
  let s := { s.entered 2 with pwr := { s.pwr with plls := l } }
  let s := (List.range 32).foldl (fun s n => if s.flag (R.LNK_CFG_EN n) then s.linkStop n else s) s
  let s := (l.foldl (fun s p => s.pllHalt p) s).darkDomains
  if s.flag R.PWR_CFG_OVEN_SLEEP then s else s.heaterOff

/-- The banks that PWR_RETAIN keeps in a state. -/
def State.retains (s : State) (st : Nat) : Nat := if st = 3 then s.fld R.PWR_RETAIN_BANKS else 0

/-- DEEP SLEEP or OFF is entered: domains off, banks in RET or OFF, low-power mode (R424, R428 steps 7 and 8). -/
def State.goDark (s : State) (st : Nat) : State :=
  let k := s.retains st
  let s := (List.range 29).foldl (fun s b => s.bankPower b (if k.testBit b then 1 else 2)) s
  let s := (List.range 8).foldl (fun s n => s.setEngState n 4) s
  let s := { s.heaterOff with tb := { s.tb with running := false }
                              pwr := { s.pwr with cold := false, retained := k, drained := true } }
  (s.entered st).raise R.PWR_STATUS_REG_LP

/-- Steps 4 to 8 for DEEP SLEEP and OFF: a calibration where none is current, the save set, the NV buffers, the state. -/
def State.enterDeep (s : State) (st cal res vin : Nat) : State :=
  let s := if ¬ s.flag R.PWR_STATUS_CAL_VALID ∨ 60 < s.ledgerAge then s.calibrate cal else s
  let s := (s.setFld R.PWR_RESULT_RESULT 2).writeSave st
  ((s.nvSense res vin).nvFlush).goDark st

/-- PWR_ENTRY_SAVE (R428 steps 4 to 8): an entry past AP_2 goes on to its state; DEEP SLEEP and OFF isolate no domain while an
operation that was requested waits in the mailbox (01 R38). -/
def State.entrySave (s : State) (cal res vin : Nat) : State :=
  if ¬ s.entering ∨ ¬ s.pwr.drained ∨ (3 ≤ s.pwr.dst ∧ ¬ s.lanesEmpty) then s
  else
    match s.pwr.dst with
    | 2 => s.enterSleep.replayWakes
    | 3 => (s.enterDeep 3 cal res vin).replayWakes
    | 4 => (s.enterDeep 4 cal res vin).replayWakes
    | _ => s

def execPwrEntrySave (cal : BitVec 64) (res vin : Nat) (s : State) : Out := s.live (s.entrySave cal.toNat res vin)

/-! ### Wake sources (R430) -/

/-- WAKE_PIN. -/
def execWakePin (s : State) : Out := .next (s.wakeEvent 1)

/-- WAKE_ALARM: hub time has reached PWR_WAKE_AT; in DEEP SLEEP the ledger count. The alarm disarms when it fires. -/
def State.wakeAlarm (s : State) : State :=
  let due := s.pwrState == 3
    || decide (decodeHub (s.triple R.PWR_WAKE_AT_0_AT R.PWR_WAKE_AT_1_AT R.PWR_WAKE_AT_2_AT) ≤ s.tb.now)
  let counts := if s.entering then wakeCounts 2 s.pwr.dst else wakeCounts 2 s.pwrState
  if s.pwr.phase = 0 ∧ s.pwr.alarm ∧ s.flag R.PWR_CFG_ALARM_EN ∧ due ∧ counts then
    ({ s with pwr := { s.pwr with alarm := false } }).wakeEvent 2
  else s

def execWakeAlarm (s : State) : Out := .next s.wakeAlarm

/-- I2C_WAKE: a transaction addressed to the part. -/
def execI2cWake (dev : BitVec 7) (s : State) : Out :=
  .next (if s.flag R.PWR_CFG_I2C_WAKE ∧ s.flag R.HOST_CFG_I2C_EN ∧ s.i2cMine dev then s.wakeEvent 3 else s)

/-! ### The always-on regulator (R436) -/

/-- A brown-out: always-on memory and every retained bank are lost. -/
def State.brownOut (s : State) : State :=
  let s := (s.raise R.PWR_STATUS_RETAIN_LOST).raise R.PWR_EVENTS_BROWNOUT
  let s := s.loseRegion 29
  let s := (List.range 29).foldl (fun s b => if s.fld (R.BNK_STATUS_PWR_NOW b) = 1 then s.loseRegion b else s) s
  if 3 ≤ s.pwrState then { s with pwr := { s.pwr with cold := true, retained := 0 } }
  else s.report 0x01C 2 0x1C

/-- The active limit in units of 0.1 mA. -/
def State.aoLimit (s : State) : Nat := if s.flag R.PWR_STATUS_REG_LP then 200 else 1500

/-- AO_OVERLOAD: a load in units of 0.1 mA has lasted for 50 us. -/
def State.aoOverload (s : State) (ma : Nat) : State :=
  let s := s.setFld R.PWR_AO_MA_MA ma
  if ma ≤ s.aoLimit then s
  else if s.pwrState = 3 ∧ s.flag R.PWR_STATUS_REG_LP then
    (s.clr R.PWR_STATUS_REG_LP).raise R.PWR_EVENTS_REG_OVL
  else s.brownOut

def execAoOverload (ma : BitVec 16) (s : State) : Out := .next (s.aoOverload ma.toNat)

/-! ### The oven's supply (19 R493) -/

def execOvenSupplyLow (s : State) : Out :=
  .next (({ s with pwr := { s.pwr with ovenLow := true } }).heaterOff)

def State.ovenRestored (s : State) : State :=
  let s := { s with pwr := { s.pwr with ovenLow := false } }
  if s.heaterWanted then s.heaterOn else s

def execOvenSupplyRestored (s : State) : Out := .next s.ovenRestored

end Sys2Proof.Machine
end

