-- ==== Sys2Proof/Machine/Recall.lean ====
section
/-! DEFINITION. Machine/Recall.lean: reset, the loss and return of supplies (19 R492 to R495), and RECALL: what it clears and keeps,
the image loader, the restoration of the save set, and the start of the mode (13 R380 to R383, 14 R404 to R411, 15 R432,
R435). -/
namespace Sys2Proof.Machine

/-! ### What is cleared -/

/-- Everything that no store and no always-on memory holds returns to its value on leaving RECALL (13 R383). -/
def State.blank (s : State) : State :=
  { State.reset with
    pending := s.pending
    mem := s.mem
    seam := { Seam.init with ovenOffset := s.seam.ovenOffset }
    outs := { Outs.init with vdd := s.outs.vdd }
    tdc := { TdcArray.init with heater := s.tdc.heater, soakAt := s.tdc.soakAt - ((s.tb.elapsed : Nat) : Int), slow := s.tdc.slow }
    bank := { Banks.init with lost := s.bank.lost, losses := s.bank.losses, ecc := s.bank.ecc }
    stores := { s.stores with bufs := [], otp := none }
    host := { HostIf.init with jtag := s.host.jtag, i2cPins := s.host.i2cPins }
    pwr := s.pwr
    freeCtr := s.freeCtr }

/-- Register fields that take their values from another state. -/
def State.keep (t s : State) (l : List Fld) : State := l.foldl (fun t f => t.setFld f (s.fld f)) t

/-- What stands through every RECALL: first capture and the TI latch (16 R445, R451), RETAIN_LOST (15 R436), SOAK while the heater
runs (06 R184), and the pins and sensors that registers mirror (log 32). -/
def keptFields : List Fld :=
  [R.FLT_FIRST_0_SRC, R.FLT_FIRST_0_CLASS, R.FLT_FIRST_0_CAUSE, R.FLT_FIRST_0_VALID, R.FLT_FIRST_1_TIME, R.FLT_FIRST_2_TIME,
    R.FLT_FIRST_3_TIME, R.PWR_STATUS_RETAIN_LOST, R.TDC_STATUS_SOAK, R.QUAL_STATUS_SOAK_HOLD, R.SYN_DIE_TEMP_TEMP,
    R.SEAM_SUB_TEMP, R.NV_RES_MV, R.NV_VIN_MV, R.PWR_AO_MA_MA, R.OTP_STATUS_OTP_LOW]
  ++ (List.range 16).map R.FLT_SRC_LATCHED
  ++ (List.range 32).flatMap (fun n => [R.LNK_STATUS_MOD_ABS n, R.LNK_STATUS_MOD_LOS n, R.LNK_STATUS_MOD_TX_FAULT n])

/-- What stands through the RECALL of a wake besides (15 R430, R433, R436). -/
def wakeFields : List Fld :=
  [R.PWR_EVENTS_WAKE, R.PWR_EVENTS_ABORTED, R.PWR_EVENTS_REG_OVL, R.PWR_EVENTS_BROWNOUT, R.PWR_EVENTS_HT_REJ, R.PWR_EVENTS_ENG_WR,
    R.PWR_STATUS_LEDGER_SRC, R.PWR_STATUS_CAL_VALID, R.PWR_LEDGER_PERIOD_LO, R.PWR_LEDGER_PERIOD_HI]

/-- What a wake that is no cold start leaves to be read (15 R430, R438). -/
def lastWakeFields : List Fld :=
  [R.PWR_LAST_WAKE_SRC, R.PWR_LAST_WAKE_REPLAYED, R.PWR_LAST_WAKE_ABORT, R.PWR_LAST_WAKE_FROM, R.PWR_LAST_WAKE_ALL]

/-! ### Reset and supplies (19 R492 to R495) -/

/-- An OTP burn that is cut short leaves a subset of its bits (R495, 13 R385). -/
def State.cutBurn (s : State) (k0 k1 : Nat) : State :=
  match s.stores.otp with
  | some x => (s.burnRun x k0 k1).1
  | none => s

/-- The part is held in reset; the RECALL that follows is a cold start (14 R405). In DEEP SLEEP and OFF the save set is lost with
RETAIN_LOST set (R495). -/
def State.hold (s : State) (k0 k1 : Nat) : State :=
  let s := s.cutBurn k0 k1
  let s := if 3 ≤ s.pwrState then s.raise R.PWR_STATUS_RETAIN_LOST else s
  let s := (s.setFld R.PWR_STATUS_STATE 0).clr R.PWR_STATUS_ENTERING
  { s with
    tb := { s.tb with running := false }
    stores := { s.stores with bufs := [], otp := none }
    pwr := { s.pwr with phase := 1, cold := true, retained := 0, latched := [], wakeDue := false } }

/-- RESET_ASSERT (R495); the operands name the bits that a cut burn leaves. -/
def execResetAssert (k0 k1 : BitVec 32) (s : State) : Out :=
  .next (({ s with pwr := { s.pwr with resetLow := true } }).hold k0.toNat k1.toNat)

/-- SUPPLY_FAULT (R493): in RUN, IDLE and SLEEP with RESET_L high it acts as an assertion of RESET_L; a commit whose reserve fails
with it is torn (13 R396). -/
def State.supplyFault (s : State) (k0 k1 : Nat) (tear : Option (Nat × Nat × Nat)) : State :=
  if s.pwr.resetLow ∨ s.pwr.phase = 1 ∨ 3 ≤ s.pwrState then s
  else ({ s.tearCommit tear with pwr := { s.pwr with supplyLow := true } }).hold k0 k1

/-- What a torn commit leaves, as an operand of a loss of supplies: the buffer's place, the groups written, the interrupted group. -/
def tearOf (t : Option (Fin 8 × Fin 8 × Fin 3)) : Option (Nat × Nat × Nat) := t.map (fun x => (x.1.val, x.2.1.val, x.2.2.val))

def execSupplyFault (k0 k1 : BitVec 32) (tear : Option (Fin 8 × Fin 8 × Fin 3)) (s : State) : Out :=
  .next (s.supplyFault k0.toNat k1.toNat (tearOf tear))

/-- VAO_LOSS (R492, R493): all state is lost but the two stores. -/
def State.vaoLoss (s : State) (k0 k1 : Nat) (tear : Option (Nat × Nat × Nat)) : State :=
  let s := ((s.tearCommit tear).cutBurn k0 k1).heaterOff
  let s := (List.range 30).foldl (fun s r => s.loseRegion r) s
  let t := ((s.blank.clr R.TDC_STATUS_SOAK).clr R.QUAL_STATUS_SOAK_HOLD).clr R.TDC_EVENTS_SOAK_SET
  { t with
    tdc := { TdcArray.init with heater := false }
    host := HostIf.init
    pwr := { Power.init with phase := 1, resetLow := s.pwr.resetLow, ovenLow := s.pwr.ovenLow, supplyLow := true } }

def execVaoLoss (k0 k1 : BitVec 32) (tear : Option (Fin 8 × Fin 8 × Fin 3)) (s : State) : Out :=
  .next (s.vaoLoss k0.toNat k1.toNat (tearOf tear))

/-! ### The loader, steps 1 to 5 (13 R380 to R382) -/

/-- The engines stand PARKED, no thread runs, and no role but SELF has a holder yet (10 R300, R302). -/
def State.parkAll (s : State) : State :=
  let s := (List.range 8).foldl (fun s n =>
    (List.range 4).foldl (fun s t => s.setTstate n t 0) (s.setEngState n 0)) s
  (List.range 64).foldl (fun s r => s.setFld (R.ENG_ROLE_HOLDER r) (if r < 8 then r else 0xF)) s

/-- SEALED generations above the adopted one that fail 13 R379. -/
def State.rejectedGens (s : State) : List Nat :=
  (List.range 4).filter (fun g => s.genState g == 2 && !s.imageValid g && (match s.adoptable with
    | some a => decide (a < g)
    | none => true))

/-- A register's fields contradict each other as no write may leave them: a ring side with a role and a BIT above 15 (12 R515), NUM
not below a DEN that is not 0 (02 R44), a RATE with a FEC that 07 R197 does not list, lane limits above the sum of 10 R299. -/
def State.badRegister (s : State) (addr : Nat) : Bool :=
  let o := addr % 0x10000
  match addr / 0x10000 with
  | 0x501 => o == 0x24 && s.fld R.TB_INC_FRAC_DEN != 0 && decide (s.fld R.TB_INC_FRAC_DEN ≤ s.fld R.TB_INC_FRAC_NUM)
  | 0x508 => o % 0x1000 == 0 && !rateOk (s.fld (R.LNK_CFG_RATE (o / 0x1000))) (s.fld (R.LNK_CFG_FEC (o / 0x1000)))
  | 0x509 => o % 0x1000 == 0 && !rateOk (s.fld (R.LNK_CFG_RATE (16 + o / 0x1000))) (s.fld (R.LNK_CFG_FEC (16 + o / 0x1000)))
  | 0x50B =>
    let n := (o - 0x1000) / 0x100
    decide (0x1000 ≤ o) && o % 0x100 == 0x20 && decide (20000 < s.rateSum n (s.fld (R.ENG_MB_RATE_RATE n)))
  | 0x50C =>
    let r := (o - 0x1000) / 0x20
    decide (0x1000 ≤ o) && decide (o < 0x2000)
      && ((decide (s.fld (R.RING_PROD_ROLE r) < 0x3E) && decide (15 < s.fld (R.RING_PROD_BIT r)))
        || (decide (s.fld (R.RING_CONS_ROLE r) < 0x3E) && decide (15 < s.fld (R.RING_CONS_BIT r))))
  | 0x510 => o == 0x08 && decide (20000 < s.rateSum 8 (s.fld R.HOST_MB_RATE_RATE))
  | _ => false

/-- A triple of the image; one that would leave its register as no write may leave it is refused (12 R515, log 73). -/
def State.bootTriple (s : State) (x : Nat × Nat × Nat) : State :=
  let t := s.loadTriple x
  if ¬ t.badRegister x.1 then t
  else if x.1 / 0x10000 = 0x50C then s.rejRing ((x.1 - 0x050C1000) / 0x20)
  else s.rejReg x.1

/-- Each ring that the image leaves with EN = 1 is checked once (12 R515). -/
def State.bootRings (s : State) : State :=
  let bad := (List.range 128).filter (fun r => s.ringOn r && !s.ringFits r)
  bad.foldl (fun s r => (s.clr (R.RING_CFG_EN r)).rejRing r) s

/-- A port that the image leaves with EN = 1 without what EN = 1 needs (07 R198, R205) is left with EN = 0 and CFG_REJ, and so is
a pulse output whose width, rate or period R162 and R164 refuse (log 73). -/
def State.bootPort (s : State) (n : Nat) : State :=
  if s.flag (R.LNK_CFG_EN n) ∧ ¬ s.enableOk n then (s.clr (R.LNK_CFG_EN n)).rejLink n else s

def State.bootPulse (s : State) (k : Nat) : State :=
  if s.flag (R.PPS_CFG_EN k) ∧ ¬ s.ppsCfgOk k (s.ppsMode k) (s.fld (R.PPS_CFG_NPPS k)) (s.fld (R.PPS_WIDTH_WIDTH k)) then
    (s.clr (R.PPS_CFG_EN k)).raise (R.PPS_STATUS_CFG_REJ k)
  else s

/-- The checks of what the image left, after its last triple. -/
def State.bootChecks (s : State) : State :=
  let s := (List.range 32).foldl (fun s n => s.bootPort n) s.bootRings
  (List.range 8).foldl (fun s k => s.bootPulse k) s

/-- The generation is adopted, or none (13 R381). -/
def State.bootAdopt (s : State) : State :=
  let s := s.showGens
  let rej := s.rejectedGens
  let s := s.setFld R.OTP_STATUS_REJECTED ((rej.map (fun g => 2 ^ g)).foldl (· + ·) 0)
  let s := if rej.isEmpty then s else (s.raise R.OTP_EVENTS_REJ_SET).record 0x01B 1 0x1B
  match s.adoptable with
  | some g =>
    let s := (s.setFld R.OTP_STATUS_BOOT_GEN g).setFld R.OTP_STATUS_LIVE_GEN g
    let s := ((s.clr R.OTP_STATUS_BOOT_NONE).clr R.OTP_STATUS_LIVE_NONE).setFld R.OTP_IMAGE_ID (s.genField g 24 4)
    (s.genTriples g).foldl (fun s x => s.bootTriple x) s
  | none => s

/-- The bank was retained through DEEP SLEEP (15 R432). -/
def State.retainedBank (s : State) (b : Nat) : Bool := s.pwr.retained.testBit b

/-- A bank takes the power state of its image field; one that comes ON without its contents is rinsed or darned as 12 R349 and
R356 state, DIR always rinsed after a cold start. -/
def State.bootBank (s : State) (b : Nat) : State :=
  let p := s.fld (R.BNK_CFG_PWR b) % 3
  let s := s.setFld (R.BNK_STATUS_PWR_NOW b) p
  if p = 2 then s.loseRegion b
  else if p = 1 ∨ s.retainedBank b then s
  else if s.flag (R.BNK_CFG_RINSE b) ∨ (b = 28 ∧ s.pwr.cold) then s.setBusy b 1
  else if s.flag (R.BNK_CFG_BOOT_DARN b) then s.setBusy b 3
  else s

/-- PREF takes SEAM_PREF_INIT (04 R100); every lane holds a full BURST (10 R298, 17 R458). -/
def State.bootLive (s : State) : State :=
  let p := s.fld R.SEAM_PREF_INIT_INIT
  let s := s.setFld R.SEAM_STATUS_PREF (if p < 48 then p else 0x3F)
  (List.range 9).foldl (fun s l => s.setCredit l (s.laneBurst l)) s

/-- With a usable factory copy the loader runs; without one the part stays in RECALL (13 R380). -/
def State.bootLoad (s : State) : State :=
  if 2 ≤ s.stores.factory then s.raise R.OTP_STATUS_FACTORY_BAD
  else
    let s := ((s.setFld R.OTP_STATUS_FACTORY_COPY s.stores.factory).bootAdopt).bootChecks
    (List.range 29).foldl (fun s b => s.bootBank b) s.bootLive

/-- The registers at the beginning of RECALL. -/
def State.bootClear (s : State) (cold : Bool) : State :=
  let wake := decide (3 ≤ s.pwrState)
  let t := s.blank.keep s keptFields
  let t := if wake then t.keep s wakeFields else t
  let t := if cold then t.raiseIf wake R.PWR_STATUS_RETAIN_LOST
    else ((t.keep s lastWakeFields).setFld R.PWR_RESULT_RESULT (s.saved 56 1)).setFld R.PWR_RESULT_SEQ (s.saved 57 1)
  let t := (t.setPllState 0 0).setFld (R.SYN_PLL_STATUS_ENTRY 0) 0
  (((t.clr R.TDC_EVENTS_SOAK_SET).setFld R.SYS_MODE_MODE 0).raise R.NV_STATUS_SCAN_BUSY).clr R.NV_EVENTS_SCAN_DONE

/-- RECALL begins (13 R382 steps 1 to 5, 14 R404, 15 R432). -/
def State.recallBegin (s : State) : State :=
  let cold := s.pwr.cold || !s.saveValid
  let t := s.bootClear cold
  let t := { t with pwr := { Power.init with
    phase := 2, cold := cold, retained := if cold then 0 else s.pwr.retained, factory := s.pwr.factory
    ovenLow := s.pwr.ovenLow, supplyLow := s.pwr.supplyLow, resetLow := s.pwr.resetLow
    calAt := if cold then 0 else s.pwr.calAt - ((s.tb.elapsed : Nat) : Int) } }
  let t := if cold then (List.range 29).foldl (fun t b => t.loseRegion b) t else t
  let t := if t.pwr.ovenLow then t else t.heaterOn
  t.parkAll.bootLoad

/-- The reset ends when RESET_L is high and the supplies are valid. -/
def State.leaveHold (s : State) : State :=
  if s.pwr.phase = 1 ∧ ¬ s.pwr.resetLow ∧ ¬ s.pwr.supplyLow then s.recallBegin else s

/-- RESET_RELEASE (13 R382); the operand is ADDR_1 and ADDR_0 at that moment (17 R469). -/
def execResetRelease (pins : Fin 4) (s : State) : Out :=
  .next (if s.pwr.resetLow then
      ({ s with pwr := { s.pwr with resetLow := false }, host := { s.host with i2cPins := pins } }).leaveHold
    else s)

/-- SUPPLY_RESTORED (19 R493, 15 R424). -/
def execSupplyRestored (s : State) : Out := .next ({ s with pwr := { s.pwr with supplyLow := false } }).leaveHold

/-! ### The NV scan of RECALL, and the patch maps (13 R382 step 2, R399, 12 R354) -/

/-- One entry of the PATCHMAP record; whether no patch row was left for it. -/
def State.loadPatch (s : State) (b e : Nat) : State × Bool :=
  let row := e % 4096
  if ¬ e.testBit 15 ∨ (s.patchOf b row).isSome then (s, false)
  else match s.freePatch b with
    | some j => (s.setPatch b j row 1, false)
    | none => (s, true)

/-- The 16 entries of a bank; entries in excess are ignored with a NOTE. -/
def State.loadBankPatches (s : State) (b : Nat) : State :=
  let (s, exceeds) := (List.range 16).foldl (fun acc j =>
    let (s, o) := acc.1.loadPatch b ((s.recPayload 1 (32 * b + 2 * j) 2).getD 0)
    (s, acc.2 || o)) (s, false)
  if exceeds then s.note 0x01A else s

/-- A factory entry of a patch map, ORIGIN 0. -/
def State.loadFactoryPatch (s : State) (p : Nat × Nat) : State :=
  match s.freePatch p.1 with
  | some j => if p.1 < 29 ∧ s.patchOf p.1 p.2 = none then s.setPatch p.1 j p.2 0 else s
  | none => s

/-- The patch maps: the factory entries, then those of the PATCHMAP record (12 R354; where the factory area holds its entries is not
stated, log 62). -/
def State.loadPatchMap (s : State) : State :=
  let s := s.stores.facPatch.foldl (fun s p => s.loadFactoryPatch p) s
  if s.flag (R.NV_REC_PRESENT 1) then (List.range 29).foldl (fun s b => s.loadBankPatches b) s else s

/-- NV_SCAN_DONE (13 R392): the scan ends, with the pages it found torn and the groups with a correctable and an uncorrectable
error; in RECALL the patch maps are loaded then. -/
def State.scanDone (s : State) (torn ce ue : List Nat) : State :=
  let was := s.flag R.NV_STATUS_SCAN_BUSY
  let s := s.nvScan torn ce ue
  if was ∧ s.pwr.phase = 2 ∧ s.stores.factory < 2 then s.loadPatchMap else s

def execNvScanDone (torn ce ue : List Nat) (s : State) : Out := s.awake (s.scanDone torn ce ue)

/-! ### Records and the holdover model (13 R382 steps 8 and 9, 04 R123, 02 R70) -/

/-- The loader may write a bank: it is ON and was not retained (15 R432). -/
def State.mayLoad (s : State) (a : Nat) : Bool :=
  match bankOf a with
  | some b => s.fld (R.BNK_STATUS_PWR_NOW b) == 0 && !s.retainedBank b
  | none => false

def State.loadTargets (s : State) (r : Nat × Nat × Nat × Nat) : State :=
  (s.recTargets r).foldl (fun s t => if s.mayLoad t.1 then s.loadBytes t.1 t.2.1 t.2.2 else s) s

/-- The records of the factory copy in use (13 R373, R378). -/
def State.factoryRecs (s : State) : List (Nat × Nat × Nat × Nat) :=
  let a := otpBase + 0x4000 * s.stores.factory
  let n := s.bytes (a + 20) 4
  (s.imageRecs (n / 8 + 1) (a + 64) (a + 64 + n)).getD []

/-- FILL, DATA and PROG records: the factory copy's first, then the generation's. -/
def State.loadRecords (s : State) : State :=
  let g := if s.flag R.OTP_STATUS_BOOT_NONE then [] else (s.genRecs (s.fld R.OTP_STATUS_BOOT_GEN)).getD []
  let t := (s.factoryRecs ++ g).foldl (fun t r => t.loadTargets r) s
  { s with mem := t.mem, bank := t.bank }

/-- The daily history of a HOLDOVER record, oldest first (04 R122). -/
def State.recordDays (s : State) : List (Int × Nat) :=
  let f (off n : Nat) : Nat := (s.recPayload 0 off n).getD 0
  (List.range (min 30 (f 14 2))).map (fun i => (toSigned 48 (f (64 + 8 * i) 6), f (70 + 8 * i) 2))

/-- What passes in a time at a rate per day, in the units of the rate. -/
def perDay (rate : Int) (te : Nat) : Int :=
  Config.modelRound ((rate : Rat) * ((te : Nat) : Rat) / ((86400 * fuPerSec : Nat) : Rat))

/-- The model of a HOLDOVER record, aged by t_e; 0 on a cold start (04 R123). -/
def State.recordModel (s : State) (te : Nat) : Model :=
  let f (off n : Nat) : Nat := (s.recPayload 0 off n).getD 0
  let a := toSigned 64 (f 24 8)
  let aged : Int := if te = 0 then 0 else perDay a te
  let grown : Int := if te = 0 then 0 else perDay ((f 48 4 : Nat) : Int) te
  { s0 := toSigned 64 (f 16 8) + aged, a := a, c := toSigned 32 (f 32 4), t0 := 0, tt0 := toSigned 32 (f 36 4),
    uf := f 40 8 + grown.toNat + s.fld R.SEAM_HO_RETRACE_RETRACE, ua := f 48 4, ut := f 52 4 }

/-- The HOLDOVER record is loaded into the seam unit (04 R117, R123). -/
def State.loadHoldover (s : State) (te : Nat) : State :=
  if ¬ s.flag (R.NV_REC_PRESENT 0) then s
  else
    let f (off n : Nat) : Nat := (s.recPayload 0 off n).getD 0
    let clock := f 56 4 * fuPerSec + te
    let day := 86400 * fuPerSec
    let days := s.recordDays.map (fun e => (e.1, min 65535 (e.2 + clock / day)))
    let s := { s with seam := { s.seam with
      model := some (s.recordModel te), days := days, day := -((clock % day : Nat) : Int) } }
    let s := (s.setFld R.SEAM_STATUS_LEARNED (f 12 1)).setFld R.SEAM_HO_LEARN_DAYS days.length
    s.showModel

/-- The integrator on leaving RECALL (02 R70). -/
def State.bootServo (s : State) : State :=
  let v := match s.seam.model with
    | some m => m.s0
    | none => -s.seam.ovenOffset
  let s := s.setInteg v
  ({ s with tsv := { s.tsv with y := s.integ } }).showSteer

/-! ### The save set restored (15 R435) -/

/-- c periods in fu: c in units of 2^-32 period, the period in units of 2^-32 ns. A part of a fu is a free value (log 31). -/
def State.ledgerTime (s : State) (c : Nat) : Nat :=
  let x := c * s.saved 20 8
  if x % 2 ^ 48 = 0 then x / 2 ^ 48 else Config.nsRound ((x : Rat) / ((2 ^ 48 : Nat) : Rat))

/-- The growth of the bound: 20 ppm for XTAL32, 500 ppm for RC. A part of a fu is a free value (log 31). -/
def State.ledgerGrowth (s : State) (te : Nat) : Nat :=
  let x := te * (if s.saved 28 1 = 0 then 20 else 500)
  if x % 1000000 = 0 then x / 1000000 else Config.nsRound ((x : Rat) / 1000000)

/-- Items 1 to 3 of R435; hub time takes its value in the first tick. -/
def State.restoreSave (s : State) (te : Nat) : State :=
  let armed := (s.saved 29 1).testBit 1
  let s := { s with tb := { s.tb with restore := some (decodeHub (s.saved 8 12) + te) } }
  let b := s.saved 44 8
  let s := s.raise R.TB_STATUS_TIME_UNCERTAIN
  let s := s.setUncBound (if s.tiFenced ∨ b = uncUnknown then uncUnknown else min (uncUnknown - 1) (b + s.ledgerGrowth te))
  let s := (s.setFld R.TB_UTC_OFFSET_OFFSET (s.saved 30 2)).setFld R.SEAM_STATUS_PREF (s.saved 39 1)
  let s := (s.setFld R.TB_LEAP_AT_LO_AT_LO (s.saved 32 4)).setFld R.TB_LEAP_AT_HI_AT_HI (s.saved 36 2)
  let s := s.setFld R.TB_LEAP_CTL_DELTA (s.saved 38 1)
  if armed then
    { s.raise R.TB_STATUS_LEAP_ARMED with
      tb := { s.tb with leapAt := s.saved 32 6, leapDelta := leapDeltaOf (s.saved 38 1) } }
  else s

/-! ### The end of RECALL (14 R406, R407, 10 R302) -/

/-- The mode of R406. -/
def State.bootMode (s : State) : Nat :=
  let m := s.saved 7 1
  let b := s.fld R.SYS_MODE_BOOT
  if s.pwr.factory then 5
  else if ¬ s.pwr.cold ∧ 1 ≤ m ∧ m ≤ 4 then m
  else if 1 ≤ b ∧ b ≤ 4 then b else 2

/-- The TI group fence is applied again when its latch is set (16 R451). -/
def State.refence (s : State) : State :=
  (List.range 16).foldl (fun s k => if s.flag (R.FLT_SRC_LATCHED k) then s.fenceTi k else s) s

/-- An engine with BOOT_RUN enters RUNNING (10 R302). -/
def State.bootEngine (s : State) (n : Nat) : State :=
  if s.flag (R.ENG_CFG_BOOT_RUN n) then
    (List.range 4).foldl (fun s t => s.startThread n t) ((s.setEngState n 1).beat n)
  else s

/-- A role goes to the first engine of its plan that is RUNNING; its epoch stays 1 (10 R285), no move is made, and the events of its rings
whose condition holds are raised there (12 R364; log 63). -/
def State.bootRole (s : State) (r : Nat) : State :=
  if s.flag (R.ENG_ROLE_DEFINED r) then
    match s.planTarget r with
    | some n => ((s.setFld (R.ENG_ROLE_HOLDER r) n).epsStart r).ringArrive r
    | none => s
  else s

/-- Engines and roles, after the entry effects of the mode (14 R406). -/
def State.bootEngines (s : State) : State :=
  let s := (List.range 8).foldl (fun s n => s.bootEngine n) s
  (List.range 56).foldl (fun s k => s.bootRole (8 + k)) s

/-- PLLs with BOOT start as if START had been written (05 R144), and ports with EN = 1 train (07 R200). -/
def State.bootPorts (s : State) : State :=
  let s := (List.range 32).foldl (fun s n => s.wakeLink n) s
  (List.range 4).foldl (fun s p => if s.flag (R.SYN_PLL_CFG_BOOT p) then s.startPll p else s) s

/-- The mode is entered (14 R404, R406; SEAM_CTL.FREE by 04 R137). -/
def State.bootEnter (s : State) (m : Nat) : State :=
  let s := s.setFld R.SYS_MODE_MODE m
  let s := { s with pwr := { s.pwr with phase := 0, factory := false } }
  (s.modeWrites m).foldl (fun s w => s.entryWrite w) s

/-- RECALL can end: the scan and every rinse and boot darn have completed, and a factory copy is usable. -/
def State.recallReady (s : State) : Bool :=
  s.pwr.phase == 2 && !s.flag R.NV_STATUS_SCAN_BUSY && !s.flag R.OTP_STATUS_FACTORY_BAD
    && (List.range 29).all (fun b => s.busyKind b == 0)

/-- Steps 8 and 9 of the loader and, after a wake, the restoration of the save set. -/
def State.recallLoad (s : State) (te : Nat) : State :=
  let s := (s.loadRecords.loadHoldover te).bootServo
  let s := if s.pwr.cold ∨ ¬ s.retainedBank 28 then s else s.setFld R.EPD_DIR_STATUS_COUNT (s.saved 40 4)
  if s.pwr.cold then s else ({ s with pwr := { s.pwr with calAt := s.pwr.calAt - ((te : Nat) : Int) } }).restoreSave te

/-- The class of a supply of an I/O bank in mV: 0 unpowered, 1 for 1.8 V, 2 for 3.3 V (05 R157). -/
def vddClass (mv : Nat) : Nat := if 2500 ≤ mv then 2 else if 1500 ≤ mv then 1 else 0

/-- A standard that the image gave an output and that the sensed supply refuses: the factory value stands (05 R157, log 73). -/
def State.bootOutStd (s : State) (i : Nat) : State :=
  let f := R.OUT_CFG_STD i
  let s := if s.lvcmosOk (3 + i / 6) (s.fld f) ∨ s.fld f = resetField f.key then s
    else (s.setFld f (resetField f.key)).raise (R.OUT_STATUS_STD_REJ i)
  s.checkOutput (i / 6) i

/-- The same of a pulse output. -/
def State.bootPpsStd (s : State) (k : Nat) : State :=
  let f := R.PPS_CFG_STD k
  if s.fld f = 2 ∨ s.bankVdd 1 = s.fld f + 1 ∨ s.fld f = resetField f.key then s
  else (s.setFld f (resetField f.key)).raise (R.PPS_STATUS_CFG_REJ k)

/-- The supplies of the I/O banks are sensed (05 R157). -/
def State.senseBanks (s : State) (mv : List Nat) : State :=
  let vt : Tab Nat := (List.range mv.length).foldl (fun t k => Tab.set vddDefault t k (vddClass (mv.getD k 0))) []
  let s := { s with outs := { s.outs with vdd := vt } }
  let s := (List.range 24).foldl (fun s i => s.bootOutStd i) s
  (List.range 8).foldl (fun s k => s.bootPpsStd k) s

/-- RECALL_END: the sensed supply of each I/O bank in mV (05 R157), and the ledger count c from the saving edge to the first tick of the
time base, in units of 2^-32 period (15 R435). -/
def State.recallEnd (s : State) (mv : List Nat) (c : Nat) : State :=
  if ¬ s.recallReady then s
  else
    let te := if s.pwr.cold then 0 else s.ledgerTime c
    let s := (s.senseBanks mv).refence.recallLoad te
    ((s.bootEnter s.bootMode).bootPorts).bootEngines

def execRecallEnd (mv : List Nat) (c : Nat) (s : State) : Out := .next (s.recallEnd mv c)

end Sys2Proof.Machine
end

