-- ==== Sys2Proof/Machine/Serial.lean ====
section
/-! DEFINITION. Machine/Serial.lean: the SPI and I2C paths (17 R464 to R469). -/
namespace Sys2Proof.Machine

/-! ### Native frames (17 R466, R469) -/

def State.frame (s : State) (path : Nat) : Option Frame := Tab.get (fun _ => none) s.host.frames path
def State.setFrame (s : State) (path : Nat) (f : Frame) : State :=
  { s with host := { s.host with frames := Tab.set (fun _ => none) s.host.frames path (some f) } }

def State.nextFrame (s : State) (path : Nat) : Nat := ((s.frame path).map (fun f => f.no + 1)).getD 0

/-- The address of word i of a frame. -/
def wordAddr (addr i : Nat) : Nat := (addr + 4 * i) % 2 ^ 32

/-- FORMAT (17 R464): the frame executes no word; no word failed. -/
def State.frameFormat (s : State) (path : Nat) (write : Bool) (addr count : Nat) : State :=
  (s.setFrame path { no := s.nextFrame path, write := write, addr := addr, count := count, data := [], fail := some (0xFF, 3),
                     left := 0 }).hostFail path 3

/-- A READ frame. -/
def State.frameRead (s : State) (path addr count : Nat) : State :=
  if count = 0 ∨ addr % 4 ≠ 0 then s.frameFormat path false addr count
  else
    let f : Frame := { no := s.nextFrame path, write := false, addr := addr, count := count, data := [], fail := none, left := count }
    (List.range count).foldl (fun s i => s.issueRead path (wordAddr addr i) (f.tag i)) (s.setFrame path f)

/-- A WRITE frame with the complete words received. -/
def State.frameWrite (s : State) (path addr count : Nat) (words : List (BitVec 32)) : State :=
  if count = 0 ∨ addr % 4 ≠ 0 then s.frameFormat path true addr count
  else
    let words := words.take count
    let f : Frame := { no := s.nextFrame path, write := true, addr := addr, count := count, data := [], fail := none,
                       left := words.length }
    words.zipIdx.foldl (fun s w => s.issueWrite path (wordAddr addr w.2) (f.tag w.2) w.1.toNat) (s.setFrame path f)

/-- STATUS and FAIL_IDX of a frame, STATUS in the lower byte. -/
def Frame.trailer (f : Frame) : Nat :=
  match f.fail with
  | some (i, c) => c + 256 * i
  | none => 256 * 0xFF

/-- The trailer of the last frame is returned; the spec states none before a first frame (log 12). -/
def State.frameStatus (s : State) (path : Nat) : State :=
  match s.frame path with
  | some f => { s with host := { s.host with rdata := Tab.set (fun _ => 0) s.host.rdata path f.trailer } }
  | none =>
    { s with host := { s.host with rdata := Tab.set (fun _ => 0) s.host.rdata path (Config.freeValue s.freeCtr).toNat },
             freeCtr := s.freeCtr + 1 }

/-- The end of a frame before its words have all been sent: the words of a READ that have not been read are abandoned; those of a WRITE
finish. -/
def State.frameEnd (s : State) (path : Nat) : State :=
  match s.frame path with
  | some f =>
    if f.write then s
    else
      let l := (s.lane 8).filter (fun o => match o with
        | .read p _ i => !(p == path && i / 256 == f.no)
        | _ => true)
      (s.setLane 8 l).setFrame path { f with left := 0 }
  | none => s

/-- The SPI path serves native frames; the compatibility set. -/
def State.spiNative (s : State) : Bool := s.pathServes 1 && !s.compatSet
def State.spiCompat (s : State) : Bool := s.pathServes 1 && s.compatSet

/-- SPI_READ (R466): a frame of a header alone, by its op: READ, a WRITE that ends before its first word, STATUS, or an unknown opcode,
which is FORMAT (R464). -/
def execSpiRead (op : BitVec 8) (addr : BitVec 32) (count : Fin 256) (s : State) : Out :=
  .next (if ¬ s.spiNative then s
    else if op = 0x03 then s.frameRead 1 addr.toNat count
    else if op = 0x02 then s.frameWrite 1 addr.toNat count []
    else if op = 0x05 then s.frameStatus 1
    else s.frameFormat 1 false addr.toNat count)

/-- SPI_WRITE (R466). -/
def execSpiWrite (addr : BitVec 32) (count : Fin 256) (words : List (BitVec 32)) (s : State) : Out :=
  .next (if s.spiNative then s.frameWrite 1 addr.toNat count words else s)

/-- SPI_STATUS (R466). -/
def execSpiStatus (s : State) : Out := .next (if s.spiNative then s.frameStatus 1 else s)

/-- SPI_CS_RISE (R466). -/
def execSpiCsRise (s : State) : Out := .next (if s.spiNative then s.frameEnd 1 else s)

/-- The part acknowledges an I2C transfer: the path serves, and the transfer names the part's address (R469). -/
def State.i2cServes (s : State) (dev : BitVec 7) : Bool := s.pathServes 2 && s.i2cMine dev

/-- I2C_WRITE_FRAME (R469): a write transfer; the header of a READ, or of a STATUS, alone executes nothing. -/
def execI2cWriteFrame (dev : BitVec 7) (op : BitVec 8) (addr : BitVec 32) (count : Fin 256) (words : List (BitVec 32)) (s : State) : Out :=
  .next (if ¬ s.i2cServes dev then s
    else if op = 0x02 then s.frameWrite 2 addr.toNat count words
    else if op = 0x03 ∨ op = 0x05 then s
    else s.frameFormat 2 true addr.toNat count)

/-- I2C_READ_FRAME (R469): a READ header, a repeated START and the read of its words. -/
def execI2cReadFrame (dev : BitVec 7) (addr : BitVec 32) (count : Fin 256) (s : State) : Out :=
  .next (if s.i2cServes dev then s.frameRead 2 addr.toNat count else s)

/-- Every word of the path's frame has completed. -/
def State.frameQuiet (s : State) (path : Nat) : Bool := ((s.frame path).map (fun f => f.left == 0)).getD true

/-- I2C_STATUS_READ (R469): SCL is stretched until every word of the frame has completed. -/
def execI2cStatusRead (dev : BitVec 7) (s : State) : Out :=
  .next (if s.i2cServes dev ∧ s.frameQuiet 2 then s.frameStatus 2 else s)

/-- I2C_STOP (R469). -/
def execI2cStop (s : State) : Out := .next (if s.pathServes 2 then s.frameEnd 2 else s)

/-! ### The compatibility set (17 R467, R468) -/

/-- The register, the half and whether it is a command row, of a forerunner index. -/
def compatReg (i : Nat) : Option (Nat × Nat × Bool) :=
  if i < 2 then some (0x05000000, i, false)
  else if i = 2 then some (0x05000004, 0, false)
  else if 0x10 ≤ i ∧ i ≤ 0x15 then some (0x05010010 + 4 * ((i - 0x10) / 2), i % 2, false)
  else if i = 0x20 then some (R.TB_UTC_OFFSET_OFFSET.addr, 0, false)
  else if i = 0x30 then some (0x0503000C, 0, false)
  else if i = 0x31 ∨ i = 0x32 then some (0x05030004, i - 0x31, false)
  else if 0x40 ≤ i ∧ i < 0x44 then some (0x05040108 + 0x40 * (i - 0x40), 0, false)
  else if 0x100 ≤ i ∧ i < 0x118 then some (0x05050100 + 0x20 * (i - 0x100), 0, false)
  else if 0x120 ≤ i ∧ i < 0x138 then some (0x05050108 + 0x20 * (i - 0x120), 0, false)
  else if i = 0x200 then some (0x050E0000, 0, false)
  else if i = 0x201 then some (0x050E0030, 0, true)
  else none

/-- The registers that a compatibility frame has read so far: address, word, status. -/
abbrev CompatCache := List (Nat × Nat × Nat)

/-- A read of the frame through the host lane (01 R22, R26), with the operations that are admitted before it: its value and status, LATE
where it is not admitted. -/
def State.compatLane (s : State) (a : Nat) : State × Nat × Nat :=
  let o : LaneOp := .read 1 a 0
  let s := { s with host := { s.host with compatStatus := 0 } }
  let s := s.laneAdd 8 o
  let t := State.admitUntil 8 o s.mailWaiting s
  if (t.lane 8).contains o then ((t.setLane 8 ((t.lane 8).erase o)).hostFail 1 8, 0, 8)
  else (t, Tab.get (fun _ => 0) t.host.rdata 1, t.host.compatStatus)

/-- A register is read at the first index that needs it, one of the six blocks through the host lane. -/
def State.compatFetch (s : State) (c : CompatCache) (a : Nat) : State × CompatCache × Nat × Nat :=
  match c.find? (fun e => e.1 == a) with
  | some (_, v, st) => (s, c, v, st)
  | none =>
    if isMailbox a then
      let (s, v, st) := s.compatLane a
      (s, (a, v, st) :: c, v, st)
    else
      let (s, v, st) := s.hostRead 1 a
      (s.hostFail 1 st, (a, v, st) :: c, v, st)

/-- One 16-bit value of a read frame: its value and its status. `late` says that it was not ready in time. -/
def State.compatValue (s : State) (c : CompatCache) (i : Nat) (late : Bool) : State × CompatCache × Nat × Nat :=
  match compatReg (i % 2 ^ 15) with
  | none => (s.hostFail 1 6, c, 0, 6)
  | some (a, h, _) =>
    if late ∨ s.pathWaits 1 then (s.hostFail 1 8, c, 0, 8)
    else
      let (s, c, v, st) := s.compatFetch c a
      (s, c, v / 2 ^ (16 * h) % 2 ^ 16, st)

/-- The values of a read frame, and the status of the first that failed. -/
def State.compatValues (s : State) (c : CompatCache) (i : Nat) (late : List Nat) : Nat → Nat → State × List Nat × Nat
  | 0, _ => (s, [], 0)
  | n + 1, k =>
    let (s, c, v, st) := s.compatValue c (i + k) (late.contains k)
    let (s, l, st') := s.compatValues c i late n (k + 1)
    (s, v :: l, if st = 0 then st' else st)

/-- SPI_COMPAT_READ (R467, R468): `count` values from an index; `late` lists those that were not ready in time. -/
def State.compatRead (s : State) (i count : Nat) (late : List Nat) : State :=
  let (s, l, st) := s.compatValues [] i late count 0
  { s with host := { s.host with compat := l, compatStatus := st } }

def execSpiCompatRead (index : BitVec 15) (count : Nat) (late : List Nat) (s : State) : Out :=
  .next (if s.spiCompat then (s.compatRead index.toNat count late).settleWake else s)

/-- What the RW fields of the other half of a register hold (R468). -/
def State.otherHalf (s : State) (a h : Nat) : Nat :=
  ((fieldsAt a).filter (fun f => f.acc == .rw && f.lo / 16 != h)).foldl (fun x f => x + s.fld ⟨a, f.lo, f.width⟩ * 2 ^ f.lo) 0

/-- A 16-bit value of a write frame (R468). -/
def State.compatWrite1 (s : State) (i v : Nat) : State :=
  match compatReg (i % 2 ^ 15) with
  | none => s.hostDone 1 0 6 none
  | some (a, _, true) => s.issueWrite 1 a 0 (v % 512 + 2 ^ 31)
  | some (a, h, false) => s.issueWrite 1 a 0 (v * 2 ^ (16 * h) + s.otherHalf a h)

/-- SPI_COMPAT_WRITE (R467, R468); `ragged` says that the frame ended inside a 16-bit value: FORMAT. -/
def State.compatWrite (s : State) (i : Nat) (vals : List (BitVec 16)) (ragged : Bool) : State :=
  let s := { s with host := { s.host with compat := [], compatStatus := 0 } }
  if ragged then s.hostDone 1 0 3 none
  else vals.zipIdx.foldl (fun s v => s.compatWrite1 (i + v.2) v.1.toNat) s

def execSpiCompatWrite (index : BitVec 15) (vals : List (BitVec 16)) (ragged : Bool) (s : State) : Out :=
  .next (if s.spiCompat then s.compatWrite index.toNat vals ragged else s)

end Sys2Proof.Machine
end

