-- ==== Sys2Proof/Machine/Dispatch.lean ====
section
/-! DEFINITION. Machine/Dispatch.lean: one arm per command. -/
namespace Sys2Proof.Machine

def exec (i : Instr) (s : State) : Host.Outcome State Fault Refusal :=
  match i with
  | .registerWrite path addr v whole => Sys2Proof.Machine.execRegisterWrite path addr v whole s
  | .registerReadClear path addr whole => Sys2Proof.Machine.execRegisterReadClear path addr whole s
  | .mailboxAdmit => Sys2Proof.Machine.execMailboxAdmit s
  | .mbCreditRefill l => Sys2Proof.Machine.execMbCreditRefill l s
  | .tbTick n => Sys2Proof.Machine.execTbTick n s
  | .tbNow0Read path => Sys2Proof.Machine.execTbNow0Read path s
  | .tbIncWrite reg v => Sys2Proof.Machine.execTbIncWrite reg v s
  | .leapArm delta => Sys2Proof.Machine.execLeapArm delta s
  | .leapCancel => Sys2Proof.Machine.execLeapCancel s
  | .declareKnown => Sys2Proof.Machine.execDeclareKnown s
  | .uncBoundGrow => Sys2Proof.Machine.execUncBoundGrow s
  | .tbStartTimeout => Sys2Proof.Machine.execTbStartTimeout s
  | .tsvStageAdvance => Sys2Proof.Machine.execTsvStageAdvance s
  | .tsvRestart => Sys2Proof.Machine.execTsvRestart s
  | .tsvLastStageWrite n => Sys2Proof.Machine.execTsvLastStageWrite n s
  | .tsvStageWrite n v => Sys2Proof.Machine.execTsvStageWrite n v s
  | .tsvSrcWrite v => Sys2Proof.Machine.execTsvSrcWrite v s
  | .qualPhaseSample n v gap => Sys2Proof.Machine.execQualPhaseSample n v gap s
  | .irigFrame n w => Sys2Proof.Machine.execIrigFrame n w s
  | .lossOfSignal n => Sys2Proof.Machine.execLossOfSignal n s
  | .activityRestored n => Sys2Proof.Machine.execActivityRestored n s
  | .driftWatchEval => Sys2Proof.Machine.execDriftWatchEval s
  | .candQualify n => Sys2Proof.Machine.execCandQualify n s
  | .driftHoldExpire n => Sys2Proof.Machine.execDriftHoldExpire n s
  | .disqMinExpire n => Sys2Proof.Machine.execDisqMinExpire n s
  | .reobserve n => Sys2Proof.Machine.execReobserve n s
  | .qualCandEnWrite n en => Sys2Proof.Machine.execQualCandEnWrite n en s
  | .qualSteppedClear n => Sys2Proof.Machine.execQualSteppedClear n s
  | .qualDriftWinWrite v => Sys2Proof.Machine.execQualDriftWinWrite v s
  | .select m => Sys2Proof.Machine.execSelect m s
  | .clearPref => Sys2Proof.Machine.execClearPref s
  | .selPendingSeam => Sys2Proof.Machine.execSelPendingSeam s
  | .autoSelect => Sys2Proof.Machine.execAutoSelect s
  | .revertTimerExpire => Sys2Proof.Machine.execRevertTimerExpire s
  | .seamComplete => Sys2Proof.Machine.execSeamComplete s
  | .tsLock => Sys2Proof.Machine.execTsLock s
  | .tsUnlock => Sys2Proof.Machine.execTsUnlock s
  | .feedLossExpire => Sys2Proof.Machine.execFeedLossExpire s
  | .uncertaintyPublish temp => Sys2Proof.Machine.execUncertaintyPublish temp s
  | .seamFreeWrite v => Sys2Proof.Machine.execSeamFreeWrite v s
  | .learnSample temp => Sys2Proof.Machine.execLearnSample temp s
  | .hoModelRecompute => Sys2Proof.Machine.execHoModelRecompute s
  | .dayClose => Sys2Proof.Machine.execDayClose s
  | .tempMean60s => Sys2Proof.Machine.execTempMean60s s
  | .hoModelEval temp => Sys2Proof.Machine.execHoModelEval temp s
  | .snapshot => Sys2Proof.Machine.execSnapshot s
  | .pressCmdAlign align mask => Sys2Proof.Machine.execPressCmdAlign align mask s
  | .pressCmdStep align mask target => Sys2Proof.Machine.execPressCmdStep align mask target s
  | .pressCmdSlew align mask target => Sys2Proof.Machine.execPressCmdSlew align mask target s
  | .pressCmdAbort => Sys2Proof.Machine.execPressCmdAbort s
  | .pressStepApply => Sys2Proof.Machine.execPressStepApply s
  | .acquisitionStep => Sys2Proof.Machine.execAcquisitionStep s
  | .pressAlignApply => Sys2Proof.Machine.execPressAlignApply s
  | .slewStart => Sys2Proof.Machine.execSlewStart s
  | .slewEnd => Sys2Proof.Machine.execSlewEnd s
  | .pllPlanWrite p v => Sys2Proof.Machine.execPllPlanWrite p v s
  | .pllStart p => Sys2Proof.Machine.execPllStart p s
  | .pllStop p => Sys2Proof.Machine.execPllStop p s
  | .handover p => Sys2Proof.Machine.execHandover p s
  | .handback p => Sys2Proof.Machine.execHandback p s
  | .rotClr p => Sys2Proof.Machine.execRotClr p s
  | .ldWindowEnd p count => Sys2Proof.Machine.execLdWindowEnd p count s
  | .bandStale p t => Sys2Proof.Machine.execBandStale p t s
  | .synDomainWrite p v => Sys2Proof.Machine.execSynDomainWrite p v s
  | .synRampGo p => Sys2Proof.Machine.execSynRampGo p s
  | .synRampAbort p => Sys2Proof.Machine.execSynRampAbort p s
  | .rampStartAt p => Sys2Proof.Machine.execRampStartAt p s
  | .rampUpdate p => Sys2Proof.Machine.execRampUpdate p s
  | .outCfgWrite ix v => Sys2Proof.Machine.execOutCfgWrite ix v s
  | .outDivWrite ix v => Sys2Proof.Machine.execOutDivWrite ix v s
  | .outTrimWrite ix v => Sys2Proof.Machine.execOutTrimWrite ix v s
  | .trimWalkStep ix => Sys2Proof.Machine.execTrimWalkStep ix s
  | .syncGo => Sys2Proof.Machine.execSyncGo s
  | .syncInEdge => Sys2Proof.Machine.execSyncInEdge s
  | .syncHoldStart => Sys2Proof.Machine.execSyncHoldStart s
  | .syncInstant at_ => Sys2Proof.Machine.execSyncInstant at_ s
  | .ppsEdge k => Sys2Proof.Machine.execPpsEdge k s
  | .ppsCfgWrite k reg v => Sys2Proof.Machine.execPpsCfgWrite k reg v s
  | .frArm k => Sys2Proof.Machine.execFrArm k s
  | .frStop k => Sys2Proof.Machine.execFrStop k s
  | .htRegCommit r v => Sys2Proof.Machine.execHtRegCommit r v s
  | .tdcEdge c falling num den => Sys2Proof.Machine.execTdcEdge c falling num den s
  | .tdcRingWrite => Sys2Proof.Machine.execTdcRingWrite s
  | .tdcChEnWrite c en ringEn => Sys2Proof.Machine.execTdcChEnWrite c en ringEn s
  | .tdcChDecWrite c d => Sys2Proof.Machine.execTdcChDecWrite c d s
  | .soakSet temp mw => Sys2Proof.Machine.execSoakSet temp mw s
  | .soakClear temp mw settle => Sys2Proof.Machine.execSoakClear temp mw settle s
  | .ovenSlow temp mw => Sys2Proof.Machine.execOvenSlow temp mw s
  | .tdcCalGo c => Sys2Proof.Machine.execTdcCalGo c s
  | .tdcOverlapEnd c common diff => Sys2Proof.Machine.execTdcOverlapEnd c common diff s
  | .tdcCoreCalDone c residual => Sys2Proof.Machine.execTdcCoreCalDone c residual s
  | .tdcCalDue c => Sys2Proof.Machine.execTdcCalDue c s
  | .tdcAutoCalStart => Sys2Proof.Machine.execTdcAutoCalStart s
  | .linkEnable n v => Sys2Proof.Machine.execLinkEnable n v s
  | .linkDisable n v => Sys2Proof.Machine.execLinkDisable n v s
  | .cdrLock n phase => Sys2Proof.Machine.execCdrLock n phase s
  | .blockLock n an => Sys2Proof.Machine.execBlockLock n an s
  | .cdrLoss n => Sys2Proof.Machine.execCdrLoss n s
  | .blockLockLoss n => Sys2Proof.Machine.execBlockLockLoss n s
  | .moduleLos n on => Sys2Proof.Machine.execModuleLos n on s
  | .moduleTxFault n on => Sys2Proof.Machine.execModuleTxFault n on s
  | .linkRxFrame n f good num den excess => Sys2Proof.Machine.execLinkRxFrame n f good num den excess s
  | .qlTimeout n => Sys2Proof.Machine.execQlTimeout n s
  | .esmcTxInfo n => Sys2Proof.Machine.execEsmcTxInfo n s
  | .calendarFetch n => Sys2Proof.Machine.execCalendarFetch n s
  | .launchFrame n num den dur pred => Sys2Proof.Machine.execLaunchFrame n num den dur pred s
  | .linkPhaseSample n phase rt => Sys2Proof.Machine.execLinkPhaseSample n phase rt s
  | .pcArm n => Sys2Proof.Machine.execPcArm n s
  | .pcStop n => Sys2Proof.Machine.execPcStop n s
  | .pcUpdate n => Sys2Proof.Machine.execPcUpdate n s
  | .lnkTrimWrite n v => Sys2Proof.Machine.execLnkTrimWrite n v s
  | .linkReadmit n => Sys2Proof.Machine.execLinkReadmit n s
  | .epdLookup by_ slot => Sys2Proof.Machine.execEpdLookup by_ slot s
  | .epdInsert by_ slot => Sys2Proof.Machine.execEpdInsert by_ slot s
  | .epdRemove by_ slot => Sys2Proof.Machine.execEpdRemove by_ slot s
  | .dirWindowWrite addr => Sys2Proof.Machine.execDirWindowWrite addr s
  | .epdDirSaltWrite v => Sys2Proof.Machine.execEpdDirSaltWrite v s
  | .epIntervalEnd ix buf => Sys2Proof.Machine.execEpIntervalEnd ix buf s
  | .epFrame n moved full t1 t2 t3 t4 temp => Sys2Proof.Machine.execEpFrame n moved full t1 t2 t3 t4 temp s
  | .provision g => Sys2Proof.Machine.execProvision g s
  | .spare g => Sys2Proof.Machine.execSpare g s
  | .epReadmit g => Sys2Proof.Machine.execEpReadmit g s
  | .restore g => Sys2Proof.Machine.execRestore g s
  | .retire g => Sys2Proof.Machine.execRetire g s
  | .free g => Sys2Proof.Machine.execFree g s
  | .setcal g => Sys2Proof.Machine.execSetcal g s
  | .nop g => Sys2Proof.Machine.execNop g s
  | .readRecord g => Sys2Proof.Machine.execReadRecord g s
  | .badOp g => Sys2Proof.Machine.execBadOp g s
  | .opComplete e place => Sys2Proof.Machine.execOpComplete e place s
  | .threadTimer n t => Sys2Proof.Machine.execThreadTimer n t s
  | .heartbeatExpire n => Sys2Proof.Machine.execHeartbeatExpire n s
  | .roleCmd r dst => Sys2Proof.Machine.execRoleCmd r dst s
  | .epochAdvanceDeferred r => Sys2Proof.Machine.execEpochAdvanceDeferred r s
  | .engRun n => Sys2Proof.Machine.execEngRun n s
  | .engPark n move => Sys2Proof.Machine.execEngPark n move s
  | .engDrainDone n => Sys2Proof.Machine.execEngDrainDone n s
  | .engMbRateWrite n v => Sys2Proof.Machine.execEngMbRateWrite n v s
  | .ibWrite by_ n off v => Sys2Proof.Machine.execIbWrite by_ n off v s
  | .undefinedInstruction e t => Sys2Proof.Machine.execUndefinedInstruction e t s
  | .add e t rd ra rb => Sys2Proof.Machine.execAdd e t rd ra rb s
  | .sub e t rd ra rb => Sys2Proof.Machine.execSub e t rd ra rb s
  | .and e t rd ra rb => Sys2Proof.Machine.execAnd e t rd ra rb s
  | .or e t rd ra rb => Sys2Proof.Machine.execOr e t rd ra rb s
  | .xor e t rd ra rb => Sys2Proof.Machine.execXor e t rd ra rb s
  | .shl e t rd ra rb => Sys2Proof.Machine.execShl e t rd ra rb s
  | .shr e t rd ra rb => Sys2Proof.Machine.execShr e t rd ra rb s
  | .sra e t rd ra rb => Sys2Proof.Machine.execSra e t rd ra rb s
  | .mul e t rd ra rb => Sys2Proof.Machine.execMul e t rd ra rb s
  | .mulh e t rd ra rb => Sys2Proof.Machine.execMulh e t rd ra rb s
  | .sel e t rd ra rb => Sys2Proof.Machine.execSel e t rd ra rb s
  | .cmpeq e t rd ra rb => Sys2Proof.Machine.execCmpeq e t rd ra rb s
  | .cmpne e t rd ra rb => Sys2Proof.Machine.execCmpne e t rd ra rb s
  | .cmplt e t rd ra rb => Sys2Proof.Machine.execCmplt e t rd ra rb s
  | .cmpge e t rd ra rb => Sys2Proof.Machine.execCmpge e t rd ra rb s
  | .cmpltu e t rd ra rb => Sys2Proof.Machine.execCmpltu e t rd ra rb s
  | .cmpgeu e t rd ra rb => Sys2Proof.Machine.execCmpgeu e t rd ra rb s
  | .addi e t rd ra imm => Sys2Proof.Machine.execAddi e t rd ra imm s
  | .andi e t rd ra imm => Sys2Proof.Machine.execAndi e t rd ra imm s
  | .ori e t rd ra imm => Sys2Proof.Machine.execOri e t rd ra imm s
  | .xori e t rd ra imm => Sys2Proof.Machine.execXori e t rd ra imm s
  | .shli e t rd ra n => Sys2Proof.Machine.execShli e t rd ra n s
  | .shri e t rd ra n => Sys2Proof.Machine.execShri e t rd ra n s
  | .srai e t rd ra n => Sys2Proof.Machine.execSrai e t rd ra n s
  | .cmpeqi e t rd ra imm => Sys2Proof.Machine.execCmpeqi e t rd ra imm s
  | .cmpnei e t rd ra imm => Sys2Proof.Machine.execCmpnei e t rd ra imm s
  | .cmplti e t rd ra imm => Sys2Proof.Machine.execCmplti e t rd ra imm s
  | .cmpgei e t rd ra imm => Sys2Proof.Machine.execCmpgei e t rd ra imm s
  | .cmpltui e t rd ra imm => Sys2Proof.Machine.execCmpltui e t rd ra imm s
  | .cmpgeui e t rd ra imm => Sys2Proof.Machine.execCmpgeui e t rd ra imm s
  | .ld8 e t rd ra imm transit => Sys2Proof.Machine.execLd8 e t rd ra imm transit s
  | .ld16 e t rd ra imm transit => Sys2Proof.Machine.execLd16 e t rd ra imm transit s
  | .ld32 e t rd ra imm transit => Sys2Proof.Machine.execLd32 e t rd ra imm transit s
  | .ld64 e t rd ra imm transit => Sys2Proof.Machine.execLd64 e t rd ra imm transit s
  | .bankCeWriteback addr ue => Sys2Proof.Machine.execBankCeWriteback addr ue s
  | .st8 e t rs ra imm transit => Sys2Proof.Machine.execSt8 e t rs ra imm transit s
  | .st16 e t rs ra imm transit => Sys2Proof.Machine.execSt16 e t rs ra imm transit s
  | .st32 e t rs ra imm transit => Sys2Proof.Machine.execSt32 e t rs ra imm transit s
  | .st64 e t rs ra imm transit => Sys2Proof.Machine.execSt64 e t rs ra imm transit s
  | .xadd e t rd ra rb w32 transit => Sys2Proof.Machine.execXadd e t rd ra rb w32 transit s
  | .xswp e t rd ra rb w32 transit => Sys2Proof.Machine.execXswp e t rd ra rb w32 transit s
  | .tld e t td ra imm transit => Sys2Proof.Machine.execTld e t td ra imm transit s
  | .tst e t ts ra imm transit => Sys2Proof.Machine.execTst e t ts ra imm transit s
  | .br e t imm => Sys2Proof.Machine.execBr e t imm s
  | .beq e t rs imm => Sys2Proof.Machine.execBeq e t rs imm s
  | .bne e t rs imm => Sys2Proof.Machine.execBne e t rs imm s
  | .blt e t rs imm => Sys2Proof.Machine.execBlt e t rs imm s
  | .bge e t rs imm => Sys2Proof.Machine.execBge e t rs imm s
  | .call e t imm => Sys2Proof.Machine.execCall e t imm s
  | .enter1 e t imm => Sys2Proof.Machine.execEnter1 e t imm s
  | .ret e t ra => Sys2Proof.Machine.execRet e t ra s
  | .tadd e t td ta rb => Sys2Proof.Machine.execTadd e t td ta rb s
  | .tsub e t rd ta tb => Sys2Proof.Machine.execTsub e t rd ta tb s
  | .tcmp e t rd ta tb => Sys2Proof.Machine.execTcmp e t rd ta tb s
  | .tcvtSec e t rd ta => Sys2Proof.Machine.execTcvtSec e t rd ta s
  | .tcvtNs e t rd ta => Sys2Proof.Machine.execTcvtNs e t rd ta s
  | .tcvtFrac e t rd ta => Sys2Proof.Machine.execTcvtFrac e t rd ta s
  | .tcvtFu e t rd ta => Sys2Proof.Machine.execTcvtFu e t rd ta s
  | .tcvtMk e t td ra rb => Sys2Proof.Machine.execTcvtMk e t td ra rb s
  | .tcvtMov e t td ta => Sys2Proof.Machine.execTcvtMov e t td ta s
  | .stamp e t td rb => Sys2Proof.Machine.execStamp e t td rb s
  | .push e t rd r ra transit => Sys2Proof.Machine.execPush e t rd r ra transit s
  | .pop e t rd r ra transit => Sys2Proof.Machine.execPop e t rd r ra transit s
  | .peek e t rd r ra transit => Sys2Proof.Machine.execPeek e t rd r ra transit s
  | .waite e t rd ra => Sys2Proof.Machine.execWaite e t rd ra s
  | .evack e t ra => Sys2Proof.Machine.execEvack e t ra s
  | .beat e t => Sys2Proof.Machine.execBeat e t s
  | .fence e t => Sys2Proof.Machine.execFence e t s
  | .rdsr e t rd sel => Sys2Proof.Machine.execRdsr e t rd sel s
  | .wrfs e t ra => Sys2Proof.Machine.execWrfs e t ra s
  | .epoch e t r => Sys2Proof.Machine.execEpoch e t r s
  | .devr e t rd ra => Sys2Proof.Machine.execDevr e t rd ra s
  | .devw e t rd ra rb => Sys2Proof.Machine.execDevw e t rd ra rb s
  | .pressAlign e t rd ra rb align => Sys2Proof.Machine.execPressAlign e t rd ra rb align s
  | .pressStep e t rd ra rb align => Sys2Proof.Machine.execPressStep e t rd ra rb align s
  | .pressSlew e t rd ra rb align => Sys2Proof.Machine.execPressSlew e t rd ra rb align s
  | .pressAbort e t rd ra rb align => Sys2Proof.Machine.execPressAbort e t rd ra rb align s
  | .seamSelect e t rd ra hi => Sys2Proof.Machine.execSeamSelect e t rd ra hi s
  | .seamClearPref e t rd ra hi => Sys2Proof.Machine.execSeamClearPref e t rd ra hi s
  | .rampGo e t rd pll hi => Sys2Proof.Machine.execRampGo e t rd pll hi s
  | .rampAbort e t rd pll hi => Sys2Proof.Machine.execRampAbort e t rd pll hi s
  | .feed e t rd ra ts => Sys2Proof.Machine.execFeed e t rd ra ts s
  | .schedPlace e t rd ra link notify b7 transit => Sys2Proof.Machine.execSchedPlace e t rd ra link notify b7 transit s
  | .schedCancel e t rd ra low b5 b7 transit => Sys2Proof.Machine.execSchedCancel e t rd ra low b5 b7 transit s
  | .bnkPwrWrite b v => Sys2Proof.Machine.execBnkPwrWrite b v s
  | .rinseEnd b => Sys2Proof.Machine.execRinseEnd b s
  | .darnPreserving b => Sys2Proof.Machine.execDarnPreserving b s
  | .darnDestructive b => Sys2Proof.Machine.execDarnDestructive b s
  | .darnEnd b rows groups => Sys2Proof.Machine.execDarnEnd b rows groups s
  | .ringEnable r v => Sys2Proof.Machine.execRingEnable r v s
  | .ringDisable r v => Sys2Proof.Machine.execRingDisable r v s
  | .ringStopWrite r stop => Sys2Proof.Machine.execRingStopWrite r stop s
  | .ringDoorbell r idx bar2 => Sys2Proof.Machine.execRingDoorbell r idx bar2 s
  | .otpWindowWrite => Sys2Proof.Machine.execOtpWindowWrite s
  | .otpBurn gen low => Sys2Proof.Machine.execOtpBurn gen low s
  | .otpSeal gen low => Sys2Proof.Machine.execOtpSeal gen low s
  | .otpRevoke gen low => Sys2Proof.Machine.execOtpRevoke gen low s
  | .otpAdopt gen => Sys2Proof.Machine.execOtpAdopt gen s
  | .otpCmdComplete stuck0 stuck1 => Sys2Proof.Machine.execOtpCmdComplete stuck0 stuck1 s
  | .nvWrite off v res vin => Sys2Proof.Machine.execNvWrite off v res vin s
  | .nvBufferIdleCommit res vin => Sys2Proof.Machine.execNvBufferIdleCommit res vin s
  | .nvFlush res vin => Sys2Proof.Machine.execNvFlush res vin s
  | .nvRecheck => Sys2Proof.Machine.execNvRecheck s
  | .nvScanDone torn ce ue => Sys2Proof.Machine.execNvScanDone torn ce ue s
  | .resetRelease pins => Sys2Proof.Machine.execResetRelease pins s
  | .recallEnd mv c => Sys2Proof.Machine.execRecallEnd mv c s
  | .resetAssert k0 k1 => Sys2Proof.Machine.execResetAssert k0 k1 s
  | .modeCmd dst => Sys2Proof.Machine.execModeCmd dst s
  | .modeChangeDone => Sys2Proof.Machine.execModeChangeDone s
  | .factoryReq v => Sys2Proof.Machine.execFactoryReq v s
  | .pwrEnterIdle => Sys2Proof.Machine.execPwrEnterIdle s
  | .pwrEnterSleep => Sys2Proof.Machine.execPwrEnterSleep s
  | .pwrEnterDeepSleep => Sys2Proof.Machine.execPwrEnterDeepSleep s
  | .pwrEnterOff => Sys2Proof.Machine.execPwrEnterOff s
  | .pwrWakeHost => Sys2Proof.Machine.execPwrWakeHost s
  | .pwrEntryDrained => Sys2Proof.Machine.execPwrEntryDrained s
  | .pwrEntrySave cal res vin => Sys2Proof.Machine.execPwrEntrySave cal res vin s
  | .wakePin => Sys2Proof.Machine.execWakePin s
  | .wakeAlarm => Sys2Proof.Machine.execWakeAlarm s
  | .i2cWake dev => Sys2Proof.Machine.execI2cWake dev s
  | .ledgerCalWindow period => Sys2Proof.Machine.execLedgerCalWindow period s
  | .ledgerSrcDetect => Sys2Proof.Machine.execLedgerSrcDetect s
  | .aoOverload ma => Sys2Proof.Machine.execAoOverload ma s
  | .supplyFault k0 k1 tear => Sys2Proof.Machine.execSupplyFault k0 k1 tear s
  | .ovenSupplyLow => Sys2Proof.Machine.execOvenSupplyLow s
  | .vaoLoss k0 k1 tear => Sys2Proof.Machine.execVaoLoss k0 k1 tear s
  | .faultReport src cls cause => Sys2Proof.Machine.execFaultReport src cls cause s
  | .brokenWire src rail => Sys2Proof.Machine.execBrokenWire src rail s
  | .promoWindowExpire src => Sys2Proof.Machine.execPromoWindowExpire src s
  | .fltClear src => Sys2Proof.Machine.execFltClear src s
  | .fltLogAck n => Sys2Proof.Machine.execFltLogAck n s
  | .fltFirstAck => Sys2Proof.Machine.execFltFirstAck s
  | .fltInject src cls broken => Sys2Proof.Machine.execFltInject src cls broken s
  | .hostMbRateWrite v => Sys2Proof.Machine.execHostMbRateWrite v s
  | .pciePerst => Sys2Proof.Machine.execPciePerst s
  | .spiRead op addr count => Sys2Proof.Machine.execSpiRead op addr count s
  | .spiWrite addr count words => Sys2Proof.Machine.execSpiWrite addr count words s
  | .spiStatus => Sys2Proof.Machine.execSpiStatus s
  | .spiCsRise => Sys2Proof.Machine.execSpiCsRise s
  | .spiCompatRead index count late => Sys2Proof.Machine.execSpiCompatRead index count late s
  | .spiCompatWrite index vals ragged => Sys2Proof.Machine.execSpiCompatWrite index vals ragged s
  | .i2cWriteFrame dev op addr count words => Sys2Proof.Machine.execI2cWriteFrame dev op addr count words s
  | .i2cReadFrame dev addr count => Sys2Proof.Machine.execI2cReadFrame dev addr count s
  | .i2cStatusRead dev => Sys2Proof.Machine.execI2cStatusRead dev s
  | .i2cStop => Sys2Proof.Machine.execI2cStop s
  | .extest => Sys2Proof.Machine.execExtest s
  | .idcode => Sys2Proof.Machine.execIdcode s
  | .samplePreload => Sys2Proof.Machine.execSamplePreload s
  | .highz => Sys2Proof.Machine.execHighz s
  | .clamp => Sys2Proof.Machine.execClamp s
  | .bypass => Sys2Proof.Machine.execBypass s
  | .dbgMem addr data write => Sys2Proof.Machine.execDbgMem addr data write s
  | .dbgEngRead e t sel => Sys2Proof.Machine.execDbgEngRead e t sel s
  | .dbgEngWrite e t sel v => Sys2Proof.Machine.execDbgEngWrite e t sel v s
  | .dbgEngStep e t => Sys2Proof.Machine.execDbgEngStep e t s
  | .slotPost by_ k => Sys2Proof.Machine.execSlotPost by_ k s
  | .slotStageWrite by_ k w v => Sys2Proof.Machine.execSlotStageWrite by_ k w v s
  | .slotAck k v => Sys2Proof.Machine.execSlotAck k v s
  | .msixUnmask v mask => Sys2Proof.Machine.execMsixUnmask v mask s
  | .modulePresence n absent => Sys2Proof.Machine.execModulePresence n absent s
  | .pcsBlockErrors n => Sys2Proof.Machine.execPcsBlockErrors n s
  | .pcieLinkState up gen width msix => Sys2Proof.Machine.execPcieLinkState up gen width msix s
  | .hostBankWrite addr data same => Sys2Proof.Machine.execHostBankWrite addr data same s
  | .supplyRestored => Sys2Proof.Machine.execSupplyRestored s
  | .ovenSupplyRestored => Sys2Proof.Machine.execOvenSupplyRestored s

end Sys2Proof.Machine
end

