-- ==== Sys2Proof/Safety.lean ====
section
/-! DEFINITION. Safety.lean: the terms in which the statements say what a command does: that it completes with an effect, and what
it leaves alone. -/
namespace Sys2Proof.Machine

/-- The command completes on the state, and the next state has the property. -/
def Does (c : Instr) (s : State) (P : State → Prop) : Prop := ∃ t, exec c s = .next t ∧ P t

/-- The command completes and changes nothing. -/
def Ignores (c : Instr) (s : State) : Prop := exec c s = .next s

/-- The block of 64 KiB that a register field stands in, by its key. -/
def Fld.block (f : Fld) : Nat := f.key / 0x200000

/-- Every register field but the listed ones reads as before. -/
def FieldsKept (s t : State) (l : List Fld) : Prop := ∀ f : Fld, (∀ g ∈ l, f.key ≠ g.key) → t.fld f = s.fld f

/-- Every register field outside the listed blocks reads as before. -/
def BlocksKept (s t : State) (l : List Nat) : Prop := ∀ f : Fld, f.block ∉ l → t.fld f = s.fld f

/-- Every byte of memory reads as before. -/
def MemKept (s t : State) : Prop := ∀ a, t.byte a = s.byte a

/-- Every byte of memory outside the `n` bytes from an address reads as before. -/
def MemKeptOutside (s t : State) (a n : Nat) : Prop := ∀ b, (b < a ∨ a + n ≤ b) → t.byte b = s.byte b

/-- Every byte of memory outside the listed ranges (address, length) reads as before. -/
def MemKeptBut (s t : State) (l : List (Nat × Nat)) : Prop :=
  ∀ b, (∀ r ∈ l, b < r.1 ∨ r.1 + r.2 ≤ b) → t.byte b = s.byte b

/-- Every byte of a bank (or of always-on memory, region 29) reads zero. -/
def RegionZero (t : State) (r : Nat) : Prop := ∀ a, regionOf a = r → t.byte a = 0

/-- Every byte of a bank (or of always-on memory, region 29) is a free value. -/
def RegionLost (t : State) (r : Nat) : Prop := ∃ k, ∀ a, regionOf a = r → t.byte a = Config.freeByte k a

/-- The `n` bytes from an address. -/
def State.byteList (s : State) (a n : Nat) : List (BitVec 8) := (List.range n).map (fun i => s.byte (a + i))

/-- Nothing but the listed register fields changes. -/
def OnlyFields (s t : State) (l : List Fld) : Prop := t = { s with regs := t.regs } ∧ FieldsKept s t l

/-- The canonical form of memory holds. -/
def State.memOk (s : State) : Prop := Memory.wf s.bank.lost s.mem = true

end Sys2Proof.Machine
end

