-- ==== Sys2Proof/Certificates/Slice0/Obligations.lean ====
section
/-! DEFINITION. Certificates/Slice0/Obligations.lean: the statements for the provers. Each names in its docstring the rules of
spec/ that it formalises. `Does c s P`: the command completes on s with P of the next state (Safety.lean). -/
open Sys2Proof Sys2Proof.Machine

/-- R42: the count after n ticks, with the fraction carried from tick to tick. -/
def Obligations.TimeBaseTick : Prop :=
  (∀ (s : State) (n : Nat), s.powered = true → s.tb.running = true → 1 ≤ n → s.pwr.wakeDue = false → s.tb.restore = none →
    s.seam.slew = none → s.seam.press = none → s.seam.acq = none → s.fld R.TB_STATUS_LEAP_ARMED = 0 → s.clkSrc ≠ 2 →
    s.fld R.TB_INC_FRAC_DEN ≠ 0 →
    Does (.tbTick n) s fun t =>
      t.tb.now * s.fld R.TB_INC_FRAC_DEN + t.tb.frac
        = s.tb.now * s.fld R.TB_INC_FRAC_DEN + s.tb.frac
          + n * (s.fld R.TB_INC_INT_INT * s.fld R.TB_INC_FRAC_DEN + s.fld R.TB_INC_FRAC_NUM) ∧
      t.tb.frac < s.fld R.TB_INC_FRAC_DEN ∧ t.tb.elapsed + s.tb.now = t.tb.now + s.tb.elapsed ∧
      t = { s with tb := t.tb }) ∧
  (∀ (s : State) (n : Nat), s.powered = true → s.tb.running = true → 1 ≤ n → s.pwr.wakeDue = false → s.tb.restore = none →
    s.seam.slew = none → s.seam.press = none → s.seam.acq = none → s.fld R.TB_STATUS_LEAP_ARMED = 0 → s.clkSrc ≠ 2 →
    s.fld R.TB_INC_FRAC_DEN = 0 →
    Does (.tbTick n) s fun t =>
      t.tb.now = s.tb.now + n * s.fld R.TB_INC_INT_INT ∧ t.tb.frac = s.tb.frac ∧
      t.tb.elapsed + s.tb.now = t.tb.now + s.tb.elapsed ∧ t = { s with tb := t.tb })

/-- R51: the leap check of a tick. The tick is the increment, a delivered step, and then the leap check (R45). -/
def Obligations.LeapAppliedInTheTick : Prop :=
  (∀ s : State, s.powered = true → s.tb.running = true → s.pwr.wakeDue = false → s.tb.restore = none →
    ((s.advance 1).stepDue).fld R.TB_STATUS_LEAP_ARMED = 1 →
    ((s.advance 1).stepDue).tb.leapAt ≤ ((s.advance 1).stepDue).hubSec →
    Does (.tbTick 1) s fun t =>
      let u := (s.advance 1).stepDue
      t.fld R.TB_UTC_OFFSET_OFFSET = ofSigned 16 (toSigned 16 (u.fld R.TB_UTC_OFFSET_OFFSET) + u.tb.leapDelta) ∧
      t.fld R.TB_STATUS_LEAP_ARMED = 0 ∧ t.fld R.TB_STATUS_LEAP_DONE = 1 ∧ t.fld R.TB_STATUS_LEAP_ACTIVE = 0 ∧
      t.tb.now = u.tb.now ∧ t.leapCheck = t ∧
      OnlyFields u t [R.TB_UTC_OFFSET_OFFSET, R.TB_STATUS_LEAP_ARMED, R.TB_STATUS_LEAP_DONE, R.TB_STATUS_LEAP_ACTIVE])

/-- R44, R49, R50, R55, R56, R407, R447. -/
def Obligations.TimeBaseCommands : Prop :=
  (∀ (s : State) (path : Fin 4), s.powered = true →
    Does (.tbNow0Read path) s fun t =>
      (∀ p : Fin 4, Tab.get (fun _ => 0) t.tb.snaps p = if p = path then encodeHub s.tb.now else Tab.get (fun _ => 0) s.tb.snaps p) ∧
      Tab.get (fun _ => 0) t.host.rdata path = encodeHub s.tb.now % 2 ^ 32 ∧ t.regs = s.regs ∧ MemKept s t) ∧
  (∀ (s : State) (v : BitVec 32), s.powered = true → s.tiFenced = false → s.structural = true →
    Does (.tbIncWrite 0 v) s fun t => t.fld R.TB_INC_INT_INT = v.toNat % 2 ^ R.TB_INC_INT_INT.width ∧ OnlyFields s t [R.TB_INC_INT_INT]) ∧
  (∀ (s : State) (v : BitVec 32), s.powered = true → s.tiFenced = false → s.structural = true →
    (v.toNat / 2 ^ 16 = 0 ∨ v.toNat % 2 ^ 16 < v.toNat / 2 ^ 16) →
    Does (.tbIncWrite 1 v) s fun t => t.fld R.TB_INC_FRAC_NUM = v.toNat % 2 ^ 16 ∧ t.fld R.TB_INC_FRAC_DEN = v.toNat / 2 ^ 16 ∧
      OnlyFields s t [R.TB_INC_FRAC_NUM, R.TB_INC_FRAC_DEN]) ∧
  (∀ (s : State) (v : BitVec 32), s.powered = true → s.tiFenced = false → s.structural = true →
    16 ≤ v.toNat % 64 → v.toNat % 64 ≤ 32 →
    Does (.tbIncWrite 2 v) s fun t => t.fld R.TB_DIV_DIV = v.toNat % 64 ∧ OnlyFields s t [R.TB_DIV_DIV]) ∧
  (∀ (s : State) (reg : Fin 3) (v : BitVec 32), s.powered = true → s.tiFenced = false →
    (s.structural = false ∨ (reg = 1 ∧ v.toNat / 2 ^ 16 ≠ 0 ∧ v.toNat / 2 ^ 16 ≤ v.toNat % 2 ^ 16)
      ∨ (reg = 2 ∧ (v.toNat % 64 < 16 ∨ 32 < v.toNat % 64))) →
    Does (.tbIncWrite reg v) s fun t => t.fld R.TB_STATUS_INC_REJ = 1 ∧ OnlyFields s t [R.TB_STATUS_INC_REJ]) ∧
  (∀ (s : State) (delta : Fin 4), s.powered = true → s.tiFenced = false → (delta = 1 ∨ delta = 3) → s.hubSec < s.leapAtReg →
    Does (.leapArm delta) s fun t => t.fld R.TB_STATUS_LEAP_ARMED = 1 ∧ t.fld R.TB_LEAP_CTL_DELTA = delta ∧
      t.tb = { s.tb with leapAt := s.leapAtReg, leapDelta := if delta = 1 then 1 else -1 } ∧
      FieldsKept s t [R.TB_STATUS_LEAP_ARMED, R.TB_STATUS_LEAP_ACTIVE, R.TB_LEAP_CTL_DELTA] ∧ MemKept s t) ∧
  (∀ (s : State) (delta : Fin 4), s.powered = true → s.tiFenced = false → (delta = 1 ∨ delta = 3) → s.leapAtReg ≤ s.hubSec →
    Does (.leapArm delta) s fun t => t.fld R.TB_STATUS_LEAP_REJ = 1 ∧
      OnlyFields s t [R.TB_STATUS_LEAP_REJ, R.TB_LEAP_CTL_DELTA]) ∧
  (∀ (s : State), s.powered = true → s.tiFenced = false →
    Does (.leapArm 2) s fun t => t.fld R.TB_STATUS_LEAP_REJ = 1 ∧ OnlyFields s t [R.TB_STATUS_LEAP_REJ]) ∧
  (∀ (s : State), s.powered = true → s.tiFenced = false →
    Does (.leapArm 0) s fun t => t.fld R.TB_STATUS_LEAP_ARMED = 0 ∧
      OnlyFields s t [R.TB_STATUS_LEAP_ARMED, R.TB_STATUS_LEAP_ACTIVE, R.TB_LEAP_CTL_DELTA]) ∧
  (∀ (s : State), s.powered = true → s.tiFenced = false →
    Does .leapCancel s fun t => t.fld R.TB_STATUS_LEAP_ARMED = 0 ∧
      OnlyFields s t [R.TB_STATUS_LEAP_ARMED, R.TB_STATUS_LEAP_ACTIVE]) ∧
  (∀ (s : State), s.powered = true → s.tiFenced = false →
    Does .declareKnown s fun t => t.fld R.TB_STATUS_TIME_UNCERTAIN = 0 ∧ t.uncBound = 0 ∧
      OnlyFields s t [R.TB_STATUS_TIME_UNCERTAIN, R.TB_UNC_BOUND_LO_BOUND, R.TB_UNC_BOUND_HI_BOUND]) ∧
  (∀ (s : State), s.powered = true → s.fld R.TB_STATUS_TIME_UNCERTAIN = 1 → s.uncBound < 2 ^ 64 - 1 → s.tsState ≠ 2 →
    s.tiFenced = false →
    Does .uncBoundGrow s fun t => t.uncBound = min (2 ^ 64 - 2) (s.uncBound + fuPerSec * s.uOsc / 2 ^ 48) ∧
      OnlyFields s t [R.TB_UNC_BOUND_LO_BOUND, R.TB_UNC_BOUND_HI_BOUND]) ∧
  (∀ (s : State), s.powered = true →
    (s.fld R.TB_STATUS_TIME_UNCERTAIN = 0 ∨ s.uncBound = 2 ^ 64 - 1 ∨ s.tsState = 2 ∨ s.tiFenced = true) →
    Ignores .uncBoundGrow s) ∧
  (∀ (s : State), s.powered = true → s.tb.running = false → s.fld (R.SYN_PLL_STATUS_STATE 0) ≠ 3 →
    Does .tbStartTimeout s fun t => t.tb = { s.tb with running := true } ∧ t.fld R.TB_STATUS_CLK_SRC = 2 ∧
      t.fld R.TB_STATUS_TIME_DEGRADED = 1 ∧ FieldsKept s t [R.TB_STATUS_CLK_SRC, R.TB_STATUS_TIME_DEGRADED] ∧ MemKept s t) ∧
  (∀ (s : State), s.powered = true → s.tb.running = true ∨ s.fld (R.SYN_PLL_STATUS_STATE 0) = 3 → Ignores .tbStartTimeout s) ∧
  (∀ (s : State) (d : Fin 4) (r : Fin 3) (v : BitVec 32), s.powered = true → s.tiFenced = true →
    ∀ c ∈ [.leapCancel, .declareKnown, .leapArm d, .tbIncWrite r v], Does c s fun t =>
      t.fld R.FLT_TI_REFUSED_COUNT = min (2 ^ R.FLT_TI_REFUSED_COUNT.width - 1) (s.fld R.FLT_TI_REFUSED_COUNT + 1) ∧
      OnlyFields s t [R.FLT_TI_REFUSED_COUNT])

/-- R58, R64, R65, R112, R446: stages, restarts and the source. A stage entered from stage k adjusts the integrator by the
difference of kp (R64). -/
def Obligations.ServoCommands : Prop :=
  (∀ (s : State) (k : Fin 8), s.powered = true → s.stage = k → s.tservoFenced = false → s.stageReady = true →
    s.fld R.TSV_CTL_LAST_STAGE < 8 →
    Does .tsvStageAdvance s fun t => t.stage = k + 1 ∧ t.tsv = { s.tsv with stageAt := s.tb.elapsed } ∧
      t.pair R.TSV_INTEG_LO R.TSV_INTEG_HI
        = ofSigned 64 (s.integ + servoUnits ((s.kp (k + 1) - s.kp k) * fuSeconds s.lastX)) ∧
      FieldsKept s t [R.TSV_STATUS_STAGE, R.TSV_INTEG_LO, R.TSV_INTEG_HI] ∧ MemKept s t) ∧
  (∀ (s : State), s.powered = true → (s.stageReady = false ∨ s.tservoFenced = true) → Ignores .tsvStageAdvance s) ∧
  (∀ (s : State) (k : Fin 8), s.powered = true → s.stage = k → s.tservoFenced = false → s.restartStage < 8 →
    Does .tsvRestart s fun t => t.stage = min (s.fld R.TSV_CTL_RESTART_STAGE) (s.fld R.TSV_CTL_LAST_STAGE) ∧
      t.tsv.stageAt = s.tb.elapsed ∧
      t.pair R.TSV_INTEG_LO R.TSV_INTEG_HI
        = ofSigned 64 (s.integ + servoUnits ((s.kp s.restartStage - s.kp k) * fuSeconds s.lastX)) ∧
      t.tsState = (if s.tsState = 2 then 1 else s.tsState) ∧ MemKept s t) ∧
  (∀ (s : State) (k n : Fin 8), s.powered = true → s.stage = k → s.tservoFenced = false → k ≤ n →
    Does (.tsvLastStageWrite n) s fun t => t.fld R.TSV_CTL_LAST_STAGE = n ∧ OnlyFields s t [R.TSV_CTL_LAST_STAGE]) ∧
  (∀ (s : State) (k n : Fin 8), s.powered = true → s.stage = k → s.tservoFenced = false → n < k →
    Does (.tsvLastStageWrite n) s fun t => t.fld R.TSV_CTL_LAST_STAGE = n ∧ t.stage = n ∧ t.tsv.stageAt = s.tb.elapsed ∧
      t.pair R.TSV_INTEG_LO R.TSV_INTEG_HI = ofSigned 64 (s.integ + servoUnits ((s.kp n - s.kp k) * fuSeconds s.lastX)) ∧
      FieldsKept s t [R.TSV_CTL_LAST_STAGE, R.TSV_STATUS_STAGE, R.TSV_INTEG_LO, R.TSV_INTEG_HI] ∧ MemKept s t) ∧
  (∀ (s : State) (n : Fin 8) (v : BitVec 32), s.powered = true → s.tservoFenced = false →
    Does (.tsvStageWrite n v) s fun t => t.fld (R.TSV_STAGE_FN n) = v.toNat % 64 ∧
      t.fld (R.TSV_STAGE_ZETA n) = v.toNat / 2 ^ 6 % 2 ^ (R.TSV_STAGE_ZETA n).width ∧
      t.fld (R.TSV_STAGE_DWELL n) = v.toNat / 2 ^ 12 % 2 ^ (R.TSV_STAGE_DWELL n).width ∧
      (s.stage = n → t.pair R.TSV_INTEG_LO R.TSV_INTEG_HI
        = ofSigned 64 (s.integ + servoUnits ((t.kp n - s.kp n) * fuSeconds s.lastX))) ∧
      (s.stage ≠ n → t.integ = s.integ) ∧
      OnlyFields s t [R.TSV_STAGE_FN n, R.TSV_STAGE_ZETA n, R.TSV_STAGE_DWELL n, R.TSV_INTEG_LO, R.TSV_INTEG_HI]) ∧
  (∀ (s : State) (v : Fin 4), s.powered = true → s.tservoFenced = false → s.tsvSrc ≠ v →
    Does (.tsvSrcWrite v) s fun t => t.tsvSrc = v ∧ t.tsv.lastIn = none ∧
      (v = 0 → s.holding = false → t.tsv.y = s.integ) ∧ t.tsState = (if s.tsState = 2 then 1 else s.tsState) ∧ MemKept s t) ∧
  (∀ (s : State) (n : Fin 8) (v : BitVec 32) (w : Fin 4), s.powered = true → s.tiFenced = false → s.fenced 0x001 = true →
    ∀ c ∈ [.tsvRestart, .tsvLastStageWrite n, .tsvStageWrite n v, .tsvSrcWrite w], Ignores c s)

/-- R78 to R87, R91, R97, R511. -/
def Obligations.CandidateSamples : Prop :=
  (∀ (s : State) (n : Fin 48) (v : Int), s.powered = true → s.qualFenced = false → s.candEn n = true → 16 ≤ (n : Nat) →
    Does (.qualPhaseSample n v 0) s fun t => t.fld (R.QUAL_CAND_EVENTS_GLITCH n)
        = min (2 ^ (R.QUAL_CAND_EVENTS_GLITCH n).width - 1) (s.fld (R.QUAL_CAND_EVENTS_GLITCH n) + 1) ∧
      OnlyFields s t [R.QUAL_CAND_EVENTS_GLITCH n]) ∧
  (∀ (s : State) (n : Fin 16) (num den : Nat), s.powered = true → s.tb.running = true → s.qualFenced = false →
    s.candEn n = true → s.kind n ≠ 3 → s.edgeGlitch (64 + n) (s.edgeAt num den).floor.toNat = true →
    Does (.tdcEdge (Fin.ofNat 104 (64 + n)) false num den) s fun t => t.cand n = s.cand n ∧
      t.fld (R.QUAL_CAND_EVENTS_GLITCH n)
        = min (2 ^ (R.QUAL_CAND_EVENTS_GLITCH n).width - 1) (s.fld (R.QUAL_CAND_EVENTS_GLITCH n) + 1) ∧ MemKept s t) ∧
  (∀ (s : State) (n : Fin 16) (num den : Nat), s.powered = true → s.tb.running = true → s.qualFenced = false →
    s.candEn n = true → s.kind n ≠ 3 → s.edgeGlitch (64 + n) (s.edgeAt num den).floor.toNat = false →
    Does (.tdcEdge (Fin.ofNat 104 (64 + n)) false num den) s fun t =>
      (t.cand n).lastEdge = some (s.edgeAt num den).floor.toNat ∧
      ((s.tdcCh (64 + n)).dec = 0 → s.coreless (64 + n) = false → (s.tdcCh (64 + n)).lastAt = none →
        (t.cand n).stamp = some (s.stampTime (64 + n) num den)) ∧ MemKept s t) ∧
  (∀ (s : State) (n : Fin 48) (v : Int) (gap : Nat), s.powered = true → ((n : Nat) < 16 ∨ gap ≠ 0) →
    (s.cand n).stamp ≠ some v → Ignores (.qualPhaseSample n v gap) s) ∧
  (∀ (s : State) (n : Fin 48) (v : Int) (gap : Nat), s.powered = true → s.qualFenced = false → s.candEn n = true →
    ((n : Nat) < 16 ∨ gap ≠ 0) → (s.cand n).stamp = some v → s.fld (R.QUAL_CAND_STATE_STATE n) = 0 →
    Does (.qualPhaseSample n v gap) s fun t => (t.cand n).stamp = none ∧ t.regs = s.regs ∧ MemKept s t) ∧
  (∀ (s : State) (n : Fin 48) (v : Int) (gap : Nat), s.powered = true → s.qualFenced = false → s.candEn n = true →
    ((n : Nat) < 16 ∨ gap ≠ 0) → (s.cand n).stamp = some v → s.fld (R.QUAL_CAND_STATE_STATE n) ≠ 0 → s.timeCand n = false →
    (s.cand n).origin.isSome = true →
    Does (.qualPhaseSample n v gap) s fun t =>
      (t.cand n).samples.head? = some (Sample.mk s.tb.elapsed
        (v - (s.cand n).origin.getD 0 - (if (n : Nat) < 16 then ((((s.cand n).kept + gap) * fuPerMs : Nat) : Int) else 0)
          - s.candPhase n)
        (s.candPhase n)) ∧
      (t.cand n).stamp = none ∧ MemKept s t) ∧
  (∀ (s : State) (n : Fin 48) (v : Int) (gap : Nat), s.powered = true → s.qualFenced = false → s.candEn n = true →
    ((n : Nat) < 16 ∨ gap ≠ 0) → (s.cand n).stamp = some v → s.fld (R.QUAL_CAND_STATE_STATE n) ≠ 0 → s.timeCand n = true →
    Does (.qualPhaseSample n v gap) s fun t =>
      t.pair (R.QUAL_CAND_TOFF_LO n) (R.QUAL_CAND_TOFF_HI n) = ofSigned 64 (s.pulseOffset n v).1 ∧
      (t.cand n).prog = none ∧ (t.cand n).stamp = none ∧ MemKept s t) ∧
  (∀ (s : State) (n : Fin 16) (w : List Nat), s.powered = true → s.qualFenced = false → s.candEn n = true →
    s.kind n = 3 → (s.irigDecode n w).isSome = true → (s.cand n).irig.isSome = true →
    Does (.irigFrame n w) s fun t => (t.cand n).irig = s.irigDecode n w ∧
      t.fld (R.QUAL_CAND_STATE_LABEL_OK n) = 
        (if s.labelStep ((s.cand n).irig.getD 0) ((s.irigDecode n w).getD 0) then 1 else 0) ∧
      FieldsKept s t [R.QUAL_CAND_STATE_LABEL_OK n] ∧ MemKept s t) ∧
  (∀ (s : State) (n : Fin 16) (w : List Nat), s.powered = true → s.qualFenced = false → s.candEn n = true → s.kind n = 3 →
    (w.length ≠ 100 ∨ w.any (fun x => (irigBit x).isNone) = true) →
    Does (.irigFrame n w) s fun t => (t.cand n).irig = none ∧ t.fld (R.QUAL_CAND_STATE_LABEL_OK n) = 0 ∧
      FieldsKept s t [R.QUAL_CAND_STATE_LABEL_OK n] ∧ MemKept s t) ∧
  (∀ (s : State) (n : Fin 48), s.powered = true → s.qualFenced = false → s.soak = false →
    s.fld (R.QUAL_CAND_STATE_STATE n) ≠ 0 → (s.cand n).samples ≠ [] →
    Does .driftWatchEval s fun t =>
      t.fld (R.QUAL_CAND_STATE_DRIFT_ARMED n) = (if s.driftWin ≤ (s.cand n).drift.length + 1 then 1 else 0) ∧ MemKept s t) ∧
  (∀ s : State, s.powered = true → (s.qualFenced = true ∨ s.soak = true) → Ignores .driftWatchEval s)

/-- R74, R83, R92 to R95, R98. CAUSE holds one bit: 0 activity, 6 hold, 7 command. -/
def Obligations.CandidateStates : Prop :=
  let others (s t : State) (n : Fin 48) : Prop :=
    ∀ m : Fin 48, m ≠ n → t.fld (R.QUAL_CAND_STATE_STATE m) = s.fld (R.QUAL_CAND_STATE_STATE m)
  let changed (s t : State) (n : Fin 48) (st : Nat) : Prop :=
    t.fld (R.QUAL_CAND_STATE_STATE n) = st ∧ t.fld (R.QUAL_CAND_EVENTS_STATE_CHG n) = 1 ∧ t.fld R.QUAL_EVENTS_ANY_STATE = 1 ∧
      others s t n ∧ MemKept s t
  (∀ (s : State) (n : Fin 48), s.powered = true → s.qualFenced = false → s.candEn n = true →
    s.fld (R.QUAL_CAND_STATE_STATE n) ≠ 0 → ((n : Nat) < 16 → s.edgesLost n = true) →
    Does (.lossOfSignal n) s fun t => changed s t n 0 ∧ t.fld (R.QUAL_CAND_STATE_CAUSE n) = 1 ∧
      t.fld (R.QUAL_CAND_EVENTS_LOS n) = 1 ∧ t.fld (R.QUAL_CAND_STATE_DRIFT_ARMED n) = 0) ∧
  (∀ (s : State) (n : Fin 48), s.powered = true → s.qualFenced = false → s.candEn n = true →
    s.fld (R.QUAL_CAND_STATE_STATE n) = 0 → s.active n = true →
    Does (.activityRestored n) s fun t => changed s t n 1 ∧ t.fld (R.QUAL_CAND_STATE_TIMER n) = 0) ∧
  (∀ (s : State) (n : Fin 48), s.powered = true → s.active n = false → Ignores (.activityRestored n) s) ∧
  (∀ (s : State) (n : Fin 16), s.powered = true → s.edgesLost n = false → Ignores (.lossOfSignal (n.castLE (by decide))) s) ∧
  (∀ (s : State) (n : Fin 48), s.powered = true → s.qualFenced = false → s.soak = false →
    s.fld (R.QUAL_CAND_STATE_STATE n) = 1 → s.obsDone n = true → (s.cand n).monitorFails = false →
    Does (.candQualify n) s fun t => changed s t n 2) ∧
  (∀ (s : State) (n : Fin 48), s.powered = true →
    (s.qualFenced = true ∨ s.soak = true ∨ s.fld (R.QUAL_CAND_STATE_STATE n) ≠ 1 ∨ s.obsDone n = false
      ∨ (s.cand n).monitorFails = true) → Ignores (.candQualify n) s) ∧
  (∀ (s : State) (n : Fin 48), s.powered = true → s.qualFenced = false → s.fld (R.QUAL_CAND_STATE_STATE n) = 3 →
    (s.cand n).suspAt + s.fld R.QUAL_DRIFT_WIN_HOLD * fuPerSec ≤ s.tb.elapsed →
    Does (.driftHoldExpire n) s fun t => changed s t n 4 ∧ t.fld (R.QUAL_CAND_STATE_CAUSE n) = 64) ∧
  (∀ (s : State) (n : Fin 48), s.powered = true → s.qualFenced = false → s.fld (R.QUAL_CAND_STATE_STATE n) = 4 →
    s.disqCleared n = true → (s.cand n).disqAt + s.fld R.QUAL_DISQ_MIN_MIN * fuPerSec ≤ s.tb.elapsed →
    Does (.disqMinExpire n) s fun t => changed s t n 1) ∧
  (∀ (s : State) (n : Fin 48), s.powered = true → s.selected ≠ n →
    (s.fld (R.QUAL_CAND_STATE_STATE n) = 2 ∨ s.fld (R.QUAL_CAND_STATE_STATE n) = 3
      ∨ s.fld (R.QUAL_CAND_STATE_STATE n) = 4) →
    Does (.reobserve n) s fun t => changed s t n 1 ∧ t.fld (R.QUAL_CAND_STATE_CAUSE n) = 128) ∧
  (∀ (s : State) (n : Fin 48), s.powered = true → s.selected = n →
    Does (.reobserve n) s fun t => t.fld (R.QUAL_CAND_EVENTS_CMD_REJ n) = 1 ∧ OnlyFields s t [R.QUAL_CAND_EVENTS_CMD_REJ n]) ∧
  (∀ (s : State) (n : Fin 48), s.powered = true →
    Does (.qualCandEnWrite n true) s fun t => t.fld (R.QUAL_CAND_CFG_EN n) = 1 ∧
      ((n : Nat) < 16 → s.candEn n = false → (t.tdcCh (64 + n)).dec = 0) ∧
      t = { s with regs := t.regs, tdc := { s.tdc with ch := t.tdc.ch } } ∧ FieldsKept s t [R.QUAL_CAND_CFG_EN n]) ∧
  (∀ (s : State) (n : Fin 48), s.powered = true → s.fld (R.QUAL_CAND_STATE_STATE n) ≠ 0 →
    Does (.qualCandEnWrite n false) s fun t => changed s t n 0 ∧ t.fld (R.QUAL_CAND_CFG_EN n) = 0 ∧
      t.fld (R.QUAL_CAND_STATE_CAUSE n) = 128) ∧
  (∀ (s : State) (n : Fin 48), s.powered = true →
    Does (.qualSteppedClear n) s fun t => t.fld (R.QUAL_CAND_STATE_STEPPED n) = 0 ∧
      t.fld (R.QUAL_CAND_EVENTS_STEPPED_SET n) = 0 ∧ others s t n ∧ MemKept s t) ∧
  (∀ (s : State) (v : BitVec 32), s.powered = true → s.fld R.QUAL_DRIFT_WIN_WIN ≠ v.toNat % 2 ^ 16 →
    Does (.qualDriftWinWrite v) s fun t => t.fld R.QUAL_DRIFT_WIN_WIN = v.toNat % 2 ^ 16 ∧
      t.fld R.QUAL_DRIFT_WIN_HOLD = v.toNat / 2 ^ 16 ∧
      (∀ n : Fin 48, t.fld (R.QUAL_CAND_STATE_DRIFT_ARMED n) = 0 ∧ (t.cand n).drift = [] ∧ (t.cand n).driftBad = false) ∧ MemKept s t)

/-- R101 to R105, R109, R135. -/
def Obligations.SelectionCommands : Prop :=
  (∀ (s : State) (m : Fin 64), s.powered = true → s.seamFenced = false → 47 < (m : Nat) →
    Does (.select m) s fun t => t.fld R.SEAM_EVENTS_SEL_REJ = 1 ∧ OnlyFields s t [R.SEAM_EVENTS_SEL_REJ]) ∧
  (∀ (s : State) (m : Fin 64), s.powered = true → s.seamFenced = false → (m : Nat) < 48 → s.isFree = false →
    s.selected ≠ m → s.fit m = true → s.shadowValid m = true →
    Does (.select m) s fun t => t.prefCand = m ∧ t.fld R.SEAM_STATUS_SEL_PENDING = 0 ∧ t.fld R.SEAM_STATUS_SEAMING = 1 ∧
      t.seam.run = some { dst := m, eo := s.handInput } ∧ t.selected = s.selected ∧ MemKept s t) ∧
  (∀ (s : State) (m : Fin 64), s.powered = true → s.seamFenced = false → (m : Nat) < 48 →
    (s.isFree = true ∨ (s.selected ≠ m ∧ (s.fit m = false ∨ s.shadowValid m = false))) →
    Does (.select m) s fun t => t.prefCand = m ∧ t.fld R.SEAM_STATUS_SEL_PENDING = 1 ∧ t.seam.run = s.seam.run ∧
      t.selected = s.selected ∧ MemKept s t) ∧
  (∀ (s : State), s.powered = true → s.seamFenced = false →
    Does .clearPref s fun t => t.prefCand = 0x3F ∧ t.fld R.SEAM_STATUS_SEL_PENDING = 0 ∧ t.seam.run = s.seam.run ∧ MemKept s t) ∧
  (∀ (s : State), s.powered = true → s.seamIdle = true → s.fld R.SEAM_STATUS_SEL_PENDING = 1 → s.fit s.prefCand = true →
    s.shadowValid s.prefCand = true → s.prefCand ≠ s.selected →
    Does .selPendingSeam s fun t => t.seam.run = some { dst := s.prefCand, eo := s.handInput } ∧
      t.fld R.SEAM_STATUS_SEL_PENDING = 0 ∧ t.fld R.SEAM_STATUS_SEAMING = 1 ∧
      FieldsKept s t [R.SEAM_STATUS_SEL_PENDING, R.SEAM_STATUS_SEAMING] ∧ MemKept s t) ∧
  (∀ (s : State), s.powered = true → (s.seamIdle = false ∨ s.fld R.SEAM_STATUS_SEL_PENDING = 0) → Ignores .selPendingSeam s) ∧
  (∀ (s : State), s.powered = true → s.seamIdle = true → (s.tsState = 0 ∨ s.tsState = 3 ∨ s.tsState = 4) →
    s.autoOrder ≠ [] → s.shadowValid (s.autoOrder.headD 0) = true →
    (s.autoOrder.headD 0 ≠ s.selected ∨ s.srcFeed = false) →
    Does .autoSelect s fun t => t.seam.run = some { dst := s.autoOrder.headD 0, eo := 0 } ∧
      t.fld R.SEAM_STATUS_SEAMING = 1 ∧ FieldsKept s t [R.SEAM_STATUS_SEAMING] ∧ MemKept s t) ∧
  (∀ (s : State), s.powered = true → s.seamIdle = true → (s.tsState = 1 ∨ s.tsState = 2) → s.srcFeed = true →
    s.selectedGood = false → s.autoOrder ≠ [] → s.shadowValid (s.autoOrder.headD 0) = true →
    s.autoOrder.headD 0 ≠ s.selected →
    Does .autoSelect s fun t => t.seam.run = some { dst := s.autoOrder.headD 0, eo := 0 } ∧
      t.fld R.SEAM_STATUS_SEAMING = 1 ∧ FieldsKept s t [R.SEAM_STATUS_SEAMING] ∧ MemKept s t) ∧
  (∀ (s : State), s.powered = true →
    (s.autoOrder = [] ∨ ((s.tsState = 1 ∨ s.tsState = 2) ∧ (s.srcFeed = false ∨ s.selectedGood = true))) →
    Ignores .autoSelect s) ∧
  (∀ (s : State), s.powered = true → s.seamIdle = true → s.revertHolds = true → s.shadowValid s.prefCand = true →
    s.seam.wtr.isSome = true → s.seam.wtr.getD 0 + s.fld R.SEAM_WTR_WTR * fuPerSec ≤ s.tb.elapsed →
    Does .revertTimerExpire s fun t => t.seam.run = some { dst := s.prefCand, eo := s.handInput } ∧
      t.fld R.SEAM_STATUS_SEAMING = 1 ∧ FieldsKept s t [R.SEAM_STATUS_SEAMING] ∧ MemKept s t) ∧
  (∀ (s : State), s.powered = true →
    (s.seam.wtr = none ∨ s.tb.elapsed < s.seam.wtr.getD 0 + s.fld R.SEAM_WTR_WTR * fuPerSec) → Ignores .revertTimerExpire s) ∧
  (∀ (s : State) (n : Fin 48), s.powered = true → (s.seam.run.map (·.dst)) = some (n : Nat) →
    Does .seamComplete s fun t => t.selected = n ∧ t.seam.run = none ∧ t.fld R.SEAM_STATUS_SEAMING = 0 ∧
      t.fld R.SEAM_EVENTS_SEAM_DONE = 1 ∧ (t.seam.acq.map (·.1)).getD n.val = n.val ∧
      (s.candState n = 2 → t.fld R.SEAM_STATUS_PREARMED = 0 ∧ t.fld R.SEAM_STBY_FALLBACK = 0x3F) ∧ MemKept s t) ∧
  (∀ (s : State), s.powered = true → s.seam.run = none → Ignores .seamComplete s)

/-- R112, R113, R119, R446. -/
def Obligations.TimescaleStates : Prop :=
  (∀ (s : State), s.powered = true → s.lockReady = true →
    Does .tsLock s fun t => t.tsState = 2 ∧ t.fld R.SEAM_EVENTS_LOCK = 1 ∧
      (s.timeCand s.selected = true → s.tiFenced = false → t.fld R.TB_STATUS_TIME_UNCERTAIN = 0 ∧ t.uncBound = 0) ∧ MemKept s t) ∧
  (∀ (s : State), s.powered = true → s.unlockReady = true →
    Does .tsUnlock s fun t => t.tsState = 1 ∧ t.fld R.SEAM_EVENTS_UNLOCK = 1 ∧ t.seam.lockFrom = none ∧ t.selected = s.selected ∧
      MemKept s t) ∧
  (∀ (s : State), s.powered = true → s.lockReady = false → Ignores .tsLock s) ∧
  (∀ (s : State), s.powered = true → s.unlockReady = false → Ignores .tsUnlock s) ∧
  (∀ (s : State), s.powered = true → s.srcFeed = true → s.seamFenced = false → (s.tsState = 1 ∨ s.tsState = 2) →
    s.seam.feedAt + s.fld R.SEAM_FEED_LOSS_MS * fuPerMs ≤ s.tb.elapsed →
    Does .feedLossExpire s fun t => t.tsState = 3 ∧ t.fld R.SEAM_EVENTS_HO_ENTER = 1 ∧ t.selected = s.selected ∧
      t.seam.hoAt = s.tb.elapsed ∧ MemKept s t) ∧
  (∀ (s : State), s.powered = true →
    (s.srcFeed = false ∨ s.tb.elapsed < s.seam.feedAt + s.fld R.SEAM_FEED_LOSS_MS * fuPerMs) → Ignores .feedLossExpire s) ∧
  (∀ (s : State), s.powered = true → s.seamFenced = false → s.isFree = false →
    Does (.seamFreeWrite true) s fun t => t.isFree = true ∧ t.tsState = 0 ∧ t.selected = 0x3F ∧ t.seam.run = none ∧
      t.fld R.SEAM_STATUS_SEAMING = 0 ∧ t.tsv.y = t.integ ∧ MemKept s t) ∧
  (∀ (s : State), s.powered = true → s.seamFenced = false →
    Does (.seamFreeWrite false) s fun t => t.isFree = false ∧ OnlyFields s t [R.SEAM_CTL_FREE]) ∧
  (∀ (s : State) (b : Bool), s.powered = true → s.seamFenced = true → Ignores (.seamFreeWrite b) s)

/-- R115 to R122, R137. Rounding of published values is free (log 9). -/
def Obligations.HoldoverLearning : Prop :=
  (∀ (s : State) (temp : Int), s.powered = true →
    Does (.uncertaintyPublish temp) s fun t => t.fld R.SEAM_SUB_TEMP = ofSigned 32 temp ∧
      ((s.tsState = 3 ∨ s.tsState = 4) → t.pair R.SEAM_UNC_LO R.SEAM_UNC_HI
        = (Config.modelRound (s.readTemp temp).uExact).toNat % 2 ^ 64) ∧
      (s.tsState = 3 → s.seamFenced = false →
        s.pair R.SEAM_HOLD_LIMIT_LO_LIMIT R.SEAM_HOLD_LIMIT_HI_LIMIT < (Config.modelRound (s.readTemp temp).uExact).toNat →
        t.tsState = 4 ∧ t.fld R.SEAM_EVENTS_LOST_ENTER = 1) ∧
      (s.tsState ≠ 3 → t.tsState = s.tsState) ∧ MemKept s t) ∧
  (∀ (s : State) (temp : Int), s.powered = true → (s.readTemp temp).learning = true →
    Does (.learnSample temp) s fun t => t.seam.learnAt = s.tb.elapsed ∧ t.fld R.SEAM_SUB_TEMP = ofSigned 32 temp ∧
      t.seam.guard = ({ t := s.tb.elapsed, y := s.meanY, temp := temp } :: s.seam.guard).take (s.fld R.SEAM_HO_CFG_GUARD_S) ∧
      (s.seam.guard.length < s.fld R.SEAM_HO_CFG_GUARD_S → t.seam.window = s.seam.window) ∧ MemKept s t) ∧
  (∀ (s : State) (temp : Int), s.powered = true → (s.readTemp temp).learning = false →
    Does (.learnSample temp) s fun t => t.seam.learnAt = s.tb.elapsed ∧ t.seam.guard = s.seam.guard ∧
      t.seam.window = s.seam.window ∧ FieldsKept s t [R.SEAM_SUB_TEMP] ∧ MemKept s t) ∧
  (∀ (s : State), s.powered = true → s.seamFenced = false → s.tsState < 3 → s.seam.window ≠ [] →
    s.fld R.SEAM_HO_MIN_COMPLETE_S ≤ s.seam.window.length →
    Does .hoModelRecompute s fun t => t.seam.model.map (·.t0) = s.seam.window.head?.map (·.t) ∧
      t.fld R.SEAM_STATUS_LEARNED = 1 ∧
      t.pair R.SEAM_HO_S0_LO R.SEAM_HO_S0_HI = ofSigned 64 t.modelInUse.s0 ∧ MemKept s t) ∧
  (∀ (s : State), s.powered = true → (s.seamFenced = true ∨ s.tsState = 3 ∨ s.tsState = 4 ∨ s.seam.window.length < s.fld R.SEAM_HO_MIN_COMPLETE_S) →
    Ignores .hoModelRecompute s) ∧
  (∀ (s : State), s.powered = true → s.seamFenced = false → s.seam.day + (86400 * fuPerSec : Nat) ≤ (s.tb.elapsed : Int) →
    Does .dayClose s fun t => t.seam.day = s.seam.day + (86400 * fuPerSec : Nat) ∧ t.seam.dayN = 0 ∧
      (s.seam.dayN < 43200 → t.seam.days = s.seam.days.map (fun e => (e.1, min 65535 (e.2 + 1)))) ∧
      (43200 ≤ s.seam.dayN → t.seam.days.length = min 30 (s.seam.days.length + 1)) ∧
      FieldsKept s t [R.SEAM_HO_LEARN_DAYS] ∧ MemKept s t) ∧
  (∀ (s : State), s.powered = true → (s.tb.elapsed : Int) < s.seam.day + (86400 * fuPerSec : Nat) → Ignores .dayClose s) ∧
  (∀ (s : State), s.powered = true → s.seamFenced = false → s.seam.min60At + 60 * fuPerSec ≤ s.tb.elapsed →
    Does .tempMean60s s fun t => t.seam.min60 = [] ∧ t.seam.min60At = s.seam.min60At + 60 * fuPerSec ∧
      (∀ e ∈ t.seam.means, s.tb.elapsed ≤ e.t + 604800 * fuPerSec) ∧ t.regs = s.regs ∧ MemKept s t) ∧
  (∀ (s : State), s.powered = true → s.tb.elapsed < s.seam.min60At + 60 * fuPerSec → Ignores .tempMean60s s) ∧
  (∀ (s : State) (temp : Int), s.powered = true → (s.tsState = 3 ∨ s.tsState = 4) → s.holding = true →
    s.tservoFenced = false →
    Does (.hoModelEval temp) s fun t => t.tsv.hold = (s.readTemp temp).modelValue ∧
      t.pair R.TSV_STEER_LO R.TSV_STEER_HI = ofSigned 64 ((s.readTemp temp).modelValue + s.tsv.slew) ∧ MemKept s t) ∧
  (∀ (s : State) (temp : Int), s.powered = true → s.tsState < 3 →
    Does (.hoModelEval temp) s fun t => t.fld R.SEAM_SUB_TEMP = ofSigned 32 temp ∧ OnlyFields s t [R.SEAM_SUB_TEMP]) ∧
  (∀ (s : State), s.powered = true → s.fld R.SEAM_STATUS_LEARNED = 1 → s.fld R.SEAM_SNAP_PERIOD_PERIOD ≠ 0 →
    s.seamFenced = false → s.seam.snapAt + s.fld R.SEAM_SNAP_PERIOD_PERIOD * fuPerSec ≤ s.tb.elapsed →
    Does .snapshot s fun t => (∀ k : Fin 80, t.fld (R.SEAM_SNAP_WORD k) = s.snapshotBits / 2 ^ (32 * (k : Nat)) % 2 ^ 32) ∧
      t.fld R.SEAM_SNAP_SEQ = (s.fld R.SEAM_SNAP_SEQ + 1) % 2 ^ R.SEAM_SNAP_SEQ.width ∧ t.fld R.SEAM_EVENTS_SNAP = 1 ∧
      t.seam.snapAt = s.tb.elapsed ∧ MemKept s t) ∧
  (∀ (s : State), s.powered = true → (s.fld R.SEAM_STATUS_LEARNED = 0 ∨ s.fld R.SEAM_SNAP_PERIOD_PERIOD = 0) → Ignores .snapshot s)

/-- R57, R125 to R129, R163. -/
def Obligations.PressCommands : Prop :=
  let host (s t : State) (code : Nat) : Prop :=
    t.fld R.SEAM_PRESS_STATUS_RESULT = code ∧
    t.fld R.SEAM_PRESS_STATUS_SEQ = (s.fld R.SEAM_PRESS_STATUS_SEQ + 1) % 2 ^ R.SEAM_PRESS_STATUS_SEQ.width ∧
    (code ≠ 1 → t.fld R.SEAM_EVENTS_PRESS_DONE = 1) ∧ t.tb = s.tb ∧ MemKept s t ∧
    FieldsKept s t [R.SEAM_PRESS_STATUS_RESULT, R.SEAM_PRESS_STATUS_SEQ, R.SEAM_EVENTS_PRESS_DONE, R.SEAM_STATUS_PRESS_BUSY]
  let amt (s : State) : Int := s.int64 R.SEAM_PRESS_AMT_LO R.SEAM_PRESS_AMT_HI
  let at_ (s : State) : Nat := s.pair R.SEAM_PRESS_AT_LO R.SEAM_PRESS_AT_HI
  let late (s : State) : Prop := at_ s ≠ 0 ∧ at_ s ≤ s.hubSec
  let bound (s : State) : Nat := if at_ s = 0 then s.hubSec + 1 else at_ s
  let value (s : State) (target : Nat) : Int := if s.hasOffset target then -s.toff target else amt s
  (∀ (s : State) (al : Bool) (mask : BitVec 8), s.powered = true → s.seamFenced = false →
    Does (.pressCmdAlign al mask) s fun t => host s t
      (if s.fld R.SEAM_STATUS_PRESS_BUSY ≠ 0 then 2 else if al = false then 3 else if late s then 6 else 1) ∧
      (s.fld R.SEAM_STATUS_PRESS_BUSY = 0 → al = true → ¬ late s →
        t.seam.aligns.map (fun p => (p.at_, p.mask)) = s.seam.aligns.map (fun p => (p.at_, p.mask)) ++ [(bound s, mask.toNat)])) ∧
  (∀ (s : State) (al : Bool) (mask : BitVec 8) (target : Fin 64), s.powered = true → s.seamFenced = false →
    Does (.pressCmdStep al mask target) s fun t => host s t
      (if s.fld R.SEAM_STATUS_PRESS_BUSY ≠ 0 then 2
       else if (s.tb.now : Int) + value s target < 0 ∨ ((2 ^ 48 * fuPerSec : Nat) : Int) ≤ (s.tb.now : Int) + value s target then 3
       else if target ≠ 0x3F ∧ s.hasOffset target = false then 4 else if late s then 6 else 1) ∧
      (t.fld R.SEAM_PRESS_STATUS_RESULT = 1 →
        t.seam.press = some { form := .step, amt := amt s, at_ := bound s, align := al, mask := mask.toNat, target := target,
                              by_ := .host } ∧ t.fld R.SEAM_STATUS_PRESS_BUSY = 1)) ∧
  (∀ (s : State) (al : Bool) (mask : BitVec 8) (target : Fin 64), s.powered = true → s.seamFenced = false →
    Does (.pressCmdSlew al mask target) s fun t => host s t
      (if s.fld R.SEAM_STATUS_PRESS_BUSY ≠ 0 then 2 else if fuPerMs < (value s target).natAbs then 3
       else if target ≠ 0x3F ∧ s.hasOffset target = false then 4 else if late s then 6 else 1) ∧
      (t.fld R.SEAM_PRESS_STATUS_RESULT = 1 → t.fld R.SEAM_STATUS_PRESS_BUSY = 1 ∧
        t.seam.press = some { form := .slew, amt := amt s, at_ := bound s, align := al, mask := mask.toNat, target := target,
                              by_ := .host })) ∧
  (∀ (s : State), s.powered = true → s.seamFenced = false →
    Does .pressCmdAbort s fun t => t.fld R.SEAM_PRESS_STATUS_RESULT = 0 ∧ t.fld R.SEAM_EVENTS_PRESS_DONE = 1 ∧
      (s.seam.autoWait = false → t.seam.slew = none) ∧ t.seam.press = none ∧ t.tb = s.tb ∧ MemKept s t) ∧
  (∀ (s : State) (al : Bool) (mask : BitVec 8) (target : Fin 64), s.powered = true → s.seamFenced = true →
    ∀ c ∈ [.pressCmdAlign al mask, .pressCmdStep al mask target, .pressCmdSlew al mask target, .pressCmdAbort], Ignores c s) ∧
  (∀ (s : State) (p : Press), s.powered = true → s.seam.press = some p → p.form = .step → p.at_ ≤ s.hubSec →
    s.seamFenced = false → p.target = 0x3F →
    Does .pressStepApply s fun t => t.tb.now = ((s.tb.now : Int) + p.amt).toNat ∧ t.tb.elapsed = s.tb.elapsed ∧
      t.seam.press = none ∧ t.fld R.SEAM_PRESS_STATUS_RESULT = 0 ∧ t.fld R.SEAM_EVENTS_PRESS_DONE = 1 ∧
      (s.selected < 48 → t.buildout s.selected = s.buildout s.selected + p.amt) ∧
      (∀ k : Fin 8, t.pair (R.PPS_STANDOFF_LO k) (R.PPS_STANDOFF_HI k)
        = if p.align = true ∧ p.mask.testBit k = true then 0 else ofSigned 64 (s.standoff k + p.amt)) ∧ MemKept s t) ∧
  (∀ (s : State) (n : Fin 48), s.powered = true → (s.seam.acq.map (·.1)) = some (n : Nat) →
    (s.seam.acq.map (·.2)).getD 0 ≤ s.hubSec → s.seamFenced = false → s.hasOffset n = true →
    Does .acquisitionStep s fun t => t.tb.now = ((s.tb.now : Int) - s.toff n).toNat ∧ t.tb.elapsed = s.tb.elapsed ∧
      t.seam.acq = none ∧ t.buildout n = 0 ∧ t.fld (R.QUAL_CAND_STATE_STEPPED n) = 0 ∧
      t.fld R.SEAM_PRESS_STATUS_RESULT = 0 ∧ MemKept s t) ∧
  (∀ (s : State) (p : Press), s.powered = true → s.seam.aligns = [p] → p.at_ ≤ s.hubSec → s.seamFenced = false →
    Does .pressAlignApply s fun t => t.seam.aligns = [] ∧ t.fld R.SEAM_PRESS_STATUS_RESULT = 0 ∧ t.tb = s.tb ∧
      (∀ k : Fin 8, t.standoff k = if p.mask.testBit k = true then 0 else s.standoff k) ∧ MemKept s t) ∧
  (∀ (s : State) (p : Press), s.powered = true → s.seam.press = some p → p.form = .slew → p.at_ ≤ s.hubSec →
    s.seamFenced = false → p.target = 0x3F →
    Does .slewStart s fun t => t.seam.slew = some { amt := p.amt, rate := s.slewRate, num := 0, moved := 0, auto := false,
                                                    by_ := p.by_ } ∧
      t.seam.press = none ∧ t.fld R.SEAM_STATUS_PRESS_BUSY = 1 ∧
      t.pair R.SEAM_SLEW_REM_LO R.SEAM_SLEW_REM_HI = ofSigned 64 p.amt ∧ MemKept s t) ∧
  (∀ (s : State) (w : Slew), s.powered = true → s.seam.slew = some w → w.amt.natAbs ≤ w.moved + 1 →
    Does .slewEnd s fun t =>
      (w.auto = true ∨ s.seam.autoWait = false →
        t.seam.slew = none ∧ t.tsv.slew = 0 ∧ t.pair R.SEAM_SLEW_REM_LO R.SEAM_SLEW_REM_HI = 0) ∧
      t.tb.slewed = s.tb.slewed + (if w.amt < 0 then -1 else 1) * ((w.amt.natAbs - w.moved : Nat) : Int) ∧
      (w.auto = false → t.fld R.SEAM_PRESS_STATUS_RESULT = 0 ∧ t.fld R.SEAM_EVENTS_PRESS_DONE = 1) ∧ MemKept s t) ∧
  (∀ (s : State), s.powered = true → s.seam.press = none → s.seam.acq = none → s.seam.slew = none → s.seam.aligns = [] →
    ∀ c ∈ [.pressStepApply, .acquisitionStep, .pressAlignApply, .slewStart, .slewEnd], Ignores c s)

/-- R140 to R153. PLL states: 0 OFF, 2 LOCKING, 3 LOCKED, 4 UNLOCKED, 5 BAND_MISS. -/
def Obligations.PllCommands : Prop :=
  let nOk (s : State) (p : Fin 4) (n : Nat) : Prop :=
    80 ≤ n ∧ n ≤ 135 ∧ (n = s.pllN p ∨ s.pllState p = 0) ∧ (p ≠ 0 ∨ s.structural = true)
  (∀ (s : State) (p : Fin 4) (v : BitVec 32), s.powered = true → nOk s p (v.toNat % 256) → v.toNat / 2 ^ 13 % 8 < 5 →
    Does (.pllPlanWrite p v) s fun t => t.pllN p = v.toNat % 256 ∧
      t.fld (R.SYN_PLL_CFG_FILT p) = v.toNat / 2 ^ 13 % 8 ∧ t.fld (R.SYN_PLL_CFG_ICP p) = v.toNat / 2 ^ 8 % 32 ∧
      t.fld (R.SYN_PLL_CFG_LD_K p) = v.toNat / 2 ^ 16 % 2 ^ (R.SYN_PLL_CFG_LD_K p).width ∧
      t.fld (R.SYN_PLL_CFG_LD_M p) = v.toNat / 2 ^ 21 % 2 ^ (R.SYN_PLL_CFG_LD_M p).width ∧
      t.fld (R.SYN_PLL_CFG_LD_TH p) = v.toNat / 2 ^ 25 % 2 ^ (R.SYN_PLL_CFG_LD_TH p).width ∧
      t.fld (R.SYN_PLL_CFG_BOOT p) = v.toNat / 2 ^ 29 % 2 ∧
      OnlyFields s t [R.SYN_PLL_CFG_N p, R.SYN_PLL_CFG_FILT p, R.SYN_PLL_CFG_ICP p, R.SYN_PLL_CFG_LD_K p, R.SYN_PLL_CFG_LD_M p,
        R.SYN_PLL_CFG_LD_TH p, R.SYN_PLL_CFG_BOOT p]) ∧
  (∀ (s : State) (p : Fin 4) (v : BitVec 32), s.powered = true → ¬ nOk s p (v.toNat % 256) →
    Does (.pllPlanWrite p v) s fun t => t.pllN p = s.pllN p ∧ t.fld (R.SYN_PLL_EVENTS_PLAN_REJ p) = 1 ∧ MemKept s t) ∧
  (∀ (s : State) (p : Fin 4) (v : BitVec 32), s.powered = true → 5 ≤ v.toNat / 2 ^ 13 % 8 →
    Does (.pllPlanWrite p v) s fun t => t.fld (R.SYN_PLL_CFG_FILT p) = s.fld (R.SYN_PLL_CFG_FILT p) ∧
      t.fld (R.SYN_PLL_EVENTS_PLAN_REJ p) = 1 ∧ MemKept s t) ∧
  (∀ (s : State) (p : Fin 4) (e : Fin 64), s.powered = true → s.fenced (0x014 + p) = false →
    (s.pllState p = 0 ∨ s.pllState p = 5) → s.bandEntry p = some (e : Nat) →
    Does (.pllStart p) s fun t => t.pllState p = 2 ∧ t.fld (R.SYN_PLL_STATUS_ENTRY p) = e ∧
      t.fld (R.SYN_PLL_STATUS_BAND p) = s.fld (R.SYN_BAND_W0_BAND p e) % 2 ^ (R.SYN_PLL_STATUS_BAND p).width ∧
      t.fld (R.SYN_PLL_STATUS_BAND_STALE p) = 0 ∧ MemKept s t) ∧
  (∀ (s : State) (p : Fin 4), s.powered = true → s.fenced (0x014 + p) = false →
    (s.pllState p = 0 ∨ s.pllState p = 5) → s.bandEntry p = none →
    Does (.pllStart p) s fun t => t.pllState p = 5 ∧ t.fld (R.SYN_PLL_EVENTS_BAND_MISS p) = 1 ∧ MemKept s t) ∧
  (∀ (s : State) (p : Fin 4), s.powered = true → s.fenced (0x014 + p) = false → s.pllState p ≠ 0 → s.pllState p ≠ 5 →
    Ignores (.pllStart p) s) ∧
  (∀ (s : State) (p : Fin 4), s.powered = true → s.pwr.wakeDue = false → s.carriesOther p = false →
    Does (.pllStop p) s fun t => t.pllState p = 0 ∧ t.fld (R.SYN_PLL_STATUS_BAND_STALE p) = 0 ∧ MemKept s t) ∧
  (∀ (s : State) (p : Fin 4), s.powered = true → s.pwr.wakeDue = false → s.carriesOther p = true →
    Does (.pllStop p) s fun t => t.fld (R.SYN_PLL_EVENTS_CMD_REJ p) = 1 ∧ OnlyFields s t [R.SYN_PLL_EVENTS_CMD_REJ p]) ∧
  (∀ (s : State) (p q : Fin 4), s.powered = true → s.fld (R.SYN_DOMAIN_STANDIN p) = q → s.canCarry q p = true →
    s.domGated p = false →
    Does (.handover p) s fun t => t.domSrc p = q ∧
      (s.domSrc p ≠ q → t.fld (R.SYN_PLL_EVENTS_HANDOVER_DONE p) = 1) ∧
      FieldsKept s t [R.SYN_DOMAIN_SRC p, R.SYN_PLL_EVENTS_HANDOVER_DONE p, R.TB_STATUS_CLK_SRC, R.TB_STATUS_TIME_DEGRADED] ∧
      MemKept s t) ∧
  (∀ (s : State) (p : Fin 4), s.powered = true → s.canCarry (s.fld (R.SYN_DOMAIN_STANDIN p)) p = false →
    Does (.handover p) s fun t => t.fld (R.SYN_PLL_EVENTS_CMD_REJ p) = 1 ∧ OnlyFields s t [R.SYN_PLL_EVENTS_CMD_REJ p]) ∧
  (∀ (s : State) (p : Fin 4), s.powered = true → s.pllState p = 3 → s.domGated p = false →
    s.pllN p = s.pllN (s.domSrc p) → (s.ramp p).acc = 0 → (s.ramp p).phase = 0 →
    Does (.handback p) s fun t => t.domSrc p = p ∧
      (s.domSrc p ≠ p → t.fld (R.SYN_PLL_EVENTS_HANDOVER_DONE p) = 1) ∧
      FieldsKept s t [R.SYN_DOMAIN_SRC p, R.SYN_PLL_EVENTS_HANDOVER_DONE p, R.TB_STATUS_CLK_SRC, R.TB_STATUS_TIME_DEGRADED] ∧
      MemKept s t) ∧
  (∀ (s : State) (p : Fin 4), s.powered = true → s.pllState p = 3 → s.domGated p = true →
    (s.asleep = false ∨ p = 0) →
    Does (.handback p) s fun t => t.domSrc p = p ∧ t.domGated p = false ∧
      (∀ k : Fin 6, t.fld (R.OUT_STATUS_GATED (6 * p + k)) = 0 ∧ t.fld (R.OUT_STATUS_PHASE_LOST (6 * p + k)) = 1) ∧ MemKept s t) ∧
  (∀ (s : State) (p : Fin 4), s.powered = true → (s.pllState p ≠ 3 ∨ (s.domGated p = false ∧
      (s.pllN p ≠ s.pllN (s.domSrc p) ∨ (s.ramp p).acc ≠ 0 ∨ (s.ramp p).phase ≠ 0))) →
    Does (.handback p) s fun t => t.fld (R.SYN_PLL_EVENTS_CMD_REJ p) = 1 ∧ OnlyFields s t [R.SYN_PLL_EVENTS_CMD_REJ p]) ∧
  (∀ (s : State) (p : Fin 4), s.powered = true → p ≠ 0 → (s.ramp p).phase = 0 → s.carriesOther p = false →
    Does (.rotClr p) s fun t => (t.ramp p).acc = 0 ∧ t.pair (R.SYN_ROT_RPH_LO p) (R.SYN_ROT_RPH_HI p) = 0 ∧
      FieldsKept s t [R.SYN_ROT_RPH_LO p, R.SYN_ROT_RPH_HI p] ∧ MemKept s t) ∧
  (∀ (s : State) (p : Fin 4), s.powered = true → p ≠ 0 → ((s.ramp p).phase ≠ 0 ∨ s.carriesOther p = true) →
    Does (.rotClr p) s fun t => t.fld (R.SYN_PLL_EVENTS_CMD_REJ p) = 1 ∧ OnlyFields s t [R.SYN_PLL_EVENTS_CMD_REJ p]) ∧
  (∀ (s : State) (p : Fin 4) (count : Nat), s.powered = true → s.pwr.wakeDue = false →
    (s.pllState p = 2 ∨ s.pllState p = 4) → s.windowPasses p ((count : Int) - s.ldCycles p) = true →
    max 1 (s.fld (R.SYN_PLL_CFG_LD_M p)) ≤ Tab.get (fun _ => 0) s.syn.passes p + 1 →
    Does (.ldWindowEnd p count) s fun t => t.pllState p = 3 ∧ t.fld (R.SYN_PLL_EVENTS_LOCK p) = 1 ∧ MemKept s t) ∧
  (∀ (s : State) (p : Fin 4) (count : Nat), s.powered = true → s.pwr.wakeDue = false →
    (s.pllState p = 2 ∨ s.pllState p = 4) → s.windowPasses p ((count : Int) - s.ldCycles p) = true →
    Tab.get (fun _ => 0) s.syn.passes p + 1 < s.fld (R.SYN_PLL_CFG_LD_M p) →
    Does (.ldWindowEnd p count) s fun t => t.pllState p = s.pllState p ∧
      Tab.get (fun _ => 0) t.syn.passes p = Tab.get (fun _ => 0) s.syn.passes p + 1 ∧
      FieldsKept s t [R.SYN_LD_DELTA_DELTA p] ∧ MemKept s t) ∧
  (∀ (s : State) (p : Fin 4) (count : Nat), s.powered = true → s.pllState p = 3 → s.windowPasses p ((count : Int) - s.ldCycles p) = false →
    Does (.ldWindowEnd p count) s fun t => (t.pllState p = 4 ∨ t.fenced (0x014 + p) = true) ∧
      t.fld (R.SYN_PLL_EVENTS_UNLOCK p) = 1 ∧
      t.fld (R.SYN_PLL_EVENTS_UNLOCK_N p) = min (2 ^ (R.SYN_PLL_EVENTS_UNLOCK_N p).width - 1)
        (s.fld (R.SYN_PLL_EVENTS_UNLOCK_N p) + 1)) ∧
  (∀ (s : State) (p : Fin 4) (tc : Int), s.powered = true →
    Does (.bandStale p tc) s fun t => t.fld R.SYN_DIE_TEMP_TEMP = ofSigned 32 tc ∧
      ((s.pllState p = 2 ∨ s.pllState p = 3 ∨ s.pllState p = 4) → slotHolds (Tab.get slotDefault s.syn.slot p) tc = false →
        t.fld (R.SYN_PLL_STATUS_BAND_STALE p) = 1) ∧
      OnlyFields s t [R.SYN_DIE_TEMP_TEMP, R.SYN_PLL_STATUS_BAND_STALE p]) ∧
  (∀ (s : State) (p : Fin 4) (v : BitVec 32), s.powered = true →
    Does (.synDomainWrite p v) s fun t => t.fld (R.SYN_DOMAIN_STANDIN p) = v.toNat / 2 ^ 4 % 4 ∧
      t.fld (R.SYN_DOMAIN_AUTO p) = v.toNat / 2 ^ 6 % 2 ∧ t.fld (R.SYN_DOMAIN_AUTO_RETURN p) = v.toNat / 2 ^ 7 % 2 ∧
      (s.domGated p = false → OnlyFields s t [R.SYN_DOMAIN_STANDIN p, R.SYN_DOMAIN_AUTO p, R.SYN_DOMAIN_AUTO_RETURN p]) ∧
      MemKept s t)

/-- R140, R155, R156, R514. Generator p of the rows is that of PLL p + 1. -/
def Obligations.RampCommands : Prop :=
  (∀ (s : State) (p : Fin 3), s.powered = true →
    Does (.synRampGo p) s fun t =>
      let k := p.val + 1
      if s.rampFormat k = true then t.fld (R.SYN_RAMP_STATUS_RESULT k) = 7 ∧ OnlyFields s t [R.SYN_RAMP_STATUS_RESULT k]
      else if (s.ramp k).phase ≠ 0 then t.fld (R.SYN_PLL_EVENTS_CMD_REJ k) = 1 ∧ OnlyFields s t [R.SYN_PLL_EVENTS_CMD_REJ k]
      else if s.carriesOther k = true ∨ s.pllState k ≠ 3 then
        t.fld (R.SYN_RAMP_STATUS_RESULT k) = 6 ∧ OnlyFields s t [R.SYN_RAMP_STATUS_RESULT k]
      else if s.fld (R.SYN_RAMP_CTL_START_MODE k) = 0 then
        t.fld (R.SYN_RAMP_STATUS_RESULT k) = 2 ∧ t.fld (R.SYN_RAMP_STATUS_SEG k) = 0 ∧
        t.ramp k = { s.ramp k with phase := 2, hold := false, left := s.segDur k 0 } ∧
        FieldsKept s t [R.SYN_RAMP_STATUS_RESULT k, R.SYN_RAMP_STATUS_SEG k]
      else if s.rampAt k < s.tb.now + 2 * fuPerUs then
        t.fld (R.SYN_RAMP_STATUS_RESULT k) = 5 ∧ OnlyFields s t [R.SYN_RAMP_STATUS_RESULT k]
      else t.fld (R.SYN_RAMP_STATUS_RESULT k) = 1 ∧ (t.ramp k).phase = 1 ∧ FieldsKept s t [R.SYN_RAMP_STATUS_RESULT k]) ∧
  (∀ (s : State) (p : Fin 3), s.powered = true → (s.ramp (p.val + 1)).phase ≠ 0 →
    Does (.synRampAbort p) s fun t => t.fld (R.SYN_RAMP_STATUS_RESULT (p.val + 1)) = 4 ∧
      t.ramp (p.val + 1) = { s.ramp (p.val + 1) with phase := 0 } ∧
      FieldsKept s t [R.SYN_RAMP_STATUS_RESULT (p.val + 1)] ∧ MemKept s t) ∧
  (∀ (s : State) (p : Fin 3), s.powered = true → (s.ramp (p.val + 1)).phase = 0 →
    ∀ c ∈ [.synRampAbort p, .rampStartAt p], Ignores c s) ∧
  (∀ (s : State) (p : Fin 3), s.powered = true → (s.ramp (p.val + 1)).phase = 1 → s.rampAt (p.val + 1) ≤ s.tb.now →
    Does (.rampStartAt p) s fun t => t.fld (R.SYN_RAMP_STATUS_RESULT (p.val + 1)) = 2 ∧
      t.fld (R.SYN_RAMP_STATUS_SEG (p.val + 1)) = 0 ∧ (t.ramp (p.val + 1)).phase = 2 ∧
      (t.ramp (p.val + 1)).left = s.segDur (p.val + 1) 0 ∧
      FieldsKept s t [R.SYN_RAMP_STATUS_RESULT (p.val + 1), R.SYN_RAMP_STATUS_SEG (p.val + 1)] ∧ MemKept s t) ∧
  (∀ (s : State) (p : Fin 3), s.powered = true → (s.ramp (p.val + 1)).phase = 2 → 2 ≤ (s.ramp (p.val + 1)).left →
    Does (.rampUpdate p) s fun t =>
      let k := p.val + 1
      t.ramp k = { s.ramp k with left := (s.ramp k).left - 1, acc := (s.ramp k).acc + s.rampOut k * (fuPerUs : Int) } ∧
      ((s.ramp k).hold = false → t.pair (R.SYN_RAMP_OUT_LO k) (R.SYN_RAMP_OUT_HI k)
        = ofSigned 64 (s.rampOut k + s.segRate k (s.fld (R.SYN_RAMP_STATUS_SEG k)))) ∧
      ((s.ramp k).hold = true → t.rampOut k = s.rampOut k) ∧
      FieldsKept s t [R.SYN_RAMP_OUT_LO k, R.SYN_RAMP_OUT_HI k, R.SYN_ROT_RPH_LO k, R.SYN_ROT_RPH_HI k, R.SYN_ROT_FREQ_LO k,
        R.SYN_ROT_FREQ_HI k, R.SYN_PLL_STATUS_ROT_CLAMP k] ∧ MemKept s t)

/-- R150, R157 to R161. -/
def Obligations.ClockOutputCommands : Prop :=
  let fits (s : State) (i : Fin 24) (d std : Nat) : Prop := freqOk (s.pllN (i.val / 6)) d std = true
  (∀ (s : State) (i : Fin 24) (v : BitVec 32), s.powered = true → fits s i (s.fld (R.OUT_DIV_D i)) (v.toNat / 2 % 8) →
    s.lvcmosOk (3 + i.val / 6) (v.toNat / 2 % 8) = true →
    Does (.outCfgWrite i v) s fun t => t.fld (R.OUT_CFG_EN i) = v.toNat % 2 ∧ t.fld (R.OUT_CFG_STD i) = v.toNat / 2 % 8 ∧
      t.outOver i = false ∧ FieldsKept s t [R.OUT_CFG_EN i, R.OUT_CFG_STD i] ∧ MemKept s t) ∧
  (∀ (s : State) (i : Fin 24) (v : BitVec 32), s.powered = true →
    (¬ fits s i (s.fld (R.OUT_DIV_D i)) (v.toNat / 2 % 8) ∨ s.lvcmosOk (3 + i.val / 6) (v.toNat / 2 % 8) = false) →
    Does (.outCfgWrite i v) s fun t => t.fld (R.OUT_STATUS_STD_REJ i) = 1 ∧ OnlyFields s t [R.OUT_STATUS_STD_REJ i]) ∧
  (∀ (s : State) (i : Fin 24) (v : BitVec 32), s.powered = true → privileged i = false →
    2 ≤ v.toNat % 2 ^ 13 → v.toNat % 2 ^ 13 ≤ 4096 → fits s i (v.toNat % 2 ^ 13) (s.fld (R.OUT_CFG_STD i)) →
    Does (.outDivWrite i v) s fun t => t.fld (R.OUT_DIV_D i) = v.toNat % 2 ^ 13 ∧
      (s.fld (R.OUT_DIV_D i) ≠ v.toNat % 2 ^ 13 → t.fld (R.OUT_STATUS_PHASE_LOST i) = 1) ∧
      FieldsKept s t [R.OUT_DIV_D i, R.OUT_STATUS_PHASE_LOST i] ∧ MemKept s t) ∧
  (∀ (s : State) (i : Fin 24) (v : BitVec 32), s.powered = true → privileged i = true →
    2 ≤ v.toNat % 2 ^ 13 → v.toNat % 2 ^ 13 ≤ 4096 → fits s i (v.toNat % 2 ^ 13) (s.fld (R.OUT_CFG_STD i)) →
    1 ≤ v.toNat / 2 ^ 16 % 2 ^ 13 → v.toNat / 2 ^ 16 % 2 ^ 13 ≤ 4096 →
    freqOk 1 (v.toNat / 2 ^ 16 % 2 ^ 13) (s.fld (R.OUT_CFG_STD i)) = true →
    Does (.outDivWrite i v) s fun t => t.fld (R.OUT_DIV_D i) = v.toNat % 2 ^ 13 ∧
      t.fld (R.OUT_DIV_BYP_D i) = v.toNat / 2 ^ 16 % 2 ^ 13 ∧
      FieldsKept s t [R.OUT_DIV_D i, R.OUT_DIV_BYP_D i, R.OUT_STATUS_PHASE_LOST i] ∧ MemKept s t) ∧
  (∀ (s : State) (i : Fin 24) (v : BitVec 32), s.powered = true →
    (v.toNat % 2 ^ 13 < 2 ∨ 4096 < v.toNat % 2 ^ 13 ∨ ¬ fits s i (v.toNat % 2 ^ 13) (s.fld (R.OUT_CFG_STD i))) →
    Does (.outDivWrite i v) s fun t => t.fld (R.OUT_STATUS_STD_REJ i) = 1 ∧ OnlyFields s t [R.OUT_STATUS_STD_REJ i]) ∧
  (∀ (s : State) (i : Fin 24) (v : BitVec 12), s.powered = true →
    Does (.outTrimWrite i v) s fun t => t.fld (R.OUT_TRIM_TRIM i) = v.toNat ∧
      t.fld (R.OUT_STATUS_TRIM_BUSY i) = (if s.fld (R.OUT_TRIM_TRIM_NOW i) = v.toNat then 0 else 1) ∧
      OnlyFields s t [R.OUT_TRIM_TRIM i, R.OUT_STATUS_TRIM_BUSY i]) ∧
  (∀ (s : State) (i : Fin 24), s.powered = true → s.fld (R.OUT_TRIM_TRIM i) < 4096 → s.fld (R.OUT_TRIM_TRIM_NOW i) < 4096 →
    Does (.trimWalkStep i) s fun t =>
      let a := s.fld (R.OUT_TRIM_TRIM_NOW i); let b := s.fld (R.OUT_TRIM_TRIM i); let c := t.fld (R.OUT_TRIM_TRIM_NOW i)
      (a ≤ b → c = min b (a + 64)) ∧ (b ≤ a → c = max b (a - 64)) ∧
      t.fld (R.OUT_STATUS_TRIM_BUSY i) = (if c = b then 0 else 1) ∧
      OnlyFields s t [R.OUT_TRIM_TRIM_NOW i, R.OUT_STATUS_TRIM_BUSY i]) ∧
  (∀ (s : State), s.powered = true →
    Does .syncGo s fun t =>
      let at_ := decodeHub (s.triple R.OUT_SYNC_AT_0_AT R.OUT_SYNC_AT_1_AT R.OUT_SYNC_AT_2_AT)
      let code := if s.outs.sync ≠ none then 2 else if at_ < s.tb.now + 2 * fuPerUs then 3
        else if s.syncSet s.syncMask = [] then 4 else 1
      t.fld R.OUT_SYNC_STATUS_RESULT = code ∧
      (code = 1 → t.outs.sync = some { pin := false, mask := s.syncMask, at_ := at_, hold := false }) ∧
      (code ≠ 1 → t.outs = s.outs ∧
        t.fld R.OUT_SYNC_STATUS_SEQ = (s.fld R.OUT_SYNC_STATUS_SEQ + 1) % 2 ^ R.OUT_SYNC_STATUS_SEQ.width) ∧
      FieldsKept s t [R.OUT_SYNC_STATUS_RESULT, R.OUT_SYNC_STATUS_SEQ] ∧ MemKept s t) ∧
  (∀ (s : State), s.powered = true → s.fld R.OUT_SYNC_CTL_PIN_EN = 1 → s.outs.sync = none → s.syncSet s.syncMask ≠ [] →
    Does .syncInEdge s fun t => t.outs.sync = some { pin := true, mask := s.syncMask, at_ := s.tb.elapsed, hold := false } ∧
      t.regs = s.regs ∧ MemKept s t) ∧
  (∀ (s : State), s.powered = true → s.fld R.OUT_SYNC_CTL_PIN_EN = 1 → s.outs.sync ≠ none →
    Does .syncInEdge s fun t => t.fld R.OUT_SYNC_STATUS_PIN_IGN
        = min (2 ^ R.OUT_SYNC_STATUS_PIN_IGN.width - 1) (s.fld R.OUT_SYNC_STATUS_PIN_IGN + 1) ∧
      OnlyFields s t [R.OUT_SYNC_STATUS_PIN_IGN]) ∧
  (∀ (s : State), s.powered = true → s.fld R.OUT_SYNC_CTL_PIN_EN = 1 → s.outs.sync = none → s.syncSet s.syncMask = [] →
    Does .syncInEdge s fun t => t.fld R.OUT_SYNC_STATUS_RESULT = 4 ∧
      t.fld R.OUT_SYNC_STATUS_SEQ = (s.fld R.OUT_SYNC_STATUS_SEQ + 1) % 2 ^ R.OUT_SYNC_STATUS_SEQ.width ∧
      OnlyFields s t [R.OUT_SYNC_STATUS_RESULT, R.OUT_SYNC_STATUS_SEQ]) ∧
  (∀ (s : State), s.powered = true → s.fld R.OUT_SYNC_CTL_PIN_EN = 0 → Ignores .syncInEdge s) ∧
  (∀ (s : State) (w : SyncWait), s.powered = true → s.outs.sync = some w →
    (w.pin = true ∨ w.at_ ≤ s.tb.now + 200 * 65536) →
    Does .syncHoldStart s fun t => t.outs.sync = some { w with hold := true } ∧ t.regs = s.regs ∧ MemKept s t) ∧
  (∀ (s : State) (w : SyncWait) (at_ : Nat), s.powered = true → s.outs.sync = some w →
    (if w.pin then 240 * 65536 ≤ (s.tb.elapsed : Int) + (at_ : Int) - s.tb.now - w.at_
        ∧ (s.tb.elapsed : Int) + (at_ : Int) - s.tb.now - w.at_ ≤ 250 * 65536 ∧ ((at_ : Int) - s.tb.now).natAbs ≤ 10 * 65536
      else w.at_ ≤ at_ ∧ at_ < w.at_ + 10 * 65536 ∧ w.at_ ≤ s.tb.now) →
    Does (.syncInstant at_) s fun t => t.outs.sync = none ∧ t.fld R.OUT_SYNC_STATUS_RESULT = 0 ∧
      t.fld R.OUT_SYNC_STATUS_SEQ = (s.fld R.OUT_SYNC_STATUS_SEQ + 1) % 2 ^ R.OUT_SYNC_STATUS_SEQ.width ∧
      t.triple R.OUT_SYNC_INST_0_INST R.OUT_SYNC_INST_1_INST R.OUT_SYNC_INST_2_INST = encodeHub at_ ∧
      (∀ i : Fin 24, t.fld (R.OUT_STATUS_PHASE_LOST i)
        = if w.mask.testBit i = true ∧ s.syncable i = true then 0 else s.fld (R.OUT_STATUS_PHASE_LOST i)) ∧ MemKept s t) ∧
  (∀ (s : State) (at_ : Nat), s.powered = true → s.outs.sync = none →
    ∀ c ∈ [.syncHoldStart, .syncInstant at_], Ignores c s)

/-- R8, R162 to R166. Registers of PPS_CFG_WRITE: 0 CFG, 1 WIDTH, 2 and 3 OFFSET, 4 FR_PER_NS, 5 FR_PER_FU. -/
def Obligations.PulseOutputCommands : Prop :=
  (∀ (s : State) (k : Fin 8) (e : Int), s.powered = true → s.ppsEmits k = true → (s.pulse k).owed = some e →
    Does (.ppsEdge k) s fun t => (t.pulse k).owed = none ∧ (t.pulse k).last = (s.pulse k).last ∧
      (t.pulse k).n = (s.pulse k).n + 1 ∧ FieldsKept s t [R.PPS_STATUS_FR_DONE k, R.PPS_STATUS_RUNNING k] ∧ MemKept s t) ∧
  (∀ (s : State) (k : Fin 8), s.powered = true → s.ppsEmits k = true → (s.pulse k).owed = none → s.tb.running = true →
    s.ppsNext k ≤ (s.tb.now : Int) →
    Does (.ppsEdge k) s fun t => (t.pulse k).last = s.ppsNext k ∧ (t.pulse k).n = (s.pulse k).n + 1 ∧
      (t.pulse k).cf = s.fld (R.PPS_IRIG_CF k) ∧ (s.ppsMode k = 3 → (t.pulse k).irig = s.irigOut k (s.ppsNext k)) ∧
      (s.ppsMode k = 2 → (t.pulse k).m = (s.pulse k).m + 1 ∧ ((s.pulse k).left = 1 → (t.pulse k).seq = false ∧
        t.fld (R.PPS_STATUS_FR_DONE k) = 1)) ∧
      FieldsKept s t [R.PPS_STATUS_FR_DONE k, R.PPS_STATUS_RUNNING k] ∧ MemKept s t) ∧
  (∀ (s : State) (k : Fin 8), s.powered = true → (s.pulse k).owed = none → (s.ppsEmits k = false ∨ (s.tb.now : Int) < s.ppsNext k) → Ignores (.ppsEdge k) s) ∧
  (∀ (s : State) (k : Fin 8) (v : BitVec 32), s.powered = true →
    let mode := v.toNat / 2 % 4; let std := v.toNat / 2 ^ 3 % 4; let npps := v.toNat / 2 ^ 10 % 2 ^ 10
    std ≠ 3 → (std = 2 ∨ s.bankVdd 1 = std + 1) → (mode = 1 → 2 ≤ npps ∧ npps ≤ 999) →
    (mode = 2 → 20 * 65536 ≤ s.framePeriod k) → widthOk mode (s.fld (R.PPS_WIDTH_WIDTH k)) npps (s.framePeriod k) = true →
    Does (.ppsCfgWrite k 0 v) s fun t => t.fld (R.PPS_CFG_EN k) = v.toNat % 2 ∧ t.ppsMode k = mode ∧
      t.fld (R.PPS_CFG_STD k) = std ∧ t.fld (R.PPS_CFG_POL k) = v.toNat / 2 ^ 5 % 2 ∧
      t.fld (R.PPS_CFG_NPPS k) = npps ∧ t.fld (R.PPS_STATUS_RUNNING k) = (if t.ppsEmits k then 1 else 0) ∧ MemKept s t) ∧
  (∀ (s : State) (k : Fin 8) (v : BitVec 32), s.powered = true →
    let mode := v.toNat / 2 % 4; let std := v.toNat / 2 ^ 3 % 4; let npps := v.toNat / 2 ^ 10 % 2 ^ 10
    (std = 3 ∨ (std ≠ 2 ∧ s.bankVdd 1 ≠ std + 1) ∨ (mode = 1 ∧ (npps < 2 ∨ 999 < npps))
      ∨ (mode = 2 ∧ s.framePeriod k < 20 * 65536)
      ∨ widthOk mode (s.fld (R.PPS_WIDTH_WIDTH k)) npps (s.framePeriod k) = false) →
    Does (.ppsCfgWrite k 0 v) s fun t => t.fld (R.PPS_STATUS_CFG_REJ k) = 1 ∧ OnlyFields s t [R.PPS_STATUS_CFG_REJ k]) ∧
  (∀ (s : State) (k : Fin 8) (v : BitVec 32), s.powered = true →
    Does (.ppsCfgWrite k 1 v) s fun t =>
      if widthOk (s.ppsMode k) (v.toNat % 2 ^ 30) (s.fld (R.PPS_CFG_NPPS k)) (s.framePeriod k) = true then
        t.fld (R.PPS_WIDTH_WIDTH k) = v.toNat % 2 ^ 30 ∧ OnlyFields s t [R.PPS_WIDTH_WIDTH k]
      else t.fld (R.PPS_STATUS_CFG_REJ k) = 1 ∧ OnlyFields s t [R.PPS_STATUS_CFG_REJ k]) ∧
  (∀ (s : State) (k : Fin 8) (v : BitVec 32), s.powered = true → (s.pulse k).seq = false →
    Does (.ppsCfgWrite k 4 v) s fun t => t.fld (R.PPS_FR_PER_NS k) = v.toNat % 2 ^ (R.PPS_FR_PER_NS k).width ∧
      OnlyFields s t [R.PPS_FR_PER_NS k]) ∧
  (∀ (s : State) (k : Fin 8) (v : BitVec 32), s.powered = true → (s.pulse k).seq = true →
    v.toNat % 2 ^ (R.PPS_FR_PER_NS k).width * 65536 + s.fld (R.PPS_FR_PER_FU k) < 20 * 65536 →
    Does (.ppsCfgWrite k 4 v) s fun t => t.fld (R.PPS_STATUS_CFG_REJ k) = 1 ∧ OnlyFields s t [R.PPS_STATUS_CFG_REJ k]) ∧
  (∀ (s : State) (k : Fin 8) (v : BitVec 32), s.powered = true → s.ppsMode k = 2 → s.fld (R.PPS_CFG_EN k) = 1 →
    20 * 65536 ≤ s.framePeriod k →
    Does (.frArm k) s fun t => (t.pulse k).seq = true ∧ (t.pulse k).left = s.fld (R.PPS_FR_COUNT k) ∧
      s.tb.now + 2 * fuPerUs ≤ s.frameStart k + (t.pulse k).m * s.framePeriod k ∧
      ((t.pulse k).m ≠ 0 → s.frameStart k + ((t.pulse k).m - 1) * s.framePeriod k < s.tb.now + 2 * fuPerUs) ∧
      t.fld (R.PPS_STATUS_RUNNING k) = (if t.ppsEmits k then 1 else 0) ∧ FieldsKept s t [R.PPS_STATUS_RUNNING k] ∧ MemKept s t) ∧
  (∀ (s : State) (k : Fin 8), s.powered = true → s.ppsMode k = 2 → s.framePeriod k < 20 * 65536 →
    Does (.frArm k) s fun t => t.fld (R.PPS_STATUS_CFG_REJ k) = 1 ∧ OnlyFields s t [R.PPS_STATUS_CFG_REJ k]) ∧
  (∀ (s : State) (k : Fin 8), s.powered = true →
    Does (.frStop k) s fun t => (t.pulse k).seq = false ∧ t.fld (R.PPS_STATUS_RUNNING k) = (if t.ppsEmits k then 1 else 0) ∧
      FieldsKept s t [R.PPS_STATUS_RUNNING k] ∧ MemKept s t) ∧
  (∀ (s : State) (v : BitVec 32), s.powered = true →
    Does (.htRegCommit 3 v) s fun t =>
      let x := Tab.get (fun _ => 0) s.syn.stage R.OUT_SYNC_AT_0_AT.addr
        + 2 ^ 32 * Tab.get (fun _ => 0) s.syn.stage R.OUT_SYNC_AT_1_AT.addr + 2 ^ 64 * v.toNat
      if hubLegal x = true then x < 2 ^ 96 →
        t.triple R.OUT_SYNC_AT_0_AT R.OUT_SYNC_AT_1_AT R.OUT_SYNC_AT_2_AT = x ∧
        OnlyFields s t [R.OUT_SYNC_AT_0_AT, R.OUT_SYNC_AT_1_AT, R.OUT_SYNC_AT_2_AT]
      else t.fld R.OUT_SYNC_STATUS_HT_REJ = 1 ∧ OnlyFields s t [R.OUT_SYNC_STATUS_HT_REJ]) ∧
  (∀ (s : State) (p : Fin 3) (v : BitVec 32), s.powered = true →
    hubLegal (Tab.get (fun _ => 0) s.syn.stage (R.SYN_RAMP_AT_0_AT (p.val + 1)).addr
        + 2 ^ 32 * Tab.get (fun _ => 0) s.syn.stage (R.SYN_RAMP_AT_1_AT (p.val + 1)).addr + 2 ^ 64 * v.toNat) = false →
    Does (.htRegCommit ⟨p.val, by omega⟩ v) s fun t => t.fld (R.SYN_RAMP_STATUS_HT_REJ (p.val + 1)) = 1 ∧
      OnlyFields s t [R.SYN_RAMP_STATUS_HT_REJ (p.val + 1)]) ∧
  (∀ (s : State) (k : Fin 8) (v : BitVec 32), s.powered = true →
    let x := Tab.get (fun _ => 0) s.syn.stage (R.PPS_FR_START_0 k).addr
      + 2 ^ 32 * Tab.get (fun _ => 0) s.syn.stage (R.PPS_FR_START_1 k).addr + 2 ^ 64 * v.toNat
    hubLegal x = true → x < 2 ^ 96 →
    Does (.htRegCommit ⟨4 + k.val, by omega⟩ v) s fun t => t.frameStart k = decodeHub x ∧
      OnlyFields s t [R.PPS_FR_START_0 k, R.PPS_FR_START_1 k, R.PPS_FR_START_2 k])

/-- R172 to R181. -/
def Obligations.TdcStamps : Prop :=
  let takes (s : State) (c : Fin 104) (f : Bool) : Prop :=
    s.powered = true ∧ 64 ≤ c.val ∧ s.chOn c = true ∧ s.tb.running = true ∧ s.takesEdge c f = true
  let frame (s t : State) (c : Fin 104) (l : List Fld) : Prop :=
    FieldsKept s t (R.QUAL_CAND_EVENTS_GLITCH (c.val - 64) :: l) ∧ (s.owned c = false → FieldsKept s t l ∧ t.cands = s.cands) ∧
      MemKept s t
  (∀ (s : State) (c : Fin 104) (f : Bool) (num den : Nat), takes s c f → 0 < (s.tdcCh c).dec →
    Does (.tdcEdge c f num den) s fun t => t.tdcCh c = { s.tdcCh c with dec := (s.tdcCh c).dec - 1 } ∧ frame s t c []) ∧
  (∀ (s : State) (c : Fin 104) (f : Bool) (num den : Nat), takes s c f → (s.tdcCh c).dec = 0 →
    (s.coreless c = true ∨ (s.tdcCh c).blind (s.edgeAt num den) = true) →
    Does (.tdcEdge c f num den) s fun t => t.tdcCh c = { s.tdcCh c with dec := s.decimation c - 1, missed := true } ∧
      t.fld (R.TDC_CH_MISSED_COUNT c) = min (2 ^ (R.TDC_CH_MISSED_COUNT c).width - 1) (s.fld (R.TDC_CH_MISSED_COUNT c) + 1) ∧
      t.fld (R.TDC_CH_EVENTS_MISSED_SET c) = 1 ∧
      frame s t c [R.TDC_CH_MISSED_COUNT c, R.TDC_CH_EVENTS_MISSED_SET c]) ∧
  (∀ (s : State) (c : Fin 104) (f : Bool) (num den : Nat), takes s c f → (s.tdcCh c).dec = 0 → s.coreless c = false →
    (s.tdcCh c).blind (s.edgeAt num den) = false → s.fld (R.TDC_CH_CFG_EN c) = 1 → s.fld (R.TDC_CH_CFG_RING_EN c) = 1 → (s.tdcCh c).fifo.length < 64 →
    Does (.tdcEdge c f num den) s fun t =>
      t.tdcCh c = { s.tdcCh c with
        dec := s.decimation c - 1, missed := false, gap := false, lastAt := some (s.edgeAt num den), seq := ((s.tdcCh c).seq + 1) % 2 ^ 16,
        fifo := (s.tdcCh c).fifo ++ [s.stampRecord c (s.stampTime c num den) f] } ∧
      t.fld (R.TDC_CH_STATUS_LEVEL c) = (s.tdcCh c).fifo.length + 1 ∧
      t.fld (R.TDC_CH_STATUS_SEQ c) = (s.tdcCh c).seq % 2 ^ (R.TDC_CH_STATUS_SEQ c).width ∧
      ((s.tdcCh c).fifo.length = 47 → t.fld (R.TDC_CH_EVENTS_HIWAT c) = 1) ∧
      frame s t c [R.TDC_CH_STATUS_LEVEL c, R.TDC_CH_STATUS_SEQ c, R.TDC_CH_EVENTS_HIWAT c]) ∧
  (∀ (s : State) (c : Fin 104) (f : Bool) (num den : Nat), takes s c f → (s.tdcCh c).dec = 0 → s.coreless c = false →
    (s.tdcCh c).blind (s.edgeAt num den) = false → s.fld (R.TDC_CH_CFG_EN c) = 1 → s.fld (R.TDC_CH_CFG_RING_EN c) = 1 → 64 ≤ (s.tdcCh c).fifo.length →
    Does (.tdcEdge c f num den) s fun t =>
      (t.tdcCh c).gap = true ∧ (t.tdcCh c).fifo = (s.tdcCh c).fifo ∧ (t.tdcCh c).seq = ((s.tdcCh c).seq + 1) % 2 ^ 16 ∧
      t.fld (R.TDC_CH_DROP_COUNT c) = min (2 ^ (R.TDC_CH_DROP_COUNT c).width - 1) (s.fld (R.TDC_CH_DROP_COUNT c) + 1) ∧
      t.fld (R.TDC_CH_EVENTS_DROP_SET c) = 1 ∧ MemKept s t) ∧
  (∀ (s : State) (c : Fin 104) (f : Bool) (num den : Nat), takes s c f → (s.tdcCh c).dec = 0 → s.coreless c = false →
    (s.tdcCh c).blind (s.edgeAt num den) = false → s.fld (R.TDC_CH_CFG_RING_EN c) = 0 →
    Does (.tdcEdge c f num den) s fun t =>
      (t.tdcCh c).fifo = (s.tdcCh c).fifo ∧ (t.tdcCh c).seq = ((s.tdcCh c).seq + 1) % 2 ^ 16 ∧
      frame s t c [R.TDC_CH_STATUS_SEQ c]) ∧
  (∀ (s : State) (c : Fin 104) (f : Bool) (num den : Nat), s.powered = true →
    (c.val < 64 ∨ s.chOn c = false ∨ s.tb.running = false ∨ s.takesEdge c f = false) →
    Ignores (.tdcEdge c f num den) s) ∧
  (∀ (s : State) (c : Fin 104), s.powered = true → s.fabricMoves = true → s.ringsFenced = false → s.bankOpen 26 = true →
    s.bank.ecc = [] → s.writerNext = some (c : Nat) → s.fld (R.RING_CFG_ESZ c) = 0 →
    Does .tdcRingWrite s fun t =>
      let a := s.ringEntry c (s.ringTail c)
      t.bytes a 16 = (s.tdcCh c).fifo.headD 0 % 2 ^ 128 ∧ (t.tdcCh c).fifo = (s.tdcCh c).fifo.tail ∧
      t.ringTail c = (s.ringTail c + 1) % 2 ^ 17 ∧ t.ringHead c = s.ringHead c ∧
      t.fld (R.TDC_CH_STATUS_LEVEL c) = ((s.tdcCh c).fifo.length - 1) % 2 ^ (R.TDC_CH_STATUS_LEVEL c).width ∧
      MemKeptOutside s t a 16) ∧
  (∀ (s : State), s.powered = true → (s.fabricMoves = false ∨ s.ringsFenced = true ∨ s.writerNext = none) →
    Ignores .tdcRingWrite s)

/-- R175, R178, R183 to R191. -/
def Obligations.TdcCommands : Prop :=
  (∀ (s : State) (c : Fin 104) (en re : Bool), s.powered = true → 64 ≤ c.val →
    Does (.tdcChEnWrite c en re) s fun t => t.fld (R.TDC_CH_CFG_EN c) = (if en then 1 else 0) ∧
      t.fld (R.TDC_CH_CFG_RING_EN c) = (if re then 1 else 0) ∧
      (t.tdcCh c).seq = (if en = true ∧ s.fld (R.TDC_CH_CFG_EN c) = 0 then 0 else (s.tdcCh c).seq) ∧
      FieldsKept s t [R.TDC_CH_CFG_EN c, R.TDC_CH_CFG_RING_EN c] ∧ MemKept s t) ∧
  (∀ (s : State) (c : Fin 104) (en re : Bool), s.powered = true → c.val < 64 → Ignores (.tdcChEnWrite c en re) s) ∧
  (∀ (s : State) (c : Fin 104) (d : BitVec 25), s.powered = true → (isReft c || isMon c) = true → s.owned c = false →
    Does (.tdcChDecWrite c d) s fun t =>
      if 2 ^ 24 < d.toNat then t.fld (R.TDC_CH_EVENTS_CFG_REJ c) = 1 ∧ OnlyFields s t [R.TDC_CH_EVENTS_CFG_REJ c]
      else t.fld (R.TDC_CH_DEC_D c) = d.toNat ∧ (t.tdcCh c).dec = 0 ∧ FieldsKept s t [R.TDC_CH_DEC_D c]) ∧
  (∀ (s : State) (c : Fin 104) (d : BitVec 25), s.powered = true → ((isReft c || isMon c) = false ∨ s.owned c = true) →
    Ignores (.tdcChDecWrite c d) s) ∧
  (∀ (s : State) (temp : Int) (mw : Nat), s.powered = true →
    Does (.soakSet temp mw) s fun t =>
      (if 200 < (temp - 92000).natAbs then t.soak = true ∧ (s.soak = false → t.fld R.QUAL_STATUS_SOAK_HOLD = 1 ∧
        t.fld R.TDC_EVENTS_SOAK_SET = 1 ∧ t.tdc.soakAt = s.tb.elapsed) else t.soak = s.soak ∧ t.tdc = s.tdc) ∧
      t.fld R.TDC_OVEN_TEMP_TEMP = ofSigned 32 temp ∧
      t.fld R.TDC_OVEN_HEAT_MW = (if s.tdc.heater then min 65535 mw else 0) ∧
      FieldsKept s t [R.TDC_STATUS_SOAK, R.QUAL_STATUS_SOAK_HOLD, R.TDC_EVENTS_SOAK_SET, R.TDC_OVEN_TEMP_TEMP, R.TDC_OVEN_HEAT_MW,
        R.TDC_OVEN_SETTLE_SECONDS] ∧ MemKept s t) ∧
  (∀ (s : State) (temp : Int) (mw settle : Nat), s.powered = true → s.soak = true → s.tdc.heater = true → 60 ≤ settle →
    (temp - 92000).natAbs ≤ 50 →
    Does (.soakClear temp mw settle) s fun t => t.soak = false ∧ t.fld R.QUAL_STATUS_SOAK_HOLD = 0 ∧
      t.fld R.TDC_EVENTS_SOAK_CLR = 1 ∧
      (s.fld R.TDC_CAL_CFG_SOAK_CAL = 1 → ∀ c : Fin 104, t.fld (R.TDC_CH_STATUS_CAL_DUE c) = 1) ∧
      t.fld R.TDC_OVEN_SETTLE_SECONDS = min 65535 settle ∧ MemKept s t) ∧
  (∀ (s : State) (temp : Int) (mw settle : Nat), s.powered = true → (s.tdc.heater = false ∨ settle < 60 ∨ 50 < (temp - 92000).natAbs) →
    Does (.soakClear temp mw settle) s fun t => t.soak = s.soak ∧ t.fld R.TDC_OVEN_TEMP_TEMP = ofSigned 32 temp ∧
      OnlyFields s t [R.TDC_OVEN_TEMP_TEMP, R.TDC_OVEN_HEAT_MW, R.TDC_OVEN_SETTLE_SECONDS]) ∧
  (∀ (s : State) (temp : Int) (mw : Nat), s.powered = true → s.soak = true → s.tdc.slow = false →
    s.tdc.soakAt + (900 * fuPerSec : Nat) ≤ (s.tb.elapsed : Int) →
    Does (.ovenSlow temp mw) s fun t => t.tdc.slow = true ∧ t.fld R.TDC_EVENTS_OVEN_SLOW = 1 ∧
      t.fld R.TDC_OVEN_TEMP_TEMP = ofSigned 32 temp) ∧
  (∀ (s : State) (temp : Int) (mw : Nat), s.powered = true → (s.soak = false ∨ s.tdc.slow = true) →
    Does (.ovenSlow temp mw) s fun t => t.fld R.TDC_OVEN_TEMP_TEMP = ofSigned 32 temp ∧
      OnlyFields s t [R.TDC_OVEN_TEMP_TEMP, R.TDC_OVEN_HEAT_MW, R.TDC_OVEN_SETTLE_SECONDS]) ∧
  (∀ (s : State) (c : Fin 128), s.powered = true →
    Does (.tdcCalGo c) s fun t =>
      let code := if 103 < c.val then 8 else if s.soak = true then 7
        else if s.cal c ≠ none ∨ (s.subst c = true ∧ s.fenced (0x100 + c) = true) then 4
        else if s.chOn c = true ∧ s.subst c = false ∧ s.freeSpares = [] then 3 else 1
      t.fld R.TDC_CAL_STATUS_RESULT = code ∧ t.fld R.TDC_CAL_STATUS_CH = c ∧
      t.fld R.TDC_CAL_STATUS_SEQ = (s.fld R.TDC_CAL_STATUS_SEQ + 1) % 2 ^ R.TDC_CAL_STATUS_SEQ.width ∧
      t.fld R.TDC_CAL_STATUS_UNCHECKED = 0 ∧ (code = 1 → t.cal c ≠ none) ∧ (code ≠ 1 → t.tdc = s.tdc) ∧ MemKept s t) ∧
  (∀ (s : State) (c : Fin 104) (k : Fin 4) (common : Nat) (diff : Int) (a : Option Nat) (r : Bool), s.powered = true →
    s.cal c = some ⟨0, some k, a, r⟩ →
    Does (.tdcOverlapEnd c common diff) s fun t =>
      if 2 ≤ common ∧ s.fld R.TDC_CAL_CFG_TOL < diff.natAbs then t.cal c = none ∧ t.fld (R.TDC_SPARE_USE k) = 0 ∧
        t.fld R.TDC_EVENTS_CAL_END = 1
      else t.cal c = some ⟨1, some k, a, r⟩ ∧ t.fld (R.TDC_CH_STATUS_SUBST c) = 1 ∧ t.fld (R.TDC_CH_STATUS_SPARE c) = k) ∧
  (∀ (s : State) (c : Fin 104) (k : Fin 4) (common : Nat) (diff : Int) (a : Option Nat) (r : Bool), s.powered = true →
    s.cal c = some ⟨2, some k, a, r⟩ →
    Does (.tdcOverlapEnd c common diff) s fun t => t.cal c = none ∧ t.fld R.TDC_EVENTS_CAL_END = 1 ∧
      if 2 ≤ common ∧ s.fld R.TDC_CAL_CFG_TOL < diff.natAbs then
        t.fld (R.TDC_SPARE_USE k) = 2 ∧ t.fld (R.TDC_SPARE_TARGET k) = c
      else t.fld (R.TDC_SPARE_USE k) = 0 ∧ t.fld (R.TDC_CH_STATUS_SUBST c) = 0) ∧
  (∀ (s : State) (c : Fin 104) (common : Nat) (diff : Int), s.powered = true → s.cal c = none →
    Ignores (.tdcOverlapEnd c common diff) s) ∧
  (∀ (s : State) (c : Fin 104) (k : Fin 4) (residual : Nat) (a : Option Nat) (r : Bool), s.powered = true →
    s.cal c = some ⟨1, some k, a, r⟩ → residual ≤ 33 →
    Does (.tdcCoreCalDone (c.castLE (by decide)) residual) s fun t => t.cal c = some ⟨2, some k, a, r⟩ ∧
      t.fld (R.TDC_CH_CAL_INL c) = residual ∧ t.fld (R.TDC_CH_CAL_CAL_TEMP c) = ofSigned 16 (s.dieTemp / 10) ∧
      t.fld (R.TDC_CH_STATUS_CAL_DUE c) = 0 ∧ MemKept s t) ∧
  (∀ (s : State) (c : Fin 104) (residual : Nat) (a : Option Nat) (r : Bool), s.powered = true →
    s.cal c = some ⟨1, none, a, r⟩ → residual ≤ 33 →
    Does (.tdcCoreCalDone (c.castLE (by decide)) residual) s fun t => t.cal c = none ∧ t.fld R.TDC_EVENTS_CAL_END = 1 ∧
      t.fld (R.TDC_CH_STATUS_CAL_DUE c) = 0 ∧ MemKept s t) ∧
  (∀ (s : State) (c : Fin 104) (k : Fin 4) (residual : Nat) (a : Option Nat) (r : Bool), s.powered = true →
    s.cal c = some ⟨1, some k, a, r⟩ → 33 < residual →
    Does (.tdcCoreCalDone (c.castLE (by decide)) residual) s fun t => t.cal c = none ∧ t.fld R.TDC_EVENTS_CAL_END = 1 ∧
      t.fld (R.TDC_SPARE_USE k) = 2 ∧ t.fld (R.TDC_SPARE_TARGET k) = c ∧ t.fld (R.TDC_CH_STATUS_CAL_DUE c) = 0) ∧
  (∀ (s : State) (c : Fin 104) (residual : Nat), s.powered = true → s.cal c = none → Ignores (.tdcCoreCalDone (c.castLE (by decide)) residual) s) ∧
  (∀ (s : State) (k : Fin 4) (residual : Nat), s.powered = true →
    s.fld (R.TDC_SPARE_USE k) = 1 → s.fld (R.TDC_SPARE_TARGET k) = 0x7F → residual ≤ 33 →
    Does (.tdcCoreCalDone (Fin.ofNat 108 (104 + k)) residual) s fun t => t.fld (R.TDC_SPARE_USE k) = 0 ∧
      t.fld R.TDC_EVENTS_CAL_END = 1 ∧ t.spareDue k = false ∧ MemKept s t) ∧
  (∀ (s : State) (c : Fin 104), s.powered = true →
    Does (.tdcCalDue (c.castLE (by decide))) s fun t =>
      let moved := s.fld R.TDC_CAL_CFG_AUTO_DT ≠ 0 ∧ 100 * s.fld R.TDC_CAL_CFG_AUTO_DT
        < (s.dieTemp - 10 * toSigned 16 (s.fld (R.TDC_CH_CAL_CAL_TEMP c))).natAbs
      t.fld (R.TDC_CH_STATUS_CAL_DUE c) = (if moved then 1 else s.fld (R.TDC_CH_STATUS_CAL_DUE c)) ∧
      OnlyFields s t [R.TDC_CH_STATUS_CAL_DUE c]) ∧
  (∀ (s : State) (k : Fin 4), s.powered = true →
    Does (.tdcCalDue (Fin.ofNat 108 (104 + k))) s fun t =>
      let moved := s.fld R.TDC_CAL_CFG_AUTO_DT ≠ 0 ∧ 100 * s.fld R.TDC_CAL_CFG_AUTO_DT
        < (s.dieTemp - 10 * Tab.get (fun _ => 0) s.tdc.spareTemp k).natAbs
      t.spareDue k = (decide moved || s.spareDue k) ∧ t.regs = s.regs ∧ MemKept s t) ∧
  (∀ (s : State) (k : Fin 4), s.powered = true → (∀ c : Fin 104, s.canAuto c = false) → s.spareAuto k = true →
    (∀ j : Fin 4, j < k → s.spareAuto j = false) →
    Does .tdcAutoCalStart s fun t => t.spareCalibrated k = true ∧ t.tdc = s.tdc ∧
      FieldsKept s t [R.TDC_SPARE_USE k, R.TDC_SPARE_TARGET k, R.TDC_STATUS_SPARE_FREE] ∧ MemKept s t) ∧
  (∀ (s : State) (c : Fin 104), s.powered = true → s.canAuto c = true → (∀ d : Fin 104, d < c → s.canAuto d = false) →
    Does .tdcAutoCalStart s fun t => t.cal c ≠ none ∧ (∀ d : Fin 104, d ≠ c → t.cal d = s.cal d) ∧ MemKept s t) ∧
  (∀ (s : State), s.powered = true → (∀ c : Fin 104, s.canAuto c = false) → (∀ k : Fin 4, s.spareAuto k = false) →
    Ignores .tdcAutoCalStart s)

/-- R197 to R200, R213, R218, R222, R223, R423, R426, R443. States: 0 DISABLED, 1 DOWN, 2 TRAINING, 3 UP, 4 FENCED. -/
def Obligations.LinkPortStates : Prop :=
  let back (s t : State) (n : Fin 32) : Prop :=
    t.linkState n = (if s.linkState n = 2 ∨ s.linkState n = 3 then 1 else s.linkState n) ∧
    (s.linkState n = 3 → t.fld (R.LNK_EVENTS_DOWN n) = 1) ∧ MemKept s t
  (∀ (s : State) (n : Fin 32) (v : BitVec 32), s.powered = true → s.pwrState ≠ 2 → s.fld (R.LNK_CFG_EN n) = 0 →
    s.enableOk n = true → s.linkState n = 0 → rateOk (v.toNat / 2 % 4) (v.toNat / 8 % 4) = true → v.toNat / 128 % 4 ≠ 3 →
    Does (.linkEnable n v) s fun t => t.fld (R.LNK_CFG_EN n) = 1 ∧ t.linkState n = 1 ∧
      t.fld (R.LNK_CFG_RATE n) = v.toNat / 2 % 4 ∧ t.fld (R.LNK_CFG_FEC n) = v.toNat / 8 % 4 ∧
      t.fld (R.LNK_CFG_AN n) = v.toNat / 32 % 2 ∧ t.fld (R.LNK_CFG_OTHER_EN n) = v.toNat / 64 % 2 ∧
      t.fld (R.LNK_CFG_ACCEPT n) = v.toNat / 128 % 4 ∧ t.fld (R.LNK_CFG_ESMC_TX n) = v.toNat / 512 % 2 ∧
      t.fld (R.LNK_CFG_ESMC_RX n) = v.toNat / 1024 % 2 ∧ t.fld (R.LNK_CFG_FENCE_TXDIS n) = v.toNat / 2048 % 2 ∧
      t.fld (R.QUAL_CAND_NOM_NOM (16 + n.val)) = 156250 ∧
      OnlyFields s t [R.LNK_CFG_EN n, R.LNK_CFG_RATE n, R.LNK_CFG_FEC n, R.LNK_CFG_AN n, R.LNK_CFG_OTHER_EN n, R.LNK_CFG_ACCEPT n,
        R.LNK_CFG_ESMC_TX n, R.LNK_CFG_ESMC_RX n, R.LNK_CFG_FENCE_TXDIS n, R.LNK_STATUS_STATE n, R.QUAL_CAND_NOM_NOM (16 + n.val)]) ∧
  (∀ (s : State) (n : Fin 32) (v : BitVec 32), s.powered = true → s.pwrState ≠ 2 → s.fld (R.LNK_CFG_EN n) = 0 →
    s.enableOk n = false →
    Does (.linkEnable n v) s fun t => t.fld (R.LNK_CFG_EN n) = 0 ∧ t.linkState n = s.linkState n ∧
      t.fld (R.LNK_EVENTS_CFG_REJ n) = 1 ∧ MemKept s t) ∧
  (∀ (s : State) (n : Fin 32) (v : BitVec 32), s.powered = true → s.pwrState ≠ 2 → s.fld (R.LNK_CFG_EN n) = 1 →
    s.linkState n ≠ 4 → s.ringCount (32 + n.val) = 0 → (s.link n).cal = [] →
    Does (.linkDisable n v) s fun t => t.fld (R.LNK_CFG_EN n) = 0 ∧ t.linkState n = 0 ∧ (t.link n).cal = [] ∧
      t.fld (R.LNK_STATUS_CDR_LOCK n) = 0 ∧ t.fld (R.LNK_STATUS_PC_RUN n) = 0 ∧ t.fld (R.LNK_STATUS_PHASE_LOST n) = 1 ∧
      MemKept s t) ∧
  (∀ (s : State) (n : Fin 32) (v : BitVec 32), s.powered = true → s.pwrState = 2 →
    ∀ c ∈ [.linkEnable n v, .linkDisable n v, .pcArm n, .pcStop n, .linkReadmit n], Does c s fun t =>
      t.fld (R.PWR_DOFF_COUNT 5) = min (2 ^ (R.PWR_DOFF_COUNT 5).width - 1) (s.fld (R.PWR_DOFF_COUNT 5) + 1) ∧
      OnlyFields s t [R.PWR_DOFF_COUNT 5]) ∧
  (∀ (s : State) (n : Fin 32) (phase : Int), s.powered = true → s.linkState n = 1 → s.moduleOk n = true →
    Does (.cdrLock n phase) s fun t => t.linkState n = 2 ∧ t.fld (R.LNK_STATUS_CDR_LOCK n) = 1 ∧
      (s.fld (R.LNK_STATUS_CDR_LOCK n) = 0 → (t.link n).lockV = phase ∧ (t.link n).lockAt = s.tb.elapsed) ∧
      FieldsKept s t [R.LNK_STATUS_STATE n, R.LNK_STATUS_CDR_LOCK n] ∧ MemKept s t) ∧
  (∀ (s : State) (n : Fin 32) (phase : Int), s.powered = true → (s.linkState n = 0 ∨ s.linkState n = 4) →
    Ignores (.cdrLock n phase) s) ∧
  (∀ (s : State) (n : Fin 32), s.linkState n = 0 → s.txDisable n = true) ∧
  (∀ (s : State) (n : Fin 32), s.linkState n = 4 → s.txDisable n = decide (s.fld (R.LNK_CFG_FENCE_TXDIS n) ≠ 0)) ∧
  (∀ (s : State) (n : Fin 32), 1 ≤ s.linkState n → s.linkState n ≤ 3 → s.txDisable n = false) ∧
  (∀ (s : State) (n : Fin 32) (an : Bool), s.powered = true → s.linkState n = 2 →
    (s.fld (R.LNK_CFG_RATE n) ≠ 0 ∨ s.fld (R.LNK_CFG_AN n) = 0 ∨ an = true) →
    Does (.blockLock n an) s fun t => t.linkState n = 3 ∧ t.fld (R.LNK_EVENTS_UP n) = 1 ∧
      (s.fld (R.LNK_CFG_RATE n) = 0 → s.fld (R.LNK_CFG_AN n) = 1 → t.fld (R.LNK_STATUS_AN_DONE n) = 1) ∧
      OnlyFields s t [R.LNK_STATUS_STATE n, R.LNK_EVENTS_UP n, R.LNK_STATUS_AN_DONE n]) ∧
  (∀ (s : State) (n : Fin 32), s.powered = true → s.linkState n ≠ 2 → Ignores (.blockLock n true) s) ∧
  (∀ (s : State) (n : Fin 32), s.powered = true → s.fld (R.LNK_STATUS_CDR_LOCK n) = 1 →
    Does (.cdrLoss n) s fun t => back s t n ∧ t.fld (R.LNK_STATUS_CDR_LOCK n) = 0 ∧ t.fld (R.LNK_STATUS_PC_RUN n) = 0 ∧
      t.fld (R.LNK_STATUS_PHASE_LOST n) = 1 ∧ t.fld (R.LNK_EVENTS_PHASE_LOST_SET n) = 1 ∧ (t.link n).rt = []) ∧
  (∀ (s : State) (n : Fin 32), s.powered = true → s.fld (R.LNK_STATUS_CDR_LOCK n) = 0 → Ignores (.cdrLoss n) s) ∧
  (∀ (s : State) (n : Fin 32), s.powered = true →
    Does (.blockLockLoss n) s fun t => back s t n ∧
      OnlyFields s t [R.LNK_STATUS_STATE n, R.LNK_STATUS_AN_DONE n, R.LNK_EVENTS_DOWN n]) ∧
  (∀ (s : State) (n : Fin 32), Does (.moduleLos n true) s fun t => back s t n ∧ t.fld (R.LNK_STATUS_MOD_LOS n) = 1) ∧
  (∀ (s : State) (n : Fin 32), Does (.moduleLos n false) s fun t => t.fld (R.LNK_STATUS_MOD_LOS n) = 0 ∧
    t.linkState n = (if s.linkState n = 1 ∧ s.fld (R.LNK_STATUS_CDR_LOCK n) ≠ 0 ∧ s.fld (R.LNK_STATUS_MOD_ABS n) = 0 then 2
      else s.linkState n) ∧ OnlyFields s t [R.LNK_STATUS_MOD_LOS n, R.LNK_STATUS_STATE n]) ∧
  (∀ (s : State) (n : Fin 32), Does (.modulePresence n true) s fun t => back s t n ∧ t.fld (R.LNK_STATUS_MOD_ABS n) = 1 ∧
    OnlyFields s t [R.LNK_STATUS_MOD_ABS n, R.LNK_STATUS_STATE n, R.LNK_STATUS_AN_DONE n, R.LNK_EVENTS_DOWN n]) ∧
  (∀ (s : State) (n : Fin 32), Does (.modulePresence n false) s fun t => t.fld (R.LNK_STATUS_MOD_ABS n) = 0 ∧
    t.linkState n = (if s.linkState n = 1 ∧ s.fld (R.LNK_STATUS_CDR_LOCK n) ≠ 0 ∧ s.fld (R.LNK_STATUS_MOD_LOS n) = 0 then 2
      else s.linkState n) ∧ OnlyFields s t [R.LNK_STATUS_MOD_ABS n, R.LNK_STATUS_STATE n]) ∧
  (∀ (s : State) (n : Fin 32), s.pwrState < 3 → s.fld (R.LNK_STATUS_MOD_TX_FAULT n) = 0 → s.pwr.wakeDue = false →
    Does (.moduleTxFault n true) s fun t => t.fld (R.LNK_STATUS_MOD_TX_FAULT n) = 1 ∧
      t.fld (R.FLT_SRC_LAST_CLASS (0x020 + n.val)) = 1 ∧ t.fld (R.FLT_SRC_LAST_CAUSE (0x020 + n.val)) = 0x0E ∧ MemKept s t) ∧
  (∀ (s : State) (n : Fin 32), Does (.moduleTxFault n false) s fun t => t.fld (R.LNK_STATUS_MOD_TX_FAULT n) = 0 ∧
    OnlyFields s t [R.LNK_STATUS_MOD_TX_FAULT n]) ∧
  (∀ (s : State) (n : Fin 32), s.powered = true → s.linkState n = 3 →
    Does (.pcsBlockErrors n) s fun t => t.fld (R.FLT_SRC_LAST_CAUSE (0x020 + n.val)) = 0x0F
      ∨ t.fld (R.FLT_SRC_LAST_CAUSE (0x020 + n.val)) = 0x02) ∧
  (∀ (s : State) (n : Fin 32), s.powered = true → s.linkState n ≠ 3 → Ignores (.pcsBlockErrors n) s) ∧
  (∀ (s : State) (n : Fin 32), s.powered = true → s.pwrState ≠ 2 → s.readmitOk n = true →
    Does (.linkReadmit n) s fun t => t.linkState n = (if s.fld (R.LNK_CFG_EN n) ≠ 0 then 1 else 0) ∧
      t.fenced (0x020 + n.val) = false ∧ t.fenced (0x040 + n.val) = false ∧ MemKept s t) ∧
  (∀ (s : State) (n : Fin 32), s.powered = true → s.pwrState ≠ 2 → s.readmitOk n = false →
    Does (.linkReadmit n) s fun t => t.fld (R.LNK_EVENTS_CFG_REJ n) = 1 ∧ OnlyFields s t [R.LNK_EVENTS_CFG_REJ n])

/-- R201 to R208, R216 to R220. -/
def Obligations.LinkTraffic : Prop :=
  let sat (s t : State) (f : Fld) : Prop := t.fld f = min (2 ^ f.width - 1) (s.fld f + 1)
  (∀ (s : State) (n : Fin 32) (f : List (BitVec 8)) (g x : Bool) (num den : Nat), s.powered = true → s.linkState n = 4 →
    (s.link n).rxCut = true →
    Does (.linkRxFrame n f g num den x) s fun t => sat s t (R.LNK_RX_FENCED n) ∧ (t.link n).rxCut = false ∧
      FieldsKept s t [R.LNK_RX_FENCED n] ∧ MemKept s t) ∧
  (∀ (s : State) (n : Fin 32) (f : List (BitVec 8)) (g x : Bool) (num den : Nat), s.powered = true → s.linkState n = 4 →
    (s.link n).rxCut = false → Ignores (.linkRxFrame n f g num den x) s) ∧
  (∀ (s : State) (n : Fin 32) (f : List (BitVec 8)) (g x : Bool) (num den : Nat), s.powered = true → s.linkState n < 3 →
    Ignores (.linkRxFrame n f g num den x) s) ∧
  (∀ (s : State) (n : Fin 32) (f : List (BitVec 8)) (g x : Bool) (num den : Nat), s.powered = true → s.linkState n = 3 →
    (g = false ∨ rxError f = true) →
    Does (.linkRxFrame n f g num den x) s fun t => sat s t (R.LNK_RX_ERR n) ∧ OnlyFields s t [R.LNK_RX_ERR n]) ∧
  (∀ (s : State) (n : Fin 32) (f : List (BitVec 8)) (x : Bool) (num den : Nat), s.powered = true → s.linkState n = 3 →
    rxError f = false → s.preFilter n f = false → Ignores (.linkRxFrame n f true num den x) s) ∧
  (∀ (s : State) (n : Fin 32) (f : List (BitVec 8)) (num den : Nat), s.powered = true → s.linkState n = 3 →
    rxError f = false → f.length ≤ 96 → s.preFilter n f = true → ptpAt f = none → s.fld (R.LNK_CFG_ESMC_RX n) = 0 →
    s.coreless n = false → s.tb.running = true → s.fabricMoves = true → s.ringsFenced = false → 1 ≤ s.ringRoom n →
    s.bankOpen 24 = true → s.bank.ecc = [] →
    Does (.linkRxFrame n f true num den false) s fun t =>
      let a := s.ringEntry n (s.ringTail n)
      t.bytes a 128 = leVal (rxHeader (s.stampRecord n (s.stampTime n num den) false) f.length (frameClass f)
        (s.rxFlags n f none false) 0xFFFFFFFF 1 ++ f) ∧
      t.ringTail n = (s.ringTail n + 1) % 2 ^ 17 ∧ t.ringHead n = s.ringHead n ∧ sat s t (R.LNK_RX_OK n) ∧
      MemKeptOutside s t a 128) ∧
  (∀ (s : State) (n : Fin 32) (f : List (BitVec 8)) (num den : Nat), s.powered = true → s.linkState n = 3 →
    rxError f = false → s.preFilter n f = true → ptpAt f = none → s.fld (R.LNK_CFG_ESMC_RX n) = 0 →
    s.coreless n = false → s.tb.running = true → s.fabricMoves = true →
    (s.ringsFenced = true ∨ s.ringRoom n < entriesFor f.length) →
    Does (.linkRxFrame n f true num den false) s fun t => sat s t (R.LNK_RX_OVF n) ∧ t.fld (R.RING_STAT_FULL_SET n) = 1 ∧
      t.ringTail n = s.ringTail n ∧ MemKept s t) ∧
  (∀ (s : State) (n : Fin 32), s.powered = true → s.fld (R.LNK_CFG_ESMC_RX n) = 1 → s.pwrState ≠ 2 →
    (s.link n).esmcAt + 5 * fuPerSec ≤ s.tb.elapsed →
    Does (.qlTimeout n) s fun t => t.fld (R.LNK_QL_RX_QL n) = 0xF ∧ t.fld (R.LNK_QL_RX_VALID n) = 0 ∧
      t.fld (R.LNK_EVENTS_QL_TIMEOUT n) = 1 ∧
      FieldsKept s t [R.LNK_QL_RX_QL n, R.LNK_QL_RX_VALID n, R.LNK_EVENTS_QL_TIMEOUT n, R.LNK_EVENTS_QL_CHG n] ∧ MemKept s t) ∧
  (∀ (s : State) (n : Fin 32), s.powered = true →
    (s.fld (R.LNK_CFG_ESMC_RX n) = 0 ∨ s.tb.elapsed < (s.link n).esmcAt + 5 * fuPerSec) → Ignores (.qlTimeout n) s) ∧
  (∀ (s : State) (n : Fin 32), s.powered = true → s.fld (R.LNK_CFG_ESMC_TX n) = 1 → s.linkState n = 3 →
    Does (.esmcTxInfo n) s fun t => (t.link n).esmcN = (s.link n).esmcN + 1 ∧
      (t.link n).esmcLast = some (false, s.announcedQl n) ∧ (t.link n).esmcPdu = s.esmcBytes n false (s.announcedQl n) ∧ t.regs = s.regs ∧ MemKept s t) ∧
  (∀ (s : State) (n : Fin 32), s.powered = true → s.linkState n ≠ 3 → Ignores (.esmcTxInfo n) s) ∧
  (∀ (s : State) (n : Fin 32) (phase rt : Int), s.powered = true → s.fld (R.LNK_STATUS_CDR_LOCK n) = 1 →
    Does (.linkPhaseSample n phase rt) s fun t =>
      t.pair (R.LNK_PHASE_LO n) (R.LNK_PHASE_HI n) = ofSigned 64 phase ∧
      t.pair (R.LNK_RTPH_LO n) (R.LNK_RTPH_HI n) = ofSigned 64 rt ∧ (t.link n).rt = (rt :: (s.link n).rt).take 1000 ∧
      MemKept s t) ∧
  (∀ (s : State) (n : Fin 32) (phase rt : Int), s.powered = true → s.fld (R.LNK_STATUS_CDR_LOCK n) = 0 →
    Ignores (.linkPhaseSample n phase rt) s) ∧
  (∀ (s : State) (n : Fin 32), s.powered = true → s.pwrState ≠ 2 → s.linkState n = 3 →
    Does (.pcArm n) s fun t => t.fld (R.LNK_STATUS_PC_RUN n) = 1 ∧ t.fld (R.LNK_STATUS_PHASE_LOST n) = 0 ∧
      t.fld (R.LNK_RTPH0_LO n) = s.fld (R.LNK_RTPH_LO n) % 2 ^ 32 ∧ t.fld (R.LNK_RTPH0_HI n) = s.fld (R.LNK_RTPH_HI n) % 2 ^ 32 ∧
      (t.link n).t0 = s.trim n ∧
      FieldsKept s t [R.LNK_STATUS_PC_RUN n, R.LNK_STATUS_PHASE_LOST n, R.LNK_RTPH0_LO n, R.LNK_RTPH0_HI n] ∧ MemKept s t) ∧
  (∀ (s : State) (n : Fin 32), s.powered = true → s.pwrState ≠ 2 → s.linkState n ≠ 3 →
    Does (.pcArm n) s fun t => t.fld (R.LNK_EVENTS_CFG_REJ n) = 1 ∧ OnlyFields s t [R.LNK_EVENTS_CFG_REJ n]) ∧
  (∀ (s : State) (n : Fin 32), s.powered = true → s.pwrState ≠ 2 →
    Does (.pcStop n) s fun t => t.fld (R.LNK_STATUS_PC_RUN n) = 0 ∧ t.fld (R.LNK_STATUS_PHASE_LOST n) = 1 ∧
      (t.link n).rt = [] ∧
      FieldsKept s t [R.LNK_STATUS_PC_RUN n, R.LNK_STATUS_PHASE_LOST n, R.LNK_EVENTS_PHASE_LOST_SET n] ∧ MemKept s t) ∧
  (∀ (s : State) (n : Fin 32), s.powered = true → s.fld (R.LNK_STATUS_PC_RUN n) = 1 → (s.link n).rt ≠ [] →
    -8388608 ≤ s.pcTarget n → s.pcTarget n ≤ 8388607 →
    Does (.pcUpdate n) s fun t => t.trim n = s.pcTarget n ∧ t.fld (R.LNK_STATUS_PC_CLAMP n) = 0 ∧
      OnlyFields s t [R.LNK_TRIM_TRIM n, R.LNK_STATUS_PC_CLAMP n]) ∧
  (∀ (s : State) (n : Fin 32), s.powered = true → s.fld (R.LNK_STATUS_PC_RUN n) = 1 → (s.link n).rt ≠ [] →
    (s.pcTarget n < -8388608 ∨ 8388607 < s.pcTarget n) →
    Does (.pcUpdate n) s fun t => t.trim n = (if s.pcTarget n < 0 then -8388608 else 8388607) ∧
      t.fld (R.LNK_STATUS_PC_CLAMP n) ≠ 0 ∧ MemKept s t) ∧
  (∀ (s : State) (n : Fin 32), s.powered = true → s.fld (R.LNK_STATUS_PC_RUN n) = 0 → Ignores (.pcUpdate n) s) ∧
  (∀ (s : State) (n : Fin 32) (v : BitVec 24), s.powered = true → s.pwrState ≠ 2 →
    Does (.lnkTrimWrite n v) s fun t =>
      if s.fld (R.LNK_STATUS_PC_RUN n) = 0 then t.fld (R.LNK_TRIM_TRIM n) = v.toNat ∧ OnlyFields s t [R.LNK_TRIM_TRIM n]
      else t.fld (R.LNK_EVENTS_CFG_REJ n) = 1 ∧ OnlyFields s t [R.LNK_EVENTS_CFG_REJ n])

/-- R209 to R215, R265, R407, R422. -/
def Obligations.LaunchCommands : Prop :=
  let raw (s : State) (n : Fin 32) : List (BitVec 8) := ((s.ringLaunch (n : Nat)).2.map (·.1)).getD []
  let sat (s t : State) (f : Fld) : Prop := t.fld f = min (2 ^ f.width - 1) (s.fld f + 1)
  let moved (s t : State) (n : Fin 32) : Prop :=
    t.ringHead (32 + n.val) = (s.ringHead (32 + n.val) + min (s.ringCount (32 + n.val)) (s.headEntries n (raw s n))) % 2 ^ 17
  let ready (s : State) (n : Fin 32) : Prop :=
    s.powered = true ∧ s.fabricMoves = true ∧ s.tb.running = true ∧ (s.link n).cal = [] ∧ s.bankOpen 24 = true ∧ s.bank.ecc = [] ∧
      (s.ringLaunch (n : Nat)).2.map (·.2) = some false
  (∀ (s : State) (n : Fin 32) (x : Launch), s.powered = true → s.fabricMoves = true → s.tb.running = true →
    (s.link n).cal = [x] → x.frame = none → x.at_ ≤ s.tb.now + 20 * fuPerUs → s.bankOpen ((bankOf x.buf).getD 0) = true →
    s.bank.ecc = [] →
    Does (.calendarFetch n) s fun t => (t.link n).cal = [{ x with frame := some (some (leBytes 12 (encodeHub x.at_) ++ leBytes 2 x.tol ++
        (s.byteList x.buf 32).drop 14 ++ s.byteList (x.buf + 32) (min 1526 (launchLen (s.byteList x.buf 32))))) }] ∧ t.regs = s.regs ∧ MemKept s t) ∧
  (∀ (s : State) (n : Fin 32), s.powered = true →
    (s.fabricMoves = false ∨ s.tb.running = false ∨ (s.link n).cal = []) → Ignores (.calendarFetch n) s) ∧
  (∀ (s : State) (n : Fin 32) (num den dur : Nat) (pred : Int), ready s n →
    s.launchFails n (raw s n) (ringAt (raw s n)) (s.ringTol n (raw s n)) (s.ringLate n (raw s n)) (s.link n).headed = none →
    (ringAt (raw s n)).getD 0 ≤ s.tb.now → s.linkState n = 3 → (s.link n).wire ≤ s.tb.elapsed →
    s.coreless (32 + n.val) = false →
    Does (.launchFrame n num den dur pred) s fun t =>
      let a := s.ringEntry (32 + n.val) (s.ringHead (32 + n.val))
      (t.link n).sent = s.departBytes n (s.stampTime (32 + n.val) num den + pred).toNat (raw s n) ∧
      (t.link n).wire = s.tb.elapsed + dur ∧ t.bytes a 16 = s.stampRecord (32 + n.val) (s.stampTime (32 + n.val) num den) false % 2 ^ 128 ∧
      t.byte (a + 24) = 0 ∧ moved s t n ∧ sat s t (R.LNK_TX_SENT n) ∧
      MemKeptBut s t [(a, 16), (a + 24, 1)]) ∧
  (∀ (s : State) (n : Fin 32) (num den dur : Nat) (pred : Int) (code : Fin 5), ready s n →
    s.launchFails n (raw s n) (ringAt (raw s n)) (s.ringTol n (raw s n)) (s.ringLate n (raw s n)) (s.link n).headed = some (code : Nat) →
    Does (.launchFrame n num den dur pred) s fun t =>
      let a := s.ringEntry (32 + n.val) (s.ringHead (32 + n.val))
      t.byte (a + 24) = BitVec.ofNat 8 code ∧ moved s t n ∧ (t.link n).sent = (s.link n).sent ∧
      (code = 1 → sat s t (R.LNK_TX_LATE n)) ∧ (2 ≤ code.val → sat s t (R.LNK_TX_OTHER n)) ∧ MemKeptOutside s t (a + 24) 1) ∧
  (∀ (s : State) (n : Fin 32) (num den dur : Nat) (pred : Int), s.powered = true →
    (s.fabricMoves = false ∨ s.tb.running = false) → Ignores (.launchFrame n num den dur pred) s)

/-- R250 to R255, R273. A LOOKUP or a refused command changes no byte of memory. -/
def Obligations.DirectoryCommands : Prop :=
  let own (s : State) (b n : Fin 9) : Prop :=
    s.powered = true ∧ s.fenced 0x018 = false ∧ (b = 0 ∨ b = n) ∧ s.slotFenced n = false ∧ s.bankOpen 28 = true ∧ s.bank.ecc = []
  let slots (s : State) (n : Fin 9) : List Nat × List Nat :=
    let h := bucketsOf s.salt (leBytes 11 (s.slotKey n))
    (slotsOf h.1, slotsOf h.2)
  let hit (s : State) (n : Fin 9) : Option Nat :=
    ((slots s n).1 ++ (slots s n).2).find? (fun a => entryValid (s.bytes a 16) && entryKey (s.bytes a 16) == s.slotKey n)
  let empty (s : State) (l : List Nat) : Nat := (l.filter (fun a => s.bytes a 16 == 0)).length
  let homed (s : State) (n : Fin 9) : Prop := s.fld (R.EPD_IDX_INDEX n) / 2 ^ 14 = s.slotKey n / 2 ^ 80 % 2 ^ 5 / 4
  let done (s t : State) (n : Fin 9) (code : Nat) (index : Option Nat) : Prop :=
    t.fld (R.EPD_RESULT_RESULT n) = code ∧
    t.fld (R.EPD_RESULT_SEQ n) = (s.fld (R.EPD_RESULT_SEQ n) + 1) % 2 ^ (R.EPD_RESULT_SEQ n).width ∧
    t.fld (R.EPD_RIDX_HIT n) = (if index.isSome then 1 else 0) ∧ t.fld (R.EPD_RIDX_INDEX n) = index.getD 0 ∧
    FieldsKept s t [R.EPD_RESULT_RESULT n, R.EPD_RESULT_SEQ n, R.EPD_RIDX_HIT n, R.EPD_RIDX_INDEX n, R.EPD_DIR_STATUS_COUNT]
  let indexAt (s : State) (a : Option Nat) : Option Nat := a.map (fun a => entryIndex (s.bytes a 16))
  let counted (s t : State) : Prop := t.fld R.EPD_DIR_STATUS_COUNT = s.fld R.EPD_DIR_STATUS_COUNT
  (∀ (s : State) (b n : Fin 9), own s b n →
    Does (.epdLookup b n) s fun t => done s t n (if (hit s n).isSome then 0 else 3) (indexAt s (hit s n)) ∧
      counted s t ∧ MemKept s t) ∧
  (∀ (s : State) (b n : Fin 9), own s b n → ¬ homed s n →
    Does (.epdInsert b n) s fun t => done s t n 4 none ∧ counted s t ∧ MemKept s t) ∧
  (∀ (s : State) (b n : Fin 9), own s b n → homed s n → (hit s n).isSome = true →
    Does (.epdInsert b n) s fun t => done s t n 1 (indexAt s (hit s n)) ∧ counted s t ∧ MemKept s t) ∧
  (∀ (s : State) (b n : Fin 9), own s b n → homed s n → hit s n = none → s.fld (R.EPD_IDX_INDEX n) < 2 ^ 17 →
    s.slotKey n < 2 ^ 85 → s.fld R.EPD_DIR_STATUS_COUNT < 131072 → empty s (slots s n).1 + empty s (slots s n).2 ≠ 0 →
    Does (.epdInsert b n) s fun t => done s t n 0 none ∧ t.fld R.EPD_DIR_STATUS_COUNT = s.fld R.EPD_DIR_STATUS_COUNT + 1 ∧
      ∃ a ∈ (if empty s (slots s n).2 ≤ empty s (slots s n).1 then (slots s n).1 else (slots s n).2),
        s.bytes a 16 = 0 ∧ entryValid (t.bytes a 16) = true ∧ entryKey (t.bytes a 16) = s.slotKey n ∧
        entryIndex (t.bytes a 16) = s.fld (R.EPD_IDX_INDEX n) ∧ MemKeptOutside s t a 16) ∧
  (∀ (s : State) (b n : Fin 9), own s b n → (hit s n).isSome = true → 1 ≤ s.fld R.EPD_DIR_STATUS_COUNT →
    s.fld R.EPD_DIR_STATUS_COUNT < 2 ^ 18 →
    Does (.epdRemove b n) s fun t => done s t n 0 (indexAt s (hit s n)) ∧
      t.fld R.EPD_DIR_STATUS_COUNT + 1 = s.fld R.EPD_DIR_STATUS_COUNT ∧
      t.bytes ((hit s n).getD 0) 16 = 0 ∧ MemKeptOutside s t ((hit s n).getD 0) 16) ∧
  (∀ (s : State) (b n : Fin 9), own s b n → hit s n = none →
    Does (.epdRemove b n) s fun t => done s t n 3 none ∧ counted s t ∧ MemKept s t) ∧
  (∀ (s : State) (b n : Fin 9), s.powered = true → s.fenced 0x018 = false → (b = 0 ∨ b = n) → s.slotFenced n = true →
    ∀ c ∈ [.epdLookup b n, .epdInsert b n, .epdRemove b n], Does c s fun t => done s t n 6 none ∧ counted s t ∧ MemKept s t) ∧
  (∀ (s : State) (b n : Fin 9), s.powered = true → (s.fenced 0x018 = true ∨ (b ≠ 0 ∧ b ≠ n)) →
    ∀ c ∈ [.epdLookup b n, .epdInsert b n, .epdRemove b n], Does c s fun t =>
      t.fld R.EPD_DIR_EVENTS_CMD_REJ = 1 ∧ OnlyFields s t [R.EPD_DIR_EVENTS_CMD_REJ]) ∧
  (∀ (s : State) (a : BitVec 21), s.powered = true → s.bankOpen 28 = true →
    Does (.dirWindowWrite a) s fun t =>
      t.fld R.EPD_DIR_WDROP_COUNT = min (2 ^ R.EPD_DIR_WDROP_COUNT.width - 1) (s.fld R.EPD_DIR_WDROP_COUNT + 1) ∧
      t.fld R.EPD_DIR_EVENTS_WDROP_SET = 1 ∧
      t.fld (R.FLT_SRC_NOTES 0x018) = min (2 ^ (R.FLT_SRC_NOTES 0x018).width - 1) (s.fld (R.FLT_SRC_NOTES 0x018) + 1) ∧
      OnlyFields s t [R.EPD_DIR_WDROP_COUNT, R.EPD_DIR_EVENTS_WDROP_SET, R.FLT_SRC_NOTES 0x018]) ∧
  (∀ (s : State) (v : BitVec 32), s.powered = true → s.fld R.EPD_DIR_STATUS_COUNT = 0 →
    Does (.epdDirSaltWrite v) s fun t => t.fld R.EPD_DIR_SALT_SALT = v.toNat ∧ OnlyFields s t [R.EPD_DIR_SALT_SALT]) ∧
  (∀ (s : State) (v : BitVec 32), s.powered = true → s.fld R.EPD_DIR_STATUS_COUNT ≠ 0 →
    Does (.epdDirSaltWrite v) s fun t => t.fld R.EPD_DIR_EVENTS_CMD_REJ = 1 ∧ OnlyFields s t [R.EPD_DIR_EVENTS_CMD_REJ])

/-- R249, R259, R261, R262, R477. Bytes of a record: 4 INC, 6 STATE and flags, 8 flags, 9 ROLE_NO, 12 BORROW_FROM, 16 LINK,
141 flags, 142 UPD (R248). PROVISION's untouched bytes 64 to 207 are the model's reading (log 26). -/
def Obligations.EndpointCommands : Prop :=
  let ready (s : State) (g : Fin 8) : Prop :=
    s.powered = true ∧ s.epsRuns g = true ∧ s.bankOpen 25 = true ∧ s.bankOpen 27 = true ∧ s.bankOpen 28 = true ∧
      s.ringsFenced = false ∧ s.bank.ecc = [] ∧ s.ringOn (104 + g) = true ∧ s.ringEsz (104 + g) = 32 ∧ s.ringEsz (112 + g) = 32 ∧
      s.ringCount (104 + g) ≠ 0 ∧ s.ringRoom (112 + g) ≠ 0 ∧
      s.ringEntry (112 + g) (s.ringTail (112 + g)) + 32 ≤ bankBase 26
  let cmd (s : State) (g : Fin 8) : EpCmd := epCmdOf (s.byteList (s.ringEntry (104 + g) (s.ringHead (104 + g))) 32)
  let at_ (s : State) (g : Fin 8) : Nat := s.ringEntry (112 + g) (s.ringTail (112 + g))
  let answered (s t : State) (g : Fin 8) (status slot : Nat) : Prop :=
    t.ringHead (104 + g) = (s.ringHead (104 + g) + 1) % 2 ^ 17 ∧ t.ringTail (112 + g) = (s.ringTail (112 + g) + 1) % 2 ^ 17 ∧
    t.byteList (at_ s g) 32 = leBytes 1 (cmd s g).op ++ leBytes 1 status ++ leBytes 1 slot ++ leBytes 1 0 ++
      leBytes 4 (cmd s g).index ++ leBytes 16 0 ++ leBytes 4 (cmd s g).tag ++ leBytes 4 (cmd s g).index2
  let mine (s : State) (g : Fin 8) : Prop := (cmd s g).index / 2 ^ 14 = g
  let both (s : State) (g : Fin 8) : Prop := mine s g ∧ (cmd s g).index2 / 2 ^ 14 = g
  let rb (s : State) (i o : Nat) : BitVec 8 := s.byte (recordAt i + o)
  let rec_ (s : State) (i : Nat) : Record := s.byteList (recordAt i) 256
  let upd (s t : State) (i : Nat) : Prop := t.bytes (recordAt i + 142) 2 = (s.bytes (recordAt i + 142) 2 + 2) % 2 ^ 16
  let others (s t : State) (i : Nat) (l : List Nat) : Prop :=
    ∀ o ∈ List.range 256, o ∉ l → o ≠ 142 → o ≠ 143 → rb t i o = rb s i o
  let img (s : State) (g : Fin 8) (o : Nat) : BitVec 8 := s.byte (bankBase 27 + (cmd s g).off + o)
  let idle (s : State) (d : Nat) : Prop := ∀ o ∈ [176, 184, 192, 200], (rec_ s d).get o 4 < 2 ^ 31
  let slotSays (s t : State) (g : Fin 8) (code : Nat) : Prop :=
    ∀ h, s.holder (epsRole g) = some h → t.fld (R.EPD_RESULT_RESULT (h + 1)) = code
  let kept (s t : State) (g : Fin 8) (l : List (Nat × Nat)) : Prop := MemKeptBut s t ((at_ s g, 32) :: l)
  (∀ (s : State) (g : Fin 8), ready s g → (cmd s g).op = 0 →
    Does (.nop g) s fun t => answered s t g 0 0xFF ∧ kept s t g []) ∧
  (∀ (s : State) (g : Fin 8), ready s g → (2 ≤ (cmd s g).op ∧ (cmd s g).op < 0x40 ∨ 0x46 < (cmd s g).op) →
    Does (.badOp g) s fun t => answered s t g 4 0xFF ∧ kept s t g []) ∧
  (∀ (s : State) (g : Fin 8), ready s g → (cmd s g).op = 1 → mine s g → (cmd s g).off + 256 ≤ bankSize 27 →
    s.bankOpen (16 + g) = true →
    Does (.readRecord g) s fun t => answered s t g 0 0xFF ∧
      t.byteList (bankBase 27 + (cmd s g).off) 256 = rec_ s (cmd s g).index ∧
      kept s t g [(bankBase 27 + (cmd s g).off, 256)]) ∧
  (∀ (s : State) (g : Fin 8), ready s g → (cmd s g).op = 0x40 → mine s g → s.fenced 0x018 = false →
    (rec_ s (cmd s g).index).state = 0 → (cmd s g).off + 256 ≤ bankSize 27 → (cmd s g).index / 2 ^ 14 = (cmd s g).link / 4 → (s.dirFind (cmd s g).key).2 = none →
    (∃ a ∈ slotsOf (bucketsOf s.salt (leBytes 11 (cmd s g).key)).1 ++ slotsOf (bucketsOf s.salt (leBytes 11 (cmd s g).key)).2,
      s.bytes a 16 = 0) →
    Does (.provision g) s fun t => answered s t g 0 0 ∧ upd s t (cmd s g).index ∧ slotSays s t g 0 ∧
      (∀ o ∈ List.range 256, o ≠ 142 → o ≠ 143 → rb t (cmd s g).index o =
        if o = 6 then 1 else if o = 16 then BitVec.ofNat 8 (cmd s g).link
        else if o < 64 ∨ 208 ≤ o then img s g o else rb s (cmd s g).index o) ∧
      ∃ a ∈ slotsOf (bucketsOf s.salt (leBytes 11 (cmd s g).key)).1 ++ slotsOf (bucketsOf s.salt (leBytes 11 (cmd s g).key)).2,
        s.bytes a 16 = 0 ∧ t.bytes a 16 = entryOf (cmd s g).key (cmd s g).index ∧
        kept s t g [(recordAt (cmd s g).index, 256), (a, 16)]) ∧
  (∀ (s : State) (g : Fin 8), ready s g → (cmd s g).op = 0x40 → mine s g → (rec_ s (cmd s g).index).state = 0 →
    s.fenced 0x018 = false → (cmd s g).index / 2 ^ 14 = (cmd s g).link / 4 → (s.dirFind (cmd s g).key).2.isSome = true →
    Does (.provision g) s fun t => answered s t g 3 1 ∧ slotSays s t g 1 ∧ kept s t g []) ∧
  (∀ (s : State) (g : Fin 8), ready s g → (cmd s g).op = 0x40 → mine s g → (rec_ s (cmd s g).index).state = 0 →
    s.fenced 0x018 = true → Does (.provision g) s fun t => answered s t g 3 0xFF ∧ kept s t g []) ∧
  (∀ (s : State) (g : Fin 8), ready s g → (cmd s g).op = 0x44 → mine s g →
    (rec_ s (cmd s g).index).state ≠ 0 → (rec_ s (cmd s g).index).state ≠ 7 → (rec_ s (cmd s g).index).borrow = false →
    s.borrower (cmd s g).index = none → s.fenced 0x018 = true →
    Does (.retire g) s fun t => answered s t g 3 0xFF ∧ kept s t g []) ∧
  (∀ (s : State) (g : Fin 8), ready s g → (cmd s g).op = 0x46 → mine s g →
    (rec_ s (cmd s g).index).state ≠ 0 → (rec_ s (cmd s g).index).state ≠ 7 → (cmd s g).off + 256 ≤ bankSize 27 →
    Does (.setcal g) s fun t => answered s t g 0 0xFF ∧ upd s t (cmd s g).index ∧
      (∀ o ∈ List.range 32, rb t (cmd s g).index (32 + o) = img s g (32 + o)) ∧
      rb t (cmd s g).index 141 = rb s (cmd s g).index 141 ||| 2 ∧
      others s t (cmd s g).index (141 :: (List.range 32).map (32 + ·)) ∧ kept s t g [(recordAt (cmd s g).index, 256)]) ∧
  (∀ (s : State) (g : Fin 8), ready s g → (cmd s g).op = 0x44 → mine s g →
    (rec_ s (cmd s g).index).state ≠ 0 → (rec_ s (cmd s g).index).state ≠ 7 → (rec_ s (cmd s g).index).borrow = false →
    s.borrower (cmd s g).index = none → s.fenced 0x018 = false → idle s (cmd s g).index → (s.dirFind (cmd s g).key).2.isSome = true →
    Does (.retire g) s fun t => answered s t g 0 0 ∧ slotSays s t g 0 ∧ upd s t (cmd s g).index ∧
      (rec_ t (cmd s g).index).state = 7 ∧ t.bytes (((s.dirFind (cmd s g).key).2.map (·.1)).getD 0) 16 = 0 ∧
      others s t (cmd s g).index [6, 141, 148, 149, 150, 151] ∧
      kept s t g [(recordAt (cmd s g).index, 256), (((s.dirFind (cmd s g).key).2.map (·.1)).getD 0, 16)]) ∧
  (∀ (s : State) (g : Fin 8), ready s g → (cmd s g).op = 0x44 → mine s g →
    (rec_ s (cmd s g).index).state ≠ 0 → (rec_ s (cmd s g).index).state ≠ 7 → (rec_ s (cmd s g).index).borrow = false →
    s.borrower (cmd s g).index = none → s.fenced 0x018 = false → (s.dirFind (cmd s g).key).2 = none →
    Does (.retire g) s fun t => answered s t g 3 3 ∧ slotSays s t g 3 ∧ kept s t g []) ∧
  (∀ (s : State) (g : Fin 8), ready s g → (cmd s g).op = 0x45 → mine s g → (rec_ s (cmd s g).index).state = 7 →
    Does (.free g) s fun t => answered s t g 0 0xFF ∧ upd s t (cmd s g).index ∧
      (∀ o ∈ List.range 256, o ≠ 142 → o ≠ 143 → rb t (cmd s g).index o = 0) ∧ kept s t g [(recordAt (cmd s g).index, 256)]) ∧
  (∀ (s : State) (g : Fin 8), ready s g → (cmd s g).op = 0x42 → mine s g →
    ((rec_ s (cmd s g).index).state = 4 ∨ (rec_ s (cmd s g).index).state = 6) → (rec_ s (cmd s g).index).retired = true →
    2 ≤ s.ringRoom (112 + g) →
    Does (.epReadmit g) s fun t => t.ringHead (104 + g) = (s.ringHead (104 + g) + 1) % 2 ^ 17 ∧ upd s t (cmd s g).index ∧
      t.bytes (recordAt (cmd s g).index + 4) 2 = (s.bytes (recordAt (cmd s g).index + 4) 2 + 1) % 2 ^ 16 ∧
      (rec_ t (cmd s g).index).state = 1 ∧ (rec_ t (cmd s g).index).retired = false ∧
      rb t (cmd s g).index 141 = rb s (cmd s g).index 141 ||| 2 ∧
      (rec_ t (cmd s g).index).roleNo
        = (if (s.borrower (cmd s g).index).isSome then 0xFFFFFF else (rec_ s (cmd s g).index).roleNo) ∧
      others s t (cmd s g).index [4, 5, 6, 9, 10, 11, 141]) ∧
  (∀ (s : State) (g : Fin 8), ready s g → (cmd s g).op = 0x41 → both s g → idle s (cmd s g).index →
    (rec_ s (cmd s g).index).state = 4 → (rec_ s (cmd s g).index).retired = false →
    (rec_ s (cmd s g).index2).bit 8 2 = true → (rec_ s (cmd s g).index2).roleNo = 0xFFFFFF →
    ((rec_ s (cmd s g).index2).state = 2 ∨ (rec_ s (cmd s g).index2).state = 3) →
    Does (.spare g) s fun t => answered s t g 0 0xFF ∧ upd s t (cmd s g).index ∧ upd s t (cmd s g).index2 ∧
      rb t (cmd s g).index 6 = rb s (cmd s g).index 6 ||| 8 ∧ others s t (cmd s g).index [6] ∧
      (rec_ t (cmd s g).index2).roleNo = (rec_ s (cmd s g).index).roleNo ∧
      rb t (cmd s g).index2 8 = rb s (cmd s g).index2 8 ||| 8 ∧
      (rec_ t (cmd s g).index2).get 12 4 = (cmd s g).index ∧
      (rec_ t (cmd s g).index2).state = (if (rec_ s (cmd s g).index2).state = 2 then 5 else 3) ∧
      others s t (cmd s g).index2 [6, 8, 9, 10, 11, 12, 13, 14, 15] ∧
      kept s t g [(recordAt (cmd s g).index, 256), (recordAt (cmd s g).index2, 256)]) ∧
  (∀ (s : State) (g : Fin 8), ready s g → (cmd s g).op = 0x43 → both s g →
    (rec_ s (cmd s g).index).state = 2 → (rec_ s (cmd s g).index).roleNo = 0xFFFFFF →
    (rec_ s (cmd s g).index2).borrow = true → (rec_ s (cmd s g).index2).get 12 4 = (cmd s g).index →
    ((rec_ s (cmd s g).index2).state = 5 ∨ (rec_ s (cmd s g).index2).state = 3) →
    Does (.restore g) s fun t => answered s t g 0 0xFF ∧ upd s t (cmd s g).index ∧ upd s t (cmd s g).index2 ∧
      (rec_ t (cmd s g).index).roleNo = (rec_ s (cmd s g).index2).roleNo ∧ others s t (cmd s g).index [9, 10, 11] ∧
      (rec_ t (cmd s g).index2).roleNo = 0xFFFFFF ∧ (rec_ t (cmd s g).index2).borrow = false ∧
      (rec_ t (cmd s g).index2).get 12 4 = 0xFFFFFFFF ∧
      (rec_ t (cmd s g).index2).state = (if (rec_ s (cmd s g).index2).state = 5 then 2 else 3) ∧
      others s t (cmd s g).index2 [6, 8, 9, 10, 11, 12, 13, 14, 15] ∧
      kept s t g [(recordAt (cmd s g).index, 256), (recordAt (cmd s g).index2, 256)]) ∧
  (∀ (s : State) (g : Fin 8), ready s g → ¬ mine s g →
    ∀ c ∈ [(0x01, Instr.readRecord g), (0x40, .provision g), (0x41, .spare g), (0x42, .epReadmit g), (0x43, .restore g),
      (0x44, .retire g), (0x45, .free g), (0x46, .setcal g)], (cmd s g).op = c.1 →
      Does c.2 s fun t => answered s t g 1 0xFF ∧ kept s t g []) ∧
  (∀ (s : State) (g : Fin 8), ready s g → both s g →
    ∀ c ∈ [(0x40, Instr.provision g, [0]), (0x41, .spare g, [4]), (0x42, .epReadmit g, [4, 6]), (0x43, .restore g, [2]),
      (0x44, .retire g, [1, 2, 3, 4, 5, 6]), (0x45, .free g, [7]), (0x46, .setcal g, [1, 2, 3, 4, 5, 6])],
      (cmd s g).op = c.1 → (rec_ s (cmd s g).index).state ∉ c.2.2 →
      Does c.2.1 s fun t => answered s t g 2 0xFF ∧ kept s t g []) ∧
  (∀ (s : State) (g : Fin 8), s.powered = true → s.ringCount (104 + g) = 0 →
    ∀ c ∈ [.nop g, .badOp g, .readRecord g, .provision g, .spare g, .epReadmit g, .restore g, .retire g, .free g, .setcal g],
      Ignores c s)

/-- R256 to R258, R260, R263, R264, R59. Bytes 141: bit 0 exchange in progress, bit 1 DELAY_RESET. -/
def Obligations.EndpointFrames : Prop :=
  let head (s : State) (n : Fin 32) : List (BitVec 8) := s.byteList (s.ringEntry n (s.ringHead n)) 128
  let i (s : State) (n : Fin 32) : Nat := fle (head s n) 20 4
  let rec_ (s : State) (k : Nat) : Record := s.byteList (recordAt k) 256
  let r (s : State) (n : Fin 32) : Record := rec_ s (i s n)
  let ready (s : State) (n : Fin 32) : Prop :=
    s.powered = true ∧ s.epsRuns (n / 4) = true ∧ s.bankOpen 24 = true ∧ s.ringOn n = true ∧ s.ringsFenced = false ∧
      s.ringCount n ≠ 0 ∧ s.bank.ecc = []
  let live (s : State) (n : Fin 32) : Prop :=
    entryMatched (head s n) = true ∧ i s n / 2 ^ 14 = n / 4 ∧ (r s n).state ≠ 0 ∧ (r s n).state ≠ 7
  let moved (s t : State) (n : Fin 32) : Prop :=
    t.ringHead n = (s.ringHead n + min (s.ringCount n) (entryCount (head s n))) % 2 ^ 17
  let seen (s t : State) (n : Fin 32) : Prop :=
    (rec_ t (i s n)).get 140 1 = 0 ∧ (rec_ t (i s n)).get 128 12 = encodeHub s.tb.now ∧
      (rec_ t (i s n)).get 142 2 = ((r s n).get 142 2 + 2) % 2 ^ 16
  let own (s : State) (n : Fin 32) (l : List Nat) (t : State) : Prop :=
    ∀ o ∈ List.range 256, o ∉ l → (o < 128 ∨ 140 < o) → o ≠ 142 → o ≠ 143 →
      t.byte (recordAt (i s n) + o) = s.byte (recordAt (i s n) + o)
  let t4' (s : State) (n : Fin 32) (t4 : Nat) : Nat := if isDelayReq (head s n) then fle (head s n) 0 12 else t4
  let done (s : State) (n : Fin 32) (t1 t2 t3 t4 : Nat) : Prop :=
    (isDelayReq (head s n) = true → stampValid (head s n) = true) ∧ hubLegal t1 = true ∧ hubLegal t2 = true ∧ hubLegal t3 = true ∧
      hubLegal (t4' s n t4) = true
  let lost (s : State) (n : Fin 32) : Bool := (fb (head s n) 19).testBit 4 && inExchange (head s n)
  let theta (s : State) (n : Fin 32) (temp : Int) (t1 t2 t3 t4 : Nat) : Int × Int :=
    s.exchange (r s n) temp (decodeHub t1) (decodeHub t2) (decodeHub t3) (decodeHub (t4' s n t4))
  let plus (s t : State) (n : Fin 32) (o : Nat) : Prop :=
    (rec_ t (i s n)).get o 4 = min (2 ^ 32 - 1) ((r s n).get o 4 + 1)
  (∀ (s : State) (n : Fin 32) (mv f : Bool) (t1 t2 t3 t4 : BitVec 96) (temp : Int), ready s n → s.bankOpen (16 + n / 4) = true →
    (entryMatched (head s n) = false ∨ i s n / 2 ^ 14 ≠ n / 4 ∨ (r s n).state = 0 ∨ (r s n).state = 7) →
    Does (.epFrame n mv f t1 t2 t3 t4 temp) s fun t => moved s t n ∧ MemKept s t) ∧
  (∀ (s : State) (n : Fin 32) (mv f : Bool) (t1 t2 t3 t4 : BitVec 96) (temp : Int), ready s n → live s n →
    ((r s n).state = 6 ∨ (r s n).state = 4 ∧ (r s n).retired = true) →
    Does (.epFrame n mv f t1 t2 t3 t4 temp) s fun t => moved s t n ∧ seen s t n ∧ (rec_ t (i s n)).state = 6 ∧ plus s t n 156 ∧
      (rec_ t (i s n)).retired = (r s n).retired ∧ own s n [6, 156, 157, 158, 159, 141, 148, 149, 150, 151] t) ∧
  (∀ (s : State) (n : Fin 32) (mv f : Bool) (t1 t2 t3 t4 : BitVec 96) (temp : Int), ready s n → live s n →
    (r s n).state = 4 → (r s n).retired = false → s.bankOpen 25 = true → s.ringEsz (112 + n / 4) = 32 →
    s.ringRoom (112 + n / 4) ≠ 0 →
    Does (.epFrame n mv f t1 t2 t3 t4 temp) s fun t => moved s t n ∧ seen s t n ∧ (rec_ t (i s n)).state = 1 ∧
      own s n [6] t ∧ t.ringTail (112 + n / 4) = (s.ringTail (112 + n / 4) + 1) % 2 ^ 17 ∧
      t.byteList (s.ringEntry (112 + n / 4) (s.ringTail (112 + n / 4))) 32 = leBytes 1 0x51 ++ leBytes 1 1 ++ leBytes 2 0 ++
        leBytes 4 (i s n) ++ leBytes 4 ((r s n).get 0 4) ++ leBytes 4 s.hubSec ++ leBytes 16 0 ∧
      MemKeptBut s t [(recordAt (i s n), 256), (s.ringEntry (112 + n / 4) (s.ringTail (112 + n / 4)), 32)]) ∧
  (∀ (s : State) (n : Fin 32) (mv f : Bool) (t1 t2 t3 t4 : BitVec 96) (temp : Int), ready s n → live s n →
    inService (r s n).state = true → (r s n).bit 141 0 = true → lost s n = true →
    Does (.epFrame n mv f t1 t2 t3 t4 temp) s fun t => moved s t n ∧ seen s t n ∧ plus s t n 148 ∧ plus s t n 164 ∧
      (rec_ t (i s n)).bit 141 0 = false ∧ (rec_ t (i s n)).bit 141 1 = true ∧
      own s n [141, 148, 149, 150, 151, 164, 165, 166, 167] t ∧ MemKeptOutside s t (recordAt (i s n)) 256) ∧
  (∀ (s : State) (n : Fin 32) (f : Bool) (t1 t2 t3 t4 : BitVec 96) (temp : Int), ready s n → live s n →
    inService (r s n).state = true → (r s n).bit 141 0 = true → lost s n = false →
    Does (.epFrame n true f t1 t2 t3 t4 temp) s fun t => moved s t n ∧ seen s t n ∧ plus s t n 148 ∧
      (rec_ t (i s n)).bit 141 0 = false ∧ (rec_ t (i s n)).bit 141 1 = true ∧
      own s n [141, 148, 149, 150, 151] t ∧ MemKeptOutside s t (recordAt (i s n)) 256) ∧
  (∀ (s : State) (n : Fin 32) (t1 t2 t3 t4 : BitVec 96) (temp : Int), ready s n → live s n →
    inService (r s n).state = true → (r s n).bit 141 0 = true → lost s n = false →
    done s n t1.toNat t2.toNat t3.toNat t4.toNat → (r s n).upstream = false →
    Does (.epFrame n false true t1 t2 t3 t4 temp) s fun t => moved s t n ∧ seen s t n ∧ plus s t n 144 ∧
      (rec_ t (i s n)).bit 141 0 = false ∧
      (rec_ t (i s n)).get 64 12 = t1.toNat ∧ (rec_ t (i s n)).get 76 12 = t2.toNat ∧ (rec_ t (i s n)).get 88 12 = t3.toNat ∧
      (rec_ t (i s n)).get 100 12 = t4' s n t4.toNat ∧
      (rec_ t (i s n)).get 120 8 = ofSigned 64 (theta s n temp t1.toNat t2.toNat t3.toNat t4.toNat).1 ∧
      ((s.epRun (i s n)).ds = [] →
        (rec_ t (i s n)).get 112 8 = ofSigned 64 (meanFu [(theta s n temp t1.toNat t2.toNat t3.toNat t4.toNat).2])) ∧
      (rec_ t (i s n)).state =
        (if (r s n).state = 3 ∨ (r s n).state = 1 ∧ s.joinN ≤ (s.epRun (i s n)).run + 1 then (if (r s n).borrow then 5 else 2)
          else (r s n).state) ∧
      own s n ((List.range 64).map (64 + ·) ++ [6, 141, 144, 145, 146, 147, 160, 161, 162, 163]) t ∧ t.tsv = s.tsv ∧
      MemKeptOutside s t (recordAt (i s n)) 256) ∧
  (∀ (s : State) (n : Fin 32) (t1 t2 t3 t4 : BitVec 96) (temp : Int), ready s n → live s n →
    inService (r s n).state = true → (r s n).bit 141 0 = true → lost s n = false →
    done s n t1.toNat t2.toNat t3.toNat t4.toNat → (r s n).upstream = true →
    Does (.epFrame n false true t1 t2 t3 t4 temp) s fun t => moved s t n ∧ seen s t n ∧ plus s t n 144 ∧
      t.tsv = s.tsv ∧ ∃ h, s.holder (epsRole (n / 4)) = some h ∧ ∃ thr < 4, t.lane h = s.lane h ++ [.roleFeed thr
        (s.token (epsRole (n / 4))) (theta s n temp t1.toNat t2.toNat t3.toNat t4.toNat).1 t3.toNat]) ∧
  (∀ (s : State) (n : Fin 32) (mv f : Bool) (t1 t2 t3 t4 : BitVec 96) (temp : Int), ready s n → live s n →
    inService (r s n).state = true → ((r s n).bit 141 0 = false ∨ lost s n = false ∧ mv = false ∧ f = false) →
    Does (.epFrame n mv f t1 t2 t3 t4 temp) s fun t => moved s t n ∧ seen s t n ∧ own s n [] t ∧
      MemKeptOutside s t (recordAt (i s n)) 256) ∧
  (∀ (s : State) (n : Fin 32) (mv f : Bool) (t1 t2 t3 t4 : BitVec 96) (temp : Int), s.powered = true →
    (s.ringCount n = 0 ∨ s.epsRuns (n / 4) = false) → Ignores (.epFrame n mv f t1 t2 t3 t4 temp) s)

/-- R256, R257, R263, R265 to R267, R272. `intervalNo` numbers the intervals of R257. That the role places the Sync 25 us to 3 ms ahead
of its interval, and where it keeps the handle, is the model's reading (log 74). -/
def Obligations.EndpointIntervals : Prop :=
  let rec_ (s : State) (k : Nat) : Record := s.byteList (recordAt k) 256
  let ready (s : State) (i : Fin 131072) : Prop :=
    s.powered = true ∧ s.epsRuns (i / 2 ^ 14) = true ∧ s.bank.ecc = [] ∧ (rec_ s i).state ≠ 0 ∧ (rec_ s i).state ≠ 7
  let due (s : State) (i : Fin 131072) : Prop := (s.epRun i).interval < s.intervalNo i (rec_ s i)
  let missed (s : State) (i : Fin 131072) : Prop :=
    (s.epRun i).hit = false ∧ (s.epRun i).seen = Tab.get (fun _ => 0) s.eps.starts (i / 2 ^ 14)
  let own (s t : State) (i : Fin 131072) (l : List Nat) : Prop :=
    ∀ o ∈ List.range 256, o ∉ l → o ≠ 142 → o ≠ 143 → t.byte (recordAt i + o) = s.byte (recordAt i + o)
  let upd (s t : State) (i : Fin 131072) : Prop := (rec_ t i).get 142 2 = ((rec_ s i).get 142 2 + 2) % 2 ^ 16
  let next (s t : State) (i : Fin 131072) : Prop :=
    upd s t i ∧ (rec_ t i).get 140 1 = min 255 ((rec_ s i).get 140 1 + 1) ∧ (t.epRun i).interval = s.intervalNo i (rec_ s i)
  let dies (s : State) (i : Fin 131072) : Prop :=
    ((rec_ s i).state = 1 ∨ (rec_ s i).state = 3) ∧ s.deadK ≤ min 255 ((rec_ s i).get 140 1 + 1)
  let quiet (buf : BitVec 32) : Prop := launchBank buf.toNat = false
  let nextAt (s : State) (i : Fin 131072) : Nat := encodeHub (intervalStart i (s.intervalNo i (rec_ s i) + 1) (rec_ s i))
  let places (s : State) (i : Fin 131072) (buf : BitVec 32) : Prop :=
    let h := leBytes 12 (nextAt s i) ++ (s.byteList (buf.toNat + 12) 20)
    buf.toNat % 128 = 0 ∧ launchBank buf.toNat = true ∧ bankOf buf.toNat ≠ some (16 + i.val / 2 ^ 14) ∧
      s.bankOpen ((bankOf buf.toNat).getD 0) = true ∧ headerOk h = true ∧ nextAt s i ≠ 0 ∧
      launchBank (buf.toNat + 128 * launchEntries h - 1) = true ∧ (rec_ s i).get 16 1 % 32 / 4 = i.val / 2 ^ 14 ∧
      s.tb.now < 2 ^ 88 ∧ ∃ k < 1024, ∀ x ∈ (s.link ((rec_ s i).get 16 1 % 32)).cal, x.slot ≠ k
  let plain (s : State) : Prop := s.fld R.EPD_CFG_SILENT_ALARM = 0
  (∀ (s : State) (i : Fin 131072) (buf : BitVec 32), ready s i → quiet buf → due s i → missed s i → plain s → ¬ dies s i →
    Does (.epIntervalEnd i buf) s fun t => next s t i ∧
      (rec_ t i).state = (if (rec_ s i).state = 2 ∨ (rec_ s i).state = 5 then 3 else (rec_ s i).state) ∧
      (inService (rec_ s i).state = true → (rec_ t i).bit 141 0 = true ∧ own s t i [6, 140, 141]) ∧
      (inService (rec_ s i).state = false → (rec_ s i).bit 141 0 = false → own s t i [140]) ∧ t.regs = s.regs ∧ MemKeptOutside s t (recordAt i) 256) ∧
  (∀ (s : State) (i : Fin 131072) (buf : BitVec 32), ready s i → quiet buf → due s i → missed s i → dies s i → s.bankOpen 25 = true →
    s.ringsFenced = false → s.ringEsz (112 + i / 2 ^ 14) = 32 → s.ringRoom (112 + i / 2 ^ 14) ≠ 0 →
    Does (.epIntervalEnd i buf) s fun t => next s t i ∧ (rec_ t i).state = 4 ∧ (rec_ t i).bit 141 0 = false ∧
      ((rec_ s i).bit 141 0 = true → (rec_ t i).get 148 4 = min (2 ^ 32 - 1) ((rec_ s i).get 148 4 + 1)) ∧
      own s t i [6, 140, 141, 148, 149, 150, 151] ∧
      t.ringTail (112 + i / 2 ^ 14) = (s.ringTail (112 + i / 2 ^ 14) + 1) % 2 ^ 17 ∧
      t.byteList (s.ringEntry (112 + i / 2 ^ 14) (s.ringTail (112 + i / 2 ^ 14))) 32 = leBytes 1 0x50 ++ leBytes 1 4 ++
        leBytes 2 0 ++ leBytes 4 i ++ leBytes 4 ((rec_ s i).get 0 4) ++ leBytes 4 s.hubSec ++ leBytes 16 0) ∧
  (∀ (s : State) (i : Fin 131072) (buf : BitVec 32), ready s i → quiet buf → due s i → ¬ missed s i →
    Does (.epIntervalEnd i buf) s fun t => upd s t i ∧ (rec_ t i).state = (rec_ s i).state ∧
      (rec_ t i).get 140 1 = (rec_ s i).get 140 1 ∧ (rec_ t i).bit 141 0 = (inService (rec_ s i).state || (rec_ s i).bit 141 0) ∧
      own s t i [141] ∧ (t.epRun i).hit = false ∧ t.regs = s.regs ∧ MemKeptOutside s t (recordAt i) 256) ∧
  (∀ (s : State) (i : Fin 131072) (buf : BitVec 32), ready s i → ¬ due s i →
    (quiet buf ∨ s.syncDueFor i (rec_ s i) = false) → Ignores (.epIntervalEnd i buf) s) ∧
  (∀ (s : State) (i : Fin 131072) (buf : BitVec 32), ready s i → ¬ due s i → s.syncDueFor i (rec_ s i) = true →
    places s i buf →
    Does (.epIntervalEnd i buf) s fun t => upd s t i ∧ (t.epRun i).placed = s.intervalNo i (rec_ s i) + 1 ∧
      t.bytes buf.toNat 12 = nextAt s i ∧
      (∃ x ∈ (t.link ((rec_ s i).get 16 1 % 32)).cal, x.at_ = decodeHub (nextAt s i) ∧ x.buf = buf.toNat ∧ x.notify = false ∧
        (rec_ t i).get (s.launchField (rec_ s i)) 4 = handleOf ((rec_ s i).get 16 1 % 32) x.slot x.gen ∧
        (rec_ t i).get (s.launchField (rec_ s i) + 4) 4 = s.bytes (buf.toNat + 20) 4) ∧
      own s t i ((List.range 8).map (s.launchField (rec_ s i) + ·)) ∧ t.regs = s.regs ∧
      MemKeptBut s t [(recordAt i, 256), (buf.toNat, 12)]) ∧
  (∀ (s : State) (i : Fin 131072) (buf : BitVec 32), s.powered = true → s.bank.ecc = [] →
    (s.epsRuns (i / 2 ^ 14) = false ∨ (rec_ s i).state = 0 ∨ (rec_ s i).state = 7) → Ignores (.epIntervalEnd i buf) s)

/-- R311, R275, R306. `runs`: the thread may issue now and no trap is due. A Velmos-1 thread names its registers by `no` (R340). -/
def Obligations.IntegerInstructions : Prop :=
  let runs (s : State) (e : Fin 8) (t : Fin 4) : Prop := s.mayIssue e t = true ∧ (s.thread e t).trapDue = false
  let free (s : State) (e : Fin 8) (t : Fin 4) (r : Fin 32) : Prop := s.regPending e t ((s.thread e t).dest r) = false
  let bool (p : Bool) : BitVec 64 := if p then 1 else 0
  let wrote (s : State) (e : Fin 8) (t : Fin 4) (rd : Fin 32) (v : BitVec 64) (u : State) : Prop :=
    (∀ n : Fin 32, (u.thread e t).gpr n = if n.val = (s.thread e t).no rd ∧ n.val ≠ 0 then v else (s.thread e t).gpr n) ∧
    u.thread e t = { s.thread e t with g := (u.thread e t).g } ∧ u.pc e t = (s.pc e t + 4) % 2 ^ 18 / 4 * 4 ∧
    (∀ (e' : Fin 8) (t' : Fin 4), (e' ≠ e ∨ t' ≠ t) → u.thread e' t' = s.thread e' t') ∧
    FieldsKept s u [R.ENG_THR_STATE_W0_PC e t] ∧
    u = { s with regs := u.regs, eng := { s.eng with thr := u.eng.thr, lastThr := u.eng.lastThr } }
  ∀ (s : State) (e : Fin 8) (t : Fin 4) (rd ra rb : Fin 32), runs s e t → free s e t rd → free s e t ra → free s e t rb →
    let a := (s.thread e t).rd ra
    let b := (s.thread e t).rd rb
    let n := b.toNat % 64
    ∀ c ∈ [(Instr.add e t rd ra rb, a + b), (.sub e t rd ra rb, a - b), (.mul e t rd ra rb, a * b),
        (.mulh e t rd ra rb, ((a.signExtend 128 * b.signExtend 128) >>> 64).setWidth 64),
        (.and e t rd ra rb, a &&& b), (.or e t rd ra rb, a ||| b), (.xor e t rd ra rb, a ^^^ b),
        (.shl e t rd ra rb, a <<< n), (.shr e t rd ra rb, a >>> n), (.sra e t rd ra rb, a.sshiftRight n),
        (.cmpeq e t rd ra rb, bool (a == b)), (.cmpne e t rd ra rb, bool (a != b)), (.cmplt e t rd ra rb, bool (a.slt b)),
        (.cmpge e t rd ra rb, bool (b.sle a)), (.cmpltu e t rd ra rb, bool (a.ult b)), (.cmpgeu e t rd ra rb, bool (b.ule a)),
        (.sel e t rd ra rb, if (s.thread e t).rd rd ≠ 0 then a else b)],
      Does c.1 s (wrote s e t rd c.2)

/-- R312. The shift count of SHLI, SHRI and SRAI is the operand `n`, bits [5:0] of the word. -/
def Obligations.ImmediateInstructions : Prop :=
  let runs (s : State) (e : Fin 8) (t : Fin 4) : Prop := s.mayIssue e t = true ∧ (s.thread e t).trapDue = false
  let free (s : State) (e : Fin 8) (t : Fin 4) (r : Fin 32) : Prop := s.regPending e t ((s.thread e t).dest r) = false
  let bool (p : Bool) : BitVec 64 := if p then 1 else 0
  let wrote (s : State) (e : Fin 8) (t : Fin 4) (rd : Fin 32) (v : BitVec 64) (u : State) : Prop :=
    (∀ n : Fin 32, (u.thread e t).gpr n = if n.val = (s.thread e t).no rd ∧ n.val ≠ 0 then v else (s.thread e t).gpr n) ∧
    u.thread e t = { s.thread e t with g := (u.thread e t).g } ∧ u.pc e t = (s.pc e t + 4) % 2 ^ 18 / 4 * 4 ∧
    (∀ (e' : Fin 8) (t' : Fin 4), (e' ≠ e ∨ t' ≠ t) → u.thread e' t' = s.thread e' t') ∧
    FieldsKept s u [R.ENG_THR_STATE_W0_PC e t] ∧
    u = { s with regs := u.regs, eng := { s.eng with thr := u.eng.thr, lastThr := u.eng.lastThr } }
  ∀ (s : State) (e : Fin 8) (t : Fin 4) (rd ra : Fin 32) (imm : BitVec 16) (n : BitVec 6),
    runs s e t → free s e t rd → free s e t ra →
    let a := (s.thread e t).rd ra
    let i := imm.signExtend 64
    let u := imm.zeroExtend 64
    ∀ c ∈ [(Instr.addi e t rd ra imm, a + i), (.andi e t rd ra imm, a &&& u), (.ori e t rd ra imm, a ||| u),
        (.xori e t rd ra imm, a ^^^ u), (.shli e t rd ra n, a <<< n.toNat), (.shri e t rd ra n, a >>> n.toNat),
        (.srai e t rd ra n, a.sshiftRight n.toNat), (.cmpeqi e t rd ra imm, bool (a == i)), (.cmpnei e t rd ra imm, bool (a != i)),
        (.cmplti e t rd ra imm, bool (a.slt i)), (.cmpgei e t rd ra imm, bool (i.sle a)), (.cmpltui e t rd ra imm, bool (a.ult i)),
        (.cmpgeui e t rd ra imm, bool (i.ule a))],
      Does c.1 s (wrote s e t rd c.2)

/-- R317, R318; pc is a multiple of 4 (R275). ENTER1 (R339) branches as BR does and switches the thread to the Velmos-1 decode. -/
def Obligations.BranchInstructions : Prop :=
  let runs (s : State) (e : Fin 8) (t : Fin 4) : Prop :=
    s.mayIssue e t = true ∧ (s.thread e t).trapDue = false ∧ s.pc e t % 4 = 0
  let free (s : State) (e : Fin 8) (t : Fin 4) (r : Fin 32) : Prop := s.regPending e t ((s.thread e t).dest r) = false
  let dst (s : State) (e : Fin 8) (t : Fin 4) (imm : BitVec 21) : Nat := ((s.pc e t + 4 * imm.toInt) % (2 ^ 18 : Int)).toNat
  let went (s : State) (e : Fin 8) (t : Fin 4) (x : Thread) (pc : Nat) (u : State) : Prop :=
    u.thread e t = x ∧ u.pc e t = pc ∧
    (∀ (e' : Fin 8) (t' : Fin 4), (e' ≠ e ∨ t' ≠ t) → u.thread e' t' = s.thread e' t') ∧
    FieldsKept s u [R.ENG_THR_STATE_W0_PC e t] ∧
    u = { s with regs := u.regs, eng := { s.eng with thr := u.eng.thr, lastThr := u.eng.lastThr } }
  let next (s : State) (e : Fin 8) (t : Fin 4) : Nat := (s.pc e t + 4) % 2 ^ 18
  (∀ (s : State) (e : Fin 8) (t : Fin 4) (imm : BitVec 21), runs s e t →
    Does (.br e t imm) s (went s e t (s.thread e t) (dst s e t imm)) ∧
    Does (.enter1 e t imm) s (went s e t { s.thread e t with v1 := true } (dst s e t imm))) ∧
  (∀ (s : State) (e : Fin 8) (t : Fin 4) (rs : Fin 32) (imm : BitVec 21), runs s e t → free s e t rs →
    let v := (s.thread e t).rd rs
    ∀ c ∈ [(Instr.beq e t rs imm, v == 0), (.bne e t rs imm, v != 0), (.blt e t rs imm, v.slt 0), (.bge e t rs imm, !v.slt 0)],
      Does c.1 s (went s e t (s.thread e t) (if c.2 then dst s e t imm else next s e t))) ∧
  (∀ (s : State) (e : Fin 8) (t : Fin 4) (imm : BitVec 21), runs s e t →
    s.regPending e t (.g (if (s.thread e t).v1 then 15 else 31)) = false →
    Does (.call e t imm) s (went s e t
      ((s.thread e t).setGpr (if (s.thread e t).v1 then 15 else 31) (BitVec.ofNat 64 (next s e t))) (dst s e t imm))) ∧
  (∀ (s : State) (e : Fin 8) (t : Fin 4) (ra : Fin 32), runs s e t → free s e t ra →
    let v := (s.thread e t).rd ra
    let fs := (s.thread e t).fs
    Does (.ret e t ra) s (went s e t
      (if v.toNat % 4 = 0 then s.thread e t else { s.thread e t with fs := { fs with code := 3, sticky := Nat.lor fs.sticky 4 } })
      (v.toNat % 2 ^ 18 / 4 * 4)))

/-- R319, R321, R322. `fu` is the total of fu of a time value, `norm` of its normalised form. -/
def Obligations.TimeInstructions : Prop :=
  let runs (s : State) (e : Fin 8) (t : Fin 4) : Prop :=
    s.mayIssue e t = true ∧ (s.thread e t).trapDue = false ∧ (s.thread e t).v1 = false
  let free (s : State) (e : Fin 8) (t : Fin 4) (l : List Dest) : Prop := ∀ d ∈ l, s.regPending e t d = false
  let day : Nat := 2 ^ 48 * 1000000000 * 65536
  let fu (v : BitVec 96) : Nat := (v.toNat / 2 ^ 48 * 1000000000 + v.toNat / 2 ^ 16 % 2 ^ 32) * 65536 + v.toNat % 2 ^ 16
  let norm (v : BitVec 96) : Nat := fu v % day
  let normal (v : BitVec 96) : Prop := v.toNat / 2 ^ 16 % 2 ^ 32 ≤ 999999999
  let others (s : State) (e : Fin 8) (t : Fin 4) (u : State) : Prop :=
    u.pc e t = (s.pc e t + 4) % 2 ^ 18 / 4 * 4 ∧
    (∀ (e' : Fin 8) (t' : Fin 4), (e' ≠ e ∨ t' ≠ t) → u.thread e' t' = s.thread e' t') ∧
    FieldsKept s u [R.ENG_THR_STATE_W0_PC e t] ∧
    u = { s with regs := u.regs, eng := { s.eng with thr := u.eng.thr, lastThr := u.eng.lastThr } }
  let wroteG (s : State) (e : Fin 8) (t : Fin 4) (rd : Fin 32) (v : BitVec 64) (u : State) : Prop :=
    u.thread e t = (s.thread e t).setGpr rd v ∧ others s e t u
  let wroteT (s : State) (e : Fin 8) (t : Fin 4) (td : Fin 8) (p : BitVec 96 → Prop) (u : State) : Prop :=
    p ((u.thread e t).treg td) ∧ (∀ k : Fin 8, k ≠ td → (u.thread e t).treg k = (s.thread e t).treg k) ∧
    u.thread e t = { s.thread e t with t := (u.thread e t).t } ∧ others s e t u
  (∀ (s : State) (e : Fin 8) (t : Fin 4) (td ta : Fin 8) (rb : Fin 32), runs s e t →
    free s e t [.t td, .t ta, (s.thread e t).dest rb] →
    Does (.tadd e t td ta rb) s (wroteT s e t td fun v => normal v ∧
      (fu v : Int) = ((norm ((s.thread e t).treg ta) : Int) + ((s.thread e t).rd rb).toInt) % (day : Int))) ∧
  (∀ (s : State) (e : Fin 8) (t : Fin 4) (rd : Fin 32) (ta tb : Fin 8), runs s e t →
    free s e t [(s.thread e t).dest rd, .t ta, .t tb] →
    let d : Int := norm ((s.thread e t).treg ta) - norm ((s.thread e t).treg tb)
    Does (.tsub e t rd ta tb) s (wroteG s e t rd (BitVec.ofInt 64 (if 2 ^ 63 ≤ d then 2 ^ 63 - 1 else if d ≤ -2 ^ 63 then -(2 ^ 63 - 1) else d))) ∧
    Does (.tcmp e t rd ta tb) s (wroteG s e t rd (if d < 0 then -1 else if d = 0 then 0 else 1))) ∧
  (∀ (s : State) (e : Fin 8) (t : Fin 4) (rd : Fin 32) (ta : Fin 8), runs s e t → free s e t [(s.thread e t).dest rd, .t ta] →
    let n := norm ((s.thread e t).treg ta)
    ∀ c ∈ [(Instr.tcvtSec e t rd ta, n / 65536 / 1000000000), (.tcvtNs e t rd ta, n / 65536 % 1000000000),
        (.tcvtFrac e t rd ta, n % 65536), (.tcvtFu e t rd ta, n % (65536 * 1000000000))],
      Does c.1 s (wroteG s e t rd (BitVec.ofNat 64 c.2))) ∧
  (∀ (s : State) (e : Fin 8) (t : Fin 4) (td : Fin 8) (ra rb : Fin 32), runs s e t →
    free s e t [.t td, (s.thread e t).dest ra, (s.thread e t).dest rb] →
    Does (.tcvtMk e t td ra rb) s (wroteT s e t td fun v => normal v ∧
      fu v = (((s.thread e t).rd ra).toNat % 2 ^ 48 * 1000000000 * 65536 + ((s.thread e t).rd rb).toNat) % day)) ∧
  (∀ (s : State) (e : Fin 8) (t : Fin 4) (td ta : Fin 8), runs s e t → free s e t [.t td, .t ta] →
    Does (.tcvtMov e t td ta) s (wroteT s e t td fun v => v = (s.thread e t).treg ta))

/-- R309, R340. The MAJOR of an undefined word is cause 5 of source 0x068 + n (R443). -/
def Obligations.Velmos1Threads : Prop :=
  let runs (s : State) (e : Fin 8) (t : Fin 4) : Prop := s.mayIssue e t = true ∧ (s.thread e t).trapDue = false
  let norm (v : BitVec 96) : Nat :=
    ((v.toNat / 2 ^ 48 * 1000000000 + v.toNat / 2 ^ 16 % 2 ^ 32) * 65536 + v.toNat % 2 ^ 16) % (2 ^ 48 * 1000000000 * 65536)
  let trapped (s : State) (e : Fin 8) (t : Fin 4) (u : State) : Prop :=
    u.engState e = 3 ∧ (u.thread e t).fs.trapPc = s.pc e t ∧ (u.thread e t).fs.inTrap = true ∧ (u.thread e t).fs.code = 1 ∧
    (u.thread e t).v1 = false ∧ u.pc e t = s.fld (R.ENG_FENCE_VEC_VEC e) / 4 * 4 % 2 ^ 18 ∧ u.tstate e t = 1 ∧
    u.fld (R.FLT_SRC_LAST_CLASS (0x068 + e.val)) = 2 ∧ u.fld (R.FLT_SRC_LAST_CAUSE (0x068 + e.val)) = 5 ∧ MemKept s u
  let undef (s : State) (e : Fin 8) (t : Fin 4) : Prop :=
    runs s e t ∧ s.engState e = 1 ∧ (s.thread e t).fs.inTrap = false ∧ s.pc e t < 2 ^ 18 ∧ s.fenced (0x068 + e) = false
  (∀ (s : State) (e : Fin 8) (t : Fin 4), undef s e t → Does (.undefinedInstruction e t) s (trapped s e t)) ∧
  (∀ (s : State) (e : Fin 8) (t : Fin 4) (rd ra rb : Fin 32) (ta : Fin 8) (r : Fin 64) (sel : Fin 3) (w x y : Bool)
      (hi : Fin 64) (q : Fin 4) (h : Fin 32) (ring : Fin 128), undef s e t → (s.thread e t).v1 = true → sel ≠ 0 → 64 ≤ ring.val →
    ∀ c ∈ [.tcvtFu e t rd ta, .tcvtMk e t ta ra rb, .epoch e t r, .wrfs e t ra, .rdsr e t rd sel, .xadd e t rd ra rb w x,
        .xswp e t rd ra rb w x, .pressAlign e t rd ra rb w, .pressStep e t rd ra rb w, .pressSlew e t rd ra rb w,
        .pressAbort e t rd ra rb w, .seamSelect e t rd ra hi, .seamClearPref e t rd ra hi, .rampGo e t rd q h, .rampAbort e t rd q h,
        .feed e t rd ra ta, .schedPlace e t rd ra rb w x y, .schedCancel e t rd ra rb w x y, .push e t rd ring ra x,
        .pop e t rd ring ra x, .peek e t rd ring ra x],
      Does c s (trapped s e t)) ∧
  (∀ (s : State) (e : Fin 8) (t : Fin 4) (td ta tb : Fin 8) (rd rb : Fin 32), runs s e t → (s.thread e t).v1 = true →
    s.flightsOf e t = [] →
    let th := s.thread e t
    let d : Int := norm (th.treg ta) - norm (th.treg tb)
    Does (.tadd e t td ta rb) s (fun u => (norm ((u.thread e t).treg td) : Int)
      = ((norm (th.treg ta) : Int) + (th.gpr (rb.val % 16)).toInt * 65536) % (2 ^ 48 * 1000000000 * 65536)) ∧
    Does (.tsub e t rd ta tb) s (fun u => u.thread e t
      = th.setGpr (rd.val % 16) (BitVec.ofInt 64 ((max (-(2 ^ 63 - 1)) (min (2 ^ 63 - 1) d)).tdiv 65536))) ∧
    Does (.stamp e t td rb) s (fun u => u.thread e t = th.setTreg td (BitVec.ofNat 96 (encodeHub s.tb.now))))

/-- R274, R277, R296, R327 to R329, R340. -/
def Obligations.ThreadIssue : Prop :=
  let slot (s u : State) : State := { s with eng := { s.eng with lastThr := u.eng.lastThr } }
  let stalled (s : State) (e : Fin 8) (t : Fin 4) (u : State) : Prop :=
    u.tstate e t = 3 ∧ FieldsKept s u [R.ENG_THR_STATE_W0_TSTATE e t] ∧ u = { slot s u with regs := u.regs }
  let trap (s : State) (e : Fin 8) (t : Fin 4) (u : State) : Prop :=
    u.thread e t = { s.thread e t with
      fs := { code := 1, sticky := Nat.lor (s.thread e t).fs.sticky 1, inTrap := true, trapPc := s.pc e t }
      v1 := false
      trapDue := false } ∧
    u.pc e t = s.fld (R.ENG_FENCE_VEC_VEC e) / 4 * 4 % 2 ^ 18 ∧ u.tstate e t = 1 ∧
    FieldsKept s u [R.ENG_THR_STATE_W0_PC e t, R.ENG_THR_STATE_W0_TSTATE e t] ∧
    u = { slot s u with regs := u.regs, eng := { (slot s u).eng with thr := u.eng.thr } }
  let regs3 (e : Fin 8) (t : Fin 4) (rd ra rb : Fin 32) : List Instr :=
    [.add e t rd ra rb, .sub e t rd ra rb, .and e t rd ra rb, .or e t rd ra rb, .xor e t rd ra rb, .shl e t rd ra rb,
      .shr e t rd ra rb, .sra e t rd ra rb, .mul e t rd ra rb, .mulh e t rd ra rb, .sel e t rd ra rb, .cmpeq e t rd ra rb,
      .cmpne e t rd ra rb, .cmplt e t rd ra rb, .cmpge e t rd ra rb, .cmpltu e t rd ra rb, .cmpgeu e t rd ra rb,
      .devw e t rd ra rb]
  let regs2 (e : Fin 8) (t : Fin 4) (rd ra : Fin 32) (i : BitVec 16) (n : BitVec 6) (m : BitVec 12) (x : Bool) : List Instr :=
    [.addi e t rd ra i, .andi e t rd ra i, .ori e t rd ra i, .xori e t rd ra i, .shli e t rd ra n, .shri e t rd ra n,
      .srai e t rd ra n, .cmpeqi e t rd ra i, .cmpnei e t rd ra i, .cmplti e t rd ra i, .cmpgei e t rd ra i,
      .cmpltui e t rd ra i, .cmpgeui e t rd ra i, .ld8 e t rd ra m x, .ld16 e t rd ra m x, .ld32 e t rd ra m x, .ld64 e t rd ra m x,
      .st8 e t rd ra m x, .st16 e t rd ra m x, .st32 e t rd ra m x, .st64 e t rd ra m x, .waite e t rd ra, .devr e t rd ra]
  let plain (e : Fin 8) (t : Fin 4) (td : Fin 8) (ra rb : Fin 32) (b : BitVec 21) (m : BitVec 12) (r : Fin 64) (x : Bool) :
      List Instr :=
    [.br e t b, .beq e t ra b, .bne e t ra b, .blt e t ra b, .bge e t ra b, .call e t b, .enter1 e t b, .ret e t ra,
      .tadd e t td td rb, .tsub e t ra td td, .tcmp e t ra td td, .tcvtSec e t ra td, .tcvtNs e t ra td, .tcvtFrac e t ra td,
      .tcvtFu e t ra td, .tcvtMk e t td ra rb, .tcvtMov e t td td, .stamp e t td rb, .tld e t td ra m x, .tst e t td ra m x,
      .xadd e t ra ra rb x x, .xswp e t ra ra rb x x, .evack e t ra, .beat e t, .fence e t, .rdsr e t ra 0, .wrfs e t ra,
      .epoch e t r, .push e t ra 3 rb x, .pop e t ra 3 rb x, .peek e t ra 3 rb x, .pressAlign e t ra ra rb x,
      .pressStep e t ra ra rb x, .pressSlew e t ra ra rb x, .pressAbort e t ra ra rb x, .seamSelect e t ra rb r,
      .seamClearPref e t ra rb r, .rampGo e t ra 1 0, .rampAbort e t ra 1 0, .feed e t ra rb td, .schedPlace e t ra rb rb x x x,
      .schedCancel e t ra rb rb x x x, .undefinedInstruction e t]
  (∀ (s : State) (e : Fin 8) (t : Fin 4) (td : Fin 8) (rd ra rb : Fin 32) (i : BitVec 16) (n : BitVec 6) (m : BitVec 12)
      (b : BitVec 21) (r : Fin 64) (x : Bool), s.mayIssue e t = false →
    ∀ c ∈ regs3 e t rd ra rb ++ regs2 e t rd ra i n m x ++ plain e t td ra rb b m r x, Ignores c s) ∧
  (∀ (s : State) (e : Fin 8) (t : Fin 4) (td : Fin 8) (rd ra rb : Fin 32) (i : BitVec 16) (n : BitVec 6) (m : BitVec 12)
      (b : BitVec 21) (r : Fin 64) (x : Bool), s.mayIssue e t = true → (s.thread e t).trapDue = true →
      (s.thread e t).fs.inTrap = false →
    ∀ c ∈ regs3 e t rd ra rb ++ regs2 e t rd ra i n m x ++ plain e t td ra rb b m r x, Does c s (trap s e t)) ∧
  (∀ (s : State) (e : Fin 8) (t : Fin 4) (rd ra rb : Fin 32), s.mayIssue e t = true → (s.thread e t).trapDue = false →
    (∃ r ∈ [rd, ra, rb], s.regPending e t ((s.thread e t).dest r) = true) →
    ∀ c ∈ regs3 e t rd ra rb, Does c s (stalled s e t)) ∧
  (∀ (s : State) (e : Fin 8) (t : Fin 4) (rd ra : Fin 32) (i : BitVec 16) (n : BitVec 6) (m : BitVec 12) (x : Bool),
    s.mayIssue e t = true → (s.thread e t).trapDue = false →
    (∃ r ∈ [rd, ra], s.regPending e t ((s.thread e t).dest r) = true) →
    ∀ c ∈ regs2 e t rd ra i n m x, Does c s (stalled s e t)) ∧
  (∀ (s : State) (e : Fin 8) (t : Fin 4) (rd ra : Fin 32) (m : BitVec 12) (x : Bool), s.mayIssue e t = true →
    (s.thread e t).trapDue = false → (∀ r : Fin 32, s.regPending e t ((s.thread e t).dest r) = false) → s.engState e = 1 →
    s.current (s.thread e t).ep = true → s.scoreFull e t = true →
    ∀ c ∈ [.ld8 e t rd ra m x, .ld16 e t rd ra m x, .ld32 e t rd ra m x, .ld64 e t rd ra m x, .st8 e t rd ra m x,
        .st16 e t rd ra m x, .st32 e t rd ra m x, .st64 e t rd ra m x, .devr e t rd ra, .devw e t rd ra ra],
      Does c s (stalled s e t)) ∧
  (∀ (s : State) (e : Fin 8) (t : Fin 4) (rd ra : Fin 32) (r : Fin 64) (sel : Fin 3), s.mayIssue e t = true →
    (s.thread e t).trapDue = false → (s.thread e t).v1 = false → s.flightsOf e t = [] → s.engState e = 1 →
    s.pc e t % 4 = 0 → s.pc e t < 2 ^ 18 →
    let x := s.thread e t
    let pend := s.fld (R.ENG_THR_STATE_W1_PENDING e t)
    let m := (x.rd ra).toNat % 2 ^ 32
    let on (y : Thread) (u : State) : Prop := u.thread e t = y ∧ u.pc e t = (s.pc e t + 4) % 2 ^ 18 ∧ MemKept s u
    Does (.fence e t) s (fun u => on x u ∧ u.tstate e t = s.tstate e t) ∧
    Does (.beat e t) s (fun u => on x u ∧ Tab.get (fun _ => 0) u.eng.beatAt e = s.tb.elapsed) ∧
    Does (.rdsr e t rd sel) s (on (x.wr rd (BitVec.ofNat 64 (if sel = 0 then x.fs.code + 2 ^ 8 * x.fs.sticky +
      (if x.fs.inTrap then 2 ^ 16 else 0) + 2 ^ 32 * x.fs.trapPc else if sel = 1 then x.ep.toNat else e.val + 16 * t.val)))) ∧
    Does (.wrfs e t ra) s (on { x with fs := { x.fs with
      code := (x.rd ra).toNat % 256
      sticky := (x.rd ra).toNat / 256 % 32
      inTrap := (x.rd ra).getLsbD 16 } }) ∧
    (s.holder r = some e.val → Does (.epoch e t r) s (on { x with ep := BitVec.ofNat 16 (r * 256 + s.fld (R.ENG_ROLE_EPOCH r)) })) ∧
    Does (.evack e t ra) s (fun u => on x u ∧ ∀ k ∈ List.range 32, 16 ≤ k →
      (u.fld (R.ENG_THR_STATE_W1_PENDING e t)).testBit k = (pend.testBit k && !m.testBit k)) ∧
    Does (.waite e t rd ra) s (fun u => u.pc e t = (s.pc e t + 4) % 2 ^ 18 ∧ MemKept s u ∧
      if m = 0 then u.tstate e t = 0
      else if Nat.land pend m ≠ 0 then u.tstate e t = s.tstate e t ∧ (u.thread e t).rd rd =
        (if rd = 0 then 0 else BitVec.ofNat 64 (Nat.land pend m))
      else u.tstate e t = 2 ∧ (u.thread e t).mask = m))

/-- R277, R313 to R315, R320, R337. `th`: the thread as it issues. An operation in flight holds its result until OP_COMPLETE (log 29). -/
def Obligations.LoadOperations : Prop :=
  let ops (s : State) (e : Fin 8) (t : Fin 4) : Prop :=
    s.mayIssue e t = true ∧ (s.thread e t).trapDue = false ∧ s.engState e = 1 ∧ s.current (s.thread e t).ep = true ∧
    s.scoreFull e t = false ∧ (s.flightsOf e t).all (fun f => f.done.isSome) = true
  let free (s : State) (e : Fin 8) (t : Fin 4) (l : List Dest) : Prop := ∀ d ∈ l, s.regPending e t d = false
  let issued (s : State) (e : Fin 8) (t : Fin 4) (d : Dest) (op : Op) (r : Option OpResult) (u : State) : Prop :=
    u.flights e = s.flights e ++ [⟨s.freePlace e, t, d, (s.thread e t).ep, op, r⟩] ∧
    u.pc e t = (s.pc e t + 4) % 2 ^ 18 / 4 * 4 ∧ u.eng.thr = s.eng.thr ∧ MemKept s u
  let only (s : State) (e : Fin 8) (t : Fin 4) (l : List Fld) (u : State) : Prop :=
    FieldsKept s u (R.ENG_THR_STATE_W0_PC e t :: l) ∧
    u = { s with regs := u.regs, eng := { s.eng with fl := u.eng.fl, lastThr := u.eng.lastThr } }
  let ea (s : State) (e : Fin 8) (t : Fin 4) (ra : Fin 32) (imm : BitVec 12) : Nat :=
    ((s.thread e t).rd ra + imm.signExtend 64).toNat
  let val (v : Nat) : Option OpResult := some { val := BitVec.ofNat 96 v, code := 0 }
  let exc (c : Nat) : Option OpResult := some { val := 0, code := c }
  let sizes (e : Fin 8) (t : Fin 4) (rd ra : Fin 32) (imm : BitVec 12) (x : Bool) : List (Instr × Nat) :=
    [(.ld8 e t rd ra imm x, 1), (.ld16 e t rd ra imm x, 2), (.ld32 e t rd ra imm x, 4), (.ld64 e t rd ra imm x, 8)]
  (∀ (s : State) (e : Fin 8) (t : Fin 4) (rd ra : Fin 32) (imm : BitVec 12), ops s e t →
    free s e t [(s.thread e t).dest rd, (s.thread e t).dest ra] → ea s e t ra imm < 2 ^ 32 → (bankOf (ea s e t ra imm)).isSome = true →
    s.bankOpen ((bankOf (ea s e t ra imm)).getD 0) = true → s.bank.ecc = [] →
    ∀ c ∈ sizes e t rd ra imm false, ea s e t ra imm % c.2 = 0 →
      Does c.1 s fun u => issued s e t ((s.thread e t).dest rd) (.load (ea s e t ra imm) c.2) (val (s.bytes (ea s e t ra imm) c.2)) u ∧
        only s e t [] u) ∧
  (∀ (s : State) (e : Fin 8) (t : Fin 4) (rd ra : Fin 32) (imm : BitVec 12), ops s e t →
    free s e t [(s.thread e t).dest rd, (s.thread e t).dest ra] → ea s e t ra imm < 2 ^ 32 → (bankOf (ea s e t ra imm)).isSome = true →
    s.bankOpen ((bankOf (ea s e t ra imm)).getD 0) = false →
    ∀ c ∈ sizes e t rd ra imm false, ea s e t ra imm % c.2 = 0 →
      Does c.1 s fun u => issued s e t ((s.thread e t).dest rd) (.load (ea s e t ra imm) c.2) (exc 2) u ∧
        u.fld R.PWR_DOFF_BANKS_COUNT = min (2 ^ R.PWR_DOFF_BANKS_COUNT.width - 1) (s.fld R.PWR_DOFF_BANKS_COUNT + 1) ∧
        only s e t [R.PWR_DOFF_BANKS_COUNT] u) ∧
  (∀ (s : State) (e : Fin 8) (t : Fin 4) (rd ra : Fin 32) (imm : BitVec 12), ops s e t →
    free s e t [(s.thread e t).dest rd, (s.thread e t).dest ra] →
    let a := ea s e t ra imm
    ∀ c ∈ sizes e t rd ra imm false,
      (2 ^ 32 ≤ a ∨ a % c.2 ≠ 0 ∨ mapped a = false ∨ isMailbox a = true ∨ bankOf a = none ∧ c.2 ≠ 4) →
      Does c.1 s fun u => issued s e t ((s.thread e t).dest rd) (.load a c.2) (exc 3) u ∧ only s e t [] u) ∧
  (∀ (s : State) (e : Fin 8) (t : Fin 4) (rd ra : Fin 32) (imm : BitVec 12), ops s e t →
    free s e t [(s.thread e t).dest rd, (s.thread e t).dest ra] →
    let a := ea s e t ra imm
    a % 4 = 0 → isAo a = true →
    Does (.ld32 e t rd ra imm false) s fun u =>
      issued s e t ((s.thread e t).dest rd) (.load a 4) (val (s.bytes a 4)) u ∧ only s e t [] u) ∧
  (∀ (s : State) (e : Fin 8) (t : Fin 4) (rd ra : Fin 32) (imm : BitVec 12), ops s e t →
    free s e t [(s.thread e t).dest rd, (s.thread e t).dest ra] →
    let a := ea s e t ra imm
    a % 4 = 0 → isReg a = true → isMailbox a = false → a / 0x10000 ≠ 0x50B → s.pwrState ≠ 2 →
    Does (.ld32 e t rd ra imm false) s fun u =>
      issued s e t ((s.thread e t).dest rd) (.load a 4) (val (s.regValue a)) u) ∧
  (∀ (s : State) (e : Fin 8) (t : Fin 4) (td : Fin 8) (ra : Fin 32) (imm : BitVec 12), ops s e t →
    free s e t [.t td, (s.thread e t).dest ra] → (s.thread e t).v1 = false → (bankOf (ea s e t ra imm)).isSome = true →
    spaceOf (ea s e t ra imm + 11) = spaceOf (ea s e t ra imm) → ea s e t ra imm % 4 = 0 →
    s.bankOpen ((bankOf (ea s e t ra imm)).getD 0) = true → s.bankOpen ((bankOf (ea s e t ra imm + 11)).getD 0) = true →
    s.bank.ecc = [] →
    Does (.tld e t td ra imm false) s fun u =>
      issued s e t (.t td) (.tld (ea s e t ra imm) false) (val (s.bytes (ea s e t ra imm) 12)) u ∧ only s e t [] u) ∧
  (∀ (s : State) (e : Fin 8) (t : Fin 4) (td : Fin 8) (ra : Fin 32) (imm : BitVec 12), ops s e t →
    free s e t [.t td, (s.thread e t).dest ra] → (s.thread e t).v1 = false →
    (ea s e t ra imm % 4 ≠ 0 ∨ spaceOf (ea s e t ra imm + 11) ≠ spaceOf (ea s e t ra imm) ∨ bankOf (ea s e t ra imm) = none) →
    Does (.tld e t td ra imm false) s fun u => issued s e t (.t td) (.tld (ea s e t ra imm) false) (exc 3) u ∧ only s e t [] u) ∧
  (∀ (s : State) (e : Fin 8) (t : Fin 4) (rd ra : Fin 32) (imm : BitVec 12), ops s e t →
    free s e t [(s.thread e t).dest rd, (s.thread e t).dest ra] →
    ∀ c ∈ sizes e t rd ra imm true, (bankOf (ea s e t ra imm)).isSome = true →
      Does c.1 s fun u => issued s e t ((s.thread e t).dest rd) (.load (ea s e t ra imm) c.2) none u ∧ only s e t [] u)

/-- R301, R313 to R316, R320, R255. -/
def Obligations.StoreOperations : Prop :=
  let ops (s : State) (e : Fin 8) (t : Fin 4) : Prop :=
    s.mayIssue e t = true ∧ (s.thread e t).trapDue = false ∧ s.engState e = 1 ∧ s.current (s.thread e t).ep = true ∧
    s.scoreFull e t = false ∧ (s.flightsOf e t).all (fun f => f.done.isSome) = true
  let free (s : State) (e : Fin 8) (t : Fin 4) (l : List Dest) : Prop := ∀ d ∈ l, s.regPending e t d = false
  let issued (s : State) (e : Fin 8) (t : Fin 4) (d : Dest) (op : Op) (v code : Nat) (u : State) : Prop :=
    u.flights e = s.flights e ++ [⟨s.freePlace e, t, d, (s.thread e t).ep, op, some { val := BitVec.ofNat 96 v, code := code }⟩] ∧
    u.pc e t = (s.pc e t + 4) % 2 ^ 18 / 4 * 4 ∧ u.eng.thr = s.eng.thr
  let only (s : State) (e : Fin 8) (t : Fin 4) (l : List Fld) (u : State) : Prop :=
    FieldsKept s u (R.ENG_THR_STATE_W0_PC e t :: l) ∧ u.bank.ecc = s.bank.ecc ∧ u.bank.lost = s.bank.lost
  let ea (s : State) (e : Fin 8) (t : Fin 4) (ra : Fin 32) (imm : BitVec 12) : Nat :=
    ((s.thread e t).rd ra + imm.signExtend 64).toNat
  let sat (s u : State) (f : Fld) : Prop := u.fld f = min (2 ^ f.width - 1) (s.fld f + 1)
  let sizes (e : Fin 8) (t : Fin 4) (rs ra : Fin 32) (imm : BitVec 12) : List (Instr × Nat) :=
    [(.st8 e t rs ra imm false, 1), (.st16 e t rs ra imm false, 2), (.st32 e t rs ra imm false, 4), (.st64 e t rs ra imm false, 8)]
  let openBank (s : State) (a : Nat) : Prop := (bankOf a).isSome = true ∧ s.bankOpen ((bankOf a).getD 0) = true ∧ s.bank.ecc = []
  let takes (s : State) (e : Fin 8) (a : Nat) : Prop :=
    (bankOf a).getD 0 ≠ e ∧ (bankOf a).getD 0 ≠ 28 ∧ (8 ≤ (bankOf a).getD 0 ∨ s.engState ((bankOf a).getD 0) = 0
      ∨ s.engState ((bankOf a).getD 0) = 4)
  (∀ (s : State) (e : Fin 8) (t : Fin 4) (rs ra : Fin 32) (imm : BitVec 12), ops s e t →
    free s e t [(s.thread e t).dest rs, (s.thread e t).dest ra] → openBank s (ea s e t ra imm) → takes s e (ea s e t ra imm) →
    ∀ c ∈ sizes e t rs ra imm, ea s e t ra imm % c.2 = 0 →
      Does c.1 s fun u => issued s e t .none (.store (ea s e t ra imm) c.2 ((s.thread e t).rd rs)) 0 0 u ∧
        u.bytes (ea s e t ra imm) c.2 = ((s.thread e t).rd rs).toNat % 256 ^ c.2 ∧
        MemKeptOutside s u (ea s e t ra imm) c.2 ∧ only s e t [] u) ∧
  (∀ (s : State) (e : Fin 8) (t : Fin 4) (rs ra : Fin 32) (imm : BitVec 12), ops s e t →
    free s e t [(s.thread e t).dest rs, (s.thread e t).dest ra] → openBank s (ea s e t ra imm) →
    (bankOf (ea s e t ra imm)).getD 0 < 8 → ¬ takes s e (ea s e t ra imm) →
    ∀ c ∈ sizes e t rs ra imm, ea s e t ra imm % c.2 = 0 →
      let b := (bankOf (ea s e t ra imm)).getD 0
      Does c.1 s fun u => issued s e t .none (.store (ea s e t ra imm) c.2 ((s.thread e t).rd rs)) 0 0 u ∧ MemKept s u ∧
        sat s u (R.ENG_IB_WDROP_COUNT b) ∧ u.fld (R.ENG_EVENTS_IB_WDROP_SET b) = 1 ∧
        only s e t [R.ENG_IB_WDROP_COUNT b, R.ENG_EVENTS_IB_WDROP_SET b] u) ∧
  (∀ (s : State) (e : Fin 8) (t : Fin 4) (rs ra : Fin 32) (imm : BitVec 12), ops s e t →
    free s e t [(s.thread e t).dest rs, (s.thread e t).dest ra] → openBank s (ea s e t ra imm) →
    bankOf (ea s e t ra imm) = some 28 →
    ∀ c ∈ sizes e t rs ra imm, ea s e t ra imm % c.2 = 0 →
      Does c.1 s fun u => issued s e t .none (.store (ea s e t ra imm) c.2 ((s.thread e t).rd rs)) 0 0 u ∧ MemKept s u ∧
        sat s u R.EPD_DIR_WDROP_COUNT ∧ u.fld R.EPD_DIR_EVENTS_WDROP_SET = 1) ∧
  (∀ (s : State) (e : Fin 8) (t : Fin 4) (rs ra : Fin 32) (imm : BitVec 12), ops s e t →
    free s e t [(s.thread e t).dest rs, (s.thread e t).dest ra] →
    let a := ea s e t ra imm
    ∀ c ∈ sizes e t rs ra imm,
      (2 ^ 32 ≤ a ∨ a % c.2 ≠ 0 ∨ mapped a = false ∨ isMailbox a = true ∨ bankOf a = none ∧ c.2 ≠ 4) →
      Does c.1 s fun u => issued s e t .none (.store a c.2 ((s.thread e t).rd rs)) 0 3 u ∧ MemKept s u ∧ only s e t [] u) ∧
  (∀ (s : State) (e : Fin 8) (t : Fin 4) (rs ra : Fin 32) (imm : BitVec 12), ops s e t →
    free s e t [(s.thread e t).dest rs, (s.thread e t).dest ra] → (bankOf (ea s e t ra imm)).isSome = true →
    s.bankOpen ((bankOf (ea s e t ra imm)).getD 0) = false →
    ∀ c ∈ sizes e t rs ra imm, ea s e t ra imm % c.2 = 0 →
      Does c.1 s fun u => issued s e t .none (.store (ea s e t ra imm) c.2 ((s.thread e t).rd rs)) 0 2 u ∧ MemKept s u ∧
        sat s u R.PWR_DOFF_BANKS_COUNT ∧ only s e t [R.PWR_DOFF_BANKS_COUNT] u) ∧
  (∀ (s : State) (e : Fin 8) (t : Fin 4) (rs ra : Fin 32) (imm : BitVec 12), ops s e t →
    free s e t [(s.thread e t).dest rs, (s.thread e t).dest ra] →
    let a := ea s e t ra imm
    isAo a = true → a % 4 = 0 →
    Does (.st32 e t rs ra imm false) s fun u => issued s e t .none (.store a 4 ((s.thread e t).rd rs)) 0 0 u ∧
      u.bytes a 4 = ((s.thread e t).rd rs).toNat % 2 ^ 32 ∧ MemKeptOutside s u a 4 ∧ only s e t [] u) ∧
  (∀ (s : State) (e : Fin 8) (t : Fin 4) (ts : Fin 8) (ra : Fin 32) (imm : BitVec 12), ops s e t →
    free s e t [.t ts, (s.thread e t).dest ra] → (s.thread e t).v1 = false → openBank s (ea s e t ra imm) →
    takes s e (ea s e t ra imm) → openBank s (ea s e t ra imm + 11) → takes s e (ea s e t ra imm + 11) →
    spaceOf (ea s e t ra imm + 11) = spaceOf (ea s e t ra imm) → ea s e t ra imm % 4 = 0 →
    let v := (s.thread e t).treg ts
    Does (.tst e t ts ra imm false) s fun u => issued s e t .none (.tst (ea s e t ra imm) false v) 0 0 u ∧
      u.bytes (ea s e t ra imm) 12 = v.toNat ∧ MemKeptOutside s u (ea s e t ra imm) 12 ∧ only s e t [] u) ∧
  (∀ (s : State) (e : Fin 8) (t : Fin 4) (rd ra rb : Fin 32) (w : Bool), ops s e t →
    free s e t [(s.thread e t).dest rd, (s.thread e t).dest ra, (s.thread e t).dest rb] → (s.thread e t).v1 = false →
    let a := ((s.thread e t).rd ra).toNat
    let n := if w then 4 else 8
    let b := ((s.thread e t).rd rb)
    openBank s a → 8 ≤ (bankOf a).getD 0 → (bankOf a).getD 0 < 28 → a % n = 0 →
    (Does (.xadd e t rd ra rb w false) s fun u =>
      issued s e t ((s.thread e t).dest rd) (.xadd a w b) (s.bytes a n) 0 u ∧
        u.bytes a n = (s.bytes a n + b.toNat) % 256 ^ n ∧ MemKeptOutside s u a n ∧ only s e t [] u) ∧
    Does (.xswp e t rd ra rb w false) s fun u =>
      issued s e t ((s.thread e t).dest rd) (.xswp a w b) (s.bytes a n) 0 u ∧
        u.bytes a n = b.toNat % 256 ^ n ∧ MemKeptOutside s u a n ∧ only s e t [] u) ∧
  (∀ (s : State) (e : Fin 8) (t : Fin 4) (rd ra rb : Fin 32) (w : Bool), ops s e t →
    free s e t [(s.thread e t).dest rd, (s.thread e t).dest ra, (s.thread e t).dest rb] → (s.thread e t).v1 = false →
    let a := ((s.thread e t).rd ra).toNat
    let b := ((s.thread e t).rd rb)
    (a % (if w then 4 else 8) ≠ 0 ∨ (bankOf a).getD 0 < 8 ∨ 28 ≤ (bankOf a).getD 0) →
    (Does (.xadd e t rd ra rb w false) s fun u =>
      issued s e t ((s.thread e t).dest rd) (.xadd a w b) 0 3 u ∧ MemKept s u ∧ only s e t [] u) ∧
    Does (.xswp e t rd ra rb w false) s fun u =>
      issued s e t ((s.thread e t).dest rd) (.xswp a w b) 0 3 u ∧ MemKept s u ∧ only s e t [] u)

/-- R324, R325, R359 to R362. The entry and the buffer do not overlap, and both lie in their banks. -/
def Obligations.RingInstructions : Prop :=
  let ops (s : State) (e : Fin 8) (t : Fin 4) (rd ra : Fin 32) (r : Fin 128) : Prop :=
    s.mayIssue e t = true ∧ (s.thread e t).trapDue = false ∧ s.engState e = 1 ∧ s.current (s.thread e t).ep = true ∧
    s.scoreFull e t = false ∧ (s.flightsOf e t).all (fun f => f.done.isSome) = true ∧
    s.regPending e t ((s.thread e t).dest rd) = false ∧ s.regPending e t ((s.thread e t).dest ra) = false ∧
    ((s.thread e t).v1 = true → r.val < 64)
  let role (s : State) (e : Fin 8) (t : Fin 4) : Nat := (s.thread e t).ep.toNat / 256 % 64
  let result (s : State) (e : Fin 8) (v code : Nat) (u : State) : Prop :=
    (u.flights e).length = (s.flights e).length + 1 ∧
    ((u.flights e).getLast?.bind (fun f => f.done)) = some { val := BitVec.ofNat 96 v, code := code }
  let next (s : State) (e : Fin 8) (t : Fin 4) (u : State) : Prop := u.pc e t = (s.pc e t + 4) % 2 ^ 18 / 4 * 4
  let copy (s : State) (r : Fin 128) (entry buf : Nat) : Prop :=
    bankOf entry = some (ringBank r) ∧ bankOf (entry + s.ringEsz r - 1) = some (ringBank r) ∧ s.bankOpen ((bankOf (buf + s.ringEsz r - 1)).getD 0) = true ∧
    s.bankOpen (ringBank r) = true ∧ s.bankOpen ((bankOf buf).getD 0) = true ∧ s.bank.ecc = [] ∧
    (buf + s.ringEsz r ≤ entry ∨ entry + s.ringEsz r ≤ buf)
  (∀ (s : State) (e : Fin 8) (t : Fin 4) (rd ra : Fin 32) (r : Fin 128), ops s e t rd ra r →
    let buf := ((s.thread e t).rd ra).toNat
    let entry := s.ringEntry r (s.ringTail r)
    ringBuf buf (s.ringEsz r) = true → ringGroup r true = true → s.ringOwner r (role s e t) true = true → s.ringsFenced = false →
    s.ringRoom r ≠ 0 → copy s r entry buf →
    Does (.push e t rd r ra false) s fun u => result s e (s.ringFree r) 0 u ∧ next s e t u ∧
      u.byteList entry (s.ringEsz r) = s.byteList buf (s.ringEsz r) ∧ u.ringTail r = (s.ringTail r + 1) % 2 ^ 17 ∧
      u.ringHead r = s.ringHead r ∧ MemKeptOutside s u entry (s.ringEsz r)) ∧
  (∀ (s : State) (e : Fin 8) (t : Fin 4) (rd ra : Fin 32) (r : Fin 128), ops s e t rd ra r →
    let buf := ((s.thread e t).rd ra).toNat
    let entry := s.ringEntry r (s.ringHead r)
    ringBuf buf (s.ringEsz r) = true → ringGroup r false = true → s.ringOwner r (role s e t) false = true → s.ringsFenced = false →
    s.ringOn r = true → s.ringCount r ≠ 0 → copy s r entry buf →
    (Does (.pop e t rd r ra false) s fun u => result s e (s.ringCount r) 0 u ∧ next s e t u ∧
      u.byteList buf (s.ringEsz r) = s.byteList entry (s.ringEsz r) ∧ u.ringHead r = (s.ringHead r + 1) % 2 ^ 17 ∧
      u.ringTail r = s.ringTail r ∧ MemKeptOutside s u buf (s.ringEsz r)) ∧
    Does (.peek e t rd r ra false) s fun u => result s e (s.ringCount r) 0 u ∧ next s e t u ∧
      u.byteList buf (s.ringEsz r) = s.byteList entry (s.ringEsz r) ∧ u.ringHead r = s.ringHead r ∧
      u.ringTail r = s.ringTail r ∧ MemKeptOutside s u buf (s.ringEsz r)) ∧
  (∀ (s : State) (e : Fin 8) (t : Fin 4) (rd ra : Fin 32) (r : Fin 128), ops s e t rd ra r →
    let buf := ((s.thread e t).rd ra).toNat
    ringBuf buf (s.ringEsz r) = true → ringGroup r true = true → s.ringOwner r (role s e t) true = true → s.ringsFenced = false →
    s.ringRoom r = 0 →
    Does (.push e t rd r ra false) s fun u => result s e 0 5 u ∧ next s e t u ∧ u.fld (R.RING_STAT_FULL_SET r) = 1 ∧
      u.ringTail r = s.ringTail r ∧ MemKept s u) ∧
  (∀ (s : State) (e : Fin 8) (t : Fin 4) (rd ra : Fin 32) (r : Fin 128), ops s e t rd ra r →
    let buf := ((s.thread e t).rd ra).toNat
    ringBuf buf (s.ringEsz r) = true → ringGroup r false = true → s.ringOwner r (role s e t) false = true → s.ringsFenced = false →
    (s.ringOn r = false ∨ s.ringCount r = 0) →
    ∀ c ∈ [.pop e t rd r ra false, .peek e t rd r ra false], Does c s fun u => result s e 0 4 u ∧ next s e t u ∧
      u.ringHead r = s.ringHead r ∧ FieldsKept s u [R.ENG_THR_STATE_W0_PC e t] ∧ MemKept s u) ∧
  (∀ (s : State) (e : Fin 8) (t : Fin 4) (rd ra : Fin 32) (r : Fin 128), ops s e t rd ra r →
    let buf := ((s.thread e t).rd ra).toNat
    ∀ c ∈ [(Instr.push e t rd r ra false, true), (.pop e t rd r ra false, false), (.peek e t rd r ra false, false)],
      (ringBuf buf (s.ringEsz r) = false ∨ ringGroup r c.2 = false) →
      Does c.1 s fun u => result s e 0 3 u ∧ next s e t u ∧ FieldsKept s u [R.ENG_THR_STATE_W0_PC e t] ∧ MemKept s u) ∧
  (∀ (s : State) (e : Fin 8) (t : Fin 4) (rd ra : Fin 32) (r : Fin 128), ops s e t rd ra r →
    let buf := ((s.thread e t).rd ra).toNat
    ∀ c ∈ [(Instr.push e t rd r ra false, true), (.pop e t rd r ra false, false), (.peek e t rd r ra false, false)],
      ringBuf buf (s.ringEsz r) = true → ringGroup r c.2 = true → s.ringOwner r (role s e t) c.2 = false →
      Does c.1 s fun u => result s e 0 3 u ∧ next s e t u ∧ u.fld (R.RING_STAT_OWN_REJ r) = 1 ∧
        FieldsKept s u [R.ENG_THR_STATE_W0_PC e t, R.RING_STAT_OWN_REJ r] ∧ MemKept s u)

/-- R277, R331 to R336, R265, R266, R269. The operand lists name ra, rb, the aux bits and the time register of each word. The choice of
the calendar slot is free (log 21). -/
def Obligations.DeviceOperations : Prop :=
  let ops (s : State) (e : Fin 8) (t : Fin 4) (l : List Dest) : Prop :=
    s.mayIssue e t = true ∧ (s.thread e t).trapDue = false ∧ s.engState e = 1 ∧ s.current (s.thread e t).ep = true ∧
    s.scoreFull e t = false ∧ (s.flightsOf e t).all (fun f => f.done.isSome) = true ∧ (s.thread e t).v1 = false ∧
    ∀ d ∈ l, s.regPending e t d = false
  let flight (s : State) (e : Fin 8) (t : Fin 4) (rd : Fin 32) (op : Op) (r : Option OpResult) (u : State) : Prop :=
    u.flights e = s.flights e ++ [⟨s.freePlace e, t, (s.thread e t).dest rd, (s.thread e t).ep, op, r⟩] ∧ u.pc e t = (s.pc e t + 4) % 2 ^ 18 / 4 * 4 ∧ u.eng.thr = s.eng.thr ∧ MemKept s u
  let exc (c : Nat) : Option OpResult := some { val := 0, code := c }
  let aux (form : Nat) (align : Bool) : Nat := form + (if align then 4 else 0)
  (∀ (s : State) (e : Fin 8) (t : Fin 4) (rd ra rb : Fin 32) (ts : Fin 8) (al : Bool) (hi : Fin 64) (h : Fin 32) (p : Fin 4),
    ops s e t [(s.thread e t).dest rd, (s.thread e t).dest ra, (s.thread e t).dest rb, .t ts] →
    let a := (s.thread e t).gpr ra
    let b := (s.thread e t).gpr rb
    ∀ c ∈ [(Instr.pressAlign e t rd ra rb al, Op.press (aux 0 al) a b), (.pressStep e t rd ra rb al, .press (aux 1 al) a b),
        (.pressSlew e t rd ra rb al, .press (aux 2 al) a b), (.pressAbort e t rd ra rb al, .press (aux 3 al) a b),
        (.seamSelect e t rd ra hi, .seam (1 + 4 * hi) a), (.seamClearPref e t rd ra hi, .seam (2 + 4 * hi) a),
        (.rampGo e t rd p h, .ramp (p + 8 * h)), (.rampAbort e t rd p h, .ramp (p + 4 + 8 * h)),
        (.feed e t rd ra ts, .feed a ((s.thread e t).treg ts))],
      Does c.1 s fun u => flight s e t rd c.2 none u ∧ u.lane e = s.lane e ++ [.flight (s.freePlace e) t] ∧
        FieldsKept s u [R.ENG_THR_STATE_W0_PC e t, R.ENG_MB_WAIT_WAITS e]) ∧
  (∀ (s : State) (e : Fin 8) (t : Fin 4) (rd ra rb : Fin 32),
    ops s e t [(s.thread e t).dest rd, (s.thread e t).dest ra, (s.thread e t).dest rb] →
    let a := ((s.thread e t).gpr ra).toNat % 2 ^ 32
    ∀ c ∈ [(Instr.devr e t rd ra, Op.devr a), (.devw e t rd ra rb, .devw a (((s.thread e t).gpr rb).setWidth 32))],
      Does c.1 s fun u =>
        if a % 4 = 0 ∧ isMailbox a = true then flight s e t rd c.2 none u ∧ u.lane e = s.lane e ++ [.flight (s.freePlace e) t] ∧
          FieldsKept s u [R.ENG_THR_STATE_W0_PC e t, R.ENG_MB_WAIT_WAITS e]
        else flight s e t rd c.2 (exc 3) u ∧ u.mb = s.mb ∧ FieldsKept s u [R.ENG_THR_STATE_W0_PC e t]) ∧
  (∀ (s : State) (e : Fin 8) (t : Fin 4) (rd ra link : Fin 32) (no : Bool),
    ops s e t [(s.thread e t).dest rd, (s.thread e t).dest ra] →
    let buf := ((s.thread e t).gpr ra).toNat
    let h := s.byteList buf 32
    let at_ := decodeHub (launchAt h)
    ((s.thread e t).ep.toNat / 256 % 64 = 8 + link / 4) → buf % 128 = 0 → launchBank buf = true →
    s.bankOpen ((bankOf buf).getD 0) = true → s.bank.ecc = [] → headerOk h = true → launchAt h ≠ 0 →
    launchBank (buf + 128 * launchEntries h - 1) = true → at_ ≤ s.tb.now + 2 ^ 32 * 65536 →
    s.tb.now + 25 * 65536 * 1000 ≤ at_ → (s.link link).cal = [] →
    Does (.schedPlace e t rd ra link no false false) s fun u =>
      ∃ l ∈ (u.link link).cal, (u.link link).cal = [l] ∧ l.at_ = at_ ∧ l.buf = buf ∧ l.notify = no ∧ l.frame = none ∧
        l.tol = (if launchFlag h 3 then launchTol h else s.fld (R.LNK_LATE_TOL_TOL link)) ∧
        l.gen = (Tab.get (fun _ => 0) (s.link link).gens l.slot + 1) % 2 ^ 16 ∧
        ((u.flights e).getLast?.bind (fun f => f.done)) =
          some { val := BitVec.ofNat 96 (2 ^ 31 + link * 2 ^ 26 + l.slot * 2 ^ 16 + l.gen), code := 0 } ∧
        FieldsKept s u [R.ENG_THR_STATE_W0_PC e t] ∧ MemKept s u) ∧
  (∀ (s : State) (e : Fin 8) (t : Fin 4) (rd ra link : Fin 32) (no : Bool),
    ops s e t [(s.thread e t).dest rd, (s.thread e t).dest ra] →
    let buf := ((s.thread e t).gpr ra).toNat
    let h := s.byteList buf 32
    let status (u : State) (n : Nat) : Prop :=
      ((u.flights e).getLast?.bind (fun f => f.done)) = some { val := BitVec.ofNat 96 (2 ^ 32 * n), code := 0 } ∧ u.links = s.links
    ((s.thread e t).ep.toNat / 256 % 64 ≠ 8 + link / 4 →
      Does (.schedPlace e t rd ra link no false false) s (fun u => status u 5)) ∧
    ((s.thread e t).ep.toNat / 256 % 64 = 8 + link / 4 → (buf % 128 ≠ 0 ∨ launchBank buf = false) →
      Does (.schedPlace e t rd ra link no false false) s (fun u => status u 4)) ∧
    ((s.thread e t).ep.toNat / 256 % 64 = 8 + link / 4 → buf % 128 = 0 → launchBank buf = true →
      s.bankOpen ((bankOf buf).getD 0) = true → s.bank.ecc = [] → headerOk h = true → launchAt h ≠ 0 →
      launchBank (buf + 128 * launchEntries h - 1) = true →
      Does (.schedPlace e t rd ra link no false false) s fun u =>
        (s.tb.now + 2 ^ 32 * 65536 < decodeHub (launchAt h) → status u 2) ∧
        (decodeHub (launchAt h) < s.tb.now + 25 * 65536 * 1000 → status u 3)) ∧
    Does (.schedPlace e t rd ra link no true false) s (fun u => status u 4)) ∧
  (∀ (s : State) (e : Fin 8) (t : Fin 4) (rd ra low : Fin 32), ops s e t [(s.thread e t).dest rd, (s.thread e t).dest ra] →
    let hd := ((s.thread e t).gpr ra).toNat % 2 ^ 32
    let n := hd / 2 ^ 26 % 32
    let owner := (s.thread e t).ep.toNat / 256 % 64 = 8 + n / 4
    let named (x : Launch) : Bool := x.slot == hd / 2 ^ 16 % 1024 && x.gen == hd % 2 ^ 16
    let status (u : State) (c : Nat) : Prop :=
      ((u.flights e).getLast?.bind (fun f => f.done)) = some { val := BitVec.ofNat 96 (hd + 2 ^ 32 * c), code := 0 } ∧
      FieldsKept s u [R.ENG_THR_STATE_W0_PC e t] ∧ MemKept s u
    (¬ owner → Does (.schedCancel e t rd ra low false false false) s (fun u => status u 5 ∧ u.links = s.links)) ∧
    (owner → 2 ^ 31 ≤ hd → (s.link n).cal.any named = true →
      (s.link n).cal.all (fun x => !named x || x.frame.isNone && decide (s.tb.now + 20 * 65536 * 1000 < x.at_)) = true →
      Does (.schedCancel e t rd ra low false false false) s (fun u => status u 0 ∧
        (u.link n).cal = (s.link n).cal.filter (fun x => x.slot != hd / 2 ^ 16 % 1024))) ∧
    (owner → 2 ^ 31 ≤ hd → (s.link n).cal.any named = true →
      (s.link n).cal.all (fun x => !named x || x.frame.isSome || decide (x.at_ ≤ s.tb.now + 20 * 65536 * 1000)) = true →
      Does (.schedCancel e t rd ra low false false false) s (fun u => status u 7 ∧ u.links = s.links)) ∧
    (owner → ((s.link n).cal.any named = false ∨ hd < 2 ^ 31) →
      Does (.schedCancel e t rd ra low false false false) s (fun u => status u 6 ∧ u.links = s.links)) ∧
    ∀ c ∈ [.schedCancel e t rd ra low true false false, .schedCancel e t rd ra low false true false],
      Does c s (fun u => status u 4 ∧ u.links = s.links))

/-- R275, R276, R279, R282, R284, R287, R294, R296, R323, R327 to R329. -/
def Obligations.EventInstructions : Prop :=
  let runs (s : State) (e : Fin 8) (t : Fin 4) (l : List Dest) : Prop :=
    s.mayIssue e t = true ∧ (s.thread e t).trapDue = false ∧ s.pc e t % 4 = 0 ∧ s.pc e t < 2 ^ 18 ∧
    ∀ d ∈ l, s.regPending e t d = false
  let others (s : State) (e : Fin 8) (t : Fin 4) (u : State) : Prop :=
    (∀ (e' : Fin 8) (t' : Fin 4), (e' ≠ e ∨ t' ≠ t) → u.thread e' t' = s.thread e' t') ∧
    u = { s with regs := u.regs, eng := { s.eng with thr := u.eng.thr, lastThr := u.eng.lastThr } }
  let next (s : State) (e : Fin 8) (t : Fin 4) (u : State) : Prop := u.pc e t = (s.pc e t + 4) % 2 ^ 18
  let pend (s : State) (e : Fin 8) (t : Fin 4) : Nat := s.fld (R.ENG_THR_STATE_W1_PENDING e t)
  let mask (s : State) (e : Fin 8) (t : Fin 4) (ra : Fin 32) : Nat :=
    ((s.thread e t).rd ra).toNat % (if (s.thread e t).v1 then 2 ^ 16 else 2 ^ 32)
  let moved (s : State) (e : Fin 8) (t : Fin 4) (x : Thread) (u : State) : Prop :=
    u.thread e t = x ∧ next s e t u ∧ FieldsKept s u [R.ENG_THR_STATE_W0_PC e t] ∧ others s e t u
  let trap (s : State) (e : Fin 8) (t : Fin 4) (u : State) : Prop :=
    u.thread e t = { s.thread e t with
      fs := { code := 1, sticky := Nat.lor (s.thread e t).fs.sticky 1, inTrap := true, trapPc := s.pc e t }
      v1 := false
      trapDue := false } ∧ u.pc e t = s.fld (R.ENG_FENCE_VEC_VEC e) / 4 * 4 % 2 ^ 18 ∧ u.tstate e t = 1 ∧
    FieldsKept s u [R.ENG_THR_STATE_W0_PC e t, R.ENG_THR_STATE_W0_TSTATE e t] ∧ others s e t u
  let marked (x : Thread) : Thread := { x with fs := { x.fs with sticky := Nat.lor x.fs.sticky 1 } }
  (∀ (s : State) (e : Fin 8) (t : Fin 4) (rd ra : Fin 32), runs s e t [(s.thread e t).dest rd, (s.thread e t).dest ra] →
    mask s e t ra = 0 →
    Does (.waite e t rd ra) s fun u => u.tstate e t = 0 ∧ u.thread e t = { (s.thread e t).wr rd 0 with v1 := false } ∧ next s e t u ∧
      FieldsKept s u [R.ENG_THR_STATE_W0_PC e t, R.ENG_THR_STATE_W0_TSTATE e t] ∧ others s e t u) ∧
  (∀ (s : State) (e : Fin 8) (t : Fin 4) (rd ra : Fin 32), runs s e t [(s.thread e t).dest rd, (s.thread e t).dest ra] →
    Nat.land (pend s e t) (mask s e t ra) ≠ 0 →
    let m := Nat.land (pend s e t) (mask s e t ra)
    Does (.waite e t rd ra) s (moved s e t { (s.thread e t).wr rd (BitVec.ofNat 64 m) with
      lastEv := (lowestBit m).map (fun k => Tab.get (fun _ => 0) (s.thread e t).evAt k) })) ∧
  (∀ (s : State) (e : Fin 8) (t : Fin 4) (rd ra : Fin 32), runs s e t [(s.thread e t).dest rd, (s.thread e t).dest ra] →
    mask s e t ra ≠ 0 → Nat.land (pend s e t) (mask s e t ra) = 0 → s.engState e ≠ 3 →
    Does (.waite e t rd ra) s fun u => u.tstate e t = 2 ∧ next s e t u ∧
      u.thread e t = { s.thread e t with mask := mask s e t ra, wrd := (s.thread e t).no rd } ∧
      FieldsKept s u [R.ENG_THR_STATE_W0_PC e t, R.ENG_THR_STATE_W0_TSTATE e t] ∧ others s e t u) ∧
  (∀ (s : State) (e : Fin 8) (t : Fin 4) (rd ra : Fin 32), runs s e t [(s.thread e t).dest rd, (s.thread e t).dest ra] →
    mask s e t ra ≠ 0 → Nat.land (pend s e t) (mask s e t ra) = 0 → s.engState e = 3 →
    let x := { s.thread e t with mask := mask s e t ra, wrd := (s.thread e t).no rd }
    Does (.waite e t rd ra) s fun u => FieldsKept s u [R.ENG_THR_STATE_W0_PC e t, R.ENG_THR_STATE_W0_TSTATE e t] ∧ others s e t u ∧
      if (s.thread e t).fs.inTrap = true then u.thread e t = marked x ∧ u.tstate e t = 2 ∧ next s e t u
      else u.thread e t = { x with fs := { code := 1, sticky := Nat.lor x.fs.sticky 1, inTrap := true, trapPc := s.pc e t }
                                   v1 := false } ∧
        u.tstate e t = 1 ∧ u.pc e t = s.fld (R.ENG_FENCE_VEC_VEC e) / 4 * 4 % 2 ^ 18) ∧
  (∀ (s : State) (e : Fin 8) (t : Fin 4) (ra : Fin 32), runs s e t [(s.thread e t).dest ra] →
    Does (.evack e t ra) s fun u =>
      (∀ k ∈ List.range 32, (pend u e t).testBit k =
        ((pend s e t).testBit k && !((mask s e t ra).testBit k && !(decide (k < 16) && s.ringHolds e t k)))) ∧
      u.thread e t = s.thread e t ∧ next s e t u ∧
      FieldsKept s u [R.ENG_THR_STATE_W0_PC e t, R.ENG_THR_STATE_W1_PENDING e t] ∧ others s e t u) ∧
  (∀ (s : State) (e : Fin 8) (t : Fin 4), runs s e t [] → s.engState e ≠ 3 →
    Does (.beat e t) s fun u => Tab.get (fun _ => 0) u.eng.beatAt e = s.tb.elapsed ∧ u.thread e t = s.thread e t ∧ next s e t u ∧
      FieldsKept s u [R.ENG_THR_STATE_W0_PC e t] ∧ MemKept s u) ∧
  (∀ (s : State) (e : Fin 8) (t : Fin 4), runs s e t [] → s.engState e = 3 → (s.thread e t).fs.inTrap = false →
    Does (.beat e t) s (trap s e t)) ∧
  (∀ (s : State) (e : Fin 8) (t : Fin 4), runs s e t [] → s.engState e = 3 → (s.thread e t).fs.inTrap = true →
    Does (.beat e t) s (moved s e t (marked (s.thread e t)))) ∧
  (∀ (s : State) (e : Fin 8) (t : Fin 4), runs s e t [] → s.flightsOf e t = [] →
    Does (.fence e t) s (moved s e t (s.thread e t))) ∧
  (∀ (s : State) (e : Fin 8) (t : Fin 4), runs s e t [] → s.flightsOf e t ≠ [] →
    Does (.fence e t) s fun u => u.tstate e t = 3 ∧ u.pc e t = s.pc e t ∧ u.thread e t = s.thread e t ∧
      FieldsKept s u [R.ENG_THR_STATE_W0_TSTATE e t] ∧ others s e t u) ∧
  (∀ (s : State) (e : Fin 8) (t : Fin 4) (rd : Fin 32) (sel : Fin 3), runs s e t [(s.thread e t).dest rd] →
    ((s.thread e t).v1 = true → sel = 0) →
    let fs := (s.thread e t).fs
    Does (.rdsr e t rd sel) s (moved s e t ((s.thread e t).wr rd (BitVec.ofNat 64
      (if sel = 0 then fs.code + 2 ^ 8 * fs.sticky + (if fs.inTrap then 2 ^ 16 else 0) + 2 ^ 32 * fs.trapPc
        else if sel = 1 then (s.thread e t).ep.toNat else e.val + 16 * t.val))))) ∧
  (∀ (s : State) (e : Fin 8) (t : Fin 4) (ra : Fin 32), runs s e t [(s.thread e t).dest ra] → (s.thread e t).v1 = false →
    let v := (s.thread e t).gpr ra
    Does (.wrfs e t ra) s (moved s e t { s.thread e t with
      fs := { (s.thread e t).fs with
        code := v.toNat % 256
        sticky := v.toNat / 256 % 32
        inTrap := v.getLsbD 16 } })) ∧
  (∀ (s : State) (e : Fin 8) (t : Fin 4) (r : Fin 64), runs s e t [] → (s.thread e t).v1 = false → s.holder r = some e.val →
    Does (.epoch e t r) s (moved s e t { s.thread e t with ep := BitVec.ofNat 16 (r * 256 + s.fld (R.ENG_ROLE_EPOCH r)) })) ∧
  (∀ (s : State) (e : Fin 8) (t : Fin 4) (r : Fin 64), runs s e t [] → (s.thread e t).v1 = false → s.holder r ≠ some e.val →
    (s.thread e t).fs.inTrap = false → Does (.epoch e t r) s (trap s e t)) ∧
  (∀ (s : State) (e : Fin 8) (t : Fin 4) (r : Fin 64), runs s e t [] → (s.thread e t).v1 = false → s.holder r ≠ some e.val →
    (s.thread e t).fs.inTrap = true → Does (.epoch e t r) s (moved s e t (marked (s.thread e t)))) ∧
  (∀ (s : State) (e : Fin 8) (t : Fin 4) (td : Fin 8) (rb : Fin 32), runs s e t [.t td] → (s.thread e t).v1 = true →
    Does (.stamp e t td rb) s (moved s e t ((s.thread e t).setTreg td (BitVec.ofNat 96 (encodeHub s.tb.now))))) ∧
  (∀ (s : State) (e : Fin 8) (t : Fin 4) (td : Fin 8) (rb : Fin 32), runs s e t [.t td, (s.thread e t).dest rb] →
    (s.thread e t).v1 = false →
    Does (.stamp e t td rb) s (moved s e t (((s.thread e t).setTreg td (BitVec.ofNat 96 (encodeHub s.tb.now))).setGpr rb
      (BitVec.ofNat 64 (match (s.thread e t).lastEv with
        | some at_ => min 65535 ((s.tb.elapsed - at_) / 65536)
        | none => 0xFFFF)))))

/-- R277, R278, R281, R288, R296, R337. The place of an operation names it once. -/
def Obligations.OperationCompletion : Prop :=
  let at_ (s : State) (e : Fin 8) (p : Fin 16) : List Flight := (s.flights e).filter (fun f => f.place == p.val)
  let awake (s : State) : Prop := s.pwrState = 0 ∧ s.pwr.drained = false ∧ s.pwr.wakeDue = false
  let freed (s u : State) (e : Fin 8) (p : Fin 16) : Prop := u.flights e = (s.flights e).filter (fun f => f.place != p.val)
  let ready (s u : State) (e : Fin 8) (t : Nat) : Prop := u.tstate e t = (if s.tstate e t = 3 then 1 else s.tstate e t)
  let put (x : Thread) (d : Dest) (v : BitVec 96) : Thread :=
    match d with
    | .none => x
    | .g n => x.setGpr n (v.setWidth 64)
    | .t n => x.setTreg n v
  let coded (x : Thread) (c : Nat) : Thread :=
    if c = 0 then x
    else if c = 1 then (if x.fs.inTrap then { x with fs := { x.fs with sticky := Nat.lor x.fs.sticky 1 } } 
      else { x with fs := { x.fs with code := 1, sticky := Nat.lor x.fs.sticky 1 }, trapDue := true })
    else { x with fs := { x.fs with code := c, sticky := Nat.lor x.fs.sticky (2 ^ (c - 1)) } }
  let kept (s u : State) (e : Fin 8) (t : Nat) (l : List Fld) : Prop :=
    FieldsKept s u (R.ENG_THR_STATE_W0_TSTATE e t :: l) ∧ MemKept s u
  let full (s : State) (e : Fin 8) : Prop := 16 ≤ (s.flights e).length
  (∀ (s : State) (e : Fin 8) (p : Fin 16) (f : Flight) (r : OpResult), awake s → at_ s e p = [f] → f.done = some r →
    Does (.opComplete e p) s fun u => freed s u e p ∧ ready s u e f.thr ∧
      u.thread e f.thr = coded (put (s.thread e f.thr) f.dest r.val) r.code ∧
      (∀ t : Fin 4, t.val ≠ f.thr → u.tstate e t = if s.tstate e t = 3 ∧ full s e then 1 else s.tstate e t) ∧
      kept s u e f.thr [R.ENG_THR_STATE_W0_TSTATE e 0, R.ENG_THR_STATE_W0_TSTATE e 1, R.ENG_THR_STATE_W0_TSTATE e 2,
        R.ENG_THR_STATE_W0_TSTATE e 3]) ∧
  (∀ (s : State) (e : Fin 8) (p : Fin 16) (f : Flight) (a n : Nat), awake s → s.flights e = [f] → f.place = p → f.done = none →
    f.op = .load a n → n ∈ [1, 2, 4, 8] → a < 2 ^ 32 → a % n = 0 → (bankOf a).isSome = true →
    s.bankOpen ((bankOf a).getD 0) = true → s.bank.ecc = [] →
    Does (.opComplete e p) s fun u => freed s u e p ∧ ready s u e f.thr ∧
      u.thread e f.thr = put (s.thread e f.thr) f.dest (BitVec.ofNat 96 (s.bytes a n)) ∧ kept s u e f.thr []) ∧
  (∀ (s : State) (e : Fin 8) (p : Fin 16) (f : Flight) (a n : Nat) (v : BitVec 64), awake s → s.flights e = [f] → f.place = p →
    f.done = none → f.op = .store a n v → n ∈ [1, 2, 4, 8] → a < 2 ^ 32 → a % n = 0 → (bankOf a).isSome = true →
    s.current f.tok = false →
    Does (.opComplete e p) s fun u => freed s u e p ∧ u.thread e f.thr = coded (put (s.thread e f.thr) f.dest 0) 1 ∧
      u.fld (R.ENG_LINT_BANK e) = min (2 ^ (R.ENG_LINT_BANK e).width - 1) (s.fld (R.ENG_LINT_BANK e) + 1) ∧
      u.fld (R.ENG_EVENTS_LINT_SET e) ≠ 0 ∧
      kept s u e f.thr [R.ENG_LINT_BANK e, R.ENG_EVENTS_LINT_SET e, R.FLT_SRC_NOTES (0x070 + e.val)]) ∧
  (∀ (s : State) (e : Fin 8) (p : Fin 16), at_ s e p = [] → Ignores (.opComplete e p) s) ∧
  (∀ (s : State) (e : Fin 8) (p : Fin 16) (f : Flight), at_ s e p = [f] → f.done = none → f.op.mail = true →
    s.pwr.wakeDue = false → Ignores (.opComplete e p) s) ∧
  (∀ (s : State) (e : Fin 8) (t : Fin 4), s.powered = true → (s.thread e t).armed = true → s.timerAt e t ≤ s.tb.now →
    Does (.threadTimer e t) s fun u =>
      let hit := s.tstate e t = 2 ∧ (s.thread e t).mask.testBit 19 = true
      (u.thread e t).armed = false ∧ (u.fld (R.ENG_THR_STATE_W1_PENDING e t)).testBit 19 = true ∧
      (∀ k ∈ List.range 19, (u.fld (R.ENG_THR_STATE_W1_PENDING e t)).testBit k
        = (s.fld (R.ENG_THR_STATE_W1_PENDING e t)).testBit k) ∧
      (hit → u.tstate e t = 1) ∧
      (s.tstate e t ≠ 2 → u.tstate e t = s.tstate e t ∧ ∀ n : Fin 32, (u.thread e t).gpr n = (s.thread e t).gpr n) ∧
      FieldsKept s u [R.ENG_THR_STATE_W0_TSTATE e t, R.ENG_THR_STATE_W1_PENDING e t] ∧ MemKept s u) ∧
  (∀ (s : State) (e : Fin 8) (t : Fin 4), s.powered = true → ((s.thread e t).armed = false ∨ s.tb.now < s.timerAt e t) →
    Ignores (.threadTimer e t) s)

/-- R26 to R28, R288, R298, R299, R458. `busy`: the only waiting operation is that of place p of engine e. -/
def Obligations.MailboxAdmission : Prop :=
  let on (s : State) : Prop := s.pwrState < 3 ∧ s.pwr.phase = 0 ∧ s.pwr.wakeDue = false
  let busy (s : State) (e : Fin 8) (f : Flight) : Prop :=
    on s ∧ s.lane e = [.flight f.place f.thr] ∧ (∀ l ∈ List.range 9, l ≠ e.val → s.lane l = []) ∧ s.flights e = [f] ∧ f.done = none
  let done (s u : State) (e : Fin 8) (f : Flight) (v code : Nat) : Prop :=
    u.flights e = [{ f with done := some { val := BitVec.ofNat 96 v, code := code } }] ∧ u.lane e = [] ∧ u.eng.thr = s.eng.thr ∧
    MemKept s u
  let live (s : State) (f : Flight) : Prop := s.current f.tok = true
  let sat (s u : State) (f : Fld) : Prop := u.fld f = min (2 ^ f.width - 1) (s.fld f + 1)
  (∀ (s : State), on s → (∀ l ∈ List.range 9, s.lane l = []) → Ignores .mailboxAdmit s) ∧
  (∀ (s : State) (e : Fin 8) (f : Flight) (a : Nat), busy s e f → live s f → f.op = .devr a → isMailbox a = true →
    Does .mailboxAdmit s fun u => done s u e f (s.regValue a) 0 ∧ u.credit e = s.credit e ∧ u.regs = (s.readClear a).regs) ∧
  (∀ (s : State) (e : Fin 8) (f : Flight) (v : BitVec 32), busy s e f → live s f → f.op = .devw R.TSV_XLIM_XLIM.addr v →
    s.fenced 0x013 = false → s.tservoFenced = false → s.credit e ≠ 0 →
    Does .mailboxAdmit s fun u => done s u e f 0 0 ∧ u.credit e = s.credit e - 1 ∧
      u.fld R.TSV_XLIM_XLIM = v.toNat % 2 ^ R.TSV_XLIM_XLIM.width ∧ FieldsKept s u [R.TSV_XLIM_XLIM]) ∧
  (∀ (s : State) (e : Fin 8) (f : Flight) (x : BitVec 64), busy s e f → live s f → f.op = .seam 1 x → s.fenced 0x013 = false →
    s.seamFenced = false → s.credit e ≠ 0 →
    Does .mailboxAdmit s fun u => done s u e f (if 47 < x.toNat % 64 then 1 else 0) 0 ∧ u.credit e = s.credit e - 1 ∧
      (47 < x.toNat % 64 → u.fld R.SEAM_EVENTS_SEL_REJ = 1 ∧ FieldsKept s u [R.SEAM_EVENTS_SEL_REJ])) ∧
  (∀ (s : State) (e : Fin 8) (f : Flight) (x : BitVec 64) (t : BitVec 96), busy s e f → live s f → f.op = .feed x t →
    s.fenced 0x013 = false → s.tservoFenced = false → s.credit e ≠ 0 →
    Does .mailboxAdmit s fun u => done s u e f (s.feedCode x.toInt t.toNat) 0 ∧ u.credit e = s.credit e - 1) ∧
  (∀ (s : State) (e : Fin 8) (thr : Nat) (tok : BitVec 16) (x : BitVec 64) (t : BitVec 96), on s → thr < 4 →
    s.lane e = [.roleFeed thr tok x.toInt t.toNat] → (∀ l ∈ List.range 9, l ≠ e.val → s.lane l = []) → s.credit e ≠ 0 →
    Does .mailboxAdmit s fun u => u.lane e = [] ∧ u.credit e = s.credit e - 1 ∧ u.eng = s.eng ∧ MemKept s u ∧
      if s.current tok = true then
        (s.fenced 0x013 = false → s.tservoFenced = false → u.tsv.lastFeed =
          (if s.feedCode x.toInt t.toNat = 0 then some (decodeHub t.toNat) else s.tsv.lastFeed)) ∧
        ((s.fenced 0x013 = true ∨ s.tservoFenced = true) → u.tsv = s.tsv ∧ u.regs = s.regs)
      else sat s u (R.ENG_LINT_MBOX e) ∧ u.tsv = s.tsv) ∧
  (∀ (s : State) (e : Fin 8) (f : Flight) (a : Nat) (v : BitVec 32), busy s e f → live s f → f.op = .devw a v →
    s.fenced 0x013 = true → s.credit e ≠ 0 →
    Does .mailboxAdmit s fun u => done s u e f 0 2 ∧ u.regs = s.regs) ∧
  (∀ (s : State) (e : Fin 8) (f : Flight), busy s e f → ¬ live s f → s.credit e ≠ 0 →
    Does .mailboxAdmit s fun u => done s u e f 0 1 ∧ sat s u (R.ENG_LINT_MBOX e) ∧ u.fld (R.ENG_EVENTS_LINT_SET e) ≠ 0 ∧
      FieldsKept s u [R.ENG_LINT_MBOX e, R.ENG_EVENTS_LINT_SET e, R.FLT_SRC_NOTES (0x070 + e.val)]) ∧
  (∀ (s : State) (e : Fin 8) (f : Flight) (a : Nat) (v : BitVec 32), busy s e f → f.op = .devw a v → s.credit e = 0 →
    Ignores .mailboxAdmit s) ∧
  (∀ (s : State) (p : Fin 4) (a : Nat) (i : Nat), on s → s.lane 8 = [.read p a i] → (∀ l ∈ List.range 8, s.lane l = []) →
    isMailbox a = true → isNow a = false → a % 4 = 0 →
    Does .mailboxAdmit s fun u => u.lane 8 = [] ∧ Tab.get (fun _ => 0) u.host.rdata p.val = s.regValue a ∧
      u.regs = (s.readClear a).regs ∧ MemKept s u) ∧
  (∀ (s : State) (p : Fin 4) (v : BitVec 32) (i : Nat), on s → s.lane 8 = [.write p R.TSV_XLIM_XLIM.addr i v] →
    (∀ l ∈ List.range 8, s.lane l = []) → s.fenced 0x013 = false → s.tservoFenced = false → s.pathWr p = true → s.credit 8 ≠ 0 →
    Does .mailboxAdmit s fun u => u.lane 8 = [] ∧ u.credit 8 = s.credit 8 - 1 ∧
      u.fld R.TSV_XLIM_XLIM = v.toNat % 2 ^ R.TSV_XLIM_XLIM.width ∧ FieldsKept s u [R.TSV_XLIM_XLIM] ∧ MemKept s u) ∧
  (∀ (s : State) (l : Fin 9), s.pwrState < 3 → s.pwr.phase ≠ 1 →
    let x := Tab.get (fun _ => 0) s.mb.refillRem l.val + (s.tb.elapsed - Tab.get (fun _ => 0) s.mb.refillAt l.val) * s.laneRate l
    Does (.mbCreditRefill l) s fun u => u.credit l = min (s.laneBurst l) (s.credit l + x / 65536000000) ∧
      (∀ k : Fin 9, k ≠ l → u.credit k = s.credit k) ∧ u = { s with mb := u.mb }) ∧
  (∀ (s : State) (n : Fin 8) (v : BitVec 32), s.powered = true →
    Does (.engMbRateWrite n v) s fun u =>
      u.fld (R.ENG_MB_RATE_BURST n) = v.toNat / 2 ^ 16 % 2 ^ (R.ENG_MB_RATE_BURST n).width ∧
      (if s.rateSum n (v.toNat % 2 ^ 16) ≤ 20000 then u.fld (R.ENG_MB_RATE_RATE n) = v.toNat % 2 ^ 16
        else u.fld (R.ENG_MB_RATE_RATE n) = s.fld (R.ENG_MB_RATE_RATE n) ∧ u.fld R.ENGC_EVENTS_CMD_REJ = 1) ∧
      FieldsKept s u [R.ENG_MB_RATE_BURST n, R.ENG_MB_RATE_RATE n, R.ENGC_EVENTS_CMD_REJ] ∧ MemKept s u) ∧
  (∀ (s : State) (v : BitVec 32), s.pwrState < 3 → s.pwr.phase ≠ 1 →
    Does (.hostMbRateWrite v) s fun u =>
      u.fld R.HOST_MB_RATE_BURST = v.toNat / 2 ^ 16 % 2 ^ R.HOST_MB_RATE_BURST.width ∧
      (if s.rateSum 8 (v.toNat % 2 ^ 16) ≤ 20000 then u.fld R.HOST_MB_RATE_RATE = v.toNat % 2 ^ 16
        else u.fld R.HOST_MB_RATE_RATE = s.fld R.HOST_MB_RATE_RATE ∧ u.fld R.HOST_EVENTS_CFG_REJ = 1) ∧
      FieldsKept s u [R.HOST_MB_RATE_BURST, R.HOST_MB_RATE_RATE, R.HOST_EVENTS_CFG_REJ] ∧ MemKept s u)

/-- R12, R457, R460, R463, R464, R487. Codes 3 FMT, 4 UNMAPPED, 5 RECALL, 7 WR_DIS, 2 NV_BUSY. -/
def Obligations.HostRegisterAccess : Prop :=
  let calm (s : State) (p : Fin 4) : Prop := s.pathServes p = true ∧ s.pathWaits p = false ∧ s.pwr.wakeDue = false ∧ s.pwr.phase = 0
  let failed (s u : State) (p : Fin 4) (l : List Fld) : Prop :=
    (∀ f ∈ l, u.fld f = 1) ∧ u.fld R.HOST_STATUS_LAST_PATH = p.val ∧ FieldsKept s u (R.HOST_STATUS_LAST_PATH :: l) ∧
    u = { s with regs := u.regs, host := u.host }
  let data (u : State) (p : Fin 4) : Nat := Tab.get (fun _ => 0) u.host.rdata p.val
  let scan (s : State) (a : BitVec 32) : Prop := isNv a.toNat = true ∧ s.fld R.NV_STATUS_SCAN_BUSY = 1
  (∀ (s : State) (p : Fin 4) (a v : BitVec 32) (w : Bool), s.pathServes p = false →
    Ignores (.registerWrite p a v w) s ∧ Ignores (.registerReadClear p a w) s) ∧
  (∀ (s : State) (p : Fin 4) (a v : BitVec 32) (w : Bool), s.pathServes p = true → (a.toNat % 4 ≠ 0 ∨ w = false) →
    isNv a.toNat = false → (p = 0 → mapped a.toNat = true ∧ bankOf a.toNat = none) →
    ∀ c ∈ [.registerWrite p a v w, .registerReadClear p a w], Does c s fun u => failed s u p [R.HOST_STATUS_FMT]) ∧
  (∀ (s : State) (p : Fin 4) (a v : BitVec 32) (w : Bool), s.pathServes p = true → (a.toNat % 4 ≠ 0 ∨ w = false) →
    isNv a.toNat = true →
    ∀ c ∈ [.registerWrite p a v w, .registerReadClear p a w], Does c s fun u =>
      failed s u p [R.HOST_STATUS_FMT, R.NV_EVENTS_FMT_SET]) ∧
  (∀ (s : State) (a v : BitVec 32) (w : Bool), s.pathServes 0 = true → (a.toNat % 4 ≠ 0 ∨ w = false) → mapped a.toNat = false →
    ∀ c ∈ [.registerWrite 0 a v w, .registerReadClear 0 a w], Does c s fun u => failed s u 0 [R.HOST_STATUS_UNMAPPED]) ∧
  (∀ (s : State) (a v : BitVec 32) (w : Bool), calm s 0 → (a.toNat % 4 ≠ 0 ∨ w = false) → (bankOf a.toNat).isSome = true →
    s.bankOpen ((bankOf a.toNat).getD 0) = true → s.bank.ecc = [] → Ignores (.registerWrite 0 a v w) s ∧
    Does (.registerReadClear 0 a w) s fun u => data u 0 = s.bytes (a.toNat / 4 * 4) 4 ∧ u.regs = s.regs ∧ MemKept s u) ∧
  (∀ (s : State) (p : Fin 4) (a v : BitVec 32), calm s p → a.toNat % 4 = 0 → mapped a.toNat = false →
    ∀ c ∈ [.registerWrite p a v true, .registerReadClear p a true], Does c s fun u => failed s u p [R.HOST_STATUS_UNMAPPED]) ∧
  (∀ (s : State) (p : Fin 4) (a v : BitVec 32), s.pathServes p = true → s.pathWaits p = false → s.pwr.wakeDue = false →
    s.pwr.phase = 2 → a.toNat % 4 = 0 → mapped a.toNat = true → a.toNat / 0x10000 ∉ [0x500, 0x510, 0x511] →
    ∀ c ∈ [.registerWrite p a v true, .registerReadClear p a true], Does c s fun u => failed s u p [R.HOST_STATUS_RECALL]) ∧
  (∀ (s : State) (p : Fin 4) (a v : BitVec 32), calm s p → a.toNat % 4 = 0 → mapped a.toNat = true → s.pathWr p = false →
    Does (.registerWrite p a v true) s fun u => failed s u p [R.HOST_STATUS_WR_DIS]) ∧
  (∀ (s : State) (p : Fin 4) (a v : BitVec 32), calm s p → p ≠ 0 → a.toNat % 4 = 0 → s.pathWr p = true → scan s a →
    ∀ c ∈ [.registerWrite p a v true, .registerReadClear p a true], Does c s fun u => failed s u p [R.HOST_STATUS_NV_BUSY]) ∧
  (∀ (s : State) (p : Fin 4) (a v : BitVec 32), calm s p → a.toNat % 4 = 0 → isMailbox a.toNat = true →
    (Does (.registerReadClear p a true) s fun u => u.lane 8 = s.lane 8 ++ [.read p a.toNat 0] ∧
      OnlyFields { s with mb := u.mb } u [R.HOST_MB_WAIT_WAITS]) ∧
    (s.pathWr p = true → Does (.registerWrite p a v true) s fun u => u.lane 8 = s.lane 8 ++ [.write p a.toNat 0 v] ∧
      OnlyFields { s with mb := u.mb } u [R.HOST_MB_WAIT_WAITS])) ∧
  (∀ (s : State) (p : Fin 4) (a v : BitVec 32), calm s p → a.toNat % 4 = 0 → s.bank.ecc = [] →
    ((bankOf a.toNat).isSome = true ∧ s.bankOpen ((bankOf a.toNat).getD 0) = true ∨ isAo a.toNat = true) →
    (Does (.registerReadClear p a true) s fun u => data u p = s.bytes a.toNat 4 ∧ u.regs = s.regs ∧ MemKept s u) ∧
    (s.pathWr p = true → 8 ≤ (bankOf a.toNat).getD 8 → bankOf a.toNat ≠ some 28 →
      Does (.registerWrite p a v true) s fun u => u.bytes a.toNat 4 = v.toNat ∧ u.regs = s.regs ∧
        MemKeptOutside s u a.toNat 4)) ∧
  (∀ (s : State) (p : Fin 4) (a : BitVec 32), calm s p → a.toNat % 4 = 0 → isReg a.toNat = true → isMailbox a.toNat = false →
    s.pwrState ≠ 2 →
    Does (.registerReadClear p a true) s fun u => data u p = s.regValue a.toNat ∧
      (∀ f ∈ fieldsAt a.toNat, u.fld ⟨a.toNat, f.lo, f.width⟩ = if f.acc = .rc then 0 else s.fld ⟨a.toNat, f.lo, f.width⟩) ∧
      MemKept s u) ∧
  (∀ (s : State) (p : Fin 4) (n : Fin 32) (v : BitVec 32), calm s p → s.pathWr p = true → s.pwrState ≠ 2 →
    (Does (.registerWrite p (BitVec.ofNat 32 (R.LNK_LATE_TOL_TOL n).addr) v true) s fun u =>
      u.fld (R.LNK_LATE_TOL_TOL n) = v.toNat % 2 ^ (R.LNK_LATE_TOL_TOL n).width ∧ FieldsKept s u [R.LNK_LATE_TOL_TOL n] ∧ MemKept s u) ∧
    Does (.registerWrite p (BitVec.ofNat 32 (R.LNK_EVENTS_UP n).addr) v true) s fun u =>
      (∀ f ∈ fieldsAt (R.LNK_EVENTS_UP n).addr, f.acc = .w1c → s.fld ⟨(R.LNK_EVENTS_UP n).addr, f.lo, f.width⟩ ≤ 1 → f.width = 1 →
        u.fld ⟨(R.LNK_EVENTS_UP n).addr, f.lo, f.width⟩
          = if v.getLsbD f.lo then 0 else s.fld ⟨(R.LNK_EVENTS_UP n).addr, f.lo, f.width⟩) ∧ MemKept s u)

/-- R275, R294, R295, R300, R301, R443. States: 0 PARKED, 1 RUNNING, 2 DRAINING, 3 FENCED, 4 OFF. -/
def Obligations.EngineCommands : Prop :=
  let sat (s u : State) (f : Fld) : Prop := u.fld f = min (2 ^ f.width - 1) (s.fld f + 1)
  let only (s : State) (n : Fin 8) : Prop := s.rolesOf n = [n.val]
  (∀ (s : State) (n : Fin 8), s.powered = true → s.engState n = 0 → s.rolesFenced = true →
    Does (.engRun n) s fun u => u.engState n = 1 ∧ Tab.get (fun _ => 0) u.eng.beatAt n.val = s.tb.elapsed ∧
      (∀ t : Fin 4, u.tstate n t = (if s.fld (R.ENG_THR_ENTRY_V n t) ≠ 0 then 1 else 0) ∧
        (s.fld (R.ENG_THR_ENTRY_V n t) ≠ 0 → u.pc n t = s.fld (R.ENG_THR_ENTRY_ENTRY n t) / 4 * 4 % 2 ^ 18 ∧
          (u.thread n t).fs.word = 0 ∧ (u.thread n t).v1 = false ∧
          (u.thread n t).ep = BitVec.ofNat 16 (n * 256 + s.fld (R.ENG_ROLE_EPOCH n)) ∧
          (∀ k : Fin 32, (u.thread n t).gpr k = 0) ∧ ∀ k : Fin 8, (u.thread n t).treg k = 0)) ∧
      (∀ (m : Fin 8) (t : Fin 4), m ≠ n → u.thread m t = s.thread m t ∧ u.tstate m t = s.tstate m t) ∧
      (∀ r : Fin 64, u.holder r = s.holder r) ∧ MemKept s u) ∧
  (∀ (s : State) (n : Fin 8) (r : Fin 64), s.powered = true → s.engState n = 0 → s.rolesFenced = false →
    s.fld (R.ENG_ROLE_DEFINED r) ≠ 0 → s.holder r = none → s.planNames r n = true →
    Does (.engRun n) s fun u => u.engState n = 1 ∧ MemKept s u ∧
      if s.heldMoves r = [] ∧ s.epochFree r = true then u.holder r = some n.val ∧ u.heldMoves r = [] ∧
        u.fld (R.ENG_ROLE_EPOCH r) = (s.fld (R.ENG_ROLE_EPOCH r) + 1) % 256 ∧
        (u.fld (R.ENG_THR_STATE_W1_PENDING n 0)).testBit 17 = true
      else u.holder r = none ∧ u.heldMoves r = s.heldMoves r ++ [.take n] ∧
        u.fld (R.ENG_ROLE_EPOCH r) = s.fld (R.ENG_ROLE_EPOCH r)) ∧
  (∀ (s : State) (n : Fin 8), s.powered = true → s.engState n = 1 → Ignores (.engRun n) s) ∧
  (∀ (s : State) (n : Fin 8), s.powered = true → 2 ≤ s.engState n →
    Does (.engRun n) s fun u => u.fld (R.ENG_EVENTS_CMD_REJ n) = 1 ∧ OnlyFields s u [R.ENG_EVENTS_CMD_REJ n]) ∧
  (∀ (s : State) (n : Fin 8) (mv : Bool), s.powered = true → s.engState n = 1 → (only s n ∨ mv = true) →
    Does (.engPark n mv) s fun u => u.engState n = 2 ∧ Tab.get (fun _ => false) u.eng.moving n.val = mv ∧
      FieldsKept s u [R.ENG_STATE_STATE n] ∧ u.eng.thr = s.eng.thr ∧ MemKept s u) ∧
  (∀ (s : State) (n : Fin 8), s.powered = true → s.engState n = 1 → (∃ r ∈ List.range 64, r ≠ n.val ∧ s.holder r = some n.val) →
    Does (.engPark n false) s fun u => u.fld (R.ENG_EVENTS_CMD_REJ n) = 1 ∧ OnlyFields s u [R.ENG_EVENTS_CMD_REJ n]) ∧
  (∀ (s : State) (n : Fin 8) (mv : Bool), s.powered = true → s.engState n = 3 → s.eng.groupFence = false →
    Does (.engPark n mv) s fun u => u.engState n = 2 ∧
      (∀ src ∈ [0x060 + n.val, 0x068 + n.val, 0x070 + n.val], u.fenced src = false) ∧ u.eng.thr = s.eng.thr ∧ MemKept s u) ∧
  (∀ (s : State) (n : Fin 8) (mv : Bool), s.powered = true → s.engState n = 3 → s.eng.groupFence = true →
    Does (.engPark n mv) s fun u => u.fld (R.ENG_EVENTS_CMD_REJ n) = 1 ∧ OnlyFields s u [R.ENG_EVENTS_CMD_REJ n]) ∧
  (∀ (s : State) (n : Fin 8) (mv : Bool), s.powered = true → s.engState n ∈ [0, 2, 4] → Ignores (.engPark n mv) s) ∧
  (∀ (s : State) (n : Fin 8), s.powered = true → s.engState n = 2 → s.flights n = [] →
    (Tab.get (fun _ => false) s.eng.moving n.val = false ∨ only s n) →
    Does (.engDrainDone n) s fun u => u.engState n = 0 ∧ FieldsKept s u [R.ENG_STATE_STATE n] ∧ u.eng.thr = s.eng.thr ∧ MemKept s u) ∧
  (∀ (s : State) (n : Fin 8), s.powered = true → (s.engState n ≠ 2 ∨ s.flights n ≠ []) → Ignores (.engDrainDone n) s) ∧
  (∀ (s : State) (n : Fin 8), s.powered = true → s.engState n = 1 → s.pwrState = 0 → s.fenced (0x060 + n.val) = false →
    s.pwr.wakeDue = false → Tab.get (fun _ => 0) s.eng.beatAt n.val + max 100 (s.fld (R.ENG_HB_IVL_IVL n)) * 65536000 ≤ s.tb.elapsed →
    Does (.heartbeatExpire n) s fun u => u.engState n = 3 ∧ u.fld (R.ENG_EVENTS_HB_MISS n) = 1 ∧ u.fld (R.ENG_EVENTS_FENCE n) = 1 ∧
      u.fenced (0x060 + n.val) = true ∧ u.fld (R.FLT_SRC_LAST_CLASS (0x060 + n.val)) = 2 ∧
      u.fld (R.FLT_SRC_LAST_CAUSE (0x060 + n.val)) = 4 ∧ MemKept s u) ∧
  (∀ (s : State) (n : Fin 8), s.powered = true →
    (s.engState n ≠ 1 ∨ s.pwrState ≠ 0 ∨
      100 * s.tb.elapsed < 100 * Tab.get (fun _ => 0) s.eng.beatAt n.val + 99 * max 100 (s.fld (R.ENG_HB_IVL_IVL n)) * 65536000) →
    Ignores (.heartbeatExpire n) s) ∧
  (∀ (s : State) (b : Fin 9) (n : Fin 8) (off : BitVec 18) (v : BitVec 32), s.powered = true → s.pwr.wakeDue = false →
    b.val ≠ n.val + 1 → s.bankOpen n = true → s.bank.ecc = [] → (s.engState n = 0 ∨ s.engState n = 4) →
    let a := 0x40000 * n.val + off.toNat / 4 * 4
    Does (.ibWrite b n off v) s fun u => u.bytes a 4 = v.toNat ∧ u.regs = s.regs ∧ MemKeptOutside s u a 4) ∧
  (∀ (s : State) (b : Fin 9) (n : Fin 8) (off : BitVec 18) (v : BitVec 32), s.powered = true → s.pwr.wakeDue = false →
    s.bankOpen n = true → (b.val = n.val + 1 ∨ s.engState n ∉ [0, 4]) →
    Does (.ibWrite b n off v) s fun u => sat s u (R.ENG_IB_WDROP_COUNT n) ∧ u.fld (R.ENG_EVENTS_IB_WDROP_SET n) = 1 ∧
      FieldsKept s u [R.ENG_IB_WDROP_COUNT n, R.ENG_EVENTS_IB_WDROP_SET n] ∧ MemKept s u)

/-- R285, R290, R291, R293. That the whole move waits with its advance is the model's reading (log 75). Event 17 is ROLE_IN, 18 ROLE_OUT (R281). -/
def Obligations.RoleCommands : Prop :=
  let answered (s u : State) (code : Nat) : Prop :=
    u.fld R.ENG_ROLE_RESULT_RESULT = code ∧
    u.fld R.ENG_ROLE_RESULT_SEQ = (s.fld R.ENG_ROLE_RESULT_SEQ + 1) % 2 ^ R.ENG_ROLE_RESULT_SEQ.width
  let refused (s u : State) (code : Nat) : Prop := answered s u code ∧ OnlyFields s u [R.ENG_ROLE_RESULT_RESULT, R.ENG_ROLE_RESULT_SEQ]
  let defined (s : State) (r : Fin 64) : Prop := s.fld (R.ENG_ROLE_DEFINED r) ≠ 0
  let young (s : State) (r : Fin 64) : Prop :=
    Tab.get (fun _ => 0) s.eng.roleAt r.val ≠ 0 ∧ s.tb.elapsed + 1 < Tab.get (fun _ => 0) s.eng.roleAt r.val + 100 * 65536000
  let bit (lo hi : Fld) (u : State) (r : Fin 64) : Prop := (u.fld (if r.val < 32 then lo else hi)).testBit (r.val % 32) = true
  let moved (s u : State) (r : Fin 64) (dst : Fin 8) : Prop :=
    u.holder r = some dst.val ∧ (∀ q : Fin 64, q ≠ r → u.holder q = s.holder q ∧ u.fld (R.ENG_ROLE_EPOCH q) = s.fld (R.ENG_ROLE_EPOCH q)) ∧
    (u.fld (R.ENG_THR_STATE_W1_PENDING dst 0)).testBit 17 = true ∧ bit (R.ENG_ROLE_ARRIVED_LO_ROLES dst) (R.ENG_ROLE_ARRIVED_HI_ROLES dst) u r ∧
    (∀ h : Fin 8, s.holder r = some h.val → (u.fld (R.ENG_THR_STATE_W1_PENDING h 0)).testBit 18 = true ∧
      bit (R.ENG_ROLE_LEFT_LO_ROLES h) (R.ENG_ROLE_LEFT_HI_ROLES h) u r) ∧ MemKept s u
  (∀ (s : State) (r : Fin 64) (dst : Fin 8), s.powered = true → s.rolesFenced = false → ¬ defined s r →
    Does (.roleCmd r dst) s (fun u => refused s u 1)) ∧
  (∀ (s : State) (r : Fin 64) (dst : Fin 8), s.powered = true → s.rolesFenced = false → defined s r → r.val < 8 →
    Does (.roleCmd r dst) s (fun u => refused s u 2)) ∧
  (∀ (s : State) (r : Fin 64) (dst : Fin 8), s.powered = true → s.rolesFenced = false → defined s r → 8 ≤ r.val →
    s.holder r = some dst.val → Does (.roleCmd r dst) s (fun u => refused s u 4)) ∧
  (∀ (s : State) (r : Fin 64) (dst : Fin 8), s.powered = true → s.rolesFenced = false → defined s r → 8 ≤ r.val →
    s.holder r ≠ some dst.val → s.engState dst ≠ 1 → Does (.roleCmd r dst) s (fun u => refused s u 3)) ∧
  (∀ (s : State) (r : Fin 64) (dst : Fin 8), s.powered = true → s.rolesFenced = true → Does (.roleCmd r dst) s (fun u => refused s u 3)) ∧
  (∀ (s : State) (r : Fin 64) (dst : Fin 8), s.powered = true → s.rolesFenced = false → defined s r → 8 ≤ r.val →
    s.holder r ≠ some dst.val → s.engState dst = 1 →
    Does (.roleCmd r dst) s fun u => answered s u 0 ∧
      if s.heldMoves r = [] ∧ ¬ young s r then moved s u r dst ∧ u.fld (R.ENG_ROLE_EPOCH r) = (s.fld (R.ENG_ROLE_EPOCH r) + 1) % 256 ∧
        u.heldMoves r = []
      else u.heldMoves r = s.heldMoves r ++ [.to dst] ∧ u.eng.thr = s.eng.thr ∧ MemKept s u ∧
        FieldsKept s u [R.ENG_ROLE_RESULT_RESULT, R.ENG_ROLE_RESULT_SEQ]) ∧
  (∀ (s : State) (r : Fin 64) (m : RoleMove) (l : List RoleMove), s.powered = true → s.heldMoves r = m :: l → ¬ young s r →
    (m = .self ∨ s.rolesFenced = false) →
    Does (.epochAdvanceDeferred r) s fun u => u.heldMoves r = l ∧
      (∀ q : Fin 64, q ≠ r → u.holder q = s.holder q ∧ u.fld (R.ENG_ROLE_EPOCH q) = s.fld (R.ENG_ROLE_EPOCH q)) ∧
      (m = .self → FieldsKept s u [R.ENG_ROLE_EPOCH r]) ∧
      ((∀ n, m ≠ .take n) → u.fld (R.ENG_ROLE_EPOCH r) = (s.fld (R.ENG_ROLE_EPOCH r) + 1) % 256) ∧
      (∀ n : Fin 8, m = .to n → s.engState n = 1 → moved s u r n) ∧
      (∀ n : Fin 8, m = .take n → s.engState n = 1 → s.holder r = none → moved s u r n ∧
        u.fld (R.ENG_ROLE_EPOCH r) = (s.fld (R.ENG_ROLE_EPOCH r) + 1) % 256) ∧
      (∀ n, m = .take n → (s.engState n ≠ 1 ∨ s.holder r ≠ none) → FieldsKept s u []) ∧
      (∀ f, m = .plan f → ∀ n : Fin 8, s.planTarget r = some n.val → u.holder r = some n.val ∧
        (u.fld (R.ENG_THR_STATE_W1_PENDING n 0)).testBit 17 = true) ∧
      (m = .unhold → u.holder r = none ∧ u.fld R.ENGC_EVENTS_ROLE_UNHELD = 1) ∧ MemKept s u) ∧
  (∀ (s : State) (r : Fin 64) (m : RoleMove) (l : List RoleMove), s.powered = true → s.heldMoves r = m :: l →
    (young s r ∨ m ≠ .self ∧ s.rolesFenced = true) → Ignores (.epochAdvanceDeferred r) s) ∧
  (∀ (s : State) (r : Fin 64), s.powered = true → s.heldMoves r = [] → Ignores (.epochAdvanceDeferred r) s)

/-- R346, R348, R349, R357. PWR: 0 ON, 1 RET, 2 OFF; a write of 3 is refused like a change the bank is not quiet for (12 R372). -/
def Obligations.BankCommands : Prop :=
  let sat (s u : State) (f : Fld) : Prop := u.fld f = min (2 ^ f.width - 1) (s.fld f + 1)
  let flags (u : State) (b : Fin 29) (v : BitVec 32) : Prop :=
    u.fld (R.BNK_CFG_RINSE b) = v.toNat / 4 % 2 ∧ u.fld (R.BNK_CFG_BOOT_DARN b) = v.toNat / 8 % 2
  let dst (v : BitVec 32) : Nat := v.toNat % 4
  let allowed (s : State) (b : Fin 29) (p : Nat) : Prop := p = 0 ∨ (p ≠ 3 ∧ s.bankQuiet b = true ∧ s.bank.darn ≠ some (b.val, true))
  let outside (s u : State) (b : Fin 29) : Prop := MemKeptOutside s u (bankBase b) (bankSize b)
  (∀ (s : State) (b : Fin 29) (v : BitVec 32), s.powered = true → dst v ≠ s.fld (R.BNK_CFG_PWR b) → allowed s b (dst v) →
    (∀ e : Fin 8, s.flights e = []) →
    Does (.bnkPwrWrite b v) s fun u => flags u b v ∧ u.fld (R.BNK_CFG_PWR b) = dst v ∧ u.fld (R.BNK_STATUS_PWR_NOW b) = dst v ∧
      outside s u b ∧ (dst v ≠ 2 → s.fld (R.BNK_STATUS_BUSY b) = 0 → s.busyKind b = 0 → s.bank.darn = none → MemKept s u) ∧
      (dst v = 0 → s.fld (R.BNK_STATUS_PWR_NOW b) = 2 → v.toNat / 4 % 2 = 1 →
        u.fld (R.BNK_STATUS_BUSY b) = 1 ∧ u.busyKind b = 1) ∧
      (dst v = 2 → s.fld (R.BNK_STATUS_PWR_NOW b) ≠ 2 → RegionLost u b) ∧
      (dst v ≠ 0 → s.fld (R.BNK_STATUS_PWR_NOW b) = 0 → s.bank.darn = some (b.val, false) → u.bank.darn = none ∧
        u.fld R.BNK_DARN_STATUS_RESULT = 8 ∧ u.fld R.BNK_DARN_STATUS_FAIL_ROWS = min 31 s.bank.darnRows ∧
        u.fld (R.BNK_EVENTS_DARN_END b) = 1) ∧
      FieldsKept s u [R.BNK_CFG_PWR b, R.BNK_CFG_RINSE b, R.BNK_CFG_BOOT_DARN b, R.BNK_STATUS_PWR_NOW b, R.BNK_STATUS_BUSY b,
        R.BNK_STATUS_DARN b, R.BNK_DARN_STATUS_RESULT, R.BNK_DARN_STATUS_FAIL_ROWS, R.BNK_EVENTS_DARN_END b]) ∧
  (∀ (s : State) (b : Fin 29) (v : BitVec 32), s.powered = true → dst v ≠ s.fld (R.BNK_CFG_PWR b) → ¬ allowed s b (dst v) →
    Does (.bnkPwrWrite b v) s fun u => u.fld (R.BNK_EVENTS_CFG_REJ b) = 1 ∧ OnlyFields s u [R.BNK_EVENTS_CFG_REJ b]) ∧
  (∀ (s : State) (b : Fin 29) (v : BitVec 32) (e : Fin 8) (f : Flight) (a n : Nat), s.powered = true →
    s.fld (R.BNK_CFG_PWR b) = 0 → s.bankOpen b = true → dst v ≠ 0 → allowed s b (dst v) → (∀ k : Fin 8, k ≠ e → s.flights k = []) →
    s.flights e = [f] → f.done = none → f.op = .load a n → n ∈ [1, 2, 4, 8] → a % n = 0 → bankOf a = some b.val → s.bank.ecc = [] →
    Does (.bnkPwrWrite b v) s fun u => u.fld (R.BNK_STATUS_PWR_NOW b) = dst v ∧
      u.flights e = [{ f with done := some { val := BitVec.ofNat 96 (s.bytes a n), code := 0 } }] ∧
      u.fld R.PWR_DOFF_BANKS_COUNT = s.fld R.PWR_DOFF_BANKS_COUNT) ∧
  (∀ (s : State) (b : Fin 29) (v : BitVec 32), s.powered = true → dst v = s.fld (R.BNK_CFG_PWR b) →
    Does (.bnkPwrWrite b v) s fun u => flags u b v ∧ OnlyFields s u [R.BNK_CFG_RINSE b, R.BNK_CFG_BOOT_DARN b]) ∧
  (∀ (s : State) (b : Fin 29), s.awakes = true → s.busyKind b = 1 →
    let boots := s.pwr.phase = 2 ∧ s.fld (R.BNK_CFG_BOOT_DARN b) ≠ 0
    Does (.rinseEnd b) s fun u => RegionZero u b ∧ outside s u b ∧ u.busyKind b = (if boots then 3 else 0) ∧
      u.fld (R.BNK_STATUS_BUSY b) = (if boots then 1 else 0) ∧ u.fld (R.BNK_EVENTS_RINSE_END b) = 1 ∧
      FieldsKept s u [R.BNK_STATUS_BUSY b, R.BNK_EVENTS_RINSE_END b]) ∧
  (∀ (s : State) (b : Fin 29), s.awakes = true → s.busyKind b ≠ 1 → Ignores (.rinseEnd b) s) ∧
  (∀ (s : State) (a : BitVec 32) (b : Nat), s.powered = true → bankOf a.toNat = some b → s.bankOpen b = true →
    Does (.bankCeWriteback a false) s fun u => sat s u (R.BNK_CE_COUNT b) ∧ u.fld (R.BNK_EVENTS_CE_SET b) = 1 ∧
      (s.fld (R.BNK_EVENTS_CE_SET b) = 0 → sat s u (R.FLT_SRC_NOTES (0x080 + b))) ∧
      (s.fld (R.BNK_EVENTS_CE_SET b) ≠ 0 → u.fld (R.FLT_SRC_NOTES (0x080 + b)) = s.fld (R.FLT_SRC_NOTES (0x080 + b))) ∧
      OnlyFields s u [R.BNK_CE_COUNT b, R.BNK_EVENTS_CE_SET b, R.FLT_SRC_NOTES (0x080 + b)]) ∧
  (∀ (s : State) (a : BitVec 32) (b : Nat), s.powered = true → s.pwr.wakeDue = false → bankOf a.toNat = some b →
    s.bankOpen b = true → s.bank.darn = none →
    Does (.bankCeWriteback a true) s fun u => sat s u (R.BNK_UE_COUNT b) ∧ u.fld (R.BNK_EVENTS_UE_SET b) = 1 ∧
      u.fld (R.BNK_UE_ADDR_OFFSET b) = (if s.fld (R.BNK_EVENTS_UE_SET b) = 0 then (a.toNat - bankBase b) / 8 * 8
        else s.fld (R.BNK_UE_ADDR_OFFSET b)) ∧
      u.ecc (a.toNat / 8) = 1 ∧ 1 ≤ u.fld (R.FLT_SRC_LAST_CLASS (0x080 + b)) ∧ MemKept s u) ∧
  (∀ (s : State) (a : BitVec 32) (ue : Bool), s.powered = true → (bankOf a.toNat).any s.bankOpen = false →
    Ignores (.bankCeWriteback a ue) s)

/-- R346, R348, R349, R351 to R356. -/
def Obligations.DarnCommands : Prop :=
  let answers (s u : State) (b : Fin 32) (code : Nat) : Prop :=
    u.fld R.BNK_DARN_STATUS_RESULT = code ∧ u.fld R.BNK_DARN_STATUS_BANK = b.val ∧
    u.fld R.BNK_DARN_STATUS_SEQ = (s.fld R.BNK_DARN_STATUS_SEQ + 1) % 2 ^ R.BNK_DARN_STATUS_SEQ.width
  let refused (s u : State) (b : Fin 32) (code : Nat) : Prop := answers s u b code ∧
    OnlyFields s u [R.BNK_DARN_STATUS_RESULT, R.BNK_DARN_STATUS_BANK, R.BNK_DARN_STATUS_SEQ]
  let bad (s : State) (b : Fin 32) : Prop := 28 < b.val ∨ s.fld (R.BNK_STATUS_PWR_NOW b) ≠ 0 ∨ s.bankFenced b = true
  let busy (s : State) (b : Fin 32) : Prop := s.bank.darn ≠ none ∨ s.fld (R.BNK_STATUS_BUSY b) ≠ 0
  let patched (u : State) (b : Fin 29) (row : Nat) : Prop :=
    ∃ j ∈ List.range 16, u.fld (R.BNK_PATCH_V b j) = 1 ∧ u.fld (R.BNK_PATCH_ROW b j) = row ∧ u.fld (R.BNK_PATCH_ORIGIN b j) = 2
  let free (s : State) (b : Fin 29) : Nat := ((List.range 16).filter (fun j => s.fld (R.BNK_PATCH_V b j) == 0)).length
  let ended (u : State) (b : Fin 29) (code rows : Nat) : Prop := u.bank.darn = none ∧ u.busyKind b = 0 ∧
    u.fld (R.BNK_STATUS_BUSY b) = 0 ∧ u.fld (R.BNK_STATUS_DARN b) = 0 ∧ u.fld (R.BNK_EVENTS_DARN_END b) = 1 ∧
    u.fld R.BNK_DARN_STATUS_RESULT = code ∧ u.fld R.BNK_DARN_STATUS_FAIL_ROWS = min 31 rows
  let bytes (s u : State) (b : Fin 29) (hard : Bool) : Prop :=
    if hard = true then RegionZero u b ∧ MemKeptOutside s u (bankBase b) (bankSize b) else MemKept s u
  (∀ (s : State) (b : Fin 32), s.powered = true → bad s b →
    ∀ c ∈ [Instr.darnPreserving b, .darnDestructive b], Does c s fun u => refused s u b 7) ∧
  (∀ (s : State) (b : Fin 32), s.powered = true → ¬ bad s b → busy s b →
    ∀ c ∈ [Instr.darnPreserving b, .darnDestructive b], Does c s fun u => refused s u b 5) ∧
  (∀ (s : State) (b : Fin 32), s.powered = true → ¬ bad s b → ¬ busy s b → s.bankQuiet b = false →
    Does (.darnDestructive b) s fun u => refused s u b 6) ∧
  (∀ (s : State) (b : Fin 32), s.powered = true → ¬ bad s b → ¬ busy s b → s.bankQuiet b = true →
    Does (.darnDestructive b) s fun u => answers s u b 1 ∧ u.bank.darn = some (b.val, true) ∧ u.fld R.BNK_DARN_PROG_GROUPS = 0 ∧
      u.fld (R.BNK_STATUS_BUSY b) = 1 ∧ u.busyKind b = 2 ∧ u.mem = s.mem ∧ MemKept s u ∧
      FieldsKept s u [R.BNK_DARN_STATUS_RESULT, R.BNK_DARN_STATUS_BANK, R.BNK_DARN_STATUS_SEQ, R.BNK_DARN_PROG_GROUPS,
        R.BNK_STATUS_BUSY b]) ∧
  (∀ (s : State) (b : Fin 32), s.powered = true → ¬ bad s b → ¬ busy s b →
    Does (.darnPreserving b) s fun u => answers s u b 1 ∧ u.bank.darn = some (b.val, false) ∧ u.fld R.BNK_DARN_PROG_GROUPS = 0 ∧
      u.fld (R.BNK_STATUS_DARN b) = 1 ∧ MemKept s u ∧
      FieldsKept s u [R.BNK_DARN_STATUS_RESULT, R.BNK_DARN_STATUS_BANK, R.BNK_DARN_STATUS_SEQ, R.BNK_DARN_PROG_GROUPS,
        R.BNK_STATUS_DARN b]) ∧
  (∀ (s : State) (b : Fin 29) (hard : Bool), s.awakes = true → s.bank.darn = some (b.val, hard) → s.busyKind b ≠ 3 →
    s.bank.darnRows = 0 →
    Does (.darnEnd b [] none) s fun u => ended u b 2 0 ∧ u.fld R.BNK_DARN_PROG_GROUPS = bankSize b / 8 ∧ bytes s u b hard ∧
      FieldsKept s u [R.BNK_DARN_STATUS_RESULT, R.BNK_DARN_STATUS_FAIL_ROWS, R.BNK_DARN_PROG_GROUPS, R.BNK_STATUS_BUSY b,
        R.BNK_STATUS_DARN b, R.BNK_EVENTS_DARN_END b]) ∧
  (∀ (s : State) (b : Fin 29) (hard : Bool) (rows : List (Nat × Bool)), s.awakes = true → s.bank.darn = some (b.val, hard) →
    s.busyKind b ≠ 3 → s.bank.darnRows + rows.length ≠ 0 → s.bank.darnBad = false → (∀ r ∈ rows, r.1 < 4096 ∧ r.2 = true) →
    rows.length ≤ free s b →
    Does (.darnEnd b rows none) s fun u => ended u b 3 (s.bank.darnRows + rows.length) ∧ (∀ r ∈ rows, patched u b r.1) ∧ bytes s u b hard) ∧
  (∀ (s : State) (b : Fin 29) (hard : Bool) (rows : List (Nat × Bool)), s.awakes = true → s.pwr.wakeDue = false →
    s.bank.darn = some (b.val, hard) → s.busyKind b ≠ 3 → (∀ r ∈ rows, r.1 < 4096) →
    ((∃ r ∈ rows, r.2 = false) ∨ (rows ≠ [] ∧ free s b = 0)) →
    Does (.darnEnd b rows none) s fun u => ended u b 4 (s.bank.darnRows + rows.length) ∧ u.fld (R.BNK_EVENTS_NO_PATCH b) = 1 ∧
      u.fld (R.FLT_SRC_LAST_CLASS (0x080 + b)) = 1 ∧ u.fld (R.FLT_SRC_LAST_CAUSE (0x080 + b)) = 9 ∧ bytes s u b hard) ∧
  (∀ (s : State) (b : Fin 29) (hard : Bool), s.awakes = true → s.bank.darn = some (b.val, hard) → s.busyKind b ≠ 3 →
    s.bank.darnRows ≠ 0 → s.bank.darnBad = true →
    Does (.darnEnd b [] none) s fun u => ended u b 4 s.bank.darnRows ∧ bytes s u b hard) ∧
  (∀ (s : State) (b : Fin 29) (hard : Bool) (rows : List (Nat × Bool)) (g : BitVec 20), s.awakes = true →
    s.bank.darn = some (b.val, hard) → (∀ r ∈ rows, r.1 < 4096 ∧ r.2 = true) → rows.length ≤ free s b →
    Does (.darnEnd b rows (some g)) s fun u => u.bank.darn = s.bank.darn ∧ u.bank.darnRows = s.bank.darnRows + rows.length ∧
      u.bank.darnBad = s.bank.darnBad ∧ (∀ r ∈ rows, patched u b r.1) ∧
      u.fld R.BNK_DARN_PROG_GROUPS = min g.toNat (bankSize b / 8) ∧ MemKept s u ∧
      ∀ f ∈ [R.BNK_DARN_STATUS_RESULT, R.BNK_DARN_STATUS_FAIL_ROWS, R.BNK_STATUS_BUSY b, R.BNK_STATUS_DARN b], u.fld f = s.fld f) ∧
  (∀ (s : State) (b : Fin 29) (rows : List (Nat × Bool)), s.awakes = true → s.busyKind b = 3 →
    (∀ h, s.bank.darn ≠ some (b.val, h)) → (∀ r ∈ rows, r.1 < 4096 ∧ r.2 = true) → rows.length ≤ free s b →
    Does (.darnEnd b rows none) s fun u => bytes s u b true ∧ u.busyKind b = 0 ∧ u.fld (R.BNK_STATUS_BUSY b) = 0 ∧
      u.fld (R.BNK_EVENTS_DARN_END b) = 1 ∧ (∀ r ∈ rows, patched u b r.1) ∧
      (rows = [] → FieldsKept s u [R.BNK_STATUS_BUSY b, R.BNK_EVENTS_DARN_END b]) ∧
      ∀ f ∈ [R.BNK_DARN_STATUS_RESULT, R.BNK_DARN_STATUS_FAIL_ROWS, R.BNK_DARN_STATUS_SEQ], u.fld f = s.fld f) ∧
  (∀ (s : State) (b : Fin 29) (rows : List (Nat × Bool)) (g : Option (BitVec 20)), s.awakes = true → s.busyKind b ≠ 3 →
    (∀ h, s.bank.darn ≠ some (b.val, h)) → Ignores (.darnEnd b rows g) s) ∧
  (∀ (s : State) (b : Fin 29) (v : BitVec 32), s.powered = true → v.toNat % 4 = 0 → s.fld (R.BNK_CFG_PWR b) ≠ 0 →
    Does (.bnkPwrWrite b v) s fun u => u.fld (R.BNK_CFG_PWR b) = 0 ∧ u.fld (R.BNK_STATUS_PWR_NOW b) = 0 ∧ u.bank.darn = s.bank.darn ∧
      MemKept s u) ∧
  (∀ (s : State) (b : Fin 29), s.powered = true → s.busyKind b = 1 →
    Does (.rinseEnd b) s fun u => RegionZero u b ∧ u.fld (R.BNK_STATUS_BUSY b) = 0 ∧ u.fld (R.BNK_EVENTS_RINSE_END b) = 1 ∧
      MemKeptOutside s u (bankBase b) (bankSize b)) ∧
  (∀ (s : State) (a : BitVec 32) (b : Nat), s.powered = true → bankOf a.toNat = some b → s.bankOpen b = true →
    Does (.bankCeWriteback a false) s fun u => u.fld (R.BNK_EVENTS_CE_SET b) = 1 ∧ u.bank.darn = s.bank.darn ∧
      u.fld (R.BNK_CE_COUNT b) = min (2 ^ (R.BNK_CE_COUNT b).width - 1) (s.fld (R.BNK_CE_COUNT b) + 1) ∧ MemKept s u)

/-- R358, R359, R364 to R366, R370. Beside its own fields an update may change only pending events, the states of the threads they
wake, and the host's pending vectors. -/
def Obligations.RingCommands : Prop :=
  let signals : List Fld := [R.HOST_INT_PEND_LO_PEND, R.HOST_INT_PEND_HI_PEND] ++ (List.range 8).flatMap (fun h =>
    (List.range 4).flatMap (fun t => [R.ENG_THR_STATE_W1_PENDING h t, R.ENG_THR_STATE_W0_TSTATE h t]))
  let wide (r : Fin 128) : Prop := 64 ≤ r.val ∧ r.val < 104
  let esz (v : BitVec 32) : Nat := v.toNat / 4 % 4
  let logn (v : BitVec 32) : Nat := v.toNat / 16 % 32
  let changes (s : State) (r : Fin 128) (v : BitVec 32) : Prop := esz v ≠ s.fld (R.RING_CFG_ESZ r) ∨
    logn v ≠ s.fld (R.RING_CFG_LOG2N r) ∨ (wide r ∧ v.toNat / 512 % 2 ≠ s.fld (R.RING_CFG_CONS_HOST r))
  let size (v : BitVec 32) : Nat := 2 ^ logn v * (16 * 2 ^ esz v)
  let fits (s : State) (r : Fin 128) (v : BitVec 32) : Prop := 4 ≤ logn v ∧ logn v ≤ 16 ∧
    s.fld (R.RING_BASE_OFFSET r) + size v ≤ bankSize (ringBank r) ∧ (r.val < 64 → esz v = 3) ∧
    ∀ q ∈ List.range 128, q ≠ r.val → s.fld (R.RING_CFG_EN q) ≠ 0 → ringBank q = ringBank r →
      s.fld (R.RING_BASE_OFFSET q) + s.ringN q * s.ringEsz q ≤ s.fld (R.RING_BASE_OFFSET r) ∨
      s.fld (R.RING_BASE_OFFSET r) + size v ≤ s.fld (R.RING_BASE_OFFSET q)
  let shaped (s u : State) (r : Fin 128) (v : BitVec 32) : Prop := u.fld (R.RING_CFG_ESZ r) = esz v ∧
    u.fld (R.RING_CFG_LOG2N r) = logn v ∧
    u.fld (R.RING_CFG_CONS_HOST r) = (if wide r then v.toNat / 512 % 2 else s.fld (R.RING_CFG_CONS_HOST r))
  let cfg (r : Fin 128) : List Fld := [R.RING_CFG_ESZ r, R.RING_CFG_LOG2N r, R.RING_CFG_CONS_HOST r, R.RING_CFG_STOP r]
  let keeps (s u : State) (l : List Fld) : Prop := FieldsKept s u (l ++ signals) ∧ MemKept s u
  let event (u : State) (r : Fin 128) (prod : Bool) : Prop := ∀ h ∈ List.range 8,
    u.fld (ringRole r prod) < 0x3E → u.holder (u.fld (ringRole r prod)) = some h → u.fld (ringBit r prod) < 16 →
    max 1 (u.fld (ringLevel r prod)) ≤ (if prod = true then u.ringRoom r else u.ringCount r) →
    (u.fld (R.ENG_THR_STATE_W1_PENDING h (u.fld (ringThr r prod)))).testBit (u.fld (ringBit r prod)) = true
  let vector (u : State) (r : Fin 128) (prod : Bool) : Prop := u.fld (ringRole r prod) = 0x3E →
    max 1 (u.fld (ringLevel r prod)) ≤ (if prod = true then u.ringRoom r else u.ringCount r) →
    let k := u.fld (ringBit r prod)
    (u.fld (if k < 32 then R.HOST_INT_PEND_LO_PEND else R.HOST_INT_PEND_HI_PEND)).testBit (k % 32) = true
  let events (u : State) (r : Fin 128) : Prop := event u r true ∧ event u r false
  let rejected (s u : State) (r : Fin 128) (f : Fld) : Prop := u.fld f = 1 ∧ events u r ∧ keeps s u [f]
  let reaches (s : State) (r : Fin 128) (bar2 : Bool) : Prop := s.ringsFenced = false ∧
    if bar2 = true then 64 ≤ r.val ∧ s.pathServes 0 = true ∧ s.pwr.phase = 0 ∧ s.pathWr 0 = true ∧ s.pwr.wakeDue = false
    else s.powered = true
  (∀ (s : State) (r : Fin 128) (v : BitVec 32), s.powered = true → s.fld (R.RING_CFG_EN r) = 0 → fits s r v →
    Does (.ringEnable r v) s fun u => shaped s u r v ∧ u.fld (R.RING_CFG_EN r) = 1 ∧ u.fld (R.RING_CFG_STOP r) = 0 ∧
      u.fld (R.RING_HEAD_INDEX r) = 0 ∧ u.fld (R.RING_TAIL_INDEX r) = 0 ∧ events u r ∧
      keeps s u (cfg r ++ [R.RING_CFG_EN r, R.RING_HEAD_INDEX r, R.RING_TAIL_INDEX r])) ∧
  (∀ (s : State) (r : Fin 128) (v : BitVec 32), s.powered = true → s.fld (R.RING_CFG_EN r) = 0 → ¬ fits s r v →
    Does (.ringEnable r v) s fun u => shaped s u r v ∧ u.fld (R.RING_CFG_EN r) = 0 ∧ u.fld (R.RING_STAT_CFG_REJ r) = 1 ∧
      u.fld (R.RING_CFG_STOP r) = v.toNat / 2 % 2 ∧ keeps s u (cfg r ++ [R.RING_STAT_CFG_REJ r])) ∧
  (∀ (s : State) (r : Fin 128) (v : BitVec 32), s.powered = true → s.fld (R.RING_CFG_EN r) ≠ 0 → changes s r v →
    ∀ c ∈ [Instr.ringEnable r v, .ringDisable r v], Does c s fun u => rejected s u r (R.RING_STAT_CFG_REJ r)) ∧
  (∀ (s : State) (r : Fin 128) (v : BitVec 32), s.powered = true → s.fld (R.RING_CFG_EN r) ≠ 0 → ¬ changes s r v →
    Does (.ringEnable r v) s fun u => u.fld (R.RING_CFG_EN r) = 1 ∧ u.fld (R.RING_CFG_STOP r) = v.toNat / 2 % 2 ∧ events u r ∧
      keeps s u [R.RING_CFG_EN r, R.RING_CFG_STOP r]) ∧
  (∀ (s : State) (r : Fin 128) (v : BitVec 32), s.powered = true → s.fld (R.RING_CFG_EN r) ≠ 0 → s.ringCount r ≠ 0 →
    Does (.ringDisable r v) s fun u => rejected s u r (R.RING_STAT_CFG_REJ r)) ∧
  (∀ (s : State) (r : Fin 128) (v : BitVec 32), s.powered = true → s.fld (R.RING_CFG_EN r) ≠ 0 → ¬ changes s r v → s.ringCount r = 0 →
    Does (.ringDisable r v) s fun u => u.fld (R.RING_CFG_EN r) = 0 ∧ u.fld (R.RING_CFG_STOP r) = v.toNat / 2 % 2 ∧
      keeps s u [R.RING_CFG_EN r, R.RING_CFG_STOP r]) ∧
  (∀ (s : State) (r : Fin 128) (v : BitVec 32), s.powered = true → s.fld (R.RING_CFG_EN r) = 0 →
    Does (.ringDisable r v) s fun u => shaped s u r v ∧ u.fld (R.RING_CFG_STOP r) = v.toNat / 2 % 2 ∧ events u r ∧
      keeps s u (cfg r)) ∧
  (∀ (s : State) (r : Fin 128) (stop : Bool), s.powered = true →
    Does (.ringStopWrite r stop) s fun u => u.fld (R.RING_CFG_STOP r) = (if stop = true then 1 else 0) ∧ events u r ∧
      keeps s u [R.RING_CFG_STOP r]) ∧
  (∀ (s : State) (r : Fin 128) (i : BitVec 17), s.powered = true → s.ringsFenced = true →
    Does (.ringDoorbell r i false) s fun u => u.fld R.HOST_STATUS_DOMAIN_OFF = 1 ∧ OnlyFields s u [R.HOST_STATUS_DOMAIN_OFF]) ∧
  (∀ (s : State) (r : Fin 128) (i : BitVec 17), s.pathServes 0 = true → s.pwr.wakeDue = false → s.pwr.phase = 0 → 64 ≤ r.val →
    (s.pathWr 0 = false ∨ s.ringsFenced = true) →
    let f := if s.pathWr 0 = true then R.HOST_STATUS_DOMAIN_OFF else R.HOST_STATUS_WR_DIS
    Does (.ringDoorbell r i true) s fun u => u.fld f = 1 ∧ u.fld R.HOST_STATUS_LAST_PATH = 0 ∧
      OnlyFields s u [f, R.HOST_STATUS_LAST_PATH]) ∧
  (∀ (s : State) (r : Fin 128) (i : BitVec 17), s.pwr.wakeDue = false → (s.pathServes 0 = false ∨ r.val < 64) →
    Ignores (.ringDoorbell r i true) s) ∧
  (∀ (s : State) (r : Fin 128) (i : BitVec 17) (bar2 : Bool), reaches s r bar2 → 104 ≤ r.val → r.val < 112 →
    (i.toNat + 2 ^ 17 - s.ringTail r) % 2 ^ 17 ≤ s.ringRoom r →
    Does (.ringDoorbell r i bar2) s fun u => u.fld (R.RING_TAIL_INDEX r) = i.toNat ∧ events u r ∧ vector u r true ∧
      keeps s u [R.RING_TAIL_INDEX r]) ∧
  (∀ (s : State) (r : Fin 128) (i : BitVec 17) (bar2 : Bool), reaches s r bar2 → s.hostConsumes r = true → ¬ hostProduces r →
    (i.toNat + 2 ^ 17 - s.ringHead r) % 2 ^ 17 ≤ s.ringCount r →
    Does (.ringDoorbell r i bar2) s fun u => u.fld (R.RING_HEAD_INDEX r) = i.toNat ∧ events u r ∧ vector u r false ∧
      keeps s u [R.RING_HEAD_INDEX r]) ∧
  (∀ (s : State) (r : Fin 128) (i : BitVec 17) (bar2 : Bool), reaches s r bar2 →
    (if hostProduces r = true then s.ringRoom r < (i.toNat + 2 ^ 17 - s.ringTail r) % 2 ^ 17
      else s.hostConsumes r = false ∨ s.ringCount r < (i.toNat + 2 ^ 17 - s.ringHead r) % 2 ^ 17) →
    Does (.ringDoorbell r i bar2) s fun u => rejected s u r (R.RING_STAT_DB_REJ r))

/-- R374, R384, R388. Codes: 3 BUSY, 5 LOW, 6 ADDR, 7 CLEAR, 8 STATE, 9 NOT_NEXT, 10 INVALID, 11 MISMATCH, 1 RUNNING. Generation states:
0 BLANK, 1 WRITING, 2 SEALED, 3 REVOKED. The voltage on VDD_OTP is an operand of the three burning commands (log 24). -/
def Obligations.OtpAdmission : Prop :=
  let sensed (s : State) (low : Bool) : Prop :=
    s.stores.votpLow = low ∧ s.fld R.OTP_STATUS_OTP_LOW = (if low = true then 1 else 0)
  let busy (s : State) : Prop := s.stores.otp ≠ none ∨ s.fenced 0x01B = true
  let word (s : State) : Nat := s.otpWord (s.fld R.OTP_ADDR_ADDR)
  let badAddr (s : State) : Prop :=
    let a := s.fld R.OTP_ADDR_ADDR
    a % 4 ≠ 0 ∨ a < 0x8000 ∨ 0x1DFF0 ≤ (a - 0x8000) % 0x1E000 ∨ 2 ≤ s.genState ((a - 0x8000) / 0x1E000)
  let clears (s : State) : Prop := Nat.land (word s) (s.fld R.OTP_DATA) ≠ word s
  let seq (s u : State) : Prop := u.fld R.OTP_RESULT_SEQ = (s.fld R.OTP_RESULT_SEQ + 1) % 2 ^ R.OTP_RESULT_SEQ.width
  let answers (s u : State) (low : Bool) (code : Nat) : Prop := sensed u low ∧ seq s u ∧ u.fld R.OTP_RESULT_RESULT = code ∧ MemKept s u
  let ends (s u : State) (low : Bool) (code : Nat) : Prop := answers s u low code ∧ u.fld R.OTP_EVENTS_CMD_DONE = 1 ∧
    u.stores.otp = s.stores.otp ∧
    FieldsKept s u [R.OTP_STATUS_OTP_LOW, R.OTP_RESULT_SEQ, R.OTP_RESULT_RESULT, R.OTP_EVENTS_CMD_DONE]
  let runs (s u : State) (low : Bool) (op gen : Nat) : Prop := answers s u low 1 ∧ u.fld R.OTP_STATUS_BUSY = 1 ∧
    u.stores.otp = some ⟨op, gen, s.fld R.OTP_ADDR_ADDR, s.fld R.OTP_DATA⟩ ∧
    FieldsKept s u [R.OTP_STATUS_OTP_LOW, R.OTP_RESULT_SEQ, R.OTP_RESULT_RESULT, R.OTP_STATUS_BUSY]
  let ok (s : State) (low : Bool) : Prop := s.awakes = true ∧ ¬ busy s ∧ low = false
  let adoptEnds (s u : State) (code : Nat) : Prop := seq s u ∧ u.fld R.OTP_RESULT_RESULT = code ∧ u.fld R.OTP_EVENTS_CMD_DONE = 1 ∧
    OnlyFields s u [R.OTP_RESULT_SEQ, R.OTP_RESULT_RESULT, R.OTP_EVENTS_CMD_DONE]
  (∀ (s : State) (g : Fin 4) (low : Bool), s.awakes = true → busy s →
    ∀ c ∈ [Instr.otpBurn g low, .otpSeal g low, .otpRevoke g low], Does c s fun u => ends s u low 3) ∧
  (∀ (s : State) (g : Fin 4), s.awakes = true → ¬ busy s →
    ∀ c ∈ [Instr.otpBurn g true, .otpSeal g true, .otpRevoke g true], Does c s fun u => ends s u true 5) ∧
  (∀ (s : State) (g : Fin 4) (low : Bool), ok s low → badAddr s → Does (.otpBurn g low) s fun u => ends s u low 6) ∧
  (∀ (s : State) (g : Fin 4) (low : Bool), ok s low → ¬ badAddr s → clears s → Does (.otpBurn g low) s fun u => ends s u low 7) ∧
  (∀ (s : State) (g : Fin 4) (low : Bool), ok s low → ¬ badAddr s → ¬ clears s → Does (.otpBurn g low) s fun u => runs s u low 0 g) ∧
  (∀ (s : State) (g : Fin 4) (low : Bool), ok s low → s.genState g ≠ 1 → Does (.otpSeal g low) s fun u => ends s u low 8) ∧
  (∀ (s : State) (g : Fin 4) (low : Bool), ok s low → s.genState g = 1 → s.imageValid g = false →
    Does (.otpSeal g low) s fun u => ends s u low 10) ∧
  (∀ (s : State) (g : Fin 4) (low : Bool), ok s low → s.genState g = 1 → s.imageValid g = true → s.genCrc g ≠ s.fld R.OTP_EXPECT_CRC →
    Does (.otpSeal g low) s fun u => ends s u low 11) ∧
  (∀ (s : State) (g : Fin 4) (low : Bool), ok s low → s.genState g = 1 → s.imageValid g = true → s.genCrc g = s.fld R.OTP_EXPECT_CRC →
    Does (.otpSeal g low) s fun u => runs s u low 1 g) ∧
  (∀ (s : State) (g : Fin 4) (low : Bool), ok s low → s.genState g = 0 → Does (.otpRevoke g low) s fun u => ends s u low 8) ∧
  (∀ (s : State) (g : Fin 4) (low : Bool), ok s low → s.genState g ≠ 0 → Does (.otpRevoke g low) s fun u => runs s u low 2 g) ∧
  (∀ (s : State) (g : Fin 4), s.awakes = true → busy s → Does (.otpAdopt g) s fun u => adoptEnds s u 3) ∧
  (∀ (s : State) (g : Fin 4), s.awakes = true → ¬ busy s → s.genState g ≠ 2 → Does (.otpAdopt g) s fun u => adoptEnds s u 8) ∧
  (∀ (s : State) (g : Fin 4), s.awakes = true → ¬ busy s → s.genState g = 2 → s.adoptable ≠ some g.val →
    Does (.otpAdopt g) s fun u => adoptEnds s u 9) ∧
  (∀ (s : State) (g : Fin 4), s.awakes = true → ¬ busy s → s.genState g = 2 → s.adoptable = some g.val →
    let t : State := ((({ s with stores := { s.stores with otp := some ⟨3, g, s.fld R.OTP_ADDR_ADDR, 0⟩ } }).next
      R.OTP_RESULT_SEQ).setFld R.OTP_RESULT_RESULT 1).raise R.OTP_STATUS_BUSY
    Does (.otpAdopt g) s fun u =>
      u = (adoptRegs (s.genTriples g)).foldl (fun v a => v.adoptWrite a (v.adoptValue (s.genTriples g) a)) t) ∧
  (∀ (t : State) (a v : Nat), isMailbox a = true →
    (t.adoptWrite a v).lane 8 = t.lane 8 ++ [.write 4 a 0 (BitVec.ofNat 32 v)] ∧ MemKept t (t.adoptWrite a v) ∧
    FieldsKept t (t.adoptWrite a v) [R.HOST_MB_WAIT_WAITS]) ∧
  (∀ s : State, s.awakes = true → Does .otpWindowWrite s fun u =>
    u.fld R.OTP_WDROP = min (2 ^ R.OTP_WDROP.width - 1) (s.fld R.OTP_WDROP + 1) ∧ OnlyFields s u [R.OTP_WDROP])

/-- R378, R384 to R388. The operands name the bits that fail to burn; codes 2 DONE, 12 BURN_FAIL, 13 PARTIAL. -/
def Obligations.OtpCompletion : Prop :=
  let ended (s u : State) (code : Nat) : Prop := u.stores.otp = none ∧ u.fld R.OTP_STATUS_BUSY = 0 ∧ u.fld R.OTP_RESULT_RESULT = code ∧
    u.fld R.OTP_EVENTS_CMD_DONE = 1 ∧
    u.fld R.OTP_STATUS_GEN_STATE = (List.range 4).foldr (fun g a => u.genState g + 4 * a) 0 ∧
    FieldsKept s u [R.OTP_STATUS_BUSY, R.OTP_RESULT_RESULT, R.OTP_EVENTS_CMD_DONE, R.OTP_STATUS_GEN_STATE]
  let trailer (g : Nat) : Nat := 0x8000 + 0x1E000 * g + 0x1DFF0
  let stuck (k : BitVec 32) (v : Nat) : Nat := Nat.land v (2 ^ 32 - 1 - k.toNat)
  let burned (s u : State) (off v : Nat) (k : BitVec 32) : Prop := u.otpWord off = Nat.lor (s.otpWord off) (stuck k v)
  let good (u : State) (off v : Nat) : Prop := u.otpWord off = v
  (∀ (s : State) (x : OtpRun) (k k' : BitVec 32), s.awakes = true → s.stores.otp = some x → x.op = 0 → x.data < 2 ^ 32 →
    Does (.otpCmdComplete k k') s fun u => burned s u x.addr x.data k ∧
      ended s u (if u.otpWord x.addr = x.data then 2 else 12) ∧ MemKeptOutside s u (otpBase + x.addr) 4) ∧
  (∀ (s : State) (x : OtpRun) (k k' : BitVec 32), s.awakes = true → s.stores.otp = some x → x.op = 1 → x.gen < 4 →
    Does (.otpCmdComplete k k') s fun u => burned s u (trailer x.gen) (s.genCrc x.gen) k ∧
      (good u (trailer x.gen) (s.genCrc x.gen) → burned s u (trailer x.gen + 4) 0x4C414553 k') ∧
      (¬ good u (trailer x.gen) (s.genCrc x.gen) → u.otpWord (trailer x.gen + 4) = s.otpWord (trailer x.gen + 4)) ∧
      ended s u (if good u (trailer x.gen) (s.genCrc x.gen) ∧ good u (trailer x.gen + 4) 0x4C414553 then 2 else 12) ∧
      MemKeptOutside s u (otpBase + trailer x.gen) 8) ∧
  (∀ (s : State) (x : OtpRun), s.awakes = true → s.stores.otp = some x → x.op = 1 → x.gen < 4 → s.genState x.gen = 1 →
    s.genField x.gen 0 4 = 0x4E525942 → s.lengthOk x.gen = true → s.genField x.gen 0x1DFF0 16 = 0 →
    Does (.otpCmdComplete 0 0) s fun u => u.genState x.gen = 2) ∧
  (∀ (s : State) (x : OtpRun) (k k' : BitVec 32), s.awakes = true → s.stores.otp = some x → x.op = 2 → x.gen < 4 → s.genState x.gen ≠ 3 →
    Does (.otpCmdComplete k k') s fun u => burned s u (trailer x.gen + 8) 0xFFFFFFFF k ∧
      (good u (trailer x.gen + 8) 0xFFFFFFFF → burned s u (trailer x.gen + 12) 0xFFFFFFFF k' ∧ u.genState x.gen = 3) ∧
      (¬ good u (trailer x.gen + 8) 0xFFFFFFFF → u.otpWord (trailer x.gen + 12) = s.otpWord (trailer x.gen + 12)) ∧
      ended s u (if good u (trailer x.gen + 8) 0xFFFFFFFF ∧ good u (trailer x.gen + 12) 0xFFFFFFFF then 2 else 12) ∧
      MemKeptOutside s u (otpBase + trailer x.gen + 8) 8) ∧
  (∀ (s : State) (x : OtpRun) (k k' : BitVec 32), s.awakes = true → s.stores.otp = some x → x.op = 2 → x.gen < 4 → s.genState x.gen = 3 →
    Does (.otpCmdComplete k k') s fun u => ended s u 2 ∧ MemKept s u) ∧
  (∀ (s : State) (x : OtpRun) (k k' : BitVec 32), s.awakes = true → s.stores.otp = some x → x.op = 3 → x.gen < 4 → s.adoptQuiet = true →
    Does (.otpCmdComplete k k') s fun u => u.stores.otp = none ∧ u.fld R.OTP_STATUS_BUSY = 0 ∧ u.fld R.OTP_EVENTS_CMD_DONE = 1 ∧
      u.fld R.OTP_RESULT_RESULT = (if x.data = 0 then 2 else 13) ∧ u.fld R.OTP_STATUS_LIVE_GEN = x.gen ∧
      u.fld R.OTP_STATUS_LIVE_NONE = 0 ∧ u.fld R.OTP_IMAGE_ID = s.genField x.gen 24 4 ∧
      u.fld R.OTP_STATUS_STRUCT_PENDING = (if s.structDiffers x.gen = true then 1 else 0) ∧ MemKept s u ∧
      FieldsKept s u [R.OTP_STATUS_BUSY, R.OTP_RESULT_RESULT, R.OTP_EVENTS_CMD_DONE, R.OTP_STATUS_LIVE_GEN, R.OTP_STATUS_LIVE_NONE,
        R.OTP_IMAGE_ID, R.OTP_STATUS_STRUCT_PENDING]) ∧
  (∀ (s : State) (x : OtpRun) (k k' : BitVec 32), s.awakes = true → s.stores.otp = some x → x.op = 3 → s.adoptQuiet = false →
    Ignores (.otpCmdComplete k k') s) ∧
  (∀ (s : State) (k k' : BitVec 32), s.awakes = true → s.stores.otp = none → Ignores (.otpCmdComplete k k') s)

/-- R394, R395, 16 R446. The voltages are operands of the commands (log 24). -/
def Obligations.NvPageBuffers : Prop :=
  let low (res vin : Nat) : Prop := vin < 3000 ∨ res < 4200
  let page (off : BitVec 17) : Nat := off.toNat / 16
  let place (off : BitVec 17) : Nat := off.toNat % 16
  let view (s : State) (p : Nat) : Nat := match s.nvBuf p with
    | some b => b.data
    | none => s.bytes (nvBase + 64 * p) 64
  let word (x k : Nat) : Nat := x / 256 ^ (4 * k) % 2 ^ 32
  let merged (s u : State) (off : BitVec 17) (v : BitVec 32) : Prop := word (view u (page off)) (place off) = v.toNat ∧
    ∀ k ∈ List.range 16, k ≠ place off → word (view u (page off)) k = word (view s (page off)) k
  let room (s : State) (p : Nat) : Prop := s.nvBuf p ≠ none ∨ s.stores.bufs.length < 8
  let at_ (p : Nat) : Nat := nvBase + 64 * p
  let sensed (u : State) (res vin : Nat) : Prop := u.fld R.NV_RES_MV = min 65535 res ∧ u.fld R.NV_VIN_MV = min 65535 vin
  let dropped (s u : State) : Prop := u.fld R.NV_LOWDROP = min (2 ^ R.NV_LOWDROP.width - 1) (s.fld R.NV_LOWDROP + 1) ∧
    u.fld R.NV_EVENTS_LOW_SET = 1 ∧ u.fld (R.FLT_SRC_LAST_CLASS 0x01A) = 1 ∧ u.fld (R.FLT_SRC_LAST_CAUSE 0x01A) = 0x19
  let quiet (s u : State) : Prop := FieldsKept s u [R.NV_RES_MV, R.NV_VIN_MV, R.NV_STATUS_OPEN]
  let own (s : State) (b : NvBuf) : Prop := ∀ c ∈ s.stores.bufs, c.page = b.page → c = b
  let due (s : State) (b : NvBuf) : Prop := b.last + 100 * 65536000 ≤ s.tb.elapsed
  let stored (u : State) (b : NvBuf) : Prop := u.bytes (at_ b.page) 64 = b.data % 2 ^ 512
  (∀ (s : State) (off : BitVec 17) (v : BitVec 32) (res vin : Nat), s.awakes = true → s.nvOpen = true → room s (page off) →
    place off ≠ 15 →
    Does (.nvWrite off v res vin) s fun u => merged s u off v ∧ (∃ b ∈ u.stores.bufs, b.page = page off ∧ b.last = s.tb.elapsed) ∧
      (∀ b ∈ s.stores.bufs, b.page ≠ page off → b ∈ u.stores.bufs) ∧ u.fld R.NV_STATUS_OPEN = u.stores.bufs.length % 16 ∧
      sensed u res vin ∧ quiet s u ∧ MemKept s u) ∧
  (∀ (s : State) (off : BitVec 17) (v : BitVec 32) (res vin : Nat), s.awakes = true → s.nvOpen = true → room s (page off) →
    place off = 15 → ¬ low res vin →
    Does (.nvWrite off v res vin) s fun u => merged s u off v ∧ u.nvBuf (page off) = none ∧ (page off) ∉ u.stores.torn ∧
      (∀ k ∈ List.range 8, u.nvEcc (64 * page off + 8 * k) = 0) ∧ sensed u res vin ∧ quiet s u ∧ MemKeptOutside s u (at_ (page off)) 64) ∧
  (∀ (s : State) (off : BitVec 17) (v : BitVec 32) (res vin : Nat), s.awakes = true → s.pwr.wakeDue = false → s.nvOpen = true →
    room s (page off) → place off = 15 → low res vin →
    Does (.nvWrite off v res vin) s fun u => dropped s u ∧ u.nvBuf (page off) = none ∧ MemKept s u) ∧
  (∀ (s : State) (off : BitVec 17) (v : BitVec 32) (res vin : Nat) (b : NvBuf), s.awakes = true → s.nvOpen = true →
    ¬ room s (page off) → s.stores.bufs.head? = some b → ¬ low res vin →
    Does (.nvWrite off v res vin) s fun u => stored u b ∧ merged s u off v ∧ u.nvBuf b.page = none ∧ quiet s u ∧
      MemKeptBut s u [(at_ b.page, 64), (at_ (page off), if place off = 15 then 64 else 0)]) ∧
  (∀ (s : State) (off : BitVec 17) (v : BitVec 32) (res vin : Nat) (b : NvBuf), s.awakes = true → s.pwr.wakeDue = false →
    s.nvOpen = true → ¬ room s (page off) → s.stores.bufs.head? = some b → low res vin → place off ≠ 15 →
    Does (.nvWrite off v res vin) s fun u => dropped s u ∧ merged s u off v ∧ u.nvBuf b.page = none ∧ MemKept s u) ∧
  (∀ (s : State) (off : BitVec 17) (v : BitVec 32) (res vin : Nat), s.awakes = true → s.nvOpen = false →
    ∀ c ∈ [Instr.nvWrite off v res vin, .nvFlush res vin], Does c s fun u => sensed u res vin ∧ OnlyFields s u [R.NV_RES_MV, R.NV_VIN_MV]) ∧
  (∀ (s : State) (res vin : Nat), s.awakes = true → ¬ low res vin →
    Does (.nvBufferIdleCommit res vin) s fun u => sensed u res vin ∧ quiet s u ∧
      (∀ b ∈ s.stores.bufs, own s b → due s b → stored u b ∧ b ∉ u.stores.bufs) ∧
      (∀ b ∈ s.stores.bufs, own s b → ¬ due s b → b ∈ u.stores.bufs ∧ u.bytes (at_ b.page) 64 = s.bytes (at_ b.page) 64) ∧
      MemKeptBut s u (s.stores.bufs.map (fun b => (at_ b.page, 64)))) ∧
  (∀ (s : State) (res vin : Nat), s.awakes = true → s.nvOpen = true → ¬ low res vin →
    Does (.nvFlush res vin) s fun u => sensed u res vin ∧ quiet s u ∧ u.stores.bufs = [] ∧ u.fld R.NV_STATUS_OPEN = 0 ∧
      (∀ b ∈ s.stores.bufs, own s b → stored u b) ∧ MemKeptBut s u (s.stores.bufs.map (fun b => (at_ b.page, 64)))) ∧
  (∀ (s : State) (res vin : Nat), s.awakes = true → s.pwr.wakeDue = false → s.nvOpen = true → low res vin →
    Does (.nvFlush res vin) s fun u => u.stores.bufs = [] ∧ MemKept s u ∧
      (s.stores.bufs ≠ [] → u.fld R.NV_EVENTS_LOW_SET = 1 ∧ 0 < u.fld R.NV_LOWDROP)) ∧
  (∀ (s : State) (res vin : Nat), s.awakes = true → s.pwr.wakeDue = false → low res vin →
    Does (.nvBufferIdleCommit res vin) s fun u => MemKept s u ∧ (∀ b ∈ s.stores.bufs, due s b → b ∉ u.stores.bufs) ∧
      (∀ b ∈ s.stores.bufs, own s b → ¬ due s b → b ∈ u.stores.bufs) ∧
      ((∃ b ∈ s.stores.bufs, due s b) → u.fld R.NV_EVENTS_LOW_SET = 1))

/-- R392, R393, R396, R398, R399. In RECALL the patch maps are loaded from the PATCHMAP record at the scan's end (12 R354). -/
def Obligations.NvRecords : Prop :=
  let bit (b : Bool) : Nat := if b = true then 1 else 0
  let ahead (s : State) (k : Nat) : Nat := (s.recSeq k 0 + 2 ^ 32 - s.recSeq k 1) % 2 ^ 32
  let both (s : State) (k : Nat) : Bool := s.copyValid k 0 && s.copyValid k 1
  let tie (s : State) (k : Nat) : Bool := both s k && (ahead s k == 2 ^ 31 ||
    (ahead s k == 0 && s.recField k 0 0 (recSpan k) != s.recField k 1 0 (recSpan k)))
  let cur (s : State) (k : Nat) : Nat :=
    if both s k = true then (if 2 ^ 31 < ahead s k then 1 else 0) else bit (s.copyValid k 1)
  let shown (u : State) (k : Nat) : Prop := u.fld (R.NV_REC_VALID_A k) = bit (u.copyValid k 0) ∧
    u.fld (R.NV_REC_VALID_B k) = bit (u.copyValid k 1) ∧ u.fld (R.NV_REC_PRESENT k) = bit (u.copyValid k 0 || u.copyValid k 1) ∧
    u.fld (R.NV_REC_CUR k) = cur u k ∧ u.fld (R.NV_REC_TIE k) = bit (tie u k) ∧
    u.fld (R.NV_REC_SEQ_SEQ k) = (if (u.copyValid k 0 || u.copyValid k 1) = true then u.recSeq k (cur u k) else 0)
  let records (u : State) : Prop := shown u 0 ∧ shown u 1 ∧ shown u 2 ∧
    (∀ k ∈ List.range 3, tie u k = true → u.fld R.NV_EVENTS_TIE_SET = 1)
  let recFields : List Fld := [R.NV_EVENTS_TIE_SET, R.FLT_SRC_NOTES 0x01A] ++ (List.range 3).flatMap (fun k =>
    [R.NV_REC_VALID_A k, R.NV_REC_VALID_B k, R.NV_REC_PRESENT k, R.NV_REC_CUR k, R.NV_REC_TIE k, R.NV_REC_SEQ_SEQ k])
  (∀ s : State, s.awakes = true → s.pwr.wakeDue = false →
    Does .nvRecheck s fun u => records u ∧ OnlyFields s u recFields) ∧
  (∀ (s : State) (torn ce ue : List Nat), s.awakes = true → s.pwr.wakeDue = false → s.fld R.NV_STATUS_SCAN_BUSY ≠ 0 →
    (∀ p ∈ torn, p < 8192) → (∀ g ∈ ce, g < 65536) → (∀ g ∈ ue, g < 65536) →
    Does (.nvScanDone torn ce ue) s fun u => u.fld R.NV_STATUS_SCAN_BUSY = 0 ∧ u.fld R.NV_EVENTS_SCAN_DONE = 1 ∧ records u ∧
      (∀ p ∈ torn ++ s.stores.torn, p ∈ u.stores.torn) ∧ (∀ g ∈ ue, u.nvEcc (8 * g) = 1) ∧
      (∀ g ∈ ce, g ∉ ue → u.nvEcc (8 * g) = 2) ∧ (torn ++ s.stores.torn ≠ [] → u.fld R.NV_EVENTS_TORN_SET = 1) ∧
      (ce ≠ [] → u.fld R.NV_EVENTS_CE_SET = 1) ∧ (ue ≠ [] → u.fld R.NV_EVENTS_FAIL_SET = 1) ∧ MemKept s u) ∧
  (∀ s : State, s.awakes = true → s.pwr.wakeDue = false → s.fld R.NV_STATUS_SCAN_BUSY ≠ 0 → s.pwr.phase = 0 → s.stores.torn = [] →
    Does (.nvScanDone [] [] []) s fun u => OnlyFields s u (recFields ++ [R.NV_STATUS_SCAN_BUSY, R.NV_EVENTS_SCAN_DONE])) ∧
  (∀ (s : State) (torn ce ue : List Nat), s.awakes = true → s.fld R.NV_STATUS_SCAN_BUSY = 0 → Ignores (.nvScanDone torn ce ue) s)

/-- R404, R408, R410, R411. MODE: 0 RECALL, 1 STANDALONE, 2 HUB, 3 RELAY, 4 COMMISSION, 5 FACTORY. -/
def Obligations.ModeCommands : Prop :=
  let mode (s : State) : Nat := s.fld R.SYS_MODE_MODE
  let answers (s u : State) (code : Nat) : Prop := u.fld R.SYS_MODE_STATUS_RESULT = code ∧
    u.fld R.SYS_MODE_STATUS_SEQ = (s.fld R.SYS_MODE_STATUS_SEQ + 1) % 2 ^ R.SYS_MODE_STATUS_SEQ.width
  let turned (s u : State) (code : Nat) : Prop := answers s u code ∧ OnlyFields s u [R.SYS_MODE_STATUS_RESULT, R.SYS_MODE_STATUS_SEQ]
  let busy (s : State) : Prop := mode s = 0 ∨ s.fld R.SYS_MODE_CHANGING ≠ 0
  let open_ (s : State) : Prop := s.awakes = true ∧ ¬ busy s ∧ mode s ≠ 5
  let legal (dst : Fin 8) : Prop := 1 ≤ dst.val ∧ dst.val ≤ 4
  let ready (s : State) : Prop := mode s = 4 → s.pllState 0 = 3 ∧ s.domSrc 0 = 0 ∧ s.domGated 0 = false
  let free (v : Nat) : LaneOp := .write 5 0x05030000 0 (BitVec.ofNat 32 v)
  let src (v : Nat) : LaneOp := .write 5 0x05010100 0 (BitVec.ofNat 32 v)
  let writes (s : State) (dst : Fin 8) : List LaneOp :=
    if dst.val = 1 then [free 1] else if dst.val = 2 then [free 0, src 1]
    else if dst.val = 3 then [free 0, src (if s.fld R.SYS_MODE_RELAY_SRC = 0 then 3 else 2)] else []
  let waits (s : State) : Prop := (s.lane 8).any (fun o => match o with | .write 5 _ _ _ => true | _ => false) = true
  (∀ (s : State) (dst : Fin 8), s.awakes = true → busy s → Does (.modeCmd dst) s fun u => turned s u 5) ∧
  (∀ (s : State) (dst : Fin 8), s.awakes = true → mode s = 5 → ¬ busy s → Does (.modeCmd dst) s fun u => turned s u 6) ∧
  (∀ (s : State) (dst : Fin 8), open_ s → ¬ legal dst → Does (.modeCmd dst) s fun u => turned s u 3) ∧
  (∀ (s : State) (dst : Fin 8), open_ s → legal dst → ¬ ready s → Does (.modeCmd dst) s fun u => turned s u 4) ∧
  (∀ (s : State) (dst : Fin 8), open_ s → legal dst → ready s → mode s = dst.val → Does (.modeCmd dst) s fun u => turned s u 2) ∧
  (∀ (s : State) (dst : Fin 8), open_ s → legal dst → ready s → mode s ≠ dst.val →
    Does (.modeCmd dst) s fun u => answers s u 1 ∧ mode u = dst.val ∧ u.fld R.SYS_MODE_CHANGING = 1 ∧
      u.lane 8 = s.lane 8 ++ writes s dst ∧ MemKept s u ∧
      FieldsKept s u [R.SYS_MODE_MODE, R.SYS_MODE_CHANGING, R.SYS_MODE_STATUS_RESULT, R.SYS_MODE_STATUS_SEQ, R.HOST_MB_WAIT_WAITS]) ∧
  (∀ s : State, s.awakes = true → s.fld R.SYS_MODE_CHANGING ≠ 0 → ¬ waits s →
    Does .modeChangeDone s fun u => u.fld R.SYS_MODE_CHANGING = 0 ∧ u.fld R.SYS_MODE_STATUS_RESULT = 2 ∧
      OnlyFields s u [R.SYS_MODE_CHANGING, R.SYS_MODE_STATUS_RESULT]) ∧
  (∀ s : State, s.awakes = true → (s.fld R.SYS_MODE_CHANGING = 0 ∨ waits s) → Ignores .modeChangeDone s) ∧
  (∀ (s : State) (v : BitVec 32), s.pwr.resetLow = true → v.toNat % 2 = 1 →
    Does (.factoryReq v) s fun u => u.pwr.factory = true ∧ u = { s with pwr := u.pwr } ∧ u.pwr = { s.pwr with factory := true }) ∧
  (∀ (s : State) (v : BitVec 32), (s.pwr.resetLow = false ∨ v.toNat % 2 = 0) → Ignores (.factoryReq v) s)

/-- R382, R405, R492, R493, R495, R184, 16 R445, R451. A cut OTP burn may leave some of its bits; the operands name those that failed
(DEDUCED, log 6 and 32 for what stands through RECALL). With no listed register field, every field has its reset value. -/
def Obligations.ResetAndSupplies : Prop :=
  let held (s u : State) : Prop := u.pwr.phase = 1 ∧ u.pwr.cold = true ∧ u.pwr.retained = 0 ∧ u.pwr.latched = [] ∧
    u.tb = { s.tb with running := false } ∧ u.stores.bufs = [] ∧ u.stores.otp = none ∧ u.tdc = s.tdc ∧
    u.fld R.PWR_STATUS_STATE = 0 ∧ u.fld R.PWR_STATUS_ENTERING = 0 ∧
    (3 ≤ s.pwrState → u.fld R.PWR_STATUS_RETAIN_LOST = 1) ∧ (s.pwrState < 3 → u.fld R.PWR_STATUS_RETAIN_LOST = s.fld R.PWR_STATUS_RETAIN_LOST) ∧
    FieldsKept s u [R.PWR_STATUS_STATE, R.PWR_STATUS_ENTERING, R.PWR_STATUS_RETAIN_LOST] ∧ (s.stores.otp = none → MemKept s u) ∧
    (∀ x ∈ s.stores.otp.toList, x.op = 0 → MemKeptOutside s u (otpBase + x.addr) 4)
  let first : List Fld := [R.FLT_FIRST_0_SRC, R.FLT_FIRST_0_CLASS, R.FLT_FIRST_0_CAUSE, R.FLT_FIRST_0_VALID, R.FLT_FIRST_1_TIME,
    R.FLT_FIRST_2_TIME, R.FLT_FIRST_3_TIME]
  let begun (s u : State) : Prop := u.pwr.phase = 2 ∧ u.pwr.resetLow = false ∧ u.pwr.supplyLow = false ∧
    u.pwr.cold = (s.pwr.cold || !s.saveValid) ∧ u.fld R.SYS_MODE_MODE = 0 ∧ u.fld R.NV_STATUS_SCAN_BUSY = 1 ∧
    u.tb.running = false ∧ u.fld R.PWR_STATUS_STATE = 0 ∧
    (∀ n : Fin 8, u.engState n = 0 ∧ ∀ t : Fin 4, u.tstate n t = 0) ∧
    (∀ r : Fin 64, u.fld (R.ENG_ROLE_HOLDER r) = if r.val < 8 then r.val else 0xF) ∧
    (s.fld R.FLT_FIRST_0_VALID ≠ 0 → ∀ f ∈ first, u.fld f = s.fld f) ∧
    (∀ k : Fin 16, u.fld (R.FLT_SRC_LATCHED k) = s.fld (R.FLT_SRC_LATCHED k)) ∧ (∀ r : Fin 29, u.pwr.cold = true → RegionLost u r) ∧
    (2 ≤ s.stores.factory → u.fld R.OTP_STATUS_FACTORY_BAD = 1) ∧
    MemKeptBut s u ((List.range 29).map (fun b => (bankBase b, bankSize b)))
  let soak : List Fld := [R.TDC_STATUS_SOAK, R.QUAL_STATUS_SOAK_HOLD, R.TDC_EVENTS_SOAK_SET]
  let wanted (s : State) : Prop :=
    (s.pwrState < 2 ∨ (s.pwrState = 2 ∧ s.fld R.PWR_CFG_OVEN_SLEEP ≠ 0)) ∧ s.fenced 0x011 = false
  (∀ (s : State) (k k' : BitVec 32), Does (.resetAssert k k') s fun u => held s u ∧ u.pwr.resetLow = true ∧ u.pwr.supplyLow = s.pwr.supplyLow) ∧
  (∀ (s : State) (k k' : BitVec 32), s.pwr.resetLow = false → s.pwr.phase ≠ 1 → s.pwrState < 3 →
    Does (.supplyFault k k' none) s fun u => held s u ∧ u.pwr.resetLow = false ∧ u.pwr.supplyLow = true) ∧
  (∀ (s : State) (k k' : BitVec 32) (i g : Fin 8) (how : Fin 3) (b : NvBuf), s.pwr.resetLow = false → s.pwr.phase ≠ 1 →
    s.pwrState < 3 → s.stores.bufs[i.val]? = some b → s.stores.otp = none →
    Does (.supplyFault k k' (some (i, g, how))) s fun u => u.pwr.phase = 1 ∧ u.pwr.supplyLow = true ∧ b.page ∈ u.stores.torn ∧
      u.stores.bufs = [] ∧ u.bytes (nvBase + 64 * b.page) (8 * g) = b.data % 256 ^ (8 * g.val) ∧
      MemKeptOutside s u (nvBase + 64 * b.page) 64) ∧
  (∀ (s : State) (k k' : BitVec 32) (x : Option (Fin 8 × Fin 8 × Fin 3)), (s.pwr.resetLow = true ∨ s.pwr.phase = 1 ∨ 3 ≤ s.pwrState) →
    Ignores (.supplyFault k k' x) s) ∧
  (∀ (s : State) (k k' : BitVec 32), Does (.vaoLoss k k' none) s fun u => FieldsKept State.reset u soak ∧ (∀ f ∈ soak, u.fld f = 0) ∧
    u.pwr.phase = 1 ∧
    u.pwr.cold = true ∧ u.pwr.supplyLow = true ∧ u.pwr.resetLow = s.pwr.resetLow ∧ u.tdc.heater = false ∧
    (∀ r : Fin 30, RegionLost u r) ∧
    (s.stores.otp = none → MemKeptBut s u ((aoBase, 0x4000) :: (List.range 29).map (fun b => (bankBase b, bankSize b))))) ∧
  (∀ (s : State) (pins : Fin 4), s.pwr.resetLow = true → s.pwr.phase = 1 → s.pwr.supplyLow = false →
    Does (.resetRelease pins) s fun u => begun s u ∧ u.host.i2cPins = pins) ∧
  (∀ (s : State) (pins : Fin 4), s.pwr.resetLow = true → (s.pwr.phase ≠ 1 ∨ s.pwr.supplyLow = true) →
    Does (.resetRelease pins) s fun u =>
      u = { s with pwr := { s.pwr with resetLow := false }, host := { s.host with i2cPins := pins } }) ∧
  (∀ (s : State) (pins : Fin 4), s.pwr.resetLow = false → Ignores (.resetRelease pins) s) ∧
  (∀ s : State, s.pwr.resetLow = false → s.pwr.phase = 1 → Does .supplyRestored s fun u => begun s u) ∧
  (∀ s : State, (s.pwr.resetLow = true ∨ s.pwr.phase ≠ 1) →
    Does .supplyRestored s fun u => u = { s with pwr := { s.pwr with supplyLow := false } }) ∧
  (∀ s : State, Does .ovenSupplyLow s fun u => u.pwr.ovenLow = true ∧ u.tdc.heater = false ∧ FieldsKept s u [] ∧ MemKept s u) ∧
  (∀ s : State, wanted s → Does .ovenSupplyRestored s fun u => u.pwr.ovenLow = false ∧ u.tdc.heater = true ∧
      (s.tdc.heater = false → u.fld R.TDC_STATUS_SOAK = 1) ∧ MemKept s u) ∧
  (∀ s : State, ¬ wanted s → Does .ovenSupplyRestored s fun u => u = { s with pwr := { s.pwr with ovenLow := false } })

/-- R382, R406, R302, R432, R435, 16 R451, R492 to R495. The premise on the records is 13 R379's, which R380 and R381 ask of the copies in use. The saved
count is exact here when count times period is a whole number of fu (log 31). -/
def Obligations.RecallEnd : Prop :=
  let records (s : State) : List (Nat × Nat × Nat × Nat) := s.factoryRecs ++
    (if s.fld R.OTP_STATUS_BOOT_NONE ≠ 0 then [] else (s.genRecs (s.fld R.OTP_STATUS_BOOT_GEN)).getD [])
  let ready (s : State) : Prop := s.pwr.phase = 2 ∧ s.fld R.NV_STATUS_SCAN_BUSY = 0 ∧ s.fld R.OTP_STATUS_FACTORY_BAD = 0 ∧
    (∀ b : Fin 29, s.busyKind b = 0)
  let valid (s : State) : Prop := ∀ r ∈ records s, s.recordOk r = true
  let ok (s : State) : Prop := ready s ∧ valid s
  let wake (s : State) : Prop := ok s ∧ s.pwr.cold = false
  let legal (m : Nat) : Prop := 1 ≤ m ∧ m ≤ 4
  let mode (s : State) : Nat :=
    if s.pwr.factory = true then 5
    else if s.pwr.cold = false ∧ legal (s.saved 7 1) then s.saved 7 1
    else if legal (s.fld R.SYS_MODE_BOOT) then s.fld R.SYS_MODE_BOOT else 2
  (∀ (s : State) (vdd : List Nat) (c : Nat), ¬ ready s → Ignores (.recallEnd vdd c) s) ∧
  (∀ (s : State) (vdd : List Nat) (c : Nat), ok s →
    Does (.recallEnd vdd c) s fun u => u.pwr.phase = 0 ∧ u.pwr.factory = false ∧ u.fld R.SYS_MODE_MODE = mode s ∧
      (∀ k ∈ List.range vdd.length, Tab.get vddDefault u.outs.vdd k =
        (if 2500 ≤ vdd.getD k 0 then 2 else if 1500 ≤ vdd.getD k 0 then 1 else 0)) ∧
      MemKeptBut s u (((List.range 29).filter (fun b => !s.pwr.retained.testBit b)).map (fun b => (bankBase b, bankSize b)))) ∧
  (∀ (s : State) (vdd : List Nat) (c : Nat) (n : Fin 8), ok s →
    Does (.recallEnd vdd c) s fun u =>
      u.engState n = (if s.fld (R.ENG_CFG_BOOT_RUN n) ≠ 0 then 1 else s.engState n)) ∧
  (∀ (s : State) (vdd : List Nat) (c : Nat) (r : Fin 64), ok s → 8 ≤ r.val → s.holder r = none →
    s.fld (R.ENG_ROLE_DEFINED r) ≠ 0 →
    Does (.recallEnd vdd c) s fun u => u.holder r = [R.ENG_ROLE_PLAN_P0 r, R.ENG_ROLE_PLAN_P1 r, R.ENG_ROLE_PLAN_P2 r].findSome? (fun f =>
      if s.fld f < 8 ∧ u.engState (s.fld f) = 1 then some (s.fld f) else none)) ∧
  (∀ (s : State) (vdd : List Nat) (c : Nat) (k : Fin 16), ok s → s.fld (R.FLT_SRC_LATCHED k) ≠ 0 →
    Does (.recallEnd vdd c) s fun u => u.fenced k = true ∧ u.tiFenced = true ∧ u.fld R.TB_STATUS_TIME_UNCERTAIN = 1) ∧
  (∀ (s : State) (vdd : List Nat) (c : Nat), ok s → s.pwr.cold = true →
    Does (.recallEnd vdd c) s fun u => u.tb.now = s.tb.now ∧ u.tb.restore = s.tb.restore) ∧
  (∀ (s : State) (vdd : List Nat) (c : Nat), wake s → c * s.saved 20 8 % 2 ^ 48 = 0 →
    Does (.recallEnd vdd c) s fun u => u.tb.restore = some (decodeHub (s.saved 8 12) + c * s.saved 20 8 / 2 ^ 48)) ∧
  (∀ (s : State) (vdd : List Nat) (c : Nat), wake s →
    Does (.recallEnd vdd c) s fun u => u.fld R.TB_STATUS_TIME_UNCERTAIN = 1 ∧ u.fld R.TB_UTC_OFFSET_OFFSET = s.saved 30 2 ∧
      u.fld R.SEAM_STATUS_PREF = s.saved 39 1 % 64 ∧ u.fld R.TB_LEAP_AT_LO_AT_LO = s.saved 32 4 ∧
      u.fld R.TB_LEAP_AT_HI_AT_HI = s.saved 36 2 ∧ u.fld R.TB_LEAP_CTL_DELTA = s.saved 38 1 % 4 ∧
      ((s.saved 29 1).testBit 1 = true → u.fld R.TB_STATUS_LEAP_ARMED = 1 ∧ u.tb.leapAt = s.saved 32 6) ∧
      (s.pwr.retained.testBit 28 = true → u.fld R.EPD_DIR_STATUS_COUNT = s.saved 40 4 % 2 ^ 18)) ∧
  (∀ (s : State) (pins : Fin 4), s.pwr.resetLow = true → s.pwr.phase = 1 → s.pwr.supplyLow = false →
    Does (.resetRelease pins) s fun u => u.pwr.phase = 2 ∧ u.fld R.SYS_MODE_MODE = 0 ∧ u.fld R.NV_STATUS_SCAN_BUSY = 1) ∧
  (∀ s : State, s.pwr.resetLow = false → s.pwr.phase = 1 →
    Does .supplyRestored s fun u => u.pwr.phase = 2 ∧ u.pwr.supplyLow = false ∧ u.fld R.SYS_MODE_MODE = 0) ∧
  (∀ (s : State) (k k' : BitVec 32), Does (.resetAssert k k') s fun u => u.pwr.phase = 1 ∧ u.pwr.cold = true ∧ u.pwr.resetLow = true ∧
    u.tb.running = false ∧ u.stores.bufs = []) ∧
  (∀ (s : State) (k k' : BitVec 32), s.pwr.resetLow = false → s.pwr.phase ≠ 1 → s.pwrState < 3 →
    Does (.supplyFault k k' none) s fun u => u.pwr.phase = 1 ∧ u.pwr.cold = true ∧ u.pwr.supplyLow = true ∧ u.stores.bufs = []) ∧
  (∀ (s : State) (k k' : BitVec 32), Does (.vaoLoss k k' none) s fun u => u.pwr.phase = 1 ∧ u.pwr.cold = true ∧
    ∀ r : Fin 30, RegionLost u r) ∧
  (∀ s : State, Does .ovenSupplyLow s fun u => u.tdc.heater = false ∧ MemKept s u) ∧
  (∀ s : State, s.pwrState < 2 → s.fenced 0x011 = false → Does .ovenSupplyRestored s fun u => u.tdc.heater = true ∧ MemKept s u)

/-- R423, R424, R427 to R429, R434. -/
def Obligations.PowerStateEntry : Prop :=
  let answers (s u : State) (code : Nat) : Prop := u.fld R.PWR_RESULT_RESULT = code ∧
    u.fld R.PWR_RESULT_SEQ = (s.fld R.PWR_RESULT_SEQ + 1) % 2 ^ R.PWR_RESULT_SEQ.width
  let turned (s u : State) (code : Nat) : Prop := answers s u code ∧ OnlyFields s u [R.PWR_RESULT_RESULT, R.PWR_RESULT_SEQ]
  let deeper : List (Instr × Nat) := [(.pwrEnterIdle, 1), (.pwrEnterSleep, 2), (.pwrEnterDeepSleep, 3), (.pwrEnterOff, 4)]
  let entering (s : State) : Prop := s.fld R.PWR_STATUS_ENTERING ≠ 0
  let busy (s : State) (dst : Nat) : Prop := entering s ∨ s.pwr.phase = 2 ∨
    (3 ≤ dst ∧ (s.stores.otp ≠ none ∨ s.fld R.NV_STATUS_SCAN_BUSY ≠ 0))
  let standin (s : State) (dst : Nat) : Prop := 2 ≤ dst ∧ s.domSrc 0 ≠ 0 ∧ s.domGated 0 = false
  let woke (s u : State) (src all : Nat) (replayed : Bool) : Prop := u.fld R.PWR_STATUS_STATE = 0 ∧ u.fld R.PWR_EVENTS_WAKE = 1 ∧
    u.fld R.PWR_LAST_WAKE_SRC = src ∧ u.fld R.PWR_LAST_WAKE_ALL = all ∧ u.fld R.PWR_LAST_WAKE_ABORT = 0 ∧
    u.fld R.PWR_LAST_WAKE_REPLAYED = (if replayed = true then 1 else 0) ∧ MemKept s u
  let entered (u : State) (dst : Nat) : Prop := u.fld R.PWR_STATUS_STATE = dst ∧ u.fld R.PWR_STATUS_ENTERING = 0 ∧
    u.fld R.PWR_RESULT_RESULT = 2
  let quiet (s : State) : Prop := ∀ n : Fin 8, s.flights n = [] ∧ s.lane n = []
  let going (s : State) (dst : Nat) : Prop := s.powered = true ∧ entering s ∧ s.pwr.dst = dst
  let kept (s : State) (dst b : Nat) : Bool := dst == 3 && (s.fld R.PWR_RETAIN_BANKS).testBit b
  let whole (s : State) (b : Nat) : Bool := s.busyKind b == 0 && s.bank.darn != some (b, true)
  (∀ s : State, s.awakes = true → ∀ p ∈ deeper, busy s p.2 → Does p.1 s fun u => turned s u 5) ∧
  (∀ s : State, s.awakes = true → ∀ p ∈ deeper, ¬ busy s p.2 → p.2 ≤ s.pwrState → Does p.1 s fun u => turned s u 4) ∧
  (∀ s : State, s.awakes = true → ∀ p ∈ deeper, ¬ busy s p.2 → s.pwrState < p.2 → standin s p.2 → Does p.1 s fun u => turned s u 6) ∧
  (∀ s : State, s.awakes = true → ∀ p ∈ deeper, ¬ busy s p.2 → s.pwrState < p.2 → ¬ standin s p.2 →
    Does p.1 s fun u => answers s u 1 ∧ u.fld R.PWR_STATUS_ENTERING = 1 ∧ u.pwr.dst = p.2 ∧ u.pwr.latched = [] ∧
      FieldsKept s u [R.PWR_RESULT_RESULT, R.PWR_RESULT_SEQ, R.PWR_STATUS_ENTERING] ∧ MemKept s u) ∧
  (∀ s : State, s.awakes = true → (entering s ∨ s.pwr.phase = 2) → Does .pwrWakeHost s fun u => turned s u 5) ∧
  (∀ s : State, s.awakes = true → ¬ entering s → s.pwr.phase ≠ 2 → s.pwrState = 0 → Does .pwrWakeHost s fun u => turned s u 2) ∧
  (∀ s : State, s.powered = true → s.pwr.resetLow = false → ¬ entering s → s.pwrState ≠ 0 →
    Does .pwrWakeHost s fun u => answers s u 2 ∧ woke s u 4 8 false ∧ u.fld R.PWR_LAST_WAKE_FROM = s.pwrState) ∧
  (∀ s : State, s.powered = true → (¬ entering s ∨ ¬ quiet s) → Ignores .pwrEntryDrained s) ∧
  (∀ s : State, s.powered = true → entering s → quiet s → s.pwr.dst ≠ 1 →
    Does .pwrEntryDrained s fun u => u = { s with pwr := { s.pwr with drained := true } }) ∧
  (∀ s : State, going s 1 → quiet s → s.pwr.latched = [] →
    Does .pwrEntryDrained s fun u => entered u 1 ∧ u.pwr.drained = true ∧
      FieldsKept s u [R.PWR_STATUS_STATE, R.PWR_STATUS_ENTERING, R.PWR_RESULT_RESULT] ∧ MemKept s u) ∧
  (∀ s : State, going s 1 → quiet s → s.pwr.latched = [1] → s.pwr.resetLow = false → Does .pwrEntryDrained s fun u => woke s u 1 1 true) ∧
  (∀ (s : State) (cal : BitVec 64) (res vin : Nat), s.powered = true → (¬ entering s ∨ s.pwr.drained = false
      ∨ (3 ≤ s.pwr.dst ∧ ∃ l ∈ List.range 9, s.lane l ≠ [])) → Ignores (.pwrEntrySave cal res vin) s) ∧
  (∀ (s : State) (cal : BitVec 64) (res vin : Nat), going s 2 → s.domSrc 0 = 0 → s.pwr.drained = true → s.pwr.latched = [] →
    Does (.pwrEntrySave cal res vin) s fun u => entered u 2 ∧
      (∀ n : Fin 32, s.fld (R.LNK_CFG_EN n) ≠ 0 → u.linkState n = (if s.linkState n = 4 then 4 else 0) ∧ u.fld (R.LNK_CFG_EN n) = s.fld (R.LNK_CFG_EN n)) ∧
      (∀ p ∈ [1, 2, 3], u.pllState p = 0) ∧ u.pwr.plls = [1, 2, 3].filter (fun p => s.pllState p != 0) ∧
      u.tdc.heater = (s.tdc.heater && s.fld R.PWR_CFG_OVEN_SLEEP != 0) ∧ (∀ d ∈ [1, 2, 3], u.fld (R.OUT_STATUS_BYPASS (6 * d)) = 0) ∧
      MemKept s u) ∧
  (∀ (s : State) (cal : BitVec 64) (res vin : Nat), s.pwr.drained = true → s.pwr.latched = [] → s.pwr.wakeDue = false →
    (∀ l ∈ List.range 9, s.lane l = []) → ∀ dst ∈ [3, 4], going s dst →
    Does (.pwrEntrySave cal res vin) s fun u => entered u dst ∧ u.fld R.PWR_STATUS_REG_LP = 1 ∧ u.tb.running = false ∧
      u.saveValid = true ∧ u.saved 6 1 = dst ∧ u.saved 7 1 = s.fld R.SYS_MODE_MODE ∧
      u.saved 8 12 = encodeHub s.tb.now % 2 ^ 96 ∧ u.fld R.PWR_STATUS_RETAIN_LOST = 0 ∧
      (∀ n : Fin 8, u.engState n = 4) ∧ u.stores.bufs = (if s.nvOpen = true then [] else s.stores.bufs) ∧
      (∀ b : Fin 29, u.fld (R.BNK_STATUS_PWR_NOW b) = (if kept s dst b = true then 1 else 2) ∧
        (kept s dst b = false → s.fld (R.BNK_STATUS_PWR_NOW b) ≠ 2 → RegionLost u b)) ∧
      MemKeptBut s u ((aoBase, 128) :: s.stores.bufs.map (fun b => (nvBase + 64 * b.page, 64)) ++
        ((List.range 29).filter (fun b => !(kept s dst b && whole s b))).map (fun b => (bankBase b, bankSize b)))) ∧
  (∀ (s : State) (cal : BitVec 64) (res vin : Nat), s.pwr.drained = true → s.pwr.latched = [1] → s.pwr.wakeDue = false →
    (∀ l ∈ List.range 9, s.lane l = []) → ∀ dst ∈ [3, 4], going s dst →
    Does (.pwrEntrySave cal res vin) s fun u => u.pwr.phase = 1 ∧ u.fld R.PWR_EVENTS_WAKE = 1 ∧ u.fld R.PWR_LAST_WAKE_SRC = 1 ∧
      u.fld R.PWR_LAST_WAKE_REPLAYED = 1 ∧ u.fld R.PWR_LAST_WAKE_FROM = dst) ∧
  (∀ s : State, (3 ≤ s.pwrState ∨ s.pwr.phase = 1) →
    ∀ c ∈ [Instr.tbTick 1, .pllStart 0, .pllStop 0, .engRun 0, .engPark 0 true,
      .ringDoorbell 104 1 false, .ringStopWrite 3 true, .bnkPwrWrite 8 1, .rinseEnd 8, .darnDestructive 8, .darnEnd 8 [] none, .otpBurn 0 false,
      .otpWindowWrite, .nvWrite 0 1 5000 5000, .nvFlush 5000 5000, .nvRecheck, .modeCmd 1, .pwrEnterIdle, .pwrEnterOff, .pwrWakeHost,
      .faultReport 0x60 2 1, .fltClear 0x60, .slotAck 0 0, .epdInsert 0 0, .roleCmd 9 1, .ledgerSrcDetect], Ignores c s)

/-- R427 to R431, R433, R436. Sources: 1 WAKE_L, 2 alarm, 3 I2C. ENTRY_POLICY = 1 abandons the entry at once (DESIGN CHOICE, log 34: the
part stands at an abort point whenever an event can arrive). -/
def Obligations.WakeSourcesAndLedger : Prop :=
  let sources (dev : BitVec 7) : List (Instr × Nat) := [(.wakePin, 1), (.wakeAlarm, 2), (.i2cWake dev, 3)]
  let entering (s : State) : Prop := s.fld R.PWR_STATUS_ENTERING ≠ 0
  let counts (src st : Nat) : Prop := 1 ≤ st ∧ (src = 1 ∨ st ≤ 3)
  let at_ (s : State) : Nat := if s.fld R.PWR_STATUS_ENTERING ≠ 0 then s.pwr.dst else s.pwrState
  let wakeAt (s : State) : Nat := decodeHub (s.fld R.PWR_WAKE_AT_0_AT + 2 ^ 32 * s.fld R.PWR_WAKE_AT_1_AT + 2 ^ 64 * s.fld R.PWR_WAKE_AT_2_AT)
  let due (s : State) (dev : BitVec 7) (src : Nat) : Prop :=
    (src = 2 → s.pwr.alarm = true ∧ s.fld R.PWR_CFG_ALARM_EN ≠ 0 ∧ (s.pwrState = 3 ∨ wakeAt s ≤ s.tb.now)) ∧
    (src = 3 → s.fld R.PWR_CFG_I2C_WAKE ≠ 0 ∧ s.fld R.HOST_CFG_I2C_EN ≠ 0 ∧ s.i2cMine dev = true)
  let ready (s : State) : Prop := s.pwr.phase = 0 ∧ s.pwr.resetLow = false
  let shows (s u : State) (src : Nat) (abort : Bool) : Prop := u.fld R.PWR_LAST_WAKE_SRC = src ∧ u.fld R.PWR_LAST_WAKE_ALL = 2 ^ (src - 1) ∧
    u.fld R.PWR_LAST_WAKE_FROM = s.pwrState ∧ u.fld R.PWR_LAST_WAKE_REPLAYED = 0 ∧
    u.fld R.PWR_LAST_WAKE_ABORT = (if abort = true then 1 else 0)
  let last : List Fld := [R.PWR_LAST_WAKE_SRC, R.PWR_LAST_WAKE_ALL, R.PWR_LAST_WAKE_FROM, R.PWR_LAST_WAKE_REPLAYED, R.PWR_LAST_WAKE_ABORT]
  let limit (s : State) : Nat := if s.fld R.PWR_STATUS_REG_LP ≠ 0 then 200 else 1500
  (∀ (s : State) (dev : BitVec 7), ready s → ¬ entering s → ∀ p ∈ sources dev, due s dev p.2 → counts p.2 s.pwrState → s.pwrState ≤ 2 →
    Does p.1 s fun u => shows s u p.2 false ∧ u.fld R.PWR_EVENTS_WAKE = 1 ∧ u.fld R.PWR_STATUS_STATE = 0 ∧ u.pwr.drained = false ∧
      (p.2 = 2 → u.pwr.alarm = false) ∧ (∀ n : Fin 8, u.engState n = s.engState n) ∧
      (∀ n : Fin 8, s.engState n = 1 → Tab.get (fun _ => 0) u.eng.beatAt n = s.tb.elapsed) ∧
      (s.pwrState = 2 → ∀ n : Fin 32, s.fld (R.LNK_CFG_EN n) ≠ 0 → s.linkState n = 0 → u.linkState n = 1) ∧ MemKept s u) ∧
  (∀ (s : State) (dev : BitVec 7), ready s → ¬ entering s → ∀ p ∈ sources dev, due s dev p.2 → counts p.2 s.pwrState → 3 ≤ s.pwrState →
    Does p.1 s fun u => shows s u p.2 false ∧ u.fld R.PWR_EVENTS_WAKE = 1 ∧ u.pwr.phase = 1 ∧ u.pwr.alarm = false ∧
      FieldsKept s u (R.PWR_EVENTS_WAKE :: last) ∧ MemKept s u) ∧
  (∀ (s : State) (dev : BitVec 7), ready s → entering s → s.fld R.PWR_CFG_ENTRY_POLICY = 0 → ∀ p ∈ sources dev, due s dev p.2 → counts p.2 s.pwr.dst →
    Does p.1 s fun u => p.2 ∈ u.pwr.latched ∧ (∀ k ∈ s.pwr.latched, k ∈ u.pwr.latched) ∧ u.regs = s.regs ∧ MemKept s u) ∧
  (∀ (s : State) (dev : BitVec 7), ready s → entering s → s.fld R.PWR_CFG_ENTRY_POLICY ≠ 0 → ∀ p ∈ sources dev, due s dev p.2 → counts p.2 s.pwr.dst →
    Does p.1 s fun u => shows s u p.2 true ∧ u.fld R.PWR_EVENTS_ABORTED = 1 ∧ u.fld R.PWR_RESULT_RESULT = 3 ∧
      u.fld R.PWR_STATUS_ENTERING = 0 ∧ u.pwr.latched = [] ∧
      FieldsKept s u ([R.PWR_EVENTS_ABORTED, R.PWR_RESULT_RESULT, R.PWR_STATUS_ENTERING] ++ last) ∧ MemKept s u) ∧
  (∀ (s : State) (dev : BitVec 7), ∀ p ∈ sources dev, (¬ due s dev p.2 ∨ ¬ counts p.2 (at_ s) ∨ s.pwr.phase ≠ 0) → Ignores p.1 s) ∧
  (∀ (s : State) (period : BitVec 64), s.powered = true → s.tb.running = true →
    Does (.ledgerCalWindow period) s fun u => u.fld R.PWR_STATUS_CAL_VALID = 1 ∧ u.pwr.calAt = s.tb.elapsed ∧
      (s.fld R.PWR_CFG_CAL_HOLD = 0 → u.fld R.PWR_LEDGER_PERIOD_LO = period.toNat % 2 ^ 32 ∧
        u.fld R.PWR_LEDGER_PERIOD_HI = period.toNat / 2 ^ 32) ∧
      FieldsKept s u (R.PWR_STATUS_CAL_VALID :: (if s.fld R.PWR_CFG_CAL_HOLD = 0 then [R.PWR_LEDGER_PERIOD_LO, R.PWR_LEDGER_PERIOD_HI] else []))
      ∧ MemKept s u) ∧
  (∀ s : State, s.powered = true → s.tb.running = true →
    Does .ledgerSrcDetect s fun u => u.fld R.PWR_STATUS_LEDGER_SRC = 0 ∧ OnlyFields s u [R.PWR_STATUS_LEDGER_SRC]) ∧
  (∀ (s : State) (period : BitVec 64), s.tb.running = false → ∀ c ∈ [Instr.ledgerCalWindow period, .ledgerSrcDetect], Ignores c s) ∧
  (∀ (s : State) (ma : BitVec 16), ma.toNat ≤ limit s →
    Does (.aoOverload ma) s fun u => u.fld R.PWR_AO_MA_MA = ma.toNat ∧ OnlyFields s u [R.PWR_AO_MA_MA]) ∧
  (∀ (s : State) (ma : BitVec 16), limit s < ma.toNat → s.pwrState = 3 → s.fld R.PWR_STATUS_REG_LP ≠ 0 →
    Does (.aoOverload ma) s fun u => u.fld R.PWR_AO_MA_MA = ma.toNat ∧ u.fld R.PWR_STATUS_REG_LP = 0 ∧ u.fld R.PWR_EVENTS_REG_OVL = 1 ∧
      OnlyFields s u [R.PWR_AO_MA_MA, R.PWR_STATUS_REG_LP, R.PWR_EVENTS_REG_OVL]) ∧
  (∀ (s : State) (ma : BitVec 16), limit s < ma.toNat → (s.pwrState = 3 → s.fld R.PWR_STATUS_REG_LP = 0) →
    Does (.aoOverload ma) s fun u => u.fld R.PWR_AO_MA_MA = ma.toNat ∧ u.fld R.PWR_STATUS_RETAIN_LOST = 1 ∧
      u.fld R.PWR_EVENTS_BROWNOUT = 1 ∧ RegionLost u 29 ∧ (∀ b : Fin 29, s.fld (R.BNK_STATUS_PWR_NOW b) = 1 → RegionLost u b) ∧
      (3 ≤ s.pwrState → u.pwr.cold = true ∧ u.pwr.retained = 0) ∧
      (s.pwrState < 3 → u.fld (R.FLT_SRC_LAST_CLASS 0x01C) = 2 ∧ u.fld (R.FLT_SRC_LAST_CAUSE 0x01C) = 0x1C) ∧
      MemKeptBut s u ((aoBase, 0x4000) :: ((List.range 29).filter (fun b => s.fld (R.BNK_STATUS_PWR_NOW b) == 1)).map
        (fun b => (bankBase b, bankSize b)))) ∧
  (∀ s : State, s.powered = true → ¬ entering s → s.stores.otp = none → s.fld R.NV_STATUS_SCAN_BUSY = 0 → s.domSrc 0 = 0 →
    ∀ p ∈ [(Instr.pwrEnterIdle, 1), (.pwrEnterSleep, 2), (.pwrEnterDeepSleep, 3), (.pwrEnterOff, 4)], s.pwrState < p.2 →
    Does p.1 s fun u => u.fld R.PWR_RESULT_RESULT = 1 ∧ u.fld R.PWR_STATUS_ENTERING = 1 ∧ u.pwr.dst = p.2 ∧ MemKept s u) ∧
  (∀ s : State, s.powered = true → s.pwr.resetLow = false → ¬ entering s → s.pwrState ≠ 0 →
    Does .pwrWakeHost s fun u => u.fld R.PWR_STATUS_STATE = 0 ∧ u.fld R.PWR_LAST_WAKE_SRC = 4 ∧ u.fld R.PWR_EVENTS_WAKE = 1 ∧ MemKept s u) ∧
  (∀ s : State, s.powered = true → entering s → (∀ n : Fin 8, s.flights n = [] ∧ s.lane n = []) →
    s.pwr.latched = [] → Does .pwrEntryDrained s fun u => u.pwr.drained = true ∧ MemKept s u ∧
      (s.pwr.dst = 1 → u.fld R.PWR_STATUS_STATE = 1 ∧ u.fld R.PWR_STATUS_ENTERING = 0)) ∧
  (∀ (s : State) (cal : BitVec 64) (res vin : Nat), s.powered = true → entering s → s.pwr.dst = 2 → s.domSrc 0 = 0 →
    s.pwr.drained = true → s.pwr.latched = [] →
    Does (.pwrEntrySave cal res vin) s fun u => u.fld R.PWR_STATUS_STATE = 2 ∧ u.fld R.PWR_STATUS_ENTERING = 0 ∧ MemKept s u)

/-- R440, R441, R443 to R447, R449, R451, R454. A GRAVE of the engine scheduler, 0x01D, fences every engine, and roles left without a
holder are then reported by the same source, so its last class and cause are those of the last such report. -/
def Obligations.FaultReports : Prop :=
  let fld (s : State) (f : Fld) : Nat := s.fld f
  let ok (s : State) (src : Fin 512) : Prop := s.awakes = true ∧ s.pwr.wakeDue = false ∧ validSource src = true
  let plain (s : State) (src : Fin 512) (cls : Fin 4) (cause : BitVec 8) : Prop :=
    counted src cls cause.toNat = false ∨ fld s (R.FLT_SRC_CFG_N src) = 0 ∨ fld s (R.FLT_SRC_CFG_WIN src) = 0 ∨
    fld s (R.FLT_SRC_WCOUNT src) + 1 < fld s (R.FLT_SRC_CFG_N src)
  let severe (src : Fin 512) : Nat := if src.val ≠ 3 ∧ (src.val < 16 ∨ src.val = 0x19 ∨ src.val = 0x1D) then 3 else 2
  let shown (u : State) (src : Fin 512) (cls cause : Nat) : Prop := u.fld (R.FLT_SRC_LAST_CLASS src) = cls ∧ u.fld (R.FLT_SRC_LAST_CAUSE src) = cause
  let time (u : State) (f0 f1 f2 : Fld) (now : Nat) : Prop :=
    u.fld f0 + 2 ^ 32 * u.fld f1 + 2 ^ 64 * u.fld f2 = encodeHub now
  let first (u : State) (src : Fin 512) (cls cause now : Nat) : Prop := u.fld R.FLT_FIRST_0_VALID = 1 ∧ u.fld R.FLT_FIRST_0_SRC = src.val ∧
    u.fld R.FLT_FIRST_0_CLASS = cls ∧ u.fld R.FLT_FIRST_0_CAUSE = cause ∧ time u R.FLT_FIRST_1_TIME R.FLT_FIRST_2_TIME R.FLT_FIRST_3_TIME now
  let logged (u : State) (n : Nat) (src : Fin 512) (cls cause now : Nat) : Prop := u.fld (R.FLT_LOG_0_VALID n) = 1 ∧
    u.fld (R.FLT_LOG_0_SRC n) = src.val ∧ u.fld (R.FLT_LOG_0_CLASS n) = cls ∧ u.fld (R.FLT_LOG_0_CAUSE n) = cause ∧
    time u (R.FLT_LOG_1_TIME n) (R.FLT_LOG_2_TIME n) (R.FLT_LOG_3_TIME n) now ∧ n < u.fld R.FLT_LOG_STATUS_COUNT
  let idle (s : State) : Prop := ∀ f ∈ [R.FLT_EVENTS_NEW_MINOR, R.FLT_EVENTS_NEW_MAJOR, R.FLT_EVENTS_NEW_GRAVE, R.FLT_EVENTS_BROKEN_WIRE], s.fld f = 0
  let vector (s u : State) : Prop := idle s → let v := s.fld R.FLT_CFG_VECTOR
    (u.fld (if v < 32 then R.HOST_INT_PEND_LO_PEND else R.HOST_INT_PEND_HI_PEND)).testBit (v % 32) = true
  let harmless (src : Fin 512) : Prop := src.val = 0x000 ∨ src.val = 0x003 ∨ src.val = 0x01C ∨ src.val = 0x01E
  let alone (src : Fin 512) (cls : Fin 4) : Prop := src.val = 0x1D ∧ cls = 3
  (∀ (s : State) (src : Fin 512) (cause : BitVec 8), ok s src →
    Does (.faultReport src 0 cause) s fun u =>
      u.fld (R.FLT_SRC_NOTES src) = min (2 ^ (R.FLT_SRC_NOTES src).width - 1) (s.fld (R.FLT_SRC_NOTES src) + 1) ∧
      OnlyFields s u [R.FLT_SRC_NOTES src]) ∧
  (∀ (s : State) (src : Fin 512) (cls : Fin 4) (cause : BitVec 8), ok s src → cls ≠ 0 → plain s src cls cause →
    Does (.faultReport src cls cause) s fun u => (¬ alone src cls → shown u src cls cause.toNat) ∧
      (s.fld R.FLT_FIRST_0_VALID = 0 → first u src cls cause.toNat s.tb.now) ∧
      (s.fld R.FLT_FIRST_0_VALID ≠ 0 → u.fld R.FLT_FIRST_0_SRC = s.fld R.FLT_FIRST_0_SRC ∧ u.fld R.FLT_FIRST_0_CAUSE = s.fld R.FLT_FIRST_0_CAUSE) ∧
      (2 ≤ cls.val → s.fld R.FLT_LOG_STATUS_COUNT < 16 → logged u (s.fld R.FLT_LOG_STATUS_COUNT) src cls cause.toNat s.tb.now) ∧
      (2 ≤ cls.val → 16 ≤ s.fld R.FLT_LOG_STATUS_COUNT → u.fld R.FLT_EVENTS_LOG_OVF_SET = 1) ∧
      (cls = 2 → u.fld R.FLT_EVENTS_NEW_MAJOR = 1) ∧ (cls = 3 → u.fld R.FLT_EVENTS_NEW_GRAVE = 1) ∧
      (cls = 1 → s.fld (R.FLT_SRC_CFG_INT_HOST src) ≠ 0 → u.fld R.FLT_EVENTS_NEW_MINOR = 1 ∧ vector s u) ∧ (2 ≤ cls.val → vector s u)) ∧
  (∀ (s : State) (src : Fin 512) (cls : Fin 4) (cause : BitVec 8) (h : Fin 8), ok s src → cls ≠ 0 → plain s src cls cause →
    s.fld (R.FLT_SRC_CFG_ROLE src) ≠ 0x3F → s.holder (s.fld (R.FLT_SRC_CFG_ROLE src)) = some h.val →
    Does (.faultReport src cls cause) s fun u => (u.fld (R.ENG_THR_STATE_W1_PENDING h 0)).testBit 20 = true) ∧
  (∀ (s : State) (src : Fin 512) (cls : Fin 4) (cause : BitVec 8), ok s src → 2 ≤ cls.val → ¬ harmless src →
    Does (.faultReport src cls cause) s fun u => u.fenced src = true ∧ u.fld R.FLT_STATUS_FAULT_L = 1) ∧
  (∀ (s : State) (src : Fin 512) (cause : BitVec 8), ok s src → src.val < 16 →
    Does (.faultReport src 3 cause) s fun u => u.fenced src = true ∧ u.tiFenced = true ∧ u.fld (R.FLT_SRC_LATCHED src) = 1) ∧
  (∀ (s : State) (src : Fin 512) (cls : Fin 4) (cause : BitVec 8), ok s src → counted src cls cause.toNat = true → plain s src cls cause →
    Does (.faultReport src cls cause) s fun u => u.fld (R.FLT_SRC_WCOUNT src) =
      min (2 ^ (R.FLT_SRC_WCOUNT src).width - 1) (s.fld (R.FLT_SRC_WCOUNT src) + 1)) ∧
  (∀ (s : State) (src : Fin 512) (cls : Fin 4) (cause : BitVec 8), ok s src → counted src cls cause.toNat = true → ¬ plain s src cls cause →
    Does (.faultReport src cls cause) s fun u => u.fld R.FLT_EVENTS_PROMOTED = 1 ∧ u.fld (R.FLT_SRC_WCOUNT src) = 0 ∧
      (src.val ≠ 0x1D → shown u src (severe src) 2)) ∧
  (∀ (s : State) (src : Fin 512) (cls rail : Fin 4) (cause : BitVec 8), s.awakes = true → validSource src = false →
    ∀ c ∈ [Instr.faultReport src cls cause, .brokenWire src rail], Ignores c s) ∧
  (∀ (s : State) (src : Fin 512) (rail : Fin 4), ok s src → (rail = 1 ∨ rail = 2) →
    Does (.brokenWire src rail) s fun u => u.fld (R.FLT_SRC_RAIL src) = rail.val ∧ OnlyFields s u [R.FLT_SRC_RAIL src]) ∧
  (∀ (s : State) (src : Fin 512) (rail : Fin 4), ok s src → (rail = 0 ∨ rail = 3) →
    Does (.brokenWire src rail) s fun u => u.fld (R.FLT_SRC_RAIL src) = rail.val ∧ u.fld R.FLT_EVENTS_BROKEN_WIRE = 1 ∧ vector s u ∧
      (src.val ≠ 0x1D → shown u src (severe src) 1) ∧ (¬ harmless src → u.fenced src = true)) ∧
  (∀ (s : State) (src : Fin 512), s.awakes = true →
    Does (.promoWindowExpire src) s fun u => u.fld (R.FLT_SRC_WCOUNT src) = 0 ∧ OnlyFields s u [R.FLT_SRC_WCOUNT src]) ∧
  (∀ (s : State) (src : Fin 512) (cls : Fin 4) (broken : Bool), s.awakes = true → s.fld R.SYS_MODE_MODE ≠ 5 →
    Does (.fltInject src cls broken) s fun u => u.fld R.FLT_EVENTS_INJ_REJ = 1 ∧ OnlyFields s u [R.FLT_EVENTS_INJ_REJ]) ∧
  (∀ (s : State) (src : Fin 512) (cls : Fin 4), s.fld R.SYS_MODE_MODE = 5 →
    exec (.fltInject src cls false) s = exec (.faultReport src cls 0x20) s) ∧
  (∀ (s : State) (src : Fin 512) (cls : Fin 4), ok s src → s.fld R.SYS_MODE_MODE = 5 →
    Does (.fltInject src cls true) s fun u => u.fld R.FLT_EVENTS_BROKEN_WIRE = 1 ∧ (src.val ≠ 0x1D → shown u src (severe src) 1))

/-- R445, R446, R448, R450, R455. -/
def Obligations.FaultClearing : Prop :=
  let answers (s u : State) (code : Nat) : Prop := u.fld R.FLT_CLEAR_RESULT_RESULT = code ∧
    u.fld R.FLT_CLEAR_RESULT_SEQ = (s.fld R.FLT_CLEAR_RESULT_SEQ + 1) % 2 ^ R.FLT_CLEAR_RESULT_SEQ.width
  let refused (s u : State) (code : Nat) : Prop := answers s u code ∧ OnlyFields s u [R.FLT_CLEAR_RESULT_RESULT, R.FLT_CLEAR_RESULT_SEQ]
  let group (s : State) (src : Fin 512) : Prop := src.val < 16 ∧ s.tiFenced = true
  let unit_ (src : Fin 512) : Prop := 0x020 ≤ src.val ∧ src.val ≤ 0x077
  let ok (s : State) (src : Fin 512) : Prop := s.awakes = true ∧ validSource src = true ∧ ¬ group s src
  let cleared (s : State) (src : Fin 512) : Prop := ok s src ∧ ¬ unit_ src ∧ s.fenced src = true ∧ s.fld (R.FLT_SRC_RAIL src) = 1
  let entry (n : Nat) : List Fld := [R.FLT_LOG_0_SRC n, R.FLT_LOG_0_CLASS n, R.FLT_LOG_0_CAUSE n, R.FLT_LOG_0_VALID n, R.FLT_LOG_1_TIME n,
    R.FLT_LOG_2_TIME n, R.FLT_LOG_3_TIME n]
  (∀ (s : State) (src : Fin 512), s.awakes = true → validSource src = false → Does (.fltClear src) s fun u => refused s u 5) ∧
  (∀ (s : State) (src : Fin 512), s.awakes = true → validSource src = true → group s src → Does (.fltClear src) s fun u => refused s u 4) ∧
  (∀ (s : State) (src : Fin 512), ok s src → unit_ src → Does (.fltClear src) s fun u => refused s u 3) ∧
  (∀ (s : State) (src : Fin 512), ok s src → ¬ unit_ src → s.fenced src = false → Does (.fltClear src) s fun u => refused s u 6) ∧
  (∀ (s : State) (src : Fin 512), ok s src → ¬ unit_ src → s.fenced src = true → s.fld (R.FLT_SRC_RAIL src) ≠ 1 →
    Does (.fltClear src) s fun u => refused s u 2) ∧
  (∀ (s : State) (src : Fin 512), cleared s src →
    Does (.fltClear src) s fun u => answers s u 1 ∧ u.fenced src = false ∧ u.fld R.FLT_STATUS_FENCED_N = s.fld R.FLT_STATUS_FENCED_N - 1 ∧
      u.fld R.FLT_STATUS_ANY_FENCE = (if s.fld R.FLT_STATUS_FENCED_N ≤ 1 then 0 else 1) ∧ MemKept s u ∧
      (src.val = 0x019 → u.bank.groupFence = false ∧ ∀ b : Fin 29, u.fld (R.BNK_STATUS_FENCED b) = s.fld (R.FLT_SRC_FENCED (0x080 + b))) ∧
      (src.val = 0x01D → u.eng.groupFence = false)) ∧
  (∀ (s : State) (src other : Fin 512), cleared s src → other ≠ src → Does (.fltClear src) s fun u => u.fenced other = s.fenced other) ∧
  (∀ (s : State) (n : Fin 32), s.awakes = true → n.val ≠ 0 → s.fld R.FLT_LOG_STATUS_COUNT ≠ 0 →
    Does (.fltLogAck n) s fun u =>
      let k := min n.val (s.fld R.FLT_LOG_STATUS_COUNT)
      u.fld R.FLT_LOG_STATUS_COUNT = s.fld R.FLT_LOG_STATUS_COUNT - k ∧
      (∀ j ∈ List.range 16, (entry j).map u.fld = if j + k < 16 then (entry (j + k)).map s.fld else (entry j).map (fun _ => 0)) ∧
      OnlyFields s u (R.FLT_LOG_STATUS_COUNT :: (List.range 16).flatMap entry)) ∧
  (∀ (s : State) (n : Fin 32), s.awakes = true → (n.val = 0 ∨ s.fld R.FLT_LOG_STATUS_COUNT = 0) → Ignores (.fltLogAck n) s) ∧
  (∀ s : State, s.awakes = true → Does .fltFirstAck s fun u => u.fld R.FLT_FIRST_0_VALID = 0 ∧ OnlyFields s u [R.FLT_FIRST_0_VALID])

/-- R461, R463, R473 to R479, 12 R344, R350. Requester 0 is a host path, 1 + n engine n. -/
def Obligations.ResultSlotsAndPcie : Prop :=
  let may (s : State) (b : Fin 9) (k : Fin 32) : Prop := b ≠ 0 ∧ s.fld (R.HOST_SLOT_CFG_ROLE k) ≠ 0x3F ∧
    s.holder (s.fld (R.HOST_SLOT_CFG_ROLE k)) = some (b.val - 1)
  let ok (s : State) (b : Fin 9) (k : Fin 32) : Prop := s.awakes = true ∧ may s b k ∧ s.fld (R.HOST_SLOT_CTL_PENDING k) = 0
  let refused (s u : State) (f : Fld) : Prop := u.fld f = 1 ∧ OnlyFields s u [f]
  let sent (s : State) (v : Nat) : Nat := Tab.get (fun _ => 0) s.host.sent v
  let waits (s : State) (v : Nat) : Bool := Tab.get (fun _ => false) s.host.vecPend v
  let open_ (s : State) (v : Nat) : Bool := Tab.get (fun _ => false) s.host.unmasked v
  let on (s : State) : Prop := s.host.msixOn = true ∧ s.fld R.HOST_STATUS_PCIE_UP ≠ 0
  let raised (s u : State) (v : Nat) : Prop :=
    (u.fld (if v < 32 then R.HOST_INT_PEND_LO_PEND else R.HOST_INT_PEND_HI_PEND)).testBit (v % 32) = true ∧
    (on s → open_ s v = true → sent u v = sent s v + 1) ∧ (on s → open_ s v = false → waits u v = true ∧ sent u v = sent s v) ∧
    (¬ on s → u.host = s.host)
  let published (s u : State) (k : Fin 32) (l : List Fld) : Prop :=
    (∀ w : Fin 8, u.fld (R.HOST_SLOT_DATA_DATA k w) = s.fld (slotStage k w)) ∧
    u.fld (R.HOST_SLOT_CTL_SEQ k) = (s.fld (R.HOST_SLOT_CTL_SEQ k) + 1) % 2 ^ (R.HOST_SLOT_CTL_SEQ k).width ∧
    u.fld (R.HOST_SLOT_CTL_READY k) = 1 ∧ raised s u (s.fld (R.HOST_SLOT_CFG_VECTOR k)) ∧ MemKept s u ∧
    FieldsKept s u (l ++ [R.HOST_SLOT_CTL_SEQ k, R.HOST_SLOT_CTL_READY k, R.HOST_INT_PEND_LO_PEND, R.HOST_INT_PEND_HI_PEND] ++
      (List.range 8).map (fun w => R.HOST_SLOT_DATA_DATA k w))
  let calm (s : State) (b : Nat) : Prop := s.pathServes 0 = true ∧ s.pwr.phase = 0 ∧ s.pwr.wakeDue = false ∧ s.pathWr 0 = true ∧
    8 ≤ b ∧ b ≤ 27 ∧ s.bank.ecc = []
  let within (a : BitVec 27) (n b : Nat) : Prop := bankBase b ≤ a.toNat ∧ a.toNat + n ≤ bankBase b + bankSize b
  let down (s u : State) : Prop := u.fld R.HOST_STATUS_PCIE_UP = 0 ∧ u.fld R.HOST_STATUS_PCIE_SPEED = 0 ∧
    u.fld R.HOST_STATUS_PCIE_WIDTH = 0 ∧
    FieldsKept s u [R.HOST_STATUS_PCIE_UP, R.HOST_STATUS_PCIE_SPEED, R.HOST_STATUS_PCIE_WIDTH] ∧ MemKept s u
  (∀ (s : State) (b : Fin 9) (k : Fin 32) (w : Fin 8) (v : BitVec 32), s.awakes = true →
    (¬ may s b k ∨ s.fld (R.HOST_SLOT_CTL_PENDING k) ≠ 0) →
    ∀ c ∈ [Instr.slotPost b k, .slotStageWrite b k w v], Does c s fun u => refused s u R.HOST_EVENTS_SLOT_REJ) ∧
  (∀ (s : State) (b : Fin 9) (k : Fin 32) (w : Fin 8) (v : BitVec 32), ok s b k →
    Does (.slotStageWrite b k w v) s fun u => u.fld (slotStage k w) = v.toNat ∧ OnlyFields s u [slotStage k w]) ∧
  (∀ (s : State) (b : Fin 9) (k : Fin 32), ok s b k → s.fld (R.HOST_SLOT_CTL_READY k) = 0 →
    Does (.slotPost b k) s fun u => published s u k []) ∧
  (∀ (s : State) (b : Fin 9) (k : Fin 32), ok s b k → s.fld (R.HOST_SLOT_CTL_READY k) ≠ 0 → s.fld (R.HOST_SLOT_CFG_MODE k) ≠ 0 →
    Does (.slotPost b k) s fun u => u.fld (R.HOST_SLOT_CTL_OVERRUN k) = 1 ∧ published s u k [R.HOST_SLOT_CTL_OVERRUN k]) ∧
  (∀ (s : State) (b : Fin 9) (k : Fin 32), ok s b k → s.fld (R.HOST_SLOT_CTL_READY k) ≠ 0 → s.fld (R.HOST_SLOT_CFG_MODE k) = 0 →
    Does (.slotPost b k) s fun u => refused s u (R.HOST_SLOT_CTL_PENDING k)) ∧
  (∀ (s : State) (k : Fin 32) (v : BitVec 16), s.awakes = true →
    (s.fld (R.HOST_SLOT_CTL_READY k) = 0 ∨ v.toNat ≠ s.fld (R.HOST_SLOT_CTL_SEQ k)) →
    Does (.slotAck k v) s fun u => refused s u R.HOST_EVENTS_ACK_REJ) ∧
  (∀ (s : State) (k : Fin 32) (v : BitVec 16), s.awakes = true → s.fld (R.HOST_SLOT_CTL_READY k) ≠ 0 →
    v.toNat = s.fld (R.HOST_SLOT_CTL_SEQ k) → s.fld (R.HOST_SLOT_CTL_PENDING k) = 0 →
    Does (.slotAck k v) s fun u => u.fld (R.HOST_SLOT_CTL_READY k) = 0 ∧ OnlyFields s u [R.HOST_SLOT_CTL_READY k]) ∧
  (∀ (s : State) (k : Fin 32) (v : BitVec 16), s.awakes = true → s.fld (R.HOST_SLOT_CTL_READY k) ≠ 0 →
    v.toNat = s.fld (R.HOST_SLOT_CTL_SEQ k) → s.fld (R.HOST_SLOT_CTL_PENDING k) ≠ 0 →
    Does (.slotAck k v) s fun u => u.fld (R.HOST_SLOT_CTL_PENDING k) = 0 ∧ published s u k [R.HOST_SLOT_CTL_PENDING k]) ∧
  (∀ (s : State) (v : Fin 64) (mask : Bool),
    Does (.msixUnmask v mask) s fun u => open_ u v = !mask ∧ u.regs = s.regs ∧
      (mask = false → on s → waits s v = true → waits u v = false ∧ sent u v = sent s v + 1) ∧
      (mask = true ∨ ¬ on s ∨ waits s v = false → waits u v = waits s v ∧ sent u v = sent s v) ∧
      (∀ x : Fin 64, x ≠ v → open_ u x = open_ s x ∧ waits u x = waits s x ∧ sent u x = sent s x) ∧ MemKept s u) ∧
  (∀ (s : State) (g : Fin 4) (w : Fin 3) (m : Bool), s.fld R.HOST_CFG_PCIE_EN ≠ 0 →
    Does (.pcieLinkState true g w m) s fun u => u.fld R.HOST_STATUS_PCIE_UP = 1 ∧ u.fld R.HOST_STATUS_PCIE_SPEED = g.val + 1 ∧
      u.fld R.HOST_STATUS_PCIE_WIDTH = 2 ^ w.val ∧ u.host = { s.host with msixOn := m } ∧
      FieldsKept s u [R.HOST_STATUS_PCIE_UP, R.HOST_STATUS_PCIE_SPEED, R.HOST_STATUS_PCIE_WIDTH] ∧ MemKept s u) ∧
  (∀ (s : State) (g : Fin 4) (w : Fin 3) (m : Bool), s.fld R.HOST_CFG_PCIE_EN = 0 → Ignores (.pcieLinkState true g w m) s) ∧
  (∀ (s : State) (g : Fin 4) (w : Fin 3) (m : Bool), Does (.pcieLinkState false g w m) s fun u => down s u ∧ u.host = s.host) ∧
  (∀ s : State, Does .pciePerst s fun u => down s u ∧ u.host = { s.host with msixOn := false, unmasked := [], vecPend := [] }) ∧
  (∀ (s : State) (a : BitVec 27) (d : List (Option (BitVec 8))) (b : Nat), calm s b → within a d.length b → s.bankOpen b = true →
    Does (.hostBankWrite a d false) s fun u => u.regs = s.regs ∧ MemKeptOutside s u a.toNat d.length ∧
      (∀ i ∈ List.range d.length, u.byte (a.toNat + i) = (d.getD i none).getD (s.byte (a.toNat + i)))) ∧
  (∀ (s : State) (a : BitVec 27) (d : List (Option (BitVec 8))) (b : Nat), calm s b → within a d.length b → s.bankOpen b = false →
    d.any (fun x => x.isSome) = true →
    Does (.hostBankWrite a d false) s fun u => u.fld R.HOST_STATUS_DOMAIN_OFF = 1 ∧ u.fld R.HOST_STATUS_LAST_PATH = 0 ∧ MemKept s u) ∧
  (∀ (s : State) (a : BitVec 27) (d : List (Option (BitVec 8))) (same : Bool), s.pathServes 0 = false →
    Ignores (.hostBankWrite a d same) s)

/-- R464 to R469, R49. Paths: 1 SPI, 2 I2C. FAIL_IDX of a FORMAT frame is 0xFF (no word failed). -/
def Obligations.SerialFrames : Prop :=
  let serves (s : State) (d : BitVec 7) (p : Nat) : Prop := if p = 1 then s.spiNative = true else s.i2cServes d = true
  let reads (d : BitVec 7) (a : BitVec 32) (n : Fin 256) : List (Instr × Nat) := [(.spiRead 3 a n, 1), (.i2cReadFrame d a n, 2)]
  let writes (d : BitVec 7) (a : BitVec 32) (n : Fin 256) (w : List (BitVec 32)) : List (Instr × Nat) :=
    [(.spiWrite a n w, 1), (.i2cWriteFrame d 2 a n w, 2)]
  let calm (s : State) (d : BitVec 7) (p : Nat) : Prop := serves s d p ∧ s.pwr.phase = 0 ∧ s.pwr.wakeDue = false ∧ s.pathWaits p = false
  let bad (a : BitVec 32) (n : Fin 256) : Prop := n = 0 ∨ a.toNat % 4 ≠ 0
  let format (s u : State) (p : Nat) : Prop := u.fld R.HOST_STATUS_FMT = 1 ∧ u.fld R.HOST_STATUS_LAST_PATH = p ∧
    (u.frame p).map Frame.fail = some (some (0xFF, 3)) ∧ (u.frame p).map Frame.left = some 0 ∧
    (u.frame p).map Frame.no = some (s.nextFrame p) ∧
    FieldsKept s u [R.HOST_STATUS_FMT, R.HOST_STATUS_LAST_PATH] ∧ u.lane 8 = s.lane 8 ∧ MemKept s u
  let inBank (a : BitVec 32) (n b : Nat) : Prop := 8 ≤ b ∧ b ≤ 27 ∧ bankBase b ≤ a.toNat ∧ a.toNat + 4 * n ≤ bankBase b + bankSize b
  let result (u : State) (p : Nat) (l : List Nat) : Prop := (u.frame p).map Frame.data = some l ∧
    (u.frame p).map Frame.fail = some none ∧ (u.frame p).map Frame.left = some 0
  let word (s : State) (a : BitVec 32) (i : Nat) : Nat := s.bytes (a.toNat + 4 * i) 4
  let mail (a : BitVec 32) (n : Nat) : Prop := ∀ i ∈ List.range n, isMailbox (a.toNat + 4 * i) = true
  let shown (s u : State) (p : Nat) : Prop := ∀ f ∈ (s.frame p).toList,
    Tab.get (fun _ => 0) u.host.rdata p = (f.fail.getD (0xFF, 0)).2 + 256 * (f.fail.getD (0xFF, 0)).1
  let done (s : State) (p : Nat) : Prop := ∀ f ∈ (s.frame p).toList, f.left = 0
  let compat (s : State) : Prop := s.spiCompat = true ∧ s.pwr.phase = 0 ∧ s.pwr.wakeDue = false ∧ s.pathWaits 1 = false
  (∀ (s : State) (op : BitVec 8) (a : BitVec 32) (n : Fin 256) (w : List (BitVec 32)), s.spiNative = false →
    ∀ c ∈ [Instr.spiRead op a n, .spiWrite a n w, .spiStatus, .spiCsRise], Ignores c s) ∧
  (∀ (s : State) (d : BitVec 7) (op : BitVec 8) (a : BitVec 32) (n : Fin 256) (w : List (BitVec 32)),
    (s.i2cServes d = false ↔ (s.pathServes 2 = false ∨ d.toNat ≠ 0x58 + s.host.i2cPins)) ∧
    (s.i2cServes d = false → ∀ c ∈ [Instr.i2cWriteFrame d op a n w, .i2cReadFrame d a n, .i2cStatusRead d], Ignores c s) ∧
    (s.pathServes 2 = false → Ignores .i2cStop s)) ∧
  (∀ (s : State) (i : BitVec 15) (n : Nat) (l : List Nat) (w : List (BitVec 16)) (r : Bool), s.spiCompat = false →
    ∀ c ∈ [Instr.spiCompatRead i n l, .spiCompatWrite i w r], Ignores c s) ∧
  (∀ (s : State) (d : BitVec 7) (a : BitVec 32) (n : Fin 256) (w : List (BitVec 32)), bad a n → ∀ x ∈ reads d a n ++ writes d a n w, serves s d x.2 →
    Does x.1 s fun u => format s u x.2) ∧
  (∀ (s : State) (op : BitVec 8) (a : BitVec 32) (n : Fin 256), s.spiNative = true → op ∉ [2, 3, 5] → Does (.spiRead op a n) s fun u => format s u 1) ∧
  (∀ (s : State) (d : BitVec 7) (op : BitVec 8) (a : BitVec 32) (n : Fin 256) (w : List (BitVec 32)), s.i2cServes d = true → op ∉ [2, 3, 5] →
    Does (.i2cWriteFrame d op a n w) s fun u => format s u 2) ∧
  (∀ (s : State) (d : BitVec 7) (op : BitVec 8) (a : BitVec 32) (n : Fin 256) (w : List (BitVec 32)), op ∈ [3, 5] →
    Ignores (.i2cWriteFrame d op a n w) s) ∧
  (∀ (s : State) (d : BitVec 7) (a : BitVec 32) (n : Fin 256) (b : Nat), ¬ bad a n → inBank a n b → s.bankOpen b = true → s.bank.ecc = [] →
    ∀ x ∈ reads d a n, calm s d x.2 →
    Does x.1 s fun u => result u x.2 ((List.range n).map (word s a)) ∧ u.regs = s.regs ∧ MemKept s u) ∧
  (∀ (s : State) (d : BitVec 7) (a : BitVec 32) (n : Fin 256) (w : List (BitVec 32)) (b : Nat), ¬ bad a n → inBank a n b → s.bankOpen b = true →
    s.bank.ecc = [] → ∀ x ∈ writes d a n w, calm s d x.2 → s.pathWr x.2 = true →
    Does x.1 s fun u => result u x.2 [] ∧ (w.take n).map BitVec.toNat = (List.range (min n.val w.length)).map (word u a) ∧
      u.regs = s.regs ∧ MemKeptOutside s u a.toNat (4 * min n.val w.length)) ∧
  (∀ (s : State) (d : BitVec 7) (a : BitVec 32) (n : Fin 256), ¬ bad a n → mail a n → ∀ x ∈ reads d a n, calm s d x.2 →
    Does x.1 s fun u => u.lane 8 = s.lane 8 ++ (List.range n).map (fun i => .read x.2 (a.toNat + 4 * i) (256 * s.nextFrame x.2 + i)) ∧
      (u.frame x.2).map Frame.left = some n.val ∧ FieldsKept s u [R.HOST_MB_WAIT_WAITS] ∧ MemKept s u) ∧
  (∀ (s : State) (d : BitVec 7) (a : BitVec 32) (n : Fin 256) (w : List (BitVec 32)), ¬ bad a n → mail a n → ∀ x ∈ writes d a n w, calm s d x.2 →
    s.pathWr x.2 = true →
    Does x.1 s fun u => u.lane 8 = s.lane 8 ++ (w.take n).zipIdx.map (fun y =>
        .write x.2 (a.toNat + 4 * y.2) (256 * s.nextFrame x.2 + y.2) y.1) ∧
      (u.frame x.2).map Frame.left = some (min n.val w.length) ∧ FieldsKept s u [R.HOST_MB_WAIT_WAITS] ∧ MemKept s u) ∧
  (∀ (s : State) (d : BitVec 7), (s.spiNative = true → Does .spiStatus s fun u => shown s u 1 ∧ u.regs = s.regs ∧ MemKept s u) ∧
    (s.i2cServes d = true → done s 2 → Does (.i2cStatusRead d) s fun u => shown s u 2 ∧ u.regs = s.regs ∧ MemKept s u)) ∧
  (∀ (s : State) (d : BitVec 7), ¬ done s 2 → Ignores (.i2cStatusRead d) s) ∧
  (∀ s : State, ∀ x ∈ [(Instr.spiCsRise, 1), (.i2cStop, 2)], (if x.2 = 1 then s.spiNative else s.pathServes 2) = true → ∀ f ∈ (s.frame x.2).toList, f.write = false →
    Does x.1 s fun u => (u.frame x.2).map Frame.left = some 0 ∧
      u.lane 8 = (s.lane 8).filter (fun o => match o with | .read p _ i => !(p == x.2 && i / 256 == f.no) | _ => true) ∧
      u.regs = s.regs ∧ MemKept s u) ∧
  (∀ s : State, ∀ x ∈ [(Instr.spiCsRise, 1), (.i2cStop, 2)], (∀ f ∈ (s.frame x.2).toList, f.write = true) → Ignores x.1 s) ∧
  (∀ (s : State) (i : BitVec 15) (n : Nat) (l : List Nat), s.spiCompat = true → s.pwr.wakeDue = false → n ≠ 0 →
    (∀ k ∈ List.range n, compatReg ((i.toNat + k) % 2 ^ 15) = none) →
    Does (.spiCompatRead i n l) s fun u => u.host.compat = List.replicate n 0 ∧ u.host.compatStatus = 6 ∧
      OnlyFields { s with host := u.host } u [R.HOST_STATUS_LAST_PATH]) ∧
  (∀ (s : State) (i : BitVec 15) (l : List Nat), s.spiCompat = true → s.pwr.wakeDue = false → (compatReg i.toNat).isSome = true → 0 ∈ l →
    Does (.spiCompatRead i 1 l) s fun u => u.host.compat = [0] ∧ u.host.compatStatus = 8 ∧
      OnlyFields { s with host := u.host } u [R.HOST_STATUS_LAST_PATH]) ∧
  (∀ s : State, compat s → Does (.spiCompatRead 0x10 6 []) s fun u =>
    u.host.compat.foldr (fun v x => v + 2 ^ 16 * x) 0 = encodeHub s.tb.now % 2 ^ 96 ∧ u.host.compatStatus = 0 ∧ MemKept s u) ∧
  (∀ (s : State) (v : BitVec 16), compat s → s.pathWr 1 = true →
    Does (.spiCompatWrite 0x201 [v] false) s fun u => u.fld R.FLT_CLEAR_RESULT_RESULT = s.clearCode (v.toNat % 512) ∧
      u.host.compatStatus = 0) ∧
  (∀ (s : State) (i : BitVec 15) (w : List (BitVec 16)), s.spiCompat = true →
    Does (.spiCompatWrite i w true) s fun u => u.host.compatStatus = 3 ∧ u.fld R.HOST_STATUS_FMT = 1 ∧
      OnlyFields { s with host := u.host } u [R.HOST_STATUS_FMT, R.HOST_STATUS_LAST_PATH]) ∧
  (∀ (s : State) (i : BitVec 15) (v : BitVec 16), s.spiCompat = true → compatReg i.toNat = none →
    Does (.spiCompatWrite i [v] false) s fun u => u.host.compatStatus = 6 ∧
      OnlyFields { s with host := u.host } u [R.HOST_STATUS_LAST_PATH]) ∧
  (∀ (s : State) (k : Fin 24) (v : BitVec 16), compat s → s.pathWr 1 = true →
    Does (.spiCompatWrite (BitVec.ofNat 15 (0x100 + k)) [v] false) s fun u =>
      u.lane 8 = s.lane 8 ++ [.write 1 (0x05050100 + 0x20 * k) 0 (BitVec.ofNat 32 (v.toNat + s.otherHalf (0x05050100 + 0x20 * k) 0))] ∧
      MemKept s u) ∧
  (∀ (s : State) (a : BitVec 32) (n : Fin 256), exec (.spiRead 5 a n) s = exec .spiStatus s ∧ exec (.spiRead 2 a n) s = exec (.spiWrite a n []) s)

/-- R470 to R472, R411, R306, R310, R311, R312. A SEL that R472 does not list reads a value that the spec does not state (log 12). -/
def Obligations.JtagCommands : Prop :=
  let ir (s u : State) (v : Nat) : Prop := u = { s with host := { s.host with jtag := { s.host.jtag with ir := v } } }
  let j (u : State) : Jtag := u.host.jtag
  let calm (s : State) : Prop := s.pwr.resetLow = false ∧ s.pathServes 3 = true ∧ s.pwr.phase = 0 ∧ s.pwr.wakeDue = false ∧ s.pathWaits 3 = false
  let got (u : State) (data status : Nat) : Prop := (j u).ir = 0x20 ∧ (j u).memData = data ∧ (j u).memStatus = status
  let failed (s u : State) (f : Fld) : Prop := u.fld f = 1 ∧ u.fld R.HOST_STATUS_LAST_PATH = 3 ∧
    OnlyFields { s with host := u.host } u [f, R.HOST_STATUS_LAST_PATH]
  let serves (s : State) : Prop := s.dbgServes = true
  let cap (u : State) (data status : Nat) : Prop := (j u).ir = 0x21 ∧ (j u).engData = data ∧ (j u).engStatus = status
  let part (s : State) (e : Fin 8) (t : Fin 4) (sel : Nat) : Option Nat := (s.dbgWord e t sel).map (fun x => x % 2 ^ 32)
  let only (s u : State) : Prop := u = { s with host := u.host }
  let kept (v : BitVec 32) (sel : Nat) : Nat :=
    if sel < 88 then v.toNat else if sel = 88 then v.toNat % 2 ^ 18 / 4 * 4 else if sel = 89 then v.toNat % 2 ^ 16
    else if sel = 90 then v.toNat % 2 ^ 13 + (if v.toNat.testBit 16 = true then 2 ^ 16 else 0) else v.toNat % 2 ^ 18
  let steps (s : State) (e : Fin 8) (t : Fin 4) : Prop := serves s ∧ s.engState e = 0 ∧ s.bankOpen e = true ∧ s.flights e = [] ∧
    (s.thread e t).trapDue = false ∧ (s.thread e t).v1 = false
  let wrote (s u : State) (e : Fin 8) (t : Fin 4) (rd : Fin 32) (x : BitVec 64) : Prop := cap u 0 0 ∧
    (∀ n : Fin 32, (u.thread e t).gpr n = if n = rd ∧ n ≠ 0 then x else (s.thread e t).gpr n) ∧
    u.pc e t = (s.pc e t + 4) % 2 ^ 18 / 4 * 4 ∧ u.engState e = 0 ∧ FieldsKept s u [R.ENG_THR_STATE_W0_PC e t] ∧ MemKept s u
  (∀ s : State, ∀ x ∈ [(Instr.extest, 0x00), (.idcode, 0x01), (.samplePreload, 0x02), (.highz, 0x05), (.clamp, 0x06), (.bypass, 0xFF)],
    Does x.1 s fun u => ir s u x.2) ∧
  (∀ (s : State) (a d : BitVec 32), s.pwr.resetLow = true → a = 0x05000014 → d.toNat % 2 = 1 →
    Does (.dbgMem a d true) s fun u => u.pwr.factory = true ∧ (j u).ir = 0x20 ∧ u.regs = s.regs ∧ MemKept s u) ∧
  (∀ (s : State) (a d : BitVec 32) (w : Bool), s.pwr.resetLow = true → (a ≠ 0x05000014 ∨ d.toNat % 2 = 0 ∨ w = false) →
    Does (.dbgMem a d w) s fun u => ir s u 0x20) ∧
  (∀ (s : State) (a d : BitVec 32) (w : Bool), s.pwr.resetLow = false → s.fld R.HOST_CFG_DBG_EN = 0 →
    Does (.dbgMem a d w) s fun u => got u 0 0 ∧ only s u) ∧
  (∀ (s : State) (a d : BitVec 32) (w : Bool), calm s → a.toNat % 4 ≠ 0 →
    Does (.dbgMem a d w) s fun u => got u 0 3 ∧ failed s u R.HOST_STATUS_FMT) ∧
  (∀ (s : State) (a d : BitVec 32) (w : Bool), calm s → a.toNat % 4 = 0 → mapped a.toNat = false →
    Does (.dbgMem a d w) s fun u => got u 0 4 ∧ failed s u R.HOST_STATUS_UNMAPPED) ∧
  (∀ (s : State) (a d : BitVec 32), calm s → a.toNat % 4 = 0 → s.bank.ecc = [] →
    (bankOf a.toNat).any s.bankOpen = true →
    Does (.dbgMem a d false) s fun u => got u (s.bytes a.toNat 4) 0 ∧ only s u) ∧
  (∀ (s : State) (a d : BitVec 32), calm s → s.pathWr 3 = true → a.toNat % 4 = 0 → s.bank.ecc = [] →
    (bankOf a.toNat).any (fun b => s.bankOpen b && decide (8 ≤ b) && decide (b ≤ 27)) = true →
    Does (.dbgMem a d true) s fun u => got u 0 0 ∧ u.bytes a.toNat 4 = d.toNat ∧ MemKeptOutside s u a.toNat 4 ∧ u.regs = s.regs) ∧
  (∀ (s : State) (a d : BitVec 32) (w : Bool), calm s → s.pathWr 3 = true → a.toNat % 4 = 0 → isMailbox a.toNat = true →
    Does (.dbgMem a d w) s fun u => u.lane 8 = s.lane 8 ++ [if w = true then .write 3 a.toNat 0 d else .read 3 a.toNat 0] ∧
      FieldsKept s u [R.HOST_MB_WAIT_WAITS] ∧ MemKept s u) ∧
  (∀ (s : State) (e : Fin 8) (t : Fin 4) (sel : BitVec 8) (v : BitVec 32), ¬ serves s →
    ∀ c ∈ [Instr.dbgEngRead e t sel, .dbgEngWrite e t sel v, .dbgEngStep e t], Does c s fun u => ir s u 0x21) ∧
  (∀ (s : State) (e : Fin 8) (t : Fin 4) (sel : BitVec 8), serves s → s.engState e ≠ 0 → s.engState e ≠ 3 →
    Does (.dbgEngRead e t sel) s fun u => cap u 0 9 ∧ only s u) ∧
  (∀ (s : State) (e : Fin 8) (t : Fin 4) (sel : BitVec 8), serves s → (s.engState e = 0 ∨ s.engState e = 3) → sel.toNat < 92 →
    Does (.dbgEngRead e t sel) s fun u => cap u ((part s e t sel.toNat).getD 0) 0 ∧ only s u) ∧
  (∀ (s : State) (e : Fin 8) (t : Fin 4) (sel : BitVec 8), serves s → (s.engState e = 0 ∨ s.engState e = 3) → 92 ≤ sel.toNat →
    Does (.dbgEngRead e t sel) s fun u => (j u).engStatus = 0 ∧ u = { s with host := u.host, freeCtr := s.freeCtr + 1 }) ∧
  (∀ (s : State) (e : Fin 8) (t : Fin 4) (sel : BitVec 8) (v : BitVec 32), serves s → s.engState e ≠ 0 →
    ∀ c ∈ [Instr.dbgEngWrite e t sel v, .dbgEngStep e t], Does c s fun u => cap u 0 9 ∧ only s u) ∧
  (∀ (s : State) (e : Fin 8) (t : Fin 4) (sel : BitVec 8) (v : BitVec 32), serves s → s.engState e = 0 → 2 ≤ sel.toNat → sel.toNat < 92 →
    Does (.dbgEngWrite e t sel v) s fun u => cap u 0 0 ∧ part u e t sel.toNat = some (kept v sel.toNat) ∧
      (∀ k ∈ List.range 92, k ≠ sel.toNat → part u e t k = part s e t k) ∧ MemKept s u ∧ FieldsKept s u [R.ENG_THR_STATE_W0_PC e t] ∧
      (∀ (f : Fin 8) (r : Fin 4), (f ≠ e ∨ r ≠ t) → u.thread f r = s.thread f r)) ∧
  (∀ (s : State) (e : Fin 8) (t : Fin 4) (sel : BitVec 8) (v : BitVec 32), serves s → s.engState e = 0 →
    (sel.toNat < 2 ∨ 92 ≤ sel.toNat) →
    Does (.dbgEngWrite e t sel v) s fun u => cap u 0 0 ∧ u.regs = s.regs ∧ MemKept s u ∧
      (∀ k ∈ List.range 92, part u e t k = part s e t k)) ∧
  (∀ (s : State) (e : Fin 8) (t : Fin 4) (rd ra rb : Fin 32), steps s e t →
    s.bytes (bankBase e + s.pc e t) 4 = 2 ^ 21 * rd + 2 ^ 16 * ra + 2 ^ 11 * rb →
    Does (.dbgEngStep e t) s fun u => wrote s u e t rd ((s.thread e t).gpr ra + (s.thread e t).gpr rb)) ∧
  (∀ (s : State) (e : Fin 8) (t : Fin 4) (rd ra : Fin 32) (imm : BitVec 16), steps s e t →
    s.bytes (bankBase e + s.pc e t) 4 = 2 ^ 26 + 2 ^ 21 * rd + 2 ^ 16 * ra + imm.toNat →
    Does (.dbgEngStep e t) s fun u => wrote s u e t rd ((s.thread e t).gpr ra + imm.signExtend 64)) ∧
  (∀ (s : State) (e : Fin 8) (t : Fin 4), serves s → s.engState e = 0 → s.bankOpen e = false →
    Does (.dbgEngStep e t) s fun u => cap u 0 0 ∧ only s u)

/-- The order in which commands from outside reach the part is the queue's (log 1, DESIGN CHOICE). -/
def Obligations.StepRunsTheFront : Prop :=
  (∀ (c : Instr) (rest : List Instr) (s : State), step { s with pending := c :: rest } = exec c { s with pending := rest }) ∧
  (∀ s : State, s.pending = [] → step s = .next s) ∧
  (∀ (c : Instr) (s : State), ∃ t, exec c s = .next t)
/-- The form of log 5 holds after reset. -/
def Obligations.ResetMemoryForm : Prop := State.reset.memOk ∧ State.reset.pending = []
/-- The invariant of memory (log 5), for every command from every state that meets it. -/
def Obligations.MemoryForm : Prop :=
  ∀ s t : State, s.memOk → step s = .next t → t.memOk
/-- R414, R44, R66, R285, R286, R367; State.reset stands after RECALL (log 6, DEDUCED). -/
def Obligations.ResetValues : Prop :=
  let r := State.reset
  r.pwr.phase = 0 ∧ r.tb.now = 0 ∧ r.fld R.SYS_MODE_MODE = 2 ∧ r.fld R.SEAM_STATUS_TS_STATE = 0 ∧ r.fld R.SEAM_CTL_FREE = 0 ∧
  r.fld R.SEAM_STATUS_PREF = 63 ∧ r.fld R.PWR_STATUS_STATE = 0 ∧ r.fld R.TSV_CTL_SRC = 1 ∧
  r.fld R.TB_INC_INT_INT = 104857 ∧ r.fld R.TB_INC_FRAC_NUM = 3 ∧ r.fld R.TB_INC_FRAC_DEN = 5 ∧ r.fld R.TB_DIV_DIV = 20 ∧
  (∀ k : Fin 4, r.fld (R.SYN_PLL_CFG_N k) = 125 ∧ r.fld (R.SYN_PLL_CFG_BOOT k) = if k.val = 0 then 1 else 0) ∧
  (∀ k : Fin 5, r.fld (R.TSV_STAGE_FN k) = [36, 28, 20, 12, 4].getD k 0 ∧
    r.fld (R.TSV_STAGE_ADV_ADV k) = [6553600, 655360, 65536, 13107, 0].getD k 0) ∧
  (∀ k : Fin 24, r.fld (R.OUT_CFG_EN k) = 0) ∧ (∀ k : Fin 8, r.fld (R.PPS_CFG_EN k) = 0) ∧
  (∀ k : Fin 32, r.fld (R.LNK_CFG_EN k) = 0) ∧ 
  (∀ k : Fin 128, r.fld (R.RING_CFG_EN k) = 1 ∧
    (r.fld (R.RING_CFG_ESZ k), r.fld (R.RING_CFG_LOG2N k), r.fld (R.RING_BASE_OFFSET k)) =
      if k.val < 64 then (3, 8, k.val * 0x8000) else if k.val < 104 then (0, 10, (k.val - 64) * 0x4000)
      else if k.val < 120 then (1, 10, (k.val - 104) * 0x8000) else (2, 10, 0x80000 + (k.val - 120) * 0x10000)) ∧
  (∀ k : Fin 8, r.engState k = 1 ∧ r.holder k = some k.val ∧ r.holder (8 + k.val) = some k.val) ∧
  r.holder 16 = some 2 ∧ r.holder 17 = some 3 ∧ r.holder 18 = some 6 ∧ r.holder 19 = some 7 ∧
  (∀ k : Fin 44, r.holder (20 + k.val) = none) ∧
  (∀ k : Fin 29, r.fld (R.BNK_STATUS_PWR_NOW k) = 0) ∧ (∀ k : Fin 408, r.fenced k = false)
end

