-- ==== Sys2Proof/Laws/Tab.lean ====
section
/-! SUPPORT. Laws/Tab.lean: reading a sparse table after a write, and the canonical form. -/
namespace Sys2Proof.Machine

variable {α : Type}

@[simp] theorem Tab.find_erase_same (t : Tab α) (k : Nat) : (t.erase k).find k = none := by
  induction t with
  | nil => rfl
  | cons e r ih =>
    obtain ⟨k', v⟩ := e
    by_cases h : k' = k
    · simp [Tab.erase, h, ih]
    · simp [Tab.erase, Tab.find, h, ih]

theorem Tab.find_erase_ne (t : Tab α) {j k : Nat} (h : j ≠ k) : (t.erase k).find j = t.find j := by
  induction t with
  | nil => rfl
  | cons e r ih =>
    obtain ⟨k', v⟩ := e
    by_cases hk : k' = k
    · have : k' ≠ j := fun e => h (e ▸ hk)
      simp [Tab.erase, Tab.find, hk, ih, Ne.symm h]
    · simp [Tab.erase, Tab.find, hk, ih]

theorem Tab.find_insert_same (t : Tab α) (k : Nat) (v : α) (h : t.find k = none) : (t.insert k v).find k = some v := by
  induction t with
  | nil => simp [Tab.insert, Tab.find]
  | cons e r ih =>
    obtain ⟨k', v'⟩ := e
    by_cases hk : k < k'
    · simp [Tab.insert, Tab.find, hk]
    · by_cases he : k' = k
      · simp [Tab.find, he] at h
      · simp only [Tab.find, he, if_false] at h
        simp [Tab.insert, Tab.find, hk, he, ih h]

theorem Tab.find_insert_ne (t : Tab α) {j k : Nat} (v : α) (h : j ≠ k) : (t.insert k v).find j = t.find j := by
  induction t with
  | nil => simp [Tab.insert, Tab.find, Ne.symm h]
  | cons e r ih =>
    obtain ⟨k', v'⟩ := e
    by_cases hk : k < k'
    · simp [Tab.insert, Tab.find, hk, Ne.symm h]
    · simp [Tab.insert, Tab.find, hk, ih]

/-- A read of the key just written. -/
@[simp] theorem Tab.get_set_same [DecidableEq α] (d : Nat → α) (t : Tab α) (k : Nat) (v : α) :
    Tab.get d (Tab.set d t k v) k = v := by
  unfold Tab.get Tab.set
  by_cases h : v = d k
  · simp [h]
  · simp [h, Tab.find_insert_same]

/-- A write leaves every other key alone. -/
theorem Tab.get_set_ne [DecidableEq α] (d : Nat → α) (t : Tab α) {j k : Nat} (v : α) (h : j ≠ k) :
    Tab.get d (Tab.set d t k v) j = Tab.get d t j := by
  unfold Tab.get Tab.set
  by_cases hv : v = d k
  · simp [hv, Tab.find_erase_ne t h]
  · simp [hv, Tab.find_insert_ne _ v h, Tab.find_erase_ne t h]

theorem Tab.get_set [DecidableEq α] (d : Nat → α) (t : Tab α) (j k : Nat) (v : α) :
    Tab.get d (Tab.set d t k v) j = if j = k then v else Tab.get d t j := by
  by_cases h : j = k
  · simp [h]
  · simp [h, Tab.get_set_ne]

/-! ### The canonical form -/

@[simp] theorem Tab.above_nil (b : Nat) : Tab.above b ([] : Tab α) = true := rfl

theorem Tab.above_cons (b : Nat) (e : Nat × α) (r : Tab α) : Tab.above b (e :: r) = (decide (b < e.1) && Tab.above b r) := rfl

theorem Tab.above_mono {a b : Nat} (h : a ≤ b) (t : Tab α) (hb : Tab.above b t = true) : Tab.above a t = true := by
  simp only [Tab.above, List.all_eq_true, decide_eq_true_eq] at *
  exact fun e he => Nat.lt_of_le_of_lt h (hb e he)

theorem Tab.above_erase (b k : Nat) (t : Tab α) (h : Tab.above b t = true) : Tab.above b (t.erase k) = true := by
  induction t with
  | nil => rfl
  | cons e r ih =>
    obtain ⟨k', v⟩ := e
    simp only [Tab.above_cons, Bool.and_eq_true, decide_eq_true_eq] at h
    by_cases hk : k' = k
    · simpa [Tab.erase, hk] using ih h.2
    · simp [Tab.erase, hk, Tab.above_cons, h.1, ih h.2]

theorem Tab.above_insert (b k : Nat) (v : α) (t : Tab α) (hk : b < k) (h : Tab.above b t = true) :
    Tab.above b (t.insert k v) = true := by
  induction t with
  | nil => simp [Tab.insert, Tab.above_cons, hk]
  | cons e r ih =>
    obtain ⟨k', v'⟩ := e
    simp only [Tab.above_cons, Bool.and_eq_true, decide_eq_true_eq] at h
    by_cases hlt : k < k'
    · simp [Tab.insert, hlt, Tab.above_cons, hk, h.1, h.2]
    · simp [Tab.insert, hlt, Tab.above_cons, h.1, ih h.2]

variable [DecidableEq α] (d : Nat → α)

theorem Tab.wf_cons (k : Nat) (v : α) (r : Tab α) :
    Tab.wf d ((k, v) :: r) = (decide (v ≠ d k) && Tab.above k r && Tab.wf d r) := rfl

theorem Tab.wf_erase (k : Nat) (t : Tab α) (h : Tab.wf d t = true) : Tab.wf d (t.erase k) = true := by
  induction t with
  | nil => rfl
  | cons e r ih =>
    obtain ⟨k', v⟩ := e
    simp only [Tab.wf_cons, Bool.and_eq_true] at h
    by_cases hk : k' = k
    · simpa [Tab.erase, hk] using ih h.2
    · simp [Tab.erase, hk, Tab.wf_cons, ih h.2, Tab.above_erase _ _ _ h.1.2, by simpa using h.1.1]

theorem Tab.wf_insert (k : Nat) (v : α) (t : Tab α) (hv : v ≠ d k) (hn : t.find k = none) (h : Tab.wf d t = true) :
    Tab.wf d (t.insert k v) = true := by
  induction t with
  | nil => simp [Tab.insert, Tab.wf_cons, hv, Tab.wf]
  | cons e r ih =>
    obtain ⟨k', v'⟩ := e
    by_cases he : k' = k
    · simp [Tab.find, he] at hn
    · simp only [Tab.find, he, if_false] at hn
      have h' := h
      simp only [Tab.wf_cons, Bool.and_eq_true, decide_eq_true_eq] at h'
      by_cases hlt : k < k'
      · have ha : Tab.above k ((k', v') :: r) = true := by
          simp [Tab.above_cons, hlt, Tab.above_mono (Nat.le_of_lt hlt) r h'.1.2]
        simp only [Tab.insert, hlt, if_true]
        rw [Tab.wf_cons, ha, h]
        simp [hv]
      · have hgt : k' < k := by omega
        simp [Tab.insert, hlt, Tab.wf_cons, h'.1.1, Tab.above_insert k' k v r hgt h'.1.2, ih hn h'.2]

/-- A write keeps the canonical form. -/
theorem Tab.wf_set (t : Tab α) (k : Nat) (v : α) (h : Tab.wf d t = true) : Tab.wf d (Tab.set d t k v) = true := by
  unfold Tab.set
  by_cases hv : v = d k
  · simp [hv, Tab.wf_erase d k t h]
  · simp [hv, Tab.wf_insert d k v (t.erase k) hv (Tab.find_erase_same t k) (Tab.wf_erase d k t h)]

end Sys2Proof.Machine
end

