-- ==== Sys2Proof/Laws/State.lean ====
section
/-! SUPPORT. Laws/State.lean: what each update of the state leaves alone, one lemma per field per update, and what a read of a
register field gives after each. -/
namespace Sys2Proof.Machine

/-! ### State.setFld -/

@[simp] theorem State.setFld_pending (s : State) (f : Fld) (v : Nat) : (s.setFld f v).pending = s.pending := rfl
@[simp] theorem State.setFld_mem (s : State) (f : Fld) (v : Nat) : (s.setFld f v).mem = s.mem := rfl
@[simp] theorem State.setFld_tb (s : State) (f : Fld) (v : Nat) : (s.setFld f v).tb = s.tb := rfl
@[simp] theorem State.setFld_tsv (s : State) (f : Fld) (v : Nat) : (s.setFld f v).tsv = s.tsv := rfl
@[simp] theorem State.setFld_cands (s : State) (f : Fld) (v : Nat) : (s.setFld f v).cands = s.cands := rfl
@[simp] theorem State.setFld_seam (s : State) (f : Fld) (v : Nat) : (s.setFld f v).seam = s.seam := rfl
@[simp] theorem State.setFld_syn (s : State) (f : Fld) (v : Nat) : (s.setFld f v).syn = s.syn := rfl
@[simp] theorem State.setFld_outs (s : State) (f : Fld) (v : Nat) : (s.setFld f v).outs = s.outs := rfl
@[simp] theorem State.setFld_tdc (s : State) (f : Fld) (v : Nat) : (s.setFld f v).tdc = s.tdc := rfl
@[simp] theorem State.setFld_links (s : State) (f : Fld) (v : Nat) : (s.setFld f v).links = s.links := rfl
@[simp] theorem State.setFld_eng (s : State) (f : Fld) (v : Nat) : (s.setFld f v).eng = s.eng := rfl
@[simp] theorem State.setFld_mb (s : State) (f : Fld) (v : Nat) : (s.setFld f v).mb = s.mb := rfl
@[simp] theorem State.setFld_host (s : State) (f : Fld) (v : Nat) : (s.setFld f v).host = s.host := rfl
@[simp] theorem State.setFld_bank (s : State) (f : Fld) (v : Nat) : (s.setFld f v).bank = s.bank := rfl
@[simp] theorem State.setFld_stores (s : State) (f : Fld) (v : Nat) : (s.setFld f v).stores = s.stores := rfl
@[simp] theorem State.setFld_pwr (s : State) (f : Fld) (v : Nat) : (s.setFld f v).pwr = s.pwr := rfl
@[simp] theorem State.setFld_eps (s : State) (f : Fld) (v : Nat) : (s.setFld f v).eps = s.eps := rfl
@[simp] theorem State.setFld_freeCtr (s : State) (f : Fld) (v : Nat) : (s.setFld f v).freeCtr = s.freeCtr := rfl

/-! ### State.setCand -/

@[simp] theorem State.setCand_pending (s : State) (n : Nat) (c : Cand) : (s.setCand n c).pending = s.pending := rfl
@[simp] theorem State.setCand_regs (s : State) (n : Nat) (c : Cand) : (s.setCand n c).regs = s.regs := rfl
@[simp] theorem State.setCand_mem (s : State) (n : Nat) (c : Cand) : (s.setCand n c).mem = s.mem := rfl
@[simp] theorem State.setCand_tb (s : State) (n : Nat) (c : Cand) : (s.setCand n c).tb = s.tb := rfl
@[simp] theorem State.setCand_tsv (s : State) (n : Nat) (c : Cand) : (s.setCand n c).tsv = s.tsv := rfl
@[simp] theorem State.setCand_seam (s : State) (n : Nat) (c : Cand) : (s.setCand n c).seam = s.seam := rfl
@[simp] theorem State.setCand_syn (s : State) (n : Nat) (c : Cand) : (s.setCand n c).syn = s.syn := rfl
@[simp] theorem State.setCand_outs (s : State) (n : Nat) (c : Cand) : (s.setCand n c).outs = s.outs := rfl
@[simp] theorem State.setCand_tdc (s : State) (n : Nat) (c : Cand) : (s.setCand n c).tdc = s.tdc := rfl
@[simp] theorem State.setCand_links (s : State) (n : Nat) (c : Cand) : (s.setCand n c).links = s.links := rfl
@[simp] theorem State.setCand_eng (s : State) (n : Nat) (c : Cand) : (s.setCand n c).eng = s.eng := rfl
@[simp] theorem State.setCand_mb (s : State) (n : Nat) (c : Cand) : (s.setCand n c).mb = s.mb := rfl
@[simp] theorem State.setCand_host (s : State) (n : Nat) (c : Cand) : (s.setCand n c).host = s.host := rfl
@[simp] theorem State.setCand_bank (s : State) (n : Nat) (c : Cand) : (s.setCand n c).bank = s.bank := rfl
@[simp] theorem State.setCand_stores (s : State) (n : Nat) (c : Cand) : (s.setCand n c).stores = s.stores := rfl
@[simp] theorem State.setCand_pwr (s : State) (n : Nat) (c : Cand) : (s.setCand n c).pwr = s.pwr := rfl
@[simp] theorem State.setCand_eps (s : State) (n : Nat) (c : Cand) : (s.setCand n c).eps = s.eps := rfl
@[simp] theorem State.setCand_freeCtr (s : State) (n : Nat) (c : Cand) : (s.setCand n c).freeCtr = s.freeCtr := rfl
@[simp] theorem State.setCand_fld (s : State) (n : Nat) (c : Cand) (g : Fld) : (s.setCand n c).fld g = s.fld g := rfl

/-! ### State.setThread -/

@[simp] theorem State.setThread_pending (s : State) (e t : Nat) (x : Thread) : (s.setThread e t x).pending = s.pending := rfl
@[simp] theorem State.setThread_regs (s : State) (e t : Nat) (x : Thread) : (s.setThread e t x).regs = s.regs := rfl
@[simp] theorem State.setThread_mem (s : State) (e t : Nat) (x : Thread) : (s.setThread e t x).mem = s.mem := rfl
@[simp] theorem State.setThread_tb (s : State) (e t : Nat) (x : Thread) : (s.setThread e t x).tb = s.tb := rfl
@[simp] theorem State.setThread_tsv (s : State) (e t : Nat) (x : Thread) : (s.setThread e t x).tsv = s.tsv := rfl
@[simp] theorem State.setThread_cands (s : State) (e t : Nat) (x : Thread) : (s.setThread e t x).cands = s.cands := rfl
@[simp] theorem State.setThread_seam (s : State) (e t : Nat) (x : Thread) : (s.setThread e t x).seam = s.seam := rfl
@[simp] theorem State.setThread_syn (s : State) (e t : Nat) (x : Thread) : (s.setThread e t x).syn = s.syn := rfl
@[simp] theorem State.setThread_outs (s : State) (e t : Nat) (x : Thread) : (s.setThread e t x).outs = s.outs := rfl
@[simp] theorem State.setThread_tdc (s : State) (e t : Nat) (x : Thread) : (s.setThread e t x).tdc = s.tdc := rfl
@[simp] theorem State.setThread_links (s : State) (e t : Nat) (x : Thread) : (s.setThread e t x).links = s.links := rfl
@[simp] theorem State.setThread_mb (s : State) (e t : Nat) (x : Thread) : (s.setThread e t x).mb = s.mb := rfl
@[simp] theorem State.setThread_host (s : State) (e t : Nat) (x : Thread) : (s.setThread e t x).host = s.host := rfl
@[simp] theorem State.setThread_bank (s : State) (e t : Nat) (x : Thread) : (s.setThread e t x).bank = s.bank := rfl
@[simp] theorem State.setThread_stores (s : State) (e t : Nat) (x : Thread) : (s.setThread e t x).stores = s.stores := rfl
@[simp] theorem State.setThread_pwr (s : State) (e t : Nat) (x : Thread) : (s.setThread e t x).pwr = s.pwr := rfl
@[simp] theorem State.setThread_eps (s : State) (e t : Nat) (x : Thread) : (s.setThread e t x).eps = s.eps := rfl
@[simp] theorem State.setThread_freeCtr (s : State) (e t : Nat) (x : Thread) : (s.setThread e t x).freeCtr = s.freeCtr := rfl
@[simp] theorem State.setThread_fld (s : State) (e t : Nat) (x : Thread) (g : Fld) : (s.setThread e t x).fld g = s.fld g := rfl

/-! ### State.setFlights -/

@[simp] theorem State.setFlights_pending (s : State) (n : Nat) (l : List Flight) : (s.setFlights n l).pending = s.pending := rfl
@[simp] theorem State.setFlights_regs (s : State) (n : Nat) (l : List Flight) : (s.setFlights n l).regs = s.regs := rfl
@[simp] theorem State.setFlights_mem (s : State) (n : Nat) (l : List Flight) : (s.setFlights n l).mem = s.mem := rfl
@[simp] theorem State.setFlights_tb (s : State) (n : Nat) (l : List Flight) : (s.setFlights n l).tb = s.tb := rfl
@[simp] theorem State.setFlights_tsv (s : State) (n : Nat) (l : List Flight) : (s.setFlights n l).tsv = s.tsv := rfl
@[simp] theorem State.setFlights_cands (s : State) (n : Nat) (l : List Flight) : (s.setFlights n l).cands = s.cands := rfl
@[simp] theorem State.setFlights_seam (s : State) (n : Nat) (l : List Flight) : (s.setFlights n l).seam = s.seam := rfl
@[simp] theorem State.setFlights_syn (s : State) (n : Nat) (l : List Flight) : (s.setFlights n l).syn = s.syn := rfl
@[simp] theorem State.setFlights_outs (s : State) (n : Nat) (l : List Flight) : (s.setFlights n l).outs = s.outs := rfl
@[simp] theorem State.setFlights_tdc (s : State) (n : Nat) (l : List Flight) : (s.setFlights n l).tdc = s.tdc := rfl
@[simp] theorem State.setFlights_links (s : State) (n : Nat) (l : List Flight) : (s.setFlights n l).links = s.links := rfl
@[simp] theorem State.setFlights_mb (s : State) (n : Nat) (l : List Flight) : (s.setFlights n l).mb = s.mb := rfl
@[simp] theorem State.setFlights_host (s : State) (n : Nat) (l : List Flight) : (s.setFlights n l).host = s.host := rfl
@[simp] theorem State.setFlights_bank (s : State) (n : Nat) (l : List Flight) : (s.setFlights n l).bank = s.bank := rfl
@[simp] theorem State.setFlights_stores (s : State) (n : Nat) (l : List Flight) : (s.setFlights n l).stores = s.stores := rfl
@[simp] theorem State.setFlights_pwr (s : State) (n : Nat) (l : List Flight) : (s.setFlights n l).pwr = s.pwr := rfl
@[simp] theorem State.setFlights_eps (s : State) (n : Nat) (l : List Flight) : (s.setFlights n l).eps = s.eps := rfl
@[simp] theorem State.setFlights_freeCtr (s : State) (n : Nat) (l : List Flight) : (s.setFlights n l).freeCtr = s.freeCtr := rfl
@[simp] theorem State.setFlights_fld (s : State) (n : Nat) (l : List Flight) (g : Fld) : (s.setFlights n l).fld g = s.fld g := rfl

/-! ### State.setLane -/

@[simp] theorem State.setLane_pending (s : State) (n : Nat) (l : List LaneOp) : (s.setLane n l).pending = s.pending := rfl
@[simp] theorem State.setLane_regs (s : State) (n : Nat) (l : List LaneOp) : (s.setLane n l).regs = s.regs := rfl
@[simp] theorem State.setLane_mem (s : State) (n : Nat) (l : List LaneOp) : (s.setLane n l).mem = s.mem := rfl
@[simp] theorem State.setLane_tb (s : State) (n : Nat) (l : List LaneOp) : (s.setLane n l).tb = s.tb := rfl
@[simp] theorem State.setLane_tsv (s : State) (n : Nat) (l : List LaneOp) : (s.setLane n l).tsv = s.tsv := rfl
@[simp] theorem State.setLane_cands (s : State) (n : Nat) (l : List LaneOp) : (s.setLane n l).cands = s.cands := rfl
@[simp] theorem State.setLane_seam (s : State) (n : Nat) (l : List LaneOp) : (s.setLane n l).seam = s.seam := rfl
@[simp] theorem State.setLane_syn (s : State) (n : Nat) (l : List LaneOp) : (s.setLane n l).syn = s.syn := rfl
@[simp] theorem State.setLane_outs (s : State) (n : Nat) (l : List LaneOp) : (s.setLane n l).outs = s.outs := rfl
@[simp] theorem State.setLane_tdc (s : State) (n : Nat) (l : List LaneOp) : (s.setLane n l).tdc = s.tdc := rfl
@[simp] theorem State.setLane_links (s : State) (n : Nat) (l : List LaneOp) : (s.setLane n l).links = s.links := rfl
@[simp] theorem State.setLane_eng (s : State) (n : Nat) (l : List LaneOp) : (s.setLane n l).eng = s.eng := rfl
@[simp] theorem State.setLane_host (s : State) (n : Nat) (l : List LaneOp) : (s.setLane n l).host = s.host := rfl
@[simp] theorem State.setLane_bank (s : State) (n : Nat) (l : List LaneOp) : (s.setLane n l).bank = s.bank := rfl
@[simp] theorem State.setLane_stores (s : State) (n : Nat) (l : List LaneOp) : (s.setLane n l).stores = s.stores := rfl
@[simp] theorem State.setLane_pwr (s : State) (n : Nat) (l : List LaneOp) : (s.setLane n l).pwr = s.pwr := rfl
@[simp] theorem State.setLane_eps (s : State) (n : Nat) (l : List LaneOp) : (s.setLane n l).eps = s.eps := rfl
@[simp] theorem State.setLane_freeCtr (s : State) (n : Nat) (l : List LaneOp) : (s.setLane n l).freeCtr = s.freeCtr := rfl
@[simp] theorem State.setLane_fld (s : State) (n : Nat) (l : List LaneOp) (g : Fld) : (s.setLane n l).fld g = s.fld g := rfl

/-! ### State.setCredit -/

@[simp] theorem State.setCredit_pending (s : State) (n v : Nat) : (s.setCredit n v).pending = s.pending := rfl
@[simp] theorem State.setCredit_regs (s : State) (n v : Nat) : (s.setCredit n v).regs = s.regs := rfl
@[simp] theorem State.setCredit_mem (s : State) (n v : Nat) : (s.setCredit n v).mem = s.mem := rfl
@[simp] theorem State.setCredit_tb (s : State) (n v : Nat) : (s.setCredit n v).tb = s.tb := rfl
@[simp] theorem State.setCredit_tsv (s : State) (n v : Nat) : (s.setCredit n v).tsv = s.tsv := rfl
@[simp] theorem State.setCredit_cands (s : State) (n v : Nat) : (s.setCredit n v).cands = s.cands := rfl
@[simp] theorem State.setCredit_seam (s : State) (n v : Nat) : (s.setCredit n v).seam = s.seam := rfl
@[simp] theorem State.setCredit_syn (s : State) (n v : Nat) : (s.setCredit n v).syn = s.syn := rfl
@[simp] theorem State.setCredit_outs (s : State) (n v : Nat) : (s.setCredit n v).outs = s.outs := rfl
@[simp] theorem State.setCredit_tdc (s : State) (n v : Nat) : (s.setCredit n v).tdc = s.tdc := rfl
@[simp] theorem State.setCredit_links (s : State) (n v : Nat) : (s.setCredit n v).links = s.links := rfl
@[simp] theorem State.setCredit_eng (s : State) (n v : Nat) : (s.setCredit n v).eng = s.eng := rfl
@[simp] theorem State.setCredit_host (s : State) (n v : Nat) : (s.setCredit n v).host = s.host := rfl
@[simp] theorem State.setCredit_bank (s : State) (n v : Nat) : (s.setCredit n v).bank = s.bank := rfl
@[simp] theorem State.setCredit_stores (s : State) (n v : Nat) : (s.setCredit n v).stores = s.stores := rfl
@[simp] theorem State.setCredit_pwr (s : State) (n v : Nat) : (s.setCredit n v).pwr = s.pwr := rfl
@[simp] theorem State.setCredit_eps (s : State) (n v : Nat) : (s.setCredit n v).eps = s.eps := rfl
@[simp] theorem State.setCredit_freeCtr (s : State) (n v : Nat) : (s.setCredit n v).freeCtr = s.freeCtr := rfl
@[simp] theorem State.setCredit_fld (s : State) (n v : Nat) (g : Fld) : (s.setCredit n v).fld g = s.fld g := rfl

/-! ### State.setLink -/

@[simp] theorem State.setLink_pending (s : State) (n : Nat) (l : Link) : (s.setLink n l).pending = s.pending := rfl
@[simp] theorem State.setLink_regs (s : State) (n : Nat) (l : Link) : (s.setLink n l).regs = s.regs := rfl
@[simp] theorem State.setLink_mem (s : State) (n : Nat) (l : Link) : (s.setLink n l).mem = s.mem := rfl
@[simp] theorem State.setLink_tb (s : State) (n : Nat) (l : Link) : (s.setLink n l).tb = s.tb := rfl
@[simp] theorem State.setLink_tsv (s : State) (n : Nat) (l : Link) : (s.setLink n l).tsv = s.tsv := rfl
@[simp] theorem State.setLink_cands (s : State) (n : Nat) (l : Link) : (s.setLink n l).cands = s.cands := rfl
@[simp] theorem State.setLink_seam (s : State) (n : Nat) (l : Link) : (s.setLink n l).seam = s.seam := rfl
@[simp] theorem State.setLink_syn (s : State) (n : Nat) (l : Link) : (s.setLink n l).syn = s.syn := rfl
@[simp] theorem State.setLink_outs (s : State) (n : Nat) (l : Link) : (s.setLink n l).outs = s.outs := rfl
@[simp] theorem State.setLink_tdc (s : State) (n : Nat) (l : Link) : (s.setLink n l).tdc = s.tdc := rfl
@[simp] theorem State.setLink_eng (s : State) (n : Nat) (l : Link) : (s.setLink n l).eng = s.eng := rfl
@[simp] theorem State.setLink_mb (s : State) (n : Nat) (l : Link) : (s.setLink n l).mb = s.mb := rfl
@[simp] theorem State.setLink_host (s : State) (n : Nat) (l : Link) : (s.setLink n l).host = s.host := rfl
@[simp] theorem State.setLink_bank (s : State) (n : Nat) (l : Link) : (s.setLink n l).bank = s.bank := rfl
@[simp] theorem State.setLink_stores (s : State) (n : Nat) (l : Link) : (s.setLink n l).stores = s.stores := rfl
@[simp] theorem State.setLink_pwr (s : State) (n : Nat) (l : Link) : (s.setLink n l).pwr = s.pwr := rfl
@[simp] theorem State.setLink_eps (s : State) (n : Nat) (l : Link) : (s.setLink n l).eps = s.eps := rfl
@[simp] theorem State.setLink_freeCtr (s : State) (n : Nat) (l : Link) : (s.setLink n l).freeCtr = s.freeCtr := rfl
@[simp] theorem State.setLink_fld (s : State) (n : Nat) (l : Link) (g : Fld) : (s.setLink n l).fld g = s.fld g := rfl

/-! ### State.setRamp -/

@[simp] theorem State.setRamp_pending (s : State) (p : Nat) (r : Ramp) : (s.setRamp p r).pending = s.pending := rfl
@[simp] theorem State.setRamp_regs (s : State) (p : Nat) (r : Ramp) : (s.setRamp p r).regs = s.regs := rfl
@[simp] theorem State.setRamp_mem (s : State) (p : Nat) (r : Ramp) : (s.setRamp p r).mem = s.mem := rfl
@[simp] theorem State.setRamp_tb (s : State) (p : Nat) (r : Ramp) : (s.setRamp p r).tb = s.tb := rfl
@[simp] theorem State.setRamp_tsv (s : State) (p : Nat) (r : Ramp) : (s.setRamp p r).tsv = s.tsv := rfl
@[simp] theorem State.setRamp_cands (s : State) (p : Nat) (r : Ramp) : (s.setRamp p r).cands = s.cands := rfl
@[simp] theorem State.setRamp_seam (s : State) (p : Nat) (r : Ramp) : (s.setRamp p r).seam = s.seam := rfl
@[simp] theorem State.setRamp_outs (s : State) (p : Nat) (r : Ramp) : (s.setRamp p r).outs = s.outs := rfl
@[simp] theorem State.setRamp_tdc (s : State) (p : Nat) (r : Ramp) : (s.setRamp p r).tdc = s.tdc := rfl
@[simp] theorem State.setRamp_links (s : State) (p : Nat) (r : Ramp) : (s.setRamp p r).links = s.links := rfl
@[simp] theorem State.setRamp_eng (s : State) (p : Nat) (r : Ramp) : (s.setRamp p r).eng = s.eng := rfl
@[simp] theorem State.setRamp_mb (s : State) (p : Nat) (r : Ramp) : (s.setRamp p r).mb = s.mb := rfl
@[simp] theorem State.setRamp_host (s : State) (p : Nat) (r : Ramp) : (s.setRamp p r).host = s.host := rfl
@[simp] theorem State.setRamp_bank (s : State) (p : Nat) (r : Ramp) : (s.setRamp p r).bank = s.bank := rfl
@[simp] theorem State.setRamp_stores (s : State) (p : Nat) (r : Ramp) : (s.setRamp p r).stores = s.stores := rfl
@[simp] theorem State.setRamp_pwr (s : State) (p : Nat) (r : Ramp) : (s.setRamp p r).pwr = s.pwr := rfl
@[simp] theorem State.setRamp_eps (s : State) (p : Nat) (r : Ramp) : (s.setRamp p r).eps = s.eps := rfl
@[simp] theorem State.setRamp_freeCtr (s : State) (p : Nat) (r : Ramp) : (s.setRamp p r).freeCtr = s.freeCtr := rfl
@[simp] theorem State.setRamp_fld (s : State) (p : Nat) (r : Ramp) (g : Fld) : (s.setRamp p r).fld g = s.fld g := rfl

/-! ### State.setPulse -/

@[simp] theorem State.setPulse_pending (s : State) (k : Nat) (p : Pulse) : (s.setPulse k p).pending = s.pending := rfl
@[simp] theorem State.setPulse_regs (s : State) (k : Nat) (p : Pulse) : (s.setPulse k p).regs = s.regs := rfl
@[simp] theorem State.setPulse_mem (s : State) (k : Nat) (p : Pulse) : (s.setPulse k p).mem = s.mem := rfl
@[simp] theorem State.setPulse_tb (s : State) (k : Nat) (p : Pulse) : (s.setPulse k p).tb = s.tb := rfl
@[simp] theorem State.setPulse_tsv (s : State) (k : Nat) (p : Pulse) : (s.setPulse k p).tsv = s.tsv := rfl
@[simp] theorem State.setPulse_cands (s : State) (k : Nat) (p : Pulse) : (s.setPulse k p).cands = s.cands := rfl
@[simp] theorem State.setPulse_seam (s : State) (k : Nat) (p : Pulse) : (s.setPulse k p).seam = s.seam := rfl
@[simp] theorem State.setPulse_syn (s : State) (k : Nat) (p : Pulse) : (s.setPulse k p).syn = s.syn := rfl
@[simp] theorem State.setPulse_tdc (s : State) (k : Nat) (p : Pulse) : (s.setPulse k p).tdc = s.tdc := rfl
@[simp] theorem State.setPulse_links (s : State) (k : Nat) (p : Pulse) : (s.setPulse k p).links = s.links := rfl
@[simp] theorem State.setPulse_eng (s : State) (k : Nat) (p : Pulse) : (s.setPulse k p).eng = s.eng := rfl
@[simp] theorem State.setPulse_mb (s : State) (k : Nat) (p : Pulse) : (s.setPulse k p).mb = s.mb := rfl
@[simp] theorem State.setPulse_host (s : State) (k : Nat) (p : Pulse) : (s.setPulse k p).host = s.host := rfl
@[simp] theorem State.setPulse_bank (s : State) (k : Nat) (p : Pulse) : (s.setPulse k p).bank = s.bank := rfl
@[simp] theorem State.setPulse_stores (s : State) (k : Nat) (p : Pulse) : (s.setPulse k p).stores = s.stores := rfl
@[simp] theorem State.setPulse_pwr (s : State) (k : Nat) (p : Pulse) : (s.setPulse k p).pwr = s.pwr := rfl
@[simp] theorem State.setPulse_eps (s : State) (k : Nat) (p : Pulse) : (s.setPulse k p).eps = s.eps := rfl
@[simp] theorem State.setPulse_freeCtr (s : State) (k : Nat) (p : Pulse) : (s.setPulse k p).freeCtr = s.freeCtr := rfl
@[simp] theorem State.setPulse_fld (s : State) (k : Nat) (p : Pulse) (g : Fld) : (s.setPulse k p).fld g = s.fld g := rfl

/-! ### State.setTdcCh -/

@[simp] theorem State.setTdcCh_pending (s : State) (c : Nat) (x : Tdc) : (s.setTdcCh c x).pending = s.pending := rfl
@[simp] theorem State.setTdcCh_regs (s : State) (c : Nat) (x : Tdc) : (s.setTdcCh c x).regs = s.regs := rfl
@[simp] theorem State.setTdcCh_mem (s : State) (c : Nat) (x : Tdc) : (s.setTdcCh c x).mem = s.mem := rfl
@[simp] theorem State.setTdcCh_tb (s : State) (c : Nat) (x : Tdc) : (s.setTdcCh c x).tb = s.tb := rfl
@[simp] theorem State.setTdcCh_tsv (s : State) (c : Nat) (x : Tdc) : (s.setTdcCh c x).tsv = s.tsv := rfl
@[simp] theorem State.setTdcCh_cands (s : State) (c : Nat) (x : Tdc) : (s.setTdcCh c x).cands = s.cands := rfl
@[simp] theorem State.setTdcCh_seam (s : State) (c : Nat) (x : Tdc) : (s.setTdcCh c x).seam = s.seam := rfl
@[simp] theorem State.setTdcCh_syn (s : State) (c : Nat) (x : Tdc) : (s.setTdcCh c x).syn = s.syn := rfl
@[simp] theorem State.setTdcCh_outs (s : State) (c : Nat) (x : Tdc) : (s.setTdcCh c x).outs = s.outs := rfl
@[simp] theorem State.setTdcCh_links (s : State) (c : Nat) (x : Tdc) : (s.setTdcCh c x).links = s.links := rfl
@[simp] theorem State.setTdcCh_eng (s : State) (c : Nat) (x : Tdc) : (s.setTdcCh c x).eng = s.eng := rfl
@[simp] theorem State.setTdcCh_mb (s : State) (c : Nat) (x : Tdc) : (s.setTdcCh c x).mb = s.mb := rfl
@[simp] theorem State.setTdcCh_host (s : State) (c : Nat) (x : Tdc) : (s.setTdcCh c x).host = s.host := rfl
@[simp] theorem State.setTdcCh_bank (s : State) (c : Nat) (x : Tdc) : (s.setTdcCh c x).bank = s.bank := rfl
@[simp] theorem State.setTdcCh_stores (s : State) (c : Nat) (x : Tdc) : (s.setTdcCh c x).stores = s.stores := rfl
@[simp] theorem State.setTdcCh_pwr (s : State) (c : Nat) (x : Tdc) : (s.setTdcCh c x).pwr = s.pwr := rfl
@[simp] theorem State.setTdcCh_eps (s : State) (c : Nat) (x : Tdc) : (s.setTdcCh c x).eps = s.eps := rfl
@[simp] theorem State.setTdcCh_freeCtr (s : State) (c : Nat) (x : Tdc) : (s.setTdcCh c x).freeCtr = s.freeCtr := rfl
@[simp] theorem State.setTdcCh_fld (s : State) (c : Nat) (x : Tdc) (g : Fld) : (s.setTdcCh c x).fld g = s.fld g := rfl

/-! ### State.setEpRun -/

@[simp] theorem State.setEpRun_pending (s : State) (i : Nat) (x : EpRun) : (s.setEpRun i x).pending = s.pending := rfl
@[simp] theorem State.setEpRun_regs (s : State) (i : Nat) (x : EpRun) : (s.setEpRun i x).regs = s.regs := rfl
@[simp] theorem State.setEpRun_mem (s : State) (i : Nat) (x : EpRun) : (s.setEpRun i x).mem = s.mem := rfl
@[simp] theorem State.setEpRun_tb (s : State) (i : Nat) (x : EpRun) : (s.setEpRun i x).tb = s.tb := rfl
@[simp] theorem State.setEpRun_tsv (s : State) (i : Nat) (x : EpRun) : (s.setEpRun i x).tsv = s.tsv := rfl
@[simp] theorem State.setEpRun_cands (s : State) (i : Nat) (x : EpRun) : (s.setEpRun i x).cands = s.cands := rfl
@[simp] theorem State.setEpRun_seam (s : State) (i : Nat) (x : EpRun) : (s.setEpRun i x).seam = s.seam := rfl
@[simp] theorem State.setEpRun_syn (s : State) (i : Nat) (x : EpRun) : (s.setEpRun i x).syn = s.syn := rfl
@[simp] theorem State.setEpRun_outs (s : State) (i : Nat) (x : EpRun) : (s.setEpRun i x).outs = s.outs := rfl
@[simp] theorem State.setEpRun_tdc (s : State) (i : Nat) (x : EpRun) : (s.setEpRun i x).tdc = s.tdc := rfl
@[simp] theorem State.setEpRun_links (s : State) (i : Nat) (x : EpRun) : (s.setEpRun i x).links = s.links := rfl
@[simp] theorem State.setEpRun_eng (s : State) (i : Nat) (x : EpRun) : (s.setEpRun i x).eng = s.eng := rfl
@[simp] theorem State.setEpRun_mb (s : State) (i : Nat) (x : EpRun) : (s.setEpRun i x).mb = s.mb := rfl
@[simp] theorem State.setEpRun_host (s : State) (i : Nat) (x : EpRun) : (s.setEpRun i x).host = s.host := rfl
@[simp] theorem State.setEpRun_bank (s : State) (i : Nat) (x : EpRun) : (s.setEpRun i x).bank = s.bank := rfl
@[simp] theorem State.setEpRun_stores (s : State) (i : Nat) (x : EpRun) : (s.setEpRun i x).stores = s.stores := rfl
@[simp] theorem State.setEpRun_pwr (s : State) (i : Nat) (x : EpRun) : (s.setEpRun i x).pwr = s.pwr := rfl
@[simp] theorem State.setEpRun_freeCtr (s : State) (i : Nat) (x : EpRun) : (s.setEpRun i x).freeCtr = s.freeCtr := rfl
@[simp] theorem State.setEpRun_fld (s : State) (i : Nat) (x : EpRun) (g : Fld) : (s.setEpRun i x).fld g = s.fld g := rfl

/-! ### State.setEcc -/

@[simp] theorem State.setEcc_pending (s : State) (k v : Nat) : (s.setEcc k v).pending = s.pending := rfl
@[simp] theorem State.setEcc_regs (s : State) (k v : Nat) : (s.setEcc k v).regs = s.regs := rfl
@[simp] theorem State.setEcc_mem (s : State) (k v : Nat) : (s.setEcc k v).mem = s.mem := rfl
@[simp] theorem State.setEcc_tb (s : State) (k v : Nat) : (s.setEcc k v).tb = s.tb := rfl
@[simp] theorem State.setEcc_tsv (s : State) (k v : Nat) : (s.setEcc k v).tsv = s.tsv := rfl
@[simp] theorem State.setEcc_cands (s : State) (k v : Nat) : (s.setEcc k v).cands = s.cands := rfl
@[simp] theorem State.setEcc_seam (s : State) (k v : Nat) : (s.setEcc k v).seam = s.seam := rfl
@[simp] theorem State.setEcc_syn (s : State) (k v : Nat) : (s.setEcc k v).syn = s.syn := rfl
@[simp] theorem State.setEcc_outs (s : State) (k v : Nat) : (s.setEcc k v).outs = s.outs := rfl
@[simp] theorem State.setEcc_tdc (s : State) (k v : Nat) : (s.setEcc k v).tdc = s.tdc := rfl
@[simp] theorem State.setEcc_links (s : State) (k v : Nat) : (s.setEcc k v).links = s.links := rfl
@[simp] theorem State.setEcc_eng (s : State) (k v : Nat) : (s.setEcc k v).eng = s.eng := rfl
@[simp] theorem State.setEcc_mb (s : State) (k v : Nat) : (s.setEcc k v).mb = s.mb := rfl
@[simp] theorem State.setEcc_host (s : State) (k v : Nat) : (s.setEcc k v).host = s.host := rfl
@[simp] theorem State.setEcc_stores (s : State) (k v : Nat) : (s.setEcc k v).stores = s.stores := rfl
@[simp] theorem State.setEcc_pwr (s : State) (k v : Nat) : (s.setEcc k v).pwr = s.pwr := rfl
@[simp] theorem State.setEcc_eps (s : State) (k v : Nat) : (s.setEcc k v).eps = s.eps := rfl
@[simp] theorem State.setEcc_freeCtr (s : State) (k v : Nat) : (s.setEcc k v).freeCtr = s.freeCtr := rfl
@[simp] theorem State.setEcc_fld (s : State) (k v : Nat) (g : Fld) : (s.setEcc k v).fld g = s.fld g := rfl

/-! ### State.setByte -/

@[simp] theorem State.setByte_pending (s : State) (a : Nat) (v : BitVec 8) : (s.setByte a v).pending = s.pending := rfl
@[simp] theorem State.setByte_regs (s : State) (a : Nat) (v : BitVec 8) : (s.setByte a v).regs = s.regs := rfl
@[simp] theorem State.setByte_tb (s : State) (a : Nat) (v : BitVec 8) : (s.setByte a v).tb = s.tb := rfl
@[simp] theorem State.setByte_tsv (s : State) (a : Nat) (v : BitVec 8) : (s.setByte a v).tsv = s.tsv := rfl
@[simp] theorem State.setByte_cands (s : State) (a : Nat) (v : BitVec 8) : (s.setByte a v).cands = s.cands := rfl
@[simp] theorem State.setByte_seam (s : State) (a : Nat) (v : BitVec 8) : (s.setByte a v).seam = s.seam := rfl
@[simp] theorem State.setByte_syn (s : State) (a : Nat) (v : BitVec 8) : (s.setByte a v).syn = s.syn := rfl
@[simp] theorem State.setByte_outs (s : State) (a : Nat) (v : BitVec 8) : (s.setByte a v).outs = s.outs := rfl
@[simp] theorem State.setByte_tdc (s : State) (a : Nat) (v : BitVec 8) : (s.setByte a v).tdc = s.tdc := rfl
@[simp] theorem State.setByte_links (s : State) (a : Nat) (v : BitVec 8) : (s.setByte a v).links = s.links := rfl
@[simp] theorem State.setByte_eng (s : State) (a : Nat) (v : BitVec 8) : (s.setByte a v).eng = s.eng := rfl
@[simp] theorem State.setByte_mb (s : State) (a : Nat) (v : BitVec 8) : (s.setByte a v).mb = s.mb := rfl
@[simp] theorem State.setByte_host (s : State) (a : Nat) (v : BitVec 8) : (s.setByte a v).host = s.host := rfl
@[simp] theorem State.setByte_bank (s : State) (a : Nat) (v : BitVec 8) : (s.setByte a v).bank = s.bank := rfl
@[simp] theorem State.setByte_stores (s : State) (a : Nat) (v : BitVec 8) : (s.setByte a v).stores = s.stores := rfl
@[simp] theorem State.setByte_pwr (s : State) (a : Nat) (v : BitVec 8) : (s.setByte a v).pwr = s.pwr := rfl
@[simp] theorem State.setByte_eps (s : State) (a : Nat) (v : BitVec 8) : (s.setByte a v).eps = s.eps := rfl
@[simp] theorem State.setByte_freeCtr (s : State) (a : Nat) (v : BitVec 8) : (s.setByte a v).freeCtr = s.freeCtr := rfl
@[simp] theorem State.setByte_fld (s : State) (a : Nat) (v : BitVec 8) (g : Fld) : (s.setByte a v).fld g = s.fld g := rfl

/-! ### Register fields -/

/-- A field after a write of a field: the value in the width of the written one, or what it was. -/
theorem State.fld_setFld (s : State) (f g : Fld) (v : Nat) :
    (s.setFld g v).fld f = if f.key = g.key then v % 2 ^ g.width else s.fld f :=
  Tab.get_set resetField s.regs f.key g.key (v % 2 ^ g.width)

@[simp] theorem State.fld_setFld_same (s : State) (f : Fld) (v : Nat) : (s.setFld f v).fld f = v % 2 ^ f.width := by
  simp [State.fld_setFld]

theorem State.fld_setFld_ne (s : State) {f g : Fld} (v : Nat) (h : f.key ≠ g.key) : (s.setFld g v).fld f = s.fld f := by
  simp [State.fld_setFld, h]

/-- A field of a state written out. -/
theorem State.fld_mk (p : List Instr) (r : Tab Nat) (m : List Host.Cell) (tb : TimeBase) (tsv : Tservo) (c : Tab Cand) (sm : Seam)
    (sy : Synth) (ou : Outs) (td : TdcArray) (li : Tab Link) (en : Engines) (mb : Mailbox) (ho : HostIf) (ba : Banks)
    (st : Stores) (pw : Power) (ep : Eps) (k : Nat) (f : Fld) :
    (State.mk p r m tb tsv c sm sy ou td li en mb ho ba st pw ep k).fld f = Tab.get resetField r f.key := rfl

theorem State.get_regs (s : State) (f : Fld) : Tab.get resetField s.regs f.key = s.fld f := rfl

theorem State.raise_eq (s : State) (f : Fld) : s.raise f = s.setFld f 1 := rfl
theorem State.clr_eq (s : State) (f : Fld) : s.clr f = s.setFld f 0 := rfl
theorem State.next_eq (s : State) (f : Fld) : s.next f = s.setFld f (s.fld f + 1) := rfl
theorem State.bump_eq (s : State) (f : Fld) : s.bump f = s.setFld f (min (2 ^ f.width - 1) (s.fld f + 1)) := rfl
theorem State.setPair_eq (s : State) (lo hi : Fld) (v : Nat) :
    s.setPair lo hi v = (s.setFld lo v).setFld hi (v / 2 ^ lo.width) := rfl
theorem State.setTriple_eq (s : State) (f0 f1 f2 : Fld) (v : Nat) :
    s.setTriple f0 f1 f2 v = ((s.setFld f0 v).setFld f1 (v / 2 ^ 32)).setFld f2 (v / 2 ^ 64) := rfl

/-- States with the same register file show the same fields. -/
theorem State.fld_congr {s t : State} (h : t.regs = s.regs) (f : Fld) : t.fld f = s.fld f := by simp [State.fld, h]

/-- Two writes of different fields to which the same key belongs never meet: keys tell fields of the map apart. -/
theorem Fld.key_eq (f : Fld) : f.key = f.addr * 32 + f.lo := rfl

/-! ### The tables of the units -/

@[simp] theorem State.cand_setCand_same (s : State) (n : Nat) (c : Cand) : (s.setCand n c).cand n = c := by
  simp [State.cand, State.setCand]

theorem State.cand_setCand_ne (s : State) {n m : Nat} (c : Cand) (h : m ≠ n) : (s.setCand n c).cand m = s.cand m := by
  simp [State.cand, State.setCand, Tab.get_set_ne _ _ c h]

@[simp] theorem State.thread_setThread_same (s : State) (e t : Nat) (x : Thread) : (s.setThread e t x).thread e t = x := by
  simp [State.thread, State.setThread]

theorem State.thread_setThread_ne (s : State) {e t e' t' : Nat} (x : Thread) (h : 4 * e' + t' ≠ 4 * e + t) :
    (s.setThread e t x).thread e' t' = s.thread e' t' := by
  simp [State.thread, State.setThread, Tab.get_set_ne _ _ x h]

@[simp] theorem State.thread_setFld (s : State) (f : Fld) (v e t : Nat) : (s.setFld f v).thread e t = s.thread e t := rfl
@[simp] theorem State.cand_setFld (s : State) (f : Fld) (v n : Nat) : (s.setFld f v).cand n = s.cand n := rfl

@[simp] theorem State.byte_setByte_same (s : State) (a : Nat) (v : BitVec 8) : (s.setByte a v).byte a = v := by
  simp [State.byte, State.setByte]

theorem State.byte_setByte_ne (s : State) {a b : Nat} (v : BitVec 8) (h : b ≠ a) : (s.setByte a v).byte b = s.byte b := by
  simp [State.byte, State.setByte, Tab.get_set_ne _ _ v h]

/-! ### General registers (10 R275) -/

@[simp] theorem Thread.gpr_zero (x : Thread) : x.gpr 0 = 0 := rfl

theorem Thread.gpr_setGpr (x : Thread) (n m : Nat) (v : BitVec 64) :
    (x.setGpr n v).gpr m = if m = n ∧ n ≠ 0 then v else x.gpr m := by
  by_cases hn : n = 0
  · simp [Thread.setGpr, hn]
  · by_cases hm : m = 0
    · have : ¬ (0 : Nat) = n := fun h => hn h.symm
      simp [Thread.gpr, hm, hn, this]
    · simp [Thread.gpr, Thread.setGpr, hm, hn, Tab.get_set]

theorem Thread.treg_setTreg (x : Thread) (n m : Nat) (v : BitVec 96) :
    (x.setTreg n v).treg m = if m = n then v else x.treg m := by
  simp [Thread.treg, Thread.setTreg, Tab.get_set]

end Sys2Proof.Machine
end

