-- ==== Sys2Proof/Laws/Mem.lean ====
section
/-! SUPPORT. Laws/Mem.lean: reading memory after a write, what a rinse or a loss of contents does to it, and that every operation
on memory keeps its canonical form. -/
namespace Sys2Proof.Machine

/-! ### Sparse tables under a filter -/

variable {α : Type}

theorem Tab.find_filter (p : Nat → Bool) (t : Tab α) (k : Nat) :
    Tab.find (t.filter (fun e => p e.1)) k = if p k then t.find k else none := by
  induction t with
  | nil => simp [Tab.find]
  | cons e r ih =>
    obtain ⟨k', v⟩ := e
    by_cases hp : p k' = true <;> by_cases hk : k' = k <;> simp_all [Tab.find]

theorem Tab.above_filter (p : Nat × α → Bool) (b : Nat) (t : Tab α) (h : Tab.above b t = true) :
    Tab.above b (t.filter p) = true := by
  simp only [Tab.above, List.all_eq_true] at *
  exact fun e he => h e (List.mem_of_mem_filter he)

theorem Tab.wf_filter [DecidableEq α] (d : Nat → α) (p : Nat × α → Bool) (t : Tab α) (h : Tab.wf d t = true) :
    Tab.wf d (t.filter p) = true := by
  induction t with
  | nil => rfl
  | cons e r ih =>
    obtain ⟨k, v⟩ := e
    simp only [Tab.wf_cons, Bool.and_eq_true] at h
    by_cases hp : p (k, v) = true
    · simp [hp, Tab.wf_cons, Tab.above_filter p k r h.1.2, ih h.2, by simpa using h.1.1]
    · simpa [List.filter_cons, hp] using ih h.2

/-- The canonical form depends on the default only at the listed keys. -/
theorem Tab.wf_congr [DecidableEq α] {d d' : Nat → α} (t : Tab α) (hd : ∀ e ∈ t, d' e.1 = d e.1) (h : Tab.wf d t = true) :
    Tab.wf d' t = true := by
  induction t with
  | nil => rfl
  | cons e r ih =>
    obtain ⟨k, v⟩ := e
    simp only [Tab.wf_cons, Bool.and_eq_true] at h ⊢
    refine ⟨⟨?_, h.1.2⟩, ih (fun e he => hd e (List.mem_cons_of_mem _ he)) h.2⟩
    have := hd (k, v) List.mem_cons_self
    simp only [decide_eq_true_eq] at *
    rw [this]
    exact h.1.1

/-! ### Bytes -/

theorem State.byte_setByte (s : State) (a b : Nat) (v : BitVec 8) : (s.setByte a v).byte b = if b = a then v else s.byte b :=
  Tab.get_set _ _ _ _ _

/-- A byte that is not listed, of a region that has lost nothing, outside the factory copies. -/
theorem State.byte_unlisted {s : State} {a : Nat} (hm : ∀ c ∈ s.mem, c.1 ≠ a) (hl : s.bank.lost = []) (hf : isFactory a = false) :
    s.byte a = 0 := by
  have hfind : Tab.find s.mem a = none := by
    generalize s.mem = m at hm
    induction m with
    | nil => rfl
    | cons e r ih =>
      obtain ⟨k, v⟩ := e
      have := hm (k, v) List.mem_cons_self
      simp_all [Tab.find]
  simp [State.byte, Tab.get, hfind, memDefault, hl, Tab.find, hf]

@[simp] theorem State.setBytes_zero (s : State) (a v : Nat) : s.setBytes a 0 v = s := rfl

theorem State.setBytes_succ (s : State) (a n v : Nat) :
    s.setBytes a (n + 1) v = (s.setByte a (BitVec.ofNat 8 v)).setBytes (a + 1) n (v / 256) := rfl

/-- A store of bytes changes memory alone. -/
theorem State.setBytes_eq (s : State) (a n v : Nat) : s.setBytes a n v = { s with mem := (s.setBytes a n v).mem } := by
  induction n generalizing s a v with
  | zero => rfl
  | succ n ih => rw [State.setBytes_succ, ih]; rfl

@[simp] theorem State.setBytes_regs (s : State) (a n v : Nat) : (s.setBytes a n v).regs = s.regs := by rw [State.setBytes_eq]
@[simp] theorem State.setBytes_bank (s : State) (a n v : Nat) : (s.setBytes a n v).bank = s.bank := by rw [State.setBytes_eq]
@[simp] theorem State.setBytes_eng (s : State) (a n v : Nat) : (s.setBytes a n v).eng = s.eng := by rw [State.setBytes_eq]
@[simp] theorem State.setBytes_stores (s : State) (a n v : Nat) : (s.setBytes a n v).stores = s.stores := by rw [State.setBytes_eq]
@[simp] theorem State.setBytes_tb (s : State) (a n v : Nat) : (s.setBytes a n v).tb = s.tb := by rw [State.setBytes_eq]
@[simp] theorem State.setBytes_pwr (s : State) (a n v : Nat) : (s.setBytes a n v).pwr = s.pwr := by rw [State.setBytes_eq]
@[simp] theorem State.setBytes_mb (s : State) (a n v : Nat) : (s.setBytes a n v).mb = s.mb := by rw [State.setBytes_eq]
@[simp] theorem State.setBytes_host (s : State) (a n v : Nat) : (s.setBytes a n v).host = s.host := by rw [State.setBytes_eq]
@[simp] theorem State.setBytes_fld (s : State) (a n v : Nat) (f : Fld) : (s.setBytes a n v).fld f = s.fld f := by
  simp [State.fld]

/-- A byte after a store of `n` bytes. -/
theorem State.byte_setBytes (s : State) (a n v b : Nat) :
    (s.setBytes a n v).byte b = if a ≤ b ∧ b < a + n then BitVec.ofNat 8 (v / 256 ^ (b - a)) else s.byte b := by
  induction n generalizing s a v with
  | zero => simp
  | succ n ih =>
    rw [State.setBytes_succ, ih, State.byte_setByte]
    by_cases hb : b = a
    · subst hb
      simp
    · by_cases hr : a + 1 ≤ b ∧ b < a + 1 + n
      · have h1 : a ≤ b ∧ b < a + (n + 1) := by omega
        have h2 : b - a = b - (a + 1) + 1 := by omega
        simp only [hr, h1, and_self, if_true, h2, Nat.pow_succ]
        rw [Nat.div_div_eq_div_mul, Nat.mul_comm]
      · have h1 : ¬ (a ≤ b ∧ b < a + (n + 1)) := by omega
        rw [if_neg hr, if_neg h1, if_neg hb]

theorem State.byte_setBytes_out (s : State) (a n v : Nat) {b : Nat} (h : b < a ∨ a + n ≤ b) :
    (s.setBytes a n v).byte b = s.byte b := by
  rw [State.byte_setBytes, if_neg (by omega)]

/-- A store leaves every byte outside its range alone. -/
theorem State.memKeptOutside_setBytes (s : State) (a n v : Nat) : MemKeptOutside s (s.setBytes a n v) a n :=
  fun _ h => s.byte_setBytes_out a n v h

/-- A range read depends on its bytes alone. -/
theorem State.bytes_congr {s t : State} {a n : Nat} (h : ∀ i, i < n → t.byte (a + i) = s.byte (a + i)) : t.bytes a n = s.bytes a n := by
  induction n generalizing a with
  | zero => rfl
  | succ n ih =>
    have h0 : t.byte a = s.byte a := by simpa using h 0 (by omega)
    have h1 : t.bytes (a + 1) n = s.bytes (a + 1) n := ih fun i hi => by
      have := h (i + 1) (by omega)
      rwa [show a + (i + 1) = a + 1 + i by omega] at this
    simp [State.bytes, h0, h1]

/-- Reading back the bytes just stored. -/
theorem State.bytes_setBytes (s : State) (a n v : Nat) : (s.setBytes a n v).bytes a n = v % 256 ^ n := by
  induction n generalizing s a v with
  | zero => simp [State.bytes, Nat.mod_one]
  | succ n ih =>
    have hb : (s.setBytes a (n + 1) v).byte a = BitVec.ofNat 8 v := by
      rw [State.byte_setBytes, if_pos (by omega)]; simp
    have hr : (s.setBytes a (n + 1) v).bytes (a + 1) n = v / 256 % 256 ^ n := by
      rw [State.setBytes_succ]; exact ih _ _ _
    have hp : v % 256 ^ (n + 1) = v % 256 + 256 * (v / 256 % 256 ^ n) := by
      rw [Nat.pow_succ, Nat.mul_comm, Nat.mod_mul]
    simp [State.bytes, hb, hr, hp]

/-- Reading a range that a store does not touch. -/
theorem State.bytes_setBytes_out (s : State) (a n v : Nat) {b m : Nat} (h : b + m ≤ a ∨ a + n ≤ b) :
    (s.setBytes a n v).bytes b m = s.bytes b m :=
  State.bytes_congr fun i hi => s.byte_setBytes_out a n v (by omega)

/-! ### Regions -/

theorem memDefault_set (lost : Tab Nat) (r k a : Nat) (h : regionOf a ≠ r) :
    memDefault (Tab.set (fun _ => 0) lost r k) a = memDefault lost a := by
  unfold memDefault
  rw [Tab.get_set_ne _ _ _ h]

theorem State.byte_zeroRegion (s : State) (r a : Nat) :
    (s.zeroRegion r).byte a = if regionOf a = r then (if isFactory a then Config.freeByte 0 a else 0) else s.byte a := by
  unfold State.byte State.zeroRegion Tab.get
  simp only [Tab.find_filter (fun k => regionOf k != r)]
  by_cases h : regionOf a = r
  · subst h
    simp [memDefault]
  · simp [h, memDefault_set _ _ _ _ h]

theorem State.byte_loseRegion (s : State) (r a : Nat) :
    (s.loseRegion r).byte a = if regionOf a = r then Config.freeByte s.bank.losses a else s.byte a := by
  unfold State.byte State.loseRegion Tab.get
  simp only [Tab.find_filter (fun k => regionOf k != r)]
  by_cases h : regionOf a = r
  · subst h
    simp [memDefault]
  · simp [h, memDefault_set _ _ _ _ h]

/-- After a loss every byte of the region is a free value. -/
theorem State.loseRegion_lost (s : State) (r : Nat) : RegionLost (s.loseRegion r) r :=
  ⟨s.bank.losses, fun a h => by rw [State.byte_loseRegion, if_pos h]⟩

/-- A bank holds no factory copy. -/
theorem isFactory_region {a : Nat} (h : isFactory a = true) : regionOf a = 30 := by
  simp only [isFactory, Bool.and_eq_true, decide_eq_true_eq] at h
  have hb : bankOf a = none := by
    unfold bankOf
    rw [if_neg (by omega), if_neg (by omega), if_neg (by omega), if_neg (by omega), if_neg (by omega), if_neg (by omega)]
  have ha : isAo a = false := by
    unfold isAo
    rw [decide_eq_false (by omega : ¬ a < 0x4004000), Bool.and_false]
  rw [regionOf, hb, ha]
  rfl

/-- After a rinse every byte of a bank reads zero. -/
theorem State.zeroRegion_zero (s : State) (r : Nat) (hr : r ≠ 30) : RegionZero (s.zeroRegion r) r := fun a h => by
  have hf : isFactory a = false := by
    by_contra hc
    exact hr (h ▸ isFactory_region (by simpa using hc))
  rw [State.byte_zeroRegion, if_pos h, hf]
  rfl

/-! ### The canonical form -/

/-- Memory and the regions that have lost their contents decide the form. -/
theorem State.memOk_congr {s t : State} (hm : t.mem = s.mem) (hb : t.bank.lost = s.bank.lost) (h : s.memOk) : t.memOk := by
  simpa only [State.memOk, hm, hb] using h

theorem State.memOk_setByte {s : State} (a : Nat) (v : BitVec 8) (h : s.memOk) : (s.setByte a v).memOk :=
  Tab.wf_set _ _ _ _ h

theorem State.memOk_setBytes {s : State} (a n v : Nat) (h : s.memOk) : (s.setBytes a n v).memOk := by
  induction n generalizing s a v with
  | zero => exact h
  | succ n ih => exact ih (a + 1) (v / 256) (State.memOk_setByte a _ h)

theorem State.memOk_filter {s : State} (r k : Nat) (h : s.memOk) :
    Memory.wf (Tab.set (fun _ => 0) s.bank.lost r k) (s.mem.filter (fun c => regionOf c.1 != r)) = true :=
  Tab.wf_congr _ (fun e he => memDefault_set _ _ _ _ (by simpa using List.of_mem_filter he)) (Tab.wf_filter _ _ _ h)

theorem State.memOk_zeroRegion {s : State} (r : Nat) (h : s.memOk) : (s.zeroRegion r).memOk := State.memOk_filter r 0 h

theorem State.memOk_loseRegion {s : State} (r : Nat) (h : s.memOk) : (s.loseRegion r).memOk :=
  State.memOk_filter r (s.bank.losses + 1) h

/-- A fold keeps the form when every step does. -/
theorem State.memOk_foldl {β : Type} {f : State → β → State} (hf : ∀ s b, s.memOk → (f s b).memOk) (l : List β) {s : State}
    (h : s.memOk) : (l.foldl f s).memOk := by
  induction l generalizing s with
  | nil => exact h
  | cons b r ih => exact ih (hf s b h)

/-- A fold keeps memory when every step does. -/
theorem State.mem_foldl {β : Type} {f : State → β → State} (hf : ∀ s b, (f s b).mem = s.mem ∧ (f s b).bank.lost = s.bank.lost)
    (l : List β) (s : State) : (l.foldl f s).mem = s.mem ∧ (l.foldl f s).bank.lost = s.bank.lost := by
  induction l generalizing s with
  | nil => exact ⟨rfl, rfl⟩
  | cons b r ih => exact ⟨(ih _).1.trans (hf s b).1, (ih _).2.trans (hf s b).2⟩

/-- Memory kept as data reads as before. -/
theorem State.memKept_of_eq {s t : State} (hm : t.mem = s.mem) (hb : t.bank.lost = s.bank.lost) : MemKept s t := fun a => by
  simp only [State.byte, hm, hb]

/-! ### No record borrows where the bytes of the flags are not listed (09 R259) -/

theorem State.borrower_none {s : State} {d : Nat} (hl : s.bank.lost = []) (hd : d < 2 ^ 17)
    (hm : ∀ c ∈ s.mem, c.1 % 256 ≠ 8 ∨ 0x3000000 ≤ c.1) : s.borrower d = none := by
  unfold State.borrower
  rw [List.find?_eq_none]
  intro i hi
  obtain ⟨k, hk, rfl⟩ := List.mem_map.1 hi
  have hk := List.mem_range.1 hk
  have hs : shardOf d < 8 := by unfold shardOf; omega
  have hb : s.byte (recordAt (shardOf d * 2 ^ 14 + k) + 8) = 0 := by
    refine State.byte_unlisted (fun c hc he => ?_) hl ?_
    · have := hm c hc
      unfold recordAt at he
      omega
    · unfold isFactory recordAt
      rw [decide_eq_false (by omega), Bool.false_and]
  have hp : s.peekRec (shardOf d * 2 ^ 14 + k) 8 1 = 0 := by
    unfold State.peekRec State.bytes
    rw [hb]
    rfl
  simp only [hp, Nat.zero_testBit, Bool.false_and, Bool.false_eq_true, not_false_eq_true]

end Sys2Proof.Machine
end

