-- ==== Sys2Proof/Laws/Ops.lean ====
section
/-! SUPPORT. Laws/Ops.lean: what the shared operations of Machine/Ops.lean can change at all, said once: registers, the engines'
threads, the vectors and the wake request, and nothing else; and that a gated command answers a next state. -/
namespace Sys2Proof.Machine

/-! ### The gates of a command -/

theorem State.live_eq (s t : State) : s.live t = .next (if s.powered then t else s) := rfl
theorem State.awake_eq (s t : State) : s.awake t = .next (if s.awakes then t else s) := rfl

theorem State.live_next {s : State} (t : State) (h : s.powered = true) : s.live t = .next t := by simp [State.live, h]
theorem State.awake_next {s : State} (t : State) (h : s.awakes = true) : s.awake t = .next t := by simp [State.awake, h]

theorem State.live_off {s : State} (t : State) (h : s.powered = false) : s.live t = .next s := by simp [State.live, h]
theorem State.awake_off {s : State} (t : State) (h : s.awakes = false) : s.awake t = .next s := by simp [State.awake, h]

/-- Reset leaves the part in service or in RECALL whenever it is in service. -/
theorem State.awakes_of_powered {s : State} (h : s.powered = true) : s.awakes = true := by
  simp only [State.powered, State.awakes, Bool.and_eq_true] at *
  exact ⟨h.1, by simp_all⟩

/-! ### What a report can change -/

/-- `t` differs from `s` in registers, threads, vectors and power requests at most. -/
def Quiet (s t : State) : Prop := t = { s with regs := t.regs, eng := t.eng, host := t.host, pwr := t.pwr }

theorem Quiet.refl (s : State) : Quiet s s := rfl

theorem Quiet.trans {s t u : State} (h : Quiet s t) (h' : Quiet t u) : Quiet s u := by
  unfold Quiet at *
  rw [h', h]

theorem Quiet.mem {s t : State} (h : Quiet s t) : t.mem = s.mem := by rw [h]
theorem Quiet.bank {s t : State} (h : Quiet s t) : t.bank = s.bank := by rw [h]
theorem Quiet.tb {s t : State} (h : Quiet s t) : t.tb = s.tb := by rw [h]
theorem Quiet.pending {s t : State} (h : Quiet s t) : t.pending = s.pending := by rw [h]
theorem Quiet.cands {s t : State} (h : Quiet s t) : t.cands = s.cands := by rw [h]
theorem Quiet.seam {s t : State} (h : Quiet s t) : t.seam = s.seam := by rw [h]
theorem Quiet.outs {s t : State} (h : Quiet s t) : t.outs = s.outs := by rw [h]
theorem Quiet.tdc {s t : State} (h : Quiet s t) : t.tdc = s.tdc := by rw [h]
theorem Quiet.links {s t : State} (h : Quiet s t) : t.links = s.links := by rw [h]
theorem Quiet.mb {s t : State} (h : Quiet s t) : t.mb = s.mb := by rw [h]
theorem Quiet.stores {s t : State} (h : Quiet s t) : t.stores = s.stores := by rw [h]
theorem Quiet.eps {s t : State} (h : Quiet s t) : t.eps = s.eps := by rw [h]

theorem Quiet.memKept {s t : State} (h : Quiet s t) : MemKept s t := State.memKept_of_eq h.mem (by rw [h.bank])
theorem Quiet.memOk {s t : State} (h : Quiet s t) (hs : s.memOk) : t.memOk := State.memOk_congr h.mem (by rw [h.bank]) hs

theorem quiet_ite {s t u : State} (c : Prop) [Decidable c] (ht : Quiet s t) (hu : Quiet s u) : Quiet s (if c then t else u) := by
  split <;> assumption

theorem quiet_setFld (s : State) (f : Fld) (v : Nat) : Quiet s (s.setFld f v) := rfl
theorem quiet_bump (s : State) (f : Fld) : Quiet s (s.bump f) := rfl
theorem quiet_setThread (s : State) (e t : Nat) (x : Thread) : Quiet s (s.setThread e t x) := rfl

theorem Quiet.setFld {s t : State} (h : Quiet s t) (f : Fld) (v : Nat) : Quiet s (t.setFld f v) := h.trans (quiet_setFld t f v)
theorem Quiet.raise {s t : State} (h : Quiet s t) (f : Fld) : Quiet s (t.raise f) := h.setFld f 1
theorem Quiet.clr {s t : State} (h : Quiet s t) (f : Fld) : Quiet s (t.clr f) := h.setFld f 0
theorem Quiet.next {s t : State} (h : Quiet s t) (f : Fld) : Quiet s (t.next f) := h.setFld f _
theorem Quiet.bump {s t : State} (h : Quiet s t) (f : Fld) : Quiet s (t.bump f) := h.trans (quiet_bump t f)

theorem quiet_wakeThread (s : State) (e t : Nat) : Quiet s (s.wakeThread e t) := by
  unfold State.wakeThread
  exact quiet_ite _ ((quiet_setThread s e t _).setFld _ _) (Quiet.refl s)

/-- An event of a thread changes registers and threads at most (R281). -/
theorem quiet_raiseEvent (s : State) (e t k : Nat) : Quiet s (s.raiseEvent e t k) := by
  unfold State.raiseEvent
  exact ((quiet_setFld s _ _).trans (quiet_setThread _ e t _)).trans (quiet_wakeThread _ e t)

/-- A vector changes its pending bits and its messages at most (R478). -/
theorem quiet_raiseVector (s : State) (v : Nat) : Quiet s (s.raiseVector v) := by
  unfold State.raiseVector
  refine quiet_ite _ (quiet_ite _ ?_ ?_) (quiet_setFld s _ _)
  · exact Quiet.trans (quiet_setFld s _ _) rfl
  · exact Quiet.trans (quiet_setFld s _ _) rfl

theorem quiet_faultLines (s : State) : Quiet s s.faultLines := quiet_setFld s _ _

theorem quiet_fenceOn (s : State) (src : Nat) : Quiet s (s.fenceOn src) := by
  unfold State.fenceOn
  exact quiet_ite _ (Quiet.refl s) (((((Quiet.refl s).raise _).next _).raise _).trans (quiet_faultLines _))

theorem quiet_fenceOff (s : State) (src : Nat) : Quiet s (s.fenceOff src) := by
  unfold State.fenceOff
  exact quiet_ite _ (((((Quiet.refl s).clr _).setFld _ _).setFld _ _).trans (quiet_faultLines _)) (Quiet.refl s)

theorem quiet_captureFirst (s : State) (src cls cause : Nat) : Quiet s (s.captureFirst src cls cause) := by
  unfold State.captureFirst
  exact quiet_ite _ (Quiet.refl s)
    ((((((((Quiet.refl s).setFld _ _).setFld _ _).setFld _ _).raise _).setFld _ _).setFld _ _).setFld _ _)

theorem quiet_appendLog (s : State) (src cls cause : Nat) : Quiet s (s.appendLog src cls cause) := by
  unfold State.appendLog
  exact quiet_ite _
    (((((((((Quiet.refl s).setFld _ _).setFld _ _).setFld _ _).raise _).setFld _ _).setFld _ _).setFld _ _).setFld _ _)
    ((((Quiet.refl s).bump _).raise _).bump _)

theorem quiet_collectorInt (s : State) (f : Fld) : Quiet s (s.collectorInt f) := by
  unfold State.collectorInt
  exact (quiet_ite _ (quiet_setFld s f 1) ((quiet_setFld s f 1).trans (quiet_raiseVector _ _))).trans (quiet_faultLines _)

theorem quiet_routeFault (s : State) (src : Nat) : Quiet s (s.routeFault src) := by
  unfold State.routeFault
  exact quiet_ite _ (Quiet.refl s) (quiet_ite _ (quiet_raiseEvent _ _ _ _) (Quiet.refl s))

theorem quiet_faultWake (s : State) (cls : Nat) : Quiet s (s.faultWake cls) := by
  unfold State.faultWake
  exact quiet_ite _ rfl rfl

/-- What the collector records of a report changes registers, threads, vectors and the wake request at most (R440 to R449). -/
theorem quiet_record (s : State) (src cls cause : Nat) : Quiet s (s.record src cls cause) := by
  unfold State.record
  refine quiet_ite _ (quiet_bump s _) ?_
  refine Quiet.trans ?_ (quiet_faultWake _ _)
  refine Quiet.trans ?_ (quiet_routeFault _ _)
  have h1 := ((quiet_setFld s (R.FLT_SRC_LAST_CLASS src) cls).trans (quiet_setFld _ (R.FLT_SRC_LAST_CAUSE src) cause)).trans
    (quiet_captureFirst _ src cls cause)
  have h2 := quiet_ite (2 ≤ cls) (h1.trans (quiet_appendLog _ src cls cause)) h1
  refine h2.trans ?_
  generalize (if 2 ≤ cls then _ else _ : State) = u
  match cls with
  | 1 => exact quiet_ite _ (quiet_collectorInt _ _) (Quiet.refl _)
  | 2 => exact quiet_collectorInt _ _
  | 0 => exact quiet_collectorInt _ _
  | n + 3 => exact quiet_collectorInt _ _

/-- A fold keeps all but these when every step does. -/
theorem quiet_foldl {β : Type} {f : State → β → State} (hf : ∀ s b, Quiet s (f s b)) (l : List β) (s : State) :
    Quiet s (l.foldl f s) := by
  induction l generalizing s with
  | nil => exact Quiet.refl s
  | cons b r ih => exact (hf s b).trans (ih _)

end Sys2Proof.Machine
end

