-- ==== Sys2Proof/WellFormed.lean ====
section
/-! DEFINITION. WellFormed.lean: the commands whose operands can occur. The operands with a range of their own (a port, a candidate,
a register word) are bounded by their types; what is checked here is what the types leave open. -/
namespace Sys2Proof

/-- The command can occur: its operands are within what the rules let an event bring. -/
def Instr.wellFormed : Instr → Bool
  -- at least one tick of the time base
  | .tbTick n => decide (1 ≤ n)
  -- an IRIG-B frame has 100 elements (03 R78)
  | .irigFrame _ w => w.length == 100
  -- an edge lies between two ticks (06 R173)
  | .tdcEdge _ _ num den => decide (num < den)
  -- the first bit of a frame lies between two ticks (07 R201)
  | .linkRxFrame _ _ _ num den _ => decide (num < den)
  -- a departure lies between two ticks (07 R209)
  | .launchFrame _ num den _ _ => decide (num < den)
  -- rows have 12 bits (12 R372)
  | .darnEnd _ rows _ => rows.all (fun r => decide (r.1 < 4096))
  -- pages and groups of the NV store (13 R391)
  | .nvScanDone torn ce ue => torn.all (fun p => decide (p < 8192)) && ce.all (fun g => decide (g < 65536)) && ue.all (fun g => decide (g < 65536))
  -- eight I/O banks (19 R497)
  | .recallEnd vdd _ => decide (vdd.length ≤ 8)
  -- COUNT has eight bits (17 R466)
  | .spiWrite _ _ words => decide (words.length ≤ 256)
  -- COUNT has eight bits (17 R469)
  | .i2cWriteFrame _ _ _ _ words => decide (words.length ≤ 256)
  -- a write carries bytes (17 R463)
  | .hostBankWrite _ data _ => !data.isEmpty
  | .registerWrite _ _ _ _ | .registerReadClear _ _ _ | .mailboxAdmit | .mbCreditRefill _ | .tbNow0Read _
  | .tbIncWrite _ _ | .leapArm _ | .leapCancel | .declareKnown | .uncBoundGrow | .tbStartTimeout | .tsvStageAdvance
  | .tsvRestart | .tsvLastStageWrite _ | .tsvStageWrite _ _ | .tsvSrcWrite _ | .qualPhaseSample _ _ _ | .lossOfSignal _
  | .activityRestored _ | .driftWatchEval | .candQualify _ | .driftHoldExpire _ | .disqMinExpire _ | .reobserve _
  | .qualCandEnWrite _ _ | .qualSteppedClear _ | .qualDriftWinWrite _ | .select _ | .clearPref | .selPendingSeam
  | .autoSelect | .revertTimerExpire | .seamComplete | .tsLock | .tsUnlock | .feedLossExpire | .uncertaintyPublish _
  | .seamFreeWrite _ | .learnSample _ | .hoModelRecompute | .dayClose | .tempMean60s | .hoModelEval _ | .snapshot
  | .pressCmdAlign _ _ | .pressCmdStep _ _ _ | .pressCmdSlew _ _ _ | .pressCmdAbort | .pressStepApply | .acquisitionStep
  | .pressAlignApply | .slewStart | .slewEnd | .pllPlanWrite _ _ | .pllStart _ | .pllStop _ | .handover _ | .handback _
  | .rotClr _ | .ldWindowEnd _ _ | .bandStale _ _ | .synDomainWrite _ _ | .synRampGo _ | .synRampAbort _
  | .rampStartAt _ | .rampUpdate _ | .outCfgWrite _ _ | .outDivWrite _ _ | .outTrimWrite _ _ | .trimWalkStep _ | .syncGo
  | .syncInEdge | .syncHoldStart | .syncInstant _ | .ppsEdge _ | .ppsCfgWrite _ _ _ | .frArm _ | .frStop _
  | .htRegCommit _ _ | .tdcRingWrite | .tdcChEnWrite _ _ _ | .tdcChDecWrite _ _ | .soakSet _ _ | .soakClear _ _ _
  | .ovenSlow _ _ | .tdcCalGo _ | .tdcOverlapEnd _ _ _ | .tdcCoreCalDone _ _ | .tdcCalDue _ | .tdcAutoCalStart
  | .linkEnable _ _ | .linkDisable _ _ | .cdrLock _ _ | .blockLock _ _ | .cdrLoss _ | .blockLockLoss _ | .moduleLos _ _
  | .moduleTxFault _ _ | .qlTimeout _ | .esmcTxInfo _ | .calendarFetch _ | .linkPhaseSample _ _ _ | .pcArm _ | .pcStop _
  | .pcUpdate _ | .lnkTrimWrite _ _ | .linkReadmit _ | .epdLookup _ _ | .epdInsert _ _ | .epdRemove _ _
  | .dirWindowWrite _ | .epdDirSaltWrite _ | .epIntervalEnd _ _ | .epFrame _ _ _ _ _ _ _ _ | .provision _ | .spare _
  | .epReadmit _ | .restore _ | .retire _ | .free _ | .setcal _ | .nop _ | .readRecord _ | .badOp _ | .opComplete _ _
  | .threadTimer _ _ | .heartbeatExpire _ | .roleCmd _ _ | .epochAdvanceDeferred _ | .engRun _ | .engPark _ _
  | .engDrainDone _ | .engMbRateWrite _ _ | .ibWrite _ _ _ _ | .undefinedInstruction _ _ | .add _ _ _ _ _
  | .sub _ _ _ _ _ | .and _ _ _ _ _ | .or _ _ _ _ _ | .xor _ _ _ _ _ | .shl _ _ _ _ _ | .shr _ _ _ _ _ | .sra _ _ _ _ _
  | .mul _ _ _ _ _ | .mulh _ _ _ _ _ | .sel _ _ _ _ _ | .cmpeq _ _ _ _ _ | .cmpne _ _ _ _ _ | .cmplt _ _ _ _ _
  | .cmpge _ _ _ _ _ | .cmpltu _ _ _ _ _ | .cmpgeu _ _ _ _ _ | .addi _ _ _ _ _ | .andi _ _ _ _ _ | .ori _ _ _ _ _
  | .xori _ _ _ _ _ | .shli _ _ _ _ _ | .shri _ _ _ _ _ | .srai _ _ _ _ _ | .cmpeqi _ _ _ _ _ | .cmpnei _ _ _ _ _
  | .cmplti _ _ _ _ _ | .cmpgei _ _ _ _ _ | .cmpltui _ _ _ _ _ | .cmpgeui _ _ _ _ _ | .ld8 _ _ _ _ _ _
  | .ld16 _ _ _ _ _ _ | .ld32 _ _ _ _ _ _ | .ld64 _ _ _ _ _ _ | .bankCeWriteback _ _ | .st8 _ _ _ _ _ _
  | .st16 _ _ _ _ _ _ | .st32 _ _ _ _ _ _ | .st64 _ _ _ _ _ _ | .xadd _ _ _ _ _ _ _ | .xswp _ _ _ _ _ _ _
  | .tld _ _ _ _ _ _ | .tst _ _ _ _ _ _ | .br _ _ _ | .beq _ _ _ _ | .bne _ _ _ _ | .blt _ _ _ _ | .bge _ _ _ _
  | .call _ _ _ | .enter1 _ _ _ | .ret _ _ _ | .tadd _ _ _ _ _ | .tsub _ _ _ _ _ | .tcmp _ _ _ _ _ | .tcvtSec _ _ _ _
  | .tcvtNs _ _ _ _ | .tcvtFrac _ _ _ _ | .tcvtFu _ _ _ _ | .tcvtMk _ _ _ _ _ | .tcvtMov _ _ _ _ | .stamp _ _ _ _
  | .push _ _ _ _ _ _ | .pop _ _ _ _ _ _ | .peek _ _ _ _ _ _ | .waite _ _ _ _ | .evack _ _ _ | .beat _ _ | .fence _ _
  | .rdsr _ _ _ _ | .wrfs _ _ _ | .epoch _ _ _ | .devr _ _ _ _ | .devw _ _ _ _ _ | .pressAlign _ _ _ _ _ _
  | .pressStep _ _ _ _ _ _ | .pressSlew _ _ _ _ _ _ | .pressAbort _ _ _ _ _ _ | .seamSelect _ _ _ _ _
  | .seamClearPref _ _ _ _ _ | .rampGo _ _ _ _ _ | .rampAbort _ _ _ _ _ | .feed _ _ _ _ _ | .schedPlace _ _ _ _ _ _ _ _
  | .schedCancel _ _ _ _ _ _ _ _ | .bnkPwrWrite _ _ | .rinseEnd _ | .darnPreserving _ | .darnDestructive _
  | .ringEnable _ _ | .ringDisable _ _ | .ringStopWrite _ _ | .ringDoorbell _ _ _ | .otpWindowWrite | .otpBurn _ _
  | .otpSeal _ _ | .otpRevoke _ _ | .otpAdopt _ | .otpCmdComplete _ _ | .nvWrite _ _ _ _ | .nvBufferIdleCommit _ _
  | .nvFlush _ _ | .nvRecheck | .resetRelease _ | .resetAssert _ _ | .modeCmd _ | .modeChangeDone | .factoryReq _
  | .pwrEnterIdle | .pwrEnterSleep | .pwrEnterDeepSleep | .pwrEnterOff | .pwrWakeHost | .pwrEntryDrained
  | .pwrEntrySave _ _ _ | .wakePin | .wakeAlarm | .i2cWake _ | .ledgerCalWindow _ | .ledgerSrcDetect | .aoOverload _
  | .supplyFault _ _ _ | .ovenSupplyLow | .vaoLoss _ _ _ | .faultReport _ _ _ | .brokenWire _ _ | .promoWindowExpire _
  | .fltClear _ | .fltLogAck _ | .fltFirstAck | .fltInject _ _ _ | .hostMbRateWrite _ | .pciePerst | .spiRead _ _ _
  | .spiStatus | .spiCsRise | .spiCompatRead _ _ _ | .spiCompatWrite _ _ _ | .i2cReadFrame _ _ _ | .i2cStatusRead _
  | .i2cStop | .extest | .idcode | .samplePreload | .highz | .clamp | .bypass | .dbgMem _ _ _ | .dbgEngRead _ _ _
  | .dbgEngWrite _ _ _ _ | .dbgEngStep _ _ | .slotPost _ _ | .slotStageWrite _ _ _ _ | .slotAck _ _ | .msixUnmask _ _
  | .modulePresence _ _ | .pcsBlockErrors _ | .pcieLinkState _ _ _ _ | .supplyRestored | .ovenSupplyRestored => true

end Sys2Proof
end

