-- ==== Sys2Proof/Tests/Slice0.lean ====
section
/-! SUPPORT. Tests/Slice0.lean: an ill-formed term for each check of WellFormed, worked examples of the spec, and for every statement
with hypotheses states and operands that meet them. -/
namespace Sys2Proof.Machine
set_option Elab.async false

/-! ### Ill-formed commands -/

theorem test_wf_tbTick : (Instr.tbTick 0).wellFormed = false ∧ (Instr.tbTick 1).wellFormed = true := by decide
theorem test_wf_irigFrame : (Instr.irigFrame 0 (List.replicate 99 0)).wellFormed = false ∧
    (Instr.irigFrame 0 (List.replicate 100 0)).wellFormed = true := by decide
theorem test_wf_tdcEdge : (Instr.tdcEdge 0 false 3 3).wellFormed = false ∧ (Instr.tdcEdge 0 false 2 3).wellFormed = true := by
  decide
theorem test_wf_linkRxFrame : (Instr.linkRxFrame 0 [] true 3 3 false).wellFormed = false := by decide
theorem test_wf_launchFrame : (Instr.launchFrame 0 3 3 0 0).wellFormed = false := by decide
theorem test_wf_darnEnd : (Instr.darnEnd 0 [(4096, true)] none).wellFormed = false ∧ (Instr.darnEnd 0 [(4095, true)] none).wellFormed = true := by
  decide
theorem test_wf_nvScanDone : (Instr.nvScanDone [8192] [] []).wellFormed = false ∧ (Instr.nvScanDone [] [65536] []).wellFormed = false ∧
    (Instr.nvScanDone [] [] [65536]).wellFormed = false ∧ (Instr.nvScanDone [8191] [65535] [65535]).wellFormed = true := by decide
theorem test_wf_recallEnd : (Instr.recallEnd (List.replicate 9 0) 0).wellFormed = false ∧
    (Instr.recallEnd (List.replicate 8 0) 0).wellFormed = true := by decide
theorem test_wf_spiWrite : (Instr.spiWrite 0 0 (List.replicate 257 0)).wellFormed = false := by decide +kernel
theorem test_wf_i2cWriteFrame : (Instr.i2cWriteFrame 0x20 0x5A 0 0 (List.replicate 257 0)).wellFormed = false := by decide +kernel
theorem test_wf_hostBankWrite : (Instr.hostBankWrite 0 [] true).wellFormed = false := by decide

/-! ### Worked examples of the spec -/

/-- The state after a command; a command that does not complete leaves the state. -/
def after (c : Instr) (s : State) : State :=
  match exec c s with
  | .next t => t
  | _ => s

/-- The worked example under R42: five ticks of the factory plan are 524,288 fu. -/
theorem test_five_ticks :
    (after (.tbTick 5) { State.reset with tb := { State.reset.tb with running := true } }).tb.now = 524288 := by decide +kernel

/-- The worked example under R8: 1,750,000,000 s, 250,000,000 ns and 0.5 ns. -/
theorem test_hub_form : encodeHub (1750000000 * fuPerSec + 250000000 * 65536 + 32768) = 0x0000684EE1800EE6B2808000 ∧
    decodeHub 0x0000684EE1800EE6B2808000 = 1750000000 * fuPerSec + 250000000 * 65536 + 32768 := by decide +kernel

/-- Ring 112 of the worked example under R367. -/
def ring112 : State := (State.reset.setFld (R.RING_HEAD_INDEX 112) 0x1FFF0).setFld (R.RING_TAIL_INDEX 112) 0x10

theorem test_ring_count : ring112.ringCount 112 = 32 ∧ ring112.ringEntry 112 0x1FFF0 = 0x3447E00 ∧ ring112.ringEntry 112 15 = 0x34401E0 := by
  decide +kernel
theorem test_ring_doorbell : (after (.ringDoorbell 112 0x10 false) ring112).ringHead 112 = 0x10 ∧
    (after (.ringDoorbell 112 0x10 false) ring112).ringCount 112 = 0 := by decide +kernel
theorem test_ring_doorbell_refused : (after (.ringDoorbell 112 0x31 false) ring112).ringHead 112 = 0x1FFF0 ∧
    (after (.ringDoorbell 112 0x31 false) ring112).flag (R.RING_STAT_DB_REJ 112) = true := by decide +kernel

/-- The record of the worked example under R488. -/
theorem test_record_address : recordAt 18977 + 100 = 0x14A2164 ∧ shardOf 18977 = 1 ∧ windowOf 0x14A2164 = some 17 ∧
    mapped 0x5070004 = false ∧ mapped 0x200000 = false ∧ windowOf 0x1FFFE0 = some 7 := by decide +kernel

/-- A word issued by THR_0 of ENG_0 with g2 = 7. -/
def issued (w : Nat) : State :=
  let s := State.reset.setThread 0 0 ((State.reset.thread 0 0).setGpr 2 7)
  s.runWord 0 0 { w := w, v1 := false }

/-- The words assembled under R310: ADDI g3, g0, 100. -/
theorem test_word_addi : ((issued 0x04600064).thread 0 0).gpr 3 = 100 ∧ (issued 0x04600064).pc 0 0 = 4 := by decide +kernel
/-- BNE g4, -3 words: g4 is 0, so the branch is not taken; with g2 it is. -/
theorem test_word_bne : (issued 0x689FFFFD).pc 0 0 = 4 ∧ (issued 0x685FFFFD).pc 0 0 = 0x3FFF4 := by decide +kernel
/-- ADD g1, g2, g2 (major 0x00, fn 0x000) and SUB g1, g0, g2 (fn 0x001). -/
theorem test_word_add_sub : ((issued 0x00221000).thread 0 0).gpr 1 = 14 ∧
    ((issued 0x00201001).thread 0 0).gpr 1 = 0xFFFFFFFFFFFFFFF9 := by decide +kernel

/-- The form of memory is met by a state that lists a byte, and its step answers. -/
theorem test_hyps_MemoryForm : ∃ s t : State, s.memOk ∧ s.mem ≠ [] ∧ step s = .next t :=
  ⟨{ State.reset with mem := [(0x100, 1)], pending := [.tbTick 1] }, _, (by unfold State.memOk; decide +kernel), by decide, rfl⟩

/-! ### States and operands that meet the hypotheses of the statements -/

/-- The hypotheses of the clauses of `Obligations.TimeBaseTick` are met. -/
theorem test_hyps_TimeBaseTick :
  (∃ (s : State) (n : Nat), s.powered = true ∧ s.tb.running = true ∧ 1 ≤ n ∧ s.pwr.wakeDue = false ∧ s.tb.restore = none ∧ s.seam.slew = none ∧ s.seam.press = none ∧ s.seam.acq = none ∧ s.fld R.TB_STATUS_LEAP_ARMED = 0 ∧ s.clkSrc ≠ 2 ∧ s.fld R.TB_INC_FRAC_DEN ≠ 0) ∧
  (∃ (s : State) (n : Nat), s.powered = true ∧ s.tb.running = true ∧ 1 ≤ n ∧ s.pwr.wakeDue = false ∧ s.tb.restore = none ∧ s.seam.slew = none ∧ s.seam.press = none ∧ s.seam.acq = none ∧ s.fld R.TB_STATUS_LEAP_ARMED = 0 ∧ s.clkSrc ≠ 2 ∧ s.fld R.TB_INC_FRAC_DEN = 0) := by
  exact ⟨⟨{ State.reset with tb := { TimeBase.init with running := true } }, 529592527027064, by decide +kernel⟩,
    ⟨{ (State.reset.setFld R.TB_INC_FRAC_DEN 0) with tb := { TimeBase.init with running := true } }, 99, by decide +kernel⟩⟩

/-- The hypotheses of the clauses of `Obligations.LeapAppliedInTheTick` are met. -/
theorem test_hyps_LeapAppliedInTheTick :
  (∃ s : State, s.powered = true ∧ s.tb.running = true ∧ s.pwr.wakeDue = false ∧ s.tb.restore = none ∧ ((s.advance 1).stepDue).fld R.TB_STATUS_LEAP_ARMED = 1 ∧ ((s.advance 1).stepDue).tb.leapAt ≤ ((s.advance 1).stepDue).hubSec) := by
  exact ⟨{ (State.reset.setFld R.TB_STATUS_LEAP_ARMED 1) with tb := { TimeBase.init with running := true } }, by decide +kernel⟩

/-- The hypotheses of the clauses of `Obligations.TimeBaseCommands` are met, part 1. -/
theorem test_hyps_TimeBaseCommands_1 :
  (∃ s : State, s.powered = true) ∧
  (∃ s : State, s.powered = true ∧ s.tiFenced = false ∧ s.structural = true) ∧
  (∃ (s : State) (v : BitVec 32), s.powered = true ∧ s.tiFenced = false ∧ s.structural = true ∧ (v.toNat / 2 ^ 16 = 0 ∨ v.toNat % 2 ^ 16 < v.toNat / 2 ^ 16)) ∧
  (∃ (s : State) (v : BitVec 32), s.powered = true ∧ s.tiFenced = false ∧ s.structural = true ∧ 16 ≤ v.toNat % 64 ∧ v.toNat % 64 ≤ 32) ∧
  (∃ (s : State) (reg : Fin 3) (v : BitVec 32), s.powered = true ∧ s.tiFenced = false ∧ (s.structural = false ∨ (reg = 1 ∧ v.toNat / 2 ^ 16 ≠ 0 ∧ v.toNat / 2 ^ 16 ≤ v.toNat % 2 ^ 16) ∨ (reg = 2 ∧ (v.toNat % 64 < 16 ∨ 32 < v.toNat % 64)))) ∧
  (∃ (s : State) (delta : Fin 4), s.powered = true ∧ s.tiFenced = false ∧ (delta = 1 ∨ delta = 3) ∧ s.hubSec < s.leapAtReg) ∧
  (∃ (s : State) (delta : Fin 4), s.powered = true ∧ s.tiFenced = false ∧ (delta = 1 ∨ delta = 3) ∧ s.leapAtReg ≤ s.hubSec) ∧
  (∃ s : State, s.powered = true ∧ s.tiFenced = false) := by
  exact ⟨⟨State.reset, by decide +kernel⟩,
    ⟨(State.reset.setFld R.SYS_MODE_MODE 4), by decide +kernel⟩,
    ⟨(State.reset.setFld R.SYS_MODE_MODE 4), 0x00020000#32, by decide +kernel⟩,
    ⟨(State.reset.setFld R.SYS_MODE_MODE 5), 0x6ab7ef19#32, by decide +kernel⟩,
    ⟨State.reset, 2, 0x02000000#32, by decide +kernel⟩,
    ⟨(State.reset.setFld R.TB_LEAP_AT_LO_AT_LO 1), 3, by decide +kernel⟩,
    ⟨State.reset, 3, by decide +kernel⟩,
    ⟨State.reset, by decide +kernel⟩⟩

/-- The hypotheses of the clauses of `Obligations.TimeBaseCommands` are met, part 2. -/
theorem test_hyps_TimeBaseCommands_2 :
  (∃ s : State, s.powered = true ∧ s.fld R.TB_STATUS_TIME_UNCERTAIN = 1 ∧ s.uncBound < 2 ^ 64 - 1 ∧ s.tsState ≠ 2 ∧ s.tiFenced = false) ∧
  (∃ s : State, s.powered = true ∧ (s.fld R.TB_STATUS_TIME_UNCERTAIN = 0 ∨ s.uncBound = 2 ^ 64 - 1 ∨ s.tsState = 2 ∨ s.tiFenced = true)) ∧
  (∃ s : State, s.powered = true ∧ s.tb.running = false ∧ s.fld (R.SYN_PLL_STATUS_STATE 0) ≠ 3) ∧
  (∃ s : State, s.powered = true ∧ (s.tb.running = true ∨ s.fld (R.SYN_PLL_STATUS_STATE 0) = 3)) ∧
  (∃ s : State, s.powered = true ∧ s.tiFenced = true) := by
  exact ⟨⟨(State.reset.setFld R.TB_UNC_BOUND_HI_BOUND 3), by decide +kernel⟩,
    ⟨State.reset, by decide +kernel⟩,
    ⟨State.reset, by decide +kernel⟩,
    ⟨{ State.reset with tb := { TimeBase.init with running := true } }, by decide +kernel⟩,
    ⟨(State.reset.setFld R.FLT_STATUS_TI_FENCED 1), by decide +kernel⟩⟩

/-- The hypotheses of the clauses of `Obligations.ServoCommands` are met. -/
theorem test_hyps_ServoCommands :
  (∃ (s : State) (k : Fin 8), s.powered = true ∧ s.stage = k ∧ s.tservoFenced = false ∧ s.stageReady = true ∧ s.fld R.TSV_CTL_LAST_STAGE < 8) ∧
  (∃ s : State, s.powered = true ∧ (s.stageReady = false ∨ s.tservoFenced = true)) ∧
  (∃ (s : State) (k : Fin 8), s.powered = true ∧ s.stage = k ∧ s.tservoFenced = false ∧ s.restartStage < 8) ∧
  (∃ (s : State) (k : Fin 8) (n : Fin 8), s.powered = true ∧ s.stage = k ∧ s.tservoFenced = false ∧ k ≤ n) ∧
  (∃ (s : State) (k : Fin 8) (n : Fin 8), s.powered = true ∧ s.stage = k ∧ s.tservoFenced = false ∧ n < k) ∧
  (∃ s : State, s.powered = true ∧ s.tservoFenced = false) ∧
  (∃ (s : State) (v : Fin 4), s.powered = true ∧ s.tservoFenced = false ∧ s.tsvSrc ≠ v) ∧
  (∃ s : State, s.powered = true ∧ s.tiFenced = false ∧ s.fenced 0x001 = true) := by
  exact ⟨⟨{ State.reset with tb := { TimeBase.init with elapsed := 58982400000000000 } }, 0, by decide +kernel⟩,
    ⟨State.reset, by decide +kernel⟩,
    ⟨State.reset, 0, by decide +kernel⟩,
    ⟨(State.reset.setFld R.TSV_STATUS_STAGE 3), 3, 7, by decide +kernel⟩,
    ⟨(State.reset.setFld R.TSV_STATUS_STAGE 5), 5, 3, by decide +kernel⟩,
    ⟨State.reset, by decide +kernel⟩,
    ⟨State.reset, 3, by decide +kernel⟩,
    ⟨(State.reset.setFld (R.FLT_SRC_FENCED 1) 1), by decide +kernel⟩⟩

/-- The hypotheses of the clauses of `Obligations.CandidateSamples` are met, part 1. -/
theorem test_hyps_CandidateSamples_1 :
  (∃ (s : State) (n : Fin 48), s.powered = true ∧ s.qualFenced = false ∧ s.candEn n = true ∧ 16 ≤ (n : Nat)) ∧
  (∃ (s : State) (n : Fin 16) (num : Nat) (den : Nat), s.powered = true ∧ s.tb.running = true ∧ s.qualFenced = false ∧ s.candEn n = true ∧ s.kind n ≠ 3 ∧ s.edgeGlitch (64 + n) (s.edgeAt num den).floor.toNat = true) ∧
  (∃ (s : State) (n : Fin 16) (num : Nat) (den : Nat), s.powered = true ∧ s.tb.running = true ∧ s.qualFenced = false ∧ s.candEn n = true ∧ s.kind n ≠ 3 ∧ s.edgeGlitch (64 + n) (s.edgeAt num den).floor.toNat = false) ∧
  (∃ (s : State) (n : Fin 48) (v : Int) (gap : Nat), s.powered = true ∧ ((n : Nat) < 16 ∨ gap ≠ 0) ∧ (s.cand n).stamp ≠ some v) ∧
  (∃ (s : State) (n : Fin 48) (v : Int) (gap : Nat), s.powered = true ∧ s.qualFenced = false ∧ s.candEn n = true ∧ ((n : Nat) < 16 ∨ gap ≠ 0) ∧ (s.cand n).stamp = some v ∧ s.fld (R.QUAL_CAND_STATE_STATE n) = 0) ∧
  (∃ (s : State) (n : Fin 48) (v : Int) (gap : Nat), s.powered = true ∧ s.qualFenced = false ∧ s.candEn n = true ∧ ((n : Nat) < 16 ∨ gap ≠ 0) ∧ (s.cand n).stamp = some v ∧ s.fld (R.QUAL_CAND_STATE_STATE n) ≠ 0 ∧ s.timeCand n = false ∧ (s.cand n).origin.isSome = true) ∧
  (∃ (s : State) (n : Fin 48) (v : Int) (gap : Nat), s.powered = true ∧ s.qualFenced = false ∧ s.candEn n = true ∧ ((n : Nat) < 16 ∨ gap ≠ 0) ∧ (s.cand n).stamp = some v ∧ s.fld (R.QUAL_CAND_STATE_STATE n) ≠ 0 ∧ s.timeCand n = true) ∧
  (∃ (s : State) (n : Fin 16) (w : List Nat), s.powered = true ∧ s.qualFenced = false ∧ s.candEn n = true ∧ s.kind n = 3 ∧ (s.irigDecode n w).isSome = true ∧ (s.cand n).irig.isSome = true) := by
  exact ⟨⟨(State.reset.setFld (R.QUAL_CAND_CFG_EN 46) 1), 46, by decide +kernel⟩,
    ⟨{ (State.reset.setFld (R.QUAL_CAND_CFG_EN 2) 1) with tb := { TimeBase.init with running := true }, cands := [(2, { Cand.init with origin := some 77, p0 := 3, kept := 4, stamp := some 5000, lastEdge := some 6553600000000000, samples := ([] ++ List.replicate 99 { t := 3, x := 4, p := 5 }), drift := ([] ++ List.replicate 99 { t := 3, x := 4, p := 5 }) })] }, 2, 96416, 55, by decide +kernel⟩,
    ⟨{ (State.reset.setFld (R.QUAL_CAND_CFG_EN 0) 1) with tb := { TimeBase.init with running := true } }, 0, 68110, 2, by decide +kernel⟩,
    ⟨State.reset, 5, 5000, 4, by decide +kernel⟩,
    ⟨{ (State.reset.setFld (R.QUAL_CAND_CFG_EN 0) 1) with cands := [(0, { Cand.init with origin := some 77, p0 := 3, kept := 4, stamp := some (-7), lastEdge := some 6553600000000000, samples := ([] ++ List.replicate 99 { t := 3, x := 4, p := 5 }), drift := [{ t := 3, x := 4, p := 5 }, { t := 3, x := 4, p := 5 }, { t := 3, x := 4, p := 5 }, { t := 3, x := 4, p := 5 }] })] }, 0, (-7), 58, by decide +kernel⟩,
    ⟨{ ((State.reset.setFld (R.QUAL_CAND_CFG_EN 46) 1).setFld (R.QUAL_CAND_STATE_STATE 46) 2) with cands := [(46, { Cand.init with origin := some 77, p0 := 3, kept := 4, stamp := some 5000, lastEdge := some 6553600000000000, samples := ([] ++ List.replicate 99 { t := 3, x := 4, p := 5 }), drift := [{ t := 3, x := 4, p := 5 }, { t := 3, x := 4, p := 5 }, { t := 3, x := 4, p := 5 }, { t := 3, x := 4, p := 5 }] })] }, 46, 5000, 312, by decide +kernel⟩,
    ⟨{ (((State.reset.setFld (R.QUAL_CAND_CFG_EN 1) 1).setFld (R.QUAL_CAND_CFG_KIND 1) 2).setFld (R.QUAL_CAND_STATE_STATE 1) 2) with cands := [(1, { Cand.init with origin := some 77, p0 := 3, kept := 4, stamp := some 5000, lastEdge := some 6553600000000000, runAt := 6547046400000000, pairOk := true })] }, 1, 5000, 36, by decide +kernel⟩,
    ⟨{ ((State.reset.setFld (R.QUAL_CAND_CFG_EN 1) 1).setFld (R.QUAL_CAND_CFG_KIND 1) 3) with cands := [(1, { Cand.init with lastEdge := some 6553600000000000, runAt := 6547046400000000, irig := some 5, prog := some 9 })] }, 1, [8000, 2000, 2000, 2000, 2000, 2000, 2000, 2000, 2000, 8000, 2000, 2000, 2000, 2000, 2000, 2000, 2000, 2000, 2000, 8000, 2000, 2000, 2000, 2000, 2000, 2000, 2000, 2000, 2000, 8000, 5000, 2000, 2000, 2000, 2000, 2000, 2000, 2000, 2000, 8000, 2000, 2000, 2000, 2000, 2000, 2000, 2000, 2000, 2000, 8000, 2000, 2000, 2000, 2000, 2000, 2000, 2000, 2000, 2000, 8000, 2000, 2000, 2000, 2000, 2000, 2000, 2000, 2000, 2000, 8000, 2000, 2000, 2000, 2000, 2000, 2000, 2000, 2000, 2000, 8000, 2000, 2000, 2000, 2000, 2000, 2000, 2000, 2000, 2000, 8000, 2000, 2000, 2000, 2000, 2000, 2000, 2000, 2000, 2000, 8000], by decide +kernel⟩⟩

/-- The hypotheses of the clauses of `Obligations.CandidateSamples` are met, part 2. -/
theorem test_hyps_CandidateSamples_2 :
  (∃ (s : State) (n : Fin 16) (w : List Nat), s.powered = true ∧ s.qualFenced = false ∧ s.candEn n = true ∧ s.kind n = 3 ∧ (w.length ≠ 100 ∨ w.any (fun x => (irigBit x).isNone) = true)) ∧
  (∃ (s : State) (n : Fin 48), s.powered = true ∧ s.qualFenced = false ∧ s.soak = false ∧ s.fld (R.QUAL_CAND_STATE_STATE n) ≠ 0 ∧ (s.cand n).samples ≠ []) ∧
  (∃ s : State, s.powered = true ∧ (s.qualFenced = true ∨ s.soak = true)) := by
  exact ⟨⟨((State.reset.setFld (R.QUAL_CAND_CFG_EN 2) 1).setFld (R.QUAL_CAND_CFG_KIND 2) 3), 2, [1, 2, 3], by decide +kernel⟩,
    ⟨{ ((State.reset.setFld (R.QUAL_CAND_STATE_STATE 47) 4).setFld R.TDC_STATUS_SOAK 0) with cands := [(47, { Cand.init with origin := some 77, p0 := 3, kept := 4, stamp := some (-7), lastEdge := some 6553600000000000, samples := ([] ++ List.replicate 99 { t := 3, x := 4, p := 5 }), drift := [{ t := 3, x := 4, p := 5 }, { t := 3, x := 4, p := 5 }, { t := 3, x := 4, p := 5 }, { t := 3, x := 4, p := 5 }] })] }, 47, by decide +kernel⟩,
    ⟨State.reset, by decide +kernel⟩⟩

/-- The hypotheses of the clauses of `Obligations.CandidateStates` are met, part 1. -/
theorem test_hyps_CandidateStates_1 :
  (∃ (s : State) (n : Fin 48), s.powered = true ∧ s.qualFenced = false ∧ s.candEn n = true ∧ s.fld (R.QUAL_CAND_STATE_STATE n) ≠ 0 ∧ ((n : Nat) < 16 → s.edgesLost n = true)) ∧
  (∃ (s : State) (n : Fin 48), s.powered = true ∧ s.qualFenced = false ∧ s.candEn n = true ∧ s.fld (R.QUAL_CAND_STATE_STATE n) = 0 ∧ s.active n = true) ∧
  (∃ (s : State) (n : Fin 48), s.powered = true ∧ s.active n = false) ∧
  (∃ (s : State) (n : Fin 16), s.powered = true ∧ s.edgesLost n = false) ∧
  (∃ (s : State) (n : Fin 48), s.powered = true ∧ s.qualFenced = false ∧ s.soak = false ∧ s.fld (R.QUAL_CAND_STATE_STATE n) = 1 ∧ s.obsDone n = true ∧ (s.cand n).monitorFails = false) ∧
  (∃ (s : State) (n : Fin 48), s.powered = true ∧ (s.qualFenced = true ∨ s.soak = true ∨ s.fld (R.QUAL_CAND_STATE_STATE n) ≠ 1 ∨ s.obsDone n = false ∨ (s.cand n).monitorFails = true)) ∧
  (∃ (s : State) (n : Fin 48), s.powered = true ∧ s.qualFenced = false ∧ s.fld (R.QUAL_CAND_STATE_STATE n) = 3 ∧ (s.cand n).suspAt + s.fld R.QUAL_DRIFT_WIN_HOLD * fuPerSec ≤ s.tb.elapsed) ∧
  (∃ (s : State) (n : Fin 48), s.powered = true ∧ s.qualFenced = false ∧ s.fld (R.QUAL_CAND_STATE_STATE n) = 4 ∧ s.disqCleared n = true ∧ (s.cand n).disqAt + s.fld R.QUAL_DISQ_MIN_MIN * fuPerSec ≤ s.tb.elapsed) := by
  exact ⟨⟨((State.reset.setFld (R.QUAL_CAND_CFG_EN 2) 1).setFld (R.QUAL_CAND_STATE_STATE 2) 4), 2, by decide +kernel⟩,
    ⟨{ ((State.reset.setFld (R.QUAL_CAND_CFG_EN 2) 1).setFld (R.QUAL_CAND_CFG_KIND 2) 2) with cands := [(2, { Cand.init with origin := some 77, p0 := 3, kept := 4, stamp := some 5000, lastEdge := some 6553600000000000, runAt := 6547046400000000, pairOk := true })] }, 2, by decide +kernel⟩,
    ⟨State.reset, 1, by decide +kernel⟩,
    ⟨{ State.reset with cands := [(2, { Cand.init with origin := some 77, p0 := 3, kept := 4, stamp := some 5000, lastEdge := some 6553600000000000, runAt := 6547046400000000, irig := some 5, prog := some 9 })] }, 2, by decide +kernel⟩,
    ⟨{ ((State.reset.setFld (R.QUAL_CAND_STATE_STATE 1) 1).setFld R.TDC_STATUS_SOAK 0) with tb := { TimeBase.init with elapsed := 6553600000000005 } }, 1, by decide +kernel⟩,
    ⟨State.reset, 2, by decide +kernel⟩,
    ⟨{ (State.reset.setFld (R.QUAL_CAND_STATE_STATE 2) 3) with tb := { TimeBase.init with elapsed := 399715000000000000007 } }, 2, by decide +kernel⟩,
    ⟨{ (State.reset.setFld (R.QUAL_CAND_STATE_STATE 46) 4) with tb := { TimeBase.init with elapsed := 91796000000000000007 } }, 46, by decide +kernel⟩⟩

/-- The hypotheses of the clauses of `Obligations.CandidateStates` are met, part 2. -/
theorem test_hyps_CandidateStates_2 :
  (∃ (s : State) (n : Fin 48), s.powered = true ∧ s.selected ≠ n ∧ (s.fld (R.QUAL_CAND_STATE_STATE n) = 2 ∨ s.fld (R.QUAL_CAND_STATE_STATE n) = 3 ∨ s.fld (R.QUAL_CAND_STATE_STATE n) = 4)) ∧
  (∃ (s : State) (n : Fin 48), s.powered = true ∧ s.selected = n) ∧
  (∃ s : State, s.powered = true) ∧
  (∃ (s : State) (n : Fin 48), s.powered = true ∧ s.fld (R.QUAL_CAND_STATE_STATE n) ≠ 0) ∧
  (∃ (s : State) (v : BitVec 32), s.powered = true ∧ s.fld R.QUAL_DRIFT_WIN_WIN ≠ v.toNat % 2 ^ 16) := by
  exact ⟨⟨(State.reset.setFld (R.QUAL_CAND_STATE_STATE 47) 3), 47, by decide +kernel⟩,
    ⟨(State.reset.setFld R.SEAM_STATUS_SEL 2), 2, by decide +kernel⟩,
    ⟨State.reset, by decide +kernel⟩,
    ⟨(State.reset.setFld (R.QUAL_CAND_STATE_STATE 0) 4), 0, by decide +kernel⟩,
    ⟨State.reset, 0xffffffff#32, by decide +kernel⟩⟩

/-- The hypotheses of the clauses of `Obligations.SelectionCommands` are met, part 1. -/
theorem test_hyps_SelectionCommands_1 :
  (∃ (s : State) (m : Fin 64), s.powered = true ∧ s.seamFenced = false ∧ 47 < (m : Nat)) ∧
  (∃ (s : State) (m : Fin 64), s.powered = true ∧ s.seamFenced = false ∧ (m : Nat) < 48 ∧ s.isFree = false ∧ s.selected ≠ m ∧ s.fit m = true ∧ s.shadowValid m = true) ∧
  (∃ (s : State) (m : Fin 64), s.powered = true ∧ s.seamFenced = false ∧ (m : Nat) < 48 ∧ (s.isFree = true ∨ (s.selected ≠ m ∧ (s.fit m = false ∨ s.shadowValid m = false)))) ∧
  (∃ s : State, s.powered = true ∧ s.seamFenced = false) ∧
  (∃ s : State, s.powered = true ∧ s.seamIdle = true ∧ s.fld R.SEAM_STATUS_SEL_PENDING = 1 ∧ s.fit s.prefCand = true ∧ s.shadowValid s.prefCand = true ∧ s.prefCand ≠ s.selected) ∧
  (∃ s : State, s.powered = true ∧ (s.seamIdle = false ∨ s.fld R.SEAM_STATUS_SEL_PENDING = 0)) ∧
  (∃ s : State, s.powered = true ∧ s.seamIdle = true ∧ (s.tsState = 0 ∨ s.tsState = 3 ∨ s.tsState = 4) ∧ s.autoOrder ≠ [] ∧ s.shadowValid (s.autoOrder.headD 0) = true ∧ (s.autoOrder.headD 0 ≠ s.selected ∨ s.srcFeed = false)) ∧
  (∃ s : State, s.powered = true ∧ s.seamIdle = true ∧ (s.tsState = 1 ∨ s.tsState = 2) ∧ s.srcFeed = true ∧ s.selectedGood = false ∧ s.autoOrder ≠ [] ∧ s.shadowValid (s.autoOrder.headD 0) = true ∧ s.autoOrder.headD 0 ≠ s.selected) := by
  exact ⟨⟨State.reset, 63, by decide +kernel⟩,
    ⟨{ (State.reset.setFld (R.QUAL_CAND_STATE_STATE 2) 2) with cands := [(2, { Cand.init with origin := some 77, p0 := 3, kept := 4, samples := [{ t := 3, x := 4, p := 5 }, { t := 2, x := 4, p := 5 }], fed := 256 })] }, 2, by decide +kernel⟩,
    ⟨State.reset, 13, by decide +kernel⟩,
    ⟨State.reset, by decide +kernel⟩,
    ⟨{ ((((State.reset.setFld (R.QUAL_CAND_CFG_KIND 1) 1).setFld (R.QUAL_CAND_STATE_STATE 1) 2).setFld R.SEAM_STATUS_PREF 1).setFld R.SEAM_STATUS_SEL_PENDING 1) with cands := [(1, { Cand.init with origin := some 77, p0 := 3, kept := 4, samples := [{ t := 3, x := 4, p := 5 }, { t := 2, x := 4, p := 5 }], consistent := true, fed := 5 })] }, by decide +kernel⟩,
    ⟨State.reset, by decide +kernel⟩,
    ⟨{ ((State.reset.setFld (R.QUAL_CAND_STATE_STATE 2) 2).setFld R.SEAM_STATUS_PREF 2) with cands := [(2, { Cand.init with origin := some 77, p0 := 3, kept := 4, samples := [{ t := 3, x := 4, p := 5 }, { t := 2, x := 4, p := 5 }], fed := 256 })] }, by decide +kernel⟩,
    ⟨{ (((((State.reset.setFld R.TSV_CTL_SRC 2).setFld (R.QUAL_CAND_CFG_KIND 1) 1).setFld (R.QUAL_CAND_STATE_STATE 1) 2).setFld R.SEAM_STATUS_TS_STATE 1).setFld R.SEAM_STATUS_PREF 1) with cands := [(1, { Cand.init with origin := some 77, p0 := 3, kept := 4, samples := [{ t := 3, x := 4, p := 5 }, { t := 2, x := 4, p := 5 }], consistent := true, fed := 5 })] }, by decide +kernel⟩⟩

/-- The hypotheses of the clauses of `Obligations.SelectionCommands` are met, part 2. -/
theorem test_hyps_SelectionCommands_2 :
  (∃ s : State, s.powered = true ∧ (s.autoOrder = [] ∨ ((s.tsState = 1 ∨ s.tsState = 2) ∧ (s.srcFeed = false ∨ s.selectedGood = true)))) ∧
  (∃ s : State, s.powered = true ∧ s.seamIdle = true ∧ s.revertHolds = true ∧ s.shadowValid s.prefCand = true ∧ s.seam.wtr.isSome = true ∧ s.seam.wtr.getD 0 + s.fld R.SEAM_WTR_WTR * fuPerSec ≤ s.tb.elapsed) ∧
  (∃ s : State, s.powered = true ∧ (s.seam.wtr = none ∨ s.tb.elapsed < s.seam.wtr.getD 0 + s.fld R.SEAM_WTR_WTR * fuPerSec)) ∧
  (∃ (s : State) (n : Fin 48), s.powered = true ∧ (s.seam.run.map (·.dst)) = some (n : Nat)) ∧
  (∃ s : State, s.powered = true ∧ s.seam.run = none) := by
  exact ⟨⟨State.reset, by decide +kernel⟩,
    ⟨{ ((((((State.reset.setFld (R.QUAL_CAND_CFG_KIND 1) 1).setFld (R.QUAL_CAND_STATE_STATE 1) 2).setFld R.SEAM_CTL_REVERT 1).setFld R.SEAM_STATUS_SEL 2).setFld R.SEAM_STATUS_PREF 1).setFld R.SEAM_WTR_WTR 0) with cands := [(1, { Cand.init with origin := some 77, p0 := 3, kept := 4, samples := [{ t := 3, x := 4, p := 5 }, { t := 2, x := 4, p := 5 }], consistent := true, fed := 5 })], seam := { Seam.init with wtr := some 0 } }, by decide +kernel⟩,
    ⟨State.reset, by decide +kernel⟩,
    ⟨{ State.reset with seam := { Seam.init with run := some { dst := 2, eo := 77 } } }, 2, by decide +kernel⟩,
    ⟨State.reset, by decide +kernel⟩⟩

/-- The hypotheses of the clauses of `Obligations.TimescaleStates` are met, part 1. -/
theorem test_hyps_TimescaleStates_1 :
  (∃ s : State, s.powered = true ∧ s.lockReady = true) ∧
  (∃ s : State, s.powered = true ∧ s.unlockReady = true) ∧
  (∃ s : State, s.powered = true ∧ s.lockReady = false) ∧
  (∃ s : State, s.powered = true ∧ s.unlockReady = false) ∧
  (∃ s : State, s.powered = true ∧ s.srcFeed = true ∧ s.seamFenced = false ∧ (s.tsState = 1 ∨ s.tsState = 2) ∧ s.seam.feedAt + s.fld R.SEAM_FEED_LOSS_MS * fuPerMs ≤ s.tb.elapsed) ∧
  (∃ s : State, s.powered = true ∧ (s.srcFeed = false ∨ s.tb.elapsed < s.seam.feedAt + s.fld R.SEAM_FEED_LOSS_MS * fuPerMs)) ∧
  (∃ s : State, s.powered = true ∧ s.seamFenced = false ∧ s.isFree = false) ∧
  (∃ s : State, s.powered = true ∧ s.seamFenced = false) := by
  exact ⟨⟨{ ((State.reset.setFld R.SEAM_STATUS_TS_STATE 1).setFld R.SEAM_LOCK_STAGE 0) with tb := { TimeBase.init with elapsed := 417334000000000000007 }, seam := { Seam.init with lockFrom := some 0 } }, by decide +kernel⟩,
    ⟨{ (State.reset.setFld R.SEAM_STATUS_TS_STATE 2) with seam := { Seam.init with unlockN := 300 } }, by decide +kernel⟩,
    ⟨State.reset, by decide +kernel⟩,
    ⟨State.reset, by decide +kernel⟩,
    ⟨{ ((State.reset.setFld R.TSV_CTL_SRC 2).setFld R.SEAM_STATUS_TS_STATE 1) with tb := { TimeBase.init with elapsed := 6658457600000005 } }, by decide +kernel⟩,
    ⟨State.reset, by decide +kernel⟩,
    ⟨State.reset, by decide +kernel⟩,
    ⟨State.reset, by decide +kernel⟩⟩

/-- The hypotheses of the clauses of `Obligations.TimescaleStates` are met, part 2. -/
theorem test_hyps_TimescaleStates_2 :
  (∃ s : State, s.powered = true ∧ s.seamFenced = true) := by
  exact ⟨(State.reset.setFld (R.FLT_SRC_FENCED 2) 1), by decide +kernel⟩

/-- The hypotheses of the clauses of `Obligations.HoldoverLearning` are met, part 1. -/
theorem test_hyps_HoldoverLearning_1 :
  (∃ s : State, s.powered = true) ∧
  (∃ (s : State) (temp : Int), s.powered = true ∧ (s.readTemp temp).learning = true) ∧
  (∃ (s : State) (temp : Int), s.powered = true ∧ (s.readTemp temp).learning = false) ∧
  (∃ s : State, s.powered = true ∧ s.seamFenced = false ∧ s.tsState < 3 ∧ s.seam.window ≠ [] ∧ s.fld R.SEAM_HO_MIN_COMPLETE_S ≤ s.seam.window.length) ∧
  (∃ s : State, s.powered = true ∧ (s.seamFenced = true ∨ s.tsState = 3 ∨ s.tsState = 4 ∨ s.seam.window.length < s.fld R.SEAM_HO_MIN_COMPLETE_S)) ∧
  (∃ s : State, s.powered = true ∧ s.seamFenced = false ∧ s.seam.day + (86400 * fuPerSec : Nat) ≤ (s.tb.elapsed : Int)) ∧
  (∃ s : State, s.powered = true ∧ (s.tb.elapsed : Int) < s.seam.day + (86400 * fuPerSec : Nat)) ∧
  (∃ s : State, s.powered = true ∧ s.seamFenced = false ∧ s.seam.min60At + 60 * fuPerSec ≤ s.tb.elapsed) := by
  exact ⟨⟨State.reset, by decide +kernel⟩,
    ⟨((State.reset.setFld R.SEAM_STATUS_TS_STATE 2).setFld R.TDC_STATUS_SOAK 0), (-58190), by decide +kernel⟩,
    ⟨State.reset, (-56), by decide +kernel⟩,
    ⟨{ (State.reset.setFld R.SEAM_HO_MIN_COMPLETE_S 2) with seam := { Seam.init with window := [{ t := 1, y := 2, temp := 3 }, { t := 0, y := 7, temp := 3 }] } }, by decide +kernel⟩,
    ⟨State.reset, by decide +kernel⟩,
    ⟨{ State.reset with tb := { TimeBase.init with elapsed := 404178000000000000007 } }, by decide +kernel⟩,
    ⟨State.reset, by decide +kernel⟩,
    ⟨{ State.reset with tb := { TimeBase.init with elapsed := 405263000000000000007 } }, by decide +kernel⟩⟩

/-- The hypotheses of the clauses of `Obligations.HoldoverLearning` are met, part 2. -/
theorem test_hyps_HoldoverLearning_2 :
  (∃ s : State, s.powered = true ∧ s.tb.elapsed < s.seam.min60At + 60 * fuPerSec) ∧
  (∃ s : State, s.powered = true ∧ (s.tsState = 3 ∨ s.tsState = 4) ∧ s.holding = true ∧ s.tservoFenced = false) ∧
  (∃ s : State, s.powered = true ∧ s.tsState < 3) ∧
  (∃ s : State, s.powered = true ∧ s.fld R.SEAM_STATUS_LEARNED = 1 ∧ s.fld R.SEAM_SNAP_PERIOD_PERIOD ≠ 0 ∧ s.seamFenced = false ∧ s.seam.snapAt + s.fld R.SEAM_SNAP_PERIOD_PERIOD * fuPerSec ≤ s.tb.elapsed) ∧
  (∃ s : State, s.powered = true ∧ (s.fld R.SEAM_STATUS_LEARNED = 0 ∨ s.fld R.SEAM_SNAP_PERIOD_PERIOD = 0)) := by
  exact ⟨⟨State.reset, by decide +kernel⟩,
    ⟨((State.reset.setFld R.TSV_STATUS_HOLDING 1).setFld R.SEAM_STATUS_TS_STATE 3), by decide +kernel⟩,
    ⟨State.reset, by decide +kernel⟩,
    ⟨{ (State.reset.setFld R.SEAM_STATUS_LEARNED 1) with tb := { TimeBase.init with elapsed := 801759000000000000007 } }, by decide +kernel⟩,
    ⟨State.reset, by decide +kernel⟩⟩

/-- The hypotheses of the clauses of `Obligations.PressCommands` are met. -/
theorem test_hyps_PressCommands :
  (∃ s : State, s.powered = true ∧ s.seamFenced = false) ∧
  (∃ s : State, s.powered = true ∧ s.seamFenced = true) ∧
  (∃ (s : State) (p : Press), s.powered = true ∧ s.seam.press = some p ∧ p.form = .step ∧ p.at_ ≤ s.hubSec ∧ s.seamFenced = false ∧ p.target = 0x3F) ∧
  (∃ (s : State) (n : Fin 48), s.powered = true ∧ (s.seam.acq.map (·.1)) = some (n : Nat) ∧ (s.seam.acq.map (·.2)).getD 0 ≤ s.hubSec ∧ s.seamFenced = false ∧ s.hasOffset n = true) ∧
  (∃ (s : State) (p : Press), s.powered = true ∧ s.seam.aligns = [p] ∧ p.at_ ≤ s.hubSec ∧ s.seamFenced = false) ∧
  (∃ (s : State) (p : Press), s.powered = true ∧ s.seam.press = some p ∧ p.form = .slew ∧ p.at_ ≤ s.hubSec ∧ s.seamFenced = false ∧ p.target = 0x3F) ∧
  (∃ (s : State) (w : Slew), s.powered = true ∧ s.seam.slew = some w ∧ w.amt.natAbs ≤ w.moved + 1) ∧
  (∃ s : State, s.powered = true ∧ s.seam.press = none ∧ s.seam.acq = none ∧ s.seam.slew = none ∧ s.seam.aligns = []) := by
  exact ⟨⟨State.reset, by decide +kernel⟩,
    ⟨(State.reset.setFld (R.FLT_SRC_FENCED 2) 1), by decide +kernel⟩,
    ⟨{ State.reset with seam := { Seam.init with press := some { form := Form.step, amt := 1000, at_ := 0, align := true, mask := 129, target := 63, by_ := Issuer.host } } }, { form := Form.step, amt := 1000, at_ := 0, align := true, mask := 129, target := 63, by_ := Issuer.host }, by decide +kernel⟩,
    ⟨{ ((State.reset.setFld (R.QUAL_CAND_CFG_KIND 1) 1).setFld (R.QUAL_CAND_STATE_STATE 1) 2) with cands := [(1, { Cand.init with origin := some 77, p0 := 3, kept := 4, samples := [{ t := 3, x := 4, p := 5 }, { t := 2, x := 4, p := 5 }], consistent := true, fed := 5 })], seam := { Seam.init with acq := some (1, 0) } }, 1, by decide +kernel⟩,
    ⟨{ State.reset with seam := { Seam.init with aligns := [{ form := Form.align, amt := 0, at_ := 0, align := true, mask := 21, target := 63, by_ := Issuer.host }] } }, { form := Form.align, amt := 0, at_ := 0, align := true, mask := 21, target := 63, by_ := Issuer.host }, by decide +kernel⟩,
    ⟨{ State.reset with seam := { Seam.init with press := some { form := Form.slew, amt := 1000, at_ := 0, align := false, mask := 129, target := 63, by_ := Issuer.seam } } }, { form := Form.slew, amt := 1000, at_ := 0, align := false, mask := 129, target := 63, by_ := Issuer.seam }, by decide +kernel⟩,
    ⟨{ State.reset with seam := { Seam.init with slew := some { amt := 3, rate := 5, num := 1, moved := 2, auto := true, by_ := Issuer.host } } }, { amt := 3, rate := 5, num := 1, moved := 2, auto := true, by_ := Issuer.host }, by decide +kernel⟩,
    ⟨State.reset, by decide +kernel⟩⟩

/-- The hypotheses of the clauses of `Obligations.PllCommands` are met, part 1. -/
theorem test_hyps_PllCommands_1 :
  let nOk (s : State) (p : Fin 4) (n : Nat) : Prop :=
    80 ≤ n ∧ n ≤ 135 ∧ (n = s.pllN p ∨ s.pllState p = 0) ∧ (p ≠ 0 ∨ s.structural = true)
  (∃ (s : State) (p : Fin 4) (v : BitVec 32), s.powered = true ∧ nOk s p (v.toNat % 256) ∧ v.toNat / 2 ^ 13 % 8 < 5) ∧
  (∃ (s : State) (p : Fin 4) (v : BitVec 32), s.powered = true ∧ ¬ nOk s p (v.toNat % 256)) ∧
  (∃ (s : State) (v : BitVec 32), s.powered = true ∧ 5 ≤ v.toNat / 2 ^ 13 % 8) ∧
  (∃ (s : State) (p : Fin 4) (e : Fin 64), s.powered = true ∧ s.fenced (0x014 + p) = false ∧ (s.pllState p = 0 ∨ s.pllState p = 5) ∧ s.bandEntry p = some (e : Nat)) ∧
  (∃ (s : State) (p : Fin 4), s.powered = true ∧ s.fenced (0x014 + p) = false ∧ (s.pllState p = 0 ∨ s.pllState p = 5) ∧ s.bandEntry p = none) ∧
  (∃ (s : State) (p : Fin 4), s.powered = true ∧ s.fenced (0x014 + p) = false ∧ s.pllState p ≠ 0 ∧ s.pllState p ≠ 5) ∧
  (∃ (s : State) (p : Fin 4), s.powered = true ∧ s.pwr.wakeDue = false ∧ s.carriesOther p = false) ∧
  (∃ (s : State) (p : Fin 4), s.powered = true ∧ s.pwr.wakeDue = false ∧ s.carriesOther p = true) := by
  dsimp only
  exact ⟨⟨State.reset, 2, 0xb53b7d62#32, by decide +kernel⟩,
    ⟨(State.reset.setFld (R.SYN_PLL_STATUS_STATE 2) 3), 2, 0x127b415d#32, by decide +kernel⟩,
    ⟨State.reset, 0xfffffffe#32, by decide +kernel⟩,
    ⟨(State.reset.setFld (R.SYN_BAND_W0_TSLOT 3 1) 15), 3, 1, by decide +kernel⟩,
    ⟨(State.reset.setFld (R.SYN_PLL_CFG_N 1) 1), 1, by decide +kernel⟩,
    ⟨(State.reset.setFld (R.SYN_PLL_STATUS_STATE 1) 2), 1, by decide +kernel⟩,
    ⟨State.reset, 3, by decide +kernel⟩,
    ⟨(State.reset.setFld (R.SYN_DOMAIN_SRC 2) 3), 3, by decide +kernel⟩⟩

/-- The hypotheses of the clauses of `Obligations.PllCommands` are met, part 2. -/
theorem test_hyps_PllCommands_2 :
  (∃ (s : State) (p : Fin 4) (q : Fin 4), s.powered = true ∧ s.fld (R.SYN_DOMAIN_STANDIN p) = q ∧ s.canCarry q p = true ∧ s.domGated p = false) ∧
  (∃ (s : State) (p : Fin 4), s.powered = true ∧ s.canCarry (s.fld (R.SYN_DOMAIN_STANDIN p)) p = false) ∧
  (∃ (s : State) (p : Fin 4), s.powered = true ∧ s.pllState p = 3 ∧ s.domGated p = false ∧ s.pllN p = s.pllN (s.domSrc p) ∧ (s.ramp p).acc = 0 ∧ (s.ramp p).phase = 0) ∧
  (∃ (s : State) (p : Fin 4), s.powered = true ∧ s.pllState p = 3 ∧ s.domGated p = true ∧ (s.asleep = false ∨ p = 0)) ∧
  (∃ (s : State) (p : Fin 4), s.powered = true ∧ (s.pllState p ≠ 3 ∨ (s.domGated p = false ∧ (s.pllN p ≠ s.pllN (s.domSrc p) ∨ (s.ramp p).acc ≠ 0 ∨ (s.ramp p).phase ≠ 0)))) ∧
  (∃ (s : State) (p : Fin 4), s.powered = true ∧ p ≠ 0 ∧ (s.ramp p).phase = 0 ∧ s.carriesOther p = false) ∧
  (∃ (s : State) (p : Fin 4), s.powered = true ∧ p ≠ 0 ∧ ((s.ramp p).phase ≠ 0 ∨ s.carriesOther p = true)) ∧
  (∃ (s : State) (p : Fin 4) (count : Nat), s.powered = true ∧ s.pwr.wakeDue = false ∧ (s.pllState p = 2 ∨ s.pllState p = 4) ∧ s.windowPasses p ((count : Int) - s.ldCycles p) = true ∧ max 1 (s.fld (R.SYN_PLL_CFG_LD_M p)) ≤ Tab.get (fun _ => 0) s.syn.passes p + 1) := by
  exact ⟨⟨((((State.reset.setFld (R.SYN_PLL_CFG_N 2) 100).setFld (R.SYN_DOMAIN_STANDIN 2) 3).setFld (R.SYN_PLL_CFG_N 3) 100).setFld (R.SYN_PLL_STATUS_STATE 3) 3), 2, 3, by decide +kernel⟩,
    ⟨State.reset, 0, by decide +kernel⟩,
    ⟨(State.reset.setFld (R.SYN_PLL_STATUS_STATE 3) 3), 3, by decide +kernel⟩,
    ⟨((State.reset.setFld (R.SYN_PLL_STATUS_STATE 0) 3).setFld (R.SYN_DOMAIN_GATED 0) 1), 0, by decide +kernel⟩,
    ⟨State.reset, 3, by decide +kernel⟩,
    ⟨State.reset, 1, by decide +kernel⟩,
    ⟨(State.reset.setFld (R.SYN_DOMAIN_SRC 2) 3), 3, by decide +kernel⟩,
    ⟨((State.reset.setFld (R.SYN_PLL_CFG_LD_M 3) 0).setFld (R.SYN_PLL_STATUS_STATE 3) 2), 3, 4096, by decide +kernel⟩⟩

/-- The hypotheses of the clauses of `Obligations.PllCommands` are met, part 3. -/
theorem test_hyps_PllCommands_3 :
  (∃ (s : State) (p : Fin 4) (count : Nat), s.powered = true ∧ s.pwr.wakeDue = false ∧ (s.pllState p = 2 ∨ s.pllState p = 4) ∧ s.windowPasses p ((count : Int) - s.ldCycles p) = true ∧ Tab.get (fun _ => 0) s.syn.passes p + 1 < s.fld (R.SYN_PLL_CFG_LD_M p)) ∧
  (∃ (s : State) (p : Fin 4) (count : Nat), s.powered = true ∧ s.pllState p = 3 ∧ s.windowPasses p ((count : Int) - s.ldCycles p) = false) ∧
  (∃ s : State, s.powered = true) := by
  exact ⟨⟨(State.reset.setFld (R.SYN_PLL_STATUS_STATE 3) 4), 3, 4097, by decide +kernel⟩,
    ⟨(State.reset.setFld (R.SYN_PLL_STATUS_STATE 1) 3), 1, 47573, by decide +kernel⟩,
    ⟨State.reset, by decide +kernel⟩⟩

/-- The hypotheses of the clauses of `Obligations.RampCommands` are met. -/
theorem test_hyps_RampCommands :
  (∃ s : State, s.powered = true) ∧
  (∃ (s : State) (p : Fin 3), s.powered = true ∧ (s.ramp (p.val + 1)).phase ≠ 0) ∧
  (∃ (s : State) (p : Fin 3), s.powered = true ∧ (s.ramp (p.val + 1)).phase = 0) ∧
  (∃ (s : State) (p : Fin 3), s.powered = true ∧ (s.ramp (p.val + 1)).phase = 1 ∧ s.rampAt (p.val + 1) ≤ s.tb.now) ∧
  (∃ (s : State) (p : Fin 3), s.powered = true ∧ (s.ramp (p.val + 1)).phase = 2 ∧ 2 ≤ (s.ramp (p.val + 1)).left) := by
  exact ⟨⟨State.reset, by decide +kernel⟩,
    ⟨{ State.reset with syn := { Synth.init with ramps := [(1, { Ramp.init with phase := 2, left := 3, acc := 7 })] } }, 0, by decide +kernel⟩,
    ⟨State.reset, 2, by decide +kernel⟩,
    ⟨{ State.reset with syn := { Synth.init with ramps := [(3, { Ramp.init with phase := 1, left := 9, acc := 7 })] } }, 2, by decide +kernel⟩,
    ⟨{ State.reset with syn := { Synth.init with ramps := [(1, { Ramp.init with phase := 2, left := 3, acc := 7 })] } }, 0, by decide +kernel⟩⟩

/-- The hypotheses of the clauses of `Obligations.ClockOutputCommands` are met, part 1. -/
theorem test_hyps_ClockOutputCommands_1 :
  let fits (s : State) (i : Fin 24) (d std : Nat) : Prop := freqOk (s.pllN (i.val / 6)) d std = true
  (∃ (s : State) (i : Fin 24) (v : BitVec 32), s.powered = true ∧ fits s i (s.fld (R.OUT_DIV_D i)) (v.toNat / 2 % 8) ∧ s.lvcmosOk (3 + i.val / 6) (v.toNat / 2 % 8) = true) ∧
  (∃ (s : State) (i : Fin 24) (v : BitVec 32), s.powered = true ∧ (¬ fits s i (s.fld (R.OUT_DIV_D i)) (v.toNat / 2 % 8) ∨ s.lvcmosOk (3 + i.val / 6) (v.toNat / 2 % 8) = false)) ∧
  (∃ (s : State) (i : Fin 24) (v : BitVec 32), s.powered = true ∧ privileged i = false ∧ 2 ≤ v.toNat % 2 ^ 13 ∧ v.toNat % 2 ^ 13 ≤ 4096 ∧ fits s i (v.toNat % 2 ^ 13) (s.fld (R.OUT_CFG_STD i))) ∧
  (∃ (s : State) (i : Fin 24) (v : BitVec 32), s.powered = true ∧ privileged i = true ∧ 2 ≤ v.toNat % 2 ^ 13 ∧ v.toNat % 2 ^ 13 ≤ 4096 ∧ fits s i (v.toNat % 2 ^ 13) (s.fld (R.OUT_CFG_STD i)) ∧ 1 ≤ v.toNat / 2 ^ 16 % 2 ^ 13 ∧ v.toNat / 2 ^ 16 % 2 ^ 13 ≤ 4096 ∧ freqOk 1 (v.toNat / 2 ^ 16 % 2 ^ 13) (s.fld (R.OUT_CFG_STD i)) = true) ∧
  (∃ (s : State) (i : Fin 24) (v : BitVec 32), s.powered = true ∧ (v.toNat % 2 ^ 13 < 2 ∨ 4096 < v.toNat % 2 ^ 13 ∨ ¬ fits s i (v.toNat % 2 ^ 13) (s.fld (R.OUT_CFG_STD i)))) ∧
  (∃ s : State, s.powered = true) ∧
  (∃ (s : State) (i : Fin 24), s.powered = true ∧ s.fld (R.OUT_TRIM_TRIM i) < 4096 ∧ s.fld (R.OUT_TRIM_TRIM_NOW i) < 4096) ∧
  (∃ s : State, s.powered = true ∧ s.fld R.OUT_SYNC_CTL_PIN_EN = 1 ∧ s.outs.sync = none ∧ s.syncSet s.syncMask ≠ []) := by
  dsimp only
  exact ⟨⟨State.reset, 23, 0x908b90e1#32, by decide +kernel⟩,
    ⟨State.reset, 23, 0x62f9238f#32, by decide +kernel⟩,
    ⟨State.reset, 23, 0x7f1162dd#32, by decide +kernel⟩,
    ⟨State.reset, 12, 0xee52c8ec#32, by decide +kernel⟩,
    ⟨State.reset, 13, 0xfffffffd#32, by decide +kernel⟩,
    ⟨State.reset, by decide +kernel⟩,
    ⟨State.reset, 23, by decide +kernel⟩,
    ⟨(((State.reset.setFld (R.SYN_PLL_STATUS_STATE 0) 3).setFld R.OUT_SYNC_CTL_PIN_EN 1).setFld R.OUT_SYNC_MASK_MASK 16777215), by decide +kernel⟩⟩

/-- The hypotheses of the clauses of `Obligations.ClockOutputCommands` are met, part 2. -/
theorem test_hyps_ClockOutputCommands_2 :
  (∃ s : State, s.powered = true ∧ s.fld R.OUT_SYNC_CTL_PIN_EN = 1 ∧ s.outs.sync ≠ none) ∧
  (∃ s : State, s.powered = true ∧ s.fld R.OUT_SYNC_CTL_PIN_EN = 1 ∧ s.outs.sync = none ∧ s.syncSet s.syncMask = []) ∧
  (∃ s : State, s.powered = true ∧ s.fld R.OUT_SYNC_CTL_PIN_EN = 0) ∧
  (∃ (s : State) (w : SyncWait), s.powered = true ∧ s.outs.sync = some w ∧ (w.pin = true ∨ w.at_ ≤ s.tb.now + 200 * 65536)) ∧
  (∃ (s : State) (w : SyncWait) (at_ : Nat), s.powered = true ∧ s.outs.sync = some w ∧ (if w.pin then 240 * 65536 ≤ (s.tb.elapsed : Int) + (at_ : Int) - s.tb.now - w.at_ ∧ (s.tb.elapsed : Int) + (at_ : Int) - s.tb.now - w.at_ ≤ 250 * 65536 ∧ ((at_ : Int) - s.tb.now).natAbs ≤ 10 * 65536 else w.at_ ≤ at_ ∧ at_ < w.at_ + 10 * 65536 ∧ w.at_ ≤ s.tb.now)) ∧
  (∃ s : State, s.powered = true ∧ s.outs.sync = none) := by
  exact ⟨⟨{ (State.reset.setFld R.OUT_SYNC_CTL_PIN_EN 1) with outs := { Outs.init with sync := some { pin := false, mask := 3855, at_ := 5, hold := false } } }, by decide +kernel⟩,
    ⟨(State.reset.setFld R.OUT_SYNC_CTL_PIN_EN 1), by decide +kernel⟩,
    ⟨State.reset, by decide +kernel⟩,
    ⟨{ State.reset with outs := { Outs.init with sync := some { pin := false, mask := 3855, at_ := 5, hold := false } } }, { pin := false, mask := 3855, at_ := 5, hold := false }, by decide +kernel⟩,
    ⟨{ State.reset with tb := { TimeBase.init with now := 563609600000888 }, outs := { Outs.init with sync := some { pin := false, mask := 3855, at_ := 5, hold := false } } }, { pin := false, mask := 3855, at_ := 5, hold := false }, 4097, by decide +kernel⟩,
    ⟨State.reset, by decide +kernel⟩⟩

/-- The hypotheses of the clauses of `Obligations.PulseOutputCommands` are met, part 1. -/
theorem test_hyps_PulseOutputCommands_1 :
  (∃ (s : State) (k : Fin 8) (e : Int), s.powered = true ∧ s.ppsEmits k = true ∧ (s.pulse k).owed = some e) ∧
  (∃ (s : State) (k : Fin 8), s.powered = true ∧ s.ppsEmits k = true ∧ (s.pulse k).owed = none ∧ s.tb.running = true ∧ s.ppsNext k ≤ (s.tb.now : Int)) ∧
  (∃ (s : State) (k : Fin 8), s.powered = true ∧ (s.pulse k).owed = none ∧ (s.ppsEmits k = false ∨ (s.tb.now : Int) < s.ppsNext k)) ∧
  (∃ (s : State) (k : Fin 8) (v : BitVec 32), let mode := v.toNat / 2 % 4; let std := v.toNat / 2 ^ 3 % 4; let npps := v.toNat / 2 ^ 10 % 2 ^ 10; s.powered = true ∧ std ≠ 3 ∧ (std = 2 ∨ s.bankVdd 1 = std + 1) ∧ (mode = 1 → 2 ≤ npps ∧ npps ≤ 999) ∧ (mode = 2 → 20 * 65536 ≤ s.framePeriod k) ∧ widthOk mode (s.fld (R.PPS_WIDTH_WIDTH k)) npps (s.framePeriod k) = true) ∧
  (∃ s : State, s.powered = true) ∧
  (∃ (s : State) (k : Fin 8), s.powered = true ∧ (s.pulse k).seq = false) ∧
  (∃ (s : State) (k : Fin 8) (v : BitVec 32), s.powered = true ∧ (s.pulse k).seq = true ∧ v.toNat % 2 ^ (R.PPS_FR_PER_NS k).width * 65536 + s.fld (R.PPS_FR_PER_FU k) < 20 * 65536) ∧
  (∃ (s : State) (k : Fin 8), s.powered = true ∧ s.ppsMode k = 2 ∧ s.fld (R.PPS_CFG_EN k) = 1 ∧ 20 * 65536 ≤ s.framePeriod k) := by
  exact ⟨⟨{ (State.reset.setFld (R.PPS_CFG_EN 2) 1) with outs := { Outs.init with pps := [(2, { Pulse.init with seq := true, left := 1, last := 5, owed := some 55 })] } }, 2, 55, by decide +kernel⟩,
    ⟨{ (State.reset.setFld (R.PPS_CFG_EN 1) 1) with tb := { TimeBase.init with running := true } }, 1, by decide +kernel⟩,
    ⟨State.reset, 7, by decide +kernel⟩,
    ⟨State.reset, 3, 0x00000010#32, by decide +kernel⟩,
    ⟨State.reset, by decide +kernel⟩,
    ⟨State.reset, 7, by decide +kernel⟩,
    ⟨{ State.reset with outs := { Outs.init with pps := [(7, { Pulse.init with seq := true, left := 1, last := 5 })] } }, 7, 0x00000006#32, by decide +kernel⟩,
    ⟨(((State.reset.setFld (R.PPS_CFG_EN 7) 1).setFld (R.PPS_CFG_MODE 7) 2).setFld (R.PPS_FR_PER_NS 7) 37), 7, by decide +kernel⟩⟩

/-- The hypotheses of the clauses of `Obligations.PulseOutputCommands` are met, part 2. -/
theorem test_hyps_PulseOutputCommands_2 :
  (∃ (s : State) (k : Fin 8), s.powered = true ∧ s.ppsMode k = 2 ∧ s.framePeriod k < 20 * 65536) ∧
  (∃ (s : State) (p : Fin 3) (v : BitVec 32), s.powered = true ∧ hubLegal (Tab.get (fun _ => 0) s.syn.stage (R.SYN_RAMP_AT_0_AT (p.val + 1)).addr + 2 ^ 32 * Tab.get (fun _ => 0) s.syn.stage (R.SYN_RAMP_AT_1_AT (p.val + 1)).addr + 2 ^ 64 * v.toNat) = false) ∧
  (∃ (s : State) (k : Fin 8) (v : BitVec 32), let x := Tab.get (fun _ => 0) s.syn.stage (R.PPS_FR_START_0 k).addr + 2 ^ 32 * Tab.get (fun _ => 0) s.syn.stage (R.PPS_FR_START_1 k).addr + 2 ^ 64 * v.toNat; s.powered = true ∧ hubLegal x = true ∧ x < 2 ^ 96) := by
  exact ⟨⟨(State.reset.setFld (R.PPS_CFG_MODE 7) 2), 7, by decide +kernel⟩,
    ⟨{ State.reset with syn := { Synth.init with stage := [(84160532, 4294967295)] } }, 1, 0xe199a739#32, by decide +kernel⟩,
    ⟨State.reset, 1, 0x00000000#32, by decide +kernel⟩⟩

/-- The hypotheses of the clauses of `Obligations.TdcStamps` are met. -/
theorem test_hyps_TdcStamps :
  let takes (s : State) (c : Fin 104) (f : Bool) : Prop :=
    s.powered = true ∧ 64 ≤ c.val ∧ s.chOn c = true ∧ s.tb.running = true ∧ s.takesEdge c f = true
  (∃ (s : State) (c : Fin 104) (f : Bool), takes s c f ∧ 0 < (s.tdcCh c).dec) ∧
  (∃ (s : State) (c : Fin 104) (f : Bool) (num : Nat) (den : Nat), takes s c f ∧ (s.tdcCh c).dec = 0 ∧ (s.coreless c = true ∨ (s.tdcCh c).blind (s.edgeAt num den) = true)) ∧
  (∃ (s : State) (c : Fin 104) (f : Bool) (num : Nat) (den : Nat), takes s c f ∧ (s.tdcCh c).dec = 0 ∧ s.coreless c = false ∧ (s.tdcCh c).blind (s.edgeAt num den) = false ∧ s.fld (R.TDC_CH_CFG_EN c) = 1 ∧ s.fld (R.TDC_CH_CFG_RING_EN c) = 1 ∧ (s.tdcCh c).fifo.length < 64) ∧
  (∃ (s : State) (c : Fin 104) (f : Bool) (num : Nat) (den : Nat), takes s c f ∧ (s.tdcCh c).dec = 0 ∧ s.coreless c = false ∧ (s.tdcCh c).blind (s.edgeAt num den) = false ∧ s.fld (R.TDC_CH_CFG_EN c) = 1 ∧ s.fld (R.TDC_CH_CFG_RING_EN c) = 1 ∧ 64 ≤ (s.tdcCh c).fifo.length) ∧
  (∃ (s : State) (c : Fin 104) (f : Bool) (num : Nat) (den : Nat), takes s c f ∧ (s.tdcCh c).dec = 0 ∧ s.coreless c = false ∧ (s.tdcCh c).blind (s.edgeAt num den) = false ∧ s.fld (R.TDC_CH_CFG_RING_EN c) = 0) ∧
  (∃ (s : State) (c : Fin 104) (f : Bool), s.powered = true ∧ (c.val < 64 ∨ s.chOn c = false ∨ s.tb.running = false ∨ s.takesEdge c f = false)) ∧
  (∃ (s : State) (c : Fin 104), s.powered = true ∧ s.fabricMoves = true ∧ s.ringsFenced = false ∧ s.bankOpen 26 = true ∧ s.bank.ecc = [] ∧ s.writerNext = some (c : Nat) ∧ s.fld (R.RING_CFG_ESZ c) = 0) ∧
  (∃ s : State, s.powered = true ∧ (s.fabricMoves = false ∨ s.ringsFenced = true ∨ s.writerNext = none)) := by
  dsimp only
  exact ⟨⟨{ (State.reset.setFld (R.TDC_CH_CFG_EN 77) 1) with tb := { TimeBase.init with running := true }, tdc := { TdcArray.init with ch := [(77, { Tdc.init with fifo := ([] ++ List.replicate 47 103929005307130220006098923584552504982110632080), seq := 3080, dec := 1 })] } }, 77, false, by decide +kernel⟩,
    ⟨{ ((State.reset.setFld (R.TDC_CH_CFG_EN 103) 1).setFld (R.FLT_SRC_FENCED 359) 1) with tb := { TimeBase.init with running := true } }, 103, false, 54995, 0, by decide +kernel⟩,
    ⟨{ (State.reset.setFld (R.TDC_CH_CFG_EN 77) 1) with tb := { TimeBase.init with running := true } }, 77, false, 96798, 52, by decide +kernel⟩,
    ⟨{ (State.reset.setFld (R.TDC_CH_CFG_EN 77) 1) with tb := { TimeBase.init with running := true }, tdc := { TdcArray.init with ch := [(77, { Tdc.init with fifo := ([] ++ List.replicate 64 103929005307130220006098923584552504982110632080), missed := true, seq := 65535 })] } }, 77, false, 5030221418007185969, 307882, by decide +kernel⟩,
    ⟨{ ((State.reset.setFld (R.TDC_CH_CFG_EN 90) 1).setFld (R.TDC_CH_CFG_RING_EN 90) 0) with tb := { TimeBase.init with running := true } }, 90, false, 0, 6694619221063, by decide +kernel⟩,
    ⟨State.reset, 64, true, by decide +kernel⟩,
    ⟨{ State.reset with tdc := { TdcArray.init with ch := [(77, { Tdc.init with fifo := ([] ++ List.replicate 64 103929005307130220006098923584552504982110632080), missed := true, seq := 65535 })] } }, 77, by decide +kernel⟩,
    ⟨State.reset, by decide +kernel⟩⟩

/-- The hypotheses of the clauses of `Obligations.TdcCommands` are met, part 1. -/
theorem test_hyps_TdcCommands_1 :
  (∃ (s : State) (c : Fin 104), s.powered = true ∧ 64 ≤ c.val) ∧
  (∃ (s : State) (c : Fin 104), s.powered = true ∧ c.val < 64) ∧
  (∃ (s : State) (c : Fin 104), s.powered = true ∧ (isReft c || isMon c) = true ∧ s.owned c = false) ∧
  (∃ (s : State) (c : Fin 104), s.powered = true ∧ ((isReft c || isMon c) = false ∨ s.owned c = true)) ∧
  (∃ s : State, s.powered = true) ∧
  (∃ (s : State) (temp : Int) (settle : Nat), s.powered = true ∧ s.soak = true ∧ s.tdc.heater = true ∧ 60 ≤ settle ∧ (temp - 92000).natAbs ≤ 50) ∧
  (∃ (s : State) (temp : Int) (settle : Nat), s.powered = true ∧ (s.tdc.heater = false ∨ settle < 60 ∨ 50 < (temp - 92000).natAbs)) ∧
  (∃ s : State, s.powered = true ∧ s.soak = true ∧ s.tdc.slow = false ∧ s.tdc.soakAt + (900 * fuPerSec : Nat) ≤ (s.tb.elapsed : Int)) := by
  exact ⟨⟨State.reset, 64, by decide +kernel⟩,
    ⟨State.reset, 5, by decide +kernel⟩,
    ⟨State.reset, 103, by decide +kernel⟩,
    ⟨State.reset, 90, by decide +kernel⟩,
    ⟨State.reset, by decide +kernel⟩,
    ⟨State.reset, 92000, 71623, by decide +kernel⟩,
    ⟨State.reset, 90, 50725, by decide +kernel⟩,
    ⟨{ State.reset with tb := { TimeBase.init with elapsed := 65536000000000000 } }, by decide +kernel⟩⟩

/-- The hypotheses of the clauses of `Obligations.TdcCommands` are met, part 2. -/
theorem test_hyps_TdcCommands_2 :
  (∃ s : State, s.powered = true ∧ (s.soak = false ∨ s.tdc.slow = true)) ∧
  (∃ (s : State) (c : Fin 104) (k : Fin 4) (a : Option Nat) (r : Bool), s.powered = true ∧ s.cal c = some ⟨0, some k, a, r⟩) ∧
  (∃ (s : State) (c : Fin 104) (k : Fin 4) (a : Option Nat) (r : Bool), s.powered = true ∧ s.cal c = some ⟨2, some k, a, r⟩) ∧
  (∃ (s : State) (c : Fin 104), s.powered = true ∧ s.cal c = none) ∧
  (∃ (s : State) (c : Fin 104) (k : Fin 4) (residual : Nat) (a : Option Nat) (r : Bool), s.powered = true ∧ s.cal c = some ⟨1, some k, a, r⟩ ∧ residual ≤ 33) ∧
  (∃ (s : State) (c : Fin 104) (residual : Nat) (a : Option Nat) (r : Bool), s.powered = true ∧ s.cal c = some ⟨1, none, a, r⟩ ∧ residual ≤ 33) ∧
  (∃ (s : State) (c : Fin 104) (k : Fin 4) (residual : Nat) (a : Option Nat) (r : Bool), s.powered = true ∧ s.cal c = some ⟨1, some k, a, r⟩ ∧ 33 < residual) ∧
  (∃ (s : State) (k : Fin 4) (residual : Nat), s.powered = true ∧ s.fld (R.TDC_SPARE_USE k) = 1 ∧ s.fld (R.TDC_SPARE_TARGET k) = 0x7F ∧ residual ≤ 33) := by
  exact ⟨⟨{ State.reset with tdc := { TdcArray.init with slow := true } }, by decide +kernel⟩,
    ⟨{ State.reset with tdc := { TdcArray.init with cals := [(77, some { phase := 0, spare := some 1, cmd := none, repl := false })] } }, 77, 1, none, false, by decide +kernel⟩,
    ⟨{ State.reset with tdc := { TdcArray.init with cals := [(64, some { phase := 2, spare := some 1, cmd := none, repl := false })] } }, 64, 1, none, false, by decide +kernel⟩,
    ⟨State.reset, 77, by decide +kernel⟩,
    ⟨{ State.reset with tdc := { TdcArray.init with cals := [(90, some { phase := 1, spare := some 0, cmd := none, repl := false })] } }, 90, 0, 1, none, false, by decide +kernel⟩,
    ⟨{ State.reset with tdc := { TdcArray.init with cals := [(77, some { phase := 1, spare := none, cmd := none, repl := false })] } }, 77, 21, none, false, by decide +kernel⟩,
    ⟨{ State.reset with tdc := { TdcArray.init with cals := [(90, some { phase := 1, spare := some 0, cmd := none, repl := false })] } }, 90, 0, 27050, none, false, by decide +kernel⟩,
    ⟨(State.reset.setFld (R.TDC_SPARE_USE 1) 1), 1, 2, by decide +kernel⟩⟩

/-- The hypotheses of the clauses of `Obligations.TdcCommands` are met, part 3. -/
theorem test_hyps_TdcCommands_3 :
  (∃ (s : State) (k : Fin 4), s.powered = true ∧ (∀ c : Fin 104, s.canAuto c = false) ∧ s.spareAuto k = true ∧ (∀ j : Fin 4, j < k → s.spareAuto j = false)) ∧
  (∃ (s : State) (c : Fin 104), s.powered = true ∧ s.canAuto c = true ∧ (∀ d : Fin 104, d < c → s.canAuto d = false)) ∧
  (∃ s : State, s.powered = true ∧ (∀ c : Fin 104, s.canAuto c = false) ∧ (∀ k : Fin 4, s.spareAuto k = false)) := by
  exact ⟨⟨{ State.reset with tdc := { TdcArray.init with spareDue := [(2, true), (3, true)] } }, 2, by decide +kernel⟩,
    ⟨(State.reset.setFld (R.TDC_CH_STATUS_CAL_DUE 64) 1), 64, by decide +kernel⟩,
    ⟨State.reset, by decide +kernel⟩⟩

/-- The hypotheses of the clauses of `Obligations.LinkPortStates` are met, part 1. -/
theorem test_hyps_LinkPortStates_1 :
  (∃ (s : State) (n : Fin 32) (v : BitVec 32), s.powered = true ∧ s.pwrState ≠ 2 ∧ s.fld (R.LNK_CFG_EN n) = 0 ∧ s.enableOk n = true ∧ s.linkState n = 0 ∧ rateOk (v.toNat / 2 % 4) (v.toNat / 8 % 4) = true ∧ v.toNat / 128 % 4 ≠ 3) ∧
  (∃ (s : State) (n : Fin 32), s.powered = true ∧ s.pwrState ≠ 2 ∧ s.fld (R.LNK_CFG_EN n) = 0 ∧ s.enableOk n = false) ∧
  (∃ (s : State) (n : Fin 32), s.powered = true ∧ s.pwrState ≠ 2 ∧ s.fld (R.LNK_CFG_EN n) = 1 ∧ s.linkState n ≠ 4 ∧ s.ringCount (32 + n.val) = 0 ∧ (s.link n).cal = []) ∧
  (∃ s : State, s.powered = true ∧ s.pwrState = 2) ∧
  (∃ (s : State) (n : Fin 32), s.powered = true ∧ s.linkState n = 1 ∧ s.moduleOk n = true) ∧
  (∃ (s : State) (n : Fin 32), s.powered = true ∧ (s.linkState n = 0 ∨ s.linkState n = 4)) ∧
  (∃ (s : State) (n : Fin 32), s.linkState n = 0) ∧
  (∃ (s : State) (n : Fin 32), s.linkState n = 4) := by
  exact ⟨⟨State.reset, 3, 0x00002000#32, by decide +kernel⟩,
    ⟨(State.reset.setFld R.SYN_SERDES_DIV_DIV 81), 31, by decide +kernel⟩,
    ⟨(State.reset.setFld (R.LNK_CFG_EN 3) 1), 3, by decide +kernel⟩,
    ⟨(State.reset.setFld R.PWR_STATUS_STATE 2), by decide +kernel⟩,
    ⟨(State.reset.setFld (R.LNK_STATUS_STATE 3) 1), 3, by decide +kernel⟩,
    ⟨State.reset, 3, by decide +kernel⟩,
    ⟨State.reset, 3, by decide +kernel⟩,
    ⟨(State.reset.setFld (R.LNK_STATUS_STATE 3) 4), 3, by decide +kernel⟩⟩

/-- The hypotheses of the clauses of `Obligations.LinkPortStates` are met, part 2. -/
theorem test_hyps_LinkPortStates_2 :
  (∃ (s : State) (n : Fin 32), 1 ≤ s.linkState n ∧ s.linkState n ≤ 3) ∧
  (∃ (s : State) (n : Fin 32) (an : Bool), s.powered = true ∧ s.linkState n = 2 ∧ (s.fld (R.LNK_CFG_RATE n) ≠ 0 ∨ s.fld (R.LNK_CFG_AN n) = 0 ∨ an = true)) ∧
  (∃ (s : State) (n : Fin 32), s.powered = true ∧ s.linkState n ≠ 2) ∧
  (∃ (s : State) (n : Fin 32), s.powered = true ∧ s.fld (R.LNK_STATUS_CDR_LOCK n) = 1) ∧
  (∃ (s : State) (n : Fin 32), s.powered = true ∧ s.fld (R.LNK_STATUS_CDR_LOCK n) = 0) ∧
  (∃ s : State, s.powered = true) ∧
  (∃ (s : State) (n : Fin 32), s.pwrState < 3 ∧ s.fld (R.LNK_STATUS_MOD_TX_FAULT n) = 0 ∧ s.pwr.wakeDue = false) ∧
  (∃ (s : State) (n : Fin 32), s.powered = true ∧ s.linkState n = 3) := by
  exact ⟨⟨(State.reset.setFld (R.LNK_STATUS_STATE 3) 3), 3, by decide +kernel⟩,
    ⟨(State.reset.setFld (R.LNK_STATUS_STATE 31) 2), 31, false, by decide +kernel⟩,
    ⟨State.reset, 3, by decide +kernel⟩,
    ⟨(State.reset.setFld (R.LNK_STATUS_CDR_LOCK 3) 1), 3, by decide +kernel⟩,
    ⟨State.reset, 31, by decide +kernel⟩,
    ⟨State.reset, by decide +kernel⟩,
    ⟨State.reset, 31, by decide +kernel⟩,
    ⟨(State.reset.setFld (R.LNK_STATUS_STATE 31) 3), 31, by decide +kernel⟩⟩

/-- The hypotheses of the clauses of `Obligations.LinkPortStates` are met, part 3. -/
theorem test_hyps_LinkPortStates_3 :
  (∃ (s : State) (n : Fin 32), s.powered = true ∧ s.linkState n ≠ 3) ∧
  (∃ (s : State) (n : Fin 32), s.powered = true ∧ s.pwrState ≠ 2 ∧ s.readmitOk n = true) ∧
  (∃ (s : State) (n : Fin 32), s.powered = true ∧ s.pwrState ≠ 2 ∧ s.readmitOk n = false) := by
  exact ⟨⟨State.reset, 31, by decide +kernel⟩,
    ⟨((State.reset.setFld (R.SYN_PLL_STATUS_STATE 0) 3).setFld (R.LNK_STATUS_STATE 31) 4), 31, by decide +kernel⟩,
    ⟨State.reset, 3, by decide +kernel⟩⟩

/-- The hypotheses of the clauses of `Obligations.LinkTraffic` are met, part 1. -/
theorem test_hyps_LinkTraffic_1 :
  (∃ (s : State) (n : Fin 32), s.powered = true ∧ s.linkState n = 4 ∧ (s.link n).rxCut = true) ∧
  (∃ (s : State) (n : Fin 32), s.powered = true ∧ s.linkState n = 4 ∧ (s.link n).rxCut = false) ∧
  (∃ (s : State) (n : Fin 32), s.powered = true ∧ s.linkState n < 3) ∧
  (∃ (s : State) (n : Fin 32) (f : List (BitVec 8)) (g : Bool), s.powered = true ∧ s.linkState n = 3 ∧ (g = false ∨ rxError f = true)) ∧
  (∃ (s : State) (n : Fin 32) (f : List (BitVec 8)), s.powered = true ∧ s.linkState n = 3 ∧ rxError f = false ∧ s.preFilter n f = false) ∧
  (∃ (s : State) (n : Fin 32) (f : List (BitVec 8)), s.powered = true ∧ s.linkState n = 3 ∧ rxError f = false ∧ f.length ≤ 96 ∧ s.preFilter n f = true ∧ ptpAt f = none ∧ s.fld (R.LNK_CFG_ESMC_RX n) = 0 ∧ s.coreless n = false ∧ s.tb.running = true ∧ s.fabricMoves = true ∧ s.ringsFenced = false ∧ 1 ≤ s.ringRoom n ∧ s.bankOpen 24 = true ∧ s.bank.ecc = []) ∧
  (∃ (s : State) (n : Fin 32) (f : List (BitVec 8)), s.powered = true ∧ s.linkState n = 3 ∧ rxError f = false ∧ s.preFilter n f = true ∧ ptpAt f = none ∧ s.fld (R.LNK_CFG_ESMC_RX n) = 0 ∧ s.coreless n = false ∧ s.tb.running = true ∧ s.fabricMoves = true ∧ (s.ringsFenced = true ∨ s.ringRoom n < entriesFor f.length)) ∧
  (∃ (s : State) (n : Fin 32), s.powered = true ∧ s.fld (R.LNK_CFG_ESMC_RX n) = 1 ∧ s.pwrState ≠ 2 ∧ (s.link n).esmcAt + 5 * fuPerSec ≤ s.tb.elapsed) := by
  exact ⟨⟨{ (State.reset.setFld (R.LNK_STATUS_STATE 3) 4) with links := [(3, { Link.init with ann := 11, rxCut := true })] }, 3, by decide +kernel⟩,
    ⟨(State.reset.setFld (R.LNK_STATUS_STATE 31) 4), 31, by decide +kernel⟩,
    ⟨State.reset, 3, by decide +kernel⟩,
    ⟨(State.reset.setFld (R.LNK_STATUS_STATE 3) 3), 3, ([0xff#8, 0xff#8, 0xff#8, 0xff#8, 0xff#8, 0xff#8, 0x01#8, 0x02#8, 0x03#8, 0x04#8, 0x05#8, 0x06#8, 0x88#8, 0xf7#8] ++ List.replicate 60 0x07#8), false, by decide +kernel⟩,
    ⟨(State.reset.setFld (R.LNK_STATUS_STATE 3) 3), 3, ([0xff#8, 0xff#8, 0xff#8, 0xff#8, 0xff#8, 0xff#8, 0x01#8, 0x02#8, 0x03#8, 0x04#8, 0x05#8, 0x06#8, 0x12#8, 0x34#8] ++ List.replicate 82 0x07#8), by decide +kernel⟩,
    ⟨{ ((State.reset.setFld (R.LNK_CFG_OTHER_EN 3) 1).setFld (R.LNK_STATUS_STATE 3) 3) with tb := { TimeBase.init with running := true } }, 3, ([0xff#8, 0xff#8, 0xff#8, 0xff#8, 0xff#8, 0xff#8, 0x01#8, 0x02#8, 0x03#8, 0x04#8, 0x05#8, 0x06#8, 0x12#8, 0x34#8] ++ List.replicate 30 0x07#8), by decide +kernel⟩,
    ⟨{ ((((State.reset.setFld (R.LNK_CFG_OTHER_EN 3) 1).setFld (R.LNK_STATUS_STATE 3) 3).setFld (R.RING_CFG_LOG2N 3) 4).setFld (R.RING_TAIL_INDEX 3) 16) with tb := { TimeBase.init with running := true } }, 3, [0x01#8, 0x02#8], by decide +kernel⟩,
    ⟨{ (State.reset.setFld (R.LNK_CFG_ESMC_RX 31) 1) with tb := { TimeBase.init with elapsed := 393216000000000 } }, 31, by decide +kernel⟩⟩

/-- The hypotheses of the clauses of `Obligations.LinkTraffic` are met, part 2. -/
theorem test_hyps_LinkTraffic_2 :
  (∃ (s : State) (n : Fin 32), s.powered = true ∧ (s.fld (R.LNK_CFG_ESMC_RX n) = 0 ∨ s.tb.elapsed < (s.link n).esmcAt + 5 * fuPerSec)) ∧
  (∃ (s : State) (n : Fin 32), s.powered = true ∧ s.fld (R.LNK_CFG_ESMC_TX n) = 1 ∧ s.linkState n = 3) ∧
  (∃ (s : State) (n : Fin 32), s.powered = true ∧ s.linkState n ≠ 3) ∧
  (∃ (s : State) (n : Fin 32), s.powered = true ∧ s.fld (R.LNK_STATUS_CDR_LOCK n) = 1) ∧
  (∃ (s : State) (n : Fin 32), s.powered = true ∧ s.fld (R.LNK_STATUS_CDR_LOCK n) = 0) ∧
  (∃ (s : State) (n : Fin 32), s.powered = true ∧ s.pwrState ≠ 2 ∧ s.linkState n = 3) ∧
  (∃ (s : State) (n : Fin 32), s.powered = true ∧ s.pwrState ≠ 2 ∧ s.linkState n ≠ 3) ∧
  (∃ s : State, s.powered = true ∧ s.pwrState ≠ 2) := by
  exact ⟨⟨State.reset, 3, by decide +kernel⟩,
    ⟨((State.reset.setFld (R.LNK_CFG_ESMC_TX 3) 1).setFld (R.LNK_STATUS_STATE 3) 3), 3, by decide +kernel⟩,
    ⟨State.reset, 31, by decide +kernel⟩,
    ⟨(State.reset.setFld (R.LNK_STATUS_CDR_LOCK 31) 1), 31, by decide +kernel⟩,
    ⟨State.reset, 31, by decide +kernel⟩,
    ⟨(State.reset.setFld (R.LNK_STATUS_STATE 3) 3), 3, by decide +kernel⟩,
    ⟨State.reset, 31, by decide +kernel⟩,
    ⟨State.reset, by decide +kernel⟩⟩

/-- The hypotheses of the clauses of `Obligations.LinkTraffic` are met, part 3. -/
theorem test_hyps_LinkTraffic_3 :
  (∃ (s : State) (n : Fin 32), s.powered = true ∧ s.fld (R.LNK_STATUS_PC_RUN n) = 1 ∧ (s.link n).rt ≠ [] ∧ -8388608 ≤ s.pcTarget n ∧ s.pcTarget n ≤ 8388607) ∧
  (∃ (s : State) (n : Fin 32), s.powered = true ∧ s.fld (R.LNK_STATUS_PC_RUN n) = 1 ∧ (s.link n).rt ≠ [] ∧ (s.pcTarget n < -8388608 ∨ 8388607 < s.pcTarget n)) ∧
  (∃ (s : State) (n : Fin 32), s.powered = true ∧ s.fld (R.LNK_STATUS_PC_RUN n) = 0) := by
  exact ⟨⟨{ (State.reset.setFld (R.LNK_STATUS_PC_RUN 31) 1) with links := [(31, { Link.init with ann := 11, rt := [100000, 2000], t0 := 5 })] }, 31, by decide +kernel⟩,
    ⟨{ (State.reset.setFld (R.LNK_STATUS_PC_RUN 3) 1) with links := [(3, { Link.init with ann := 11, rt := [10000000000, 2000], t0 := 5 })] }, 3, by decide +kernel⟩,
    ⟨State.reset, 3, by decide +kernel⟩⟩

/-- The hypotheses of the clauses of `Obligations.LaunchCommands` are met. -/
theorem test_hyps_LaunchCommands :
  let raw (s : State) (n : Fin 32) : List (BitVec 8) := ((s.ringLaunch (n : Nat)).2.map (·.1)).getD []
  let ready (s : State) (n : Fin 32) : Prop :=
    s.powered = true ∧ s.fabricMoves = true ∧ s.tb.running = true ∧ (s.link n).cal = [] ∧ s.bankOpen 24 = true ∧ s.bank.ecc = [] ∧
      (s.ringLaunch (n : Nat)).2.map (·.2) = some false
  (∃ (s : State) (n : Fin 32) (x : Launch), s.powered = true ∧ s.fabricMoves = true ∧ s.tb.running = true ∧ (s.link n).cal = [x] ∧ x.frame = none ∧ x.at_ ≤ s.tb.now + 20 * fuPerUs ∧ s.bankOpen ((bankOf x.buf).getD 0) = true ∧ s.bank.ecc = []) ∧
  (∃ (s : State) (n : Fin 32), s.powered = true ∧ (s.fabricMoves = false ∨ s.tb.running = false ∨ (s.link n).cal = [])) ∧
  (∃ (s : State) (n : Fin 32), ready s n ∧ s.launchFails n (raw s n) (ringAt (raw s n)) (s.ringTol n (raw s n)) (s.ringLate n (raw s n)) (s.link n).headed = none ∧ (ringAt (raw s n)).getD 0 ≤ s.tb.now ∧ s.linkState n = 3 ∧ (s.link n).wire ≤ s.tb.elapsed ∧ s.coreless (32 + n.val) = false) ∧
  (∃ (s : State) (n : Fin 32) (code : Fin 5), ready s n ∧ s.launchFails n (raw s n) (ringAt (raw s n)) (s.ringTol n (raw s n)) (s.ringLate n (raw s n)) (s.link n).headed = some (code : Nat)) ∧
  (∃ s : State, s.powered = true ∧ (s.fabricMoves = false ∨ s.tb.running = false)) := by
  dsimp only
  exact ⟨⟨{ State.reset with tb := { TimeBase.init with running := true }, links := [(3, { Link.init with ann := 11, cal := [{ slot := 5, gen := 3, at_ := 1000, tol := 50, buf := 8388736, notify := true, frame := none }] })] }, 3, { slot := 5, gen := 3, at_ := 1000, tol := 50, buf := 8388736, notify := true, frame := none }, by decide +kernel⟩,
    ⟨State.reset, 31, by decide +kernel⟩,
    ⟨{ ((State.reset.setFld (R.LNK_STATUS_STATE 31) 3).setFld (R.RING_TAIL_INDEX 63) 1) with mem := [(52396046, 0x3c#8), (52396049, 0x01#8)], tb := { TimeBase.init with now := 458752000000888, running := true } }, 31, by decide +kernel⟩,
    ⟨{ (State.reset.setFld (R.RING_TAIL_INDEX 35) 1) with tb := { TimeBase.init with running := true } }, 3, 3, by decide +kernel⟩,
    ⟨State.reset, by decide +kernel⟩⟩

/-- The hypotheses of the clauses of `Obligations.DirectoryCommands` are met, part 1. -/
theorem test_hyps_DirectoryCommands_1 :
  let own (s : State) (b n : Fin 9) : Prop :=
    s.powered = true ∧ s.fenced 0x018 = false ∧ (b = 0 ∨ b = n) ∧ s.slotFenced n = false ∧ s.bankOpen 28 = true ∧ s.bank.ecc = []
  let slots (s : State) (n : Fin 9) : List Nat × List Nat :=
    let h := bucketsOf s.salt (leBytes 11 (s.slotKey n))
    (slotsOf h.1, slotsOf h.2)
  let hit (s : State) (n : Fin 9) : Option Nat :=
    ((slots s n).1 ++ (slots s n).2).find? (fun a => entryValid (s.bytes a 16) && entryKey (s.bytes a 16) == s.slotKey n)
  let empty (s : State) (l : List Nat) : Nat := (l.filter (fun a => s.bytes a 16 == 0)).length
  let homed (s : State) (n : Fin 9) : Prop := s.fld (R.EPD_IDX_INDEX n) / 2 ^ 14 = s.slotKey n / 2 ^ 80 % 2 ^ 5 / 4
  (∃ (s : State) (b : Fin 9) (n : Fin 9), own s b n) ∧
  (∃ (s : State) (b : Fin 9) (n : Fin 9), own s b n ∧ ¬ homed s n) ∧
  (∃ (s : State) (b : Fin 9) (n : Fin 9), own s b n ∧ homed s n ∧ (hit s n).isSome = true) ∧
  (∃ (s : State) (b : Fin 9) (n : Fin 9), own s b n ∧ homed s n ∧ hit s n = none ∧ s.fld (R.EPD_IDX_INDEX n) < 2 ^ 17 ∧ s.slotKey n < 2 ^ 85 ∧ s.fld R.EPD_DIR_STATUS_COUNT < 131072 ∧ empty s (slots s n).1 + empty s (slots s n).2 ≠ 0) ∧
  (∃ (s : State) (b : Fin 9) (n : Fin 9), own s b n ∧ (hit s n).isSome = true ∧ 1 ≤ s.fld R.EPD_DIR_STATUS_COUNT ∧ s.fld R.EPD_DIR_STATUS_COUNT < 2 ^ 18) ∧
  (∃ (s : State) (b : Fin 9) (n : Fin 9), own s b n ∧ hit s n = none) ∧
  (∃ (s : State) (b : Fin 9) (n : Fin 9), s.powered = true ∧ s.fenced 0x018 = false ∧ (b = 0 ∨ b = n) ∧ s.slotFenced n = true) ∧
  (∃ (s : State) (b : Fin 9) (n : Fin 9), s.powered = true ∧ (s.fenced 0x018 = true ∨ (b ≠ 0 ∧ b ≠ n))) := by
  dsimp only
  exact ⟨⟨State.reset, 0, 2, by decide +kernel⟩,
    ⟨(State.reset.setFld (R.EPD_IDX_INDEX 8) 16389), 0, 8, by decide +kernel⟩,
    ⟨{ ((((State.reset.setFld (R.EPD_KEY_0_ID 3) 77).setFld (R.EPD_KEY_2_PORT 3) 1).setFld (R.EPD_KEY_2_LINK 3) 6).setFld (R.EPD_IDX_INDEX 3) 16968) with mem := [(66086912, 0x4d#8), (66086920, 0x01#8), (66086922, 0x06#8), (66086923, 0x01#8)] }, 0, 3, by decide +kernel⟩,
    ⟨((State.reset.setFld (R.EPD_KEY_2_LINK 1) 15).setFld (R.EPD_IDX_INDEX 1) 49157), 1, 1, by decide +kernel⟩,
    ⟨{ ((((State.reset.setFld R.EPD_DIR_STATUS_COUNT 17).setFld (R.EPD_KEY_0_ID 3) 77).setFld (R.EPD_KEY_2_PORT 3) 1).setFld (R.EPD_KEY_2_LINK 3) 6) with mem := [(66086960, 0x4d#8), (66086968, 0x01#8), (66086970, 0x06#8), (66086971, 0x01#8)] }, 0, 3, by decide +kernel⟩,
    ⟨State.reset, 2, 2, by decide +kernel⟩,
    ⟨(State.reset.setFld (R.ENG_STATE_STATE 0) 3), 0, 1, by decide +kernel⟩,
    ⟨State.reset, 3, 0, by decide +kernel⟩⟩

/-- The hypotheses of the clauses of `Obligations.DirectoryCommands` are met, part 2. -/
theorem test_hyps_DirectoryCommands_2 :
  (∃ s : State, s.powered = true ∧ s.bankOpen 28 = true) ∧
  (∃ s : State, s.powered = true ∧ s.fld R.EPD_DIR_STATUS_COUNT = 0) ∧
  (∃ s : State, s.powered = true ∧ s.fld R.EPD_DIR_STATUS_COUNT ≠ 0) := by
  exact ⟨⟨State.reset, by decide +kernel⟩,
    ⟨State.reset, by decide +kernel⟩,
    ⟨(State.reset.setFld R.EPD_DIR_STATUS_COUNT 16), by decide +kernel⟩⟩

/-- The hypotheses of the clauses of `Obligations.EndpointCommands` are met, part 1. -/
theorem test_hyps_EndpointCommands_1 :
  let ready (s : State) (g : Fin 8) : Prop :=
    s.powered = true ∧ s.epsRuns g = true ∧ s.bankOpen 25 = true ∧ s.bankOpen 27 = true ∧ s.bankOpen 28 = true ∧
      s.ringsFenced = false ∧ s.bank.ecc = [] ∧ s.ringOn (104 + g) = true ∧ s.ringEsz (104 + g) = 32 ∧ s.ringEsz (112 + g) = 32 ∧
      s.ringCount (104 + g) ≠ 0 ∧ s.ringRoom (112 + g) ≠ 0 ∧
      s.ringEntry (112 + g) (s.ringTail (112 + g)) + 32 ≤ bankBase 26
  let cmd (s : State) (g : Fin 8) : EpCmd := epCmdOf (s.byteList (s.ringEntry (104 + g) (s.ringHead (104 + g))) 32)
  let mine (s : State) (g : Fin 8) : Prop := (cmd s g).index / 2 ^ 14 = g
  let rec_ (s : State) (i : Nat) : Record := s.byteList (recordAt i) 256
  (∃ (s : State) (g : Fin 8), ready s g ∧ (cmd s g).op = 0) ∧
  (∃ (s : State) (g : Fin 8), ready s g ∧ (2 ≤ (cmd s g).op ∧ (cmd s g).op < 0x40 ∨ 0x46 < (cmd s g).op)) ∧
  (∃ (s : State) (g : Fin 8), ready s g ∧ (cmd s g).op = 1 ∧ mine s g ∧ (cmd s g).off + 256 ≤ bankSize 27 ∧ s.bankOpen (16 + g) = true) ∧
  (∃ (s : State) (g : Fin 8), ready s g ∧ (cmd s g).op = 0x40 ∧ mine s g ∧ s.fenced 0x018 = false ∧ (rec_ s (cmd s g).index).state = 0 ∧ (cmd s g).off + 256 ≤ bankSize 27 ∧ (cmd s g).index / 2 ^ 14 = (cmd s g).link / 4 ∧ (s.dirFind (cmd s g).key).2 = none ∧ (∃ a ∈ slotsOf (bucketsOf s.salt (leBytes 11 (cmd s g).key)).1 ++ slotsOf (bucketsOf s.salt (leBytes 11 (cmd s g).key)).2, s.bytes a 16 = 0)) := by
  dsimp only
  exact ⟨⟨(State.reset.setFld (R.RING_TAIL_INDEX 110) 1), 6, by decide +kernel⟩,
    ⟨{ ((State.reset.setFld (R.RING_BASE_OFFSET 110) 24576).setFld (R.RING_TAIL_INDEX 110) 1) with mem := [(54550528, 0x02#8)] }, 6, by decide +kernel⟩,
    ⟨{ ((State.reset.setFld (R.RING_BASE_OFFSET 110) 24576).setFld (R.RING_TAIL_INDEX 110) 1) with mem := [(54550528, 0x01#8), (54550533, 0x80#8), (54550534, 0x01#8)] }, 6, by decide +kernel⟩,
    ⟨{ ((State.reset.setFld (R.RING_BASE_OFFSET 105) 4096).setFld (R.RING_TAIL_INDEX 105) 1) with mem := [(54530048, 0x40#8), (54530053, 0x40#8), (54530066, 0x05#8)] }, 1, by decide +kernel⟩⟩

/-- The hypotheses of the clauses of `Obligations.EndpointCommands` are met, part 2. -/
theorem test_hyps_EndpointCommands_2 :
  let ready (s : State) (g : Fin 8) : Prop :=
    s.powered = true ∧ s.epsRuns g = true ∧ s.bankOpen 25 = true ∧ s.bankOpen 27 = true ∧ s.bankOpen 28 = true ∧
      s.ringsFenced = false ∧ s.bank.ecc = [] ∧ s.ringOn (104 + g) = true ∧ s.ringEsz (104 + g) = 32 ∧ s.ringEsz (112 + g) = 32 ∧
      s.ringCount (104 + g) ≠ 0 ∧ s.ringRoom (112 + g) ≠ 0 ∧
      s.ringEntry (112 + g) (s.ringTail (112 + g)) + 32 ≤ bankBase 26
  let cmd (s : State) (g : Fin 8) : EpCmd := epCmdOf (s.byteList (s.ringEntry (104 + g) (s.ringHead (104 + g))) 32)
  let mine (s : State) (g : Fin 8) : Prop := (cmd s g).index / 2 ^ 14 = g
  let rec_ (s : State) (i : Nat) : Record := s.byteList (recordAt i) 256
  (∃ (s : State) (g : Fin 8), ready s g ∧ (cmd s g).op = 0x40 ∧ mine s g ∧ (rec_ s (cmd s g).index).state = 0 ∧ s.fenced 0x018 = false ∧ (cmd s g).index / 2 ^ 14 = (cmd s g).link / 4 ∧ (s.dirFind (cmd s g).key).2.isSome = true) ∧
  (∃ (s : State) (g : Fin 8), ready s g ∧ (cmd s g).op = 0x40 ∧ mine s g ∧ (rec_ s (cmd s g).index).state = 0 ∧ s.fenced 0x018 = true) ∧
  (∃ (s : State) (g : Fin 8), ready s g ∧ (cmd s g).op = 0x44 ∧ mine s g ∧ (rec_ s (cmd s g).index).state ≠ 0 ∧ (rec_ s (cmd s g).index).state ≠ 7 ∧ (rec_ s (cmd s g).index).borrow = false ∧ s.borrower (cmd s g).index = none ∧ s.fenced 0x018 = true) ∧
  (∃ (s : State) (g : Fin 8), ready s g ∧ (cmd s g).op = 0x46 ∧ mine s g ∧ (rec_ s (cmd s g).index).state ≠ 0 ∧ (rec_ s (cmd s g).index).state ≠ 7 ∧ (cmd s g).off + 256 ≤ bankSize 27) := by
  dsimp only
  exact ⟨⟨{ ((State.reset.setFld (R.RING_BASE_OFFSET 110) 24576).setFld (R.RING_TAIL_INDEX 110) 1) with mem := [(54550528, 0x40#8), (54550533, 0x80#8), (54550534, 0x01#8), (54550536, 0x92#8), (54550537, 0x10#8), (54550546, 0x19#8), (66026368, 0x92#8), (66026369, 0x10#8), (66026378, 0x19#8), (66026379, 0x01#8)] }, 6, by decide +kernel⟩,
    ⟨{ (((State.reset.setFld (R.RING_BASE_OFFSET 110) 24576).setFld (R.RING_TAIL_INDEX 110) 1).setFld (R.FLT_SRC_FENCED 24) 1) with mem := [(54550528, 0x40#8), (54550533, 0x80#8), (54550534, 0x01#8)] }, 6, by decide +kernel⟩,
    ⟨{ (((State.reset.setFld (R.RING_BASE_OFFSET 110) 24576).setFld (R.RING_TAIL_INDEX 110) 1).setFld (R.FLT_SRC_FENCED 24) 1) with mem := [(41943302, 0x02#8), (54550528, 0x44#8), (54550532, 0x01#8), (54550533, 0x80#8), (54550534, 0x01#8)] }, 6, by decide +kernel, by decide +kernel, by decide +kernel, by decide +kernel, by decide +kernel, by decide +kernel, State.borrower_none rfl (by decide +kernel) (by decide +kernel), by decide +kernel⟩,
    ⟨{ ((State.reset.setFld (R.RING_BASE_OFFSET 105) 4096).setFld (R.RING_TAIL_INDEX 105) 1) with mem := [(20971782, 0x03#8), (54530048, 0x46#8), (54530052, 0x01#8), (54530053, 0x40#8)] }, 1, by decide +kernel⟩⟩

/-- The hypotheses of the clauses of `Obligations.EndpointCommands` are met, part 3. -/
theorem test_hyps_EndpointCommands_3 :
  let ready (s : State) (g : Fin 8) : Prop :=
    s.powered = true ∧ s.epsRuns g = true ∧ s.bankOpen 25 = true ∧ s.bankOpen 27 = true ∧ s.bankOpen 28 = true ∧
      s.ringsFenced = false ∧ s.bank.ecc = [] ∧ s.ringOn (104 + g) = true ∧ s.ringEsz (104 + g) = 32 ∧ s.ringEsz (112 + g) = 32 ∧
      s.ringCount (104 + g) ≠ 0 ∧ s.ringRoom (112 + g) ≠ 0 ∧
      s.ringEntry (112 + g) (s.ringTail (112 + g)) + 32 ≤ bankBase 26
  let cmd (s : State) (g : Fin 8) : EpCmd := epCmdOf (s.byteList (s.ringEntry (104 + g) (s.ringHead (104 + g))) 32)
  let mine (s : State) (g : Fin 8) : Prop := (cmd s g).index / 2 ^ 14 = g
  let rec_ (s : State) (i : Nat) : Record := s.byteList (recordAt i) 256
  let idle (s : State) (d : Nat) : Prop := ∀ o ∈ [176, 184, 192, 200], (rec_ s d).get o 4 < 2 ^ 31
  (∃ (s : State) (g : Fin 8), ready s g ∧ (cmd s g).op = 0x44 ∧ mine s g ∧ (rec_ s (cmd s g).index).state ≠ 0 ∧ (rec_ s (cmd s g).index).state ≠ 7 ∧ (rec_ s (cmd s g).index).borrow = false ∧ s.borrower (cmd s g).index = none ∧ s.fenced 0x018 = false ∧ idle s (cmd s g).index ∧ (s.dirFind (cmd s g).key).2.isSome = true) ∧
  (∃ (s : State) (g : Fin 8), ready s g ∧ (cmd s g).op = 0x44 ∧ mine s g ∧ (rec_ s (cmd s g).index).state ≠ 0 ∧ (rec_ s (cmd s g).index).state ≠ 7 ∧ (rec_ s (cmd s g).index).borrow = false ∧ s.borrower (cmd s g).index = none ∧ s.fenced 0x018 = false ∧ (s.dirFind (cmd s g).key).2 = none) ∧
  (∃ (s : State) (g : Fin 8), ready s g ∧ (cmd s g).op = 0x45 ∧ mine s g ∧ (rec_ s (cmd s g).index).state = 7) ∧
  (∃ (s : State) (g : Fin 8), ready s g ∧ (cmd s g).op = 0x42 ∧ mine s g ∧ ((rec_ s (cmd s g).index).state = 4 ∨ (rec_ s (cmd s g).index).state = 6) ∧ (rec_ s (cmd s g).index).retired = true ∧ 2 ≤ s.ringRoom (112 + g)) := by
  dsimp only
  exact ⟨⟨{ ((State.reset.setFld (R.RING_BASE_OFFSET 110) 24576).setFld (R.RING_TAIL_INDEX 110) 1) with mem := [(41943302, 0x01#8), (54550528, 0x44#8), (54550532, 0x01#8), (54550533, 0x80#8), (54550534, 0x01#8), (54550536, 0x92#8), (54550537, 0x10#8), (54550546, 0x19#8), (66026368, 0x92#8), (66026369, 0x10#8), (66026378, 0x19#8), (66026379, 0x01#8)] }, 6, by decide +kernel, by decide +kernel, by decide +kernel, by decide +kernel, by decide +kernel, by decide +kernel, State.borrower_none rfl (by decide +kernel) (by decide +kernel), by decide +kernel, by decide +kernel, by decide +kernel⟩,
    ⟨{ ((State.reset.setFld (R.RING_BASE_OFFSET 110) 24576).setFld (R.RING_TAIL_INDEX 110) 1) with mem := [(41943302, 0x06#8), (54550528, 0x44#8), (54550532, 0x01#8), (54550533, 0x80#8), (54550534, 0x01#8)] }, 6, by decide +kernel, by decide +kernel, by decide +kernel, by decide +kernel, by decide +kernel, by decide +kernel, State.borrower_none rfl (by decide +kernel) (by decide +kernel), by decide +kernel, by decide +kernel⟩,
    ⟨{ ((State.reset.setFld (R.RING_BASE_OFFSET 110) 24576).setFld (R.RING_TAIL_INDEX 110) 1) with mem := [(41943302, 0x07#8), (54550528, 0x45#8), (54550532, 0x01#8), (54550533, 0x80#8), (54550534, 0x01#8)] }, 6, by decide +kernel⟩,
    ⟨{ ((State.reset.setFld (R.RING_BASE_OFFSET 105) 4096).setFld (R.RING_TAIL_INDEX 105) 1) with mem := [(20971782, 0x0e#8), (54530048, 0x42#8), (54530052, 0x01#8), (54530053, 0x40#8)] }, 1, by decide +kernel⟩⟩

/-- The hypotheses of the clauses of `Obligations.EndpointCommands` are met, part 4. -/
theorem test_hyps_EndpointCommands_4 :
  let ready (s : State) (g : Fin 8) : Prop :=
    s.powered = true ∧ s.epsRuns g = true ∧ s.bankOpen 25 = true ∧ s.bankOpen 27 = true ∧ s.bankOpen 28 = true ∧
      s.ringsFenced = false ∧ s.bank.ecc = [] ∧ s.ringOn (104 + g) = true ∧ s.ringEsz (104 + g) = 32 ∧ s.ringEsz (112 + g) = 32 ∧
      s.ringCount (104 + g) ≠ 0 ∧ s.ringRoom (112 + g) ≠ 0 ∧
      s.ringEntry (112 + g) (s.ringTail (112 + g)) + 32 ≤ bankBase 26
  let cmd (s : State) (g : Fin 8) : EpCmd := epCmdOf (s.byteList (s.ringEntry (104 + g) (s.ringHead (104 + g))) 32)
  let mine (s : State) (g : Fin 8) : Prop := (cmd s g).index / 2 ^ 14 = g
  let both (s : State) (g : Fin 8) : Prop := mine s g ∧ (cmd s g).index2 / 2 ^ 14 = g
  let rec_ (s : State) (i : Nat) : Record := s.byteList (recordAt i) 256
  let idle (s : State) (d : Nat) : Prop := ∀ o ∈ [176, 184, 192, 200], (rec_ s d).get o 4 < 2 ^ 31
  (∃ (s : State) (g : Fin 8), ready s g ∧ (cmd s g).op = 0x41 ∧ both s g ∧ idle s (cmd s g).index ∧ (rec_ s (cmd s g).index).state = 4 ∧ (rec_ s (cmd s g).index).retired = false ∧ (rec_ s (cmd s g).index2).bit 8 2 = true ∧ (rec_ s (cmd s g).index2).roleNo = 0xFFFFFF ∧ ((rec_ s (cmd s g).index2).state = 2 ∨ (rec_ s (cmd s g).index2).state = 3)) ∧
  (∃ (s : State) (g : Fin 8), ready s g ∧ (cmd s g).op = 0x43 ∧ both s g ∧ (rec_ s (cmd s g).index).state = 2 ∧ (rec_ s (cmd s g).index).roleNo = 0xFFFFFF ∧ (rec_ s (cmd s g).index2).borrow = true ∧ (rec_ s (cmd s g).index2).get 12 4 = (cmd s g).index ∧ ((rec_ s (cmd s g).index2).state = 5 ∨ (rec_ s (cmd s g).index2).state = 3)) ∧
  (∃ (s : State) (g : Fin 8) (c : Nat × Instr), ready s g ∧ ¬ mine s g ∧ c ∈ [(0x01, Instr.readRecord g), (0x40, .provision g), (0x41, .spare g), (0x42, .epReadmit g), (0x43, .restore g), (0x44, .retire g), (0x45, .free g), (0x46, .setcal g)] ∧ (cmd s g).op = c.1) ∧
  (∃ (s : State) (g : Fin 8) (c : Nat × Instr × List Nat), ready s g ∧ both s g ∧ c ∈ [(0x40, Instr.provision g, [0]), (0x41, .spare g, [4]), (0x42, .epReadmit g, [4, 6]), (0x43, .restore g, [2]), (0x44, .retire g, [1, 2, 3, 4, 5, 6]), (0x45, .free g, [7]), (0x46, .setcal g, [1, 2, 3, 4, 5, 6])] ∧ (cmd s g).op = c.1 ∧ (rec_ s (cmd s g).index).state ∉ c.2.2) := by
  dsimp only
  exact ⟨⟨{ ((State.reset.setFld (R.RING_BASE_OFFSET 110) 24576).setFld (R.RING_TAIL_INDEX 110) 1) with mem := [(41943302, 0x04#8), (41943558, 0x02#8), (41943560, 0x04#8), (41943561, 0xff#8), (41943562, 0xff#8), (41943563, 0xff#8), (54550528, 0x41#8), (54550532, 0x01#8), (54550533, 0x80#8), (54550534, 0x01#8), (54550556, 0x02#8), (54550557, 0x80#8), (54550558, 0x01#8)] }, 6, by decide +kernel⟩,
    ⟨{ ((State.reset.setFld (R.RING_BASE_OFFSET 105) 4096).setFld (R.RING_TAIL_INDEX 105) 1) with mem := [(20971782, 0x02#8), (20971785, 0xff#8), (20971786, 0xff#8), (20971787, 0xff#8), (20972038, 0x03#8), (20972040, 0x0c#8), (20972044, 0x01#8), (20972045, 0x40#8), (54530048, 0x43#8), (54530052, 0x01#8), (54530053, 0x40#8), (54530076, 0x02#8), (54530077, 0x40#8)] }, 1, by decide +kernel⟩,
    ⟨{ ((State.reset.setFld (R.RING_BASE_OFFSET 105) 4096).setFld (R.RING_TAIL_INDEX 105) 1) with mem := [(54530048, 0x42#8)] }, 1, (66, Instr.epReadmit 1), by decide +kernel⟩,
    ⟨{ ((State.reset.setFld (R.RING_BASE_OFFSET 105) 4096).setFld (R.RING_TAIL_INDEX 105) 1) with mem := [(54530048, 0x46#8), (54530053, 0x40#8), (54530077, 0x40#8)] }, 1, (70, Instr.setcal 1, [1, 2, 3, 4, 5, 6]), by decide +kernel⟩⟩

/-- The hypotheses of the clauses of `Obligations.EndpointCommands` are met, part 5. -/
theorem test_hyps_EndpointCommands_5 :
  (∃ (s : State) (g : Fin 8), s.powered = true ∧ s.ringCount (104 + g) = 0) := by
  exact ⟨State.reset, 6, by decide +kernel⟩

/-- The hypotheses of the clauses of `Obligations.EndpointFrames` are met, part 1. -/
theorem test_hyps_EndpointFrames_1 :
  let head (s : State) (n : Fin 32) : List (BitVec 8) := s.byteList (s.ringEntry n (s.ringHead n)) 128
  let i (s : State) (n : Fin 32) : Nat := fle (head s n) 20 4
  let rec_ (s : State) (k : Nat) : Record := s.byteList (recordAt k) 256
  let r (s : State) (n : Fin 32) : Record := rec_ s (i s n)
  let ready (s : State) (n : Fin 32) : Prop :=
    s.powered = true ∧ s.epsRuns (n / 4) = true ∧ s.bankOpen 24 = true ∧ s.ringOn n = true ∧ s.ringsFenced = false ∧
      s.ringCount n ≠ 0 ∧ s.bank.ecc = []
  let live (s : State) (n : Fin 32) : Prop :=
    entryMatched (head s n) = true ∧ i s n / 2 ^ 14 = n / 4 ∧ (r s n).state ≠ 0 ∧ (r s n).state ≠ 7
  let lost (s : State) (n : Fin 32) : Bool := (fb (head s n) 19).testBit 4 && inExchange (head s n)
  (∃ (s : State) (n : Fin 32), ready s n ∧ s.bankOpen (16 + n / 4) = true ∧ (entryMatched (head s n) = false ∨ i s n / 2 ^ 14 ≠ n / 4 ∨ (r s n).state = 0 ∨ (r s n).state = 7)) ∧
  (∃ (s : State) (n : Fin 32), ready s n ∧ live s n ∧ ((r s n).state = 6 ∨ (r s n).state = 4 ∧ (r s n).retired = true)) ∧
  (∃ (s : State) (n : Fin 32), ready s n ∧ live s n ∧ (r s n).state = 4 ∧ (r s n).retired = false ∧ s.bankOpen 25 = true ∧ s.ringEsz (112 + n / 4) = 32 ∧ s.ringRoom (112 + n / 4) ≠ 0) ∧
  (∃ (s : State) (n : Fin 32), ready s n ∧ live s n ∧ inService (r s n).state = true ∧ (r s n).bit 141 0 = true ∧ lost s n = true) := by
  dsimp only
  exact ⟨⟨(State.reset.setFld (R.RING_TAIL_INDEX 5) 2), 5, by decide +kernel⟩,
    ⟨{ ((State.reset.setFld (R.RING_BASE_OFFSET 27) 24576).setFld (R.RING_TAIL_INDEX 27) 2) with mem := [(41943302, 0x0e#8), (50356243, 0x01#8), (50356244, 0x01#8), (50356245, 0x80#8), (50356246, 0x01#8)] }, 27, by decide +kernel⟩,
    ⟨{ ((State.reset.setFld (R.RING_BASE_OFFSET 27) 24576).setFld (R.RING_TAIL_INDEX 27) 2) with mem := [(41943302, 0x04#8), (50356243, 0x01#8), (50356244, 0x01#8), (50356245, 0x80#8), (50356246, 0x01#8)] }, 27, by decide +kernel⟩,
    ⟨{ ((State.reset.setFld (R.RING_BASE_OFFSET 5) 4096).setFld (R.RING_TAIL_INDEX 5) 2) with mem := [(20971782, 0x03#8), (20971917, 0x01#8), (50335763, 0x11#8), (50335764, 0x01#8), (50335765, 0x40#8), (50335788, 0x88#8), (50335789, 0xf7#8)] }, 5, by decide +kernel⟩⟩

/-- The hypotheses of the clauses of `Obligations.EndpointFrames` are met, part 2. -/
theorem test_hyps_EndpointFrames_2 :
  let head (s : State) (n : Fin 32) : List (BitVec 8) := s.byteList (s.ringEntry n (s.ringHead n)) 128
  let i (s : State) (n : Fin 32) : Nat := fle (head s n) 20 4
  let rec_ (s : State) (k : Nat) : Record := s.byteList (recordAt k) 256
  let r (s : State) (n : Fin 32) : Record := rec_ s (i s n)
  let ready (s : State) (n : Fin 32) : Prop :=
    s.powered = true ∧ s.epsRuns (n / 4) = true ∧ s.bankOpen 24 = true ∧ s.ringOn n = true ∧ s.ringsFenced = false ∧
      s.ringCount n ≠ 0 ∧ s.bank.ecc = []
  let live (s : State) (n : Fin 32) : Prop :=
    entryMatched (head s n) = true ∧ i s n / 2 ^ 14 = n / 4 ∧ (r s n).state ≠ 0 ∧ (r s n).state ≠ 7
  let t4' (s : State) (n : Fin 32) (t4 : Nat) : Nat := if isDelayReq (head s n) then fle (head s n) 0 12 else t4
  let done (s : State) (n : Fin 32) (t1 t2 t3 t4 : Nat) : Prop :=
    (isDelayReq (head s n) = true → stampValid (head s n) = true) ∧ hubLegal t1 = true ∧ hubLegal t2 = true ∧ hubLegal t3 = true ∧
      hubLegal (t4' s n t4) = true
  let lost (s : State) (n : Fin 32) : Bool := (fb (head s n) 19).testBit 4 && inExchange (head s n)
  (∃ (s : State) (n : Fin 32), ready s n ∧ live s n ∧ inService (r s n).state = true ∧ (r s n).bit 141 0 = true ∧ lost s n = false) ∧
  (∃ (s : State) (n : Fin 32) (t1 : BitVec 96) (t2 : BitVec 96) (t3 : BitVec 96) (t4 : BitVec 96), ready s n ∧ live s n ∧ inService (r s n).state = true ∧ (r s n).bit 141 0 = true ∧ lost s n = false ∧ done s n t1.toNat t2.toNat t3.toNat t4.toNat ∧ (r s n).upstream = false) ∧
  (∃ (s : State) (n : Fin 32) (t1 : BitVec 96) (t2 : BitVec 96) (t3 : BitVec 96) (t4 : BitVec 96), ready s n ∧ live s n ∧ inService (r s n).state = true ∧ (r s n).bit 141 0 = true ∧ lost s n = false ∧ done s n t1.toNat t2.toNat t3.toNat t4.toNat ∧ (r s n).upstream = true) ∧
  (∃ (s : State) (n : Fin 32) (mv : Bool) (f : Bool), ready s n ∧ live s n ∧ inService (r s n).state = true ∧ ((r s n).bit 141 0 = false ∨ lost s n = false ∧ mv = false ∧ f = false)) := by
  dsimp only
  exact ⟨⟨{ ((State.reset.setFld (R.RING_BASE_OFFSET 5) 4096).setFld (R.RING_TAIL_INDEX 5) 2) with mem := [(20971782, 0x03#8), (20971917, 0x01#8), (50335763, 0x01#8), (50335764, 0x01#8), (50335765, 0x40#8)] }, 5, by decide +kernel⟩,
    ⟨{ ((State.reset.setFld (R.RING_BASE_OFFSET 27) 24576).setFld (R.RING_TAIL_INDEX 27) 2) with mem := [(41943302, 0x02#8), (41943437, 0x01#8), (50356243, 0x11#8), (50356244, 0x01#8), (50356245, 0x80#8), (50356246, 0x01#8)] }, 27, 0x0000000000070000499b84f0#96, 0x0000000000070000c925a28f#96, 0x0000000000070001a135aa28#96, 0x0000000000070000c29e2aed#96, by decide +kernel⟩,
    ⟨{ ((State.reset.setFld (R.RING_BASE_OFFSET 27) 24576).setFld (R.RING_TAIL_INDEX 27) 2) with mem := [(41943302, 0x02#8), (41943304, 0x18#8), (41943437, 0x03#8), (50356243, 0x01#8), (50356244, 0x01#8), (50356245, 0x80#8), (50356246, 0x01#8)] }, 27, 0x0000000000070001f6e57cfc#96, 0x000000000007000244942252#96, 0x0000000000070000fa363041#96, 0x0000000000070000468e0d35#96, by decide +kernel⟩,
    ⟨{ ((State.reset.setFld (R.RING_BASE_OFFSET 5) 4096).setFld (R.RING_TAIL_INDEX 5) 2) with mem := [(20971782, 0x03#8), (50335763, 0x01#8), (50335764, 0x01#8), (50335765, 0x40#8)] }, 5, true, false, by decide +kernel⟩⟩

/-- The hypotheses of the clauses of `Obligations.EndpointFrames` are met, part 3. -/
theorem test_hyps_EndpointFrames_3 :
  (∃ (s : State) (n : Fin 32), s.powered = true ∧ (s.ringCount n = 0 ∨ s.epsRuns (n / 4) = false)) := by
  exact ⟨State.reset, 27, by decide +kernel⟩

/-- The hypotheses of the clauses of `Obligations.EndpointIntervals` are met, part 1. -/
theorem test_hyps_EndpointIntervals_1 :
  let rec_ (s : State) (k : Nat) : Record := s.byteList (recordAt k) 256
  let ready (s : State) (i : Fin 131072) : Prop :=
    s.powered = true ∧ s.epsRuns (i / 2 ^ 14) = true ∧ s.bank.ecc = [] ∧ (rec_ s i).state ≠ 0 ∧ (rec_ s i).state ≠ 7
  let due (s : State) (i : Fin 131072) : Prop := (s.epRun i).interval < s.intervalNo i (rec_ s i)
  let missed (s : State) (i : Fin 131072) : Prop :=
    (s.epRun i).hit = false ∧ (s.epRun i).seen = Tab.get (fun _ => 0) s.eps.starts (i / 2 ^ 14)
  let dies (s : State) (i : Fin 131072) : Prop :=
    ((rec_ s i).state = 1 ∨ (rec_ s i).state = 3) ∧ s.deadK ≤ min 255 ((rec_ s i).get 140 1 + 1)
  let quiet (buf : BitVec 32) : Prop := launchBank buf.toNat = false
  let plain (s : State) : Prop := s.fld R.EPD_CFG_SILENT_ALARM = 0
  (∃ (s : State) (i : Fin 131072) (buf : BitVec 32), ready s i ∧ quiet buf ∧ due s i ∧ missed s i ∧ plain s ∧ ¬ dies s i) ∧
  (∃ (s : State) (i : Fin 131072) (buf : BitVec 32), ready s i ∧ quiet buf ∧ due s i ∧ missed s i ∧ dies s i ∧ s.bankOpen 25 = true ∧ s.ringsFenced = false ∧ s.ringEsz (112 + i / 2 ^ 14) = 32 ∧ s.ringRoom (112 + i / 2 ^ 14) ≠ 0) ∧
  (∃ (s : State) (i : Fin 131072) (buf : BitVec 32), ready s i ∧ quiet buf ∧ due s i ∧ ¬ missed s i) ∧
  (∃ (s : State) (i : Fin 131072) (buf : BitVec 32), ready s i ∧ ¬ due s i ∧ (quiet buf ∨ s.syncDueFor i (rec_ s i) = false)) := by
  dsimp only
  exact ⟨⟨{ State.reset with mem := [(41943302, 0x0c#8)], tb := { TimeBase.init with now := 655298464000000 } }, 98305, 0x00000005#32, by decide +kernel⟩,
    ⟨{ State.reset with mem := [(41943302, 0x03#8), (41943436, 0xf4#8)], tb := { TimeBase.init with now := 655298464000000 } }, 98305, 0x00002000#32, by decide +kernel⟩,
    ⟨{ State.reset with mem := [(20971782, 0x0c#8)], tb := { TimeBase.init with now := 655298464000000 }, eps := { Eps.init with runs := [(16385, { EpRun.init with hit := true })] } }, 16385, 0x00000005#32, by decide +kernel⟩,
    ⟨{ State.reset with mem := [(20971782, 0x04#8)] }, 16385, 0x03c00100#32, by decide +kernel⟩⟩

/-- The hypotheses of the clauses of `Obligations.EndpointIntervals` are met, part 2. -/
theorem test_hyps_EndpointIntervals_2 :
  let rec_ (s : State) (k : Nat) : Record := s.byteList (recordAt k) 256
  let ready (s : State) (i : Fin 131072) : Prop :=
    s.powered = true ∧ s.epsRuns (i / 2 ^ 14) = true ∧ s.bank.ecc = [] ∧ (rec_ s i).state ≠ 0 ∧ (rec_ s i).state ≠ 7
  let due (s : State) (i : Fin 131072) : Prop := (s.epRun i).interval < s.intervalNo i (rec_ s i)
  let nextAt (s : State) (i : Fin 131072) : Nat := encodeHub (intervalStart i (s.intervalNo i (rec_ s i) + 1) (rec_ s i))
  let places (s : State) (i : Fin 131072) (buf : BitVec 32) : Prop :=
    let h := leBytes 12 (nextAt s i) ++ (s.byteList (buf.toNat + 12) 20)
    buf.toNat % 128 = 0 ∧ launchBank buf.toNat = true ∧ bankOf buf.toNat ≠ some (16 + i.val / 2 ^ 14) ∧
      s.bankOpen ((bankOf buf.toNat).getD 0) = true ∧ headerOk h = true ∧ nextAt s i ≠ 0 ∧
      launchBank (buf.toNat + 128 * launchEntries h - 1) = true ∧ (rec_ s i).get 16 1 % 32 / 4 = i.val / 2 ^ 14 ∧
      s.tb.now < 2 ^ 88 ∧ ∃ k < 1024, ∀ x ∈ (s.link ((rec_ s i).get 16 1 % 32)).cal, x.slot ≠ k
  (∃ (s : State) (i : Fin 131072) (buf : BitVec 32), ready s i ∧ ¬ due s i ∧ s.syncDueFor i (rec_ s i) = true ∧ places s i buf) ∧
  (∃ (s : State) (i : Fin 131072), s.powered = true ∧ s.bank.ecc = [] ∧ (s.epsRuns (i / 2 ^ 14) = false ∨ (rec_ s i).state = 0 ∨ (rec_ s i).state = 7)) := by
  dsimp only
  exact ⟨⟨{ State.reset with mem := [(20971782, 0x03#8), (20971792, 0x05#8), (62914830, 0x2e#8), (62914833, 0x01#8)] }, 16385, 0x03c00100#32, by decide +kernel⟩,
    ⟨State.reset, 16387, by decide +kernel⟩⟩

/-- The hypotheses of the clauses of `Obligations.IntegerInstructions` are met. -/
theorem test_hyps_IntegerInstructions :
  let runs (s : State) (e : Fin 8) (t : Fin 4) : Prop := s.mayIssue e t = true ∧ (s.thread e t).trapDue = false
  let free (s : State) (e : Fin 8) (t : Fin 4) (r : Fin 32) : Prop := s.regPending e t ((s.thread e t).dest r) = false
  (∃ (s : State) (e : Fin 8) (t : Fin 4) (rd : Fin 32) (ra : Fin 32) (rb : Fin 32), runs s e t ∧ free s e t rd ∧ free s e t ra ∧ free s e t rb) := by
  dsimp only
  exact ⟨State.reset, 1, 0, 17, 27, 17, by decide +kernel⟩

/-- The hypotheses of the clauses of `Obligations.ImmediateInstructions` are met. -/
theorem test_hyps_ImmediateInstructions :
  let runs (s : State) (e : Fin 8) (t : Fin 4) : Prop := s.mayIssue e t = true ∧ (s.thread e t).trapDue = false
  let free (s : State) (e : Fin 8) (t : Fin 4) (r : Fin 32) : Prop := s.regPending e t ((s.thread e t).dest r) = false
  (∃ (s : State) (e : Fin 8) (t : Fin 4) (rd : Fin 32) (ra : Fin 32), runs s e t ∧ free s e t rd ∧ free s e t ra) := by
  dsimp only
  exact ⟨State.reset, 1, 0, 17, 27, by decide +kernel⟩

/-- The hypotheses of the clauses of `Obligations.BranchInstructions` are met. -/
theorem test_hyps_BranchInstructions :
  let runs (s : State) (e : Fin 8) (t : Fin 4) : Prop :=
    s.mayIssue e t = true ∧ (s.thread e t).trapDue = false ∧ s.pc e t % 4 = 0
  let free (s : State) (e : Fin 8) (t : Fin 4) (r : Fin 32) : Prop := s.regPending e t ((s.thread e t).dest r) = false
  (∃ (s : State) (e : Fin 8) (t : Fin 4), runs s e t) ∧
  (∃ (s : State) (e : Fin 8) (t : Fin 4) (rs : Fin 32), runs s e t ∧ free s e t rs) ∧
  (∃ (s : State) (e : Fin 8) (t : Fin 4), runs s e t ∧ s.regPending e t (.g (if (s.thread e t).v1 then 15 else 31)) = false) ∧
  (∃ (s : State) (e : Fin 8) (t : Fin 4) (ra : Fin 32), runs s e t ∧ free s e t ra) := by
  dsimp only
  exact ⟨⟨State.reset, 1, 0, by decide +kernel⟩,
    ⟨((State.reset.setFld (R.ENG_THR_STATE_W0_TSTATE 2 0) 3).setFld (R.ENG_THR_STATE_W0_TSTATE 2 1) 1), 2, 1, 25, by decide +kernel⟩,
    ⟨{ (State.reset.setFld (R.ENG_THR_STATE_W0_TSTATE 0 1) 1) with eng := { Engines.init with lastThr := [(0, 0)] } }, 0, 1, by decide +kernel⟩,
    ⟨{ (State.reset.setFld (R.ENG_THR_STATE_W0_TSTATE 2 1) 1) with eng := { Engines.init with lastThr := [(2, 0)] } }, 2, 1, 27, by decide +kernel⟩⟩

/-- The hypotheses of the clauses of `Obligations.TimeInstructions` are met. -/
theorem test_hyps_TimeInstructions :
  let runs (s : State) (e : Fin 8) (t : Fin 4) : Prop :=
    s.mayIssue e t = true ∧ (s.thread e t).trapDue = false ∧ (s.thread e t).v1 = false
  let free (s : State) (e : Fin 8) (t : Fin 4) (l : List Dest) : Prop := ∀ d ∈ l, s.regPending e t d = false
  (∃ (s : State) (e : Fin 8) (t : Fin 4) (td : Fin 8) (ta : Fin 8) (rb : Fin 32), runs s e t ∧ free s e t [.t td, .t ta, (s.thread e t).dest rb]) ∧
  (∃ (s : State) (e : Fin 8) (t : Fin 4) (rd : Fin 32) (ta : Fin 8) (tb : Fin 8), runs s e t ∧ free s e t [(s.thread e t).dest rd, .t ta, .t tb]) ∧
  (∃ (s : State) (e : Fin 8) (t : Fin 4) (rd : Fin 32) (ta : Fin 8), runs s e t ∧ free s e t [(s.thread e t).dest rd, .t ta]) ∧
  (∃ (s : State) (e : Fin 8) (t : Fin 4) (td : Fin 8) (ra : Fin 32) (rb : Fin 32), runs s e t ∧ free s e t [.t td, (s.thread e t).dest ra, (s.thread e t).dest rb]) ∧
  (∃ (s : State) (e : Fin 8) (t : Fin 4) (td : Fin 8) (ta : Fin 8), runs s e t ∧ free s e t [.t td, .t ta]) := by
  dsimp only
  exact ⟨⟨State.reset, 1, 0, 1, 2, 27, by decide +kernel⟩,
    ⟨{ (State.reset.setFld (R.ENG_THR_STATE_W0_TSTATE 0 1) 1) with eng := { Engines.init with lastThr := [(0, 0)] } }, 0, 1, 0, 1, 1, by decide +kernel⟩,
    ⟨{ (State.reset.setFld (R.ENG_THR_STATE_W0_TSTATE 0 1) 1) with eng := { Engines.init with lastThr := [(0, 0)] } }, 0, 1, 27, 1, by decide +kernel⟩,
    ⟨State.reset, 1, 0, 2, 1, 2, by decide +kernel⟩,
    ⟨State.reset, 0, 0, 0, 1, by decide +kernel⟩⟩

/-- The hypotheses of the clauses of `Obligations.Velmos1Threads` are met. -/
theorem test_hyps_Velmos1Threads :
  let runs (s : State) (e : Fin 8) (t : Fin 4) : Prop := s.mayIssue e t = true ∧ (s.thread e t).trapDue = false
  let undef (s : State) (e : Fin 8) (t : Fin 4) : Prop :=
    runs s e t ∧ s.engState e = 1 ∧ (s.thread e t).fs.inTrap = false ∧ s.pc e t < 2 ^ 18 ∧ s.fenced (0x068 + e) = false
  (∃ (s : State) (e : Fin 8) (t : Fin 4), undef s e t) ∧
  (∃ (s : State) (e : Fin 8) (t : Fin 4) (sel : Fin 3) (ring : Fin 128), undef s e t ∧ (s.thread e t).v1 = true ∧ sel ≠ 0 ∧ 64 ≤ ring.val) ∧
  (∃ (s : State) (e : Fin 8) (t : Fin 4), runs s e t ∧ (s.thread e t).v1 = true ∧ s.flightsOf e t = []) := by
  dsimp only
  exact ⟨⟨State.reset, 1, 0, by decide +kernel⟩,
    ⟨{ (State.reset.setFld (R.ENG_THR_STATE_W0_TSTATE 2 1) 1) with eng := { Engines.init with thr := [(9, { Thread.init 0 with ep := 0x0201#16, v1 := true })], lastThr := [(2, 0)] } }, 2, 1, 1, 127, by decide +kernel⟩,
    ⟨{ State.reset with eng := { Engines.init with thr := [(0, { Thread.init 0 with ep := 0x0001#16, v1 := true })] } }, 0, 0, by decide +kernel⟩⟩

/-- The hypotheses of the clauses of `Obligations.ThreadIssue` are met. -/
theorem test_hyps_ThreadIssue :
  (∃ (s : State) (e : Fin 8) (t : Fin 4), s.mayIssue e t = false) ∧
  (∃ (s : State) (e : Fin 8) (t : Fin 4), s.mayIssue e t = true ∧ (s.thread e t).trapDue = true ∧ (s.thread e t).fs.inTrap = false) ∧
  (∃ (s : State) (e : Fin 8) (t : Fin 4) (rd : Fin 32) (ra : Fin 32) (rb : Fin 32), s.mayIssue e t = true ∧ (s.thread e t).trapDue = false ∧ (∃ r ∈ [rd, ra, rb], s.regPending e t ((s.thread e t).dest r) = true)) ∧
  (∃ (s : State) (e : Fin 8) (t : Fin 4) (rd : Fin 32) (ra : Fin 32), s.mayIssue e t = true ∧ (s.thread e t).trapDue = false ∧ (∃ r ∈ [rd, ra], s.regPending e t ((s.thread e t).dest r) = true)) ∧
  (∃ (s : State) (e : Fin 8) (t : Fin 4), s.mayIssue e t = true ∧ (s.thread e t).trapDue = false ∧ (∀ r : Fin 32, s.regPending e t ((s.thread e t).dest r) = false) ∧ s.engState e = 1 ∧ s.current (s.thread e t).ep = true ∧ s.scoreFull e t = true) ∧
  (∃ (s : State) (e : Fin 8) (t : Fin 4), s.mayIssue e t = true ∧ (s.thread e t).trapDue = false ∧ (s.thread e t).v1 = false ∧ s.flightsOf e t = [] ∧ s.engState e = 1 ∧ s.pc e t % 4 = 0 ∧ s.pc e t < 2 ^ 18) := by
  exact ⟨⟨State.reset, 0, 1, by decide +kernel⟩,
    ⟨{ State.reset with eng := { Engines.init with thr := [(4, { Thread.init 0 with ep := 0x0101#16, trapDue := true })] } }, 1, 0, by decide +kernel⟩,
    ⟨{ State.reset with eng := { Engines.init with fl := [(2, [{ place := 0, thr := 0, dest := Dest.g 3, tok := 0x0000#16, op := Op.load 0 8, done := none }])] } }, 2, 0, 27, 3, 27, by decide +kernel⟩,
    ⟨{ State.reset with eng := { Engines.init with fl := [(2, [{ place := 0, thr := 0, dest := Dest.g 3, tok := 0x0000#16, op := Op.load 0 8, done := none }])] } }, 2, 0, 15, 3, by decide +kernel⟩,
    ⟨{ (State.reset.setFld (R.ENG_THR_STATE_W0_TSTATE 1 1) 1) with eng := { Engines.init with fl := [(1, [{ place := 8, thr := 1, dest := Dest.none, tok := 0x0000#16, op := Op.load 0 8, done := none }, { place := 9, thr := 1, dest := Dest.none, tok := 0x0000#16, op := Op.load 0 8, done := none }, { place := 10, thr := 1, dest := Dest.none, tok := 0x0000#16, op := Op.load 0 8, done := none }, { place := 11, thr := 1, dest := Dest.none, tok := 0x0000#16, op := Op.load 0 8, done := none }, { place := 12, thr := 1, dest := Dest.none, tok := 0x0000#16, op := Op.load 0 8, done := none }, { place := 13, thr := 1, dest := Dest.none, tok := 0x0000#16, op := Op.load 0 8, done := none }, { place := 14, thr := 1, dest := Dest.none, tok := 0x0000#16, op := Op.load 0 8, done := none }, { place := 15, thr := 1, dest := Dest.none, tok := 0x0000#16, op := Op.load 0 8, done := none }])], lastThr := [(1, 0)] } }, 1, 1, by decide +kernel⟩,
    ⟨State.reset, 2, 0, by decide +kernel⟩⟩

/-- The hypotheses of the clauses of `Obligations.LoadOperations` are met. -/
theorem test_hyps_LoadOperations :
  let ops (s : State) (e : Fin 8) (t : Fin 4) : Prop :=
    s.mayIssue e t = true ∧ (s.thread e t).trapDue = false ∧ s.engState e = 1 ∧ s.current (s.thread e t).ep = true ∧
    s.scoreFull e t = false ∧ (s.flightsOf e t).all (fun f => f.done.isSome) = true
  let free (s : State) (e : Fin 8) (t : Fin 4) (l : List Dest) : Prop := ∀ d ∈ l, s.regPending e t d = false
  let ea (s : State) (e : Fin 8) (t : Fin 4) (ra : Fin 32) (imm : BitVec 12) : Nat :=
    ((s.thread e t).rd ra + imm.signExtend 64).toNat
  let sizes (e : Fin 8) (t : Fin 4) (rd ra : Fin 32) (imm : BitVec 12) (x : Bool) : List (Instr × Nat) :=
    [(.ld8 e t rd ra imm x, 1), (.ld16 e t rd ra imm x, 2), (.ld32 e t rd ra imm x, 4), (.ld64 e t rd ra imm x, 8)]
  (∃ (s : State) (e : Fin 8) (t : Fin 4) (rd : Fin 32) (ra : Fin 32) (imm : BitVec 12) (c : Instr × Nat), ops s e t ∧ free s e t [(s.thread e t).dest rd, (s.thread e t).dest ra] ∧ ea s e t ra imm < 2 ^ 32 ∧ (bankOf (ea s e t ra imm)).isSome = true ∧ s.bankOpen ((bankOf (ea s e t ra imm)).getD 0) = true ∧ s.bank.ecc = [] ∧ c ∈ sizes e t rd ra imm false ∧ ea s e t ra imm % c.2 = 0) ∧
  (∃ (s : State) (e : Fin 8) (t : Fin 4) (rd : Fin 32) (ra : Fin 32) (imm : BitVec 12) (c : Instr × Nat), ops s e t ∧ free s e t [(s.thread e t).dest rd, (s.thread e t).dest ra] ∧ ea s e t ra imm < 2 ^ 32 ∧ (bankOf (ea s e t ra imm)).isSome = true ∧ s.bankOpen ((bankOf (ea s e t ra imm)).getD 0) = false ∧ c ∈ sizes e t rd ra imm false ∧ ea s e t ra imm % c.2 = 0) ∧
  (∃ (s : State) (e : Fin 8) (t : Fin 4) (rd : Fin 32) (ra : Fin 32) (imm : BitVec 12) (c : Instr × Nat), let a := ea s e t ra imm; ops s e t ∧ free s e t [(s.thread e t).dest rd, (s.thread e t).dest ra] ∧ c ∈ sizes e t rd ra imm false ∧ (2 ^ 32 ≤ a ∨ a % c.2 ≠ 0 ∨ mapped a = false ∨ isMailbox a = true ∨ bankOf a = none ∧ c.2 ≠ 4)) ∧
  (∃ (s : State) (e : Fin 8) (t : Fin 4) (rd : Fin 32) (ra : Fin 32) (imm : BitVec 12), let a := ea s e t ra imm; ops s e t ∧ free s e t [(s.thread e t).dest rd, (s.thread e t).dest ra] ∧ a % 4 = 0 ∧ isAo a = true) ∧
  (∃ (s : State) (e : Fin 8) (t : Fin 4) (rd : Fin 32) (ra : Fin 32) (imm : BitVec 12), let a := ea s e t ra imm; ops s e t ∧ free s e t [(s.thread e t).dest rd, (s.thread e t).dest ra] ∧ a % 4 = 0 ∧ isReg a = true ∧ isMailbox a = false ∧ a / 0x10000 ≠ 0x50B ∧ s.pwrState ≠ 2) ∧
  (∃ (s : State) (e : Fin 8) (t : Fin 4) (td : Fin 8) (ra : Fin 32) (imm : BitVec 12), ops s e t ∧ free s e t [.t td, (s.thread e t).dest ra] ∧ (s.thread e t).v1 = false ∧ (bankOf (ea s e t ra imm)).isSome = true ∧ spaceOf (ea s e t ra imm + 11) = spaceOf (ea s e t ra imm) ∧ ea s e t ra imm % 4 = 0 ∧ s.bankOpen ((bankOf (ea s e t ra imm)).getD 0) = true ∧ s.bankOpen ((bankOf (ea s e t ra imm + 11)).getD 0) = true ∧ s.bank.ecc = []) ∧
  (∃ (s : State) (e : Fin 8) (t : Fin 4) (td : Fin 8) (ra : Fin 32) (imm : BitVec 12), ops s e t ∧ free s e t [.t td, (s.thread e t).dest ra] ∧ (s.thread e t).v1 = false ∧ (ea s e t ra imm % 4 ≠ 0 ∨ spaceOf (ea s e t ra imm + 11) ≠ spaceOf (ea s e t ra imm) ∨ bankOf (ea s e t ra imm) = none)) ∧
  (∃ (s : State) (e : Fin 8) (t : Fin 4) (rd : Fin 32) (ra : Fin 32) (imm : BitVec 12), ops s e t ∧ free s e t [(s.thread e t).dest rd, (s.thread e t).dest ra] ∧ (bankOf (ea s e t ra imm)).isSome = true) := by
  dsimp only
  exact ⟨⟨{ (State.reset.setFld (R.ENG_THR_STATE_W0_TSTATE 1 1) 1) with eng := { Engines.init with thr := [(5, { Thread.init 0 with g := [(18, 0x0000000001400080#64)], ep := 0x0101#16 })], lastThr := [(1, 0)] } }, 1, 1, 26, 18, 0xffc#12, (Instr.ld16 1 1 26 18 0xffc#12 false, 2), by decide +kernel⟩,
    ⟨{ (State.reset.setFld (R.BNK_STATUS_PWR_NOW 8) 1) with eng := { Engines.init with thr := [(8, { Thread.init 0 with g := [(16, 0x0000000000803000#64)], ep := 0x0201#16 })] } }, 2, 0, 0, 16, 0x000#12, (Instr.ld32 2 0 0 16 0x000#12 false, 4), by decide +kernel⟩,
    ⟨{ (State.reset.setFld (R.ENG_THR_STATE_W0_TSTATE 0 1) 1) with eng := { Engines.init with lastThr := [(0, 0)] } }, 0, 1, 25, 3, 0xffe#12, (Instr.ld64 0 1 25 3 0xffe#12 false, 8), by decide +kernel⟩,
    ⟨{ (State.reset.setFld (R.ENG_THR_STATE_W0_TSTATE 0 1) 1) with eng := { Engines.init with thr := [(1, { Thread.init 0 with g := [(28, 0x0000000004000010#64)], ep := 0x0001#16 })], lastThr := [(0, 0)] } }, 0, 1, 0, 28, 0x010#12, by decide +kernel⟩,
    ⟨{ (State.reset.setFld (R.ENG_THR_STATE_W0_TSTATE 1 1) 1) with eng := { Engines.init with thr := [(5, { Thread.init 0 with g := [(17, 0x0000000005010000#64)], ep := 0x0101#16 })], lastThr := [(1, 0)] } }, 1, 1, 14, 17, 0xffc#12, by decide +kernel⟩,
    ⟨{ (State.reset.setFld (R.ENG_THR_STATE_W0_TSTATE 0 1) 1) with eng := { Engines.init with lastThr := [(0, 0)] } }, 0, 1, 0, 14, 0x000#12, by decide +kernel⟩,
    ⟨State.reset, 0, 0, 0, 19, 0xffe#12, by decide +kernel⟩,
    ⟨{ (State.reset.setFld (R.ENG_THR_STATE_W0_TSTATE 0 1) 1) with eng := { Engines.init with lastThr := [(0, 0)] } }, 0, 1, 2, 1, 0x010#12, by decide +kernel⟩⟩

/-- The hypotheses of the clauses of `Obligations.StoreOperations` are met, part 1. -/
theorem test_hyps_StoreOperations_1 :
  let ops (s : State) (e : Fin 8) (t : Fin 4) : Prop :=
    s.mayIssue e t = true ∧ (s.thread e t).trapDue = false ∧ s.engState e = 1 ∧ s.current (s.thread e t).ep = true ∧
    s.scoreFull e t = false ∧ (s.flightsOf e t).all (fun f => f.done.isSome) = true
  let free (s : State) (e : Fin 8) (t : Fin 4) (l : List Dest) : Prop := ∀ d ∈ l, s.regPending e t d = false
  let ea (s : State) (e : Fin 8) (t : Fin 4) (ra : Fin 32) (imm : BitVec 12) : Nat :=
    ((s.thread e t).rd ra + imm.signExtend 64).toNat
  let sizes (e : Fin 8) (t : Fin 4) (rs ra : Fin 32) (imm : BitVec 12) : List (Instr × Nat) :=
    [(.st8 e t rs ra imm false, 1), (.st16 e t rs ra imm false, 2), (.st32 e t rs ra imm false, 4), (.st64 e t rs ra imm false, 8)]
  let openBank (s : State) (a : Nat) : Prop := (bankOf a).isSome = true ∧ s.bankOpen ((bankOf a).getD 0) = true ∧ s.bank.ecc = []
  let takes (s : State) (e : Fin 8) (a : Nat) : Prop :=
    (bankOf a).getD 0 ≠ e ∧ (bankOf a).getD 0 ≠ 28 ∧ (8 ≤ (bankOf a).getD 0 ∨ s.engState ((bankOf a).getD 0) = 0
      ∨ s.engState ((bankOf a).getD 0) = 4)
  (∃ (s : State) (e : Fin 8) (t : Fin 4) (rs : Fin 32) (ra : Fin 32) (imm : BitVec 12) (c : Instr × Nat), ops s e t ∧ free s e t [(s.thread e t).dest rs, (s.thread e t).dest ra] ∧ openBank s (ea s e t ra imm) ∧ takes s e (ea s e t ra imm) ∧ c ∈ sizes e t rs ra imm ∧ ea s e t ra imm % c.2 = 0) ∧
  (∃ (s : State) (e : Fin 8) (t : Fin 4) (rs : Fin 32) (ra : Fin 32) (imm : BitVec 12) (c : Instr × Nat), ops s e t ∧ free s e t [(s.thread e t).dest rs, (s.thread e t).dest ra] ∧ openBank s (ea s e t ra imm) ∧ (bankOf (ea s e t ra imm)).getD 0 < 8 ∧ ¬ takes s e (ea s e t ra imm) ∧ c ∈ sizes e t rs ra imm ∧ ea s e t ra imm % c.2 = 0) ∧
  (∃ (s : State) (e : Fin 8) (t : Fin 4) (rs : Fin 32) (ra : Fin 32) (imm : BitVec 12) (c : Instr × Nat), ops s e t ∧ free s e t [(s.thread e t).dest rs, (s.thread e t).dest ra] ∧ openBank s (ea s e t ra imm) ∧ bankOf (ea s e t ra imm) = some 28 ∧ c ∈ sizes e t rs ra imm ∧ ea s e t ra imm % c.2 = 0) ∧
  (∃ (s : State) (e : Fin 8) (t : Fin 4) (rs : Fin 32) (ra : Fin 32) (imm : BitVec 12) (c : Instr × Nat), let a := ea s e t ra imm; ops s e t ∧ free s e t [(s.thread e t).dest rs, (s.thread e t).dest ra] ∧ c ∈ sizes e t rs ra imm ∧ (2 ^ 32 ≤ a ∨ a % c.2 ≠ 0 ∨ mapped a = false ∨ isMailbox a = true ∨ bankOf a = none ∧ c.2 ≠ 4)) ∧
  (∃ (s : State) (e : Fin 8) (t : Fin 4) (rs : Fin 32) (ra : Fin 32) (imm : BitVec 12) (c : Instr × Nat), ops s e t ∧ free s e t [(s.thread e t).dest rs, (s.thread e t).dest ra] ∧ (bankOf (ea s e t ra imm)).isSome = true ∧ s.bankOpen ((bankOf (ea s e t ra imm)).getD 0) = false ∧ c ∈ sizes e t rs ra imm ∧ ea s e t ra imm % c.2 = 0) ∧
  (∃ (s : State) (e : Fin 8) (t : Fin 4) (rs : Fin 32) (ra : Fin 32) (imm : BitVec 12), let a := ea s e t ra imm; ops s e t ∧ free s e t [(s.thread e t).dest rs, (s.thread e t).dest ra] ∧ isAo a = true ∧ a % 4 = 0) ∧
  (∃ (s : State) (e : Fin 8) (t : Fin 4) (ts : Fin 8) (ra : Fin 32) (imm : BitVec 12), ops s e t ∧ free s e t [.t ts, (s.thread e t).dest ra] ∧ (s.thread e t).v1 = false ∧ openBank s (ea s e t ra imm) ∧ takes s e (ea s e t ra imm) ∧ openBank s (ea s e t ra imm + 11) ∧ takes s e (ea s e t ra imm + 11) ∧ spaceOf (ea s e t ra imm + 11) = spaceOf (ea s e t ra imm) ∧ ea s e t ra imm % 4 = 0) ∧
  (∃ (s : State) (e : Fin 8) (t : Fin 4) (rd : Fin 32) (ra : Fin 32) (rb : Fin 32) (w : Bool), let a := ((s.thread e t).rd ra).toNat; let n := if w then 4 else 8; ops s e t ∧ free s e t [(s.thread e t).dest rd, (s.thread e t).dest ra, (s.thread e t).dest rb] ∧ (s.thread e t).v1 = false ∧ openBank s a ∧ 8 ≤ (bankOf a).getD 0 ∧ (bankOf a).getD 0 < 28 ∧ a % n = 0) := by
  dsimp only
  exact ⟨⟨{ (State.reset.setFld (R.ENG_THR_STATE_W0_TSTATE 1 1) 1) with eng := { Engines.init with thr := [(5, { Thread.init 0 with g := [(18, 0x0000000001400080#64)], ep := 0x0101#16 })], lastThr := [(1, 0)] } }, 1, 1, 26, 18, 0xffc#12, (Instr.st16 1 1 26 18 0xffc#12 false, 2), by decide +kernel⟩,
    ⟨{ (State.reset.setFld (R.ENG_THR_STATE_W0_TSTATE 0 1) 1) with eng := { Engines.init with lastThr := [(0, 0)] } }, 0, 1, 25, 20, 0x004#12, (Instr.st32 0 1 25 20 0x004#12 false, 4), by decide +kernel⟩,
    ⟨{ (State.reset.setFld (R.ENG_THR_STATE_W0_TSTATE 1 1) 1) with eng := { Engines.init with thr := [(5, { Thread.init 0 with g := [(16, 0x0000000003e00040#64)], ep := 0x0101#16 })], lastThr := [(1, 0)] } }, 1, 1, 15, 16, 0x010#12, (Instr.st32 1 1 15 16 0x010#12 false, 4), by decide +kernel⟩,
    ⟨{ (State.reset.setFld (R.ENG_THR_STATE_W0_TSTATE 0 1) 1) with eng := { Engines.init with thr := [(1, { Thread.init 0 with g := [(23, 0x0000000005070000#64)], ep := 0x0001#16 })], lastThr := [(0, 0)] } }, 0, 1, 24, 23, 0x000#12, (Instr.st32 0 1 24 23 0x000#12 false, 4), by decide +kernel⟩,
    ⟨{ ((State.reset.setFld (R.ENG_THR_STATE_W0_TSTATE 1 1) 1).setFld (R.BNK_STATUS_PWR_NOW 8) 1) with eng := { Engines.init with thr := [(5, { Thread.init 0 with g := [(27, 0x0000000000803000#64)], ep := 0x0101#16 })], lastThr := [(1, 0)] } }, 1, 1, 1, 27, 0x004#12, (Instr.st8 1 1 1 27 0x004#12 false, 1), by decide +kernel⟩,
    ⟨{ (State.reset.setFld (R.ENG_THR_STATE_W0_TSTATE 1 1) 1) with eng := { Engines.init with thr := [(5, { Thread.init 0 with g := [(30, 0x0000000004000404#64)], ep := 0x0101#16 })], lastThr := [(1, 0)] } }, 1, 1, 26, 30, 0x000#12, by decide +kernel⟩,
    ⟨(State.reset.setFld (R.ENG_STATE_STATE 0) 0), 1, 0, 2, 22, 0x008#12, by decide +kernel⟩,
    ⟨{ (State.reset.setFld (R.ENG_THR_STATE_W0_TSTATE 0 1) 1) with eng := { Engines.init with thr := [(1, { Thread.init 0 with g := [(20, 0x0000000000fffff8#64)], ep := 0x0001#16 })], lastThr := [(0, 0)] } }, 0, 1, 31, 20, 19, true, by decide +kernel⟩⟩

/-- The hypotheses of the clauses of `Obligations.StoreOperations` are met, part 2. -/
theorem test_hyps_StoreOperations_2 :
  let ops (s : State) (e : Fin 8) (t : Fin 4) : Prop :=
    s.mayIssue e t = true ∧ (s.thread e t).trapDue = false ∧ s.engState e = 1 ∧ s.current (s.thread e t).ep = true ∧
    s.scoreFull e t = false ∧ (s.flightsOf e t).all (fun f => f.done.isSome) = true
  let free (s : State) (e : Fin 8) (t : Fin 4) (l : List Dest) : Prop := ∀ d ∈ l, s.regPending e t d = false
  (∃ (s : State) (e : Fin 8) (t : Fin 4) (rd : Fin 32) (ra : Fin 32) (rb : Fin 32), ops s e t ∧ free s e t [(s.thread e t).dest rd, (s.thread e t).dest ra, (s.thread e t).dest rb] ∧ (s.thread e t).v1 = false) := by
  dsimp only
  exact ⟨State.reset, 0, 0, 26, 27, 18, by decide +kernel⟩

/-- The hypotheses of the clauses of `Obligations.RingInstructions` are met. -/
theorem test_hyps_RingInstructions :
  let ops (s : State) (e : Fin 8) (t : Fin 4) (rd ra : Fin 32) (r : Fin 128) : Prop :=
    s.mayIssue e t = true ∧ (s.thread e t).trapDue = false ∧ s.engState e = 1 ∧ s.current (s.thread e t).ep = true ∧
    s.scoreFull e t = false ∧ (s.flightsOf e t).all (fun f => f.done.isSome) = true ∧
    s.regPending e t ((s.thread e t).dest rd) = false ∧ s.regPending e t ((s.thread e t).dest ra) = false ∧
    ((s.thread e t).v1 = true → r.val < 64)
  let role (s : State) (e : Fin 8) (t : Fin 4) : Nat := (s.thread e t).ep.toNat / 256 % 64
  let copy (s : State) (r : Fin 128) (entry buf : Nat) : Prop :=
    bankOf entry = some (ringBank r) ∧ bankOf (entry + s.ringEsz r - 1) = some (ringBank r) ∧ s.bankOpen ((bankOf (buf + s.ringEsz r - 1)).getD 0) = true ∧
    s.bankOpen (ringBank r) = true ∧ s.bankOpen ((bankOf buf).getD 0) = true ∧ s.bank.ecc = [] ∧
    (buf + s.ringEsz r ≤ entry ∨ entry + s.ringEsz r ≤ buf)
  (∃ (s : State) (e : Fin 8) (t : Fin 4) (rd : Fin 32) (ra : Fin 32) (r : Fin 128), let buf := ((s.thread e t).rd ra).toNat; let entry := s.ringEntry r (s.ringTail r); ops s e t rd ra r ∧ ringBuf buf (s.ringEsz r) = true ∧ ringGroup r true = true ∧ s.ringOwner r (role s e t) true = true ∧ s.ringsFenced = false ∧ s.ringRoom r ≠ 0 ∧ copy s r entry buf) ∧
  (∃ (s : State) (e : Fin 8) (t : Fin 4) (rd : Fin 32) (ra : Fin 32) (r : Fin 128), let buf := ((s.thread e t).rd ra).toNat; let entry := s.ringEntry r (s.ringHead r); ops s e t rd ra r ∧ ringBuf buf (s.ringEsz r) = true ∧ ringGroup r false = true ∧ s.ringOwner r (role s e t) false = true ∧ s.ringsFenced = false ∧ s.ringOn r = true ∧ s.ringCount r ≠ 0 ∧ copy s r entry buf) ∧
  (∃ (s : State) (e : Fin 8) (t : Fin 4) (rd : Fin 32) (ra : Fin 32) (r : Fin 128), let buf := ((s.thread e t).rd ra).toNat; ops s e t rd ra r ∧ ringBuf buf (s.ringEsz r) = true ∧ ringGroup r true = true ∧ s.ringOwner r (role s e t) true = true ∧ s.ringsFenced = false ∧ s.ringRoom r = 0) ∧
  (∃ (s : State) (e : Fin 8) (t : Fin 4) (rd : Fin 32) (ra : Fin 32) (r : Fin 128), let buf := ((s.thread e t).rd ra).toNat; ops s e t rd ra r ∧ ringBuf buf (s.ringEsz r) = true ∧ ringGroup r false = true ∧ s.ringOwner r (role s e t) false = true ∧ s.ringsFenced = false ∧ (s.ringOn r = false ∨ s.ringCount r = 0)) ∧
  (∃ (s : State) (e : Fin 8) (t : Fin 4) (rd : Fin 32) (ra : Fin 32) (r : Fin 128) (c : Instr × _), let buf := ((s.thread e t).rd ra).toNat; ops s e t rd ra r ∧ c ∈ [(Instr.push e t rd r ra false, true), (.pop e t rd r ra false, false), (.peek e t rd r ra false, false)] ∧ (ringBuf buf (s.ringEsz r) = false ∨ ringGroup r c.2 = false)) ∧
  (∃ (s : State) (e : Fin 8) (t : Fin 4) (rd : Fin 32) (ra : Fin 32) (r : Fin 128) (c : Instr × _), let buf := ((s.thread e t).rd ra).toNat; ops s e t rd ra r ∧ c ∈ [(Instr.push e t rd r ra false, true), (.pop e t rd r ra false, false), (.peek e t rd r ra false, false)] ∧ ringBuf buf (s.ringEsz r) = true ∧ ringGroup r c.2 = true ∧ s.ringOwner r (role s e t) c.2 = false) := by
  dsimp only
  exact ⟨⟨{ (State.reset.setFld (R.ENG_THR_STATE_W0_TSTATE 0 1) 1) with eng := { Engines.init with thr := [(1, { Thread.init 0 with g := [(27, 0x0000000003400040#64)], ep := 0x0001#16 })], lastThr := [(0, 0)] } }, 0, 1, 19, 27, 121, by decide +kernel⟩,
    ⟨{ ((State.reset.setFld (R.ENG_THR_STATE_W0_TSTATE 0 1) 1).setFld (R.RING_TAIL_INDEX 121) 5) with eng := { Engines.init with thr := [(1, { Thread.init 0 with g := [(2, 0x0000000000800000#64)], ep := 0x0001#16 })], lastThr := [(0, 0)] } }, 0, 1, 31, 2, 121, by decide +kernel⟩,
    ⟨{ (State.reset.setFld (R.RING_CFG_EN 127) 0) with eng := { Engines.init with thr := [(0, { Thread.init 0 with g := [(2, 0x0000000000800080#64)], ep := 0x0801#16 })] } }, 0, 0, 14, 2, 127, by decide +kernel⟩,
    ⟨{ (State.reset.setFld (R.ENG_THR_STATE_W0_TSTATE 0 1) 1) with eng := { Engines.init with thr := [(1, { Thread.init 0 with g := [(2, 0x0000000000800080#64)], ep := 0x0901#16 })], lastThr := [(0, 0)] } }, 0, 1, 22, 2, 127, by decide +kernel⟩,
    ⟨State.reset, 0, 0, 31, 18, 33, (Instr.peek 0 0 31 33 18 false, false), by decide +kernel⟩,
    ⟨{ (State.reset.setFld (R.RING_CONS_ROLE 3) 0) with eng := { Engines.init with thr := [(4, { Thread.init 0 with g := [(26, 0x0000000000800080#64)], ep := 0x0801#16 })] } }, 1, 0, 31, 26, 3, (Instr.peek 1 0 31 3 26 false, false), by decide +kernel⟩⟩

/-- The hypotheses of the clauses of `Obligations.DeviceOperations` are met. -/
theorem test_hyps_DeviceOperations :
  let ops (s : State) (e : Fin 8) (t : Fin 4) (l : List Dest) : Prop :=
    s.mayIssue e t = true ∧ (s.thread e t).trapDue = false ∧ s.engState e = 1 ∧ s.current (s.thread e t).ep = true ∧
    s.scoreFull e t = false ∧ (s.flightsOf e t).all (fun f => f.done.isSome) = true ∧ (s.thread e t).v1 = false ∧
    ∀ d ∈ l, s.regPending e t d = false
  (∃ (s : State) (e : Fin 8) (t : Fin 4) (rd : Fin 32) (ra : Fin 32) (rb : Fin 32) (ts : Fin 8), ops s e t [(s.thread e t).dest rd, (s.thread e t).dest ra, (s.thread e t).dest rb, .t ts]) ∧
  (∃ (s : State) (e : Fin 8) (t : Fin 4) (rd : Fin 32) (ra : Fin 32) (rb : Fin 32), ops s e t [(s.thread e t).dest rd, (s.thread e t).dest ra, (s.thread e t).dest rb]) ∧
  (∃ (s : State) (e : Fin 8) (t : Fin 4) (rd : Fin 32) (ra : Fin 32), ops s e t [(s.thread e t).dest rd, (s.thread e t).dest ra]) := by
  dsimp only
  exact ⟨⟨State.reset, 1, 0, 17, 27, 17, 1, by decide +kernel⟩,
    ⟨{ (State.reset.setFld (R.ENG_THR_STATE_W0_TSTATE 1 1) 1) with eng := { Engines.init with lastThr := [(1, 0)] } }, 1, 1, 26, 18, 27, by decide +kernel⟩,
    ⟨{ State.reset with mem := [(8388736, 0xd1#8), (8388737, 0x2f#8), (8388738, 0xa9#8), (8388739, 0x61#8), (8388742, 0x09#8), (8388750, 0x3c#8), (8388753, 0x01#8)], tb := { TimeBase.init with now := 589824000077777 }, eng := { Engines.init with thr := [(4, { Thread.init 0 with g := [(30, 0x0000000000800080#64)], ep := 0x0801#16 })] } }, 1, 0, 1, 30, by decide +kernel⟩⟩

/-- The hypotheses of the clauses of `Obligations.EventInstructions` are met, part 1. -/
theorem test_hyps_EventInstructions_1 :
  let runs (s : State) (e : Fin 8) (t : Fin 4) (l : List Dest) : Prop :=
    s.mayIssue e t = true ∧ (s.thread e t).trapDue = false ∧ s.pc e t % 4 = 0 ∧ s.pc e t < 2 ^ 18 ∧
    ∀ d ∈ l, s.regPending e t d = false
  let pend (s : State) (e : Fin 8) (t : Fin 4) : Nat := s.fld (R.ENG_THR_STATE_W1_PENDING e t)
  let mask (s : State) (e : Fin 8) (t : Fin 4) (ra : Fin 32) : Nat :=
    ((s.thread e t).rd ra).toNat % (if (s.thread e t).v1 then 2 ^ 16 else 2 ^ 32)
  (∃ (s : State) (e : Fin 8) (t : Fin 4) (rd : Fin 32) (ra : Fin 32), runs s e t [(s.thread e t).dest rd, (s.thread e t).dest ra] ∧ mask s e t ra = 0) ∧
  (∃ (s : State) (e : Fin 8) (t : Fin 4) (rd : Fin 32) (ra : Fin 32), runs s e t [(s.thread e t).dest rd, (s.thread e t).dest ra] ∧ Nat.land (pend s e t) (mask s e t ra) ≠ 0) ∧
  (∃ (s : State) (e : Fin 8) (t : Fin 4) (rd : Fin 32) (ra : Fin 32), runs s e t [(s.thread e t).dest rd, (s.thread e t).dest ra] ∧ mask s e t ra ≠ 0 ∧ Nat.land (pend s e t) (mask s e t ra) = 0 ∧ s.engState e ≠ 3) ∧
  (∃ (s : State) (e : Fin 8) (t : Fin 4) (rd : Fin 32) (ra : Fin 32), runs s e t [(s.thread e t).dest rd, (s.thread e t).dest ra] ∧ mask s e t ra ≠ 0 ∧ Nat.land (pend s e t) (mask s e t ra) = 0 ∧ s.engState e = 3) ∧
  (∃ (s : State) (e : Fin 8) (t : Fin 4) (ra : Fin 32), runs s e t [(s.thread e t).dest ra]) ∧
  (∃ (s : State) (e : Fin 8) (t : Fin 4), runs s e t [] ∧ s.engState e ≠ 3) ∧
  (∃ (s : State) (e : Fin 8) (t : Fin 4), runs s e t [] ∧ s.engState e = 3 ∧ (s.thread e t).fs.inTrap = false) ∧
  (∃ (s : State) (e : Fin 8) (t : Fin 4), runs s e t [] ∧ s.engState e = 3 ∧ (s.thread e t).fs.inTrap = true) := by
  dsimp only
  exact ⟨⟨State.reset, 1, 0, 3, 0, by decide +kernel⟩,
    ⟨{ ((State.reset.setFld (R.ENG_THR_STATE_W0_TSTATE 1 1) 1).setFld (R.ENG_THR_STATE_W1_PENDING 1 1) 1484967) with eng := { Engines.init with thr := [(5, { Thread.init 0 with g := [(27, 0x00000000000a0003#64)], ep := 0x0101#16 })], lastThr := [(1, 0)] } }, 1, 1, 27, 27, by decide +kernel⟩,
    ⟨{ (State.reset.setFld (R.ENG_THR_STATE_W0_TSTATE 1 1) 1) with eng := { Engines.init with thr := [(5, { Thread.init 0 with g := [(18, 0x0000000000000005#64)], ep := 0x0101#16 })], lastThr := [(1, 0)] } }, 1, 1, 24, 18, by decide +kernel⟩,
    ⟨{ (State.reset.setFld (R.ENG_STATE_STATE 0) 3) with eng := { Engines.init with thr := [(0, { Thread.init 0 with g := [(17, 0x0000000000010000#64)], ep := 0x0001#16, wrd := 5, armed := true })] } }, 0, 0, 2, 17, by decide +kernel⟩,
    ⟨State.reset, 0, 0, 18, by decide +kernel⟩,
    ⟨State.reset, 0, 0, by decide +kernel⟩,
    ⟨{ ((State.reset.setFld (R.ENG_STATE_STATE 0) 3).setFld (R.ENG_THR_STATE_W0_TSTATE 0 1) 1) with eng := { Engines.init with lastThr := [(0, 0)] } }, 0, 1, by decide +kernel⟩,
    ⟨{ ((State.reset.setFld (R.ENG_STATE_STATE 2) 3).setFld (R.ENG_THR_STATE_W0_TSTATE 2 1) 1) with eng := { Engines.init with thr := [(9, { Thread.init 0 with ep := 0x0201#16, fs := { code := 0, sticky := 6, inTrap := true, trapPc := 0 } })], lastThr := [(2, 0)] } }, 2, 1, by decide +kernel⟩⟩

/-- The hypotheses of the clauses of `Obligations.EventInstructions` are met, part 2. -/
theorem test_hyps_EventInstructions_2 :
  let runs (s : State) (e : Fin 8) (t : Fin 4) (l : List Dest) : Prop :=
    s.mayIssue e t = true ∧ (s.thread e t).trapDue = false ∧ s.pc e t % 4 = 0 ∧ s.pc e t < 2 ^ 18 ∧
    ∀ d ∈ l, s.regPending e t d = false
  (∃ (s : State) (e : Fin 8) (t : Fin 4), runs s e t [] ∧ s.flightsOf e t = []) ∧
  (∃ (s : State) (e : Fin 8) (t : Fin 4), runs s e t [] ∧ s.flightsOf e t ≠ []) ∧
  (∃ (s : State) (e : Fin 8) (t : Fin 4) (rd : Fin 32) (sel : Fin 3), runs s e t [(s.thread e t).dest rd] ∧ ((s.thread e t).v1 = true → sel = 0)) ∧
  (∃ (s : State) (e : Fin 8) (t : Fin 4) (ra : Fin 32), runs s e t [(s.thread e t).dest ra] ∧ (s.thread e t).v1 = false) ∧
  (∃ (s : State) (e : Fin 8) (t : Fin 4) (r : Fin 64), runs s e t [] ∧ (s.thread e t).v1 = false ∧ s.holder r = some e.val) ∧
  (∃ (s : State) (e : Fin 8) (t : Fin 4) (r : Fin 64), runs s e t [] ∧ (s.thread e t).v1 = false ∧ s.holder r ≠ some e.val ∧ (s.thread e t).fs.inTrap = false) ∧
  (∃ (s : State) (e : Fin 8) (t : Fin 4) (r : Fin 64), runs s e t [] ∧ (s.thread e t).v1 = false ∧ s.holder r ≠ some e.val ∧ (s.thread e t).fs.inTrap = true) ∧
  (∃ (s : State) (e : Fin 8) (t : Fin 4) (td : Fin 8), runs s e t [.t td] ∧ (s.thread e t).v1 = true) := by
  dsimp only
  exact ⟨⟨State.reset, 0, 0, by decide +kernel⟩,
    ⟨{ State.reset with eng := { Engines.init with fl := [(1, [{ place := 0, thr := 0, dest := Dest.g 3, tok := 0x0000#16, op := Op.load 8388608 8, done := none }])] } }, 1, 0, by decide +kernel⟩,
    ⟨{ (State.reset.setFld (R.ENG_THR_STATE_W0_TSTATE 0 1) 1) with eng := { Engines.init with lastThr := [(0, 0)] } }, 0, 1, 19, 0, by decide +kernel⟩,
    ⟨State.reset, 1, 0, 3, by decide +kernel⟩,
    ⟨State.reset, 0, 0, 0, by decide +kernel⟩,
    ⟨State.reset, 1, 0, 63, by decide +kernel⟩,
    ⟨{ State.reset with eng := { Engines.init with thr := [(4, { Thread.init 0 with ep := 0x0101#16, fs := { code := 0, sticky := 6, inTrap := true, trapPc := 0 }, wrd := 5, armed := true })] } }, 1, 0, 17, by decide +kernel⟩,
    ⟨{ State.reset with eng := { Engines.init with thr := [(4, { Thread.init 0 with ep := 0x0101#16, v1 := true })] } }, 1, 0, 2, by decide +kernel⟩⟩

/-- The hypotheses of the clauses of `Obligations.EventInstructions` are met, part 3. -/
theorem test_hyps_EventInstructions_3 :
  let runs (s : State) (e : Fin 8) (t : Fin 4) (l : List Dest) : Prop :=
    s.mayIssue e t = true ∧ (s.thread e t).trapDue = false ∧ s.pc e t % 4 = 0 ∧ s.pc e t < 2 ^ 18 ∧
    ∀ d ∈ l, s.regPending e t d = false
  (∃ (s : State) (e : Fin 8) (t : Fin 4) (td : Fin 8) (rb : Fin 32), runs s e t [.t td, (s.thread e t).dest rb] ∧ (s.thread e t).v1 = false) := by
  dsimp only
  exact ⟨State.reset, 0, 0, 0, 18, by decide +kernel⟩

/-- The hypotheses of the clauses of `Obligations.OperationCompletion` are met. -/
theorem test_hyps_OperationCompletion :
  let at_ (s : State) (e : Fin 8) (p : Fin 16) : List Flight := (s.flights e).filter (fun f => f.place == p.val)
  let awake (s : State) : Prop := s.pwrState = 0 ∧ s.pwr.drained = false ∧ s.pwr.wakeDue = false
  (∃ (s : State) (e : Fin 8) (p : Fin 16) (f : Flight) (r : OpResult), awake s ∧ at_ s e p = [f] ∧ f.done = some r) ∧
  (∃ (s : State) (e : Fin 8) (p : Fin 16) (f : Flight) (a : Nat) (n : Nat), awake s ∧ s.flights e = [f] ∧ f.place = p ∧ f.done = none ∧ f.op = .load a n ∧ n ∈ [1, 2, 4, 8] ∧ a < 2 ^ 32 ∧ a % n = 0 ∧ (bankOf a).isSome = true ∧ s.bankOpen ((bankOf a).getD 0) = true ∧ s.bank.ecc = []) ∧
  (∃ (s : State) (e : Fin 8) (p : Fin 16) (f : Flight) (a : Nat) (n : Nat) (v : BitVec 64), awake s ∧ s.flights e = [f] ∧ f.place = p ∧ f.done = none ∧ f.op = .store a n v ∧ n ∈ [1, 2, 4, 8] ∧ a < 2 ^ 32 ∧ a % n = 0 ∧ (bankOf a).isSome = true ∧ s.current f.tok = false) ∧
  (∃ (s : State) (e : Fin 8) (p : Fin 16), at_ s e p = []) ∧
  (∃ (s : State) (e : Fin 8) (p : Fin 16) (f : Flight), at_ s e p = [f] ∧ f.done = none ∧ f.op.mail = true ∧ s.pwr.wakeDue = false) ∧
  (∃ (s : State) (e : Fin 8) (t : Fin 4), s.powered = true ∧ (s.thread e t).armed = true ∧ s.timerAt e t ≤ s.tb.now) ∧
  (∃ (s : State) (e : Fin 8) (t : Fin 4), s.powered = true ∧ ((s.thread e t).armed = false ∨ s.tb.now < s.timerAt e t)) := by
  dsimp only
  exact ⟨⟨{ State.reset with eng := { Engines.init with fl := [(0, [{ place := 2, thr := 1, dest := Dest.g 0, tok := 0x0000#16, op := Op.load 8388608 8, done := some { val := 0x000000000000000000000000#96, code := 3 } }])] } }, 0, 2, { place := 2, thr := 1, dest := Dest.g 0, tok := 0x0000#16, op := Op.load 8388608 8, done := some { val := 0x000000000000000000000000#96, code := 3 } }, { val := 0x000000000000000000000000#96, code := 3 }, by decide +kernel⟩,
    ⟨{ State.reset with eng := { Engines.init with fl := [(2, [{ place := 1, thr := 1, dest := Dest.g 3, tok := 0x0000#16, op := Op.load 8400896 4, done := none }])] } }, 2, 1, { place := 1, thr := 1, dest := Dest.g 3, tok := 0x0000#16, op := Op.load 8400896 4, done := none }, 8400896, 4, by decide +kernel⟩,
    ⟨{ State.reset with eng := { Engines.init with fl := [(1, [{ place := 0, thr := 0, dest := Dest.none, tok := 0x0005#16, op := Op.store 8388608 8 0x000000000000004d#64, done := none }])] } }, 1, 0, { place := 0, thr := 0, dest := Dest.none, tok := 0x0005#16, op := Op.store 8388608 8 0x000000000000004d#64, done := none }, 8388608, 8, 0x000000000000004d#64, by decide +kernel⟩,
    ⟨State.reset, 0, 1, by decide +kernel⟩,
    ⟨{ State.reset with eng := { Engines.init with fl := [(1, [{ place := 0, thr := 0, dest := Dest.none, tok := 0x0005#16, op := Op.devr 84082688, done := none }])] } }, 1, 0, { place := 0, thr := 0, dest := Dest.none, tok := 0x0005#16, op := Op.devr 84082688, done := none }, by decide +kernel⟩,
    ⟨{ State.reset with tb := { TimeBase.init with now := 589824000077777 }, eng := { Engines.init with thr := [(5, { Thread.init 0 with ep := 0x0101#16, wrd := 5, armed := true })] } }, 1, 1, by decide +kernel⟩,
    ⟨State.reset, 0, 0, by decide +kernel⟩⟩

/-- The hypotheses of the clauses of `Obligations.MailboxAdmission` are met, part 1. -/
theorem test_hyps_MailboxAdmission_1 :
  let on (s : State) : Prop := s.pwrState < 3 ∧ s.pwr.phase = 0 ∧ s.pwr.wakeDue = false
  let busy (s : State) (e : Fin 8) (f : Flight) : Prop :=
    on s ∧ s.lane e = [.flight f.place f.thr] ∧ (∀ l ∈ List.range 9, l ≠ e.val → s.lane l = []) ∧ s.flights e = [f] ∧ f.done = none
  let live (s : State) (f : Flight) : Prop := s.current f.tok = true
  (∃ s : State, on s ∧ (∀ l ∈ List.range 9, s.lane l = [])) ∧
  (∃ (s : State) (e : Fin 8) (f : Flight) (a : Nat), busy s e f ∧ live s f ∧ f.op = .devr a ∧ isMailbox a = true) ∧
  (∃ (s : State) (e : Fin 8) (f : Flight) (v : BitVec 32), busy s e f ∧ live s f ∧ f.op = .devw R.TSV_XLIM_XLIM.addr v ∧ s.fenced 0x013 = false ∧ s.tservoFenced = false ∧ s.credit e ≠ 0) ∧
  (∃ (s : State) (e : Fin 8) (f : Flight) (x : BitVec 64), busy s e f ∧ live s f ∧ f.op = .seam 1 x ∧ s.fenced 0x013 = false ∧ s.seamFenced = false ∧ s.credit e ≠ 0) ∧
  (∃ (s : State) (e : Fin 8) (f : Flight) (x : BitVec 64) (t : BitVec 96), busy s e f ∧ live s f ∧ f.op = .feed x t ∧ s.fenced 0x013 = false ∧ s.tservoFenced = false ∧ s.credit e ≠ 0) ∧
  (∃ (s : State) (e : Fin 8) (thr : Nat) (tok : BitVec 16) (x : BitVec 64) (t : BitVec 96), on s ∧ thr < 4 ∧ s.lane e = [.roleFeed thr tok x.toInt t.toNat] ∧ (∀ l ∈ List.range 9, l ≠ e.val → s.lane l = []) ∧ s.credit e ≠ 0) ∧
  (∃ (s : State) (e : Fin 8) (f : Flight) (a : Nat) (v : BitVec 32), busy s e f ∧ live s f ∧ f.op = .devw a v ∧ s.fenced 0x013 = true ∧ s.credit e ≠ 0) ∧
  (∃ (s : State) (e : Fin 8) (f : Flight), busy s e f ∧ ¬ live s f ∧ s.credit e ≠ 0) := by
  dsimp only
  exact ⟨⟨State.reset, by decide +kernel⟩,
    ⟨{ State.reset with eng := { Engines.init with fl := [(1, [{ place := 1, thr := 0, dest := Dest.g 3, tok := 0x0201#16, op := Op.devr 83951616, done := none }])] }, mb := { Mailbox.init with lanes := [(1, [LaneOp.flight 1 0])] } }, 1, { place := 1, thr := 0, dest := Dest.g 3, tok := 0x0201#16, op := Op.devr 83951616, done := none }, 83951616, by decide +kernel⟩,
    ⟨{ State.reset with eng := { Engines.init with fl := [(0, [{ place := 2, thr := 1, dest := Dest.t 3, tok := 0x0201#16, op := Op.devw 83951884 0x00000309#32, done := none }])] }, mb := { Mailbox.init with lanes := [(0, [LaneOp.flight 2 1])] } }, 0, { place := 2, thr := 1, dest := Dest.t 3, tok := 0x0201#16, op := Op.devw 83951884 0x00000309#32, done := none }, 0x00000309#32, by decide +kernel⟩,
    ⟨{ State.reset with eng := { Engines.init with fl := [(1, [{ place := 2, thr := 1, dest := Dest.g 0, tok := 0x0201#16, op := Op.seam 1 0x0000000000000032#64, done := none }])] }, mb := { Mailbox.init with lanes := [(1, [LaneOp.flight 2 1])] } }, 1, { place := 2, thr := 1, dest := Dest.g 0, tok := 0x0201#16, op := Op.seam 1 0x0000000000000032#64, done := none }, 0x0000000000000032#64, by decide +kernel⟩,
    ⟨{ State.reset with eng := { Engines.init with fl := [(0, [{ place := 0, thr := 0, dest := Dest.none, tok := 0x0201#16, op := Op.feed 0x0000000000000005#64 0x000000000009000000000000#96, done := none }])] }, mb := { Mailbox.init with lanes := [(0, [LaneOp.flight 0 0])] } }, 0, { place := 0, thr := 0, dest := Dest.none, tok := 0x0201#16, op := Op.feed 0x0000000000000005#64 0x000000000009000000000000#96, done := none }, 0x0000000000000005#64, 0x000000000009000000000000#96, by decide +kernel⟩,
    ⟨{ State.reset with mb := { Mailbox.init with lanes := [(0, [LaneOp.roleFeed 0 0x0201#16 5 2533274790395904])] } }, 0, 0, 0x0201#16, 0x0000000000000005#64, 0x000000000009000000000000#96, by decide +kernel⟩,
    ⟨{ (State.reset.setFld (R.FLT_SRC_FENCED 19) 1) with eng := { Engines.init with fl := [(1, [{ place := 0, thr := 0, dest := Dest.none, tok := 0x0201#16, op := Op.devw 83951616 0x00000001#32, done := none }])] }, mb := { Mailbox.init with lanes := [(1, [LaneOp.flight 0 0])] } }, 1, { place := 0, thr := 0, dest := Dest.none, tok := 0x0201#16, op := Op.devw 83951616 0x00000001#32, done := none }, 83951616, 0x00000001#32, by decide +kernel⟩,
    ⟨{ State.reset with eng := { Engines.init with fl := [(0, [{ place := 2, thr := 1, dest := Dest.g 0, tok := 0x0207#16, op := Op.seam 1 0x0000000000000032#64, done := none }])] }, mb := { Mailbox.init with lanes := [(0, [LaneOp.flight 2 1])] } }, 0, { place := 2, thr := 1, dest := Dest.g 0, tok := 0x0207#16, op := Op.seam 1 0x0000000000000032#64, done := none }, by decide +kernel⟩⟩

/-- The hypotheses of the clauses of `Obligations.MailboxAdmission` are met, part 2. -/
theorem test_hyps_MailboxAdmission_2 :
  let on (s : State) : Prop := s.pwrState < 3 ∧ s.pwr.phase = 0 ∧ s.pwr.wakeDue = false
  let busy (s : State) (e : Fin 8) (f : Flight) : Prop :=
    on s ∧ s.lane e = [.flight f.place f.thr] ∧ (∀ l ∈ List.range 9, l ≠ e.val → s.lane l = []) ∧ s.flights e = [f] ∧ f.done = none
  (∃ (s : State) (e : Fin 8) (f : Flight) (a : Nat) (v : BitVec 32), busy s e f ∧ f.op = .devw a v ∧ s.credit e = 0) ∧
  (∃ (s : State) (p : Fin 4) (a : Nat) (i : Nat), on s ∧ s.lane 8 = [.read p a i] ∧ (∀ l ∈ List.range 8, s.lane l = []) ∧ isMailbox a = true ∧ isNow a = false ∧ a % 4 = 0) ∧
  (∃ (s : State) (p : Fin 4) (v : BitVec 32) (i : Nat), on s ∧ s.lane 8 = [.write p R.TSV_XLIM_XLIM.addr i v] ∧ (∀ l ∈ List.range 8, s.lane l = []) ∧ s.fenced 0x013 = false ∧ s.tservoFenced = false ∧ s.pathWr p = true ∧ s.credit 8 ≠ 0) ∧
  (∃ s : State, s.pwrState < 3 ∧ s.pwr.phase ≠ 1) ∧
  (∃ s : State, s.powered = true) := by
  dsimp only
  exact ⟨⟨{ State.reset with eng := { Engines.init with fl := [(1, [{ place := 2, thr := 1, dest := Dest.t 3, tok := 0x0201#16, op := Op.devw 83951884 0x00000309#32, done := none }])] }, mb := { Mailbox.init with lanes := [(1, [LaneOp.flight 2 1])], credit := [(1, 0)] } }, 1, { place := 2, thr := 1, dest := Dest.t 3, tok := 0x0201#16, op := Op.devw 83951884 0x00000309#32, done := none }, 83951884, 0x00000309#32, by decide +kernel⟩,
    ⟨{ State.reset with mb := { Mailbox.init with lanes := [(8, [LaneOp.read 1 83951616 0])] } }, 1, 83951616, 0, by decide +kernel⟩,
    ⟨{ State.reset with mb := { Mailbox.init with lanes := [(8, [LaneOp.write 0 83951884 0 0x00000309#32])] } }, 0, 0x00000309#32, 0, by decide +kernel⟩,
    ⟨State.reset, by decide +kernel⟩,
    ⟨State.reset, by decide +kernel⟩⟩

/-- The hypotheses of the clauses of `Obligations.HostRegisterAccess` are met, part 1. -/
theorem test_hyps_HostRegisterAccess_1 :
  let calm (s : State) (p : Fin 4) : Prop := s.pathServes p = true ∧ s.pathWaits p = false ∧ s.pwr.wakeDue = false ∧ s.pwr.phase = 0
  (∃ (s : State) (p : Fin 4), s.pathServes p = false) ∧
  (∃ (s : State) (p : Fin 4) (a : BitVec 32) (w : Bool), s.pathServes p = true ∧ (a.toNat % 4 ≠ 0 ∨ w = false) ∧ isNv a.toNat = false ∧ (p = 0 → mapped a.toNat = true ∧ bankOf a.toNat = none)) ∧
  (∃ (s : State) (p : Fin 4) (a : BitVec 32) (w : Bool), s.pathServes p = true ∧ (a.toNat % 4 ≠ 0 ∨ w = false) ∧ isNv a.toNat = true) ∧
  (∃ (s : State) (a : BitVec 32) (w : Bool), s.pathServes 0 = true ∧ (a.toNat % 4 ≠ 0 ∨ w = false) ∧ mapped a.toNat = false) ∧
  (∃ (s : State) (a : BitVec 32) (w : Bool), calm s 0 ∧ (a.toNat % 4 ≠ 0 ∨ w = false) ∧ (bankOf a.toNat).isSome = true ∧ s.bankOpen ((bankOf a.toNat).getD 0) = true ∧ s.bank.ecc = []) ∧
  (∃ (s : State) (p : Fin 4) (a : BitVec 32), calm s p ∧ a.toNat % 4 = 0 ∧ mapped a.toNat = false) ∧
  (∃ (s : State) (p : Fin 4) (a : BitVec 32), s.pathServes p = true ∧ s.pathWaits p = false ∧ s.pwr.wakeDue = false ∧ s.pwr.phase = 2 ∧ a.toNat % 4 = 0 ∧ mapped a.toNat = true ∧ a.toNat / 0x10000 ∉ [0x500, 0x510, 0x511]) ∧
  (∃ (s : State) (p : Fin 4) (a : BitVec 32), calm s p ∧ a.toNat % 4 = 0 ∧ mapped a.toNat = true ∧ s.pathWr p = false) := by
  dsimp only
  exact ⟨⟨State.reset, 0, by decide +kernel⟩,
    ⟨State.reset, 1, 0x01400080#32, false, by decide +kernel⟩,
    ⟨State.reset, 1, 0x04100000#32, false, by decide +kernel⟩,
    ⟨(State.reset.setFld R.HOST_STATUS_PCIE_UP 1), 0x09000000#32, false, by decide +kernel⟩,
    ⟨(State.reset.setFld R.HOST_STATUS_PCIE_UP 1), 0x00000309#32, false, by decide +kernel⟩,
    ⟨State.reset, 1, 0x00400500#32, by decide +kernel⟩,
    ⟨{ State.reset with pwr := { Power.init with phase := 2 } }, 1, 0x03000000#32, by decide +kernel⟩,
    ⟨((State.reset.setFld R.HOST_STATUS_PCIE_UP 1).setFld R.HOST_CFG_PCIE_WR 0), 0, 0x00000000#32, by decide +kernel⟩⟩

/-- The hypotheses of the clauses of `Obligations.HostRegisterAccess` are met, part 2. -/
theorem test_hyps_HostRegisterAccess_2 :
  let calm (s : State) (p : Fin 4) : Prop := s.pathServes p = true ∧ s.pathWaits p = false ∧ s.pwr.wakeDue = false ∧ s.pwr.phase = 0
  let scan (s : State) (a : BitVec 32) : Prop := isNv a.toNat = true ∧ s.fld R.NV_STATUS_SCAN_BUSY = 1
  (∃ (s : State) (p : Fin 4) (a : BitVec 32), calm s p ∧ p ≠ 0 ∧ a.toNat % 4 = 0 ∧ s.pathWr p = true ∧ scan s a) ∧
  (∃ (s : State) (p : Fin 4) (a : BitVec 32), calm s p ∧ a.toNat % 4 = 0 ∧ isMailbox a.toNat = true) ∧
  (∃ (s : State) (p : Fin 4) (a : BitVec 32), calm s p ∧ a.toNat % 4 = 0 ∧ s.bank.ecc = [] ∧ ((bankOf a.toNat).isSome = true ∧ s.bankOpen ((bankOf a.toNat).getD 0) = true ∨ isAo a.toNat = true)) ∧
  (∃ (s : State) (p : Fin 4) (a : BitVec 32), calm s p ∧ a.toNat % 4 = 0 ∧ isReg a.toNat = true ∧ isMailbox a.toNat = false ∧ s.pwrState ≠ 2) ∧
  (∃ (s : State) (p : Fin 4), calm s p ∧ s.pathWr p = true ∧ s.pwrState ≠ 2) := by
  dsimp only
  exact ⟨⟨(State.reset.setFld R.NV_STATUS_SCAN_BUSY 1), 1, 0x04100000#32, by decide +kernel⟩,
    ⟨(State.reset.setFld R.HOST_STATUS_PCIE_UP 1), 0, 0x05010000#32, by decide +kernel⟩,
    ⟨State.reset, 1, 0x03800100#32, by decide +kernel⟩,
    ⟨(State.reset.setFld R.HOST_STATUS_PCIE_UP 1), 0, 0x050f0004#32, by decide +kernel⟩,
    ⟨State.reset, 1, by decide +kernel⟩⟩

/-- The hypotheses of the clauses of `Obligations.EngineCommands` are met, part 1. -/
theorem test_hyps_EngineCommands_1 :
  let only (s : State) (n : Fin 8) : Prop := s.rolesOf n = [n.val]
  (∃ (s : State) (n : Fin 8), s.powered = true ∧ s.engState n = 0 ∧ s.rolesFenced = true) ∧
  (∃ (s : State) (n : Fin 8) (r : Fin 64), s.powered = true ∧ s.engState n = 0 ∧ s.rolesFenced = false ∧ s.fld (R.ENG_ROLE_DEFINED r) ≠ 0 ∧ s.holder r = none ∧ s.planNames r n = true) ∧
  (∃ (s : State) (n : Fin 8), s.powered = true ∧ s.engState n = 1) ∧
  (∃ (s : State) (n : Fin 8), s.powered = true ∧ 2 ≤ s.engState n) ∧
  (∃ (s : State) (n : Fin 8) (mv : Bool), s.powered = true ∧ s.engState n = 1 ∧ (only s n ∨ mv = true)) ∧
  (∃ (s : State) (n : Fin 8), s.powered = true ∧ s.engState n = 1 ∧ (∃ r ∈ List.range 64, r ≠ n.val ∧ s.holder r = some n.val)) ∧
  (∃ (s : State) (n : Fin 8), s.powered = true ∧ s.engState n = 3 ∧ s.eng.groupFence = false) ∧
  (∃ (s : State) (n : Fin 8), s.powered = true ∧ s.engState n = 3 ∧ s.eng.groupFence = true) := by
  dsimp only
  exact ⟨⟨((State.reset.setFld (R.ENG_STATE_STATE 2) 0).setFld (R.FLT_SRC_FENCED 29) 1), 2, by decide +kernel⟩,
    ⟨(((State.reset.setFld (R.ENG_ROLE_HOLDER 16) 15).setFld (R.ENG_ROLE_PLAN_P0 16) 0).setFld (R.ENG_STATE_STATE 0) 0), 0, 16, by decide +kernel⟩,
    ⟨State.reset, 4, by decide +kernel⟩,
    ⟨(State.reset.setFld (R.ENG_STATE_STATE 3) 4), 3, by decide +kernel⟩,
    ⟨((State.reset.setFld (R.ENG_ROLE_HOLDER 11) 1).setFld (R.ENG_ROLE_HOLDER 17) 15), 3, false, by decide +kernel⟩,
    ⟨State.reset, 1, by decide +kernel⟩,
    ⟨(State.reset.setFld (R.ENG_STATE_STATE 1) 3), 1, by decide +kernel⟩,
    ⟨{ (State.reset.setFld (R.ENG_STATE_STATE 1) 3) with eng := { Engines.init with groupFence := true } }, 1, by decide +kernel⟩⟩

/-- The hypotheses of the clauses of `Obligations.EngineCommands` are met, part 2. -/
theorem test_hyps_EngineCommands_2 :
  let only (s : State) (n : Fin 8) : Prop := s.rolesOf n = [n.val]
  (∃ (s : State) (n : Fin 8), s.powered = true ∧ s.engState n ∈ [0, 2, 4]) ∧
  (∃ (s : State) (n : Fin 8), s.powered = true ∧ s.engState n = 2 ∧ s.flights n = [] ∧ (Tab.get (fun _ => false) s.eng.moving n.val = false ∨ only s n)) ∧
  (∃ (s : State) (n : Fin 8), s.powered = true ∧ (s.engState n ≠ 2 ∨ s.flights n ≠ [])) ∧
  (∃ (s : State) (n : Fin 8), s.powered = true ∧ s.engState n = 1 ∧ s.pwrState = 0 ∧ s.fenced (0x060 + n.val) = false ∧ s.pwr.wakeDue = false ∧ Tab.get (fun _ => 0) s.eng.beatAt n.val + max 100 (s.fld (R.ENG_HB_IVL_IVL n)) * 65536000 ≤ s.tb.elapsed) ∧
  (∃ (s : State) (n : Fin 8), s.powered = true ∧ (s.engState n ≠ 1 ∨ s.pwrState ≠ 0 ∨ 100 * s.tb.elapsed < 100 * Tab.get (fun _ => 0) s.eng.beatAt n.val + 99 * max 100 (s.fld (R.ENG_HB_IVL_IVL n)) * 65536000)) ∧
  (∃ (s : State) (b : Fin 9) (n : Fin 8), s.powered = true ∧ s.pwr.wakeDue = false ∧ b.val ≠ n.val + 1 ∧ s.bankOpen n = true ∧ s.bank.ecc = [] ∧ (s.engState n = 0 ∨ s.engState n = 4)) ∧
  (∃ (s : State) (b : Fin 9) (n : Fin 8), s.powered = true ∧ s.pwr.wakeDue = false ∧ s.bankOpen n = true ∧ (b.val = n.val + 1 ∨ s.engState n ∉ [0, 4])) := by
  dsimp only
  exact ⟨⟨(State.reset.setFld (R.ENG_STATE_STATE 3) 4), 3, by decide +kernel⟩,
    ⟨(State.reset.setFld (R.ENG_STATE_STATE 0) 2), 0, by decide +kernel⟩,
    ⟨State.reset, 4, by decide +kernel⟩,
    ⟨{ State.reset with tb := { TimeBase.init with elapsed := 589824000000000 } }, 1, by decide +kernel⟩,
    ⟨State.reset, 2, by decide +kernel⟩,
    ⟨(State.reset.setFld (R.ENG_STATE_STATE 2) 0), 5, 2, by decide +kernel⟩,
    ⟨State.reset, 8, 0, by decide +kernel⟩⟩

/-- The hypotheses of the clauses of `Obligations.RoleCommands` are met, part 1. -/
theorem test_hyps_RoleCommands_1 :
  let defined (s : State) (r : Fin 64) : Prop := s.fld (R.ENG_ROLE_DEFINED r) ≠ 0
  let young (s : State) (r : Fin 64) : Prop :=
    Tab.get (fun _ => 0) s.eng.roleAt r.val ≠ 0 ∧ s.tb.elapsed + 1 < Tab.get (fun _ => 0) s.eng.roleAt r.val + 100 * 65536000
  (∃ (s : State) (r : Fin 64), s.powered = true ∧ s.rolesFenced = false ∧ ¬ defined s r) ∧
  (∃ (s : State) (r : Fin 64), s.powered = true ∧ s.rolesFenced = false ∧ defined s r ∧ r.val < 8) ∧
  (∃ (s : State) (r : Fin 64) (dst : Fin 8), s.powered = true ∧ s.rolesFenced = false ∧ defined s r ∧ 8 ≤ r.val ∧ s.holder r = some dst.val) ∧
  (∃ (s : State) (r : Fin 64) (dst : Fin 8), s.powered = true ∧ s.rolesFenced = false ∧ defined s r ∧ 8 ≤ r.val ∧ s.holder r ≠ some dst.val ∧ s.engState dst ≠ 1) ∧
  (∃ s : State, s.powered = true ∧ s.rolesFenced = true) ∧
  (∃ (s : State) (r : Fin 64) (dst : Fin 8), s.powered = true ∧ s.rolesFenced = false ∧ defined s r ∧ 8 ≤ r.val ∧ s.holder r ≠ some dst.val ∧ s.engState dst = 1) ∧
  (∃ (s : State) (r : Fin 64) (m : RoleMove) (l : List RoleMove), s.powered = true ∧ s.heldMoves r = m :: l ∧ ¬ young s r ∧ (m = .self ∨ s.rolesFenced = false)) ∧
  (∃ (s : State) (r : Fin 64) (m : RoleMove) (l : List RoleMove), s.powered = true ∧ s.heldMoves r = m :: l ∧ (young s r ∨ m ≠ .self ∧ s.rolesFenced = true)) := by
  dsimp only
  exact ⟨⟨State.reset, 40, by decide +kernel⟩,
    ⟨State.reset, 1, by decide +kernel⟩,
    ⟨State.reset, 10, 2, by decide +kernel⟩,
    ⟨(State.reset.setFld (R.ENG_STATE_STATE 3) 0), 10, 3, by decide +kernel⟩,
    ⟨(State.reset.setFld (R.FLT_SRC_FENCED 29) 1), by decide +kernel⟩,
    ⟨State.reset, 16, 3, by decide +kernel⟩,
    ⟨{ State.reset with eng := { Engines.init with roleWait := [(9, [RoleMove.take 2])] } }, 9, (RoleMove.take 2), [], by decide +kernel⟩,
    ⟨{ State.reset with eng := { Engines.init with roleAt := [(10, 589823999999995)], roleWait := [(10, [RoleMove.unhold])] } }, 10, RoleMove.unhold, [], by decide +kernel⟩⟩

/-- The hypotheses of the clauses of `Obligations.RoleCommands` are met, part 2. -/
theorem test_hyps_RoleCommands_2 :
  (∃ (s : State) (r : Fin 64), s.powered = true ∧ s.heldMoves r = []) := by
  exact ⟨State.reset, 9, by decide +kernel⟩

/-- The hypotheses of the clauses of `Obligations.BankCommands` are met, part 1. -/
theorem test_hyps_BankCommands_1 :
  let dst (v : BitVec 32) : Nat := v.toNat % 4
  let allowed (s : State) (b : Fin 29) (p : Nat) : Prop := p = 0 ∨ (p ≠ 3 ∧ s.bankQuiet b = true ∧ s.bank.darn ≠ some (b.val, true))
  (∃ (s : State) (b : Fin 29) (v : BitVec 32), s.powered = true ∧ dst v ≠ s.fld (R.BNK_CFG_PWR b) ∧ allowed s b (dst v) ∧ (∀ e : Fin 8, s.flights e = [])) ∧
  (∃ (s : State) (b : Fin 29) (v : BitVec 32), s.powered = true ∧ dst v ≠ s.fld (R.BNK_CFG_PWR b) ∧ ¬ allowed s b (dst v)) ∧
  (∃ (s : State) (b : Fin 29) (v : BitVec 32) (e : Fin 8) (f : Flight) (a : Nat) (n : Nat), s.powered = true ∧ s.fld (R.BNK_CFG_PWR b) = 0 ∧ s.bankOpen b = true ∧ dst v ≠ 0 ∧ allowed s b (dst v) ∧ (∀ k : Fin 8, k ≠ e → s.flights k = []) ∧ s.flights e = [f] ∧ f.done = none ∧ f.op = .load a n ∧ n ∈ [1, 2, 4, 8] ∧ a % n = 0 ∧ bankOf a = some b.val ∧ s.bank.ecc = []) ∧
  (∃ (s : State) (b : Fin 29) (v : BitVec 32), s.powered = true ∧ dst v = s.fld (R.BNK_CFG_PWR b)) ∧
  (∃ (s : State) (b : Fin 29), s.awakes = true ∧ s.busyKind b = 1) ∧
  (∃ (s : State) (b : Fin 29), s.awakes = true ∧ s.busyKind b ≠ 1) ∧
  (∃ (s : State) (a : BitVec 32) (b : Nat), s.powered = true ∧ bankOf a.toNat = some b ∧ s.bankOpen b = true) ∧
  (∃ (s : State) (a : BitVec 32) (b : Nat), s.powered = true ∧ s.pwr.wakeDue = false ∧ bankOf a.toNat = some b ∧ s.bankOpen b = true ∧ s.bank.darn = none) := by
  dsimp only
  exact ⟨⟨State.reset, 27, 0x00000006#32, by decide +kernel⟩,
    ⟨{ State.reset with bank := { Banks.init with darn := some (27, true), darnRows := 3, darnBad := true } }, 27, 0x0000000e#32, by decide +kernel⟩,
    ⟨{ State.reset with eng := { Engines.init with fl := [(1, [{ place := 1, thr := 2, dest := Dest.g 3, tok := 0x0201#16, op := Op.load 62914816 8, done := none }])] } }, 27, 0x00000001#32, 1, { place := 1, thr := 2, dest := Dest.g 3, tok := 0x0201#16, op := Op.load 62914816 8, done := none }, 62914816, 8, by decide +kernel⟩,
    ⟨State.reset, 27, 0x00000100#32, by decide +kernel⟩,
    ⟨{ State.reset with bank := { Banks.init with busy := [(27, 1)], darnRows := 3, darnBad := true } }, 27, by decide +kernel⟩,
    ⟨State.reset, 27, by decide +kernel⟩,
    ⟨State.reset, 0x00000100#32, 0, by decide +kernel⟩,
    ⟨State.reset, 0x00000100#32, 0, by decide +kernel⟩⟩

/-- The hypotheses of the clauses of `Obligations.BankCommands` are met, part 2. -/
theorem test_hyps_BankCommands_2 :
  (∃ (s : State) (a : BitVec 32), s.powered = true ∧ (bankOf a.toNat).any s.bankOpen = false) := by
  exact ⟨(State.reset.setFld (R.BNK_STATUS_PWR_NOW 0) 2), 0x00000003#32, by decide +kernel⟩

/-- The hypotheses of the clauses of `Obligations.DarnCommands` are met, part 1. -/
theorem test_hyps_DarnCommands_1 :
  let bad (s : State) (b : Fin 32) : Prop := 28 < b.val ∨ s.fld (R.BNK_STATUS_PWR_NOW b) ≠ 0 ∨ s.bankFenced b = true
  let busy (s : State) (b : Fin 32) : Prop := s.bank.darn ≠ none ∨ s.fld (R.BNK_STATUS_BUSY b) ≠ 0
  let free (s : State) (b : Fin 29) : Nat := ((List.range 16).filter (fun j => s.fld (R.BNK_PATCH_V b j) == 0)).length
  (∃ (s : State) (b : Fin 32), s.powered = true ∧ bad s b) ∧
  (∃ (s : State) (b : Fin 32), s.powered = true ∧ ¬ bad s b ∧ busy s b) ∧
  (∃ (s : State) (b : Fin 32), s.powered = true ∧ ¬ bad s b ∧ ¬ busy s b ∧ s.bankQuiet b = false) ∧
  (∃ (s : State) (b : Fin 32), s.powered = true ∧ ¬ bad s b ∧ ¬ busy s b ∧ s.bankQuiet b = true) ∧
  (∃ (s : State) (b : Fin 32), s.powered = true ∧ ¬ bad s b ∧ ¬ busy s b) ∧
  (∃ (s : State) (b : Fin 29) (hard : Bool), s.awakes = true ∧ s.bank.darn = some (b.val, hard) ∧ s.busyKind b ≠ 3 ∧ s.bank.darnRows = 0) ∧
  (∃ (s : State) (b : Fin 29) (hard : Bool) (rows : List (Nat × Bool)), s.awakes = true ∧ s.bank.darn = some (b.val, hard) ∧ s.busyKind b ≠ 3 ∧ s.bank.darnRows + rows.length ≠ 0 ∧ s.bank.darnBad = false ∧ (∀ r ∈ rows, r.1 < 4096 ∧ r.2 = true) ∧ rows.length ≤ free s b) ∧
  (∃ (s : State) (b : Fin 29) (hard : Bool) (rows : List (Nat × Bool)), s.awakes = true ∧ s.pwr.wakeDue = false ∧ s.bank.darn = some (b.val, hard) ∧ s.busyKind b ≠ 3 ∧ (∀ r ∈ rows, r.1 < 4096) ∧ ((∃ r ∈ rows, r.2 = false) ∨ (rows ≠ [] ∧ free s b = 0))) := by
  dsimp only
  exact ⟨⟨State.reset, 30, by decide +kernel⟩,
    ⟨{ State.reset with bank := { Banks.init with darn := some (8, false), darnRows := 3, darnBad := true } }, 28, by decide +kernel⟩,
    ⟨State.reset, 0, by decide +kernel⟩,
    ⟨State.reset, 24, by decide +kernel⟩,
    ⟨State.reset, 25, by decide +kernel⟩,
    ⟨{ State.reset with bank := { Banks.init with darn := some (8, false) } }, 8, false, by decide +kernel⟩,
    ⟨{ State.reset with bank := { Banks.init with darn := some (28, false), darnRows := 2 } }, 28, false, [(4095, true)], by decide +kernel⟩,
    ⟨{ State.reset with bank := { Banks.init with darn := some (24, true) } }, 24, true, [(4, false), (3, true)], by decide +kernel⟩⟩

/-- The hypotheses of the clauses of `Obligations.DarnCommands` are met, part 2. -/
theorem test_hyps_DarnCommands_2 :
  let free (s : State) (b : Fin 29) : Nat := ((List.range 16).filter (fun j => s.fld (R.BNK_PATCH_V b j) == 0)).length
  (∃ (s : State) (b : Fin 29) (hard : Bool), s.awakes = true ∧ s.bank.darn = some (b.val, hard) ∧ s.busyKind b ≠ 3 ∧ s.bank.darnRows ≠ 0 ∧ s.bank.darnBad = true) ∧
  (∃ (s : State) (b : Fin 29) (hard : Bool) (rows : List (Nat × Bool)), s.awakes = true ∧ s.bank.darn = some (b.val, hard) ∧ (∀ r ∈ rows, r.1 < 4096 ∧ r.2 = true) ∧ rows.length ≤ free s b) ∧
  (∃ (s : State) (b : Fin 29) (rows : List (Nat × Bool)), s.awakes = true ∧ s.busyKind b = 3 ∧ (∀ h, s.bank.darn ≠ some (b.val, h)) ∧ (∀ r ∈ rows, r.1 < 4096 ∧ r.2 = true) ∧ rows.length ≤ free s b) ∧
  (∃ (s : State) (b : Fin 29), s.awakes = true ∧ s.busyKind b ≠ 3 ∧ (∀ h, s.bank.darn ≠ some (b.val, h))) ∧
  (∃ (s : State) (b : Fin 29) (v : BitVec 32), s.powered = true ∧ v.toNat % 4 = 0 ∧ s.fld (R.BNK_CFG_PWR b) ≠ 0) ∧
  (∃ (s : State) (b : Fin 29), s.powered = true ∧ s.busyKind b = 1) ∧
  (∃ (s : State) (a : BitVec 32) (b : Nat), s.powered = true ∧ bankOf a.toNat = some b ∧ s.bankOpen b = true) := by
  dsimp only
  exact ⟨⟨{ State.reset with bank := { Banks.init with darn := some (8, true), darnRows := 3, darnBad := true } }, 8, true, by decide +kernel⟩,
    ⟨{ State.reset with bank := { Banks.init with darn := some (25, true), darnRows := 3, darnBad := true } }, 25, true, [(28, true), (4, true)], by decide +kernel⟩,
    ⟨{ State.reset with bank := { Banks.init with busy := [(8, 3)], darnRows := 2 } }, 8, [(5, true), (4, true)], by decide +kernel⟩,
    ⟨State.reset, 8, by decide +kernel⟩,
    ⟨(State.reset.setFld (R.BNK_CFG_PWR 0) 1), 0, 0x03400000#32, by decide +kernel⟩,
    ⟨{ State.reset with bank := { Banks.init with busy := [(24, 1)] } }, 24, by decide +kernel⟩,
    ⟨State.reset, 0x0000000f#32, 0, by decide +kernel⟩⟩

/-- The hypotheses of the clauses of `Obligations.RingCommands` are met, part 1. -/
theorem test_hyps_RingCommands_1 :
  let wide (r : Fin 128) : Prop := 64 ≤ r.val ∧ r.val < 104
  let esz (v : BitVec 32) : Nat := v.toNat / 4 % 4
  let logn (v : BitVec 32) : Nat := v.toNat / 16 % 32
  let changes (s : State) (r : Fin 128) (v : BitVec 32) : Prop := esz v ≠ s.fld (R.RING_CFG_ESZ r) ∨
    logn v ≠ s.fld (R.RING_CFG_LOG2N r) ∨ (wide r ∧ v.toNat / 512 % 2 ≠ s.fld (R.RING_CFG_CONS_HOST r))
  let size (v : BitVec 32) : Nat := 2 ^ logn v * (16 * 2 ^ esz v)
  let fits (s : State) (r : Fin 128) (v : BitVec 32) : Prop := 4 ≤ logn v ∧ logn v ≤ 16 ∧
    s.fld (R.RING_BASE_OFFSET r) + size v ≤ bankSize (ringBank r) ∧ (r.val < 64 → esz v = 3) ∧
    ∀ q ∈ List.range 128, q ≠ r.val → s.fld (R.RING_CFG_EN q) ≠ 0 → ringBank q = ringBank r →
      s.fld (R.RING_BASE_OFFSET q) + s.ringN q * s.ringEsz q ≤ s.fld (R.RING_BASE_OFFSET r) ∨
      s.fld (R.RING_BASE_OFFSET r) + size v ≤ s.fld (R.RING_BASE_OFFSET q)
  (∃ (s : State) (r : Fin 128) (v : BitVec 32), s.powered = true ∧ s.fld (R.RING_CFG_EN r) = 0 ∧ fits s r v) ∧
  (∃ (s : State) (r : Fin 128) (v : BitVec 32), s.powered = true ∧ s.fld (R.RING_CFG_EN r) = 0 ∧ ¬ fits s r v) ∧
  (∃ (s : State) (r : Fin 128) (v : BitVec 32), s.powered = true ∧ s.fld (R.RING_CFG_EN r) ≠ 0 ∧ changes s r v) ∧
  (∃ (s : State) (r : Fin 128) (v : BitVec 32), s.powered = true ∧ s.fld (R.RING_CFG_EN r) ≠ 0 ∧ ¬ changes s r v) ∧
  (∃ (s : State) (r : Fin 128), s.powered = true ∧ s.fld (R.RING_CFG_EN r) ≠ 0 ∧ s.ringCount r ≠ 0) ∧
  (∃ (s : State) (r : Fin 128) (v : BitVec 32), s.powered = true ∧ s.fld (R.RING_CFG_EN r) ≠ 0 ∧ ¬ changes s r v ∧ s.ringCount r = 0) ∧
  (∃ (s : State) (r : Fin 128), s.powered = true ∧ s.fld (R.RING_CFG_EN r) = 0) ∧
  (∃ s : State, s.powered = true) := by
  dsimp only
  exact ⟨⟨(State.reset.setFld (R.RING_CFG_EN 70) 0), 70, 0x00000045#32, by decide +kernel⟩,
    ⟨(State.reset.setFld (R.RING_CFG_EN 70) 0), 70, 0x0000010c#32, by decide +kernel⟩,
    ⟨State.reset, 3, 0x000000b0#32, by decide +kernel⟩,
    ⟨(State.reset.setFld (R.RING_CFG_LOG2N 105) 4), 105, 0x00000045#32, by decide +kernel⟩,
    ⟨(State.reset.setFld (R.RING_TAIL_INDEX 110) 5), 110, by decide +kernel⟩,
    ⟨(State.reset.setFld (R.RING_CFG_LOG2N 113) 4), 113, 0x00000047#32, by decide +kernel⟩,
    ⟨(State.reset.setFld (R.RING_CFG_EN 33) 0), 33, by decide +kernel⟩,
    ⟨State.reset, by decide +kernel⟩⟩

/-- The hypotheses of the clauses of `Obligations.RingCommands` are met, part 2. -/
theorem test_hyps_RingCommands_2 :
  let reaches (s : State) (r : Fin 128) (bar2 : Bool) : Prop := s.ringsFenced = false ∧
    if bar2 = true then 64 ≤ r.val ∧ s.pathServes 0 = true ∧ s.pwr.phase = 0 ∧ s.pathWr 0 = true ∧ s.pwr.wakeDue = false
    else s.powered = true
  (∃ s : State, s.powered = true ∧ s.ringsFenced = true) ∧
  (∃ (s : State) (r : Fin 128), s.pathServes 0 = true ∧ s.pwr.wakeDue = false ∧ s.pwr.phase = 0 ∧ 64 ≤ r.val ∧ (s.pathWr 0 = false ∨ s.ringsFenced = true)) ∧
  (∃ (s : State) (r : Fin 128), s.pwr.wakeDue = false ∧ (s.pathServes 0 = false ∨ r.val < 64)) ∧
  (∃ (s : State) (r : Fin 128) (i : BitVec 17) (bar2 : Bool), reaches s r bar2 ∧ 104 ≤ r.val ∧ r.val < 112 ∧ (i.toNat + 2 ^ 17 - s.ringTail r) % 2 ^ 17 ≤ s.ringRoom r) ∧
  (∃ (s : State) (r : Fin 128) (i : BitVec 17) (bar2 : Bool), reaches s r bar2 ∧ s.hostConsumes r = true ∧ ¬ hostProduces r ∧ (i.toNat + 2 ^ 17 - s.ringHead r) % 2 ^ 17 ≤ s.ringCount r) ∧
  (∃ (s : State) (r : Fin 128) (i : BitVec 17) (bar2 : Bool), reaches s r bar2 ∧ (if hostProduces r = true then s.ringRoom r < (i.toNat + 2 ^ 17 - s.ringTail r) % 2 ^ 17 else s.hostConsumes r = false ∨ s.ringCount r < (i.toNat + 2 ^ 17 - s.ringHead r) % 2 ^ 17)) := by
  dsimp only
  exact ⟨⟨(State.reset.setFld (R.FLT_SRC_FENCED 25) 1), by decide +kernel⟩,
    ⟨((State.reset.setFld (R.FLT_SRC_FENCED 25) 1).setFld R.HOST_STATUS_PCIE_UP 1), 113, by decide +kernel⟩,
    ⟨State.reset, 33, by decide +kernel⟩,
    ⟨State.reset, 105, 0x00006#17, false, by decide +kernel⟩,
    ⟨(State.reset.setFld (R.RING_TAIL_INDEX 70) 5), 70, 0x00004#17, false, by decide +kernel⟩,
    ⟨State.reset, 33, 0x00009#17, false, by decide +kernel⟩⟩

/-- The hypotheses of the clauses of `Obligations.OtpAdmission` are met, part 1. -/
theorem test_hyps_OtpAdmission_1 :
  let busy (s : State) : Prop := s.stores.otp ≠ none ∨ s.fenced 0x01B = true
  let word (s : State) : Nat := s.otpWord (s.fld R.OTP_ADDR_ADDR)
  let badAddr (s : State) : Prop :=
    let a := s.fld R.OTP_ADDR_ADDR
    a % 4 ≠ 0 ∨ a < 0x8000 ∨ 0x1DFF0 ≤ (a - 0x8000) % 0x1E000 ∨ 2 ≤ s.genState ((a - 0x8000) / 0x1E000)
  let clears (s : State) : Prop := Nat.land (word s) (s.fld R.OTP_DATA) ≠ word s
  let ok (s : State) (low : Bool) : Prop := s.awakes = true ∧ ¬ busy s ∧ low = false
  (∃ s : State, s.awakes = true ∧ busy s) ∧
  (∃ s : State, s.awakes = true ∧ ¬ busy s) ∧
  (∃ (s : State) (low : Bool), ok s low ∧ badAddr s) ∧
  (∃ (s : State) (low : Bool), ok s low ∧ ¬ badAddr s ∧ clears s) ∧
  (∃ (s : State) (low : Bool), ok s low ∧ ¬ badAddr s ∧ ¬ clears s) ∧
  (∃ (s : State) (g : Fin 4) (low : Bool), ok s low ∧ s.genState g ≠ 1) ∧
  (∃ (s : State) (g : Fin 4) (low : Bool), ok s low ∧ s.genState g = 1 ∧ s.imageValid g = false) ∧
  (∃ (s : State) (g : Fin 4) (low : Bool), ok s low ∧ s.genState g = 1 ∧ s.imageValid g = true ∧ s.genCrc g ≠ s.fld R.OTP_EXPECT_CRC) := by
  dsimp only
  exact ⟨⟨(State.reset.setFld (R.FLT_SRC_FENCED 27) 1), by decide +kernel⟩,
    ⟨State.reset, by decide +kernel⟩,
    ⟨State.reset, false, by decide +kernel⟩,
    ⟨{ (State.reset.setFld R.OTP_ADDR_ADDR 32768) with mem := [(69238784, 0x42#8)] }, false, by decide +kernel⟩,
    ⟨(State.reset.setFld R.OTP_ADDR_ADDR 32768), false, by decide +kernel⟩,
    ⟨State.reset, 0, false, by decide +kernel⟩,
    ⟨{ State.reset with mem := [(69238860, 0xff#8)] }, 0, false, by decide +kernel⟩,
    ⟨{ State.reset with mem := [(69238784, 0x42#8), (69238785, 0x59#8), (69238786, 0x52#8), (69238787, 0x4e#8), (69238788, 0x02#8)] }, 0, false, by decide +kernel⟩⟩

/-- The hypotheses of the clauses of `Obligations.OtpAdmission` are met, part 2. -/
theorem test_hyps_OtpAdmission_2 :
  let busy (s : State) : Prop := s.stores.otp ≠ none ∨ s.fenced 0x01B = true
  let ok (s : State) (low : Bool) : Prop := s.awakes = true ∧ ¬ busy s ∧ low = false
  (∃ (s : State) (g : Fin 4) (low : Bool), ok s low ∧ s.genState g = 1 ∧ s.imageValid g = true ∧ s.genCrc g = s.fld R.OTP_EXPECT_CRC) ∧
  (∃ (s : State) (g : Fin 4) (low : Bool), ok s low ∧ s.genState g = 0) ∧
  (∃ (s : State) (g : Fin 4) (low : Bool), ok s low ∧ s.genState g ≠ 0) ∧
  (∃ (s : State) (g : Fin 4), s.awakes = true ∧ ¬ busy s ∧ s.genState g ≠ 2) ∧
  (∃ (s : State) (g : Fin 4), s.awakes = true ∧ ¬ busy s ∧ s.genState g = 2 ∧ s.adoptable ≠ some g.val) ∧
  (∃ (s : State) (g : Fin 4), s.awakes = true ∧ ¬ busy s ∧ s.genState g = 2 ∧ s.adoptable = some g.val) ∧
  (∃ a : Nat, isMailbox a = true) ∧
  (∃ s : State, s.awakes = true) := by
  dsimp only
  exact ⟨⟨{ (State.reset.setFld R.OTP_EXPECT_CRC 2191384580) with mem := [(69238784, 0x42#8), (69238785, 0x59#8), (69238786, 0x52#8), (69238787, 0x4e#8), (69238788, 0x02#8), (69238808, 0x77#8)] }, 0, false, by decide +kernel⟩,
    ⟨State.reset, 1, false, by decide +kernel⟩,
    ⟨{ State.reset with mem := [(69238784, 0x42#8)] }, 0, false, by decide +kernel⟩,
    ⟨State.reset, 1, by decide +kernel⟩,
    ⟨{ State.reset with mem := [(69238784, 0x42#8), (69238785, 0x59#8), (69238786, 0x52#8), (69238787, 0x4e#8), (69238788, 0x02#8), (69238804, 0x14#8), (69238808, 0x77#8), (69238812, 0x01#8), (69238848, 0x01#8), (69238852, 0x0c#8), (69238856, 0x10#8), (69238858, 0x03#8), (69238859, 0x05#8), (69238860, 0xff#8), (69238861, 0xff#8), (69238862, 0xff#8), (69238863, 0xff#8), (69238864, 0x05#8), (69361648, 0x22#8), (69361649, 0x6c#8), (69361650, 0x35#8), (69361651, 0xbd#8), (69361652, 0x53#8), (69361653, 0x45#8), (69361654, 0x41#8), (69361655, 0x4c#8)] }, 0, by decide +kernel⟩,
    ⟨{ State.reset with mem := [(69361664, 0x42#8), (69361665, 0x59#8), (69361666, 0x52#8), (69361667, 0x4e#8), (69361668, 0x02#8), (69361688, 0x78#8), (69484528, 0xac#8), (69484529, 0x92#8), (69484530, 0xd3#8), (69484531, 0x02#8), (69484532, 0x53#8), (69484533, 0x45#8), (69484534, 0x41#8), (69484535, 0x4c#8)] }, 1, by decide +kernel⟩,
    ⟨83951872, by decide +kernel⟩,
    ⟨State.reset, by decide +kernel⟩⟩

/-- The hypotheses of the clauses of `Obligations.OtpCompletion` are met. -/
theorem test_hyps_OtpCompletion :
  (∃ (s : State) (x : OtpRun), s.awakes = true ∧ s.stores.otp = some x ∧ x.op = 0 ∧ x.data < 2 ^ 32) ∧
  (∃ (s : State) (x : OtpRun), s.awakes = true ∧ s.stores.otp = some x ∧ x.op = 1 ∧ x.gen < 4) ∧
  (∃ (s : State) (x : OtpRun), s.awakes = true ∧ s.stores.otp = some x ∧ x.op = 1 ∧ x.gen < 4 ∧ s.genState x.gen = 1 ∧ s.genField x.gen 0 4 = 0x4E525942 ∧ s.lengthOk x.gen = true ∧ s.genField x.gen 0x1DFF0 16 = 0) ∧
  (∃ (s : State) (x : OtpRun), s.awakes = true ∧ s.stores.otp = some x ∧ x.op = 2 ∧ x.gen < 4 ∧ s.genState x.gen ≠ 3) ∧
  (∃ (s : State) (x : OtpRun), s.awakes = true ∧ s.stores.otp = some x ∧ x.op = 2 ∧ x.gen < 4 ∧ s.genState x.gen = 3) ∧
  (∃ (s : State) (x : OtpRun), s.awakes = true ∧ s.stores.otp = some x ∧ x.op = 3 ∧ x.gen < 4 ∧ s.adoptQuiet = true) ∧
  (∃ (s : State) (x : OtpRun), s.awakes = true ∧ s.stores.otp = some x ∧ x.op = 3 ∧ s.adoptQuiet = false) ∧
  (∃ s : State, s.awakes = true ∧ s.stores.otp = none) := by
  exact ⟨⟨{ State.reset with stores := { Stores.init with otp := some { op := 0, gen := 0, addr := 32784, data := 65793 } } }, { op := 0, gen := 0, addr := 32784, data := 65793 }, by decide +kernel⟩,
    ⟨{ State.reset with stores := { Stores.init with otp := some { op := 1, gen := 0, addr := 0, data := 0 } } }, { op := 1, gen := 0, addr := 0, data := 0 }, by decide +kernel⟩,
    ⟨{ State.reset with mem := [(69238784, 0x42#8), (69238785, 0x59#8), (69238786, 0x52#8), (69238787, 0x4e#8)], stores := { Stores.init with otp := some { op := 1, gen := 0, addr := 0, data := 0 } } }, { op := 1, gen := 0, addr := 0, data := 0 }, by decide +kernel⟩,
    ⟨{ State.reset with stores := { Stores.init with otp := some { op := 2, gen := 0, addr := 0, data := 0 } } }, { op := 2, gen := 0, addr := 0, data := 0 }, by decide +kernel⟩,
    ⟨{ State.reset with mem := [(69361656, 0xff#8)], stores := { Stores.init with otp := some { op := 2, gen := 0, addr := 0, data := 0 } } }, { op := 2, gen := 0, addr := 0, data := 0 }, by decide +kernel⟩,
    ⟨{ State.reset with stores := { Stores.init with otp := some { op := 3, gen := 0, addr := 0, data := 0 } } }, { op := 3, gen := 0, addr := 0, data := 0 }, by decide +kernel⟩,
    ⟨{ State.reset with mb := { Mailbox.init with lanes := [(8, [LaneOp.write 4 84082688 0 0x00000001#32])] }, stores := { Stores.init with otp := some { op := 3, gen := 1, addr := 0, data := 2 } } }, { op := 3, gen := 1, addr := 0, data := 2 }, by decide +kernel⟩,
    ⟨State.reset, by decide +kernel⟩⟩

/-- The hypotheses of the clauses of `Obligations.NvPageBuffers` are met, part 1. -/
theorem test_hyps_NvPageBuffers_1 :
  let low (res vin : Nat) : Prop := vin < 3000 ∨ res < 4200
  let page (off : BitVec 17) : Nat := off.toNat / 16
  let place (off : BitVec 17) : Nat := off.toNat % 16
  let room (s : State) (p : Nat) : Prop := s.nvBuf p ≠ none ∨ s.stores.bufs.length < 8
  (∃ (s : State) (off : BitVec 17), s.awakes = true ∧ s.nvOpen = true ∧ room s (page off) ∧ place off ≠ 15) ∧
  (∃ (s : State) (off : BitVec 17) (res : Nat) (vin : Nat), s.awakes = true ∧ s.nvOpen = true ∧ room s (page off) ∧ place off = 15 ∧ ¬ low res vin) ∧
  (∃ (s : State) (off : BitVec 17) (res : Nat) (vin : Nat), s.awakes = true ∧ s.pwr.wakeDue = false ∧ s.nvOpen = true ∧ room s (page off) ∧ place off = 15 ∧ low res vin) ∧
  (∃ (s : State) (off : BitVec 17) (res : Nat) (vin : Nat) (b : NvBuf), s.awakes = true ∧ s.nvOpen = true ∧ ¬ room s (page off) ∧ s.stores.bufs.head? = some b ∧ ¬ low res vin) ∧
  (∃ (s : State) (off : BitVec 17) (res : Nat) (vin : Nat) (b : NvBuf), s.awakes = true ∧ s.pwr.wakeDue = false ∧ s.nvOpen = true ∧ ¬ room s (page off) ∧ s.stores.bufs.head? = some b ∧ low res vin ∧ place off ≠ 15) ∧
  (∃ s : State, s.awakes = true ∧ s.nvOpen = false) ∧
  (∃ (s : State) (res : Nat) (vin : Nat), s.awakes = true ∧ ¬ low res vin) ∧
  (∃ (s : State) (res : Nat) (vin : Nat), s.awakes = true ∧ s.nvOpen = true ∧ ¬ low res vin) := by
  dsimp only
  exact ⟨⟨State.reset, 0x00003#17, by decide +kernel⟩,
    ⟨State.reset, 0x0003f#17, 5000, 4200, by decide +kernel⟩,
    ⟨State.reset, 0x0000f#17, 4199, 5, by decide +kernel⟩,
    ⟨{ State.reset with stores := { Stores.init with bufs := [{ page := 0, data := 6703903964971298549787012499102923063739682910296196688861780721860882015036773488400937149083451713845015929093243025426876941405973297318895725737609938, last := 5 }, { page := 3, data := 6703903964971298549787012499102923063739682910296196688861780721860882015036773488400937149083451713845015929093243025426876994430260412692899936744767495, last := 65535999000 }, { page := 6, data := 6703903964971298549787012499102923063739682910296196688861780721860882015036773488400937149083451713845015929093243253164456048675787307534924835914252302, last := 5 }, { page := 9, data := 6703903964971298549787012499102923063739682910296196688861780721860882015036773488400937149083451713845016907218697361363604016310715335885559613083353109, last := 65535999000 }, { page := 12, data := 6703903964971298549787012499102923063739682910296196688861780721860882015036773488400937149083455914861853687082883337420486365390452524667095010810789916, last := 5 }, { page := 15, data := 6703903964971298549787012499102923063739682910296196688861780721860882015036773488400955192313379829748483775909032062437613287482125146572788788717682723, last := 65535999000 }, { page := 18, data := 6703903964971298549787012499102923063739682910296196688861780721860882015036850983483392615319743608906367579489689232702487112505653118873580697695551530, last := 5 }, { page := 21, data := 6703903964971298549787012499102923063739682910296196688861780721861214853881520539262243046681820965853377823965225968744966184078748242834935981474316337, last := 65535999000 }] } }, 0x0001f#17, 70000, 4199, { page := 0, data := 6703903964971298549787012499102923063739682910296196688861780721860882015036773488400937149083451713845015929093243025426876941405973297318895725737609938, last := 5 }, by decide +kernel⟩,
    ⟨{ State.reset with stores := { Stores.init with bufs := [{ page := 0, data := 6703903964971298549787012499102923063739682910296196688861780721860882015036773488400937149083451713845015929093243025426876941405973297318895725737609938, last := 5 }, { page := 3, data := 6703903964971298549787012499102923063739682910296196688861780721860882015036773488400937149083451713845015929093243025426876994430260412692899936744767495, last := 65535999000 }, { page := 6, data := 6703903964971298549787012499102923063739682910296196688861780721860882015036773488400937149083451713845015929093243253164456048675787307534924835914252302, last := 5 }, { page := 9, data := 6703903964971298549787012499102923063739682910296196688861780721860882015036773488400937149083451713845016907218697361363604016310715335885559613083353109, last := 65535999000 }, { page := 12, data := 6703903964971298549787012499102923063739682910296196688861780721860882015036773488400937149083455914861853687082883337420486365390452524667095010810789916, last := 5 }, { page := 15, data := 6703903964971298549787012499102923063739682910296196688861780721860882015036773488400955192313379829748483775909032062437613287482125146572788788717682723, last := 65535999000 }, { page := 18, data := 6703903964971298549787012499102923063739682910296196688861780721860882015036850983483392615319743608906367579489689232702487112505653118873580697695551530, last := 5 }, { page := 21, data := 6703903964971298549787012499102923063739682910296196688861780721861214853881520539262243046681820965853377823965225968744966184078748242834935981474316337, last := 65535999000 }] } }, 0x007d0#17, 5000, 2999, { page := 0, data := 6703903964971298549787012499102923063739682910296196688861780721860882015036773488400937149083451713845015929093243025426876941405973297318895725737609938, last := 5 }, by decide +kernel⟩,
    ⟨(State.reset.setFld (R.FLT_SRC_FENCED 26) 1), by decide +kernel⟩,
    ⟨State.reset, 70000, 3000, by decide +kernel⟩,
    ⟨State.reset, 5000, 3000, by decide +kernel⟩⟩

/-- The hypotheses of the clauses of `Obligations.NvPageBuffers` are met, part 2. -/
theorem test_hyps_NvPageBuffers_2 :
  let low (res vin : Nat) : Prop := vin < 3000 ∨ res < 4200
  (∃ (s : State) (res : Nat) (vin : Nat), s.awakes = true ∧ s.pwr.wakeDue = false ∧ s.nvOpen = true ∧ low res vin) ∧
  (∃ (s : State) (res : Nat) (vin : Nat), s.awakes = true ∧ s.pwr.wakeDue = false ∧ low res vin) := by
  dsimp only
  exact ⟨⟨State.reset, 5000, 0, by decide +kernel⟩,
    ⟨State.reset, 2999, 70000, by decide +kernel⟩⟩

/-- The hypotheses of the clauses of `Obligations.NvRecords` are met. -/
theorem test_hyps_NvRecords :
  (∃ s : State, s.awakes = true ∧ s.pwr.wakeDue = false) ∧
  (∃ (s : State) (torn : List Nat) (ce : List Nat) (ue : List Nat), s.awakes = true ∧ s.pwr.wakeDue = false ∧ s.fld R.NV_STATUS_SCAN_BUSY ≠ 0 ∧ (∀ p ∈ torn, p < 8192) ∧ (∀ g ∈ ce, g < 65536) ∧ (∀ g ∈ ue, g < 65536)) ∧
  (∃ s : State, s.awakes = true ∧ s.pwr.wakeDue = false ∧ s.fld R.NV_STATUS_SCAN_BUSY ≠ 0 ∧ s.pwr.phase = 0 ∧ s.stores.torn = []) ∧
  (∃ s : State, s.awakes = true ∧ s.fld R.NV_STATUS_SCAN_BUSY = 0) := by
  exact ⟨⟨State.reset, by decide +kernel⟩,
    ⟨(State.reset.setFld R.NV_STATUS_SCAN_BUSY 1), [3000, 0, 4199, 0], [0], [5000, 5, 4199], by decide +kernel⟩,
    ⟨(State.reset.setFld R.NV_STATUS_SCAN_BUSY 1), by decide +kernel⟩,
    ⟨State.reset, by decide +kernel⟩⟩

/-- The hypotheses of the clauses of `Obligations.ModeCommands` are met, part 1. -/
theorem test_hyps_ModeCommands_1 :
  let mode (s : State) : Nat := s.fld R.SYS_MODE_MODE
  let busy (s : State) : Prop := mode s = 0 ∨ s.fld R.SYS_MODE_CHANGING ≠ 0
  let open_ (s : State) : Prop := s.awakes = true ∧ ¬ busy s ∧ mode s ≠ 5
  let legal (dst : Fin 8) : Prop := 1 ≤ dst.val ∧ dst.val ≤ 4
  let ready (s : State) : Prop := mode s = 4 → s.pllState 0 = 3 ∧ s.domSrc 0 = 0 ∧ s.domGated 0 = false
  let waits (s : State) : Prop := (s.lane 8).any (fun o => match o with | .write 5 _ _ _ => true | _ => false) = true
  (∃ s : State, s.awakes = true ∧ busy s) ∧
  (∃ s : State, s.awakes = true ∧ mode s = 5 ∧ ¬ busy s) ∧
  (∃ (s : State) (dst : Fin 8), open_ s ∧ ¬ legal dst) ∧
  (∃ (s : State) (dst : Fin 8), open_ s ∧ legal dst ∧ ¬ ready s) ∧
  (∃ (s : State) (dst : Fin 8), open_ s ∧ legal dst ∧ ready s ∧ mode s = dst.val) ∧
  (∃ (s : State) (dst : Fin 8), open_ s ∧ legal dst ∧ ready s ∧ mode s ≠ dst.val) ∧
  (∃ s : State, s.awakes = true ∧ s.fld R.SYS_MODE_CHANGING ≠ 0 ∧ ¬ waits s) ∧
  (∃ s : State, s.awakes = true ∧ (s.fld R.SYS_MODE_CHANGING = 0 ∨ waits s)) := by
  dsimp only
  exact ⟨⟨(State.reset.setFld R.SYS_MODE_MODE 0), by decide +kernel⟩,
    ⟨(State.reset.setFld R.SYS_MODE_MODE 5), by decide +kernel⟩,
    ⟨State.reset, 0, by decide +kernel⟩,
    ⟨(State.reset.setFld R.SYS_MODE_MODE 4), 2, by decide +kernel⟩,
    ⟨State.reset, 2, by decide +kernel⟩,
    ⟨State.reset, 3, by decide +kernel⟩,
    ⟨(State.reset.setFld R.SYS_MODE_CHANGING 1), by decide +kernel⟩,
    ⟨State.reset, by decide +kernel⟩⟩

/-- The hypotheses of the clauses of `Obligations.ModeCommands` are met, part 2. -/
theorem test_hyps_ModeCommands_2 :
  (∃ (s : State) (v : BitVec 32), s.pwr.resetLow = true ∧ v.toNat % 2 = 1) ∧
  (∃ (s : State) (v : BitVec 32), (s.pwr.resetLow = false ∨ v.toNat % 2 = 0)) := by
  exact ⟨⟨{ State.reset with pwr := { Power.init with resetLow := true } }, 0xac4a7663#32, by decide +kernel⟩,
    ⟨State.reset, 0x5e92e999#32, by decide +kernel⟩⟩

/-- The hypotheses of the clauses of `Obligations.ResetAndSupplies` are met, part 1. -/
theorem test_hyps_ResetAndSupplies_1 :
  (∃ s : State, s.pwr.resetLow = false ∧ s.pwr.phase ≠ 1 ∧ s.pwrState < 3) ∧
  (∃ (s : State) (i : Fin 8) (b : NvBuf), s.pwr.resetLow = false ∧ s.pwr.phase ≠ 1 ∧ s.pwrState < 3 ∧ s.stores.bufs[i.val]? = some b ∧ s.stores.otp = none) ∧
  (∃ s : State, (s.pwr.resetLow = true ∨ s.pwr.phase = 1 ∨ 3 ≤ s.pwrState)) ∧
  (∃ s : State, s.pwr.resetLow = true ∧ s.pwr.phase = 1 ∧ s.pwr.supplyLow = false) ∧
  (∃ s : State, s.pwr.resetLow = true ∧ (s.pwr.phase ≠ 1 ∨ s.pwr.supplyLow = true)) ∧
  (∃ s : State, s.pwr.resetLow = false) ∧
  (∃ s : State, s.pwr.resetLow = false ∧ s.pwr.phase = 1) ∧
  (∃ s : State, (s.pwr.resetLow = true ∨ s.pwr.phase ≠ 1)) := by
  exact ⟨⟨State.reset, by decide +kernel⟩,
    ⟨{ State.reset with stores := { Stores.init with bufs := [{ page := 3, data := 77, last := 0 }] } }, 0, { page := 3, data := 77, last := 0 }, by decide +kernel⟩,
    ⟨{ State.reset with pwr := { Power.init with resetLow := true } }, by decide +kernel⟩,
    ⟨{ State.reset with pwr := { Power.init with phase := 1, resetLow := true } }, by decide +kernel⟩,
    ⟨{ State.reset with pwr := { Power.init with resetLow := true } }, by decide +kernel⟩,
    ⟨State.reset, by decide +kernel⟩,
    ⟨{ State.reset with pwr := { Power.init with phase := 1 } }, by decide +kernel⟩,
    ⟨State.reset, by decide +kernel⟩⟩

/-- The hypotheses of the clauses of `Obligations.ResetAndSupplies` are met, part 2. -/
theorem test_hyps_ResetAndSupplies_2 :
  let wanted (s : State) : Prop :=
    (s.pwrState < 2 ∨ (s.pwrState = 2 ∧ s.fld R.PWR_CFG_OVEN_SLEEP ≠ 0)) ∧ s.fenced 0x011 = false
  (∃ s : State, wanted s) ∧
  (∃ s : State, ¬ wanted s) := by
  dsimp only
  exact ⟨⟨State.reset, by decide +kernel⟩,
    ⟨(State.reset.setFld (R.FLT_SRC_FENCED 17) 1), by decide +kernel⟩⟩

/-- The hypotheses of the clauses of `Obligations.RecallEnd` are met, part 1. -/
theorem test_hyps_RecallEnd_1 :
  let records (s : State) : List (Nat × Nat × Nat × Nat) := s.factoryRecs ++
    (if s.fld R.OTP_STATUS_BOOT_NONE ≠ 0 then [] else (s.genRecs (s.fld R.OTP_STATUS_BOOT_GEN)).getD [])
  let ready (s : State) : Prop := s.pwr.phase = 2 ∧ s.fld R.NV_STATUS_SCAN_BUSY = 0 ∧ s.fld R.OTP_STATUS_FACTORY_BAD = 0 ∧
    (∀ b : Fin 29, s.busyKind b = 0)
  let valid (s : State) : Prop := ∀ r ∈ records s, s.recordOk r = true
  let ok (s : State) : Prop := ready s ∧ valid s
  let wake (s : State) : Prop := ok s ∧ s.pwr.cold = false
  (∃ s : State, ¬ ready s) ∧
  (∃ s : State, ok s) ∧
  (∃ (s : State) (r : Fin 64), ok s ∧ 8 ≤ r.val ∧ s.holder r = none ∧ s.fld (R.ENG_ROLE_DEFINED r) ≠ 0) ∧
  (∃ (s : State) (k : Fin 16), ok s ∧ s.fld (R.FLT_SRC_LATCHED k) ≠ 0) ∧
  (∃ s : State, ok s ∧ s.pwr.cold = true) ∧
  (∃ (s : State) (c : Nat), wake s ∧ c * s.saved 20 8 % 2 ^ 48 = 0) ∧
  (∃ s : State, wake s) ∧
  (∃ s : State, s.pwr.resetLow = true ∧ s.pwr.phase = 1 ∧ s.pwr.supplyLow = false) := by
  dsimp only
  exact ⟨⟨{ State.reset with mem := [(69206036, 0x00#8), (69206037, 0x00#8), (69206038, 0x00#8), (69206039, 0x00#8)] }, by decide +kernel⟩,
    ⟨{ State.reset with pwr := { Power.init with phase := 2 }, mem := [(69206036, 0x00#8), (69206037, 0x00#8), (69206038, 0x00#8), (69206039, 0x00#8)] }, by decide +kernel⟩,
    ⟨{ (State.reset.setFld (R.ENG_ROLE_HOLDER 8) 15) with pwr := { Power.init with phase := 2 }, mem := [(69206036, 0x00#8), (69206037, 0x00#8), (69206038, 0x00#8), (69206039, 0x00#8)] }, 8, by decide +kernel⟩,
    ⟨{ (State.reset.setFld (R.FLT_SRC_LATCHED 3) 1) with pwr := { Power.init with phase := 2 }, mem := [(69206036, 0x00#8), (69206037, 0x00#8), (69206038, 0x00#8), (69206039, 0x00#8)] }, 3, by decide +kernel⟩,
    ⟨{ State.reset with pwr := { Power.init with phase := 2 }, mem := [(69206036, 0x00#8), (69206037, 0x00#8), (69206038, 0x00#8), (69206039, 0x00#8)] }, by decide +kernel⟩,
    ⟨{ State.reset with pwr := { Power.init with phase := 2, cold := false }, mem := [(69206036, 0x00#8), (69206037, 0x00#8), (69206038, 0x00#8), (69206039, 0x00#8)] }, 0, by decide +kernel⟩,
    ⟨{ State.reset with pwr := { Power.init with phase := 2, cold := false }, mem := [(69206036, 0x00#8), (69206037, 0x00#8), (69206038, 0x00#8), (69206039, 0x00#8)] }, by decide +kernel⟩,
    ⟨{ State.reset with pwr := { Power.init with phase := 1, resetLow := true }, mem := [(69206036, 0x00#8), (69206037, 0x00#8), (69206038, 0x00#8), (69206039, 0x00#8)] }, by decide +kernel⟩⟩

/-- The hypotheses of the clauses of `Obligations.RecallEnd` are met, part 2. -/
theorem test_hyps_RecallEnd_2 :
  (∃ s : State, s.pwr.resetLow = false ∧ s.pwr.phase = 1) ∧
  (∃ s : State, s.pwr.resetLow = false ∧ s.pwr.phase ≠ 1 ∧ s.pwrState < 3) ∧
  (∃ s : State, s.pwrState < 2 ∧ s.fenced 0x011 = false) := by
  exact ⟨⟨{ State.reset with pwr := { Power.init with phase := 1, supplyLow := true }, mem := [(69206036, 0x00#8), (69206037, 0x00#8), (69206038, 0x00#8), (69206039, 0x00#8)] }, by decide +kernel⟩,
    ⟨{ State.reset with mem := [(69206036, 0x00#8), (69206037, 0x00#8), (69206038, 0x00#8), (69206039, 0x00#8)] }, by decide +kernel⟩,
    ⟨{ State.reset with mem := [(69206036, 0x00#8), (69206037, 0x00#8), (69206038, 0x00#8), (69206039, 0x00#8)] }, by decide +kernel⟩⟩

/-- The hypotheses of the clauses of `Obligations.PowerStateEntry` are met, part 1. -/
theorem test_hyps_PowerStateEntry_1 :
  let deeper : List (Instr × Nat) := [(.pwrEnterIdle, 1), (.pwrEnterSleep, 2), (.pwrEnterDeepSleep, 3), (.pwrEnterOff, 4)]
  let entering (s : State) : Prop := s.fld R.PWR_STATUS_ENTERING ≠ 0
  let busy (s : State) (dst : Nat) : Prop := entering s ∨ s.pwr.phase = 2 ∨
    (3 ≤ dst ∧ (s.stores.otp ≠ none ∨ s.fld R.NV_STATUS_SCAN_BUSY ≠ 0))
  let standin (s : State) (dst : Nat) : Prop := 2 ≤ dst ∧ s.domSrc 0 ≠ 0 ∧ s.domGated 0 = false
  let quiet (s : State) : Prop := ∀ n : Fin 8, s.flights n = [] ∧ s.lane n = []
  (∃ (s : State) (p : Instr × Nat), s.awakes = true ∧ p ∈ deeper ∧ busy s p.2) ∧
  (∃ (s : State) (p : Instr × Nat), s.awakes = true ∧ p ∈ deeper ∧ ¬ busy s p.2 ∧ p.2 ≤ s.pwrState) ∧
  (∃ (s : State) (p : Instr × Nat), s.awakes = true ∧ p ∈ deeper ∧ ¬ busy s p.2 ∧ s.pwrState < p.2 ∧ standin s p.2) ∧
  (∃ (s : State) (p : Instr × Nat), s.awakes = true ∧ p ∈ deeper ∧ ¬ busy s p.2 ∧ s.pwrState < p.2 ∧ ¬ standin s p.2) ∧
  (∃ s : State, s.awakes = true ∧ (entering s ∨ s.pwr.phase = 2)) ∧
  (∃ s : State, s.awakes = true ∧ ¬ entering s ∧ s.pwr.phase ≠ 2 ∧ s.pwrState = 0) ∧
  (∃ s : State, s.powered = true ∧ s.pwr.resetLow = false ∧ ¬ entering s ∧ s.pwrState ≠ 0) ∧
  (∃ s : State, s.powered = true ∧ (¬ entering s ∨ ¬ quiet s)) := by
  dsimp only
  exact ⟨⟨(State.reset.setFld R.PWR_STATUS_ENTERING 1), (Instr.pwrEnterDeepSleep, 3), by decide +kernel⟩,
    ⟨(State.reset.setFld R.PWR_STATUS_STATE 2), (Instr.pwrEnterSleep, 2), by decide +kernel⟩,
    ⟨(State.reset.setFld (R.SYN_DOMAIN_SRC 0) 3), (Instr.pwrEnterOff, 4), by decide +kernel⟩,
    ⟨State.reset, (Instr.pwrEnterDeepSleep, 3), by decide +kernel⟩,
    ⟨(State.reset.setFld R.PWR_STATUS_ENTERING 1), by decide +kernel⟩,
    ⟨State.reset, by decide +kernel⟩,
    ⟨(State.reset.setFld R.PWR_STATUS_STATE 1), by decide +kernel⟩,
    ⟨State.reset, by decide +kernel⟩⟩

/-- The hypotheses of the clauses of `Obligations.PowerStateEntry` are met, part 2. -/
theorem test_hyps_PowerStateEntry_2 :
  let entering (s : State) : Prop := s.fld R.PWR_STATUS_ENTERING ≠ 0
  let quiet (s : State) : Prop := ∀ n : Fin 8, s.flights n = [] ∧ s.lane n = []
  let going (s : State) (dst : Nat) : Prop := s.powered = true ∧ entering s ∧ s.pwr.dst = dst
  (∃ s : State, s.powered = true ∧ entering s ∧ quiet s ∧ s.pwr.dst ≠ 1) ∧
  (∃ s : State, going s 1 ∧ quiet s ∧ s.pwr.latched = []) ∧
  (∃ s : State, going s 1 ∧ quiet s ∧ s.pwr.latched = [1] ∧ s.pwr.resetLow = false) ∧
  (∃ s : State, s.powered = true ∧ (¬ entering s ∨ s.pwr.drained = false ∨ (3 ≤ s.pwr.dst ∧ ∃ l ∈ List.range 9, s.lane l ≠ []))) ∧
  (∃ s : State, going s 2 ∧ s.domSrc 0 = 0 ∧ s.pwr.drained = true ∧ s.pwr.latched = []) ∧
  (∃ (s : State) (dst : Nat), s.pwr.drained = true ∧ s.pwr.latched = [] ∧ s.pwr.wakeDue = false ∧ (∀ l ∈ List.range 9, s.lane l = []) ∧ dst ∈ [3, 4] ∧ going s dst) ∧
  (∃ (s : State) (dst : Nat), s.pwr.drained = true ∧ s.pwr.latched = [1] ∧ s.pwr.wakeDue = false ∧ (∀ l ∈ List.range 9, s.lane l = []) ∧ dst ∈ [3, 4] ∧ going s dst) ∧
  (∃ s : State, (3 ≤ s.pwrState ∨ s.pwr.phase = 1)) := by
  dsimp only
  exact ⟨⟨(State.reset.setFld R.PWR_STATUS_ENTERING 1), by decide +kernel⟩,
    ⟨{ (State.reset.setFld R.PWR_STATUS_ENTERING 1) with pwr := { Power.init with dst := 1 } }, by decide +kernel⟩,
    ⟨{ (State.reset.setFld R.PWR_STATUS_ENTERING 1) with pwr := { Power.init with dst := 1, latched := [1] } }, by decide +kernel⟩,
    ⟨State.reset, by decide +kernel⟩,
    ⟨{ (State.reset.setFld R.PWR_STATUS_ENTERING 1) with pwr := { Power.init with dst := 2, drained := true } }, by decide +kernel⟩,
    ⟨{ (State.reset.setFld R.PWR_STATUS_ENTERING 1) with pwr := { Power.init with dst := 3, drained := true } }, 3, by decide +kernel⟩,
    ⟨{ (State.reset.setFld R.PWR_STATUS_ENTERING 1) with pwr := { Power.init with dst := 3, drained := true, latched := [1] } }, 3, by decide +kernel⟩,
    ⟨(State.reset.setFld R.PWR_STATUS_STATE 4), by decide +kernel⟩⟩

/-- The hypotheses of the clauses of `Obligations.WakeSourcesAndLedger` are met, part 1. -/
theorem test_hyps_WakeSourcesAndLedger_1 :
  let sources (dev : BitVec 7) : List (Instr × Nat) := [(.wakePin, 1), (.wakeAlarm, 2), (.i2cWake dev, 3)]
  let entering (s : State) : Prop := s.fld R.PWR_STATUS_ENTERING ≠ 0
  let counts (src st : Nat) : Prop := 1 ≤ st ∧ (src = 1 ∨ st ≤ 3)
  let at_ (s : State) : Nat := if s.fld R.PWR_STATUS_ENTERING ≠ 0 then s.pwr.dst else s.pwrState
  let wakeAt (s : State) : Nat := decodeHub (s.fld R.PWR_WAKE_AT_0_AT + 2 ^ 32 * s.fld R.PWR_WAKE_AT_1_AT + 2 ^ 64 * s.fld R.PWR_WAKE_AT_2_AT)
  let due (s : State) (dev : BitVec 7) (src : Nat) : Prop :=
    (src = 2 → s.pwr.alarm = true ∧ s.fld R.PWR_CFG_ALARM_EN ≠ 0 ∧ (s.pwrState = 3 ∨ wakeAt s ≤ s.tb.now)) ∧
    (src = 3 → s.fld R.PWR_CFG_I2C_WAKE ≠ 0 ∧ s.fld R.HOST_CFG_I2C_EN ≠ 0 ∧ s.i2cMine dev = true)
  let ready (s : State) : Prop := s.pwr.phase = 0 ∧ s.pwr.resetLow = false
  let limit (s : State) : Nat := if s.fld R.PWR_STATUS_REG_LP ≠ 0 then 200 else 1500
  (∃ (s : State) (dev : BitVec 7) (p : Instr × Nat), ready s ∧ ¬ entering s ∧ p ∈ sources dev ∧ due s dev p.2 ∧ counts p.2 s.pwrState ∧ s.pwrState ≤ 2) ∧
  (∃ (s : State) (dev : BitVec 7) (p : Instr × Nat), ready s ∧ ¬ entering s ∧ p ∈ sources dev ∧ due s dev p.2 ∧ counts p.2 s.pwrState ∧ 3 ≤ s.pwrState) ∧
  (∃ (s : State) (dev : BitVec 7) (p : Instr × Nat), ready s ∧ entering s ∧ s.fld R.PWR_CFG_ENTRY_POLICY = 0 ∧ p ∈ sources dev ∧ due s dev p.2 ∧ counts p.2 s.pwr.dst) ∧
  (∃ (s : State) (dev : BitVec 7) (p : Instr × Nat), ready s ∧ entering s ∧ s.fld R.PWR_CFG_ENTRY_POLICY ≠ 0 ∧ p ∈ sources dev ∧ due s dev p.2 ∧ counts p.2 s.pwr.dst) ∧
  (∃ (s : State) (dev : BitVec 7) (p : Instr × Nat), p ∈ sources dev ∧ (¬ due s dev p.2 ∨ ¬ counts p.2 (at_ s) ∨ s.pwr.phase ≠ 0)) ∧
  (∃ s : State, s.powered = true ∧ s.tb.running = true) ∧
  (∃ s : State, s.tb.running = false) ∧
  (∃ (s : State) (ma : BitVec 16), ma.toNat ≤ limit s) := by
  dsimp only
  exact ⟨⟨(State.reset.setFld R.PWR_STATUS_STATE 1), 0x5a#7, (Instr.wakePin, 1), by decide +kernel⟩,
    ⟨(State.reset.setFld R.PWR_STATUS_STATE 4), 0x5a#7, (Instr.wakePin, 1), by decide +kernel⟩,
    ⟨{ (State.reset.setFld R.PWR_STATUS_ENTERING 1) with pwr := { Power.init with dst := 3 } }, 0x58#7, (Instr.wakePin, 1), by decide +kernel⟩,
    ⟨{ ((State.reset.setFld R.PWR_STATUS_ENTERING 1).setFld R.PWR_CFG_ENTRY_POLICY 1) with pwr := { Power.init with dst := 2 } }, 0x58#7, (Instr.i2cWake 0x58#7, 3), by decide +kernel⟩,
    ⟨State.reset, 0x33#7, (Instr.wakeAlarm, 2), by decide +kernel⟩,
    ⟨{ State.reset with tb := { TimeBase.init with running := true } }, by decide +kernel⟩,
    ⟨State.reset, by decide +kernel⟩,
    ⟨State.reset, 0x00c9#16, by decide +kernel⟩⟩

/-- The hypotheses of the clauses of `Obligations.WakeSourcesAndLedger` are met, part 2. -/
theorem test_hyps_WakeSourcesAndLedger_2 :
  let entering (s : State) : Prop := s.fld R.PWR_STATUS_ENTERING ≠ 0
  let limit (s : State) : Nat := if s.fld R.PWR_STATUS_REG_LP ≠ 0 then 200 else 1500
  (∃ (s : State) (ma : BitVec 16), limit s < ma.toNat ∧ s.pwrState = 3 ∧ s.fld R.PWR_STATUS_REG_LP ≠ 0) ∧
  (∃ (s : State) (ma : BitVec 16), limit s < ma.toNat ∧ (s.pwrState = 3 → s.fld R.PWR_STATUS_REG_LP = 0)) ∧
  (∃ (s : State) (p : Instr × _), s.powered = true ∧ ¬ entering s ∧ s.stores.otp = none ∧ s.fld R.NV_STATUS_SCAN_BUSY = 0 ∧ s.domSrc 0 = 0 ∧ p ∈ [(Instr.pwrEnterIdle, 1), (.pwrEnterSleep, 2), (.pwrEnterDeepSleep, 3), (.pwrEnterOff, 4)] ∧ s.pwrState < p.2) ∧
  (∃ s : State, s.powered = true ∧ s.pwr.resetLow = false ∧ ¬ entering s ∧ s.pwrState ≠ 0) ∧
  (∃ s : State, s.powered = true ∧ entering s ∧ (∀ n : Fin 8, s.flights n = [] ∧ s.lane n = []) ∧ s.pwr.latched = []) ∧
  (∃ s : State, s.powered = true ∧ entering s ∧ s.pwr.dst = 2 ∧ s.domSrc 0 = 0 ∧ s.pwr.drained = true ∧ s.pwr.latched = []) := by
  dsimp only
  exact ⟨⟨((State.reset.setFld R.PWR_STATUS_STATE 3).setFld R.PWR_STATUS_REG_LP 1), 0x00c9#16, by decide +kernel⟩,
    ⟨(State.reset.setFld R.PWR_STATUS_REG_LP 1), 0x05db#16, by decide +kernel⟩,
    ⟨State.reset, (Instr.pwrEnterOff, 4), by decide +kernel⟩,
    ⟨(State.reset.setFld R.PWR_STATUS_STATE 2), by decide +kernel⟩,
    ⟨(State.reset.setFld R.PWR_STATUS_ENTERING 1), by decide +kernel⟩,
    ⟨{ (State.reset.setFld R.PWR_STATUS_ENTERING 1) with pwr := { Power.init with dst := 2, drained := true } }, by decide +kernel⟩⟩

/-- The hypotheses of the clauses of `Obligations.FaultReports` are met, part 1. -/
theorem test_hyps_FaultReports_1 :
  let fld (s : State) (f : Fld) : Nat := s.fld f
  let ok (s : State) (src : Fin 512) : Prop := s.awakes = true ∧ s.pwr.wakeDue = false ∧ validSource src = true
  let plain (s : State) (src : Fin 512) (cls : Fin 4) (cause : BitVec 8) : Prop :=
    counted src cls cause.toNat = false ∨ fld s (R.FLT_SRC_CFG_N src) = 0 ∨ fld s (R.FLT_SRC_CFG_WIN src) = 0 ∨
    fld s (R.FLT_SRC_WCOUNT src) + 1 < fld s (R.FLT_SRC_CFG_N src)
  let harmless (src : Fin 512) : Prop := src.val = 0x000 ∨ src.val = 0x003 ∨ src.val = 0x01C ∨ src.val = 0x01E
  (∃ (s : State) (src : Fin 512), ok s src) ∧
  (∃ (s : State) (src : Fin 512) (cls : Fin 4) (cause : BitVec 8), ok s src ∧ cls ≠ 0 ∧ plain s src cls cause) ∧
  (∃ (s : State) (src : Fin 512) (cls : Fin 4) (cause : BitVec 8) (h : Fin 8), ok s src ∧ cls ≠ 0 ∧ plain s src cls cause ∧ s.fld (R.FLT_SRC_CFG_ROLE src) ≠ 0x3F ∧ s.holder (s.fld (R.FLT_SRC_CFG_ROLE src)) = some h.val) ∧
  (∃ (s : State) (src : Fin 512) (cls : Fin 4), ok s src ∧ 2 ≤ cls.val ∧ ¬ harmless src) ∧
  (∃ (s : State) (src : Fin 512), ok s src ∧ src.val < 16) ∧
  (∃ (s : State) (src : Fin 512) (cls : Fin 4) (cause : BitVec 8), ok s src ∧ counted src cls cause.toNat = true ∧ plain s src cls cause) ∧
  (∃ (s : State) (src : Fin 512) (cls : Fin 4) (cause : BitVec 8), ok s src ∧ counted src cls cause.toNat = true ∧ ¬ plain s src cls cause) ∧
  (∃ (s : State) (src : Fin 512), s.awakes = true ∧ validSource src = false) := by
  dsimp only
  exact ⟨⟨State.reset, 361, by decide +kernel⟩,
    ⟨State.reset, 1, 3, 0x02#8, by decide +kernel⟩,
    ⟨State.reset, 26, 3, 0x0b#8, 7, by decide +kernel⟩,
    ⟨State.reset, 361, 2, by decide +kernel⟩,
    ⟨State.reset, 3, by decide +kernel⟩,
    ⟨State.reset, 20, 1, 0x0b#8, by decide +kernel⟩,
    ⟨State.reset, 29, 2, 0x01#8, by decide +kernel⟩,
    ⟨State.reset, 496, by decide +kernel⟩⟩

/-- The hypotheses of the clauses of `Obligations.FaultReports` are met, part 2. -/
theorem test_hyps_FaultReports_2 :
  let ok (s : State) (src : Fin 512) : Prop := s.awakes = true ∧ s.pwr.wakeDue = false ∧ validSource src = true
  (∃ (s : State) (src : Fin 512) (rail : Fin 4), ok s src ∧ (rail = 1 ∨ rail = 2)) ∧
  (∃ (s : State) (src : Fin 512) (rail : Fin 4), ok s src ∧ (rail = 0 ∨ rail = 3)) ∧
  (∃ s : State, s.awakes = true) ∧
  (∃ s : State, s.awakes = true ∧ s.fld R.SYS_MODE_MODE ≠ 5) ∧
  (∃ s : State, s.fld R.SYS_MODE_MODE = 5) ∧
  (∃ (s : State) (src : Fin 512), ok s src ∧ s.fld R.SYS_MODE_MODE = 5) := by
  dsimp only
  exact ⟨⟨State.reset, 34, 2, by decide +kernel⟩,
    ⟨State.reset, 2, 3, by decide +kernel⟩,
    ⟨State.reset, by decide +kernel⟩,
    ⟨State.reset, by decide +kernel⟩,
    ⟨(State.reset.setFld R.SYS_MODE_MODE 5), by decide +kernel⟩,
    ⟨(State.reset.setFld R.SYS_MODE_MODE 5), 0, by decide +kernel⟩⟩

/-- The hypotheses of the clauses of `Obligations.FaultClearing` are met, part 1. -/
theorem test_hyps_FaultClearing_1 :
  let group (s : State) (src : Fin 512) : Prop := src.val < 16 ∧ s.tiFenced = true
  let unit_ (src : Fin 512) : Prop := 0x020 ≤ src.val ∧ src.val ≤ 0x077
  let ok (s : State) (src : Fin 512) : Prop := s.awakes = true ∧ validSource src = true ∧ ¬ group s src
  let cleared (s : State) (src : Fin 512) : Prop := ok s src ∧ ¬ unit_ src ∧ s.fenced src = true ∧ s.fld (R.FLT_SRC_RAIL src) = 1
  (∃ (s : State) (src : Fin 512), s.awakes = true ∧ validSource src = false) ∧
  (∃ (s : State) (src : Fin 512), s.awakes = true ∧ validSource src = true ∧ group s src) ∧
  (∃ (s : State) (src : Fin 512), ok s src ∧ unit_ src) ∧
  (∃ (s : State) (src : Fin 512), ok s src ∧ ¬ unit_ src ∧ s.fenced src = false) ∧
  (∃ (s : State) (src : Fin 512), ok s src ∧ ¬ unit_ src ∧ s.fenced src = true ∧ s.fld (R.FLT_SRC_RAIL src) ≠ 1) ∧
  (∃ (s : State) (src : Fin 512), cleared s src) ∧
  (∃ (s : State) (src : Fin 512) (other : Fin 512), cleared s src ∧ other ≠ src) ∧
  (∃ (s : State) (n : Fin 32), s.awakes = true ∧ n.val ≠ 0 ∧ s.fld R.FLT_LOG_STATUS_COUNT ≠ 0) := by
  dsimp only
  exact ⟨⟨State.reset, 496, by decide +kernel⟩,
    ⟨(State.reset.setFld R.FLT_STATUS_TI_FENCED 1), 3, by decide +kernel⟩,
    ⟨State.reset, 105, by decide +kernel⟩,
    ⟨State.reset, 152, by decide +kernel⟩,
    ⟨((State.reset.setFld (R.FLT_SRC_RAIL 20) 0).setFld (R.FLT_SRC_FENCED 20) 1), 20, by decide +kernel⟩,
    ⟨(State.reset.setFld (R.FLT_SRC_FENCED 257) 1), 257, by decide +kernel⟩,
    ⟨(State.reset.setFld (R.FLT_SRC_FENCED 257) 1), 257, 28, by decide +kernel⟩,
    ⟨(State.reset.setFld R.FLT_LOG_STATUS_COUNT 3), 6, by decide +kernel⟩⟩

/-- The hypotheses of the clauses of `Obligations.FaultClearing` are met, part 2. -/
theorem test_hyps_FaultClearing_2 :
  (∃ (s : State) (n : Fin 32), s.awakes = true ∧ (n.val = 0 ∨ s.fld R.FLT_LOG_STATUS_COUNT = 0)) ∧
  (∃ s : State, s.awakes = true) := by
  exact ⟨⟨State.reset, 0, by decide +kernel⟩,
    ⟨State.reset, by decide +kernel⟩⟩

/-- The hypotheses of the clauses of `Obligations.ResultSlotsAndPcie` are met, part 1. -/
theorem test_hyps_ResultSlotsAndPcie_1 :
  let may (s : State) (b : Fin 9) (k : Fin 32) : Prop := b ≠ 0 ∧ s.fld (R.HOST_SLOT_CFG_ROLE k) ≠ 0x3F ∧
    s.holder (s.fld (R.HOST_SLOT_CFG_ROLE k)) = some (b.val - 1)
  let ok (s : State) (b : Fin 9) (k : Fin 32) : Prop := s.awakes = true ∧ may s b k ∧ s.fld (R.HOST_SLOT_CTL_PENDING k) = 0
  (∃ (s : State) (b : Fin 9) (k : Fin 32), s.awakes = true ∧ (¬ may s b k ∨ s.fld (R.HOST_SLOT_CTL_PENDING k) ≠ 0)) ∧
  (∃ (s : State) (b : Fin 9) (k : Fin 32), ok s b k) ∧
  (∃ (s : State) (b : Fin 9) (k : Fin 32), ok s b k ∧ s.fld (R.HOST_SLOT_CTL_READY k) = 0) ∧
  (∃ (s : State) (b : Fin 9) (k : Fin 32), ok s b k ∧ s.fld (R.HOST_SLOT_CTL_READY k) ≠ 0 ∧ s.fld (R.HOST_SLOT_CFG_MODE k) ≠ 0) ∧
  (∃ (s : State) (b : Fin 9) (k : Fin 32), ok s b k ∧ s.fld (R.HOST_SLOT_CTL_READY k) ≠ 0 ∧ s.fld (R.HOST_SLOT_CFG_MODE k) = 0) ∧
  (∃ (s : State) (k : Fin 32) (v : BitVec 16), s.awakes = true ∧ (s.fld (R.HOST_SLOT_CTL_READY k) = 0 ∨ v.toNat ≠ s.fld (R.HOST_SLOT_CTL_SEQ k))) ∧
  (∃ (s : State) (k : Fin 32) (v : BitVec 16), s.awakes = true ∧ s.fld (R.HOST_SLOT_CTL_READY k) ≠ 0 ∧ v.toNat = s.fld (R.HOST_SLOT_CTL_SEQ k) ∧ s.fld (R.HOST_SLOT_CTL_PENDING k) = 0) ∧
  (∃ (s : State) (k : Fin 32) (v : BitVec 16), s.awakes = true ∧ s.fld (R.HOST_SLOT_CTL_READY k) ≠ 0 ∧ v.toNat = s.fld (R.HOST_SLOT_CTL_SEQ k) ∧ s.fld (R.HOST_SLOT_CTL_PENDING k) ≠ 0) := by
  dsimp only
  exact ⟨⟨State.reset, 1, 0, by decide +kernel⟩,
    ⟨(State.reset.setFld (R.HOST_SLOT_CFG_ROLE 1) 1), 2, 1, by decide +kernel⟩,
    ⟨(State.reset.setFld (R.HOST_SLOT_CFG_ROLE 0) 0), 1, 0, by decide +kernel⟩,
    ⟨(((State.reset.setFld (R.HOST_SLOT_CTL_READY 0) 1).setFld (R.HOST_SLOT_CFG_MODE 0) 1).setFld (R.HOST_SLOT_CFG_ROLE 0) 0), 1, 0, by decide +kernel⟩,
    ⟨((State.reset.setFld (R.HOST_SLOT_CTL_READY 0) 1).setFld (R.HOST_SLOT_CFG_ROLE 0) 0), 1, 0, by decide +kernel⟩,
    ⟨State.reset, 0, 0x0002#16, by decide +kernel⟩,
    ⟨(State.reset.setFld (R.HOST_SLOT_CTL_READY 1) 1), 1, 0x0000#16, by decide +kernel⟩,
    ⟨((State.reset.setFld (R.HOST_SLOT_CTL_READY 0) 1).setFld (R.HOST_SLOT_CTL_PENDING 0) 1), 0, 0x0000#16, by decide +kernel⟩⟩

/-- The hypotheses of the clauses of `Obligations.ResultSlotsAndPcie` are met, part 2. -/
theorem test_hyps_ResultSlotsAndPcie_2 :
  let calm (s : State) (b : Nat) : Prop := s.pathServes 0 = true ∧ s.pwr.phase = 0 ∧ s.pwr.wakeDue = false ∧ s.pathWr 0 = true ∧
    8 ≤ b ∧ b ≤ 27 ∧ s.bank.ecc = []
  let within (a : BitVec 27) (n b : Nat) : Prop := bankBase b ≤ a.toNat ∧ a.toNat + n ≤ bankBase b + bankSize b
  (∃ s : State, s.fld R.HOST_CFG_PCIE_EN ≠ 0) ∧
  (∃ s : State, s.fld R.HOST_CFG_PCIE_EN = 0) ∧
  (∃ (s : State) (a : BitVec 27) (d : List (Option (BitVec 8))) (b : Nat), calm s b ∧ within a d.length b ∧ s.bankOpen b = true) ∧
  (∃ (s : State) (a : BitVec 27) (d : List (Option (BitVec 8))) (b : Nat), calm s b ∧ within a d.length b ∧ s.bankOpen b = false ∧ d.any (fun x => x.isSome) = true) ∧
  (∃ s : State, s.pathServes 0 = false) := by
  dsimp only
  exact ⟨⟨State.reset, by decide +kernel⟩,
    ⟨(State.reset.setFld R.HOST_CFG_PCIE_EN 0), by decide +kernel⟩,
    ⟨(State.reset.setFld R.HOST_STATUS_PCIE_UP 1), 0x0800000#27, [some 0xf7#8, some 0x09#8, some 0x06#8, some 0x01#8], 8, by decide +kernel⟩,
    ⟨((State.reset.setFld (R.BNK_STATUS_PWR_NOW 27) 2).setFld R.HOST_STATUS_PCIE_UP 1), 0x3c00001#27, [some 0xb7#8, some 0x76#8, none, some 0x80#8, some 0xfe#8, some 0x09#8, some 0x20#8, some 0xdc#8, some 0x10#8, some 0x0f#8, some 0xf1#8, some 0xcb#8], 27, by decide +kernel⟩,
    ⟨State.reset, by decide +kernel⟩⟩

/-- The hypotheses of the clauses of `Obligations.SerialFrames` are met, part 1. -/
theorem test_hyps_SerialFrames_1 :
  let serves (s : State) (d : BitVec 7) (p : Nat) : Prop := if p = 1 then s.spiNative = true else s.i2cServes d = true
  let reads (d : BitVec 7) (a : BitVec 32) (n : Fin 256) : List (Instr × Nat) := [(.spiRead 3 a n, 1), (.i2cReadFrame d a n, 2)]
  let writes (d : BitVec 7) (a : BitVec 32) (n : Fin 256) (w : List (BitVec 32)) : List (Instr × Nat) :=
    [(.spiWrite a n w, 1), (.i2cWriteFrame d 2 a n w, 2)]
  let calm (s : State) (d : BitVec 7) (p : Nat) : Prop := serves s d p ∧ s.pwr.phase = 0 ∧ s.pwr.wakeDue = false ∧ s.pathWaits p = false
  let bad (a : BitVec 32) (n : Fin 256) : Prop := n = 0 ∨ a.toNat % 4 ≠ 0
  let inBank (a : BitVec 32) (n b : Nat) : Prop := 8 ≤ b ∧ b ≤ 27 ∧ bankBase b ≤ a.toNat ∧ a.toNat + 4 * n ≤ bankBase b + bankSize b
  (∃ s : State, s.spiNative = false) ∧
  (∃ s : State, s.spiCompat = false) ∧
  (∃ (s : State) (d : BitVec 7) (a : BitVec 32) (n : Fin 256) (w : List (BitVec 32)) (x : Instr × Nat), bad a n ∧ x ∈ reads d a n ++ writes d a n w ∧ serves s d x.2) ∧
  (∃ (s : State) (op : BitVec 8), s.spiNative = true ∧ op ∉ [2, 3, 5]) ∧
  (∃ (s : State) (d : BitVec 7) (op : BitVec 8), s.i2cServes d = true ∧ op ∉ [2, 3, 5]) ∧
  (∃ op : BitVec 8, op ∈ [3, 5]) ∧
  (∃ (s : State) (d : BitVec 7) (a : BitVec 32) (n : Fin 256) (b : Nat) (x : Instr × Nat), ¬ bad a n ∧ inBank a n b ∧ s.bankOpen b = true ∧ s.bank.ecc = [] ∧ x ∈ reads d a n ∧ calm s d x.2) ∧
  (∃ (s : State) (d : BitVec 7) (a : BitVec 32) (n : Fin 256) (w : List (BitVec 32)) (b : Nat) (x : Instr × Nat), ¬ bad a n ∧ inBank a n b ∧ s.bankOpen b = true ∧ s.bank.ecc = [] ∧ x ∈ writes d a n w ∧ calm s d x.2 ∧ s.pathWr x.2 = true) := by
  dsimp only
  exact ⟨⟨(State.reset.setFld R.HOST_CFG_SPI_SET 1), by decide +kernel⟩,
    ⟨State.reset, by decide +kernel⟩,
    ⟨State.reset, 0x58#7, 0x03dffffc#32, 0, [], (Instr.i2cWriteFrame 0x58#7 0x02#8 0x03dffffc#32 0 [], 2), by decide +kernel⟩,
    ⟨State.reset, 0x00#8, by decide +kernel⟩,
    ⟨State.reset, 0x58#7, 0x06#8, by decide +kernel⟩,
    ⟨0x05#8, by decide +kernel⟩,
    ⟨State.reset, 0x58#7, 0x00c00000#32, 2, 12, (Instr.spiRead 0x03#8 0x00c00000#32 2, 1), by decide +kernel⟩,
    ⟨State.reset, 0x33#7, 0x00800004#32, 3, [], 8, (Instr.spiWrite 0x00800004#32 3 [], 1), by decide +kernel⟩⟩

/-- The hypotheses of the clauses of `Obligations.SerialFrames` are met, part 2. -/
theorem test_hyps_SerialFrames_2 :
  let serves (s : State) (d : BitVec 7) (p : Nat) : Prop := if p = 1 then s.spiNative = true else s.i2cServes d = true
  let reads (d : BitVec 7) (a : BitVec 32) (n : Fin 256) : List (Instr × Nat) := [(.spiRead 3 a n, 1), (.i2cReadFrame d a n, 2)]
  let writes (d : BitVec 7) (a : BitVec 32) (n : Fin 256) (w : List (BitVec 32)) : List (Instr × Nat) :=
    [(.spiWrite a n w, 1), (.i2cWriteFrame d 2 a n w, 2)]
  let calm (s : State) (d : BitVec 7) (p : Nat) : Prop := serves s d p ∧ s.pwr.phase = 0 ∧ s.pwr.wakeDue = false ∧ s.pathWaits p = false
  let bad (a : BitVec 32) (n : Fin 256) : Prop := n = 0 ∨ a.toNat % 4 ≠ 0
  let mail (a : BitVec 32) (n : Nat) : Prop := ∀ i ∈ List.range n, isMailbox (a.toNat + 4 * i) = true
  let done (s : State) (p : Nat) : Prop := ∀ f ∈ (s.frame p).toList, f.left = 0
  let compat (s : State) : Prop := s.spiCompat = true ∧ s.pwr.phase = 0 ∧ s.pwr.wakeDue = false ∧ s.pathWaits 1 = false
  (∃ (s : State) (d : BitVec 7) (a : BitVec 32) (n : Fin 256) (x : Instr × Nat), ¬ bad a n ∧ mail a n ∧ x ∈ reads d a n ∧ calm s d x.2) ∧
  (∃ (s : State) (d : BitVec 7) (a : BitVec 32) (n : Fin 256) (w : List (BitVec 32)) (x : Instr × Nat), ¬ bad a n ∧ mail a n ∧ x ∈ writes d a n w ∧ calm s d x.2 ∧ s.pathWr x.2 = true) ∧
  (∃ s : State, ¬ done s 2) ∧
  (∃ (s : State) (x : Instr × _) (f : _), x ∈ [(Instr.spiCsRise, 1), (.i2cStop, 2)] ∧ (if x.2 = 1 then s.spiNative else s.pathServes 2) = true ∧ f ∈ (s.frame x.2).toList ∧ f.write = false) ∧
  (∃ (s : State) (x : Instr × _), x ∈ [(Instr.spiCsRise, 1), (.i2cStop, 2)] ∧ (∀ f ∈ (s.frame x.2).toList, f.write = true)) ∧
  (∃ (s : State) (i : BitVec 15) (n : Nat), s.spiCompat = true ∧ s.pwr.wakeDue = false ∧ n ≠ 0 ∧ (∀ k ∈ List.range n, compatReg ((i.toNat + k) % 2 ^ 15) = none)) ∧
  (∃ (s : State) (i : BitVec 15) (l : List Nat), s.spiCompat = true ∧ s.pwr.wakeDue = false ∧ (compatReg i.toNat).isSome = true ∧ 0 ∈ l) ∧
  (∃ s : State, compat s) := by
  dsimp only
  exact ⟨⟨State.reset, 0x58#7, 0x05030000#32, 6, (Instr.i2cReadFrame 0x58#7 0x05030000#32 6, 2), by decide +kernel⟩,
    ⟨State.reset, 0x58#7, 0x05030000#32, 6, [0x0506fffc#32, 0x00c00000#32], (Instr.i2cWriteFrame 0x58#7 0x02#8 0x05030000#32 6 [0x0506fffc#32, 0x00c00000#32], 2), by decide +kernel⟩,
    ⟨{ State.reset with host := { HostIf.init with frames := [(2, some { no := 3, write := false, addr := 8388608, count := 4, data := [7], fail := none, left := 3 })] } }, by decide +kernel⟩,
    ⟨{ State.reset with host := { HostIf.init with frames := [(1, some { no := 5, write := false, addr := 8388608, count := 2, data := [7], fail := some (1, 4), left := 0 })] } }, (Instr.spiCsRise, 1), { no := 5, write := false, addr := 8388608, count := 2, data := [7], fail := some (1, 4), left := 0 }, by decide +kernel⟩,
    ⟨State.reset, (Instr.spiCsRise, 1), by decide +kernel⟩,
    ⟨(State.reset.setFld R.HOST_CFG_SPI_SET 1), 0x0003#15, 3, by decide +kernel⟩,
    ⟨(State.reset.setFld R.HOST_CFG_SPI_SET 1), 0x0002#15, [0, 3], by decide +kernel⟩,
    ⟨(State.reset.setFld R.HOST_CFG_SPI_SET 1), by decide +kernel⟩⟩

/-- The hypotheses of the clauses of `Obligations.SerialFrames` are met, part 3. -/
theorem test_hyps_SerialFrames_3 :
  let compat (s : State) : Prop := s.spiCompat = true ∧ s.pwr.phase = 0 ∧ s.pwr.wakeDue = false ∧ s.pathWaits 1 = false
  (∃ s : State, compat s ∧ s.pathWr 1 = true) ∧
  (∃ s : State, s.spiCompat = true) ∧
  (∃ (s : State) (i : BitVec 15), s.spiCompat = true ∧ compatReg i.toNat = none) := by
  dsimp only
  exact ⟨⟨(State.reset.setFld R.HOST_CFG_SPI_SET 1), by decide +kernel⟩,
    ⟨(State.reset.setFld R.HOST_CFG_SPI_SET 1), by decide +kernel⟩,
    ⟨(State.reset.setFld R.HOST_CFG_SPI_SET 1), 0x7ffe#15, by decide +kernel⟩⟩

/-- The hypotheses of the clauses of `Obligations.JtagCommands` are met, part 1. -/
theorem test_hyps_JtagCommands_1 :
  let calm (s : State) : Prop := s.pwr.resetLow = false ∧ s.pathServes 3 = true ∧ s.pwr.phase = 0 ∧ s.pwr.wakeDue = false ∧ s.pathWaits 3 = false
  (∃ (s : State) (a : BitVec 32) (d : BitVec 32), s.pwr.resetLow = true ∧ a = 0x05000014 ∧ d.toNat % 2 = 1) ∧
  (∃ (s : State) (a : BitVec 32) (d : BitVec 32) (w : Bool), s.pwr.resetLow = true ∧ (a ≠ 0x05000014 ∨ d.toNat % 2 = 0 ∨ w = false)) ∧
  (∃ s : State, s.pwr.resetLow = false ∧ s.fld R.HOST_CFG_DBG_EN = 0) ∧
  (∃ (s : State) (a : BitVec 32), calm s ∧ a.toNat % 4 ≠ 0) ∧
  (∃ (s : State) (a : BitVec 32), calm s ∧ a.toNat % 4 = 0 ∧ mapped a.toNat = false) ∧
  (∃ (s : State) (a : BitVec 32), calm s ∧ a.toNat % 4 = 0 ∧ s.bank.ecc = [] ∧ (bankOf a.toNat).any s.bankOpen = true) ∧
  (∃ (s : State) (a : BitVec 32), calm s ∧ s.pathWr 3 = true ∧ a.toNat % 4 = 0 ∧ s.bank.ecc = [] ∧ (bankOf a.toNat).any (fun b => s.bankOpen b && decide (8 ≤ b) && decide (b ≤ 27)) = true) ∧
  (∃ (s : State) (a : BitVec 32), calm s ∧ s.pathWr 3 = true ∧ a.toNat % 4 = 0 ∧ isMailbox a.toNat = true) := by
  dsimp only
  exact ⟨⟨{ State.reset with pwr := { Power.init with resetLow := true } }, 0x05000014#32, 0xffffffff#32, by decide +kernel⟩,
    ⟨{ State.reset with pwr := { Power.init with resetLow := true } }, 0x03dffffc#32, 0x03dffffc#32, true, by decide +kernel⟩,
    ⟨(State.reset.setFld R.HOST_CFG_DBG_EN 0), by decide +kernel⟩,
    ⟨State.reset, 0xffffffff#32, by decide +kernel⟩,
    ⟨State.reset, 0xfe001234#32, by decide +kernel⟩,
    ⟨State.reset, 0x008ffffc#32, by decide +kernel⟩,
    ⟨State.reset, 0x00c00000#32, by decide +kernel⟩,
    ⟨State.reset, 0x0506fffc#32, by decide +kernel⟩⟩

/-- The hypotheses of the clauses of `Obligations.JtagCommands` are met, part 2. -/
theorem test_hyps_JtagCommands_2 :
  let serves (s : State) : Prop := s.dbgServes = true
  let steps (s : State) (e : Fin 8) (t : Fin 4) : Prop := serves s ∧ s.engState e = 0 ∧ s.bankOpen e = true ∧ s.flights e = [] ∧
    (s.thread e t).trapDue = false ∧ (s.thread e t).v1 = false
  (∃ s : State, ¬ serves s) ∧
  (∃ (s : State) (e : Fin 8), serves s ∧ s.engState e ≠ 0 ∧ s.engState e ≠ 3) ∧
  (∃ (s : State) (e : Fin 8) (sel : BitVec 8), serves s ∧ (s.engState e = 0 ∨ s.engState e = 3) ∧ sel.toNat < 92) ∧
  (∃ (s : State) (e : Fin 8) (sel : BitVec 8), serves s ∧ (s.engState e = 0 ∨ s.engState e = 3) ∧ 92 ≤ sel.toNat) ∧
  (∃ (s : State) (e : Fin 8), serves s ∧ s.engState e ≠ 0) ∧
  (∃ (s : State) (e : Fin 8) (sel : BitVec 8), serves s ∧ s.engState e = 0 ∧ 2 ≤ sel.toNat ∧ sel.toNat < 92) ∧
  (∃ (s : State) (e : Fin 8) (sel : BitVec 8), serves s ∧ s.engState e = 0 ∧ (sel.toNat < 2 ∨ 92 ≤ sel.toNat)) ∧
  (∃ (s : State) (e : Fin 8) (t : Fin 4) (rd : Fin 32) (ra : Fin 32) (rb : Fin 32), steps s e t ∧ s.bytes (bankBase e + s.pc e t) 4 = 2 ^ 21 * rd + 2 ^ 16 * ra + 2 ^ 11 * rb) := by
  dsimp only
  exact ⟨⟨(State.reset.setFld R.HOST_CFG_DBG_EN 0), by decide +kernel⟩,
    ⟨State.reset, 0, by decide +kernel⟩,
    ⟨(State.reset.setFld (R.ENG_STATE_STATE 1) 0), 1, 0x4c#8, by decide +kernel⟩,
    ⟨(State.reset.setFld (R.ENG_STATE_STATE 1) 0), 1, 0x5e#8, by decide +kernel⟩,
    ⟨State.reset, 0, by decide +kernel⟩,
    ⟨(State.reset.setFld (R.ENG_STATE_STATE 1) 0), 1, 0x4c#8, by decide +kernel⟩,
    ⟨(State.reset.setFld (R.ENG_STATE_STATE 0) 0), 0, 0x01#8, by decide +kernel⟩,
    ⟨(State.reset.setFld (R.ENG_STATE_STATE 0) 0), 0, 1, 0, 0, 0, by decide +kernel⟩⟩

/-- The hypotheses of the clauses of `Obligations.JtagCommands` are met, part 3. -/
theorem test_hyps_JtagCommands_3 :
  let serves (s : State) : Prop := s.dbgServes = true
  let steps (s : State) (e : Fin 8) (t : Fin 4) : Prop := serves s ∧ s.engState e = 0 ∧ s.bankOpen e = true ∧ s.flights e = [] ∧
    (s.thread e t).trapDue = false ∧ (s.thread e t).v1 = false
  (∃ (s : State) (e : Fin 8) (t : Fin 4) (rd : Fin 32) (ra : Fin 32) (imm : BitVec 16), steps s e t ∧ s.bytes (bankBase e + s.pc e t) 4 = 2 ^ 26 + 2 ^ 21 * rd + 2 ^ 16 * ra + imm.toNat) ∧
  (∃ (s : State) (e : Fin 8), serves s ∧ s.engState e = 0 ∧ s.bankOpen e = false) := by
  dsimp only
  exact ⟨⟨{ ((State.reset.setFld (R.ENG_STATE_STATE 1) 0).setFld (R.ENG_THR_STATE_W0_PC 1 0) 262140) with mem := [(524284, 0x05#8), (524287, 0x04#8)] }, 1, 0, 0, 0, 0x0005#16, by decide +kernel⟩,
    ⟨((State.reset.setFld (R.ENG_STATE_STATE 0) 0).setFld (R.BNK_STATUS_PWR_NOW 0) 2), 0, by decide +kernel⟩⟩

/-- The hypotheses of the clauses of `Obligations.StepRunsTheFront` are met. -/
theorem test_hyps_StepRunsTheFront :
  (∃ s : State, s.pending = []) := by
  exact ⟨State.reset, by decide +kernel⟩

end Sys2Proof.Machine
end

/-! SUPPORT. The ticks of the time base (02 R42, R45, R51): the order within a tick, what each part does when nothing is due, and
that the increments of ticks add up with the fraction carried. -/
namespace Sys2Proof.Machine

/-! ### What a tick consists of (R45) -/

theorem State.settleWake_of_not_due {s : State} (h : s.pwr.wakeDue = false) : s.settleWake = s := by
  simp [State.settleWake, h]

theorem State.restoreTick_of_none {s : State} (h : s.tb.restore = none) : s.restoreTick = s := by
  simp [State.restoreTick, h]

/-- A TB_TICK of a powered part with no wake due runs its ticks. -/
theorem does_tbTick_of_ticks {s : State} {n : Nat} {P : State → Prop} (hp : s.powered = true) (hw : s.pwr.wakeDue = false)
    (h : P (s.ticks n)) : Does (.tbTick n) s P := by
  refine ⟨s.ticks n, ?_, h⟩
  change s.live (s.settleWake.ticks n) = .next (s.ticks n)
  rw [State.settleWake_of_not_due hw, State.live_next _ hp]

theorem State.ticks_one {s : State} (hr : s.tb.running = true) (hn : s.tb.restore = none) : s.ticks 1 = s.tick1 := by
  simp [State.ticks, hr, State.restoreTick_of_none hn]

/-- More than one tick: the increments of all but the last, the step and the leap check after them, and the last tick. -/
theorem State.ticks_succ {s : State} {m : Nat} (hr : s.tb.running = true) (hn : s.tb.restore = none) (hm : m ≠ 0) :
    s.ticks (m + 1) = ((s.advance m).leapCheck.stepDue).leapCheck.tick1 := by
  simp [State.ticks, hr, State.restoreTick_of_none hn, hm]

/-! ### The leap check (R51) -/

theorem State.leapCheck_of_not_armed {s : State} (h : s.fld R.TB_STATUS_LEAP_ARMED = 0) : s.leapCheck = s := by
  simp [State.leapCheck, State.flag, h]

/-- The state after the leap has been applied. -/
def State.leapApplied (s : State) : State :=
  (((s.setFld R.TB_UTC_OFFSET_OFFSET (ofSigned 16 (toSigned 16 (s.fld R.TB_UTC_OFFSET_OFFSET) + s.tb.leapDelta))).clr
    R.TB_STATUS_LEAP_ARMED).raise R.TB_STATUS_LEAP_DONE).clr R.TB_STATUS_LEAP_ACTIVE

/-- An armed leap whose second has come is applied. -/
theorem State.leapCheck_of_reached {s : State} (h : s.fld R.TB_STATUS_LEAP_ARMED = 1) (ht : s.tb.leapAt ≤ s.hubSec) :
    s.leapCheck = s.leapApplied := by
  simp [State.leapCheck, State.leapApplied, State.flag, h, ht]

theorem ofSigned_lt (w : Nat) (v : Int) : ofSigned w v < 2 ^ w := by
  unfold ofSigned
  have hpos : (0 : Int) < 2 ^ w := by positivity
  have hlt := Int.emod_lt_of_pos v hpos
  have hnn := Int.emod_nonneg v hpos.ne'
  zify
  omega

/-- TB_UTC_OFFSET takes DELTA in its 16 bits. -/
theorem State.leapApplied_offset (s : State) : s.leapApplied.fld R.TB_UTC_OFFSET_OFFSET =
    ofSigned 16 (toSigned 16 (s.fld R.TB_UTC_OFFSET_OFFSET) + s.tb.leapDelta) := by
  have hlt := ofSigned_lt 16 (toSigned 16 (s.fld R.TB_UTC_OFFSET_OFFSET) + s.tb.leapDelta)
  simp only [State.leapApplied, State.clr_eq, State.raise_eq]
  rw [State.fld_setFld_ne _ _ (by decide), State.fld_setFld_ne _ _ (by decide), State.fld_setFld_ne _ _ (by decide),
    State.fld_setFld_same]
  exact Nat.mod_eq_of_lt hlt

theorem State.leapApplied_armed (s : State) : s.leapApplied.fld R.TB_STATUS_LEAP_ARMED = 0 := by
  simp only [State.leapApplied, State.clr_eq, State.raise_eq]
  rw [State.fld_setFld_ne _ _ (by decide), State.fld_setFld_ne _ _ (by decide), State.fld_setFld_same, Nat.zero_mod]

theorem State.leapApplied_done (s : State) : s.leapApplied.fld R.TB_STATUS_LEAP_DONE = 1 := by
  simp only [State.leapApplied, State.clr_eq, State.raise_eq]
  rw [State.fld_setFld_ne _ _ (by decide), State.fld_setFld_same]
  rfl

theorem State.leapApplied_active (s : State) : s.leapApplied.fld R.TB_STATUS_LEAP_ACTIVE = 0 := by
  simp only [State.leapApplied, State.clr_eq, State.fld_setFld_same, Nat.zero_mod]

theorem State.leapApplied_onlyFields (s : State) : OnlyFields s s.leapApplied
    [R.TB_UTC_OFFSET_OFFSET, R.TB_STATUS_LEAP_ARMED, R.TB_STATUS_LEAP_DONE, R.TB_STATUS_LEAP_ACTIVE] := by
  refine ⟨rfl, fun f hf => ?_⟩
  simp only [List.forall_mem_cons] at hf
  obtain ⟨hOffset, hArmed, hDone, hActive, -⟩ := hf
  simp only [State.leapApplied, State.clr_eq, State.raise_eq]
  rw [State.fld_setFld_ne _ _ hActive, State.fld_setFld_ne _ _ hDone, State.fld_setFld_ne _ _ hArmed,
    State.fld_setFld_ne _ _ hOffset]

/-- Settles O2: the tick is the increment, the step and the leap check, and the check finds the leap armed and its second come. -/
theorem leapAppliedInTheTick : Obligations.LeapAppliedInTheTick := by
  intro s hp hr hw hn harmed hreached
  refine does_tbTick_of_ticks hp hw ?_
  have htick : s.ticks 1 = ((s.advance 1).stepDue).leapApplied :=
    (State.ticks_one hr hn).trans (State.leapCheck_of_reached harmed hreached)
  rw [htick]
  exact ⟨State.leapApplied_offset _, State.leapApplied_armed _, State.leapApplied_done _, State.leapApplied_active _, rfl,
    State.leapCheck_of_not_armed (State.leapApplied_armed _), State.leapApplied_onlyFields _⟩

/-! ### Increments on PLL A or its stand-in (R42) -/

theorem State.increments_of_den_zero {s : State} (n : Nat) (hc : s.clkSrc ≠ 2) (hd : s.fld R.TB_INC_FRAC_DEN = 0) :
    s.increments n = (n * s.fld R.TB_INC_INT_INT, s.tb.frac, s.tb.byp) := by
  simp [State.increments, hc, hd]

theorem State.increments_of_den_ne_zero {s : State} (n : Nat) (hc : s.clkSrc ≠ 2) (hd : s.fld R.TB_INC_FRAC_DEN ≠ 0) :
    s.increments n =
      (n * s.fld R.TB_INC_INT_INT + (s.tb.frac + n * s.fld R.TB_INC_FRAC_NUM) / s.fld R.TB_INC_FRAC_DEN,
        (s.tb.frac + n * s.fld R.TB_INC_FRAC_NUM) % s.fld R.TB_INC_FRAC_DEN, s.tb.byp) := by
  simp [State.increments, hc, hd]

/-- A time base that has moved on by `d` fu, with the accumulator of the fraction at `frac`, under steering by `base`. -/
def TimeBase.moved (tb : TimeBase) (d frac : Nat) (base : Int) : TimeBase :=
  { tb with now := tb.now + d, elapsed := tb.elapsed + d, frac := frac, steer := tb.steer + d * base }

/-- Hub time runs on PLL A or its stand-in, and no slew, PRESS, acquisition step or armed leap adds to it. -/
structure State.Undisturbed (s : State) : Prop where
  slew : s.seam.slew = none
  press : s.seam.press = none
  acq : s.seam.acq = none
  armed : s.fld R.TB_STATUS_LEAP_ARMED = 0
  pll : s.clkSrc ≠ 2

theorem State.Undisturbed.withTb {s : State} (h : s.Undisturbed) (tb : TimeBase) : ({ s with tb := tb } : State).Undisturbed :=
  ⟨h.slew, h.press, h.acq, h.armed, h.pll⟩

/-- The accumulator of the bypass source waits meanwhile. -/
theorem State.increments_byp {s : State} (n : Nat) (hc : s.clkSrc ≠ 2) : (s.increments n).2.2 = s.tb.byp := by
  by_cases hd : s.fld R.TB_INC_FRAC_DEN = 0
  · rw [State.increments_of_den_zero n hc hd]
  · rw [State.increments_of_den_ne_zero n hc hd]

theorem State.Undisturbed.advance_eq {s : State} (h : s.Undisturbed) (n : Nat) :
    s.advance n = { s with tb := s.tb.moved (s.increments n).1 (s.increments n).2.1 s.steerBase } := by
  simp [State.advance, State.slewAdvance, h.slew, State.increments_byp n h.pll, TimeBase.moved]

theorem State.Undisturbed.advance {s : State} (h : s.Undisturbed) (n : Nat) : (s.advance n).Undisturbed := by
  rw [h.advance_eq]
  exact h.withTb _

theorem State.Undisturbed.stepDue_eq {s : State} (h : s.Undisturbed) : s.stepDue = s := by
  simp [State.stepDue, State.dueAcquisition, State.dueStep, h.acq, h.press]

theorem State.Undisturbed.leapCheck_eq {s : State} (h : s.Undisturbed) : s.leapCheck = s := State.leapCheck_of_not_armed h.armed

theorem State.Undisturbed.tick1_eq {s : State} (h : s.Undisturbed) : s.tick1 = s.advance 1 := by
  rw [State.tick1, (h.advance 1).stepDue_eq, (h.advance 1).leapCheck_eq]

/-- The whole units in `a` and in what its remainder makes with `b` are those of `a + b`. -/
theorem div_add_mod_add_div (a b d : Nat) : a / d + (a % d + b) / d = (a + b) / d := by
  rcases Nat.eq_zero_or_pos d with rfl | hd
  · simp
  · have hsplit : a + b = d * (a / d) + (a % d + b) := by rw [← Nat.add_assoc, Nat.div_add_mod]
    rw [hsplit, Nat.mul_add_div hd]

/-- The fraction that `m` increments leave goes into the next `n`: together they are `m + n` increments. -/
theorem State.increments_add {s t : State} {m : Nat} (n : Nat) (hc : s.clkSrc ≠ 2) (hregs : t.regs = s.regs)
    (hfrac : t.tb.frac = (s.increments m).2.1) :
    (s.increments m).1 + (t.increments n).1 = (s.increments (m + n)).1 ∧
      (t.increments n).2.1 = (s.increments (m + n)).2.1 := by
  have hfld := State.fld_congr hregs
  have hct : t.clkSrc ≠ 2 := by rwa [State.clkSrc, hfld]
  by_cases hd : s.fld R.TB_INC_FRAC_DEN = 0
  · rw [State.increments_of_den_zero m hc hd] at hfrac
    rw [State.increments_of_den_zero m hc hd, State.increments_of_den_zero (m + n) hc hd,
      State.increments_of_den_zero n hct ((hfld _).trans hd), hfld]
    exact ⟨(Nat.add_mul m n _).symm, hfrac⟩
  · rw [State.increments_of_den_ne_zero m hc hd] at hfrac
    rw [State.increments_of_den_ne_zero m hc hd, State.increments_of_den_ne_zero (m + n) hc hd,
      State.increments_of_den_ne_zero n hct (by rwa [hfld]), hfrac]
    simp only [hfld, Nat.add_mul m n, ← Nat.add_assoc s.tb.frac]
    refine ⟨?_, Nat.mod_add_mod _ _ _⟩
    rw [← div_add_mod_add_div (s.tb.frac + m * _)]
    ring

theorem TimeBase.moved_moved (tb : TimeBase) (d e frac frac' : Nat) (base : Int) :
    (tb.moved d frac base).moved e frac' base = tb.moved (d + e) frac' base := by
  simp only [TimeBase.moved, Nat.add_assoc, Nat.cast_add, Int.add_mul, Int.add_assoc]

/-- Two runs of increments are one (R42). -/
theorem State.Undisturbed.advance_add {s : State} (h : s.Undisturbed) (m n : Nat) :
    (s.advance m).advance n = s.advance (m + n) := by
  have hs := h.advance_eq m
  obtain ⟨hd, hfrac⟩ := State.increments_add (s := s) (t := s.advance m) n h.pll (by rw [hs]) (by rw [hs]; rfl)
  have hbase : (s.advance m).steerBase = s.steerBase := by rw [hs]; rfl
  rw [(h.advance m).advance_eq n, hfrac, hbase, h.advance_eq (m + n), ← hd, ← TimeBase.moved_moved, hs]

/-- While nothing else is due, `n` ticks are `n` increments. -/
theorem State.Undisturbed.ticks_eq {s : State} (h : s.Undisturbed) (hr : s.tb.running = true) (hn : s.tb.restore = none)
    {n : Nat} (h1 : 1 ≤ n) : s.ticks n = s.advance n := by
  obtain ⟨m, rfl⟩ : ∃ m, n = m + 1 := ⟨n - 1, by omega⟩
  by_cases hm : m = 0
  · subst hm
    rw [State.ticks_one hr hn, h.tick1_eq]
  · have hu := h.advance m
    rw [State.ticks_succ hr hn hm, hu.leapCheck_eq, hu.stepDue_eq, hu.leapCheck_eq, hu.tick1_eq, h.advance_add]

/-- A TB_TICK of an undisturbed time base moves it on by its increments, and changes nothing else. -/
theorem State.Undisturbed.does_tbTick {s : State} (h : s.Undisturbed) {n : Nat} {P : State → Prop} (hp : s.powered = true)
    (hr : s.tb.running = true) (h1 : 1 ≤ n) (hw : s.pwr.wakeDue = false) (hn : s.tb.restore = none)
    (hP : P { s with tb := s.tb.moved (s.increments n).1 (s.increments n).2.1 s.steerBase }) : Does (.tbTick n) s P :=
  does_tbTick_of_ticks hp hw (by rwa [h.ticks_eq hr hn h1, h.advance_eq])

/-- Elapsed time grows as hub time does. -/
theorem TimeBase.moved_elapsed (tb : TimeBase) (d frac : Nat) (base : Int) :
    (tb.moved d frac base).elapsed + tb.now = (tb.moved d frac base).now + tb.elapsed := by
  simp only [TimeBase.moved]
  omega

/-- Settles O1: the ticks are one run of increments, whose whole fu and remainder make up the count exactly. -/
theorem timeBaseTick : Obligations.TimeBaseTick := by
  refine ⟨fun s n hp hr h1 hw hn hslew hpress hacq harmed hc hd => ?_,
    fun s n hp hr h1 hw hn hslew hpress hacq harmed hc hd => ?_⟩
  · refine State.Undisturbed.does_tbTick ⟨hslew, hpress, hacq, harmed, hc⟩ hp hr h1 hw hn ?_
    rw [State.increments_of_den_ne_zero n hc hd]
    refine ⟨?_, Nat.mod_lt _ (Nat.pos_of_ne_zero hd), TimeBase.moved_elapsed _ _ _ _, rfl⟩
    have hsplit := Nat.div_add_mod (s.tb.frac + n * s.fld R.TB_INC_FRAC_NUM) (s.fld R.TB_INC_FRAC_DEN)
    simp only [TimeBase.moved]
    linarith
  · refine State.Undisturbed.does_tbTick ⟨hslew, hpress, hacq, harmed, hc⟩ hp hr h1 hw hn ?_
    rw [State.increments_of_den_zero n hc hd]
    exact ⟨rfl, rfl, TimeBase.moved_elapsed _ _ _ _, rfl⟩

end Sys2Proof.Machine

/-! SUPPORT. The issue slot of a thread (10 R274, R277, 11 R306): when an instruction gets it and what the instruction then leaves
alone; and the integer instructions (11 R311, R312). -/
namespace Sys2Proof.Machine

/-! ### The issue slot (R274, R277) -/

/-- The state in which an instruction acts: the round robin of the engine has served its thread. -/
def State.turnTaken (s : State) (e t : Nat) : State :=
  { s with eng := { s.eng with lastThr := Tab.set (fun _ => 3) s.eng.lastThr e t } }

theorem State.issue_of_mayIssue {s : State} {e t : Nat} (act : State → State) (hm : s.mayIssue e t = true)
    (ht : (s.thread e t).trapDue = false) : s.issue e t act = act (s.turnTaken e t) := by
  have hdue : ((s.turnTaken e t).thread e t).trapDue = false := ht
  rw [State.issue, if_pos hm]
  change (if ((s.turnTaken e t).thread e t).trapDue then _ else act (s.turnTaken e t)) = _
  rw [hdue]
  rfl

/-- A command that issues an instruction does what the instruction does in the slot of its thread. -/
theorem does_of_issue {c : Instr} {s : State} {e t : Nat} {act : State → State} {P : State → Prop}
    (hc : exec c s = .next (s.issue e t act)) (hm : s.mayIssue e t = true) (ht : (s.thread e t).trapDue = false)
    (hP : P (act (s.turnTaken e t))) : Does c s P :=
  ⟨_, hc, by rwa [State.issue_of_mayIssue act hm ht]⟩

/-- An instruction none of whose registers is pending does not stall. -/
theorem State.withRegs_of_free {s : State} {e t : Nat} {uses : List Dest} (act : State → State)
    (h : ∀ d ∈ uses, s.regPending e t d = false) : s.withRegs e t uses act = act s := by
  have hany : uses.any (fun d => s.regPending e t d) = false := by simpa using h
  rw [State.withRegs, hany]
  rfl

/-- The same in the slot of the thread: the round robin is not part of the scoreboard. -/
theorem State.withRegs_turnTaken {s : State} {e t : Nat} {uses : List Dest} (act : State → State)
    (h : ∀ d ∈ uses, s.regPending e t d = false) :
    (s.turnTaken e t).withRegs e t uses act = act (s.turnTaken e t) :=
  State.withRegs_of_free act h

/-! ### What an instruction that is no operation can change (R275, R306) -/

/-- The thread stands at `pc`; no other thread, no other register field and nothing outside the thread but the round robin changed. -/
def State.OnlyThread (s : State) (e : Fin 8) (t : Fin 4) (pc : Nat) (u : State) : Prop :=
  u.pc e t = pc ∧
  (∀ (e' : Fin 8) (t' : Fin 4), (e' ≠ e ∨ t' ≠ t) → u.thread e' t' = s.thread e' t') ∧
  FieldsKept s u [R.ENG_THR_STATE_W0_PC e t] ∧
  u = { s with regs := u.regs, eng := { s.eng with thr := u.eng.thr, lastThr := u.eng.lastThr } }

/-- The same, and the thread itself is `x`. -/
def State.Resumes (s : State) (e : Fin 8) (t : Fin 4) (x : Thread) (pc : Nat) (u : State) : Prop :=
  u.thread e t = x ∧ s.OnlyThread e t pc u

section
variable {s u : State} {e : Fin 8} {t : Fin 4} {x : Thread} {pc : Nat}

theorem State.resumes_turnTaken : s.Resumes e t (s.thread e t) (s.pc e t) (s.turnTaken e t) :=
  ⟨rfl, rfl, fun _ _ _ => rfl, fun _ _ => rfl, rfl⟩

theorem State.Resumes.pc_eq (h : s.Resumes e t x pc u) : u.pc e t = pc := by
  obtain ⟨-, hpc, -⟩ := h
  exact hpc

theorem threadIndex_ne {e' : Fin 8} {t' : Fin 4} (h : e' ≠ e ∨ t' ≠ t) : 4 * e'.val + t'.val ≠ 4 * e.val + t.val := by
  rcases h with h | h <;> have := Fin.val_ne_of_ne h <;> omega

theorem State.Resumes.setThread (h : s.Resumes e t x pc u) (y : Thread) : s.Resumes e t y pc (u.setThread e t y) := by
  obtain ⟨-, hpc, hothers, hfields, hframe⟩ := h
  refine ⟨State.thread_setThread_same u e t y, hpc, fun e' t' hne => ?_, hfields, ?_⟩
  · rw [State.thread_setThread_ne u y (threadIndex_ne hne), hothers e' t' hne]
  · rw [hframe]
    rfl

theorem State.Resumes.setPc (h : s.Resumes e t x pc u) (v : Nat) :
    s.Resumes e t x (v / 4 * 4 % 2 ^ 18) (u.setPc e t v) := by
  obtain ⟨hthread, -, hothers, hfields, hframe⟩ := h
  refine ⟨hthread, State.fld_setFld_same u _ _, hothers, fun f hf => ?_, ?_⟩
  · exact (State.fld_setFld_ne u _ (hf _ (List.mem_singleton_self _))).trans (hfields f hf)
  · rw [hframe]
    rfl

/-- A pc that is cut to a multiple of 4 below 2^18 is held in full. -/
theorem State.Resumes.setPc_lt (h : s.Resumes e t x pc u) {v : Nat} (hv : v < 2 ^ 18) :
    s.Resumes e t x (v / 4 * 4) (u.setPc e t v) := by
  have hmod : v / 4 * 4 % 2 ^ 18 = v / 4 * 4 := Nat.mod_eq_of_lt (by omega)
  exact hmod ▸ h.setPc v

theorem State.Resumes.setPc_aligned (h : s.Resumes e t x pc u) {v : Nat} (hv : v < 2 ^ 18) (h4 : v % 4 = 0) :
    s.Resumes e t x v (u.setPc e t v) := by
  have hpc := h.setPc_lt hv
  rwa [show v / 4 * 4 = v by omega] at hpc

theorem nextPc_lt (pc : Nat) : nextPc pc < 2 ^ 18 := Nat.mod_lt _ (by decide)

/-- An instruction that retires leaves its thread with its new registers at the next word. -/
theorem State.resumes_retireIns (s : State) (e : Fin 8) (t : Fin 4) (x : Thread) :
    s.Resumes e t x ((s.pc e t + 4) % 2 ^ 18 / 4 * 4) ((s.turnTaken e t).retireIns e t x) :=
  (State.resumes_turnTaken.setThread x).setPc_lt (nextPc_lt _)

/-- An instruction that only retires: when no register it uses is pending, its thread has its new registers and moves on. -/
theorem does_retireIns {c : Instr} {act : State → State} {uses : List Dest} {P : State → Prop} (hm : s.mayIssue e t = true)
    (ht : (s.thread e t).trapDue = false) (hfree : ∀ d ∈ uses, s.regPending e t d = false)
    (hc : exec c s = .next (s.issue e t act))
    (hact : act (s.turnTaken e t) = (s.turnTaken e t).withRegs e t uses (fun u => u.retireIns e t x))
    (hP : ∀ u, s.Resumes e t x ((s.pc e t + 4) % 2 ^ 18 / 4 * 4) u → P u) : Does c s P := by
  refine does_of_issue hc hm ht ?_
  rw [hact, State.withRegs_turnTaken _ hfree]
  exact hP _ (s.resumes_retireIns e t x)

end

/-! ### Integer instructions (R311, R312) -/

/-- rd holds the value, g0 discards it (R275); the thread moves on and nothing else changes. -/
def State.WroteReg (s : State) (e : Fin 8) (t : Fin 4) (rd : Fin 32) (v : BitVec 64) (u : State) : Prop :=
  (∀ n : Fin 32, (u.thread e t).gpr n = if n.val = (s.thread e t).no rd ∧ n.val ≠ 0 then v else (s.thread e t).gpr n) ∧
  u.thread e t = { s.thread e t with g := (u.thread e t).g } ∧ s.OnlyThread e t ((s.pc e t + 4) % 2 ^ 18 / 4 * 4) u

/-- A write of a general register changes the general registers only. -/
theorem Thread.setGpr_frame (x : Thread) (n : Nat) (v : BitVec 64) : x.setGpr n v = { x with g := (x.setGpr n v).g } := by
  by_cases hn : n = 0 <;> simp [Thread.setGpr, hn]

section
variable {s : State} {e : Fin 8} {t : Fin 4} {rd ra rb : Fin 32} {c : Instr} {v : BitVec 64}

theorem State.Resumes.wroteReg {u : State}
    (h : s.Resumes e t ((s.thread e t).wr rd v) ((s.pc e t + 4) % 2 ^ 18 / 4 * 4) u) : s.WroteReg e t rd v u := by
  obtain ⟨hthread, hrest⟩ := h
  refine ⟨fun n => ?_, ?_, hrest⟩
  · rw [hthread, Thread.wr, Thread.gpr_setGpr]
    exact if_congr (and_congr_right fun hn => by rw [hn]) rfl rfl
  · rw [hthread]
    exact Thread.setGpr_frame _ _ _

/-- A row of major 0x00 writes its function of rd, ra and rb. -/
theorem does_aluRow {fn : Nat} {f : BitVec 64 → BitVec 64 → BitVec 64 → BitVec 64}
    (hm : s.mayIssue e t = true) (ht : (s.thread e t).trapDue = false)
    (hfree : ∀ d ∈ [(s.thread e t).dest rd, (s.thread e t).dest ra, (s.thread e t).dest rb], s.regPending e t d = false)
    (hc : exec c s = .next (s.issue e t (fun s => s.aluRow e t fn rd ra rb))) (hf : aluFn fn = some f)
    (hv : f ((s.thread e t).rd rd) ((s.thread e t).rd ra) ((s.thread e t).rd rb) = v) : Does c s (s.WroteReg e t rd v) := by
  subst hv
  refine does_retireIns hm ht hfree hc ?_ fun u => State.Resumes.wroteReg
  rw [State.aluRow, hf]
  rfl

/-- An RRI row writes its function of ra. -/
theorem does_immRow {major : Nat} {imm : BitVec 16} {f : BitVec 64 → BitVec 64}
    (hm : s.mayIssue e t = true) (ht : (s.thread e t).trapDue = false)
    (hfree : ∀ d ∈ [(s.thread e t).dest rd, (s.thread e t).dest ra], s.regPending e t d = false)
    (hc : exec c s = .next (s.issue e t (fun s => s.immRow e t major rd ra imm))) (hf : aluImm major imm = some f)
    (hv : f ((s.thread e t).rd ra) = v) : Does c s (s.WroteReg e t rd v) := by
  subst hv
  refine does_retireIns hm ht hfree hc ?_ fun u => State.Resumes.wroteReg
  rw [State.immRow, hf]
  rfl

end

/-- The product of the sign-extended values is the signed product in 128 bits. -/
theorem mul_signExtend_eq_ofInt (a b : BitVec 64) :
    a.signExtend 128 * b.signExtend 128 = BitVec.ofInt 128 (a.toInt * b.toInt) :=
  (BitVec.ofInt_mul ..).symm

/-- MULH is the upper half of the 128-bit product. -/
theorem mulh_eq (a b : BitVec 64) : mulh a b = ((a.signExtend 128 * b.signExtend 128) >>> 64).setWidth 64 := by
  rw [mul_signExtend_eq_ofInt, mulh]
  apply BitVec.eq_of_toNat_eq
  simp only [BitVec.toNat_ofInt, BitVec.toNat_setWidth, BitVec.toNat_ushiftRight, Nat.shiftRight_eq_div_pow]
  generalize a.toInt * b.toInt = p
  omega

/-- Settles O24: every row is its function of the three registers, written as the instruction retires. The model writes two of them
in another form: MULH is the upper half of the product, and SEL tests rd for zero. -/
theorem integerInstructions : Obligations.IntegerInstructions := by
  unfold Obligations.IntegerInstructions
  intro runs free bool wrote s e t rd ra rb ⟨hm, ht⟩ hrd hra hrb a b n
  have hfree : ∀ d ∈ [(s.thread e t).dest rd, (s.thread e t).dest ra, (s.thread e t).dest rb],
      s.regPending e t d = false := by
    simpa using ⟨hrd, hra, hrb⟩
  have row {c fn f v} := does_aluRow (c := c) (fn := fn) (f := f) (v := v) hm ht hfree
  simp only [List.forall_mem_cons]
  exact ⟨row rfl rfl rfl, row rfl rfl rfl, row rfl rfl rfl, row rfl rfl (mulh_eq a b), row rfl rfl rfl, row rfl rfl rfl,
    row rfl rfl rfl, row rfl rfl rfl, row rfl rfl rfl, row rfl rfl rfl, row rfl rfl rfl, row rfl rfl rfl, row rfl rfl rfl,
    row rfl rfl rfl, row rfl rfl rfl, row rfl rfl rfl, row rfl rfl (ite_not ..).symm, List.forall_mem_nil _⟩

/-- Settles O25: every row is its function of ra and the extended immediate; a shift count of six bits is its own low six bits. -/
theorem immediateInstructions : Obligations.ImmediateInstructions := by
  unfold Obligations.ImmediateInstructions
  intro runs free bool wrote s e t rd ra imm n ⟨hm, ht⟩ hrd hra a i u
  have hfree : ∀ d ∈ [(s.thread e t).dest rd, (s.thread e t).dest ra], s.regPending e t d = false := by
    simpa using ⟨hrd, hra⟩
  have hcount : (n.setWidth 16).toNat % 64 = n.toNat := by
    have hn := n.isLt
    rw [BitVec.toNat_setWidth]
    omega
  have row {c major imm f v} := does_immRow (c := c) (major := major) (imm := imm) (f := f) (v := v) hm ht hfree
  simp only [List.forall_mem_cons]
  exact ⟨row rfl rfl rfl, row rfl rfl rfl, row rfl rfl rfl, row rfl rfl rfl, row rfl rfl (congrArg (a <<< ·) hcount),
    row rfl rfl (congrArg (a >>> ·) hcount), row rfl rfl (congrArg a.sshiftRight hcount), row rfl rfl rfl, row rfl rfl rfl,
    row rfl rfl rfl, row rfl rfl rfl, row rfl rfl rfl, row rfl rfl rfl, List.forall_mem_nil _⟩

end Sys2Proof.Machine

/-! SUPPORT. Branches (11 R317, R318, R339): where pc goes, and what the link and the exception of RET change. -/
namespace Sys2Proof.Machine

section
variable {s u : State} {e : Fin 8} {t : Fin 4} {x : Thread} {pc : Nat} {c : Instr}

theorem target_lt (pc : Nat) (imm : BitVec 21) : target pc imm < 2 ^ 18 := by
  unfold target
  omega

/-- The target of an aligned instruction is aligned. -/
theorem target_aligned {pc : Nat} (imm : BitVec 21) (h : pc % 4 = 0) : target pc imm % 4 = 0 := by
  unfold target
  omega

theorem nextPc_aligned {pc : Nat} (h : pc % 4 = 0) : nextPc pc % 4 = 0 := by
  unfold nextPc
  omega

theorem State.Resumes.jump (h : s.Resumes e t x pc u) (h4 : pc % 4 = 0) (imm : BitVec 21) :
    s.Resumes e t x (target pc imm) (u.jump e t imm) := by
  obtain rfl : u.pc e t = pc := h.pc_eq
  exact h.setPc_aligned (target_lt _ imm) (target_aligned imm h4)

theorem State.Resumes.stepPc (h : s.Resumes e t x pc u) (h4 : pc % 4 = 0) :
    s.Resumes e t x (nextPc pc) (u.stepPc e t) := by
  obtain rfl : u.pc e t = pc := h.pc_eq
  exact h.setPc_aligned (nextPc_lt _) (nextPc_aligned h4)

/-- A branch with its condition by number: it goes to its target when the condition holds of rs, else to the next word. -/
theorem does_branch {k : Nat} {rs : Fin 32} {imm : BitVec 21} {taken : Bool} (hm : s.mayIssue e t = true)
    (ht : (s.thread e t).trapDue = false) (h4 : s.pc e t % 4 = 0)
    (hfree : ∀ d ∈ [(s.thread e t).dest rs], s.regPending e t d = false)
    (hc : exec c s = .next (s.issue e t (fun s => s.branch e t k rs imm)))
    (htaken : branchTakes k ((s.thread e t).rd rs) = taken) :
    Does c s (s.Resumes e t (s.thread e t) (if taken then target (s.pc e t) imm else nextPc (s.pc e t))) := by
  refine does_of_issue hc hm ht ?_
  have hbranch : (s.turnTaken e t).branch e t k rs imm =
      if taken then (s.turnTaken e t).jump e t imm else (s.turnTaken e t).stepPc e t := by
    subst htaken
    exact State.withRegs_turnTaken
      (fun u => if branchTakes k ((s.thread e t).rd rs) then u.jump e t imm else u.stepPc e t) hfree
  rw [hbranch]
  cases taken with
  | true => exact State.resumes_turnTaken.jump h4 imm
  | false => exact State.resumes_turnTaken.stepPc h4

/-- CALL writes the next address to the link register and branches. -/
theorem does_call {imm : BitVec 21} {link : Nat} (hm : s.mayIssue e t = true) (ht : (s.thread e t).trapDue = false)
    (h4 : s.pc e t % 4 = 0) (hlink : (if (s.thread e t).v1 then 15 else 31) = link)
    (hfree : s.regPending e t (.g link) = false) :
    Does (.call e t imm) s (s.Resumes e t ((s.thread e t).setGpr link (BitVec.ofNat 64 (nextPc (s.pc e t))))
      (target (s.pc e t) imm)) := by
  refine does_of_issue rfl hm ht ?_
  have hcall : (s.turnTaken e t).call e t imm = ((s.turnTaken e t).setThread e t
      ((s.thread e t).setGpr link (BitVec.ofNat 64 (nextPc (s.pc e t))))).jump e t imm := by
    subst hlink
    exact State.withRegs_turnTaken (fun u => (u.setThread e t ((s.thread e t).setGpr (if (s.thread e t).v1 then 15 else 31)
      (BitVec.ofNat 64 (nextPc (u.pc e t))))).jump e t imm) (List.forall_mem_singleton.2 hfree)
  rw [hcall]
  exact (State.resumes_turnTaken.setThread _).jump h4 imm

/-- RET goes to ra[17:0] cut to a multiple of 4, and records MISALIGN when that cuts something. -/
theorem does_ret {ra : Fin 32} {v : Nat} (hm : s.mayIssue e t = true) (ht : (s.thread e t).trapDue = false)
    (hv : ((s.thread e t).rd ra).toNat = v)
    (hfree : ∀ d ∈ [(s.thread e t).dest ra], s.regPending e t d = false) :
    Does (.ret e t ra) s (s.Resumes e t
      (if v % 4 = 0 then s.thread e t else { s.thread e t with fs := (s.thread e t).fs.record 3 }) (v % 2 ^ 18 / 4 * 4)) := by
  refine does_of_issue rfl hm ht ?_
  have hret : (s.turnTaken e t).ret e t ra =
      (if v % 4 = 0 then s.turnTaken e t else (s.turnTaken e t).recordExc e t 3).setPc e t (v % 2 ^ 18) := by
    subst hv
    exact State.withRegs_turnTaken (fun u => (if ((s.thread e t).rd ra).toNat % 4 = 0 then u else u.recordExc e t 3).setPc e t
      (((s.thread e t).rd ra).toNat % 2 ^ 18)) hfree
  rw [hret]
  refine State.Resumes.setPc_lt (pc := s.pc e t) ?_ (Nat.mod_lt _ (by decide))
  split
  · exact State.resumes_turnTaken
  · exact State.resumes_turnTaken.setThread _

end

/-- BGE's condition is the negation of BLT's. -/
theorem branchTakes_bge (v : BitVec 64) : branchTakes 3 v = !v.slt 0 :=
  (decide_eq_decide.2 not_lt.symm).trans (decide_not ..)

/-- Settles O26: a branch moves pc alone, CALL also writes its link, RET may also record MISALIGN; the addresses are aligned
because the instruction is. -/
theorem branchInstructions : Obligations.BranchInstructions := by
  unfold Obligations.BranchInstructions
  intro runs free dst went next
  refine ⟨fun s e t imm ⟨hm, ht, h4⟩ => ⟨does_of_issue rfl hm ht (State.resumes_turnTaken.jump h4 imm),
      does_of_issue rfl hm ht ((State.resumes_turnTaken.jump h4 imm).setThread _)⟩,
    fun s e t rs imm ⟨hm, ht, h4⟩ hrs => ?_,
    fun s e t imm ⟨hm, ht, h4⟩ hlink => does_call hm ht h4 rfl hlink,
    fun s e t ra ⟨hm, ht, h4⟩ hra => does_ret hm ht rfl (List.forall_mem_singleton.2 hra)⟩
  have row {c k taken} :=
    does_branch (c := c) (k := k) (imm := imm) (taken := taken) hm ht h4 (List.forall_mem_singleton.2 hrs)
  simp only [List.forall_mem_cons]
  exact ⟨row rfl rfl, row rfl rfl, row rfl rfl, row rfl (branchTakes_bge _), List.forall_mem_nil _⟩

end Sys2Proof.Machine

/-! SUPPORT. Time values (00 R7, R8, 11 R319, R321, R322): a total of fu and its normal form, and the time instructions. -/
namespace Sys2Proof.Machine

/-! ### Hub time and its normal form (R7, R319) -/

/-- The total of fu by the fields: seconds, nanoseconds, fraction. -/
theorem decodeHub_eq (v : Nat) : decodeHub v = (v / 2 ^ 48 * 1000000000 + v / 2 ^ 16 % 2 ^ 32) * 65536 + v % 2 ^ 16 := by
  unfold decodeHub fuPerSec
  omega

theorem encodeHub_lt (fu : Nat) : encodeHub fu < 2 ^ 96 := by
  unfold encodeHub fuPerSec
  omega

/-- The fraction, nanoseconds and seconds fields of an encoded total. -/
theorem encodeHub_fields (fu : Nat) : encodeHub fu % 2 ^ 16 = fu % 65536 ∧
    encodeHub fu / 2 ^ 16 % 2 ^ 32 = fu % fuPerSec / 65536 ∧ encodeHub fu / 2 ^ 48 = fu / fuPerSec % 2 ^ 48 := by
  unfold encodeHub fuPerSec
  omega

/-- An encoded total is normal. -/
theorem encodeHub_normal (fu : Nat) : encodeHub fu / 2 ^ 16 % 2 ^ 32 ≤ 999999999 := by
  rw [(encodeHub_fields fu).2.1]
  unfold fuPerSec
  omega

/-- Totals below the range of the seconds field survive encoding. -/
theorem decodeHub_encodeHub {fu : Nat} (h : fu < 2 ^ 48 * fuPerSec) : decodeHub (encodeHub fu) = fu := by
  obtain ⟨hfrac, hns, hsec⟩ := encodeHub_fields fu
  rw [decodeHub, hfrac, hns, hsec]
  unfold fuPerSec at *
  omega

theorem timeOf_toNat (z : Int) : (timeOf z).toNat = encodeHub (z % ((2 ^ 48 * fuPerSec : Nat) : Int)).toNat := by
  rw [timeOf, BitVec.toNat_ofNat, Nat.mod_eq_of_lt (encodeHub_lt _)]

theorem timeOf_normal (z : Int) : (timeOf z).toNat / 2 ^ 16 % 2 ^ 32 ≤ 999999999 := by
  rw [timeOf_toNat]
  exact encodeHub_normal _

/-- The seconds field of a value made from a total wraps (R321). -/
theorem decodeHub_timeOf (z : Int) :
    (decodeHub (timeOf z).toNat : Int) = z % ((2 ^ 48 * fuPerSec : Nat) : Int) := by
  have hlo : 0 ≤ z % ((2 ^ 48 * fuPerSec : Nat) : Int) := Int.emod_nonneg z (by decide)
  have hhi : z % ((2 ^ 48 * fuPerSec : Nat) : Int) < ((2 ^ 48 * fuPerSec : Nat) : Int) := Int.emod_lt_of_pos z (by decide)
  rw [timeOf_toNat, decodeHub_encodeHub (by omega), Int.toNat_of_nonneg hlo]

/-- A difference of totals is held within the limits of R321. -/
theorem clamp63_eq (d : Int) :
    clamp63 d = if 2 ^ 63 ≤ d then 2 ^ 63 - 1 else if d ≤ -2 ^ 63 then -(2 ^ 63 - 1) else d := by
  unfold clamp63
  split_ifs <;> omega

/-- The order of two totals as the sign of their difference. -/
theorem ofInt_order (a b : Nat) : BitVec.ofInt 64 (if a < b then -1 else if a = b then 0 else 1) =
    if (a : Int) - b < 0 then -1 else if (a : Int) - b = 0 then 0 else 1 := by
  rcases lt_trichotomy a b with h | h | h
  · rw [if_pos h, if_pos (by omega)]
    rfl
  · rw [if_neg (by omega), if_pos h, if_neg (by omega), if_pos (by omega)]
    rfl
  · rw [if_neg (by omega), if_neg (by omega), if_neg (by omega), if_neg (by omega)]
    rfl

/-! The fields of the normal form as TCVT gives them (R322). -/

theorem tcvtOf_eq (k : Nat) (v : BitVec 96) : tcvtOf k v =
    if k = 0 then timeFu v / fuPerSec else if k = 1 then timeFu v % fuPerSec / 65536
    else if k = 2 then timeFu v % 65536 else timeFu v % fuPerSec := by
  match k with
  | 0 => rfl
  | 1 => rfl
  | 2 => rfl
  | _ + 3 => rfl

theorem tcvtOf_sec (v : BitVec 96) : tcvtOf 0 v = timeFu v / 65536 / 1000000000 := by
  rw [tcvtOf_eq, if_pos rfl, Nat.div_div_eq_div_mul]
  rfl

theorem tcvtOf_ns (v : BitVec 96) : tcvtOf 1 v = timeFu v / 65536 % 1000000000 := by
  rw [tcvtOf_eq, if_neg (by decide), if_pos rfl, ← Nat.mod_mul_right_div_self]
  rfl

theorem tcvtOf_frac (v : BitVec 96) : tcvtOf 2 v = timeFu v % 65536 := by simp [tcvtOf_eq]

theorem tcvtOf_fu (v : BitVec 96) : tcvtOf 3 v = timeFu v % (65536 * 1000000000) := by simp [tcvtOf_eq, fuPerSec]

/-! ### The instructions -/

section
variable {s u : State} {e : Fin 8} {t : Fin 4} {x : Thread} {pc : Nat} {c : Instr}

/-- In the Velmos-2 decode a field names the register of its number (R308). -/
theorem Thread.wr_of_velmos2 (h : x.v1 = false) (rd : Nat) (v : BitVec 64) : x.wr rd v = x.setGpr rd v := by
  simp [Thread.wr, Thread.no, h]

/-- td holds a value with the property; no other time register and no other part of the thread changed. -/
theorem State.Resumes.wroteTime {td : Fin 8} {v : BitVec 96} (h : s.Resumes e t ((s.thread e t).setTreg td v) pc u)
    {p : BitVec 96 → Prop} (hv : p v) :
    p ((u.thread e t).treg td) ∧ (∀ k : Fin 8, k ≠ td → (u.thread e t).treg k = (s.thread e t).treg k) ∧
      u.thread e t = { s.thread e t with t := (u.thread e t).t } := by
  obtain ⟨hthread, -⟩ := h
  rw [hthread]
  refine ⟨?_, fun k hk => ?_, rfl⟩
  · rwa [Thread.treg_setTreg, if_pos rfl]
  · rw [Thread.treg_setTreg, if_neg (Fin.val_ne_of_ne hk)]

/-! In the Velmos-2 decode each instruction is a row that only retires. -/

theorem State.tadd_of_velmos2 {e t td ta rb : Nat} (h : (s.thread e t).v1 = false) :
    s.tadd e t td ta rb = s.withRegs e t [.t td, .t ta, (s.thread e t).dest rb] (fun u => u.retireIns e t
      ((s.thread e t).setTreg td (timeOf ((timeFu ((s.thread e t).treg ta) : Int) + ((s.thread e t).rd rb).toInt)))) := by
  simp [State.tadd, h]

theorem State.tsub_of_velmos2 {e t rd ta tb : Nat} (h : (s.thread e t).v1 = false) :
    s.tsub e t rd ta tb = s.withRegs e t [(s.thread e t).dest rd, .t ta, .t tb] (fun u => u.retireIns e t
      ((s.thread e t).setGpr rd
        (BitVec.ofInt 64 (clamp63 ((timeFu ((s.thread e t).treg ta) : Int) - timeFu ((s.thread e t).treg tb)))))) := by
  simp [State.tsub, Thread.wr_of_velmos2 h, h]

theorem State.tcmp_of_velmos2 {e t rd ta tb : Nat} (h : (s.thread e t).v1 = false) :
    s.tcmp e t rd ta tb = s.withRegs e t [(s.thread e t).dest rd, .t ta, .t tb] (fun u => u.retireIns e t
      ((s.thread e t).setGpr rd (BitVec.ofInt 64
        (if timeFu ((s.thread e t).treg ta) < timeFu ((s.thread e t).treg tb) then -1
        else if timeFu ((s.thread e t).treg ta) = timeFu ((s.thread e t).treg tb) then 0 else 1)))) := by
  simp only [State.tcmp, Thread.wr_of_velmos2 h]

theorem State.tcvt_of_velmos2 {e t k rd ta : Nat} (h : (s.thread e t).v1 = false) :
    s.tcvt e t k rd ta = s.withRegs e t [(s.thread e t).dest rd, .t ta] (fun u => u.retireIns e t
      ((s.thread e t).setGpr rd (BitVec.ofNat 64 (tcvtOf k ((s.thread e t).treg ta))))) := by
  simp [State.tcvt, Thread.wr_of_velmos2 h, h]

theorem State.tcvtMk_of_velmos2 {e t td ra rb : Nat} (h : (s.thread e t).v1 = false) :
    s.tcvtMk e t td ra rb = s.withRegs e t [.t td, (s.thread e t).dest ra, (s.thread e t).dest rb] (fun u => u.retireIns e t
      ((s.thread e t).setTreg td (timeOf
        (((s.thread e t).rd ra).toNat % 2 ^ 48 * fuPerSec + ((s.thread e t).rd rb).toNat : Nat)))) := by
  simp [State.tcvtMk, State.unlessV1, h]

/-- A TCVT form other than MK and MOV writes its field of ta. -/
theorem does_tcvt {k n : Nat} {rd : Fin 32} {ta : Fin 8} (hm : s.mayIssue e t = true) (ht : (s.thread e t).trapDue = false)
    (hv1 : (s.thread e t).v1 = false) (hfree : ∀ d ∈ [(s.thread e t).dest rd, .t ta], s.regPending e t d = false)
    (hc : exec c s = .next (s.issue e t (fun s => s.tcvt e t k rd ta))) (hn : tcvtOf k ((s.thread e t).treg ta) = n) :
    Does c s (s.Resumes e t ((s.thread e t).setGpr rd (BitVec.ofNat 64 n)) ((s.pc e t + 4) % 2 ^ 18 / 4 * 4)) := by
  subst hn
  refine does_retireIns hm ht hfree hc ?_ fun u => id
  exact State.tcvt_of_velmos2 hv1

end

/-- Settles O27: the totals of fu are exact in the normal form, and each instruction only retires with its value. -/
theorem timeInstructions : Obligations.TimeInstructions := by
  unfold Obligations.TimeInstructions
  intro runs free day fu norm normal others wroteG wroteT
  have hday : day = 2 ^ 48 * fuPerSec := by decide
  have hfu (v : BitVec 96) : fu v = decodeHub v.toNat := (decodeHub_eq v.toNat).symm
  have hnorm (v : BitVec 96) : norm v = timeFu v := by
    change fu v % day = _
    rw [hfu, hday, timeFu]
  have hwrote {s : State} {e t td v p u}
      (h : s.Resumes e t ((s.thread e t).setTreg td.val v) ((s.pc e t + 4) % 2 ^ 18 / 4 * 4) u) (hp : p v) :
      wroteT s e t td p u := by
    obtain ⟨htd, hkept, hthread⟩ := h.wroteTime hp
    exact ⟨htd, hkept, hthread, h.2⟩
  -- From here `wroteT` is known by `hwrote` alone.
  clear_value wroteT
  refine ⟨?_, ?_, ?_, ?_, ?_⟩
  · intro s e t td ta rb ⟨hm, ht, hv1⟩ hfree
    refine does_retireIns hm ht hfree rfl (State.tadd_of_velmos2 hv1) fun u h => hwrote h ⟨timeOf_normal _, ?_⟩
    rw [hfu, hnorm, hday, decodeHub_timeOf]
    rfl
  · intro s e t rd ta tb ⟨hm, ht, hv1⟩ hfree d
    have hd : d = (timeFu ((s.thread e t).treg ta) : Int) - timeFu ((s.thread e t).treg tb) := by
      rw [← hnorm, ← hnorm]
    refine ⟨?_, ?_⟩
    · rw [← clamp63_eq, hd]
      exact does_retireIns hm ht hfree rfl (State.tsub_of_velmos2 hv1) fun u => id
    · rw [hd, ← ofInt_order]
      exact does_retireIns hm ht hfree rfl (State.tcmp_of_velmos2 hv1) fun u => id
  · intro s e t rd ta ⟨hm, ht, hv1⟩ hfree n
    have hn : n = timeFu ((s.thread e t).treg ta) := hnorm _
    clear_value n
    subst hn
    have row {c k n} := does_tcvt (c := c) (k := k) (n := n) hm ht hv1 hfree
    simp only [List.forall_mem_cons]
    exact ⟨row rfl (tcvtOf_sec _), row rfl (tcvtOf_ns _), row rfl (tcvtOf_frac _), row rfl (tcvtOf_fu _),
      List.forall_mem_nil _⟩
  · intro s e t td ra rb ⟨hm, ht, hv1⟩ hfree
    refine does_retireIns hm ht hfree rfl (State.tcvtMk_of_velmos2 hv1) fun u h => hwrote h ⟨timeOf_normal _, ?_⟩
    rw [hfu, hday, Nat.mul_assoc _ 1000000000 65536, ← Int.natCast_inj, decodeHub_timeOf]
    rfl
  · intro s e t td ta ⟨hm, ht, _⟩ hfree
    exact does_retireIns hm ht hfree rfl rfl fun u h => hwrote h rfl

end Sys2Proof.Machine

/-! SUPPORT. Which operations leave memory alone, and that the others keep its canonical form (log 5): the layer that MemoryForm and
every clause about unchanged bytes rest on. -/
namespace Sys2Proof.Machine

/-- What the bytes of a state depend on: the listed bytes, and the regions whose unlisted bytes are undefined. -/
def State.memory (s : State) : List Host.Cell × Tab Nat := (s.mem, s.bank.lost)

/-- The canonical form of memory (log 5), said of the part of the state that it depends on. -/
def MemoryOk (m : List Host.Cell × Tab Nat) : Prop := Memory.wf m.2 m.1 = true

theorem State.memOk_iff (s : State) : s.memOk ↔ MemoryOk s.memory := Iff.rfl

@[simp] theorem State.memory_eta (s : State) : (s.mem, s.bank.lost) = s.memory := by rw [State.memory]

@[simp] theorem State.memory_mk (p : List Instr) (r : Tab Nat) (m : List Host.Cell) (tb : TimeBase) (tsv : Tservo) (c : Tab Cand)
    (sm : Seam) (sy : Synth) (o : Outs) (td : TdcArray) (l : Tab Link) (e : Engines) (mb : Mailbox) (h : HostIf) (b : Banks)
    (st : Stores) (pw : Power) (ep : Eps) (k : Nat) :
    State.memory ⟨p, r, m, tb, tsv, c, sm, sy, o, td, l, e, mb, h, b, st, pw, ep, k⟩ = (m, b.lost) := by rw [State.memory]

theorem Quiet.memory {s t : State} (h : Quiet s t) : t.memory = s.memory := by rw [State.memory, h.mem, h.bank]; rfl

theorem memKept_of_memory {s t : State} (h : t.memory = s.memory) : MemKept s t := by
  rw [State.memory, State.memory, Prod.mk.injEq] at h
  exact State.memKept_of_eq h.1 h.2

/-! ### Branches and folds -/

@[simp] theorem State.memory_ite {c : Prop} [Decidable c] (t u : State) :
    (if c then t else u).memory = if c then t.memory else u.memory := apply_ite State.memory c t u

@[simp] theorem State.memory_ite_fst {α : Type} {c : Prop} [Decidable c] (t u : State × α) :
    (if c then t else u).1.memory = if c then t.1.memory else u.1.memory := apply_ite (fun p => State.memory p.1) c t u

@[simp] theorem memory_foldl {β : Type} {f : State → β → State} (hf : ∀ s b, (f s b).memory = s.memory) (l : List β) (s : State) :
    (l.foldl f s).memory = s.memory := by
  induction l generalizing s with
  | nil => rfl
  | cons b r ih => rw [List.foldl_cons, ih, hf]

@[simp] theorem memoryOk_foldl {β : Type} {f : State → β → State} (hf : ∀ s b, MemoryOk s.memory → MemoryOk (f s b).memory)
    (l : List β) {s : State} (h : MemoryOk s.memory) : MemoryOk (l.foldl f s).memory := by
  induction l generalizing s with
  | nil => exact h
  | cons b r ih => exact ih (hf s b h)

@[simp] theorem memoryOk_ite {c : Prop} [Decidable c] (m n : List Host.Cell × Tab Nat) :
    MemoryOk (if c then m else n) ↔ if c then MemoryOk m else MemoryOk n := by split <;> rfl

theorem memoryOk_of_ite {c : Prop} [Decidable c] {t u : State} (ht : MemoryOk t.memory) (hu : MemoryOk u.memory) :
    MemoryOk (if c then t else u).memory := by split <;> assumption

theorem memoryOk_fst_of_ite {α : Type} {c : Prop} [Decidable c] {t u : State × α} (ht : MemoryOk t.1.memory)
    (hu : MemoryOk u.1.memory) : MemoryOk (if c then t else u).1.memory := by split <;> assumption

@[simp] theorem memory_foldr {β : Type} {f : β → State → State} (hf : ∀ b s, (f b s).memory = s.memory) (l : List β) (s : State) :
    (l.foldr f s).memory = s.memory := by
  induction l with
  | nil => rfl
  | cons b r ih => rw [List.foldr_cons, hf, ih]

@[simp] theorem memory_foldl_fst {α β : Type} {f : State × α → β → State × α} (hf : ∀ p b, (f p b).1.memory = p.1.memory)
    (l : List β) (p : State × α) : (l.foldl f p).1.memory = p.1.memory := by
  induction l generalizing p with
  | nil => rfl
  | cons b r ih => rw [List.foldl_cons, ih, hf]

@[simp] theorem memoryOk_foldl_fst {α β : Type} {f : State × α → β → State × α}
    (hf : ∀ p b, MemoryOk p.1.memory → MemoryOk (f p b).1.memory) (l : List β) {p : State × α} (h : MemoryOk p.1.memory) :
    MemoryOk (l.foldl f p).1.memory := by
  induction l generalizing p with
  | nil => exact h
  | cons b r ih => exact ih (hf p b h)

/-! ### The answers of operations carry the state of the access -/

@[simp] theorem opRead_fst (x : State × Nat × Bool) : (opRead x).1 = x.1 := rfl
@[simp] theorem opWrite_fst (x : State × Bool) : (opWrite x).1 = x.1 := rfl
@[simp] theorem opRing_fst (x : State × Nat × Nat) : (opRing x).1 = x.1 := rfl

/-! ### The operations on memory itself -/

@[simp] theorem State.setByte_memoryOk {s : State} (a : Nat) (v : BitVec 8) (h : MemoryOk s.memory) :
    MemoryOk (s.setByte a v).memory := State.memOk_setByte a v h

@[simp] theorem State.setBytes_memoryOk {s : State} (a n v : Nat) (h : MemoryOk s.memory) : MemoryOk (s.setBytes a n v).memory :=
  State.memOk_setBytes a n v h

@[simp] theorem State.zeroRegion_memoryOk {s : State} (r : Nat) (h : MemoryOk s.memory) : MemoryOk (s.zeroRegion r).memory :=
  State.memOk_zeroRegion r h

@[simp] theorem State.loseRegion_memoryOk {s : State} (r : Nat) (h : MemoryOk s.memory) : MemoryOk (s.loseRegion r).memory :=
  State.memOk_loseRegion r h

end Sys2Proof.Machine

/-! SUPPORT. What each operation of the model does to memory: it leaves every byte alone (`_memory`), or it keeps the canonical form of log 5
(`_memoryOk`). One lemma per operation, in the order of the definitions. -/
namespace Sys2Proof.Machine

/-! ### Machine/Ops.lean -/

@[simp] theorem State.setFld_memory (s : State) (f : Fld) (v : Nat) : (s.setFld f v).memory = s.memory := by simp [State.setFld]

@[simp] theorem State.raise_memory (s : State) (f : Fld) : (s.raise f).memory = s.memory := by simp [State.raise]

@[simp] theorem State.clr_memory (s : State) (f : Fld) : (s.clr f).memory = s.memory := by simp [State.clr]

@[simp] theorem State.bump_memory (s : State) (f : Fld) : (s.bump f).memory = s.memory := by simp [State.bump]

@[simp] theorem State.next_memory (s : State) (f : Fld) : (s.next f).memory = s.memory := by simp [State.next]

@[simp] theorem State.raiseIf_memory (s : State) (c : Bool) (f : Fld) : (s.raiseIf c f).memory = s.memory := by simp [State.raiseIf]

@[simp] theorem State.setPair_memory (s : State) (lo hi : Fld) (v : Nat) : (s.setPair lo hi v).memory = s.memory := by
  simp [State.setPair]

@[simp] theorem State.setInt64_memory (s : State) (lo hi : Fld) (v : Int) : (s.setInt64 lo hi v).memory = s.memory := by
  simp [State.setInt64]

@[simp] theorem State.setTriple_memory (s : State) (f0 f1 f2 : Fld) (v : Nat) : (s.setTriple f0 f1 f2 v).memory = s.memory := by
  simp [State.setTriple]

@[simp] theorem State.setCand_memory (s : State) (n : Nat) (c : Cand) : (s.setCand n c).memory = s.memory := by simp [State.setCand]

@[simp] theorem State.setThread_memory (s : State) (e t : Nat) (x : Thread) : (s.setThread e t x).memory = s.memory := by
  simp [State.setThread]

@[simp] theorem State.setTstate_memory (s : State) (e t v : Nat) : (s.setTstate e t v).memory = s.memory := by
  simp [State.setTstate]

@[simp] theorem State.setPc_memory (s : State) (e t v : Nat) : (s.setPc e t v).memory = s.memory := by simp [State.setPc]

@[simp] theorem State.wakeThread_memory (s : State) (e t : Nat) : (s.wakeThread e t).memory = s.memory := by simp [State.wakeThread]

@[simp] theorem State.raiseEvent_memory (s : State) (e t k : Nat) : (s.raiseEvent e t k).memory = s.memory := by
  simp [State.raiseEvent]

@[simp] theorem State.raiseVector_memory (s : State) (v : Nat) : (s.raiseVector v).memory = s.memory := by
  simp only [State.raiseVector]
  repeat' split
  all_goals simp

@[simp] theorem State.faultLines_memory (s : State) : (s.faultLines).memory = s.memory := by simp [State.faultLines]

@[simp] theorem State.fenceOn_memory (s : State) (src : Nat) : (s.fenceOn src).memory = s.memory := by simp [State.fenceOn]

@[simp] theorem State.fenceOff_memory (s : State) (src : Nat) : (s.fenceOff src).memory = s.memory := by simp [State.fenceOff]

@[simp] theorem State.captureFirst_memory (s : State) (src cls cause : Nat) : (s.captureFirst src cls cause).memory = s.memory := by
  simp [State.captureFirst]

@[simp] theorem State.note_memory (s : State) (src : Nat) : (s.note src).memory = s.memory := by simp [State.note]

@[simp] theorem State.appendLog_memory (s : State) (src cls cause : Nat) : (s.appendLog src cls cause).memory = s.memory := by
  simp [State.appendLog]

@[simp] theorem State.collectorInt_memory (s : State) (f : Fld) : (s.collectorInt f).memory = s.memory := by
  simp [State.collectorInt]

@[simp] theorem State.routeFault_memory (s : State) (src : Nat) : (s.routeFault src).memory = s.memory := by simp [State.routeFault]

@[simp] theorem State.faultWake_memory (s : State) (cls : Nat) : (s.faultWake cls).memory = s.memory := by simp [State.faultWake]

@[simp] theorem State.record_memory (s : State) (src cls cause : Nat) : (s.record src cls cause).memory = s.memory := by
  unfold State.record
  repeat' split
  all_goals simp

/-! ### Machine/Mem.lean -/

@[simp] theorem State.setEcc_memory (s : State) (g v : Nat) : (s.setEcc g v).memory = s.memory := by simp [State.setEcc]

@[simp] theorem State.bankOff_memory (s : State) : (s.bankOff).memory = s.memory := by simp [State.bankOff]

@[simp] theorem State.gateOff_memory (s : State) (d : Nat) : (s.gateOff d).memory = s.memory := by simp [State.gateOff]

/-! ### Machine/BankCore.lean -/

@[simp] theorem State.setBusy_memory (s : State) (b k : Nat) : (s.setBusy b k).memory = s.memory := by simp [State.setBusy]

@[simp] theorem State.showBankFence_memory (s : State) (b : Nat) : (s.showBankFence b).memory = s.memory := by
  simp [State.showBankFence]

@[simp] theorem State.darnFinish_memory (s : State) (b code rows : Nat) : (s.darnFinish b code rows).memory = s.memory := by
  simp [State.darnFinish]

@[simp] theorem State.abortDarn_memoryOk (s : State) (b : Nat) (h : MemoryOk s.memory) :
    MemoryOk (s.abortDarn b).memory := by
  unfold State.abortDarn
  repeat' split
  all_goals simp [h]

@[simp] theorem State.fenceBank_memoryOk (s : State) (b : Nat) (h : MemoryOk s.memory) :
    MemoryOk (s.fenceBank b).memory := by simp [State.fenceBank, h]

/-! ### Machine/Esmc.lean -/

@[simp] theorem State.setLink_memory (s : State) (n : Nat) (l : Link) : (s.setLink n l).memory = s.memory := by simp [State.setLink]

@[simp] theorem State.esmcSend_memory (s : State) (n : Nat) (event : Bool) : (s.esmcSend n event).memory = s.memory := by
  simp [State.esmcSend]

@[simp] theorem State.announcePort_memory (s : State) (n : Nat) : (s.announcePort n).memory = s.memory := by
  simp [State.announcePort]

@[simp] theorem State.announce_memory (s : State) : (s.announce).memory = s.memory := by simp [State.announce]

/-! ### Machine/Servo.lean -/

@[simp] theorem State.setInteg_memory (s : State) (v : Int) : (s.setInteg v).memory = s.memory := by simp [State.setInteg]

@[simp] theorem State.showRotator_memory (s : State) (p : Nat) : (s.showRotator p).memory = s.memory := by simp [State.showRotator]

@[simp] theorem State.showSteer_memory (s : State) : (s.showSteer).memory = s.memory := by simp [State.showSteer]

@[simp] theorem State.servoInput_memory (s : State) (x : Int) (tau : Option Nat) : (s.servoInput x tau).memory = s.memory := by
  simp [State.servoInput]

@[simp] theorem State.enterStage_memory (s : State) (n : Nat) : (s.enterStage n).memory = s.memory := by simp [State.enterStage]

@[simp] theorem State.servoHold_memory (s : State) (value : Int) : (s.servoHold value).memory = s.memory := by
  simp [State.servoHold]

@[simp] theorem State.servoHoldValue_memory (s : State) (value : Int) : (s.servoHoldValue value).memory = s.memory := by
  simp [State.servoHoldValue]

@[simp] theorem State.servoRelease_memory (s : State) : (s.servoRelease).memory = s.memory := by simp [State.servoRelease]

@[simp] theorem State.moveBias_memory (s : State) : (s.moveBias).memory = s.memory := by simp [State.moveBias]

@[simp] theorem State.seamInput_memory (s : State) (e : Int) : (s.seamInput e).memory = s.memory := by
  unfold State.seamInput
  repeat' split
  all_goals simp

/-! ### Machine/SeamCore.lean -/

@[simp] theorem State.setBuildout_memory (s : State) (n : Nat) (v : Int) : (s.setBuildout n v).memory = s.memory := by
  simp [State.setBuildout]

@[simp] theorem State.setStandby_memory (s : State) (l : List Nat) : (s.setStandby l).memory = s.memory := by
  simp [State.setStandby]

@[simp] theorem State.dropShadows_memory (s : State) : (s.dropShadows).memory = s.memory := by simp [State.dropShadows]

@[simp] theorem State.revertCheck_memory (s : State) : (s.revertCheck).memory = s.memory := by
  unfold State.revertCheck
  repeat' split
  all_goals simp

@[simp] theorem State.trReport_memory (s : State) : (s.trReport).memory = s.memory := by
  unfold State.trReport
  repeat' split
  all_goals simp

@[simp] theorem State.reform_memory (s : State) : (s.reform).memory = s.memory := by simp [State.reform]

@[simp] theorem State.leaveLocked_memory (s : State) : (s.leaveLocked).memory = s.memory := by simp [State.leaveLocked]

@[simp] theorem State.toAcquiring_memory (s : State) : (s.toAcquiring).memory = s.memory := by simp [State.toAcquiring]

@[simp] theorem State.toLocked_memory (s : State) : (s.toLocked).memory = s.memory := by simp [State.toLocked]

@[simp] theorem State.showModel_memory (s : State) : (s.showModel).memory = s.memory := by simp [State.showModel]

@[simp] theorem State.pressBusy_memory (s : State) : (s.pressBusy).memory = s.memory := by simp [State.pressBusy]

@[simp] theorem State.enterHoldover_memory (s : State) : (s.enterHoldover).memory = s.memory := by
  simp only [State.enterHoldover]
  repeat' split
  all_goals simp

@[simp] theorem State.leaveHoldover_memory (s : State) : (s.leaveHoldover).memory = s.memory := by simp [State.leaveHoldover]

@[simp] theorem State.noteInput_memory (s : State) (e : Int) : (s.noteInput e).memory = s.memory := by simp [State.noteInput]

@[simp] theorem State.deliver_memory (s : State) (n : Nat) (r : Int) : (s.deliver n r).memory = s.memory := by simp [State.deliver]

@[simp] theorem State.retainInput_memory (s : State) (e : Int) : (s.retainInput e).memory = s.memory := by simp [State.retainInput]

@[simp] theorem State.startSeam_memory (s : State) (n : Nat) (eo : Int) : (s.startSeam n eo).memory = s.memory := by
  simp [State.startSeam]

@[simp] theorem State.fallBack_memory (s : State) : (s.fallBack).memory = s.memory := by
  simp only [State.fallBack]
  repeat' split
  all_goals simp

@[simp] theorem State.stopSlew_memory (s : State) : (s.stopSlew).memory = s.memory := by
  unfold State.stopSlew
  split <;> simp

@[simp] theorem State.startSlew_memory (s : State) (amt : Int) (auto : Bool) (by_ : Issuer) :
    (s.startSlew amt auto by_).memory = s.memory := by
  simp [State.startSlew]

@[simp] theorem State.pressFinish_memory (s : State) (code : Nat) : (s.pressFinish code).memory = s.memory := by
  simp [State.pressFinish]

@[simp] theorem State.resumeAuto_memory (s : State) : (s.resumeAuto).memory = s.memory := by simp [State.resumeAuto]

@[simp] theorem State.abortSlew_memory (s : State) : (s.abortSlew).memory = s.memory := by
  unfold State.abortSlew
  split <;> simp

@[simp] theorem State.dropAuto_memory (s : State) : (s.dropAuto).memory = s.memory := by simp [State.dropAuto]

@[simp] theorem State.prearm_memory (s : State) : (s.prearm).memory = s.memory := by simp [State.prearm]

@[simp] theorem State.disarm_memory (s : State) : (s.disarm).memory = s.memory := by simp [State.disarm]

@[simp] theorem State.autoSlew_memory (s : State) (b : Int) : (s.autoSlew b).memory = s.memory := by simp [State.autoSlew]

@[simp] theorem State.beginAcquisition_memory (s : State) (n : Nat) : (s.beginAcquisition n).memory = s.memory := by
  simp only [State.beginAcquisition]
  split <;> simp

@[simp] theorem State.completeSeam_memory (s : State) : s.completeSeam.memory = s.memory := by
  unfold State.completeSeam
  split
  · rfl
  · extract_lets n s₁ b _ s₂ s₃ s₄ s₅ s₆ s₇ s₈ s₉
    have h₁ : s₁.memory = s.memory := by
      unfold s₁
      split <;> simp
    have h₃ : s₃.memory = s.memory := by simp [s₃, s₂, h₁]
    have h₆ : s₆.memory = s.memory := by simp [s₆, s₅, s₄, h₃]
    have h₈ : s₈.memory = s.memory := by simp [s₈, s₇, h₆]
    have h₉ : s₉.memory = s.memory := by
      unfold s₉
      split <;> simp [h₈]
    simp [h₉]

@[simp] theorem State.candFailed_memory (s : State) (n : Nat) : (s.candFailed n).memory = s.memory := by simp [State.candFailed]

/-! ### Machine/TimeBase.lean -/

@[simp] theorem State.tbaseGuard_memory (s : State) (act : State → State) (hact : ∀ u, (act u).memory = u.memory) :
    (s.tbaseGuard act).memory = s.memory := by
  simp [State.tbaseGuard, hact]

@[simp] theorem State.servoGuard_memory (s : State) (act : State → State) (hact : ∀ u, (act u).memory = u.memory) :
    (s.servoGuard act).memory = s.memory := by
  simp [State.servoGuard, hact]

@[simp] theorem State.leapCheck_memory (s : State) : (s.leapCheck).memory = s.memory := by simp [State.leapCheck]

@[simp] theorem State.leapArm_memory (s : State) (delta : Nat) : (s.leapArm delta).memory = s.memory := by simp [State.leapArm]

@[simp] theorem State.leapCancel_memory (s : State) : (s.leapCancel).memory = s.memory := by simp [State.leapCancel]

@[simp] theorem State.writeLeapCtl_memory (s : State) (v : Nat) : (s.writeLeapCtl v).memory = s.memory := by
  simp [State.writeLeapCtl]

@[simp] theorem State.setUncBound_memory (s : State) (v : Nat) : (s.setUncBound v).memory = s.memory := by simp [State.setUncBound]

@[simp] theorem State.declareKnown_memory (s : State) : (s.declareKnown).memory = s.memory := by simp [State.declareKnown]

@[simp] theorem State.uncGrow_memory (s : State) : (s.uncGrow).memory = s.memory := by simp [State.uncGrow]

@[simp] theorem State.moveHub_memory (s : State) (amt : Int) : (s.moveHub amt).memory = s.memory := by simp [State.moveHub]

@[simp] theorem State.setStandoff_memory (s : State) (k : Nat) (v : Int) : (s.setStandoff k v).memory = s.memory := by
  simp [State.setStandoff]

@[simp] theorem State.setPulse_memory (s : State) (k : Nat) (p : Pulse) : (s.setPulse k p).memory = s.memory := by
  simp [State.setPulse]

@[simp] theorem State.alignOutputs_memory (s : State) (mask : Nat) : (s.alignOutputs mask).memory = s.memory := by
  simp [State.alignOutputs]

@[simp] theorem State.realign_memory (s : State) (k : Nat) (amt e : Int) : (s.realign k amt e).memory = s.memory := by
  simp [State.realign]

@[simp] theorem State.standoffStep1_memory (s : State) (amt : Int) (mask k : Nat) :
    (s.standoffStep1 amt mask k).memory = s.memory := by
  simp [State.standoffStep1]

@[simp] theorem State.standoffStep_memory (s : State) (amt : Int) (mask : Nat) : (s.standoffStep amt mask).memory = s.memory := by
  simp [State.standoffStep]

@[simp] theorem State.clearStepped_memory (s : State) (n : Nat) : (s.clearStepped n).memory = s.memory := by
  simp [State.clearStepped]

@[simp] theorem State.stepActions_memory (s : State) (amt : Int) (align : Bool) (mask : Nat) :
    (s.stepActions amt align mask).memory = s.memory := by
  simp [State.stepActions]

@[simp] theorem State.applyStep_memory (s : State) (p : Press) : (s.applyStep p).memory = s.memory := by
  simp only [State.applyStep]
  repeat' split
  all_goals simp

@[simp] theorem State.applyAcquisition_memory (s : State) (n : Nat) : (s.applyAcquisition n).memory = s.memory := by
  simp [State.applyAcquisition]

@[simp] theorem State.stepDue_memory (s : State) : (s.stepDue).memory = s.memory := by
  unfold State.stepDue
  repeat' split
  all_goals simp

@[simp] theorem State.slewAdvance_memory (s : State) (d : Nat) : (s.slewAdvance d).memory = s.memory := by
  unfold State.slewAdvance
  split <;> simp

@[simp] theorem State.advance_memory (s : State) (n : Nat) : (s.advance n).memory = s.memory := by simp [State.advance]

@[simp] theorem State.tick1_memory (s : State) : (s.tick1).memory = s.memory := by simp [State.tick1]

@[simp] theorem State.restoreTick_memory (s : State) : (s.restoreTick).memory = s.memory := by
  unfold State.restoreTick
  split <;> simp

@[simp] theorem State.ticks_memory (s : State) (n : Nat) : (s.ticks n).memory = s.memory := by simp [State.ticks]

@[simp] theorem State.snapshotRead_memory (s : State) (path : Nat) : (s.snapshotRead path).memory = s.memory := by
  simp [State.snapshotRead]

@[simp] theorem State.writeIncrement_memory (s : State) (reg v : Nat) : (s.writeIncrement reg v).memory = s.memory := by
  unfold State.writeIncrement
  repeat' split
  all_goals simp

@[simp] theorem State.startOnBypass_memory (s : State) : (s.startOnBypass).memory = s.memory := by simp [State.startOnBypass]

@[simp] theorem State.servoRestart_memory (s : State) : (s.servoRestart).memory = s.memory := by simp [State.servoRestart]

@[simp] theorem State.writeLastStage_memory (s : State) (n : Nat) : (s.writeLastStage n).memory = s.memory := by
  simp [State.writeLastStage]

@[simp] theorem State.writeStage_memory (s : State) (n v : Nat) : (s.writeStage n v).memory = s.memory := by simp [State.writeStage]

@[simp] theorem State.writeSrc_memory (s : State) (v : Nat) : (s.writeSrc v).memory = s.memory := by simp [State.writeSrc]

@[simp] theorem State.writeTsvCtl_memory (s : State) (v : Nat) : (s.writeTsvCtl v).memory = s.memory := by simp [State.writeTsvCtl]

/-! ### Machine/Qual.lean -/

@[simp] theorem State.rawEdge_memory (s : State) (n t : Nat) : (s.rawEdge n t).memory = s.memory := by simp [State.rawEdge]

@[simp] theorem State.setTdcCh_memory (s : State) (c : Nat) (x : Tdc) : (s.setTdcCh c x).memory = s.memory := by
  simp [State.setTdcCh]

@[simp] theorem State.restartDec_memory (s : State) (c : Nat) : (s.restartDec c).memory = s.memory := by simp [State.restartDec]

@[simp] theorem State.setCandState_memory (s : State) (n st cause : Nat) : (s.setCandState n st cause).memory = s.memory := by
  unfold State.setCandState
  repeat' split
  all_goals simp

@[simp] theorem State.setStepped_memory (s : State) (n : Nat) : (s.setStepped n).memory = s.memory := by simp [State.setStepped]

@[simp] theorem State.freqWindow_memory (s : State) (n : Nat) : (s.freqWindow n).memory = s.memory := by
  simp only [State.freqWindow]
  split <;> simp

@[simp] theorem State.jitter_memory (s : State) (n : Nat) : (s.jitter n).memory = s.memory := by simp [State.jitter]

@[simp] theorem State.addSample_memory (s : State) (n : Nat) (x p : Int) (ok : Bool) :
    (s.addSample n x p ok).memory = s.memory := by
  simp [State.addSample]

@[simp] theorem State.observeStep_memory (s : State) (n dt : Nat) (pulse good : Bool) :
    (s.observeStep n dt pulse good).memory = s.memory := by
  simp [State.observeStep]

@[simp] theorem State.evaluate_memory (s : State) (n : Nat) (labelFail : Bool) : (s.evaluate n labelFail).memory = s.memory := by
  simp [State.evaluate]

@[simp] theorem State.firstOffset_memory (s : State) (n : Nat) (off : Int) : (s.firstOffset n off).memory = s.memory := by
  simp only [State.firstOffset]
  repeat' split
  all_goals simp

@[simp] theorem State.jumpCount_memory (s : State) (n : Nat) (off : Int) : (s.jumpCount n off).memory = s.memory := by
  simp [State.jumpCount]

@[simp] theorem State.pulseSample_memory (s : State) (n : Nat) (edge : Int) : (s.pulseSample n edge).memory = s.memory := by
  simp only [State.pulseSample]
  split <;> simp

@[simp] theorem State.clockSample_memory (s : State) (n : Nat) (v : Int) (gap : Nat) :
    (s.clockSample n v gap).memory = s.memory := by
  simp [State.clockSample]

@[simp] theorem State.phaseSample_memory (s : State) (n : Nat) (v : Int) (gap : Nat) :
    (s.phaseSample n v gap).memory = s.memory := by
  simp [State.phaseSample]

@[simp] theorem State.irigFrame_memory (s : State) (n : Nat) (w : List Nat) : (s.irigFrame n w).memory = s.memory := by
  simp only [State.irigFrame]
  repeat' split
  all_goals simp

@[simp] theorem State.lossOfSignal_memory (s : State) (n : Nat) : (s.lossOfSignal n).memory = s.memory := by
  simp [State.lossOfSignal]

@[simp] theorem State.activityRestored_memory (s : State) (n : Nat) : (s.activityRestored n).memory = s.memory := by
  simp [State.activityRestored]

@[simp] theorem State.driftSample_memory (s : State) (n : Nat) : (s.driftSample n).memory = s.memory := by
  simp only [State.driftSample]
  repeat' split
  all_goals simp

@[simp] theorem State.setDisagree_memory (s : State) : (s.setDisagree).memory = s.memory := by simp [State.setDisagree]

@[simp] theorem State.driftVerdict_memory (s : State) (n : Nat) (ref : DriftRef) : (s.driftVerdict n ref).memory = s.memory := by
  simp [State.driftVerdict]

@[simp] theorem State.driftEval_memory (s : State) : (s.driftEval).memory = s.memory := by simp [State.driftEval]

@[simp] theorem State.candQualify_memory (s : State) (n : Nat) : (s.candQualify n).memory = s.memory := by simp [State.candQualify]

@[simp] theorem State.driftHoldExpire_memory (s : State) (n : Nat) : (s.driftHoldExpire n).memory = s.memory := by
  simp [State.driftHoldExpire]

@[simp] theorem State.disqMinExpire_memory (s : State) (n : Nat) : (s.disqMinExpire n).memory = s.memory := by
  simp [State.disqMinExpire]

@[simp] theorem State.reobserve_memory (s : State) (n : Nat) : (s.reobserve n).memory = s.memory := by simp [State.reobserve]

@[simp] theorem State.writeCandEn_memory (s : State) (n : Nat) (en : Bool) : (s.writeCandEn n en).memory = s.memory := by
  simp [State.writeCandEn]

@[simp] theorem State.writeDriftWin_memory (s : State) (v : Nat) : (s.writeDriftWin v).memory = s.memory := by
  simp [State.writeDriftWin]

/-! ### Machine/Seam.lean -/

@[simp] theorem State.seamGuard_memory (s : State) (act : State → State) (hact : ∀ u, (act u).memory = u.memory) :
    (s.seamGuard act).memory = s.memory := by
  simp [State.seamGuard, hact]

@[simp] theorem State.select_memory (s : State) (m : Nat) : (s.select m).memory = s.memory := by simp [State.select]

@[simp] theorem State.clearPref_memory (s : State) : (s.clearPref).memory = s.memory := by simp [State.clearPref]

@[simp] theorem State.pendingSeam_memory (s : State) : (s.pendingSeam).memory = s.memory := by simp [State.pendingSeam]

@[simp] theorem State.autoSelect_memory (s : State) : (s.autoSelect).memory = s.memory := by
  unfold State.autoSelect
  repeat' split
  all_goals simp

@[simp] theorem State.revertExpire_memory (s : State) : (s.revertExpire).memory = s.memory := by
  unfold State.revertExpire
  split <;> simp

@[simp] theorem State.lockNow_memory (s : State) : (s.lockNow).memory = s.memory := by simp [State.lockNow]

@[simp] theorem State.feedLoss_memory (s : State) : (s.feedLoss).memory = s.memory := by simp [State.feedLoss]

@[simp] theorem State.toFree_memory (s : State) : (s.toFree).memory = s.memory := by
  simp only [State.toFree]
  split <;> simp

@[simp] theorem State.writeFree_memory (s : State) (v : Bool) : (s.writeFree v).memory = s.memory := by simp [State.writeFree]

@[simp] theorem State.readTemp_memory (s : State) (temp : Int) : (s.readTemp temp).memory = s.memory := by simp [State.readTemp]

@[simp] theorem State.publish_memory (s : State) (temp : Int) : (s.publish temp).memory = s.memory := by simp [State.publish]

@[simp] theorem State.enterWindow_memory (s : State) (e : Learn) : (s.enterWindow e).memory = s.memory := by
  simp [State.enterWindow]

@[simp] theorem State.learnSample_memory (s : State) (temp : Int) : (s.learnSample temp).memory = s.memory := by
  simp [State.learnSample]

@[simp] theorem State.recompute_memory (s : State) : (s.recompute).memory = s.memory := by simp [State.recompute]

@[simp] theorem State.dayClose_memory (s : State) : (s.dayClose).memory = s.memory := by simp [State.dayClose]

@[simp] theorem State.tempMean_memory (s : State) : (s.tempMean).memory = s.memory := by simp [State.tempMean]

@[simp] theorem State.modelEval_memory (s : State) (temp : Int) : (s.modelEval temp).memory = s.memory := by simp [State.modelEval]

@[simp] theorem State.takeSnapshot_memory (s : State) : (s.takeSnapshot).memory = s.memory := by simp [State.takeSnapshot]

@[simp] theorem State.pressAbort_memory (s : State) : (s.pressAbort).memory = s.memory := by
  simp only [State.pressAbort]
  split <;> simp

@[simp] theorem State.pressCheck_memory (s : State) (p : Press) : (s.pressCheck p).2.memory = s.memory := by
  unfold State.pressCheck
  repeat' split
  all_goals simp

@[simp] theorem State.pressHost_memory (s : State) (form : Form) (align : Bool) (mask target : Nat) :
    (s.pressHost form align mask target).memory = s.memory := by
  simp [State.pressHost]

@[simp] theorem State.pressStepApply_memory (s : State) : (s.pressStepApply).memory = s.memory := by
  unfold State.pressStepApply
  split <;> simp

@[simp] theorem State.acquisitionStep_memory (s : State) : (s.acquisitionStep).memory = s.memory := by
  unfold State.acquisitionStep
  split <;> simp

@[simp] theorem State.pressAlignApply_memory (s : State) : (s.pressAlignApply).memory = s.memory := by simp [State.pressAlignApply]

@[simp] theorem State.slewStart_memory (s : State) : (s.slewStart).memory = s.memory := by
  simp only [State.slewStart]
  repeat' split
  all_goals simp

@[simp] theorem State.slewEnd_memory (s : State) : (s.slewEnd).memory = s.memory := by
  unfold State.slewEnd
  split <;> simp

/-! ### Machine/LinkCore.lean -/

@[simp] theorem State.setLinkState_memory (s : State) (n v : Nat) : (s.setLinkState n v).memory = s.memory := by
  simp [State.setLinkState]

@[simp] theorem State.phaseLost_memory (s : State) (n : Nat) : (s.phaseLost n).memory = s.memory := by simp [State.phaseLost]

@[simp] theorem State.linkLos_memory (s : State) (n : Nat) : (s.linkLos n).memory = s.memory := by simp [State.linkLos]

@[simp] theorem State.linkFence_memory (s : State) (n : Nat) : (s.linkFence n).memory = s.memory := by
  simp only [State.linkFence]
  repeat' split
  all_goals simp

@[simp] theorem State.linkClkReport_memory (s : State) (n : Nat) : (s.linkClkReport n).memory = s.memory := by
  simp [State.linkClkReport]

@[simp] theorem State.linkClockLost_memory (s : State) : (s.linkClockLost).memory = s.memory := by simp [State.linkClockLost]

/-! ### Machine/Synth.lean -/

@[simp] theorem State.setRamp_memory (s : State) (p : Nat) (r : Ramp) : (s.setRamp p r).memory = s.memory := by simp [State.setRamp]

@[simp] theorem State.tbBypass_memory (s : State) : (s.tbBypass).memory = s.memory := by simp [State.tbBypass]

@[simp] theorem State.tbLive_memory (s : State) : (s.tbLive).memory = s.memory := by simp [State.tbLive]

@[simp] theorem State.gateOutput_memory (s : State) (i : Nat) : (s.gateOutput i).memory = s.memory := by simp [State.gateOutput]

@[simp] theorem State.resumeOutput_memory (s : State) (i : Nat) : (s.resumeOutput i).memory = s.memory := by
  simp [State.resumeOutput]

@[simp] theorem State.gateDomain_memory (s : State) (d : Nat) : (s.gateDomain d).memory = s.memory := by simp [State.gateDomain]

@[simp] theorem State.moveDomain_memory (s : State) (d q : Nat) : (s.moveDomain d q).memory = s.memory := by simp [State.moveDomain]

@[simp] theorem State.giveSource_memory (s : State) (d q : Nat) : (s.giveSource d q).memory = s.memory := by simp [State.giveSource]

@[simp] theorem State.resource_memory (s : State) (d : Nat) (back : Bool) : (s.resource d back).memory = s.memory := by
  unfold State.resource
  repeat' split
  all_goals simp

@[simp] theorem State.resourceAll_memory (s : State) : (s.resourceAll).memory = s.memory := by simp [State.resourceAll]

@[simp] theorem State.gateFed_memory (s : State) (q : Nat) : (s.gateFed q).memory = s.memory := by simp [State.gateFed]

@[simp] theorem State.setPllState_memory (s : State) (p v : Nat) : (s.setPllState p v).memory = s.memory := by
  simp [State.setPllState]

@[simp] theorem State.checkOutput_memory (s : State) (p i : Nat) : (s.checkOutput p i).memory = s.memory := by
  simp [State.checkOutput]

@[simp] theorem State.bootBandMiss_memory (s : State) (p : Nat) : (s.bootBandMiss p).memory = s.memory := by
  simp [State.bootBandMiss]

@[simp] theorem State.pllStart_memory (s : State) (p : Nat) : (s.pllStart p).memory = s.memory := by
  unfold State.pllStart
  repeat' split
  all_goals simp

@[simp] theorem State.pllHalt_memory (s : State) (p : Nat) : (s.pllHalt p).memory = s.memory := by simp [State.pllHalt]

@[simp] theorem State.pllStop_memory (s : State) (p : Nat) : (s.pllStop p).memory = s.memory := by simp [State.pllStop]

@[simp] theorem State.pllLocked_memory (s : State) (p : Nat) : (s.pllLocked p).memory = s.memory := by simp [State.pllLocked]

@[simp] theorem State.pllUnlock_memory (s : State) (p : Nat) : (s.pllUnlock p).memory = s.memory := by simp [State.pllUnlock]

@[simp] theorem State.showDelta_memory (s : State) (p : Nat) (delta : Int) : (s.showDelta p delta).memory = s.memory := by
  simp [State.showDelta]

@[simp] theorem State.ldWindow_memory (s : State) (p count : Nat) : (s.ldWindow p count).1.memory = s.memory := by
  simp [State.ldWindow]

@[simp] theorem State.bandStale_memory (s : State) (p : Nat) (t : Int) : (s.bandStale p t).memory = s.memory := by
  simp [State.bandStale]

@[simp] theorem State.writePllCfg_memory (s : State) (p v : Nat) : (s.writePllCfg p v).memory = s.memory := by
  simp [State.writePllCfg]

@[simp] theorem State.writeSerdesDiv_memory (s : State) (v : Nat) : (s.writeSerdesDiv v).memory = s.memory := by
  simp [State.writeSerdesDiv]

@[simp] theorem State.handover_memory (s : State) (p : Nat) : (s.handover p).memory = s.memory := by simp [State.handover]

@[simp] theorem State.handback_memory (s : State) (p : Nat) : (s.handback p).memory = s.memory := by simp [State.handback]

@[simp] theorem State.writeDomain_memory (s : State) (p v : Nat) : (s.writeDomain p v).memory = s.memory := by
  simp [State.writeDomain]

@[simp] theorem State.setRampOut_memory (s : State) (p : Nat) (v : Int) : (s.setRampOut p v).memory = s.memory := by
  simp [State.setRampOut]

@[simp] theorem State.setRampAcc_memory (s : State) (p : Nat) (a : Int) : (s.setRampAcc p a).memory = s.memory := by
  simp [State.setRampAcc]

@[simp] theorem State.rotClr_memory (s : State) (p : Nat) : (s.rotClr p).memory = s.memory := by simp [State.rotClr]

@[simp] theorem State.rampBegin_memory (s : State) (p : Nat) : (s.rampBegin p).memory = s.memory := by simp [State.rampBegin]

@[simp] theorem State.rampGo_memory (s : State) (p : Nat) : (s.rampGo p).2.memory = s.memory := by
  unfold State.rampGo
  repeat' split
  all_goals simp

@[simp] theorem State.rampAbort_memory (s : State) (p : Nat) : (s.rampAbort p).2.memory = s.memory := by
  unfold State.rampAbort
  split <;> simp

@[simp] theorem State.rampStartAt_memory (s : State) (p : Nat) : (s.rampStartAt p).memory = s.memory := by simp [State.rampStartAt]

@[simp] theorem State.rampEnd_memory (s : State) (p : Nat) : (s.rampEnd p).memory = s.memory := by
  unfold State.rampEnd
  split <;> simp

@[simp] theorem State.rampNorm_memory (x0 : Nat) (x1 : State) (x2 : Nat) : (State.rampNorm x0 x1 x2).memory = x1.memory := by
  induction x0 generalizing x1 with
  | zero => simp [State.rampNorm]
  | succ n ih =>
    simp only [State.rampNorm]
    repeat' split
    all_goals simp [ih]

@[simp] theorem State.rampUpdate_memory (s : State) (p : Nat) : (s.rampUpdate p).memory = s.memory := by simp [State.rampUpdate]

/-! ### Machine/Outs.lean -/

@[simp] theorem State.clearOver_memory (s : State) (i : Nat) : (s.clearOver i).memory = s.memory := by simp [State.clearOver]

@[simp] theorem State.writeOutCfg_memory (s : State) (i v : Nat) : (s.writeOutCfg i v).memory = s.memory := by
  simp [State.writeOutCfg]

@[simp] theorem State.writeOutDiv_memory (s : State) (i v : Nat) : (s.writeOutDiv i v).memory = s.memory := by
  simp [State.writeOutDiv]

@[simp] theorem State.trimBusy_memory (s : State) (i : Nat) : (s.trimBusy i).memory = s.memory := by simp [State.trimBusy]

@[simp] theorem State.writeTrim_memory (s : State) (i v : Nat) : (s.writeTrim i v).memory = s.memory := by simp [State.writeTrim]

@[simp] theorem State.trimWalk_memory (s : State) (i : Nat) : (s.trimWalk i).memory = s.memory := by simp [State.trimWalk]

@[simp] theorem State.syncEnd_memory (s : State) (code : Nat) : (s.syncEnd code).memory = s.memory := by simp [State.syncEnd]

@[simp] theorem State.syncGo_memory (s : State) : (s.syncGo).memory = s.memory := by simp [State.syncGo]

@[simp] theorem State.syncPin_memory (s : State) : (s.syncPin).memory = s.memory := by simp [State.syncPin]

@[simp] theorem State.syncHold_memory (s : State) : (s.syncHold).memory = s.memory := by
  unfold State.syncHold
  split <;> simp

@[simp] theorem State.syncInstant_memory (s : State) (at_ : Nat) : (s.syncInstant at_).memory = s.memory := by
  unfold State.syncInstant
  split <;> simp

@[simp] theorem State.ppsRunning_memory (s : State) (k : Nat) : (s.ppsRunning k).memory = s.memory := by simp [State.ppsRunning]

@[simp] theorem State.ppsEmit_memory (s : State) (k : Nat) (p : Pulse) (e : Int) : (s.ppsEmit k p e).memory = s.memory := by
  simp [State.ppsEmit]

@[simp] theorem State.ppsEdge_memory (s : State) (k : Nat) : (s.ppsEdge k).memory = s.memory := by
  simp only [State.ppsEdge]
  split <;> simp

@[simp] theorem State.writePpsCfg_memory (s : State) (k v : Nat) : (s.writePpsCfg k v).memory = s.memory := by
  simp [State.writePpsCfg]

@[simp] theorem State.writePpsWidth_memory (s : State) (k v : Nat) : (s.writePpsWidth k v).memory = s.memory := by
  simp [State.writePpsWidth]

@[simp] theorem State.writePeriod_memory (s : State) (k : Nat) (f : Fld) (v : Nat) : (s.writePeriod k f v).memory = s.memory := by
  simp [State.writePeriod]

@[simp] theorem State.writePps_memory (s : State) (k reg v : Nat) : (s.writePps k reg v).memory = s.memory := by
  unfold State.writePps
  split <;> simp

@[simp] theorem State.frArm_memory (s : State) (k : Nat) : (s.frArm k).memory = s.memory := by simp [State.frArm]

@[simp] theorem State.frStop_memory (s : State) (k : Nat) : (s.frStop k).memory = s.memory := by simp [State.frStop]

@[simp] theorem State.stageWord_memory (s : State) (addr v : Nat) : (s.stageWord addr v).memory = s.memory := by
  simp [State.stageWord]

@[simp] theorem State.commitHub_memory (s : State) (f0 f1 f2 rej : Fld) (v : Nat) :
    (s.commitHub f0 f1 f2 rej v).memory = s.memory := by
  simp [State.commitHub]

@[simp] theorem State.commitAt_memory (s : State) (r v : Nat) : (s.commitAt r v).memory = s.memory := by simp [State.commitAt]

/-! ### Machine/RingCore.lean -/

@[simp] theorem State.ringFull_memory (s : State) (r : Nat) : (s.ringFull r).memory = s.memory := by simp [State.ringFull]

@[simp] theorem State.ringLatch_memory (s : State) (r : Nat) (prod : Bool) : (s.ringLatch r prod).memory = s.memory := by
  simp only [State.ringLatch]
  repeat' split
  all_goals simp

@[simp] theorem State.ringSignal_memory (s : State) (r : Nat) (prod was renew : Bool) :
    (s.ringSignal r prod was renew).memory = s.memory := by
  simp [State.ringSignal]

@[simp] theorem State.ringUpdate_memory (s : State) (r : Nat) (renew : Bool) (act : State → State) (hact : ∀ u, (act u).memory = u.memory) : (s.ringUpdate r renew act).memory = s.memory := by simp [State.ringUpdate, hact]

@[simp] theorem State.ringPushTail_memory (s : State) (r n : Nat) : (s.ringPushTail r n).memory = s.memory := by
  simp [State.ringPushTail]

@[simp] theorem State.ringPopHead_memory (s : State) (r n : Nat) : (s.ringPopHead r n).memory = s.memory := by
  simp [State.ringPopHead]

@[simp] theorem State.ringArrive_memory (s : State) (role : Nat) : (s.ringArrive role).memory = s.memory := by
  simp [State.ringArrive]

@[simp] theorem State.dropEvent_memory (s : State) (e t k : Nat) : (s.dropEvent e t k).memory = s.memory := by
  simp [State.dropEvent]

@[simp] theorem State.ringLeave_memory (s : State) (role e : Nat) : (s.ringLeave role e).memory = s.memory := by
  simp [State.ringLeave]

/-! ### Machine/EngCore.lean -/

@[simp] theorem State.setEngState_memory (s : State) (n v : Nat) : (s.setEngState n v).memory = s.memory := by
  simp [State.setEngState]

@[simp] theorem State.setFlights_memory (s : State) (n : Nat) (l : List Flight) : (s.setFlights n l).memory = s.memory := by
  simp [State.setFlights]

@[simp] theorem State.recordExc_memory (s : State) (e t code : Nat) : (s.recordExc e t code).memory = s.memory := by
  simp [State.recordExc]

@[simp] theorem State.fencedTrap_memory (s : State) (e t at_ : Nat) : (s.fencedTrap e t at_).memory = s.memory := by
  simp [State.fencedTrap]

@[simp] theorem State.fenceWaiting_memory (s : State) (e : Nat) : (s.fenceWaiting e).memory = s.memory := by
  simp [State.fenceWaiting]

@[simp] theorem State.bumpEpoch_memory (s : State) (r : Nat) : (s.bumpEpoch r).memory = s.memory := by simp [State.bumpEpoch]

@[simp] theorem engineBit_memory (lo hi : Fld) (s : State) (r : Nat) : (engineBit lo hi s r).memory = s.memory := by
  simp [engineBit]

@[simp] theorem State.roleIn_memory (s : State) (r n : Nat) : (s.roleIn r n).memory = s.memory := by simp [State.roleIn]

@[simp] theorem State.roleOut_memory (s : State) (r n : Nat) : (s.roleOut r n).memory = s.memory := by simp [State.roleOut]

@[simp] theorem State.roleUnheld_memory (s : State) (r : Nat) (old : Option Nat) : (s.roleUnheld r old).memory = s.memory := by
  unfold State.roleUnheld
  split <;> simp

@[simp] theorem State.epsStart_memory (s : State) (r : Nat) : (s.epsStart r).memory = s.memory := by simp [State.epsStart]

@[simp] theorem State.giveRole_memory (s : State) (r : Nat) (dst : Option Nat) (fence : Bool) :
    (s.giveRole r dst fence).memory = s.memory := by
  simp only [State.giveRole]
  repeat' split
  all_goals simp

@[simp] theorem State.moveNow_memory (s : State) (r : Nat) (m : RoleMove) : (s.moveNow r m).memory = s.memory := by
  unfold State.moveNow
  split <;> simp

@[simp] theorem State.setHeldMoves_memory (s : State) (r : Nat) (l : List RoleMove) : (s.setHeldMoves r l).memory = s.memory := by
  simp [State.setHeldMoves]

@[simp] theorem State.moveRole_memory (s : State) (r : Nat) (m : RoleMove) : (s.moveRole r m).memory = s.memory := by
  simp [State.moveRole]

@[simp] theorem State.heldEpoch_memory (s : State) (r : Nat) : (s.heldEpoch r).memory = s.memory := by
  unfold State.heldEpoch
  split <;> simp

@[simp] theorem State.fenceRole_memory (s : State) (n r : Nat) : (s.fenceRole n r).memory = s.memory := by simp [State.fenceRole]

@[simp] theorem State.fenceEngine_memory (s : State) (n : Nat) : (s.fenceEngine n).memory = s.memory := by simp [State.fenceEngine]

@[simp] theorem State.fenceAllEngines_memory (s : State) : s.fenceAllEngines.memory = s.memory := by
  unfold State.fenceAllEngines
  extract_lets _ s₁ mark s₂ role s₃
  have hmark (s : State) (n : Nat) : (mark s n).memory = s.memory := by simp [mark]
  have hrole (s : State) (r : Nat) : (role s r).memory = s.memory := by
    unfold role
    split <;> simp
  have h₂ : s₂.memory = s.memory := by simp [s₂, hmark, s₁]
  have h₃ : s₃.memory = s.memory := by simp [s₃, hrole, h₂]
  simp [h₃]

@[simp] theorem State.beat_memory (s : State) (n : Nat) : (s.beat n).memory = s.memory := by simp [State.beat]

@[simp] theorem State.startThread_memory (s : State) (n t : Nat) : (s.startThread n t).memory = s.memory := by
  simp [State.startThread]

@[simp] theorem State.takeUnheld_memory (s : State) (n : Nat) : (s.takeUnheld n).memory = s.memory := by simp [State.takeUnheld]

@[simp] theorem State.engRun_memory (s : State) (n : Nat) : (s.engRun n).memory = s.memory := by simp [State.engRun]

@[simp] theorem State.runCmd_memory (s : State) (n : Nat) : (s.runCmd n).memory = s.memory := by
  unfold State.runCmd
  split <;> simp

@[simp] theorem State.parkCmd_memory (s : State) (n : Nat) (move : Bool) : (s.parkCmd n move).memory = s.memory := by
  unfold State.parkCmd
  split <;> simp

@[simp] theorem State.drainDone_memory (s : State) (n : Nat) : (s.drainDone n).memory = s.memory := by simp [State.drainDone]

/-! ### Machine/TdcCore.lean -/

@[simp] theorem State.setCal_memory (s : State) (c : Nat) (x : Option Cal) : (s.setCal c x).memory = s.memory := by
  simp [State.setCal]

@[simp] theorem State.soakSet_memory (s : State) : (s.soakSet).memory = s.memory := by simp [State.soakSet]

@[simp] theorem State.heaterOff_memory (s : State) : (s.heaterOff).memory = s.memory := by simp [State.heaterOff]

@[simp] theorem State.heaterOn_memory (s : State) : (s.heaterOn).memory = s.memory := by simp [State.heaterOn]

@[simp] theorem State.showSpares_memory (s : State) : (s.showSpares).memory = s.memory := by simp [State.showSpares]

@[simp] theorem State.takeSpare_memory (s : State) (k c use : Nat) : (s.takeSpare k c use).memory = s.memory := by
  simp [State.takeSpare]

@[simp] theorem State.dropSpare_memory (s : State) (k : Nat) : (s.dropSpare k).memory = s.memory := by simp [State.dropSpare]

@[simp] theorem State.onSpare_memory (s : State) (c k : Nat) : (s.onSpare c k).memory = s.memory := by simp [State.onSpare]

@[simp] theorem State.onOwn_memory (s : State) (c : Nat) : (s.onOwn c).memory = s.memory := by simp [State.onOwn]

@[simp] theorem State.replaceCore_memory (s : State) (c : Nat) : (s.replaceCore c).memory = s.memory := by
  unfold State.replaceCore
  split <;> simp

@[simp] theorem State.calEnd_memory (s : State) (c code : Nat) : (s.calEnd c code).memory = s.memory := by
  unfold State.calEnd
  split <;> simp

@[simp] theorem State.fenceCore_memory (s : State) (c : Nat) : (s.fenceCore c).memory = s.memory := by
  simp only [State.fenceCore]
  split <;> simp

@[simp] theorem State.fenceSpare_memory (s : State) (k : Nat) : (s.fenceSpare k).memory = s.memory := by
  simp only [State.fenceSpare]
  repeat' split
  all_goals simp

/-! ### Machine/PowerCore.lean -/

@[simp] theorem State.lastWake_memory (s : State) (srcs : List Nat) (replayed abort : Bool) :
    (s.lastWake srcs replayed abort).memory = s.memory := by
  simp [State.lastWake]

@[simp] theorem State.resumeRun_memory (s : State) : (s.resumeRun).memory = s.memory := by simp [State.resumeRun]

@[simp] theorem State.wakeLink_memory (s : State) (n : Nat) : (s.wakeLink n).memory = s.memory := by simp [State.wakeLink]

@[simp] theorem State.startPll_memory (s : State) (p : Nat) : (s.startPll p).memory = s.memory := by simp [State.startPll]

@[simp] theorem State.wakeDomain_memory (s : State) (d : Nat) : (s.wakeDomain d).memory = s.memory := by simp [State.wakeDomain]

@[simp] theorem State.wakeSleep_memory (s : State) : (s.wakeSleep).memory = s.memory := by simp [State.wakeSleep]

@[simp] theorem State.wakeRun_memory (s : State) (srcs : List Nat) (replayed : Bool) :
    (s.wakeRun srcs replayed).memory = s.memory := by
  simp [State.wakeRun]

@[simp] theorem State.wakeDeep_memory (s : State) (srcs : List Nat) (replayed : Bool) :
    (s.wakeDeep srcs replayed).memory = s.memory := by
  simp [State.wakeDeep]

@[simp] theorem State.abortEntry_memory (s : State) (src : Nat) : (s.abortEntry src).memory = s.memory := by simp [State.abortEntry]

@[simp] theorem State.wakeEvent_memory (s : State) (src : Nat) : (s.wakeEvent src).memory = s.memory := by simp [State.wakeEvent]

@[simp] theorem State.replayWakes_memory (s : State) : (s.replayWakes).memory = s.memory := by simp [State.replayWakes]

@[simp] theorem State.settleWake_memory (s : State) : (s.settleWake).memory = s.memory := by simp [State.settleWake]

/-! ### Machine/Faults.lean -/

@[simp] theorem State.fenceQual_memory (s : State) : (s.fenceQual).memory = s.memory := by
  unfold State.fenceQual
  split <;> simp

@[simp] theorem State.minorUnderFence_memory (s : State) (src cause : Nat) : (s.minorUnderFence src cause).memory = s.memory := by
  simp [State.minorUnderFence]

@[simp] theorem State.fenceUnit_memoryOk (s : State) (src : Nat) (h : MemoryOk s.memory) :
    MemoryOk (s.fenceUnit src).memory := by simp [State.fenceUnit, h]

@[simp] theorem State.fenceSource_memoryOk (s : State) (src : Nat) (h : MemoryOk s.memory) :
    MemoryOk (s.fenceSource src).memory := by simp [State.fenceSource, h]

@[simp] theorem State.tiUnknown_memory (s : State) : (s.tiUnknown).memory = s.memory := by simp [State.tiUnknown]

@[simp] theorem State.fenceTi_memory (s : State) (src : Nat) : (s.fenceTi src).memory = s.memory := by simp [State.fenceTi]

@[simp] theorem State.fenceMemory_memoryOk (s : State) (h : MemoryOk s.memory) :
    MemoryOk (s.fenceMemory).memory := by
  simp only [State.fenceMemory]
  refine memoryOk_foldl (fun u a h => ?_) _ h
  simp [h]

@[simp] theorem State.fenceGroup_memoryOk (s : State) (src : Nat) (h : MemoryOk s.memory) :
    MemoryOk (s.fenceGroup src).memory := by simp [State.fenceGroup, h]

@[simp] theorem State.classEffects_memoryOk (s : State) (src cls cause : Nat) (h : MemoryOk s.memory) :
    MemoryOk (s.classEffects src cls cause).memory := by simp [State.classEffects, h]

@[simp] theorem State.countEvent_memoryOk (s : State) (src : Nat) (h : MemoryOk s.memory) :
    MemoryOk (s.countEvent src).memory := by simp [State.countEvent, h]

@[simp] theorem State.report_memoryOk (s : State) (src cls cause : Nat) (h : MemoryOk s.memory) :
    MemoryOk (s.report src cls cause).memory := by simp [State.report, h]

@[simp] theorem State.brokenWire_memoryOk (s : State) (src : Nat) (h : MemoryOk s.memory) :
    MemoryOk (s.brokenWire src).memory := by simp [State.brokenWire, h]

@[simp] theorem State.reenter_memory (s : State) (n : Nat) : (s.reenter n).memory = s.memory := by simp [State.reenter]

@[simp] theorem State.servoResume_memory (s : State) : (s.servoResume).memory = s.memory := by simp [State.servoResume]

@[simp] theorem State.seamResume_memory (s : State) : (s.seamResume).memory = s.memory := by simp [State.seamResume]

@[simp] theorem State.unfenceUnit_memory (s : State) (src : Nat) : (s.unfenceUnit src).memory = s.memory := by
  simp [State.unfenceUnit]

@[simp] theorem State.fltClear_memory (s : State) (src : Nat) : (s.fltClear src).memory = s.memory := by simp [State.fltClear]

@[simp] theorem State.shiftLog_memory (s : State) (n j : Nat) : (s.shiftLog n j).memory = s.memory := by simp [State.shiftLog]

@[simp] theorem State.logAck_memory (s : State) (n : Nat) : (s.logAck n).memory = s.memory := by simp [State.logAck]

@[simp] theorem State.fltInject_memoryOk (s : State) (src cls : Nat) (broken : Bool) (h : MemoryOk s.memory) :
    MemoryOk (s.fltInject src cls broken).memory := by simp [State.fltInject, h]

/-! ### Machine/Access.lean -/

@[simp] theorem State.groupUe_memoryOk (s : State) (b a : Nat) (h : MemoryOk s.memory) :
    MemoryOk (s.groupUe b a).memory := by simp [State.groupUe, h]

@[simp] theorem State.bankRead_memoryOk (s : State) (b a n : Nat) (h : MemoryOk s.memory) :
    MemoryOk (s.bankRead b a n).1.memory := by simp [State.bankRead, h]

@[simp] theorem State.bankWrite_memoryOk (s : State) (b a n v : Nat) (prim : Bool) (h : MemoryOk s.memory) :
    MemoryOk (s.bankWrite b a n v prim).1.memory := by
  unfold State.bankWrite
  split
  · simp [h]
  · split
    · simp [h]
    · extract_lets t
      have ht : t.memory = s.memory := by simp [t]
      rw [State.memory_mk]
      exact State.setBytes_memoryOk a n v (ht ▸ h)

@[simp] theorem State.ibDrop_memory (s : State) (n : Nat) : (s.ibDrop n).memory = s.memory := by simp [State.ibDrop]

@[simp] theorem State.dirDrop_memory (s : State) : (s.dirDrop).memory = s.memory := by simp [State.dirDrop]

@[simp] theorem State.bankStore_memoryOk (s : State) (b a n v : Nat) (prim : Bool) (h : MemoryOk s.memory) :
    MemoryOk (s.bankStore b a n v prim).1.memory := by simp [State.bankStore, h]

@[simp] theorem State.readRange_memoryOk (s : State) (b a n : Nat) (h : MemoryOk s.memory) :
    MemoryOk (s.readRange b a n).1.memory :=
  memoryOk_foldl_fst (fun _ _ h => by simp [h]) _ h

@[simp] theorem State.writeRange_memoryOk (s : State) (b a n v : Nat) (prim : Bool) (h : MemoryOk s.memory) :
    MemoryOk (s.writeRange b a n v prim).1.memory := by exact memoryOk_foldl_fst (fun _ _ h => by simp [h]) _ h

@[simp] theorem State.copyGroups_memoryOk (s : State) (b a n : Nat) (h : MemoryOk s.memory) :
    MemoryOk (s.copyGroups b a n).1.memory := 
  memoryOk_foldl_fst (fun _ _ h => by simp [h]) _ h

@[simp] theorem State.ceWriteback_memoryOk (s : State) (b a : Nat) (ue : Bool) (h : MemoryOk s.memory) :
    MemoryOk (s.ceWriteback b a ue).memory := by simp [State.ceWriteback, h]

@[simp] theorem State.hostByte_memoryOk (s : State) (keep : Option (Nat × Nat)) (b a v : Nat) (h : MemoryOk s.memory) :
    MemoryOk (s.hostByte keep b a v).1.memory := by
  unfold State.hostByte
  split <;> simp [h]

@[simp] theorem State.hostGroup_memoryOk (s : State) (b a n v : Nat) (same : Bool) (h : MemoryOk s.memory) :
    MemoryOk (s.hostGroup b a n v same).1.memory := by
  unfold State.hostGroup
  split
  · simp [h]
  · split
    · simp [h]
    · split
      · split
        · exact memoryOk_foldl_fst (fun _ _ h => by simp [h]) _ (by simp [h])
        · simp [h]
      · split <;> simp [h]

/-! ### Machine/Banks.lean -/

@[simp] theorem State.rejBank_memory (s : State) (b : Nat) : (s.rejBank b).memory = s.memory := by simp [State.rejBank]

@[simp] theorem State.startRinse_memory (s : State) (b : Nat) : (s.startRinse b).memory = s.memory := by simp [State.startRinse]

@[simp] theorem State.leaveOn_memoryOk (s : State) (b : Nat) (h : MemoryOk s.memory) :
    MemoryOk (s.leaveOn b).memory := by
  simp only [State.leaveOn]
  split <;> simp [h]

@[simp] theorem State.bankPower_memoryOk (s : State) (b p : Nat) (h : MemoryOk s.memory) :
    MemoryOk (s.bankPower b p).memory := by
  simp only [State.bankPower]
  repeat' split
  all_goals simp [h]

@[simp] theorem State.writeBankCfg_memoryOk (s : State) (b v : Nat) (h : MemoryOk s.memory) :
    MemoryOk (s.writeBankCfg b v).memory := by
  simp only [State.writeBankCfg]
  split <;> simp [h]

@[simp] theorem State.rinseEnd_memoryOk (s : State) (b : Nat) (h : MemoryOk s.memory) :
    MemoryOk (s.rinseEnd b).memory := by simp [State.rinseEnd, h]

@[simp] theorem State.darnGo_memory (s : State) (b : Nat) (hard : Bool) : (s.darnGo b hard).memory = s.memory := by
  simp [State.darnGo]

@[simp] theorem State.showPatched_memory (s : State) (b : Nat) : (s.showPatched b).memory = s.memory := by simp [State.showPatched]

@[simp] theorem State.setPatch_memory (s : State) (b j row origin : Nat) : (s.setPatch b j row origin).memory = s.memory := by
  simp [State.setPatch]

@[simp] theorem State.patchRow_memory (s : State) (b row : Nat) (good : Bool) : (s.patchRow b row good).1.memory = s.memory := by
  unfold State.patchRow
  repeat' split
  all_goals simp

@[simp] theorem State.patchRows_memory (s : State) (b : Nat) (rows : List (Nat × Bool)) :
    (s.patchRows b rows).1.memory = s.memory := by
  simp [State.patchRows]

@[simp] theorem State.noPatch_memoryOk (s : State) (b : Nat) (h : MemoryOk s.memory) :
    MemoryOk (s.noPatch b).memory := by simp [State.noPatch, h]

@[simp] theorem State.darnFound_memoryOk (s : State) (b : Nat) (rows : List (Nat × Bool)) (h : MemoryOk s.memory) :
    MemoryOk (s.darnFound b rows).memory := by simp [State.darnFound, h]

@[simp] theorem State.darnDone_memoryOk (s : State) (b : Nat) (h : MemoryOk s.memory) :
    MemoryOk (s.darnDone b).memory := by simp [State.darnDone, h]

@[simp] theorem State.darnEnd_memoryOk (s : State) (b : Nat) (rows : List (Nat × Bool)) (groups : Option Nat) (h : MemoryOk s.memory) :
    MemoryOk (s.darnEnd b rows groups).memory := by
  simp [State.darnEnd, h]
  split <;> simp [h]

/-! ### Machine/Control.lean -/

@[simp] theorem State.windowEnd_memoryOk (s : State) (p count : Nat) (h : MemoryOk s.memory) :
    MemoryOk (s.windowEnd p count).memory := by simp [State.windowEnd, h]

/-! ### Machine/Commands.lean -/

@[simp] theorem State.setLane_memory (s : State) (l : Nat) (x : List LaneOp) : (s.setLane l x).memory = s.memory := by
  simp [State.setLane]

@[simp] theorem State.setCredit_memory (s : State) (l v : Nat) : (s.setCredit l v).memory = s.memory := by simp [State.setCredit]

@[simp] theorem State.refill_memory (s : State) (l : Nat) : (s.refill l).memory = s.memory := by simp [State.refill]

@[simp] theorem State.writeMbRate_memory (s : State) (l v : Nat) : (s.writeMbRate l v).memory = s.memory := by
  simp [State.writeMbRate]

@[simp] theorem State.laneAdd_memory (s : State) (l : Nat) (o : LaneOp) : (s.laneAdd l o).memory = s.memory := by
  simp [State.laneAdd]

@[simp] theorem State.roleCmd_memory (s : State) (r dst : Nat) : (s.roleCmd r dst).memory = s.memory := by simp [State.roleCmd]

@[simp] theorem State.writeEngCmd_memory (s : State) (n v : Nat) : (s.writeEngCmd n v).memory = s.memory := by
  simp [State.writeEngCmd]

@[simp] theorem State.hbExpire_memoryOk (s : State) (n : Nat) (h : MemoryOk s.memory) :
    MemoryOk (s.hbExpire n).memory := by simp [State.hbExpire, h]

@[simp] theorem State.commitTimer_memory (s : State) (n t v : Nat) : (s.commitTimer n t v).memory = s.memory := by
  simp [State.commitTimer]

@[simp] theorem State.threadTimer_memory (s : State) (n t : Nat) : (s.threadTimer n t).memory = s.memory := by
  simp [State.threadTimer]

@[simp] theorem State.rejSlot_memory (s : State) : (s.rejSlot).memory = s.memory := by simp [State.rejSlot]

@[simp] theorem State.slotPublish_memory (s : State) (k : Nat) : (s.slotPublish k).memory = s.memory := by simp [State.slotPublish]

@[simp] theorem State.slotPost_memory (s : State) (by_ k : Nat) : (s.slotPost by_ k).memory = s.memory := by simp [State.slotPost]

@[simp] theorem State.writeStageWord_memory (s : State) (by_ k w v : Nat) : (s.writeStageWord by_ k w v).memory = s.memory := by
  simp [State.writeStageWord]

@[simp] theorem State.slotAck_memory (s : State) (k v : Nat) : (s.slotAck k v).memory = s.memory := by simp [State.slotAck]

@[simp] theorem State.entryWrite_memory (s : State) (w : Nat × Nat) : (s.entryWrite w).memory = s.memory := by
  simp [State.entryWrite]

@[simp] theorem State.modeCmd_memory (s : State) (dst : Nat) : (s.modeCmd dst).memory = s.memory := by simp [State.modeCmd]

@[simp] theorem State.modeDone_memory (s : State) : (s.modeDone).memory = s.memory := by simp [State.modeDone]

@[simp] theorem State.pwrGo_memory (s : State) (dst : Nat) : (s.pwrGo dst).memory = s.memory := by simp [State.pwrGo]

/-! ### Machine/Directory.lean -/

@[simp] theorem State.dirScan_memoryOk (s : State) (key : Nat) (l : List Nat) (h : MemoryOk s.memory) :
    MemoryOk (s.dirScan key l).1.memory := by
  induction l generalizing s with
  | nil => exact h
  | cons a l ih =>
    have hr := s.readRange_memoryOk 28 a 16 h
    simp [State.dirScan, hr, ih]

@[simp] theorem State.dirFind_memoryOk (s : State) (key : Nat) (h : MemoryOk s.memory) : MemoryOk (s.dirFind key).1.memory := by
  unfold State.dirFind
  split <;> simp [h]

@[simp] theorem State.dirPut_memoryOk (s : State) (a v : Nat) (h : MemoryOk s.memory) :
    MemoryOk (s.dirPut a v).memory := by simp [State.dirPut, h]

@[simp] theorem State.dirMoves_memoryOk (s : State) (chain : List Nat) (free : Nat) (h : MemoryOk s.memory) :
    MemoryOk (s.dirMoves chain free).memory := by
  unfold State.dirMoves
  induction chain with
  | nil => exact h
  | cons a l ih => simp [ih]

@[simp] theorem State.dirInsert_memoryOk (s : State) (key index : Nat) (h : MemoryOk s.memory) :
    MemoryOk (s.dirInsert key index).1.memory := by
  simp [State.dirInsert]
  split
  · simp [h]
  · split <;> simp [h]

@[simp] theorem State.dirOp_memoryOk (s : State) (op key index : Nat) (h : MemoryOk s.memory) :
    MemoryOk (s.dirOp op key index).1.memory := by
  simp [State.dirOp, h]
  split <;> simp [h]

@[simp] theorem State.slotDone_memory (s : State) (slot code : Nat) (hit : Option Nat) :
    (s.slotDone slot code hit).memory = s.memory := by
  simp [State.slotDone]

@[simp] theorem State.dirCmd_memoryOk (s : State) (by_ slot op : Nat) (h : MemoryOk s.memory) :
    MemoryOk (s.dirCmd by_ slot op).memory := by simp [State.dirCmd, h]

@[simp] theorem State.writeSalt_memory (s : State) (v : Nat) : (s.writeSalt v).memory = s.memory := by simp [State.writeSalt]

/-! ### Machine/TdcArray.lean -/

@[simp] theorem State.stamped_memory (s : State) (c : Nat) (queued : Bool) : (s.stamped c queued).memory = s.memory := by
  simp [State.stamped]

@[simp] theorem State.missEdge_memory (s : State) (c : Nat) : (s.missEdge c).memory = s.memory := by simp [State.missEdge]

@[simp] theorem State.dropStamp_memory (s : State) (c : Nat) : (s.dropStamp c).memory = s.memory := by simp [State.dropStamp]

@[simp] theorem State.setFifo_memory (s : State) (c : Nat) (l : List Nat) : (s.setFifo c l).memory = s.memory := by
  simp [State.setFifo]

@[simp] theorem State.handStamp_memory (s : State) (c : Nat) (v : Int) : (s.handStamp c v).memory = s.memory := by
  simp [State.handStamp]

@[simp] theorem State.stampEdge_memory (s : State) (c : Nat) (falling : Bool) (num den : Nat) :
    (s.stampEdge c falling num den).memory = s.memory := by
  simp [State.stampEdge]

@[simp] theorem State.keepEdge_memory (s : State) (c : Nat) (falling : Bool) (num den : Nat) (glitch : Bool) :
    (s.keepEdge c falling num den glitch).memory = s.memory := by
  simp [State.keepEdge]

@[simp] theorem State.tdcEdge_memory (s : State) (c : Nat) (falling : Bool) (num den : Nat) :
    (s.tdcEdge c falling num den).memory = s.memory := by
  simp [State.tdcEdge]

@[simp] theorem State.writeStamp_memoryOk (s : State) (c : Nat) (h : MemoryOk s.memory) :
    MemoryOk (s.writeStamp c).memory := by
  unfold State.writeStamp
  split <;> simp [h]

@[simp] theorem State.writeChEn_memory (s : State) (c : Nat) (en ringEn : Bool) : (s.writeChEn c en ringEn).memory = s.memory := by
  simp [State.writeChEn]

@[simp] theorem State.writeDec_memory (s : State) (c d : Nat) : (s.writeDec c d).memory = s.memory := by simp [State.writeDec]

@[simp] theorem State.writeChCfg_memory (s : State) (c v : Nat) : (s.writeChCfg c v).memory = s.memory := by simp [State.writeChCfg]

@[simp] theorem State.showOven_memory (s : State) (temp : Int) (mw settle : Nat) :
    (s.showOven temp mw settle).memory = s.memory := by
  simp [State.showOven]

@[simp] theorem State.soakClear_memory (s : State) : (s.soakClear).memory = s.memory := by simp [State.soakClear]

@[simp] theorem State.ovenSlow_memoryOk (s : State) (h : MemoryOk s.memory) :
    MemoryOk (s.ovenSlow).memory := by simp [State.ovenSlow, h]

@[simp] theorem State.calStart_memory (s : State) (c : Nat) (cmd : Option Nat) : (s.calStart c cmd).memory = s.memory := by
  unfold State.calStart
  repeat' split
  all_goals simp

@[simp] theorem State.calGo_memory (s : State) (c : Nat) : (s.calGo c).memory = s.memory := by simp [State.calGo]

@[simp] theorem State.unchecked_memory (s : State) (x : Cal) (common : Nat) : (s.unchecked x common).memory = s.memory := by
  simp [State.unchecked]

@[simp] theorem State.overlapEnd_memory (s : State) (c common : Nat) (diff : Int) :
    (s.overlapEnd c common diff).memory = s.memory := by
  unfold State.overlapEnd
  split <;> simp

@[simp] theorem State.coreCalDone_memoryOk (s : State) (c residual : Nat) (h : MemoryOk s.memory) :
    MemoryOk (s.coreCalDone c residual).memory := by
  simp [State.coreCalDone, h]
  repeat' split
  all_goals simp [h]

@[simp] theorem State.spareCalDone_memoryOk (s : State) (k residual : Nat) (h : MemoryOk s.memory) :
    MemoryOk (s.spareCalDone k residual).memory := by simp [State.spareCalDone, h]

@[simp] theorem State.calDue_memory (s : State) (c : Nat) : (s.calDue c).memory = s.memory := by simp [State.calDue]

@[simp] theorem State.spareCalDue_memory (s : State) (k : Nat) : (s.spareCalDue k).memory = s.memory := by simp [State.spareCalDue]

@[simp] theorem State.autoCal_memory (s : State) : (s.autoCal).memory = s.memory := by
  unfold State.autoCal
  repeat' split
  all_goals simp

/-! ### Machine/Links.lean -/

@[simp] theorem State.rejLink_memory (s : State) (n : Nat) : (s.rejLink n).memory = s.memory := by simp [State.rejLink]

theorem State.linkGate_memoryOk (s : State) (act : State → State) (hact : ∀ u, MemoryOk u.memory → MemoryOk (act u).memory)
    (h : MemoryOk s.memory) : MemoryOk (s.linkGate act).memory := by
  unfold State.linkGate
  split <;> simp [h, hact]

@[simp] theorem State.linkGate_memory (s : State) (act : State → State) (hact : ∀ u, (act u).memory = u.memory) :
    (s.linkGate act).memory = s.memory := by
  simp [State.linkGate, hact]

@[simp] theorem State.linkTrain_memory (s : State) (n : Nat) : (s.linkTrain n).memory = s.memory := by simp [State.linkTrain]

@[simp] theorem State.linkDown_memory (s : State) (n : Nat) : (s.linkDown n).memory = s.memory := by simp [State.linkDown]

@[simp] theorem State.linkEnable_memory (s : State) (n : Nat) : (s.linkEnable n).memory = s.memory := by simp [State.linkEnable]

@[simp] theorem State.linkFields_memory (s : State) (n v : Nat) : (s.linkFields n v).memory = s.memory := by simp [State.linkFields]

@[simp] theorem State.writeEnable_memory (s : State) (n v : Nat) : (s.writeEnable n v).memory = s.memory := by
  simp [State.writeEnable]

@[simp] theorem State.cdrLock_memory (s : State) (n : Nat) (phase : Int) : (s.cdrLock n phase).memory = s.memory := by
  simp [State.cdrLock]

@[simp] theorem State.blockLock_memory (s : State) (n : Nat) (an : Bool) : (s.blockLock n an).memory = s.memory := by
  simp [State.blockLock]

@[simp] theorem State.cdrLoss_memory (s : State) (n : Nat) : (s.cdrLoss n).memory = s.memory := by simp [State.cdrLoss]

@[simp] theorem State.moduleLos_memory (s : State) (n : Nat) (on : Bool) : (s.moduleLos n on).memory = s.memory := by
  simp [State.moduleLos]

@[simp] theorem State.modulePresence_memory (s : State) (n : Nat) (absent : Bool) :
    (s.modulePresence n absent).memory = s.memory := by
  simp [State.modulePresence]

@[simp] theorem State.moduleTxFault_memoryOk (s : State) (n : Nat) (on : Bool) (h : MemoryOk s.memory) :
    MemoryOk (s.moduleTxFault n on).memory := by simp [State.moduleTxFault, h]

@[simp] theorem State.epLookup_memoryOk (s : State) (n : Nat) (f : List (BitVec 8)) (h : MemoryOk s.memory) :
    MemoryOk (s.epLookup n f).1.memory := by
  simp [State.epLookup, h]
  repeat' split
  all_goals simp [h]

@[simp] theorem State.dropFrame_memory (s : State) (n : Nat) (noStamp : Bool) : (s.dropFrame n noStamp).memory = s.memory := by
  simp [State.dropFrame]

@[simp] theorem State.ringWrite_memoryOk (s : State) (r : Nat) (b : List (BitVec 8)) (ents : Nat) (h : MemoryOk s.memory) :
    MemoryOk (s.ringWrite r b ents).memory := by exact memoryOk_foldl (fun _ _ h => by simp [h]) _ h

@[simp] theorem State.deliverFrame_memoryOk (s : State) (n : Nat) (f : List (BitVec 8)) (stamp flags : Nat) (ep : Option Nat) (noStamp : Bool) (h : MemoryOk s.memory) :
    MemoryOk (s.deliverFrame n f stamp flags ep noStamp).memory := by simp [State.deliverFrame, h]

@[simp] theorem State.rxStamp_memory (s : State) (n num den : Nat) : (s.rxStamp n num den).1.memory = s.memory := by
  simp [State.rxStamp]

@[simp] theorem State.classify_memoryOk (s : State) (n : Nat) (f : List (BitVec 8)) (stamp : Nat) (noStamp : Bool) (h : MemoryOk s.memory) :
    MemoryOk (s.classify n f stamp noStamp).memory := by simp [State.classify, h]

@[simp] theorem State.setQl_memory (s : State) (n ql : Nat) (valid : Bool) : (s.setQl n ql valid).memory = s.memory := by
  simp [State.setQl]

@[simp] theorem State.esmcReceive_memory (s : State) (n : Nat) (f : List (BitVec 8)) : (s.esmcReceive n f).memory = s.memory := by
  simp [State.esmcReceive]

@[simp] theorem State.linkRx_memoryOk (s : State) (n : Nat) (f : List (BitVec 8)) (good : Bool) (num den : Nat) (excess : Bool) (h : MemoryOk s.memory) :
    MemoryOk (s.linkRx n f good num den excess).memory := by simp [State.linkRx, h]

@[simp] theorem State.qlTimeout_memory (s : State) (n : Nat) : (s.qlTimeout n).memory = s.memory := by simp [State.qlTimeout]

@[simp] theorem State.linkPhase_memory (s : State) (n : Nat) (phase rt : Int) : (s.linkPhase n phase rt).memory = s.memory := by
  simp [State.linkPhase]

@[simp] theorem State.pcArm_memory (s : State) (n : Nat) : (s.pcArm n).memory = s.memory := by simp [State.pcArm]

@[simp] theorem State.pcUpdate_memoryOk (s : State) (n : Nat) (h : MemoryOk s.memory) :
    MemoryOk (s.pcUpdate n).memory := by simp [State.pcUpdate, h]

@[simp] theorem State.writeLinkTrim_memory (s : State) (n v : Nat) : (s.writeLinkTrim n v).memory = s.memory := by
  simp [State.writeLinkTrim]

@[simp] theorem State.linkReadmit_memory (s : State) (n : Nat) : (s.linkReadmit n).memory = s.memory := by simp [State.linkReadmit]

/-! ### Machine/Records.lean -/

@[simp] theorem State.getRec_memoryOk (s : State) (i : Nat) (h : MemoryOk s.memory) :
    MemoryOk (s.getRec i).1.memory := by simp [State.getRec, h]

@[simp] theorem State.putRec_memoryOk (s : State) (i : Nat) (r : Record) (h : MemoryOk s.memory) :
    MemoryOk (s.putRec i r).memory := by simp [State.putRec, h]

@[simp] theorem State.countLate_memoryOk (s : State) (link handle : Nat) (h : MemoryOk s.memory) :
    MemoryOk (s.countLate link handle).memory := by
  simp [State.countLate, h]
  split <;> simp [h]

@[simp] theorem State.setEpRun_memory (s : State) (i : Nat) (x : EpRun) : (s.setEpRun i x).memory = s.memory := by
  simp [State.setEpRun]

@[simp] theorem State.ringPut_memoryOk (s : State) (r : Nat) (l : List (BitVec 8)) (h : MemoryOk s.memory) :
    MemoryOk (s.ringPut r l).memory := by simp [State.ringPut, h]

@[simp] theorem State.epAlarm_memoryOk (s : State) (i kind st : Nat) (r : Record) (h : MemoryOk s.memory) :
    MemoryOk (s.epAlarm i kind st r).memory := by simp [State.epAlarm, h]

/-! ### Machine/Launch.lean -/

@[simp] theorem State.ringLaunch_memoryOk (s : State) (n : Nat) (h : MemoryOk s.memory) : MemoryOk (s.ringLaunch n).1.memory := by
  unfold State.ringLaunch
  dsimp only
  split
  · exact h
  · split
    · simp [h]
    · have hr := s.readRange_memoryOk 24 (s.ringEntry (32 + n) (s.ringHead (32 + n))) 128 h
      exact memoryOk_fst_of_ite hr (memoryOk_foldl_fst (fun _ _ h => by simp [h]) _ hr)

@[simp] theorem State.setHeld_memory (s : State) (n k : Nat) : (s.setHeld n k).memory = s.memory := by simp [State.setHeld]

@[simp] theorem State.setHeaded_memory (s : State) (n : Nat) (b : Bool) : (s.setHeaded n b).memory = s.memory := by
  simp [State.setHeaded]

@[simp] theorem State.countLaunch_memory (s : State) (n code : Nat) : (s.countLaunch n code).memory = s.memory := by
  unfold State.countLaunch
  split <;> simp

@[simp] theorem State.outcomeAt_memoryOk (s : State) (b a code : Nat) (stamp : Option Nat) (prim : Bool) (h : MemoryOk s.memory) :
    MemoryOk (s.outcomeAt b a code stamp prim).memory := by
  unfold State.outcomeAt
  split <;> simp [h]

@[simp] theorem State.ringComplete_memoryOk (s : State) (n : Nat) (raw : List (BitVec 8)) (code : Nat) (stamp : Option Nat) (h : MemoryOk s.memory) :
    MemoryOk (s.ringComplete n raw code stamp).memory := by simp [State.ringComplete, h]

@[simp] theorem State.launchDone_memory (s : State) (n : Nat) : (s.launchDone n).memory = s.memory := by
  simp [State.launchDone]
  split <;> simp

@[simp] theorem State.calComplete_memoryOk (s : State) (n : Nat) (x : Launch) (code : Nat) (stamp : Option Nat) (h : MemoryOk s.memory) :
    MemoryOk (s.calComplete n x code stamp).memory := by simp [State.calComplete, h]

@[simp] theorem State.calFetch_memoryOk (s : State) (n : Nat) (x : Launch) (h : MemoryOk s.memory) :
    MemoryOk (s.calFetch n x).memory := by simp [State.calFetch, h]

@[simp] theorem State.calendarFetch_memoryOk (s : State) (n : Nat) (h : MemoryOk s.memory) :
    MemoryOk (s.calendarFetch n).memory := by
  simp [State.calendarFetch, h]
  split <;> simp [h]

@[simp] theorem State.launchHeader_memoryOk (s : State) (link buf : Nat) (h : MemoryOk s.memory) :
    MemoryOk (s.launchHeader link buf).1.memory := by simp [State.launchHeader, h]

@[simp] theorem State.calPlace_memory (s : State) (link buf : Nat) (notify : Bool) (h : List (BitVec 8)) :
    (s.calPlace link buf notify h).1.memory = s.memory := by
  unfold State.calPlace
  dsimp only
  split
  · rfl
  · exact s.setLink_memory _ _

@[simp] theorem State.schedPlace_memoryOk (s : State) (tok link buf : Nat) (notify : Bool) (h : MemoryOk s.memory) :
    MemoryOk (s.schedPlace tok link buf notify).1.memory := by
  have hh := s.launchHeader_memoryOk link buf h
  unfold State.schedPlace
  split
  · exact h
  · split
    · exact h
    · dsimp only
      split
      · exact hh
      · split
        · exact hh
        · split
          · exact hh
          · rw [State.calPlace_memory]
            exact hh

@[simp] theorem State.schedCancel_memory (s : State) (tok handle : Nat) : (s.schedCancel tok handle).1.memory = s.memory := by
  simp [State.schedCancel]
  split <;> simp

@[simp] theorem State.depart_memory (s : State) (n : Nat) (raw : List (BitVec 8)) (num den dur : Nat) (pred : Int) :
    (s.depart n raw num den dur pred).1.memory = s.memory := by
  simp [State.depart]

@[simp] theorem State.sendRing_memoryOk (s : State) (n : Nat) (raw : List (BitVec 8)) (num den dur : Nat) (pred : Int) (h : MemoryOk s.memory) :
    MemoryOk (s.sendRing n raw num den dur pred).memory := by simp [State.sendRing, h]

@[simp] theorem State.sendCal_memoryOk (s : State) (n : Nat) (x : Launch) (raw : List (BitVec 8)) (num den dur : Nat) (pred : Int) (h : MemoryOk s.memory) :
    MemoryOk (s.sendCal n x raw num den dur pred).memory := by simp [State.sendCal, h]

@[simp] theorem State.calReady_memoryOk (s : State) (n : Nat) (h : MemoryOk s.memory) :
    MemoryOk (s.calReady n).memory := by
  unfold State.calReady
  split <;> simp [h]

@[simp] theorem State.launchSend_memoryOk (s : State) (n : Nat) (ring : Option (List (BitVec 8))) (num den dur : Nat) (pred : Int) (h : MemoryOk s.memory) :
    MemoryOk (s.launchSend n ring num den dur pred).memory := by
  simp [State.launchSend, h]
  split <;> simp [h]

@[simp] theorem State.launchStep_memoryOk (s : State) (n num den dur : Nat) (pred : Int) (h : MemoryOk s.memory) :
    MemoryOk (s.launchStep n num den dur pred).memory := by
  have hr := (s.calReady n).ringLaunch_memoryOk n (s.calReady_memoryOk n h)
  unfold State.launchStep
  dsimp only
  generalize (s.calReady n).ringLaunch n = p at hr
  split
  · simp [hr]
  · split
    · simp [hr]
    · split <;> simp [hr]

@[simp] theorem State.launchFrame_memoryOk (s : State) (n num den dur : Nat) (pred : Int) (h : MemoryOk s.memory) :
    MemoryOk (s.launchFrame n num den dur pred).memory := by simp [State.launchFrame, h]

@[simp] theorem State.ringDown_memoryOk (n k : Nat) (s : State) (h : MemoryOk s.memory) :
    MemoryOk (State.ringDown n k s).memory := by
  induction k generalizing s with
  | zero => exact h
  | succ k ih =>
    have hr := s.ringLaunch_memoryOk n h
    unfold State.ringDown
    split <;> simp_all

@[simp] theorem State.calDown_memoryOk (s : State) (n : Nat) (h : MemoryOk s.memory) :
    MemoryOk (s.calDown n).memory := by exact memoryOk_foldl (fun _ _ h => by simp [h]) _ h

@[simp] theorem State.linkStop_memoryOk (s : State) (n : Nat) (h : MemoryOk s.memory) : MemoryOk (s.linkStop n).memory := by
  unfold State.linkStop
  extract_lets s₁ s₂ s₃
  have h₂ : MemoryOk s₂.memory := by simp [s₂, s₁, h]
  split <;> simp [s₃, h₂]

@[simp] theorem State.writeDisable_memoryOk (s : State) (n v : Nat) (h : MemoryOk s.memory) :
    MemoryOk (s.writeDisable n v).memory := by simp [State.writeDisable, h]

/-! ### Machine/Feed.lean -/

@[simp] theorem State.feedCount_memory (s : State) (code : Nat) : (s.feedCount code).memory = s.memory := by
  unfold State.feedCount
  split <;> simp

@[simp] theorem State.feedState_memory (s : State) : (s.feedState).memory = s.memory := by simp [State.feedState]

@[simp] theorem State.feedApply_memory (s : State) (x : Int) (t : Nat) : (s.feedApply x t).memory = s.memory := by
  simp [State.feedApply]

@[simp] theorem State.feed_memory (s : State) (x : Int) (raw : Nat) : (s.feed x raw).2.memory = s.memory := by simp [State.feed]

/-! ### Machine/Nv.lean -/

@[simp] theorem State.nvSense_memory (s : State) (res vin : Nat) : (s.nvSense res vin).memory = s.memory := by simp [State.nvSense]

@[simp] theorem State.setBufs_memory (s : State) (l : List NvBuf) : (s.setBufs l).memory = s.memory := by simp [State.setBufs]

@[simp] theorem State.nvCe_memoryOk (s : State) (h : MemoryOk s.memory) :
    MemoryOk (s.nvCe).memory := by simp [State.nvCe, h]

@[simp] theorem State.nvUe_memoryOk (s : State) (off : Nat) (h : MemoryOk s.memory) :
    MemoryOk (s.nvUe off).memory := by simp [State.nvUe, h]

@[simp] theorem State.nvRead_memoryOk (s : State) (off : Nat) (h : MemoryOk s.memory) :
    MemoryOk (s.nvRead off).1.memory := by
  simp [State.nvRead, h]
  repeat' split
  all_goals simp [h]

@[simp] theorem State.freshPage_memory (s : State) (page : Nat) : (s.freshPage page).memory = s.memory := by simp [State.freshPage]

@[simp] theorem State.nvCommit_memoryOk (s : State) (b : NvBuf) (h : MemoryOk s.memory) :
    MemoryOk (s.nvCommit b).memory := by simp [State.nvCommit, h]

@[simp] theorem State.tearCommit_memoryOk (s : State) (tear : Option (Nat × Nat × Nat)) (h : MemoryOk s.memory) :
    MemoryOk (s.tearCommit tear).memory := by
  unfold State.tearCommit
  split
  · exact h
  · split
    · exact h
    · extract_lets a n s₁ s₂
      have h₁ : MemoryOk s₁.memory := memoryOk_foldl (fun _ _ h => by simp [h]) _ h
      simp [s₂, h₁]

@[simp] theorem State.nvFlush_memoryOk (s : State) (h : MemoryOk s.memory) : MemoryOk s.nvFlush.memory := by
  unfold State.nvFlush
  split
  · exact memoryOk_foldl (fun _ _ h => by simp [h]) _ h
  · exact h

@[simp] theorem State.openBuf_memoryOk (s : State) (page : Nat) (h : MemoryOk s.memory) :
    MemoryOk (s.openBuf page).memory := by
  simp [State.openBuf, h]
  repeat' split
  all_goals simp [h]

@[simp] theorem State.nvWrite_memoryOk (s : State) (off v : Nat) (h : MemoryOk s.memory) :
    MemoryOk (s.nvWrite off v).memory := by
  simp [State.nvWrite, h]
  split <;> simp [h]

@[simp] theorem State.nvIdle_memoryOk (s : State) (h : MemoryOk s.memory) :
    MemoryOk (s.nvIdle).memory := by
  simp only [State.nvIdle]
  refine memoryOk_foldl (fun u a h => ?_) _ h
  simp [h]

@[simp] theorem State.evalRecord_memoryOk (s : State) (k : Nat) (h : MemoryOk s.memory) :
    MemoryOk (s.evalRecord k).memory := by simp [State.evalRecord, h]

@[simp] theorem State.evalRecords_memoryOk (s : State) (h : MemoryOk s.memory) : MemoryOk s.evalRecords.memory :=
  State.evalRecord_memoryOk _ 2 (State.evalRecord_memoryOk _ 1 (s.evalRecord_memoryOk 0 h))

@[simp] theorem State.foundTorn_memory (s : State) (p : Nat) : (s.foundTorn p).memory = s.memory := by simp [State.foundTorn]

@[simp] theorem State.nvScan_memoryOk (s : State) (torn ce ue : List Nat) (h : MemoryOk s.memory) :
    MemoryOk (s.nvScan torn ce ue).memory := by
  unfold State.nvScan
  split
  · exact h
  · extract_lets _ _ s₁ s₂ s₃ s₄
    have h₁ : MemoryOk s₁.memory := by simpa [s₁] using h
    have h₂ : MemoryOk s₂.memory := memoryOk_foldl (fun _ _ h => by simp [h]) _ h₁
    have h₃ : MemoryOk s₃.memory := memoryOk_foldl (fun _ _ h => by simp [h]) _ h₂
    simp [s₄, h₃]

/-! ### Machine/Endpoints.lean -/

@[simp] theorem State.stateAlarm_memoryOk (s : State) (i was : Nat) (r : Record) (h : MemoryOk s.memory) :
    MemoryOk (s.stateAlarm i was r).memory := by simp [State.stateAlarm, h]

@[simp] theorem State.intervalClose_memoryOk (s : State) (i : Nat) (h : MemoryOk s.memory) :
    MemoryOk (s.intervalClose i).memory := by simp [State.intervalClose, h]

@[simp] theorem State.syncPlace_memoryOk (s : State) (i buf : Nat) (h : MemoryOk s.memory) :
    MemoryOk (s.syncPlace i buf).memory := by
  have hr := s.getRec_memoryOk i h
  unfold State.syncPlace
  dsimp only
  generalize s.getRec i = p at hr
  refine memoryOk_of_ite hr (memoryOk_of_ite (by simp [hr]) (State.putRec_memoryOk _ _ _ ?_))
  simp [hr]

@[simp] theorem State.intervalEnd_memoryOk (s : State) (i buf : Nat) (h : MemoryOk s.memory) :
    MemoryOk (s.intervalEnd i buf).memory := by simp [State.intervalEnd, h]

@[simp] theorem State.roleFeed_memory (s : State) (g : Nat) (x : Int) (t : Nat) : (s.roleFeed g x t).memory = s.memory := by
  unfold State.roleFeed
  split <;> simp

@[simp] theorem State.completeExchange_memory (s : State) (i : Nat) (r : Record) (temp : Int) (t1 t2 t3 t4 : Nat) :
    (s.completeExchange i r temp t1 t2 t3 t4).1.memory = s.memory := by
  simp [State.completeExchange]

@[simp] theorem State.matched_memory (s : State) (i : Nat) (r : Record) (lost moved done : Bool) (temp : Int) (t1 t2 t3 t4 : Nat) :
    (s.matched i r lost moved done temp t1 t2 t3 t4).1.memory = s.memory := by
  simp [State.matched]
  split <;> simp

@[simp] theorem State.epFrame_memoryOk (s : State) (n : Nat) (moved full : Bool) (t1 t2 t3 t4 : Nat) (temp : Int)
    (h : MemoryOk s.memory) : MemoryOk (s.epFrame n moved full t1 t2 t3 t4 temp).memory := by
  have hr := s.readRange_memoryOk 24 (s.ringEntry n (s.ringHead n)) 128 h
  unfold State.epFrame
  dsimp only
  generalize s.readRange 24 (s.ringEntry n (s.ringHead n)) 128 = p at hr
  refine memoryOk_of_ite h (memoryOk_of_ite (by simp [hr]) (memoryOk_of_ite (by simp [hr]) (State.stateAlarm_memoryOk _ _ _ _ ?_)))
  simp [hr]

theorem State.epHead_memoryOk {s t : State} {g : Nat} {c : EpCmd} (h : MemoryOk s.memory) (ht : s.epHead g = some (t, c)) :
    MemoryOk t.memory := by
  unfold State.epHead at ht
  dsimp only at ht
  split at ht
  · cases ht
  · cases ht
    simp [h]

@[simp] theorem State.epAnswer_memoryOk (s : State) (g : Nat) (c : EpCmd) (status slot : Nat) (h : MemoryOk s.memory) :
    MemoryOk (s.epAnswer g c status slot).memory := by simp [State.epAnswer, h]

@[simp] theorem State.epCommand_memoryOk (s : State) (g : Nat) (ops : Nat → Bool) (act : State → EpCmd → State × Nat × Nat)
    (hact : ∀ u c, MemoryOk u.memory → MemoryOk (act u c).1.memory) (h : MemoryOk s.memory) :
    MemoryOk (s.epCommand g ops act).memory := by
  unfold State.epCommand
  split
  · exact h
  · have := State.epHead_memoryOk h ‹_›
    split <;> simp [*]

@[simp] theorem State.onRecord_memoryOk (s : State) (g : Nat) (c : EpCmd) (pre : State → Record → Bool) (act : State → Record → State × Nat × Nat) (hact : ∀ u a1, MemoryOk u.memory → MemoryOk (act u a1).1.memory) (h : MemoryOk s.memory) :
    MemoryOk (s.onRecord g c pre act).1.memory := by simp [State.onRecord, h, hact]

@[simp] theorem State.onPair_memoryOk (s : State) (g : Nat) (c : EpCmd) (pre : Record → Record → Bool) (act : State → Record → Record → State) (hact : ∀ u a1 a2, MemoryOk u.memory → MemoryOk (act u a1 a2).memory) (h : MemoryOk s.memory) :
    MemoryOk (s.onPair g c pre act).1.memory := by simp [State.onPair, h, hact]

@[simp] theorem State.hbImage_memoryOk (s : State) (off : Nat) (h : MemoryOk s.memory) :
    MemoryOk (s.hbImage off).1.memory := by simp [State.hbImage, h]

@[simp] theorem State.joins_memory (s : State) (i : Nat) : (s.joins i).memory = s.memory := by simp [State.joins]

@[simp] theorem State.roleDir_memoryOk (s : State) (g op key index : Nat) (h : MemoryOk s.memory) :
    MemoryOk (s.roleDir g op key index).1.memory := by
  unfold State.roleDir
  split <;> simp [h]

@[simp] theorem State.provision_memoryOk (s : State) (g : Nat) (c : EpCmd) (h : MemoryOk s.memory) :
    MemoryOk (s.provision g c).1.memory :=
  State.onRecord_memoryOk _ _ _ _ _ (fun u r h => by
    have hd := u.roleDir_memoryOk g 1 c.key c.index h
    dsimp only
    split <;> simp [hd]) h

@[simp] theorem State.cancelLaunches_memory (s : State) (g : Nat) (r : Record) : (s.cancelLaunches g r).memory = s.memory := by
  simp [State.cancelLaunches]

@[simp] theorem State.spare_memoryOk (s : State) (g : Nat) (c : EpCmd) (h : MemoryOk s.memory) : MemoryOk (s.spare g c).1.memory :=
  State.onPair_memoryOk _ _ _ _ _ (fun u d p h => by simp [h]) h

@[simp] theorem State.epReadmit_memoryOk (s : State) (g : Nat) (c : EpCmd) (h : MemoryOk s.memory) :
    MemoryOk (s.epReadmit g c).1.memory :=
  State.onRecord_memoryOk _ _ _ _ _ (fun u r h => by simp [h]) h

@[simp] theorem State.restore_memoryOk (s : State) (g : Nat) (c : EpCmd) (h : MemoryOk s.memory) :
    MemoryOk (s.restore g c).1.memory :=
  State.onPair_memoryOk _ _ _ _ _ (fun u d p h => by simp [h]) h

@[simp] theorem State.retire_memoryOk (s : State) (g : Nat) (c : EpCmd) (h : MemoryOk s.memory) :
    MemoryOk (s.retire g c).1.memory :=
  State.onRecord_memoryOk _ _ _ _ _ (fun u r h => by
    dsimp only
    split <;> simp [h]) h

@[simp] theorem State.epFree_memoryOk (s : State) (g : Nat) (c : EpCmd) (h : MemoryOk s.memory) :
    MemoryOk (s.epFree g c).1.memory :=
  State.onRecord_memoryOk _ _ _ _ _ (fun u r h => by simp [h]) h

@[simp] theorem State.epSetCal_memoryOk (s : State) (g : Nat) (c : EpCmd) (h : MemoryOk s.memory) :
    MemoryOk (s.epSetCal g c).1.memory :=
  State.onRecord_memoryOk _ _ _ _ _ (fun u r h => by simp [h]) h

@[simp] theorem State.readRecord_memoryOk (s : State) (g : Nat) (c : EpCmd) (h : MemoryOk s.memory) :
    MemoryOk (s.readRecord g c).1.memory := by simp [State.readRecord, h]

/-! ### Machine/Image.lean -/

@[simp] theorem State.rejReg_memory (s : State) (addr : Nat) : (s.rejReg addr).memory = s.memory := by
  unfold State.rejReg
  split <;> simp

@[simp] theorem State.loadField_memory (s : State) (addr value : Nat) (f : FieldDef) :
    (s.loadField addr value f).memory = s.memory := by
  simp [State.loadField]

@[simp] theorem State.loadTriple_memory (s : State) (t : Nat × Nat × Nat) : (s.loadTriple t).memory = s.memory := by
  simp [State.loadTriple]

@[simp] theorem State.loadBytes_memoryOk (s : State) (a n v : Nat) (h : MemoryOk s.memory) :
    MemoryOk (s.loadBytes a n v).memory := by simp [State.loadBytes, h]

@[simp] theorem State.loadRecord_memoryOk (s : State) (r : Nat × Nat × Nat × Nat) (h : MemoryOk s.memory) :
    MemoryOk (s.loadRecord r).memory := by
  simp only [State.loadRecord]
  refine memoryOk_foldl (fun u a h => ?_) _ h
  simp [h]

@[simp] theorem State.showGens_memory (s : State) : (s.showGens).memory = s.memory := by simp [State.showGens]

@[simp] theorem State.otpEnd_memory (s : State) (code : Nat) : (s.otpEnd code).memory = s.memory := by simp [State.otpEnd]

@[simp] theorem State.otpGo_memory (s : State) (op gen : Nat) : (s.otpGo op gen).memory = s.memory := by simp [State.otpGo]

@[simp] theorem State.otpSense_memory (s : State) (low : Bool) : (s.otpSense low).memory = s.memory := by simp [State.otpSense]

@[simp] theorem State.burnWord_memoryOk (s : State) (off v stuck : Nat) (h : MemoryOk s.memory) :
    MemoryOk (s.burnWord off v stuck).1.memory := by simp [State.burnWord, h]

@[simp] theorem State.burnTwo_memoryOk (s : State) (o0 v0 k0 o1 v1 k1 : Nat) (h : MemoryOk s.memory) :
    MemoryOk (s.burnTwo o0 v0 k0 o1 v1 k1).1.memory := by
  have hw := s.burnWord_memoryOk o0 v0 k0 h
  unfold State.burnTwo
  split <;> simp_all

@[simp] theorem State.burnRun_memoryOk (s : State) (x : OtpRun) (stuck0 stuck1 : Nat) (h : MemoryOk s.memory) :
    MemoryOk (s.burnRun x stuck0 stuck1).1.memory := by
  unfold State.burnRun
  dsimp only
  split
  · simp [h]
  · simp [h]
  · exact memoryOk_fst_of_ite h (by simp [h])
  · exact h

@[simp] theorem State.adoptEnd_memory (s : State) (x : OtpRun) : (s.adoptEnd x).memory = s.memory := by simp [State.adoptEnd]

@[simp] theorem State.otpComplete_memoryOk (s : State) (stuck0 stuck1 : Nat) (h : MemoryOk s.memory) :
    MemoryOk (s.otpComplete stuck0 stuck1).memory := by
  unfold State.otpComplete
  split
  · exact h
  · refine memoryOk_of_ite h (memoryOk_of_ite ?_ ?_) <;> simp [h]

/-! ### Machine/Rings.lean -/

@[simp] theorem State.rejRing_memory (s : State) (r : Nat) : (s.rejRing r).memory = s.memory := by simp [State.rejRing]

@[simp] theorem State.ringShape_memory (s : State) (r v : Nat) : (s.ringShape r v).memory = s.memory := by simp [State.ringShape]

@[simp] theorem State.ringTurnOn_memory (s : State) (r : Nat) : (s.ringTurnOn r).memory = s.memory := by simp [State.ringTurnOn]

@[simp] theorem State.ringCfg_memory (s : State) (r v : Nat) : (s.ringCfg r v).memory = s.memory := by simp [State.ringCfg]

@[simp] theorem State.writeRingCfg_memory (s : State) (r v : Nat) : (s.writeRingCfg r v).memory = s.memory := by
  simp [State.writeRingCfg]

@[simp] theorem State.writeRingBase_memory (s : State) (r v : Nat) : (s.writeRingBase r v).memory = s.memory := by
  simp [State.writeRingBase]

@[simp] theorem State.writeRingSide_memory (s : State) (r : Nat) (prod : Bool) (v : Nat) :
    (s.writeRingSide r prod v).memory = s.memory := by
  simp [State.writeRingSide]

@[simp] theorem State.rejDoorbell_memory (s : State) (r : Nat) : (s.rejDoorbell r).memory = s.memory := by simp [State.rejDoorbell]

@[simp] theorem State.doorbell_memory (s : State) (r idx : Nat) : (s.doorbell r idx).memory = s.memory := by simp [State.doorbell]

@[simp] theorem State.copyGate_memoryOk (s : State) (h : MemoryOk s.memory) :
    MemoryOk (s.copyGate).memory := by simp [State.copyGate, h]

@[simp] theorem State.copyUe_memory (s : State) (r : Nat) (bad : Bool) : (s.copyUe r bad).memory = s.memory := by
  simp [State.copyUe]

@[simp] theorem State.ringRefuses_memoryOk (s : State) (r role buf : Nat) (push : Bool) (h : MemoryOk s.memory) :
    MemoryOk (s.ringRefuses r role buf push).1.memory := by simp [State.ringRefuses, h]

@[simp] theorem State.pushOp_memoryOk (s : State) (r role buf : Nat) (h : MemoryOk s.memory) :
    MemoryOk (s.pushOp r role buf).1.memory := by
  have hr := s.ringRefuses_memoryOk r role buf true h
  unfold State.pushOp
  split <;> simp_all

@[simp] theorem State.popOp_memoryOk (s : State) (r role buf : Nat) (peek : Bool) (h : MemoryOk s.memory) :
    MemoryOk (s.popOp r role buf peek).1.memory := by
  have hr := s.ringRefuses_memoryOk r role buf false h
  unfold State.popOp
  split <;> simp_all

/-! ### Machine/RegPath.lean -/

@[simp] theorem State.plainField_memory (s : State) (a v : Nat) (f : FieldDef) : (s.plainField a v f).memory = s.memory := by
  unfold State.plainField
  split <;> simp

@[simp] theorem State.plainWrite_memory (s : State) (a v : Nat) : (s.plainWrite a v).memory = s.memory := by simp [State.plainWrite]

@[simp] theorem State.readClear_memory (s : State) (a : Nat) : (s.readClear a).memory = s.memory := by simp [State.readClear]

@[simp] theorem State.writeTbase_memory (s : State) (a v : Nat) : (s.writeTbase a v).memory = s.memory := by simp [State.writeTbase]

@[simp] theorem State.ownWrite_memory (s : State) (n a v : Nat) : (s.ownWrite n a v).memory = s.memory := by simp [State.ownWrite]

@[simp] theorem State.writeCandCfg_memory (s : State) (n a v : Nat) : (s.writeCandCfg n a v).memory = s.memory := by
  simp [State.writeCandCfg]

@[simp] theorem State.writeCandIn_memory (s : State) (n a v : Nat) : (s.writeCandIn n a v).memory = s.memory := by
  simp [State.writeCandIn]

@[simp] theorem State.writeCandEvents_memory (s : State) (n a v : Nat) : (s.writeCandEvents n a v).memory = s.memory := by
  simp [State.writeCandEvents]

@[simp] theorem State.writeTod_memory (s : State) (n v : Nat) : (s.writeTod n v).memory = s.memory := by simp [State.writeTod]

@[simp] theorem State.writeQual_memory (s : State) (a v : Nat) : (s.writeQual a v).memory = s.memory := by
  simp [State.writeQual]
  split <;> simp

@[simp] theorem State.writeSeamCtl_memory (s : State) (a v : Nat) : (s.writeSeamCtl a v).memory = s.memory := by
  simp [State.writeSeamCtl]

@[simp] theorem State.writeSelCmd_memory (s : State) (v : Nat) : (s.writeSelCmd v).memory = s.memory := by simp [State.writeSelCmd]

@[simp] theorem State.writeSeam_memory (s : State) (a v : Nat) : (s.writeSeam a v).memory = s.memory := by
  unfold State.writeSeam
  split <;> simp

@[simp] theorem State.writePllCmd_memory (s : State) (p v : Nat) : (s.writePllCmd p v).memory = s.memory := by
  simp [State.writePllCmd]

@[simp] theorem State.writeRampCmd_memory (s : State) (p v : Nat) : (s.writeRampCmd p v).memory = s.memory := by
  simp [State.writeRampCmd]

@[simp] theorem State.writeSynth_memory (s : State) (a v : Nat) : (s.writeSynth a v).memory = s.memory := by
  simp [State.writeSynth]
  repeat' split
  all_goals simp

@[simp] theorem State.writePpsCmd_memory (s : State) (k v : Nat) : (s.writePpsCmd k v).memory = s.memory := by
  simp [State.writePpsCmd]

@[simp] theorem State.writePpsReg_memory (s : State) (k o a v : Nat) : (s.writePpsReg k o a v).memory = s.memory := by
  unfold State.writePpsReg
  split <;> simp

@[simp] theorem State.writeOuts_memory (s : State) (a v : Nat) : (s.writeOuts a v).memory = s.memory := by
  simp [State.writeOuts]
  split <;> simp

@[simp] theorem State.writeTdc_memory (s : State) (a v : Nat) : (s.writeTdc a v).memory = s.memory := by
  simp only [State.writeTdc]
  repeat' split
  all_goals simp

@[simp] theorem State.writeLnkCmd_memory (s : State) (n v : Nat) : (s.writeLnkCmd n v).memory = s.memory := by
  simp [State.writeLnkCmd]

@[simp] theorem State.writeLinks_memoryOk (s : State) (a v : Nat) (h : MemoryOk s.memory) :
    MemoryOk (s.writeLinks a v).memory := by simp [State.writeLinks, h]

@[simp] theorem State.writeEpdir_memoryOk (s : State) (by_ a v : Nat) (h : MemoryOk s.memory) :
    MemoryOk (s.writeEpdir by_ a v).memory := by simp [State.writeEpdir, h]

@[simp] theorem State.writePlan_memory (s : State) (a v : Nat) : (s.writePlan a v).memory = s.memory := by simp [State.writePlan]

@[simp] theorem State.writeEngGlobal_memory (s : State) (by_ a v : Nat) : (s.writeEngGlobal by_ a v).memory = s.memory := by
  simp [State.writeEngGlobal]

@[simp] theorem State.writeTimer_memory (s : State) (n o a v : Nat) : (s.writeTimer n o a v).memory = s.memory := by
  simp [State.writeTimer]

@[simp] theorem State.writeEngN_memory (s : State) (by_ n o a v : Nat) : (s.writeEngN by_ n o a v).memory = s.memory := by
  simp [State.writeEngN]

@[simp] theorem State.writeEng_memory (s : State) (by_ a v : Nat) : (s.writeEng by_ a v).memory = s.memory := by
  simp [State.writeEng]

@[simp] theorem State.writeRings_memory (s : State) (by_ a v : Nat) : (s.writeRings by_ a v).memory = s.memory := by
  simp only [State.writeRings]
  repeat' split
  all_goals simp

@[simp] theorem State.writeBanks_memoryOk (s : State) (by_ a v : Nat) (h : MemoryOk s.memory) :
    MemoryOk (s.writeBanks by_ a v).memory := by simp [State.writeBanks, h]

@[simp] theorem State.writeFault_memoryOk (s : State) (a v : Nat) (h : MemoryOk s.memory) :
    MemoryOk (s.writeFault a v).memory := by
  unfold State.writeFault
  split <;> simp [h]

@[simp] theorem State.commitWake_memory (s : State) (v : Nat) : (s.commitWake v).memory = s.memory := by simp [State.commitWake]

@[simp] theorem State.writePwr_memory (s : State) (by_ a v : Nat) : (s.writePwr by_ a v).memory = s.memory := by
  unfold State.writePwr
  split <;> simp

@[simp] theorem State.writeSlot_memory (s : State) (by_ k o a v : Nat) : (s.writeSlot by_ k o a v).memory = s.memory := by
  simp [State.writeSlot]

@[simp] theorem State.writeHost_memory (s : State) (by_ a v : Nat) : (s.writeHost by_ a v).memory = s.memory := by
  simp [State.writeHost]

@[simp] theorem State.writeSys_memory (s : State) (by_ a v : Nat) : (s.writeSys by_ a v).memory = s.memory := by
  simp [State.writeSys]

@[simp] theorem State.adoptCount_memory (s : State) (bad : Bool) : (s.adoptCount bad).memory = s.memory := by
  simp [State.adoptCount]

@[simp] theorem State.writeMail_memory (s : State) (a v : Nat) : (s.writeMail a v).memory = s.memory := by
  unfold State.writeMail
  split <;> simp

@[simp] theorem State.writeDirect_memoryOk (s : State) (by_ a v : Nat) (h : MemoryOk s.memory) :
    MemoryOk (s.writeDirect by_ a v).memory := by
  unfold State.writeDirect
  split <;> simp [h]

@[simp] theorem State.adoptWrite_memoryOk (s : State) (a v : Nat) (h : MemoryOk s.memory) :
    MemoryOk (s.adoptWrite a v).memory := by simp [State.adoptWrite, h]

@[simp] theorem State.adoptStart_memoryOk (s : State) (gen : Nat) (h : MemoryOk s.memory) :
    MemoryOk (s.adoptStart gen).memory := by exact memoryOk_foldl (fun _ _ h => by simp [h]) _ h

@[simp] theorem State.otpCmd_memoryOk (s : State) (op gen : Nat) (h : MemoryOk s.memory) :
    MemoryOk (s.otpCmd op gen).memory := by simp [State.otpCmd, h]

@[simp] theorem State.writeNvCmd_memoryOk (s : State) (v : Nat) (h : MemoryOk s.memory) :
    MemoryOk (s.writeNvCmd v).memory := by simp [State.writeNvCmd, h]

@[simp] theorem State.writeNvOtp_memoryOk (s : State) (a v : Nat) (h : MemoryOk s.memory) :
    MemoryOk (s.writeNvOtp a v).memory := by
  unfold State.writeNvOtp
  split <;> simp [h]

@[simp] theorem State.regWrite_memoryOk (s : State) (by_ a v : Nat) (h : MemoryOk s.memory) :
    MemoryOk (s.regWrite by_ a v).memory := by simp [State.regWrite, h]

@[simp] theorem State.shown_memory (s : State) (a : Nat) : (s.shown a).memory = s.memory := by simp [State.shown]

@[simp] theorem State.regRead_memory (s : State) (a : Nat) : (s.regRead a).1.memory = s.memory := by simp [State.regRead]

/-! ### Machine/EngOps.lean -/

@[simp] theorem State.lint_memory (s : State) (e : Nat) (f : Fld) : (s.lint e f).1.memory = s.memory := by simp [State.lint]

@[simp] theorem State.offWrite_memory (s : State) (a : Nat) : (s.offWrite a).memory = s.memory := by simp [State.offWrite]

@[simp] theorem State.regStore_memoryOk (s : State) (by_ a v : Nat) (h : MemoryOk s.memory) :
    MemoryOk (s.regStore by_ a v).1.memory := by simp [State.regStore, h]

@[simp] theorem State.regLoad_memory (s : State) (a : Nat) : (s.regLoad a).1.memory = s.memory := by simp [State.regLoad]

@[simp] theorem State.load32_memoryOk (s : State) (a : Nat) (h : MemoryOk s.memory) :
    MemoryOk (s.load32 a).1.memory := by simp [State.load32, h]

@[simp] theorem State.store32_memoryOk (s : State) (by_ a v : Nat) (h : MemoryOk s.memory) :
    MemoryOk (s.store32 by_ a v).1.memory := by simp [State.store32, h]

@[simp] theorem State.loadOp_memoryOk (s : State) (a size align : Nat) (h : MemoryOk s.memory) :
    MemoryOk (s.loadOp a size align).1.memory := by
  refine memoryOk_fst_of_ite h ?_
  split <;> simp [h]

@[simp] theorem State.engStore_memoryOk (s : State) (e b a size v : Nat) (h : MemoryOk s.memory) :
    MemoryOk (s.engStore e b a size v).1.memory := by simp [State.engStore, h]

@[simp] theorem State.storeOp_memoryOk (s : State) (e : Nat) (tok : BitVec 16) (a size align v : Nat) (h : MemoryOk s.memory) :
    MemoryOk (s.storeOp e tok a size align v).1.memory := by
  refine memoryOk_fst_of_ite (by simp [h]) (memoryOk_fst_of_ite h ?_)
  split <;> simp [h]

@[simp] theorem State.atomicOp_memoryOk (s : State) (e : Nat) (tok : BitVec 16) (a size : Nat) (new : Nat → Nat)
    (h : MemoryOk s.memory) : MemoryOk (s.atomicOp e tok a size new).1.memory := by
  refine memoryOk_fst_of_ite (by simp [h]) (memoryOk_fst_of_ite h ?_)
  split
  · exact h
  · have hr := s.bankRead_memoryOk ‹_› a size h
    split <;> simp_all

@[simp] theorem State.load96_memoryOk (s : State) (a : Nat) (h : MemoryOk s.memory) :
    MemoryOk (s.load96 a).1.memory := by exact memoryOk_foldl_fst (fun _ _ h => by simp [h]) _ h

@[simp] theorem State.store96_memoryOk (s : State) (e a v : Nat) (h : MemoryOk s.memory) :
    MemoryOk (s.store96 e a v).1.memory := by exact memoryOk_foldl_fst (fun _ _ h => by simp [h]) _ h

@[simp] theorem State.tldOp_memoryOk (s : State) (a : Nat) (v1 : Bool) (h : MemoryOk s.memory) :
    MemoryOk (s.tldOp a v1).1.memory := by simp [State.tldOp, h]

@[simp] theorem State.tstOp_memoryOk (s : State) (e : Nat) (tok : BitVec 16) (a : Nat) (v1 : Bool) (v : BitVec 96) (h : MemoryOk s.memory) :
    MemoryOk (s.tstOp e tok a v1 v).1.memory := by simp [State.tstOp, h]

theorem State.ringOp_memoryOk (s : State) (e : Nat) (tok : BitVec 16) (check : Bool) (act : State → State × Nat × Nat)
    (hact : MemoryOk s.memory → MemoryOk (act s).1.memory) (h : MemoryOk s.memory) :
    MemoryOk (s.ringOp e tok check act).1.memory := by
  unfold State.ringOp
  split <;> simp [h, hact]

@[simp] theorem State.ringOp_memory (s : State) (e : Nat) (tok : BitVec 16) (check : Bool) (act : State → State × Nat × Nat) (hact : ∀ u, (act u).1.memory = u.memory) : (s.ringOp e tok check act).1.memory = s.memory := by simp [State.ringOp, hact]

@[simp] theorem State.schedOp_memoryOk (s : State) (e : Nat) (tok : BitVec 16) (aux : Nat) (ra : BitVec 64) (h : MemoryOk s.memory) :
    MemoryOk (s.schedOp e tok aux ra).1.memory := by simp [State.schedOp, h]

@[simp] theorem State.pressOp_memory (s : State) (by_ : Issuer) (aux : Nat) (ra : BitVec 64) (rb : BitVec 64) :
    (s.pressOp by_ aux ra rb).1.memory = s.memory := by
  simp [State.pressOp]
  split <;> simp

@[simp] theorem State.seamOp_memory (s : State) (aux : Nat) (ra : BitVec 64) : (s.seamOp aux ra).1.memory = s.memory := by
  simp [State.seamOp]

@[simp] theorem State.rampOp_memory (s : State) (aux : Nat) : (s.rampOp aux).1.memory = s.memory := by
  unfold State.rampOp
  split <;> simp

@[simp] theorem State.feedOp_memory (s : State) (x : BitVec 64) (t : BitVec 96) : (s.feedOp x t).1.memory = s.memory := by
  simp [State.feedOp]

@[simp] theorem State.deviceOp_memoryOk (s : State) (e : Nat) (f : Flight) (h : MemoryOk s.memory) :
    MemoryOk (s.deviceOp e f).1.memory := by
  simp [State.deviceOp, h]
  split <;> simp [h]

@[simp] theorem State.perform_memoryOk (s : State) (e : Nat) (f : Flight) (h : MemoryOk s.memory) :
    MemoryOk (s.perform e f).1.memory := by
  unfold State.perform
  split
  case h_7 => exact State.ringOp_memoryOk _ _ _ _ _ (fun h => by simp [h]) h
  case h_8 => exact State.ringOp_memoryOk _ _ _ _ _ (fun h => by simp [h]) h
  case h_9 => exact State.ringOp_memoryOk _ _ _ _ _ (fun h => by simp [h]) h
  all_goals simp [h]

/-! ### Machine/Mailbox.lean -/

@[simp] theorem State.hostFail_memory (s : State) (path code : Nat) : (s.hostFail path code).memory = s.memory := by
  simp [State.hostFail]
  split <;> simp

@[simp] theorem State.hostNow_memory (s : State) (path a : Nat) : (s.hostNow path a).1.memory = s.memory := by simp [State.hostNow]

@[simp] theorem State.hostRead_memoryOk (s : State) (path a : Nat) (h : MemoryOk s.memory) :
    MemoryOk (s.hostRead path a).1.memory := by
  simp [State.hostRead, h]
  repeat' split
  all_goals simp [h]

@[simp] theorem State.flightDone_memory (s : State) (e place : Nat) (r : OpResult) :
    (s.flightDone e place r).memory = s.memory := by
  simp [State.flightDone]

@[simp] theorem State.performFlight_memoryOk (s : State) (e : Nat) (f : Flight) (h : MemoryOk s.memory) :
    MemoryOk (s.performFlight e f).memory := by simp [State.performFlight, h]

@[simp] theorem State.performUpTo_memoryOk (s : State) (e : Nat) (f : Flight) (h : MemoryOk s.memory) :
    MemoryOk (s.performUpTo e f).memory := memoryOk_foldl (fun _ _ h => by simp [h]) _ h

@[simp] theorem State.settleBank_memoryOk (s : State) (b : Nat) (h : MemoryOk s.memory) : MemoryOk (s.settleBank b).memory :=
  memoryOk_foldl (fun _ _ h => memoryOk_foldl (fun _ _ h => by split <;> simp [h]) _ h) _ h

@[simp] theorem State.bankCfgWrite_memoryOk (s : State) (b v : Nat) (h : MemoryOk s.memory) :
    MemoryOk (s.bankCfgWrite b v).memory := by
  unfold State.bankCfgWrite
  dsimp only
  split <;> simp [h]

@[simp] theorem State.hostWrite_memoryOk (s : State) (path a v : Nat) (h : MemoryOk s.memory) :
    MemoryOk (s.hostWrite path a v).1.memory := by
  unfold State.hostWrite
  split
  · split
    · simp [h]
    · split <;> simp [h]
  · exact h

@[simp] theorem State.hostDone_memory (s : State) (path idx code : Nat) (v : Option Nat) :
    (s.hostDone path idx code v).memory = s.memory := by
  simp [State.hostDone]
  split <;> simp

@[simp] theorem State.doRead_memoryOk (s : State) (path a idx : Nat) (h : MemoryOk s.memory) :
    MemoryOk (s.doRead path a idx).memory := by simp [State.doRead, h]

@[simp] theorem State.doWrite_memoryOk (s : State) (path a idx v : Nat) (h : MemoryOk s.memory) :
    MemoryOk (s.doWrite path a idx v).memory := by
  unfold State.doWrite
  split <;> simp [h]

@[simp] theorem State.laneDo_memoryOk (s : State) (l : Nat) (o : LaneOp) (h : MemoryOk s.memory) :
    MemoryOk (s.laneDo l o).memory := by
  unfold State.laneDo
  split
  · split <;> simp [h]
  all_goals simp [h]

@[simp] theorem State.laneAdmit_memoryOk (s : State) (l : Nat) (o : LaneOp) (h : MemoryOk s.memory) :
    MemoryOk (s.laneAdmit l o).memory := by simp [State.laneAdmit, h]

@[simp] theorem State.mailboxAdmit_memoryOk (s : State) (h : MemoryOk s.memory) :
    MemoryOk (s.mailboxAdmit).memory := by
  simp [State.mailboxAdmit, h]
  split <;> simp [h]

@[simp] theorem State.admitUntil_memoryOk (l : Nat) (o : LaneOp) (n : Nat) (s : State) (h : MemoryOk s.memory) :
    MemoryOk (State.admitUntil l o n s).memory := by
  induction n generalizing s with
  | zero => exact h
  | succ n ih => exact memoryOk_of_ite (ih _ (by simp [h])) h

@[simp] theorem State.issueRead_memoryOk (s : State) (path a idx : Nat) (h : MemoryOk s.memory) :
    MemoryOk (s.issueRead path a idx).memory := by simp [State.issueRead, h]

@[simp] theorem State.issueWrite_memoryOk (s : State) (path a idx v : Nat) (h : MemoryOk s.memory) :
    MemoryOk (s.issueWrite path a idx v).memory := by simp [State.issueWrite, h]

@[simp] theorem State.wrongSize_memory (s : State) (path a : Nat) (v : Option Nat) : (s.wrongSize path a v).memory = s.memory := by
  simp [State.wrongSize]

@[simp] theorem State.bar2Doorbell_memory (s : State) (r idx : Nat) : (s.bar2Doorbell r idx).memory = s.memory := by
  simp [State.bar2Doorbell]
  split <;> simp

/-! ### Machine/IsaCore.lean -/

theorem State.issueNow_memoryOk (s : State) (e t : Nat) (act : State → State)
    (hact : ∀ u, MemoryOk u.memory → MemoryOk (act u).memory) (h : MemoryOk s.memory) : MemoryOk (s.issueNow e t act).memory :=
  memoryOk_of_ite (by simp [h]) (hact _ (by simp [h]))

@[simp] theorem State.issueNow_memory (s : State) (e t : Nat) (act : State → State) (hact : ∀ u, (act u).memory = u.memory) :
    (s.issueNow e t act).memory = s.memory := by
  simp [State.issueNow, hact]

theorem State.issue_memoryOk (s : State) (e t : Nat) (act : State → State)
    (hact : ∀ u, MemoryOk u.memory → MemoryOk (act u).memory) (h : MemoryOk s.memory) : MemoryOk (s.issue e t act).memory :=
  memoryOk_of_ite (s.issueNow_memoryOk e t act hact h) h

@[simp] theorem State.issue_memory (s : State) (e t : Nat) (act : State → State) (hact : ∀ u, (act u).memory = u.memory) :
    (s.issue e t act).memory = s.memory := by
  simp [State.issue, hact]

theorem State.withRegs_memoryOk (s : State) (e t : Nat) (uses : List Dest) (act : State → State)
    (hact : ∀ u, MemoryOk u.memory → MemoryOk (act u).memory) (h : MemoryOk s.memory) :
    MemoryOk (s.withRegs e t uses act).memory :=
  memoryOk_of_ite (by simp [h]) (hact _ h)

@[simp] theorem State.withRegs_memory (s : State) (e t : Nat) (uses : List Dest) (act : State → State) (hact : ∀ u, (act u).memory = u.memory) : (s.withRegs e t uses act).memory = s.memory := by simp [State.withRegs, hact]

@[simp] theorem State.stepPc_memory (s : State) (e t : Nat) : (s.stepPc e t).memory = s.memory := by simp [State.stepPc]

@[simp] theorem State.retireIns_memory (s : State) (e t : Nat) (x : Thread) : (s.retireIns e t x).memory = s.memory := by
  simp [State.retireIns]

@[simp] theorem State.undefinedWord_memoryOk (s : State) (e t : Nat) (h : MemoryOk s.memory) :
    MemoryOk (s.undefinedWord e t).memory := by simp [State.undefinedWord, h]

@[simp] theorem State.unlessV1_memoryOk (s : State) (e t : Nat) (act : State → State) (hact : ∀ u, MemoryOk u.memory → MemoryOk (act u).memory) (h : MemoryOk s.memory) :
    MemoryOk (s.unlessV1 e t act).memory := by simp [State.unlessV1, h, hact]

@[simp] theorem State.setDest_memory (s : State) (e t : Nat) (d : Dest) (v : BitVec 96) :
    (s.setDest e t d v).memory = s.memory := by
  unfold State.setDest
  split <;> simp

@[simp] theorem State.issueFenced_memory (s : State) (e t : Nat) (d : Dest) : (s.issueFenced e t d).memory = s.memory := by
  simp [State.issueFenced]

@[simp] theorem State.sendOp_memoryOk (s : State) (e t : Nat) (d : Dest) (op : Op) (transit : Bool) (h : MemoryOk s.memory) :
    MemoryOk (s.sendOp e t d op transit).memory := by simp [State.sendOp, h]

@[simp] theorem State.operate_memoryOk (s : State) (e t : Nat) (uses : List Dest) (d : Dest) (op : Op) (transit : Bool)
    (h : MemoryOk s.memory) : MemoryOk (s.operate e t uses d op transit).memory :=
  State.withRegs_memoryOk _ _ _ _ _ (fun u h => by simp [h]) h

@[simp] theorem State.completeCode_memory (s : State) (e t code : Nat) : (s.completeCode e t code).memory = s.memory := by
  simp [State.completeCode]

@[simp] theorem State.unstall_memory (s : State) (e t : Nat) : (s.unstall e t).memory = s.memory := by simp [State.unstall]

@[simp] theorem State.finish_memory (s : State) (e : Nat) (f : Flight) (r : OpResult) : (s.finish e f r).memory = s.memory := by
  simp [State.finish]

@[simp] theorem State.opComplete_memoryOk (s : State) (e place : Nat) (h : MemoryOk s.memory) :
    MemoryOk (s.opComplete e place).memory := by
  simp [State.opComplete, h]
  repeat' split
  all_goals simp [h]

@[simp] theorem State.alu3_memory (s : State) (e t rd ra rb : Nat) (f : BitVec 64 → BitVec 64 → BitVec 64 → BitVec 64) :
    (s.alu3 e t rd ra rb f).memory = s.memory := by
  simp [State.alu3]

@[simp] theorem State.alu2_memory (s : State) (e t rd ra : Nat) (f : BitVec 64 → BitVec 64) :
    (s.alu2 e t rd ra f).memory = s.memory := by
  simp [State.alu2]

@[simp] theorem State.aluRow_memoryOk (s : State) (e t fn rd ra rb : Nat) (h : MemoryOk s.memory) :
    MemoryOk (s.aluRow e t fn rd ra rb).memory := by
  unfold State.aluRow
  split <;> simp [h]

@[simp] theorem State.immRow_memoryOk (s : State) (e t major rd ra : Nat) (imm : BitVec 16) (h : MemoryOk s.memory) :
    MemoryOk (s.immRow e t major rd ra imm).memory := by
  unfold State.immRow
  split <;> simp [h]

@[simp] theorem State.jump_memory (s : State) (e t : Nat) (imm : BitVec 21) : (s.jump e t imm).memory = s.memory := by
  simp [State.jump]

@[simp] theorem State.branch_memory (s : State) (e t k rs : Nat) (imm : BitVec 21) : (s.branch e t k rs imm).memory = s.memory := by
  simp [State.branch]

@[simp] theorem State.call_memory (s : State) (e t : Nat) (imm : BitVec 21) : (s.call e t imm).memory = s.memory := by
  simp [State.call]

@[simp] theorem State.enter1_memory (s : State) (e t : Nat) (imm : BitVec 21) : (s.enter1 e t imm).memory = s.memory := by
  simp [State.enter1]

@[simp] theorem State.ret_memory (s : State) (e t ra : Nat) : (s.ret e t ra).memory = s.memory := by simp [State.ret]

@[simp] theorem State.load_memoryOk (s : State) (e t size rd ra : Nat) (imm : BitVec 12) (transit : Bool) (h : MemoryOk s.memory) :
    MemoryOk (s.load e t size rd ra imm transit).memory := s.operate_memoryOk e t _ _ _ transit h

@[simp] theorem State.store_memoryOk (s : State) (e t size rs ra : Nat) (imm : BitVec 12) (transit : Bool) (h : MemoryOk s.memory) :
    MemoryOk (s.store e t size rs ra imm transit).memory := s.operate_memoryOk e t _ _ _ transit h

@[simp] theorem State.atomic_memoryOk (s : State) (e t rd ra rb : Nat) (swap w32 transit : Bool) (h : MemoryOk s.memory) :
    MemoryOk (s.atomic e t rd ra rb swap w32 transit).memory :=
  State.unlessV1_memoryOk _ _ _ _ (fun u h => u.operate_memoryOk e t _ _ _ transit h) h

@[simp] theorem State.tld_memoryOk (s : State) (e t td ra : Nat) (imm : BitVec 12) (transit : Bool) (h : MemoryOk s.memory) :
    MemoryOk (s.tld e t td ra imm transit).memory := s.operate_memoryOk e t _ _ _ transit h

@[simp] theorem State.tst_memoryOk (s : State) (e t ts ra : Nat) (imm : BitVec 12) (transit : Bool) (h : MemoryOk s.memory) :
    MemoryOk (s.tst e t ts ra imm transit).memory := s.operate_memoryOk e t _ _ _ transit h

@[simp] theorem State.tadd_memory (s : State) (e t td ta rb : Nat) : (s.tadd e t td ta rb).memory = s.memory := by simp [State.tadd]

@[simp] theorem State.tsub_memory (s : State) (e t rd ta tb : Nat) : (s.tsub e t rd ta tb).memory = s.memory := by simp [State.tsub]

@[simp] theorem State.tcmp_memory (s : State) (e t rd ta tb : Nat) : (s.tcmp e t rd ta tb).memory = s.memory := by simp [State.tcmp]

@[simp] theorem State.tcvt_memoryOk (s : State) (e t k rd ta : Nat) (h : MemoryOk s.memory) :
    MemoryOk (s.tcvt e t k rd ta).memory := by simp [State.tcvt, h]

@[simp] theorem State.tcvtMk_memoryOk (s : State) (e t td ra rb : Nat) (h : MemoryOk s.memory) :
    MemoryOk (s.tcvtMk e t td ra rb).memory := by simp [State.tcvtMk, h]

@[simp] theorem State.tcvtMov_memory (s : State) (e t td ta : Nat) : (s.tcvtMov e t td ta).memory = s.memory := by
  simp [State.tcvtMov]

@[simp] theorem State.stamp_memory (s : State) (e t td rb : Nat) : (s.stamp e t td rb).memory = s.memory := by simp [State.stamp]

@[simp] theorem State.ring_memoryOk (s : State) (e t fn rd r ra : Nat) (transit : Bool) (h : MemoryOk s.memory) :
    MemoryOk (s.ring e t fn rd r ra transit).memory :=
  memoryOk_of_ite (by simp [h]) (s.operate_memoryOk e t _ _ _ transit h)

@[simp] theorem State.devRead_memoryOk (s : State) (e t rd ra : Nat) (transit : Bool) (h : MemoryOk s.memory) :
    MemoryOk (s.devRead e t rd ra transit).memory := s.operate_memoryOk e t _ _ _ transit h

@[simp] theorem State.devWrite_memoryOk (s : State) (e t rd ra rb : Nat) (transit : Bool) (h : MemoryOk s.memory) :
    MemoryOk (s.devWrite e t rd ra rb transit).memory := s.operate_memoryOk e t _ _ _ transit h

@[simp] theorem State.device_memoryOk (s : State) (e t rd : Nat) (uses : Thread → List Dest) (op : Thread → Op) (transit : Bool)
    (h : MemoryOk s.memory) : MemoryOk (s.device e t rd uses op transit).memory :=
  State.unlessV1_memoryOk _ _ _ _ (fun u h => u.operate_memoryOk e t _ _ _ transit h) h

@[simp] theorem State.press_memoryOk (s : State) (e t rd ra rb aux : Nat) (transit : Bool) (h : MemoryOk s.memory) :
    MemoryOk (s.press e t rd ra rb aux transit).memory := by simp [State.press, h]

@[simp] theorem State.seamDev_memoryOk (s : State) (e t rd ra aux : Nat) (transit : Bool) (h : MemoryOk s.memory) :
    MemoryOk (s.seamDev e t rd ra aux transit).memory := by simp [State.seamDev, h]

@[simp] theorem State.rampDev_memoryOk (s : State) (e t rd aux : Nat) (transit : Bool) (h : MemoryOk s.memory) :
    MemoryOk (s.rampDev e t rd aux transit).memory := by simp [State.rampDev, h]

@[simp] theorem State.feedDev_memoryOk (s : State) (e t rd ra ts : Nat) (transit : Bool) (h : MemoryOk s.memory) :
    MemoryOk (s.feedDev e t rd ra ts transit).memory := by simp [State.feedDev, h]

@[simp] theorem State.schedDev_memoryOk (s : State) (e t rd ra aux : Nat) (transit : Bool) (h : MemoryOk s.memory) :
    MemoryOk (s.schedDev e t rd ra aux transit).memory := by simp [State.schedDev, h]

@[simp] theorem State.waiteGo_memory (s : State) (e t rd ra : Nat) (x : Thread) : (s.waiteGo e t rd ra x).memory = s.memory := by
  simp [State.waiteGo]

@[simp] theorem State.waite_memory (s : State) (e t rd ra : Nat) : (s.waite e t rd ra).memory = s.memory := by simp [State.waite]

@[simp] theorem State.evackBit_memory (s : State) (e t m k : Nat) : (s.evackBit e t m k).memory = s.memory := by
  simp [State.evackBit]

@[simp] theorem State.evack_memory (s : State) (e t ra : Nat) : (s.evack e t ra).memory = s.memory := by simp [State.evack]

@[simp] theorem State.beatIns_memory (s : State) (e t : Nat) : (s.beatIns e t).memory = s.memory := by simp [State.beatIns]

@[simp] theorem State.fenceIns_memory (s : State) (e t : Nat) : (s.fenceIns e t).memory = s.memory := by simp [State.fenceIns]

@[simp] theorem State.epochIns_memoryOk (s : State) (e t r : Nat) (h : MemoryOk s.memory) :
    MemoryOk (s.epochIns e t r).memory := by simp [State.epochIns, h]

@[simp] theorem State.rdsr_memoryOk (s : State) (e t rd sel : Nat) (h : MemoryOk s.memory) :
    MemoryOk (s.rdsr e t rd sel).memory := by simp [State.rdsr, h]

@[simp] theorem State.wrfs_memoryOk (s : State) (e t ra : Nat) (h : MemoryOk s.memory) :
    MemoryOk (s.wrfs e t ra).memory := by simp [State.wrfs, h]

/-! ### Machine/JtagPort.lean -/

@[simp] theorem State.setIr_memory (s : State) (v : Nat) : (s.setIr v).memory = s.memory := by simp [State.setIr]

@[simp] theorem State.factoryReq_memory (s : State) (v : Nat) : (s.factoryReq v).memory = s.memory := by simp [State.factoryReq]

@[simp] theorem State.setMem_memory (s : State) (data status : Nat) : (s.setMem data status).memory = s.memory := by
  simp [State.setMem]

@[simp] theorem State.dbgMem_memoryOk (s : State) (addr data : Nat) (write : Bool) (h : MemoryOk s.memory) :
    MemoryOk (s.dbgMem addr data write).memory := by simp [State.dbgMem, h]

@[simp] theorem State.runTime_memoryOk (s : State) (e t : Nat) (x : VWord) (h : MemoryOk s.memory) :
    MemoryOk (s.runTime e t x).memory := by
  unfold State.runTime
  split <;> simp [h]

@[simp] theorem State.runMisc_memoryOk (s : State) (e t : Nat) (x : VWord) (h : MemoryOk s.memory) :
    MemoryOk (s.runMisc e t x).memory := by
  unfold State.runMisc
  split <;> simp [h]

@[simp] theorem State.runDev_memoryOk (s : State) (e t : Nat) (x : VWord) (h : MemoryOk s.memory) :
    MemoryOk (s.runDev e t x).memory := by
  unfold State.runDev
  dsimp only
  split <;> simp [h, State.press, State.seamDev, State.rampDev, State.feedDev, State.schedDev]

@[simp] theorem State.runCore_memoryOk (s : State) (e t : Nat) (x : VWord) (h : MemoryOk s.memory) :
    MemoryOk (s.runCore e t x).memory := by
  unfold State.runCore
  split <;> simp [h]

@[simp] theorem State.runWord_memoryOk (s : State) (e t : Nat) (x : VWord) (h : MemoryOk s.memory) :
    MemoryOk (s.runWord e t x).memory := by simp [State.runWord, h]

@[simp] theorem State.setEngCap_memory (s : State) (data status : Nat) : (s.setEngCap data status).memory = s.memory := by
  simp [State.setEngCap]

@[simp] theorem State.dbgRead_memory (s : State) (e t sel : Nat) : (s.dbgRead e t sel).memory = s.memory := by
  simp [State.dbgRead]
  split <;> simp

@[simp] theorem State.dbgPut_memory (s : State) (e t sel v : Nat) : (s.dbgPut e t sel v).memory = s.memory := by simp [State.dbgPut]

@[simp] theorem State.dbgWrite_memory (s : State) (e t sel v : Nat) : (s.dbgWrite e t sel v).memory = s.memory := by
  simp [State.dbgWrite]

@[simp] theorem State.completeAll_memoryOk (s : State) (e t : Nat) (h : MemoryOk s.memory) :
    MemoryOk (s.completeAll e t).memory := by exact memoryOk_foldl (fun _ _ h => by simp [h]) _ h

@[simp] theorem State.dbgStep_memoryOk (s : State) (e t : Nat) (h : MemoryOk s.memory) : MemoryOk (s.dbgStep e t).memory := by
  unfold State.dbgStep
  extract_lets s₁
  have h₁ : MemoryOk s₁.memory := by simp [s₁, h]
  have hi : MemoryOk (s₁.issueNow e t (fun s => s.runWord e t (s.fetchWord e t))).memory :=
    State.issueNow_memoryOk _ _ _ _ (fun u hu => u.runWord_memoryOk e t _ hu) h₁
  refine memoryOk_of_ite h₁ (memoryOk_of_ite ?_ (memoryOk_of_ite ?_ ?_))
  · simp [h₁]
  · simp [h₁]
  · rw [State.setEngCap_memory]
    exact State.completeAll_memoryOk _ _ _ hi

/-! ### Machine/PcieHost.lean -/

@[simp] theorem State.pcieLink_memory (s : State) (up : Bool) (gen width : Nat) (msix : Bool) :
    (s.pcieLink up gen width msix).memory = s.memory := by
  simp [State.pcieLink]

@[simp] theorem State.perst_memory (s : State) : (s.perst).memory = s.memory := by simp [State.perst]

@[simp] theorem State.msixMask_memory (s : State) (v : Nat) (mask : Bool) : (s.msixMask v mask).memory = s.memory := by
  simp [State.msixMask]

@[simp] theorem State.hostPiece_memoryOk (s : State) (a : Nat) (l : List (Option (BitVec 8))) (same : Bool) (h : MemoryOk s.memory) :
    MemoryOk (s.hostPiece a l same).memory := by
  unfold State.hostPiece
  split
  · simp [h]
  · split
    · rw [State.hostFail_memory]
      refine memoryOk_foldl_fst (p := (s, false)) (fun p r hp => ?_) _ h
      exact State.hostGroup_memoryOk p.1 _ _ _ _ _ hp
    · simp [h]

@[simp] theorem State.hostBurst_memoryOk (s : State) (n a : Nat) (l : List (Option (BitVec 8))) (same : Bool) (h : MemoryOk s.memory) :
    MemoryOk (s.hostBurst n a l same).memory := by
  induction n generalizing s a l with
  | zero => exact h
  | succ n ih => exact memoryOk_of_ite h (ih _ _ _ (s.hostPiece_memoryOk _ _ _ h))

@[simp] theorem State.ibWrite_memoryOk (s : State) (by_ n off v : Nat) (h : MemoryOk s.memory) :
    MemoryOk (s.ibWrite by_ n off v).memory := by simp [State.ibWrite, h]

/-! ### Machine/Power.lean -/

@[simp] theorem State.calibrate_memory (s : State) (period : Nat) : (s.calibrate period).memory = s.memory := by
  simp [State.calibrate]

@[simp] theorem State.writeSave_memoryOk (s : State) (st : Nat) (h : MemoryOk s.memory) :
    MemoryOk (s.writeSave st).memory := by simp [State.writeSave, h]

@[simp] theorem State.entered_memory (s : State) (st : Nat) : (s.entered st).memory = s.memory := by simp [State.entered]

@[simp] theorem State.entryDrained_memory (s : State) : (s.entryDrained).memory = s.memory := by simp [State.entryDrained]

@[simp] theorem State.darkDomains_memory (s : State) : (s.darkDomains).memory = s.memory := by simp [State.darkDomains]

@[simp] theorem State.enterSleep_memoryOk (s : State) (h : MemoryOk s.memory) : MemoryOk s.enterSleep.memory := by
  unfold State.enterSleep
  extract_lets l s₁ pw s₂ s₃ s₄
  have h₂ : MemoryOk s₂.memory := by simp [s₂, s₁, h]
  have h₃ : MemoryOk s₃.memory := memoryOk_foldl (fun s n hs => memoryOk_of_ite (s.linkStop_memoryOk n hs) hs) _ h₂
  have h₄ : MemoryOk s₄.memory := by simp [s₄, h₃]
  exact memoryOk_of_ite h₄ (by simp [h₄])

@[simp] theorem State.goDark_memoryOk (s : State) (st : Nat) (h : MemoryOk s.memory) : MemoryOk (s.goDark st).memory := by
  unfold State.goDark
  extract_lets k s₁ s₂ s₃ tb pw s₄
  have h₁ : MemoryOk s₁.memory := memoryOk_foldl (fun s b hs => s.bankPower_memoryOk b _ hs) _ h
  have h₄ : MemoryOk s₄.memory := by simp [s₄, s₃, s₂, h₁]
  simp [h₄]

@[simp] theorem State.enterDeep_memoryOk (s : State) (st cal res vin : Nat) (h : MemoryOk s.memory) :
    MemoryOk (s.enterDeep st cal res vin).memory := by
  unfold State.enterDeep
  extract_lets s₁ s₂
  have h₁ : MemoryOk s₁.memory := by simp [s₁, h]
  have h₂ : MemoryOk s₂.memory := State.writeSave_memoryOk _ _ (by simp [h₁])
  exact State.goDark_memoryOk _ _ (State.nvFlush_memoryOk _ (by simp [h₂]))

@[simp] theorem State.entrySave_memoryOk (s : State) (cal res vin : Nat) (h : MemoryOk s.memory) :
    MemoryOk (s.entrySave cal res vin).memory := by
  unfold State.entrySave
  split
  · exact h
  · split <;> simp [h]

@[simp] theorem State.wakeAlarm_memory (s : State) : (s.wakeAlarm).memory = s.memory := by simp [State.wakeAlarm]

@[simp] theorem State.brownOut_memoryOk (s : State) (h : MemoryOk s.memory) : MemoryOk s.brownOut.memory := by
  unfold State.brownOut
  extract_lets s₁ s₂ s₃
  have h₂ : MemoryOk s₂.memory := State.loseRegion_memoryOk _ (by simp [s₁, h])
  have h₃ : MemoryOk s₃.memory := memoryOk_foldl (fun s b hs => memoryOk_of_ite (State.loseRegion_memoryOk _ hs) hs) _ h₂
  exact memoryOk_of_ite (by simp [h₃]) (by simp [h₃])

@[simp] theorem State.aoOverload_memoryOk (s : State) (ma : Nat) (h : MemoryOk s.memory) : MemoryOk (s.aoOverload ma).memory := by
  unfold State.aoOverload
  extract_lets s₁
  have h₁ : MemoryOk s₁.memory := by simp [s₁, h]
  exact memoryOk_of_ite h₁ (memoryOk_of_ite (by simp [h₁]) (by simp [h₁]))

@[simp] theorem State.ovenRestored_memory (s : State) : (s.ovenRestored).memory = s.memory := by simp [State.ovenRestored]

/-! ### Machine/Recall.lean -/

@[simp] theorem State.blank_memory (s : State) : (s.blank).memory = s.memory := by simp [State.blank]

@[simp] theorem State.keep_memory (t s : State) (l : List Fld) : (t.keep s l).memory = t.memory := by simp [State.keep]

@[simp] theorem State.cutBurn_memoryOk (s : State) (k0 k1 : Nat) (h : MemoryOk s.memory) : MemoryOk (s.cutBurn k0 k1).memory := by
  unfold State.cutBurn
  split <;> simp [h]

@[simp] theorem State.hold_memoryOk (s : State) (k0 k1 : Nat) (h : MemoryOk s.memory) : MemoryOk (s.hold k0 k1).memory := by
  unfold State.hold
  extract_lets s₁ s₂ s₃
  have h₁ : MemoryOk s₁.memory := s.cutBurn_memoryOk k0 k1 h
  have h₃ : MemoryOk s₃.memory := by simp [s₃, s₂, h₁]
  simpa using h₃

@[simp] theorem State.supplyFault_memoryOk (s : State) (k0 k1 : Nat) (tear : Option (Nat × Nat × Nat)) (h : MemoryOk s.memory) :
    MemoryOk (s.supplyFault k0 k1 tear).memory :=
  memoryOk_of_ite h (State.hold_memoryOk _ _ _ (by simp [h]))

@[simp] theorem State.vaoLoss_memoryOk (s : State) (k0 k1 : Nat) (tear : Option (Nat × Nat × Nat)) (h : MemoryOk s.memory) :
    MemoryOk (s.vaoLoss k0 k1 tear).memory := by
  unfold State.vaoLoss
  extract_lets s₁ s₂ t
  have h₁ : MemoryOk s₁.memory := by
    rw [State.heaterOff_memory]
    exact State.cutBurn_memoryOk _ _ _ (by simp [h])
  have h₂ : MemoryOk s₂.memory := memoryOk_foldl (fun s r hs => State.loseRegion_memoryOk r hs) _ h₁
  have ht : MemoryOk t.memory := by simp [t, h₂]
  simpa using ht

@[simp] theorem State.parkAll_memory (s : State) : (s.parkAll).memory = s.memory := by simp [State.parkAll]

@[simp] theorem State.bootTriple_memory (s : State) (x : Nat × Nat × Nat) : (s.bootTriple x).memory = s.memory := by
  simp [State.bootTriple]

@[simp] theorem State.bootRings_memory (s : State) : (s.bootRings).memory = s.memory := by simp [State.bootRings]

@[simp] theorem State.bootPort_memory (s : State) (n : Nat) : (s.bootPort n).memory = s.memory := by simp [State.bootPort]

@[simp] theorem State.bootPulse_memory (s : State) (k : Nat) : (s.bootPulse k).memory = s.memory := by simp [State.bootPulse]

@[simp] theorem State.bootChecks_memory (s : State) : (s.bootChecks).memory = s.memory := by simp [State.bootChecks]

@[simp] theorem State.bootAdopt_memory (s : State) : s.bootAdopt.memory = s.memory := by
  unfold State.bootAdopt
  extract_lets s₁ rej s₂ s₃
  have h₃ : s₃.memory = s.memory := by simp [s₃, s₂, s₁]
  split <;> simp [h₃]

@[simp] theorem State.bootBank_memoryOk (s : State) (b : Nat) (h : MemoryOk s.memory) :
    MemoryOk (s.bootBank b).memory := by
  simp only [State.bootBank]
  repeat' split
  all_goals simp [h]

@[simp] theorem State.bootLive_memory (s : State) : (s.bootLive).memory = s.memory := by simp [State.bootLive]

@[simp] theorem State.bootLoad_memoryOk (s : State) (h : MemoryOk s.memory) : MemoryOk s.bootLoad.memory := by
  unfold State.bootLoad
  refine memoryOk_of_ite (by simp [h]) ?_
  exact memoryOk_foldl (fun s b hs => s.bootBank_memoryOk b hs) _ (by simp [h])

@[simp] theorem State.bootClear_memory (s : State) (cold : Bool) : (s.bootClear cold).memory = s.memory := by
  unfold State.bootClear
  extract_lets wake t₁ t₂ t₃ t₄
  have h₂ : t₂.memory = s.memory := by simp [t₂, t₁]
  have h₃ : t₃.memory = s.memory := by simp [t₃, h₂]
  simp [t₄, h₃]

@[simp] theorem State.recallBegin_memoryOk (s : State) (h : MemoryOk s.memory) : MemoryOk s.recallBegin.memory := by
  unfold State.recallBegin
  extract_lets cold t₁ pw t₂ t₃ t₄
  have h₂ : MemoryOk t₂.memory := by simp [t₂, t₁, h]
  have h₃ : MemoryOk t₃.memory :=
    memoryOk_of_ite (memoryOk_foldl (fun s r hs => State.loseRegion_memoryOk r hs) _ h₂) h₂
  have h₄ : MemoryOk t₄.memory := memoryOk_of_ite h₃ (by simp [h₃])
  exact State.bootLoad_memoryOk _ (by simp [h₄])

@[simp] theorem State.leaveHold_memoryOk (s : State) (h : MemoryOk s.memory) : MemoryOk s.leaveHold.memory :=
  memoryOk_of_ite (s.recallBegin_memoryOk h) h

@[simp] theorem State.loadPatch_memory (s : State) (b e : Nat) : (s.loadPatch b e).1.memory = s.memory := by
  unfold State.loadPatch
  split <;> simp

@[simp] theorem State.loadBankPatches_memory (s : State) (b : Nat) : (s.loadBankPatches b).memory = s.memory := by
  simp [State.loadBankPatches]

@[simp] theorem State.loadFactoryPatch_memory (s : State) (p : Nat × Nat) : (s.loadFactoryPatch p).memory = s.memory := by
  unfold State.loadFactoryPatch
  split <;> simp

@[simp] theorem State.loadPatchMap_memory (s : State) : s.loadPatchMap.memory = s.memory := by
  simp [State.loadPatchMap]

@[simp] theorem State.scanDone_memoryOk (s : State) (torn ce ue : List Nat) (h : MemoryOk s.memory) :
    MemoryOk (s.scanDone torn ce ue).memory := by
  have hn : MemoryOk (s.nvScan torn ce ue).memory := s.nvScan_memoryOk torn ce ue h
  exact memoryOk_of_ite (by simp [hn]) hn

@[simp] theorem State.loadTargets_memoryOk (s : State) (r : Nat × Nat × Nat × Nat) (h : MemoryOk s.memory) :
    MemoryOk (s.loadTargets r).memory := by
  simp only [State.loadTargets]
  refine memoryOk_foldl (fun u a h => ?_) _ h
  repeat' split
  all_goals simp [h]

@[simp] theorem State.loadRecords_memoryOk (s : State) (h : MemoryOk s.memory) : MemoryOk s.loadRecords.memory := by
  unfold State.loadRecords
  extract_lets g t
  have ht : MemoryOk t.memory := memoryOk_foldl (fun s r hs => s.loadTargets_memoryOk r hs) _ h
  rw [State.memory_mk, State.memory_eta]
  exact ht

@[simp] theorem State.loadHoldover_memory (s : State) (te : Nat) : (s.loadHoldover te).memory = s.memory := by
  simp [State.loadHoldover]

@[simp] theorem State.bootServo_memory (s : State) : (s.bootServo).memory = s.memory := by simp [State.bootServo]

@[simp] theorem State.restoreSave_memory (s : State) (te : Nat) : (s.restoreSave te).memory = s.memory := by
  simp [State.restoreSave]

@[simp] theorem State.refence_memory (s : State) : (s.refence).memory = s.memory := by simp [State.refence]

@[simp] theorem State.bootEngine_memory (s : State) (n : Nat) : (s.bootEngine n).memory = s.memory := by simp [State.bootEngine]

@[simp] theorem State.bootRole_memory (s : State) (r : Nat) : (s.bootRole r).memory = s.memory := by
  simp [State.bootRole]
  split <;> simp

@[simp] theorem State.bootEngines_memory (s : State) : (s.bootEngines).memory = s.memory := by simp [State.bootEngines]

@[simp] theorem State.bootPorts_memory (s : State) : (s.bootPorts).memory = s.memory := by simp [State.bootPorts]

@[simp] theorem State.bootEnter_memory (s : State) (m : Nat) : (s.bootEnter m).memory = s.memory := by simp [State.bootEnter]

@[simp] theorem State.recallLoad_memoryOk (s : State) (te : Nat) (h : MemoryOk s.memory) : MemoryOk (s.recallLoad te).memory := by
  unfold State.recallLoad
  extract_lets s₁ s₂
  have h₁ : MemoryOk s₁.memory := by
    rw [State.bootServo_memory, State.loadHoldover_memory]
    exact s.loadRecords_memoryOk h
  have h₂ : MemoryOk s₂.memory := memoryOk_of_ite h₁ (by simp [h₁])
  exact memoryOk_of_ite h₂ (by simp [h₂])

@[simp] theorem State.bootOutStd_memory (s : State) (i : Nat) : (s.bootOutStd i).memory = s.memory := by simp [State.bootOutStd]

@[simp] theorem State.bootPpsStd_memory (s : State) (k : Nat) : (s.bootPpsStd k).memory = s.memory := by simp [State.bootPpsStd]

@[simp] theorem State.senseBanks_memory (s : State) (mv : List Nat) : (s.senseBanks mv).memory = s.memory := by
  simp [State.senseBanks]

@[simp] theorem State.recallEnd_memoryOk (s : State) (mv : List Nat) (c : Nat) (h : MemoryOk s.memory) :
    MemoryOk (s.recallEnd mv c).memory := by
  unfold State.recallEnd
  extract_lets te s₁
  have h₁ : MemoryOk s₁.memory := State.recallLoad_memoryOk _ _ (by simp [h])
  exact memoryOk_of_ite h (by simp [h₁])

/-! ### Machine/Serial.lean -/

@[simp] theorem State.setFrame_memory (s : State) (path : Nat) (f : Frame) : (s.setFrame path f).memory = s.memory := by
  simp [State.setFrame]

@[simp] theorem State.frameFormat_memory (s : State) (path : Nat) (write : Bool) (addr count : Nat) :
    (s.frameFormat path write addr count).memory = s.memory := by
  simp [State.frameFormat]

@[simp] theorem State.frameRead_memoryOk (s : State) (path addr count : Nat) (h : MemoryOk s.memory) :
    MemoryOk (s.frameRead path addr count).memory := by
  refine memoryOk_of_ite (by simp [h]) ?_
  exact memoryOk_foldl (fun s i hs => s.issueRead_memoryOk path _ _ hs) _ (by simp [h])

@[simp] theorem State.frameWrite_memoryOk (s : State) (path addr count : Nat) (words : List (BitVec 32)) (h : MemoryOk s.memory) :
    MemoryOk (s.frameWrite path addr count words).memory := by
  refine memoryOk_of_ite (by simp [h]) ?_
  exact memoryOk_foldl (fun s w hs => s.issueWrite_memoryOk path _ _ _ hs) _ (by simp [h])

@[simp] theorem State.frameStatus_memory (s : State) (path : Nat) : (s.frameStatus path).memory = s.memory := by
  unfold State.frameStatus
  split <;> simp

@[simp] theorem State.frameEnd_memory (s : State) (path : Nat) : (s.frameEnd path).memory = s.memory := by
  unfold State.frameEnd
  split <;> simp

@[simp] theorem State.compatLane_memoryOk (s : State) (a : Nat) (h : MemoryOk s.memory) : MemoryOk (s.compatLane a).1.memory := by
  unfold State.compatLane
  extract_lets o h₀ s₁ s₂ t
  have ht : MemoryOk t.memory := State.admitUntil_memoryOk _ _ _ _ (by simp [s₂, s₁, h])
  exact memoryOk_fst_of_ite (by simp [ht]) ht

@[simp] theorem State.compatFetch_memoryOk (s : State) (c : CompatCache) (a : Nat) (h : MemoryOk s.memory) :
    MemoryOk (s.compatFetch c a).1.memory := by
  unfold State.compatFetch
  split
  · exact h
  · exact memoryOk_fst_of_ite (by simp [h]) (by simp [h])

@[simp] theorem State.compatValue_memoryOk (s : State) (c : CompatCache) (i : Nat) (late : Bool) (h : MemoryOk s.memory) :
    MemoryOk (s.compatValue c i late).1.memory := by
  unfold State.compatValue
  split
  · simp [h]
  · exact memoryOk_fst_of_ite (by simp [h]) (by simp [h])

@[simp] theorem State.compatValues_memoryOk (s : State) (c : CompatCache) (i : Nat) (late : List Nat) (n k : Nat) (h : MemoryOk s.memory) :
    MemoryOk (s.compatValues c i late n k).1.memory := by
  induction n generalizing s c k with
  | zero => exact h
  | succ n ih => exact ih _ _ _ (s.compatValue_memoryOk c _ _ h)

@[simp] theorem State.compatRead_memoryOk (s : State) (i count : Nat) (late : List Nat) (h : MemoryOk s.memory) :
    MemoryOk (s.compatRead i count late).memory := by
  have hv := s.compatValues_memoryOk [] i late count 0 h
  simpa [State.compatRead] using hv

@[simp] theorem State.compatWrite1_memoryOk (s : State) (i v : Nat) (h : MemoryOk s.memory) :
    MemoryOk (s.compatWrite1 i v).memory := by
  unfold State.compatWrite1
  split <;> simp [h]

@[simp] theorem State.compatWrite_memoryOk (s : State) (i : Nat) (vals : List (BitVec 16)) (ragged : Bool) (h : MemoryOk s.memory) :
    MemoryOk (s.compatWrite i vals ragged).memory := by
  refine memoryOk_of_ite (by simp [h]) ?_
  exact memoryOk_foldl (fun s v hs => s.compatWrite1_memoryOk _ _ hs) _ (by simp [h])

end Sys2Proof.Machine

/-! O59: the canonical form of memory. -/
namespace Sys2Proof.Machine
/-- Every next state that an outcome answers has its memory in canonical form. -/
def Out.KeepsForm (o : Out) : Prop := ∀ t, o = .next t → MemoryOk t.memory

theorem keepsForm_next {t : State} (h : MemoryOk t.memory) : Out.KeepsForm (.next t) := by
  rintro _ ⟨⟩
  exact h

theorem keepsForm_live {s t : State} (h : MemoryOk s.memory) (ht : MemoryOk t.memory) : Out.KeepsForm (s.live t) :=
  keepsForm_next (memoryOk_of_ite ht h)

theorem keepsForm_awake {s t : State} (h : MemoryOk s.memory) (ht : MemoryOk t.memory) : Out.KeepsForm (s.awake t) :=
  keepsForm_next (memoryOk_of_ite ht h)

theorem keepsForm_issue {s : State} {e t : Nat} {act : State → State} (h : MemoryOk s.memory)
    (hact : ∀ u, MemoryOk u.memory → MemoryOk (act u).memory) : Out.KeepsForm (.next (s.issue e t act)) :=
  keepsForm_next (memoryOk_of_ite (State.issueNow_memoryOk s e t act hact h) h)

theorem keepsForm_epCommand {s : State} {g : Nat} {ops : Nat → Bool} {act : State → EpCmd → State × Nat × Nat}
    (h : MemoryOk s.memory) (hact : ∀ u c, MemoryOk u.memory → MemoryOk (act u c).1.memory) :
    Out.KeepsForm (s.live (s.epCommand g ops act)) :=
  keepsForm_live h (s.epCommand_memoryOk g ops act hact h)

theorem execTdcRingWrite_keepsForm {s : State} (h : MemoryOk s.memory) : Out.KeepsForm (execTdcRingWrite s) := by
  refine keepsForm_live h (memoryOk_of_ite h ?_)
  split <;> simp [h]

theorem execBankCeWriteback_keepsForm (a : BitVec 32) (ue : Bool) {s : State} (h : MemoryOk s.memory) :
    Out.KeepsForm (execBankCeWriteback a ue s) := by
  refine keepsForm_live h ?_
  split
  · exact memoryOk_of_ite (s.ceWriteback_memoryOk _ _ ue h) h
  · exact h

/-- Memory stays in its form through every command: by how the command reaches its effect (a gate of the powered part, of a part
that is not held, an issue slot, or none) and the effect's own lemma. -/
theorem exec_keepsForm (c : Instr) {s : State} (h : MemoryOk s.memory) : Out.KeepsForm (exec c s) := by
  cases c
  case provision => exact keepsForm_epCommand h (fun u c hu => u.provision_memoryOk _ c hu)
  case spare => exact keepsForm_epCommand h (fun u c hu => u.spare_memoryOk _ c hu)
  case epReadmit => exact keepsForm_epCommand h (fun u c hu => u.epReadmit_memoryOk _ c hu)
  case restore => exact keepsForm_epCommand h (fun u c hu => u.restore_memoryOk _ c hu)
  case retire => exact keepsForm_epCommand h (fun u c hu => u.retire_memoryOk _ c hu)
  case free => exact keepsForm_epCommand h (fun u c hu => u.epFree_memoryOk _ c hu)
  case setcal => exact keepsForm_epCommand h (fun u c hu => u.epSetCal_memoryOk _ c hu)
  case readRecord => exact keepsForm_epCommand h (fun u c hu => u.readRecord_memoryOk _ c hu)
  case tdcRingWrite => exact execTdcRingWrite_keepsForm h
  case bankCeWriteback a ue => exact execBankCeWriteback_keepsForm a ue h
  case linkDisable => exact keepsForm_live h (s.linkGate_memoryOk _ (fun u hu => u.writeDisable_memoryOk _ _ hu) h)
  case ringDoorbell r i b =>
    cases b
    · exact keepsForm_live h (by simp [h])
    · exact keepsForm_next (by simp [h])
  case tbTick | tbNow0Read | tbIncWrite | leapArm | leapCancel | declareKnown | uncBoundGrow | tbStartTimeout
      | tsvStageAdvance | tsvRestart | tsvLastStageWrite | tsvStageWrite | tsvSrcWrite | qualPhaseSample | irigFrame
      | lossOfSignal | activityRestored | driftWatchEval | candQualify | driftHoldExpire | disqMinExpire | reobserve
      | qualCandEnWrite | qualSteppedClear | qualDriftWinWrite | select | clearPref | selPendingSeam | autoSelect
      | revertTimerExpire | seamComplete | tsLock | tsUnlock | feedLossExpire | uncertaintyPublish | seamFreeWrite
      | learnSample | hoModelRecompute | dayClose | tempMean60s | hoModelEval | snapshot | pressCmdAlign | pressCmdStep
      | pressCmdSlew | pressCmdAbort | pressStepApply | acquisitionStep | pressAlignApply | slewStart | slewEnd
      | pllPlanWrite | pllStart | pllStop | handover | handback | rotClr | ldWindowEnd | bandStale | synDomainWrite
      | synRampGo | synRampAbort | rampStartAt | rampUpdate | outCfgWrite | outDivWrite | outTrimWrite | trimWalkStep
      | syncGo | syncInEdge | syncHoldStart | syncInstant | ppsEdge | ppsCfgWrite | frArm | frStop | htRegCommit
      | tdcEdge | tdcChEnWrite | tdcChDecWrite | soakSet | soakClear | ovenSlow | tdcCalGo | tdcOverlapEnd
      | tdcCoreCalDone | tdcCalDue | tdcAutoCalStart | linkEnable | cdrLock | blockLock | cdrLoss | blockLockLoss
      | linkRxFrame | qlTimeout | esmcTxInfo | calendarFetch | launchFrame | linkPhaseSample | pcArm | pcStop
      | pcUpdate | lnkTrimWrite | linkReadmit | epdLookup | epdInsert | epdRemove | dirWindowWrite | epdDirSaltWrite
      | epIntervalEnd | epFrame | nop | badOp | threadTimer | heartbeatExpire | roleCmd | epochAdvanceDeferred | engRun
      | engPark | engDrainDone | engMbRateWrite | bnkPwrWrite | darnPreserving | darnDestructive | ringEnable
      | ringDisable | ringStopWrite | pwrEntryDrained | pwrEntrySave | ledgerCalWindow | ledgerSrcDetect
      | pcsBlockErrors =>
    exact keepsForm_live h (by simp [h])
  case mbCreditRefill | rinseEnd | darnEnd | otpWindowWrite | otpBurn | otpSeal | otpRevoke | otpAdopt | otpCmdComplete
      | nvWrite | nvBufferIdleCommit | nvFlush | nvRecheck | nvScanDone | modeCmd | modeChangeDone | pwrEnterIdle
      | pwrEnterSleep | pwrEnterDeepSleep | pwrEnterOff | pwrWakeHost | faultReport | brokenWire | promoWindowExpire
      | fltClear | fltLogAck | fltFirstAck | fltInject | hostMbRateWrite | slotPost | slotStageWrite | slotAck =>
    exact keepsForm_awake h (by simp [h])
  case registerWrite | registerReadClear | mailboxAdmit | moduleLos | moduleTxFault | opComplete | ibWrite
      | resetRelease | recallEnd | resetAssert | factoryReq | wakePin | wakeAlarm | i2cWake | aoOverload | supplyFault
      | ovenSupplyLow | vaoLoss | pciePerst | spiRead | spiWrite | spiStatus | spiCsRise | spiCompatRead
      | spiCompatWrite | i2cWriteFrame | i2cReadFrame | i2cStatusRead | i2cStop | extest | idcode | samplePreload
      | highz | clamp | bypass | dbgMem | dbgEngRead | dbgEngWrite | dbgEngStep | msixUnmask | modulePresence
      | pcieLinkState | hostBankWrite | supplyRestored | ovenSupplyRestored =>
    exact keepsForm_next (by simp [h])
  case undefinedInstruction | add | sub | and | or | xor | shl | shr | sra | mul | mulh | sel | cmpeq | cmpne | cmplt
      | cmpge | cmpltu | cmpgeu | addi | andi | ori | xori | shli | shri | srai | cmpeqi | cmpnei | cmplti | cmpgei
      | cmpltui | cmpgeui | ld8 | ld16 | ld32 | ld64 | st8 | st16 | st32 | st64 | xadd | xswp | tld | tst | br | beq
      | bne | blt | bge | call | enter1 | ret | tadd | tsub | tcmp | tcvtSec | tcvtNs | tcvtFrac | tcvtFu | tcvtMk
      | tcvtMov | stamp | push | pop | peek | waite | evack | beat | fence | rdsr | wrfs | epoch | devr | devw
      | pressAlign | pressStep | pressSlew | pressAbort | seamSelect | seamClearPref | rampGo | rampAbort | feed
      | schedPlace | schedCancel =>
    exact keepsForm_issue h (fun u hu => by simp [hu])

/-- Settles O59: every effect keeps the form of memory, and taking a command from the queue touches no byte. -/
theorem memoryForm : Obligations.MemoryForm := by
  unfold Obligations.MemoryForm
  intro s t h hstep
  unfold step at hstep
  split at hstep
  · obtain ⟨rfl⟩ := hstep
    exact h
  · next c rest hq => exact exec_keepsForm c (s := { s with pending := rest }) (by simpa using s.memOk_iff.1 h) t hstep

end Sys2Proof.Machine

/-! O57, O58 and O60: the step, and the state after reset. -/
namespace Sys2Proof.Machine
theorem exec_next (c : Instr) (s : State) : ∃ t, exec c s = .next t := by
  cases c
  case ringDoorbell r i b => cases b <;> exact ⟨_, rfl⟩
  all_goals exact ⟨_, rfl⟩

/-- Settles O57: the queue's front decides the step by definition, and no arm of `exec` answers a fault or a refusal. -/
theorem stepRunsTheFront : Obligations.StepRunsTheFront :=
  ⟨fun _ _ _ => rfl, fun s h => by rw [step, h], exec_next⟩

/-- Settles O58: no byte is listed after reset. -/
theorem resetMemoryForm : Obligations.ResetMemoryForm := ⟨rfl, rfl⟩

/-- Settles O60: each value is read off the reset state. -/
theorem resetValues : Obligations.ResetValues := by
  unfold Obligations.ResetValues
  intro r
  refine ⟨rfl, rfl, ?_⟩
  decide +kernel
end Sys2Proof.Machine

/-! SUPPORT. How a command that answers a next state is shown to have an effect, and which register fields a chain of writes leaves
alone. -/
namespace Sys2Proof.Machine

/-! ### A command completes -/

theorem does_next {c : Instr} {s t : State} {P : State → Prop} (he : exec c s = .next t) (h : P t) : Does c s P := ⟨t, he, h⟩

/-- What a command does holds of the one next state that it answers. -/
theorem Does.of_exec {c : Instr} {s t : State} {P : State → Prop} (h : Does c s P) (he : exec c s = .next t) : P t := by
  obtain ⟨u, hu, hP⟩ := h
  rw [he] at hu
  injection hu with hu
  rwa [hu]

theorem does_live {c : Instr} {s t : State} {P : State → Prop} (he : exec c s = s.live t) (hp : s.powered = true) (h : P t) :
    Does c s P := ⟨t, by rw [he, State.live_next _ hp], h⟩

theorem does_awake {c : Instr} {s t : State} {P : State → Prop} (he : exec c s = s.awake t) (hp : s.awakes = true) (h : P t) :
    Does c s P := ⟨t, by rw [he, State.awake_next _ hp], h⟩

theorem ignores_next {c : Instr} {s t : State} (he : exec c s = .next t) (h : t = s) : Ignores c s := he.trans (by rw [h])

theorem ignores_live {c : Instr} {s t : State} (he : exec c s = s.live t) (h : t = s) : Ignores c s := by
  rw [Ignores, he, h, State.live, ite_self]

theorem ignores_awake {c : Instr} {s t : State} (he : exec c s = s.awake t) (h : t = s) : Ignores c s := by
  rw [Ignores, he, h, State.awake, ite_self]

/-! ### Reads after writes -/

@[simp] theorem State.fld_raise_same (s : State) (f : Fld) : (s.raise f).fld f = 1 % 2 ^ f.width := State.fld_setFld_same s f 1
@[simp] theorem State.fld_clr_same (s : State) (f : Fld) : (s.clr f).fld f = 0 := by rw [State.clr_eq, State.fld_setFld_same, Nat.zero_mod]

theorem State.fld_raise (s : State) (f g : Fld) :
    (s.raise g).fld f = if f.key = g.key then 1 % 2 ^ g.width else s.fld f := State.fld_setFld s f g 1

theorem State.fld_clr (s : State) (f g : Fld) : (s.clr g).fld f = if f.key = g.key then 0 else s.fld f := by
  rw [State.clr_eq, State.fld_setFld, Nat.zero_mod]

theorem State.fld_bump (s : State) (f g : Fld) :
    (s.bump g).fld f = if f.key = g.key then min (2 ^ g.width - 1) (s.fld g + 1) else s.fld f := by
  have hpos : 0 < 2 ^ g.width := Nat.two_pow_pos _
  rw [State.bump_eq, State.fld_setFld, Nat.mod_eq_of_lt (by omega)]

@[simp] theorem State.fld_bump_same (s : State) (f : Fld) : (s.bump f).fld f = min (2 ^ f.width - 1) (s.fld f + 1) := by
  rw [State.fld_bump, if_pos rfl]

theorem State.fld_next (s : State) (f g : Fld) :
    (s.next g).fld f = if f.key = g.key then (s.fld g + 1) % 2 ^ g.width else s.fld f := State.fld_setFld s f g _

theorem State.fld_ite {c : Prop} [Decidable c] (s t : State) (f : Fld) : (if c then s else t).fld f = if c then s.fld f else t.fld f :=
  apply_ite (fun u : State => u.fld f) c s t

/-- Two words take a value that fits into them. -/
theorem State.pair_setPair (s : State) {lo hi : Fld} {v : Nat} (hne : lo.key ≠ hi.key) (hv : v < 2 ^ (lo.width + hi.width)) :
    (s.setPair lo hi v).pair lo hi = v := by
  have hhi : v / 2 ^ lo.width < 2 ^ hi.width := by
    rw [Nat.pow_add] at hv
    exact Nat.div_lt_of_lt_mul hv
  rw [State.pair, State.setPair_eq, State.fld_setFld_same, State.fld_setFld_ne _ _ hne, State.fld_setFld_same,
    Nat.mod_eq_of_lt hhi, Nat.mod_add_div]

/-! ### Fields that writes leave alone -/

theorem FieldsKept.refl (s : State) (l : List Fld) : FieldsKept s s l := fun _ _ => rfl

theorem FieldsKept.of_regs {s t u : State} {l : List Fld} (h : FieldsKept s t l) (hu : u.regs = t.regs) : FieldsKept s u l :=
  fun f hf => (State.fld_congr hu f).trans (h f hf)

theorem FieldsKept.trans {s t u : State} {l : List Fld} (h : FieldsKept s t l) (h' : FieldsKept t u l) : FieldsKept s u l :=
  fun f hf => (h' f hf).trans (h f hf)

theorem FieldsKept.mono {s t : State} {l l' : List Fld} (h : FieldsKept s t l) (hl : ∀ g ∈ l, g ∈ l') : FieldsKept s t l' :=
  fun f hf => h f fun g hg => hf g (hl g hg)

theorem FieldsKept.setFld {s t : State} {l : List Fld} (h : FieldsKept s t l) {g : Fld} (v : Nat) (hg : g ∈ l) :
    FieldsKept s (t.setFld g v) l :=
  fun f hf => (State.fld_setFld_ne t v (hf g hg)).trans (h f hf)

theorem FieldsKept.raise {s t : State} {l : List Fld} (h : FieldsKept s t l) {g : Fld} (hg : g ∈ l) :
    FieldsKept s (t.raise g) l := h.setFld 1 hg

theorem FieldsKept.clr {s t : State} {l : List Fld} (h : FieldsKept s t l) {g : Fld} (hg : g ∈ l) : FieldsKept s (t.clr g) l :=
  h.setFld 0 hg

theorem FieldsKept.bump {s t : State} {l : List Fld} (h : FieldsKept s t l) {g : Fld} (hg : g ∈ l) : FieldsKept s (t.bump g) l :=
  h.setFld _ hg

theorem FieldsKept.next {s t : State} {l : List Fld} (h : FieldsKept s t l) {g : Fld} (hg : g ∈ l) : FieldsKept s (t.next g) l :=
  h.setFld _ hg

theorem FieldsKept.setPair {s t : State} {l : List Fld} (h : FieldsKept s t l) {lo hi : Fld} (v : Nat) (hlo : lo ∈ l) (hhi : hi ∈ l) :
    FieldsKept s (t.setPair lo hi v) l := (h.setFld v hlo).setFld _ hhi

theorem FieldsKept.ite {s t u : State} {l : List Fld} {c : Prop} [Decidable c] (ht : FieldsKept s t l) (hu : FieldsKept s u l) :
    FieldsKept s (if c then t else u) l := by split <;> assumption

theorem OnlyFields.refl (s : State) (l : List Fld) : OnlyFields s s l := ⟨rfl, FieldsKept.refl s l⟩

theorem OnlyFields.setFld {s t : State} {l : List Fld} (h : OnlyFields s t l) {g : Fld} (v : Nat) (hg : g ∈ l) :
    OnlyFields s (t.setFld g v) l := by
  refine ⟨?_, h.2.setFld v hg⟩
  conv_lhs => rw [State.setFld, h.1]
  rfl

theorem OnlyFields.raise {s t : State} {l : List Fld} (h : OnlyFields s t l) {g : Fld} (hg : g ∈ l) :
    OnlyFields s (t.raise g) l := h.setFld 1 hg

theorem OnlyFields.clr {s t : State} {l : List Fld} (h : OnlyFields s t l) {g : Fld} (hg : g ∈ l) : OnlyFields s (t.clr g) l :=
  h.setFld 0 hg

theorem OnlyFields.bump {s t : State} {l : List Fld} (h : OnlyFields s t l) {g : Fld} (hg : g ∈ l) : OnlyFields s (t.bump g) l :=
  h.setFld _ hg

theorem OnlyFields.setPair {s t : State} {l : List Fld} (h : OnlyFields s t l) {lo hi : Fld} (v : Nat) (hlo : lo ∈ l) (hhi : hi ∈ l) :
    OnlyFields s (t.setPair lo hi v) l := (h.setFld v hlo).setFld _ hhi

theorem OnlyFields.ite {s t u : State} {l : List Fld} {c : Prop} [Decidable c] (ht : OnlyFields s t l) (hu : OnlyFields s u l) :
    OnlyFields s (if c then t else u) l := by split <;> assumption

end Sys2Proof.Machine



/-! O3: the commands of the time base (02 R44, R49, R50, R55, R56, 14 R407, 16 R447). -/
namespace Sys2Proof.Machine

/-- A write to the time base outside the TI group fence takes effect. -/
theorem does_tbase {c : Instr} {s : State} {act : State → State} {P : State → Prop} (he : exec c s = s.live (s.tbaseGuard act))
    (hp : s.powered = true) (hf : s.tiFenced = false) (h : P (act s)) : Does c s P :=
  does_live he hp (by simpa [State.tbaseGuard, hf] using h)

/-- A write to the time base under the TI group fence is counted as refused and has no other effect. -/
theorem does_tbase_fenced {c : Instr} {s : State} {act : State → State} (he : exec c s = s.live (s.tbaseGuard act))
    (hp : s.powered = true) (hf : s.tiFenced = true) :
    Does c s fun t => t.fld R.FLT_TI_REFUSED_COUNT = min (2 ^ R.FLT_TI_REFUSED_COUNT.width - 1) (s.fld R.FLT_TI_REFUSED_COUNT + 1) ∧
      OnlyFields s t [R.FLT_TI_REFUSED_COUNT] :=
  does_live he hp (by
    rw [State.tbaseGuard, if_pos hf]
    exact ⟨State.fld_bump_same _ _, (OnlyFields.refl s _).bump (by simp)⟩)

theorem State.snapshotRead_snap (s : State) (path p : Nat) : Tab.get (fun _ => 0) (s.snapshotRead path).tb.snaps p =
    if p = path then encodeHub s.tb.now else Tab.get (fun _ => 0) s.tb.snaps p := by
  rw [State.snapshotRead]
  exact Tab.get_set _ _ _ _ _

theorem State.snapshotRead_rdata (s : State) (path : Nat) :
    Tab.get (fun _ => 0) (s.snapshotRead path).host.rdata path = encodeHub s.tb.now % 2 ^ 32 := by
  rw [State.snapshotRead]
  exact Tab.get_set_same _ _ _ _

theorem State.snapshotRead_regs (s : State) (path : Nat) : (s.snapshotRead path).regs = s.regs := by rw [State.snapshotRead]

theorem State.writeIncrement_rejected {s : State} {reg : Fin 3} {v : BitVec 32}
    (h : s.structural = false ∨ (reg = 1 ∧ v.toNat / 2 ^ 16 ≠ 0 ∧ v.toNat / 2 ^ 16 ≤ v.toNat % 2 ^ 16)
      ∨ (reg = 2 ∧ (v.toNat % 64 < 16 ∨ 32 < v.toNat % 64))) :
    s.writeIncrement reg v.toNat = s.raise R.TB_STATUS_INC_REJ := by
  have hv := v.isLt
  by_cases hs : s.structural = true
  · rcases h with h | ⟨rfl, hne, hle⟩ | ⟨rfl, hd⟩
    · simp [hs] at h
    · have hden : v.toNat / 2 ^ 16 % 2 ^ 16 = v.toNat / 2 ^ 16 := by omega
      simp only [State.writeIncrement, hs, hden, not_true_eq_false, if_false, if_pos (And.intro hne hle)]
      rfl
    · simp only [State.writeIncrement, hs]
      simp [hd]
  · simp [State.writeIncrement, hs]

/-- TB_INC_FRAC takes both of its fields, whose values fit. -/
theorem State.writeIncrement_frac {s : State} {v : BitVec 32} (hs : s.structural = true)
    (h : v.toNat / 2 ^ 16 = 0 ∨ v.toNat % 2 ^ 16 < v.toNat / 2 ^ 16) :
    s.writeIncrement 1 v.toNat = (s.setFld R.TB_INC_FRAC_NUM (v.toNat % 2 ^ 16)).setFld R.TB_INC_FRAC_DEN (v.toNat / 2 ^ 16) := by
  have hden : v.toNat / 2 ^ 16 % 2 ^ 16 = v.toNat / 2 ^ 16 := Nat.mod_eq_of_lt (by have := v.isLt; omega)
  have hok : ¬ (v.toNat / 2 ^ 16 ≠ 0 ∧ v.toNat / 2 ^ 16 ≤ v.toNat % 2 ^ 16) := by omega
  simp only [State.writeIncrement, hs, hden, not_true_eq_false, if_false, if_neg hok]

theorem State.leapArm_armed {s : State} {d : Fin 4} (hd : d = 1 ∨ d = 3) (h : s.hubSec < s.leapAtReg) :
    s.leapArm d = (({ s.setFld R.TB_LEAP_CTL_DELTA d with tb :=
      { s.tb with leapAt := s.leapAtReg, leapDelta := if d = 1 then 1 else -1 } } : State).raise R.TB_STATUS_LEAP_ARMED).clr
        R.TB_STATUS_LEAP_ACTIVE := by
  have hat (v : Nat) : (s.setFld R.TB_LEAP_CTL_DELTA v).leapAtReg = s.leapAtReg := by
    rw [State.leapAtReg, State.fld_setFld_ne _ _ (by decide), State.fld_setFld_ne _ _ (by decide), State.leapAtReg]
  have hsec (v : Nat) : (s.setFld R.TB_LEAP_CTL_DELTA v).hubSec = s.hubSec := rfl
  rcases hd with rfl | rfl <;> simp [State.leapArm, hat, hsec, h, leapDeltaOf]

theorem State.leapArm_late {s : State} {d : Fin 4} (hd : d = 1 ∨ d = 3) (h : s.leapAtReg ≤ s.hubSec) :
    s.leapArm d = (s.setFld R.TB_LEAP_CTL_DELTA d).raise R.TB_STATUS_LEAP_REJ := by
  have hat (v : Nat) : (s.setFld R.TB_LEAP_CTL_DELTA v).leapAtReg = s.leapAtReg := by
    rw [State.leapAtReg, State.fld_setFld_ne _ _ (by decide), State.fld_setFld_ne _ _ (by decide), State.leapAtReg]
  have hsec (v : Nat) : (s.setFld R.TB_LEAP_CTL_DELTA v).hubSec = s.hubSec := rfl
  rcases hd with rfl | rfl <;> simp [State.leapArm, hat, hsec, h]

theorem State.leapCancel_armed (s : State) : s.leapCancel.fld R.TB_STATUS_LEAP_ARMED = 0 := by
  rw [State.leapCancel, State.fld_clr, if_neg (by decide), State.fld_clr_same]

theorem State.leapCancel_onlyFields (s : State) : OnlyFields s s.leapCancel [R.TB_STATUS_LEAP_ARMED, R.TB_STATUS_LEAP_ACTIVE] :=
  ((OnlyFields.refl s _).clr (by simp)).clr (by simp)

theorem State.uncBound_setUncBound (s : State) {v : Nat} (hv : v < 2 ^ 64) : (s.setUncBound v).uncBound = v :=
  s.pair_setPair (by decide) hv

/-- Settles O3: every command is a short chain of writes behind the fence of the TI group. -/
theorem timeBaseCommands : Obligations.TimeBaseCommands := by
  unfold Obligations.TimeBaseCommands
  refine ⟨?_, ?_, ?_, ?_, ?_, ?_, ?_, ?_, ?_, ?_, ?_, ?_, ?_, ?_, ?_, ?_⟩
  · intro s path hp
    have he : exec (.tbNow0Read path) s = s.live (s.snapshotRead path) := rfl
    refine does_live he hp ⟨fun p => ?_, s.snapshotRead_rdata path, s.snapshotRead_regs path,
      memKept_of_memory (s.snapshotRead_memory path)⟩
    rw [s.snapshotRead_snap]
    simp only [Fin.ext_iff]
  · intro s v hp hf hs
    refine does_tbase rfl hp hf ?_
    simp only [State.writeIncrement, hs, not_true_eq_false, if_false]
    exact ⟨State.fld_setFld_same _ _ _, (OnlyFields.refl s _).setFld _ (by simp)⟩
  · intro s v hp hf hs hv
    refine does_tbase rfl hp hf ?_
    have hv32 := v.isLt
    rw [show ((1 : Fin 3) : Nat) = 1 from rfl, State.writeIncrement_frac hs hv]
    refine ⟨?_, ?_, ((OnlyFields.refl s _).setFld _ (by simp)).setFld _ (by simp)⟩
    · rw [State.fld_setFld_ne _ _ (by decide), State.fld_setFld_same]
      exact Nat.mod_mod _ _
    · rw [State.fld_setFld_same]
      exact Nat.mod_eq_of_lt (by change _ < 2 ^ 16; omega)
  · intro s v hp hf hs hlo hhi
    refine does_tbase rfl hp hf ?_
    have hd : ¬ (v.toNat % 2 ^ 6 < 16 ∨ 32 < v.toNat % 2 ^ 6) := by omega
    have hw : s.writeIncrement 2 v.toNat = s.setFld R.TB_DIV_DIV (v.toNat % 2 ^ 6) := by
      simp only [State.writeIncrement, hs, not_true_eq_false, if_false, if_neg hd]
    rw [show ((2 : Fin 3) : Nat) = 2 from rfl, hw]
    refine ⟨?_, (OnlyFields.refl s _).setFld _ (by simp)⟩
    rw [State.fld_setFld_same]
    exact Nat.mod_mod _ _
  · intro s reg v hp hf h
    refine does_tbase rfl hp hf ?_
    rw [State.writeIncrement_rejected h]
    exact ⟨State.fld_raise_same _ _, (OnlyFields.refl s _).raise (by simp)⟩
  · intro s d hp hf hd h
    refine does_tbase rfl hp hf ?_
    rw [State.leapArm_armed hd h]
    refine ⟨?_, ?_, rfl, ?_, memKept_of_memory (by simp)⟩
    · rw [State.fld_clr, if_neg (by decide), State.fld_raise_same]
      rfl
    · rw [State.fld_clr, if_neg (by decide), State.fld_raise, if_neg (by decide)]
      refine (State.fld_setFld_same s R.TB_LEAP_CTL_DELTA d).trans (Nat.mod_eq_of_lt d.isLt)
    · exact ((((FieldsKept.refl s _).setFld _ (by simp)).of_regs rfl).raise (by simp)).clr (by simp)
  · intro s d hp hf hd h
    refine does_tbase rfl hp hf ?_
    rw [State.leapArm_late hd h]
    exact ⟨State.fld_raise_same _ _, ((OnlyFields.refl s _).setFld _ (by simp)).raise (by simp)⟩
  · intro s hp hf
    exact does_tbase rfl hp hf ⟨State.fld_raise_same _ _, (OnlyFields.refl s _).raise (by simp)⟩
  · intro s hp hf
    refine does_tbase rfl hp hf ⟨State.leapCancel_armed _, ?_⟩
    exact (((OnlyFields.refl s _).setFld _ (by simp)).clr (by simp)).clr (by simp)
  · intro s hp hf
    exact does_tbase rfl hp hf ⟨s.leapCancel_armed, s.leapCancel_onlyFields⟩
  · intro s hp hf
    refine does_tbase rfl hp hf ⟨?_, State.uncBound_setUncBound _ (by decide), ((OnlyFields.refl s _).clr (by simp)).setPair _ (by simp) (by simp)⟩
    rw [State.declareKnown, State.setUncBound, State.setPair_eq, State.fld_setFld_ne _ _ (by decide),
      State.fld_setFld_ne _ _ (by decide), State.fld_clr_same]
  · intro s hp hu hb hts hf
    have hg : s.uncGrow = s.setUncBound (min (2 ^ 64 - 2) (s.uncBound + fuPerSec * s.uOsc / 2 ^ 48)) := by
      rw [State.uncGrow, if_pos ⟨by simp [State.flag, hu], hb.ne, hts, by simp [hf]⟩]
      rfl
    refine does_live rfl hp ?_
    rw [hg]
    exact ⟨State.uncBound_setUncBound _ (by omega), (OnlyFields.refl s _).setPair _ (by simp) (by simp)⟩
  · intro s hp h
    refine ignores_live rfl ?_
    rcases h with h | h | h | h <;> simp [State.uncGrow, State.flag, uncUnknown, h]
  · intro s hp hr hpll
    refine does_live rfl hp ?_
    have hb : s.startOnBypass = (({ s with tb := { s.tb with running := true } } : State).setFld R.TB_STATUS_CLK_SRC 2).raise
        R.TB_STATUS_TIME_DEGRADED := by simp [State.startOnBypass, hr, hpll]
    rw [hb]
    refine ⟨rfl, ?_, State.fld_raise_same _ _, ?_, memKept_of_memory (by simp)⟩
    · rw [State.fld_raise, if_neg (by decide), State.fld_setFld_same]
      rfl
    · exact (((FieldsKept.refl s _).of_regs rfl).setFld _ (by simp)).raise (by simp)
  · intro s hp h
    refine ignores_live rfl ?_
    rcases h with h | h <;> simp [State.startOnBypass, h]
  · intro s d r v hp hf
    simp only [List.forall_mem_cons]
    exact ⟨does_tbase_fenced rfl hp hf, does_tbase_fenced rfl hp hf, does_tbase_fenced rfl hp hf, does_tbase_fenced rfl hp hf,
      by simp⟩

end Sys2Proof.Machine


/-! O4: the commands of TSERVO (02 R58, R64, R65, 04 R112, 16 R446). -/
namespace Sys2Proof.Machine

/-! ### Announcing and leaving LOCKED -/

/-- An announcement changes the ports' own state alone (R220). -/
def LinksOnly (s t : State) : Prop := t = { s with links := t.links }

theorem linksOnly_setLink (s : State) (n : Nat) (l : Link) : LinksOnly s (s.setLink n l) := rfl

theorem LinksOnly.refl (s : State) : LinksOnly s s := rfl

theorem LinksOnly.trans {s t u : State} (h : LinksOnly s t) (h' : LinksOnly t u) : LinksOnly s u := by
  unfold LinksOnly at *
  rw [h', h]

theorem linksOnly_announcePort (s : State) (n : Nat) : LinksOnly s (s.announcePort n) := by
  unfold State.announcePort
  dsimp only
  split
  · exact LinksOnly.refl s
  · split
    · exact (linksOnly_setLink s n _).trans (linksOnly_setLink _ n _)
    · exact linksOnly_setLink s n _

theorem linksOnly_announce (s : State) : LinksOnly s s.announce := by
  unfold State.announce
  generalize List.range 32 = l
  induction l generalizing s with
  | nil => exact LinksOnly.refl s
  | cons n l ih => exact (linksOnly_announcePort s n).trans (ih _)

@[simp] theorem State.announce_regs (s : State) : s.announce.regs = s.regs := by rw [linksOnly_announce s]
@[simp] theorem State.announce_tsv (s : State) : s.announce.tsv = s.tsv := by rw [linksOnly_announce s]
@[simp] theorem State.announce_seam (s : State) : s.announce.seam = s.seam := by rw [linksOnly_announce s]
@[simp] theorem State.announce_fld (s : State) (f : Fld) : s.announce.fld f = s.fld f := State.fld_congr s.announce_regs f

@[simp] theorem State.leaveLocked_tsv (s : State) : s.leaveLocked.tsv = s.tsv := by
  unfold State.leaveLocked
  split <;> rfl

theorem State.leaveLocked_fieldsKept (s : State) : FieldsKept s s.leaveLocked [R.SEAM_EVENTS_UNLOCK] :=
  FieldsKept.ite (FieldsKept.of_regs (t := s.raise R.SEAM_EVENTS_UNLOCK) ((FieldsKept.refl s _).raise (by simp)) rfl)
    (FieldsKept.refl s _)

theorem State.toAcquiring_regs (s : State) : s.toAcquiring.regs = (s.leaveLocked.setFld R.SEAM_STATUS_TS_STATE 1).regs :=
  State.announce_regs _

@[simp] theorem State.toAcquiring_tsv (s : State) : s.toAcquiring.tsv = s.tsv := by
  rw [State.toAcquiring, State.announce_tsv]
  exact s.leaveLocked_tsv

@[simp] theorem State.toAcquiring_tsState (s : State) : s.toAcquiring.tsState = 1 := by
  rw [State.tsState, State.fld_congr s.toAcquiring_regs, State.fld_setFld_same]
  rfl

theorem State.toAcquiring_fieldsKept (s : State) : FieldsKept s s.toAcquiring [R.SEAM_EVENTS_UNLOCK, R.SEAM_STATUS_TS_STATE] := by
  have h : FieldsKept s s.leaveLocked [R.SEAM_EVENTS_UNLOCK, R.SEAM_STATUS_TS_STATE] := s.leaveLocked_fieldsKept.mono (by simp)
  exact (h.setFld _ (by simp)).of_regs s.toAcquiring_regs

/-! ### The refutation -/

/-- In FREE-RUN under SRC = FEED, FREE clear, with the QUALIFIED candidate 0 still selected. -/
def freeRunOnFeed : State :=
  ((State.reset.setFld R.TSV_CTL_SRC 2).setFld R.SEAM_STATUS_SEL 0).setFld (R.QUAL_CAND_STATE_STATE 0) 2

/-- What a write of a new SRC other than NONE leaves before the timescale state follows it. -/
def State.withSrc (s : State) (v : Nat) : State :=
  { s.setFld R.TSV_CTL_SRC v with tsv := { s.tsv with lastIn := none }, seam := { s.seam with feedAt := s.tb.elapsed } }

theorem State.writeSrc_eq {s : State} {v : Nat} (hv : v ≠ s.tsvSrc) (hv0 : v ≠ 0) : s.writeSrc v =
    if (s.withSrc v).tsState = 2 then (s.withSrc v).toAcquiring
    else if (s.withSrc v).tsState = 0 ∧ v ≠ 2 ∧ ¬ (s.withSrc v).isFree ∧ (s.withSrc v).selectedGood then
      ((s.withSrc v).enterStage 0).toAcquiring
    else s.withSrc v := by
  simp only [State.writeSrc, hv, hv0, false_and, if_false]
  rfl

/-- A change of SRC from FEED to SEAM goes on to ACQUIRING there, as R513 has it. -/
theorem freeRunOnFeed_writeSrc : (freeRunOnFeed.writeSrc 1).tsState = 1 := by
  rw [State.writeSrc_eq (by decide +kernel) (by decide), if_neg (by decide +kernel), if_pos (by decide +kernel)]
  exact State.toAcquiring_tsState _

theorem exec_tsvSrcWrite {s : State} (v : Fin 4) (hp : s.powered = true) (hf : s.tservoFenced = false) (hti : s.tiFenced = false) :
    exec (.tsvSrcWrite v) s = .next (s.writeSrc v) := by
  change s.live (s.servoGuard (fun s => s.writeSrc v)) = _
  simp [State.live_next _ hp, State.servoGuard, State.tbaseGuard, hf, hti]

/-- Refutes O4: in FREE-RUN with a good candidate selected, SRC written SEAM enters ACQUIRING, where the clause of TSV_SRC_WRITE keeps
every state but LOCKED. -/
theorem not_servoCommands : ¬ Obligations.ServoCommands := by
  unfold Obligations.ServoCommands
  intro h
  obtain ⟨-, -, -, -, -, -, hsrc, -⟩ := h
  have hp : freeRunOnFeed.powered = true := by decide +kernel
  have hf : freeRunOnFeed.tservoFenced = false := by decide +kernel
  obtain ⟨-, -, -, hts, -⟩ := (hsrc freeRunOnFeed 1 hp hf (by decide +kernel)).of_exec
    (exec_tsvSrcWrite 1 hp hf (by decide +kernel))
  have h1 : (freeRunOnFeed.writeSrc (1 : Fin 4)).tsState = 1 := freeRunOnFeed_writeSrc
  rw [h1, if_neg (by decide +kernel)] at hts
  exact absurd hts (by decide +kernel)

end Sys2Proof.Machine


/-! O12: the ramp generators (05 R140, R155, R156, R514). -/
namespace Sys2Proof.Machine

@[simp] theorem State.ramp_setRamp_same (s : State) (p : Nat) (r : Ramp) : (s.setRamp p r).ramp p = r := by
  simp [State.ramp, State.setRamp]

@[simp] theorem State.ramp_setFld (s : State) (f : Fld) (v p : Nat) : (s.setFld f v).ramp p = s.ramp p := rfl

/-- The first segment of a generator does not lie in its status register. -/
theorem State.segDur_setFld (s : State) (k v w : Nat) :
    ((s.setFld (R.SYN_RAMP_STATUS_RESULT k) v).setFld (R.SYN_RAMP_STATUS_SEG k) w).segDur k 0 = s.segDur k 0 := by
  simp +arith [State.segDur, State.fld_setFld, Fld.key, R.SYN_RAMP_SEG_W1_DUR, R.SYN_RAMP_STATUS_RESULT, R.SYN_RAMP_STATUS_SEG]

theorem State.rampBegin_eq (s : State) (k : Nat) : s.rampBegin k =
    ((s.setFld (R.SYN_RAMP_STATUS_RESULT k) 2).setFld (R.SYN_RAMP_STATUS_SEG k) 0).setRamp k
      { s.ramp k with phase := 2, hold := false, left := s.segDur k 0 } := by
  rw [State.rampBegin]
  dsimp only
  rw [State.segDur_setFld]
  rfl

theorem State.rampBegin_ramp (s : State) (k : Nat) :
    (s.rampBegin k).ramp k = { s.ramp k with phase := 2, hold := false, left := s.segDur k 0 } := by
  rw [s.rampBegin_eq, State.ramp_setRamp_same]

theorem State.rampBegin_status (s : State) (k : Nat) :
    (s.rampBegin k).fld (R.SYN_RAMP_STATUS_RESULT k) = 2 ∧ (s.rampBegin k).fld (R.SYN_RAMP_STATUS_SEG k) = 0 := by
  rw [s.rampBegin_eq]
  simp [State.fld_setFld, Fld.key, R.SYN_RAMP_STATUS_RESULT, R.SYN_RAMP_STATUS_SEG]

theorem State.rampBegin_fieldsKept (s : State) (k : Nat) :
    FieldsKept s (s.rampBegin k) [R.SYN_RAMP_STATUS_RESULT k, R.SYN_RAMP_STATUS_SEG k] := by
  intro f hf
  simp only [List.forall_mem_cons] at hf
  rw [s.rampBegin_eq]
  simp [State.fld_setFld, hf]

/-! ### One microsecond of a running segment (R140, R155) -/

/-- A running part with time left is not passed over. -/
theorem State.rampNorm_of_left {s : State} {p : Nat} (n : Nat) (h : (s.ramp p).left ≠ 0) : State.rampNorm n s p = s := by
  cases n with
  | zero => rfl
  | succ n => simp [State.rampNorm, h]

/-- The phase of the past microsecond is added to the ramp phase; no offset adds none. -/
def State.rampPhase (s : State) (p : Nat) : State :=
  if s.rampOut p = 0 then s else s.setRampAcc p ((s.ramp p).acc + s.rampOut p * (fuPerUs : Int))

theorem State.setRampAcc_ramp (s : State) (p : Nat) (a : Int) : (s.setRampAcc p a).ramp p = { s.ramp p with acc := a } := by
  simp [State.setRampAcc, State.setInt64, State.setPair_eq]

theorem State.rampPhase_ramp (s : State) (p : Nat) :
    (s.rampPhase p).ramp p = { s.ramp p with acc := (s.ramp p).acc + s.rampOut p * (fuPerUs : Int) } := by
  unfold State.rampPhase
  split
  · next h => simp [h]
  · exact s.setRampAcc_ramp p _

theorem State.rampPhase_fieldsKept (s : State) (p : Nat) :
    FieldsKept s (s.rampPhase p) [R.SYN_ROT_RPH_LO p, R.SYN_ROT_RPH_HI p] := by
  intro f hf
  simp only [List.forall_mem_cons] at hf
  unfold State.rampPhase
  split
  · rfl
  · simp [State.setRampAcc, State.setInt64, State.setPair_eq, State.fld_setFld, hf]

/-- The segments of a generator lie above the ramp phases. -/
theorem State.rampPhase_segRate (s : State) (p j : Nat) : (s.rampPhase p).segRate p j = s.segRate p j := by
  refine congrArg (toSigned 32) (s.rampPhase_fieldsKept p _ ?_)
  simp only [List.forall_mem_cons, Fld.key, R.SYN_RAMP_SEG_W0_RATE, R.SYN_ROT_RPH_LO, R.SYN_ROT_RPH_HI]
  exact ⟨by omega, by omega, by simp⟩

theorem State.pair_setRamp (s : State) (p : Nat) (r : Ramp) (lo hi : Fld) : (s.setRamp p r).pair lo hi = s.pair lo hi := rfl

theorem State.rampOut_setRamp (s : State) (p q : Nat) (r : Ramp) : (s.setRamp p r).rampOut q = s.rampOut q := rfl

theorem State.rampPhase_rampOut (s : State) (p : Nat) : (s.rampPhase p).rampOut p = s.rampOut p := by
  have hkept := s.rampPhase_fieldsKept p
  refine congrArg (toSigned 64) ?_
  simp only [State.pair]
  rw [hkept (R.SYN_RAMP_OUT_LO p), hkept (R.SYN_RAMP_OUT_HI p)]
  all_goals
    simp only [List.forall_mem_cons, Fld.key, R.SYN_RAMP_OUT_LO, R.SYN_RAMP_OUT_HI, R.SYN_ROT_RPH_LO, R.SYN_ROT_RPH_HI]
    exact ⟨by omega, by omega, by simp⟩

/-- The fields that a new offset of a ramp writes: the offset itself and what its rotator shows. -/
def rampOutFields (p : Nat) : List Fld :=
  [R.SYN_RAMP_OUT_LO p, R.SYN_RAMP_OUT_HI p, R.SYN_ROT_FREQ_LO p, R.SYN_ROT_FREQ_HI p, R.SYN_PLL_STATUS_ROT_CLAMP p]

theorem State.setRampOut_fieldsKept (s : State) (p : Nat) (v : Int) : FieldsKept s (s.setRampOut p v) (rampOutFields p) := by
  intro f hf
  simp only [rampOutFields, List.forall_mem_cons] at hf
  simp [State.setRampOut, State.showRotator, State.setInt64, State.setPair_eq, State.fld_setFld, hf]

theorem State.setRampOut_ramp (s : State) (p : Nat) (v : Int) : (s.setRampOut p v).ramp p = s.ramp p := by
  simp [State.setRampOut, State.showRotator, State.setInt64, State.setPair_eq]

/-- The rotator shows its offset without touching it. -/
theorem State.setRampOut_pair (s : State) (p : Nat) (v : Int) :
    (s.setRampOut p v).pair (R.SYN_RAMP_OUT_LO p) (R.SYN_RAMP_OUT_HI p) = ofSigned 64 v := by
  have hlo : (R.SYN_RAMP_OUT_LO p).key ≠ (R.SYN_RAMP_OUT_HI p).key := by simp +arith [Fld.key, R.SYN_RAMP_OUT_LO, R.SYN_RAMP_OUT_HI]
  have hset : (s.setInt64 (R.SYN_RAMP_OUT_LO p) (R.SYN_RAMP_OUT_HI p) v).pair (R.SYN_RAMP_OUT_LO p) (R.SYN_RAMP_OUT_HI p)
      = ofSigned 64 v := s.pair_setPair hlo (ofSigned_lt 64 v)
  rw [← hset, State.setRampOut]
  generalize s.setInt64 (R.SYN_RAMP_OUT_LO p) (R.SYN_RAMP_OUT_HI p) v = u
  have hkept : FieldsKept u (u.showRotator p) [R.SYN_ROT_FREQ_LO p, R.SYN_ROT_FREQ_HI p, R.SYN_PLL_STATUS_ROT_CLAMP p] := by
    intro f hf
    simp only [List.forall_mem_cons] at hf
    simp [State.showRotator, State.setInt64, State.setPair_eq, State.fld_setFld, hf]
  simp only [State.pair]
  rw [hkept (R.SYN_RAMP_OUT_LO p), hkept (R.SYN_RAMP_OUT_HI p)]
  all_goals
    simp only [List.forall_mem_cons, Fld.key, R.SYN_RAMP_OUT_LO, R.SYN_RAMP_OUT_HI, R.SYN_ROT_FREQ_LO, R.SYN_ROT_FREQ_HI,
      R.SYN_PLL_STATUS_ROT_CLAMP]
    exact ⟨by omega, by omega, by omega, by simp⟩

/-- A microsecond within a part: phase and time go on, and outside HOLD the offset changes by the segment's rate. -/
theorem State.rampUpdate_of_left {s : State} {p : Nat} (hph : (s.ramp p).phase = 2) (hl : 2 ≤ (s.ramp p).left) :
    s.rampUpdate p =
      (if (s.ramp p).hold then s.rampPhase p
        else (s.rampPhase p).setRampOut p (s.rampOut p + s.segRate p (s.fld (R.SYN_RAMP_STATUS_SEG p)))).setRamp p
      { s.ramp p with left := (s.ramp p).left - 1, acc := (s.ramp p).acc + s.rampOut p * (fuPerUs : Int) } := by
  have hr := s.rampPhase_ramp p
  have hleft : ((s.rampPhase p).ramp p).left ≠ 0 := by rw [hr]; dsimp only; omega
  have hseg : (s.rampPhase p).fld (R.SYN_RAMP_STATUS_SEG p) = s.fld (R.SYN_RAMP_STATUS_SEG p) := by
    refine s.rampPhase_fieldsKept p _ ?_
    simp only [List.forall_mem_cons, Fld.key, R.SYN_RAMP_STATUS_SEG, R.SYN_ROT_RPH_LO, R.SYN_ROT_RPH_HI]
    exact ⟨by omega, by omega, by simp⟩
  have hnorm : ∀ (u : State) (r : Ramp), r.left = (s.ramp p).left - 1 → State.rampNorm 130 (u.setRamp p r) p = u.setRamp p r :=
    fun u r h => State.rampNorm_of_left _ (by rw [State.ramp_setRamp_same]; omega)
  have hphase : (if s.rampOut p = 0 then s else s.setRampAcc p ((s.ramp p).acc + s.rampOut p * (fuPerUs : Int))) = s.rampPhase p := rfl
  unfold State.rampUpdate
  dsimp only
  rw [hphase, State.rampNorm_of_left _ hleft, if_neg (by rw [hr]; simp only [hph]; omega), hr, s.rampPhase_segRate, hseg, hnorm _ _ rfl]
  split
  · rw [hr]
  · rw [State.setRampOut_ramp, hr]


/-! ### The obligation -/

theorem does_synRampGo {s : State} {p : Fin 3} (hp : s.powered = true) :
    Does (.synRampGo p) s fun t =>
      let k := p.val + 1
      if s.rampFormat k = true then t.fld (R.SYN_RAMP_STATUS_RESULT k) = 7 ∧ OnlyFields s t [R.SYN_RAMP_STATUS_RESULT k]
      else if (s.ramp k).phase ≠ 0 then t.fld (R.SYN_PLL_EVENTS_CMD_REJ k) = 1 ∧ OnlyFields s t [R.SYN_PLL_EVENTS_CMD_REJ k]
      else if s.carriesOther k = true ∨ s.pllState k ≠ 3 then
        t.fld (R.SYN_RAMP_STATUS_RESULT k) = 6 ∧ OnlyFields s t [R.SYN_RAMP_STATUS_RESULT k]
      else if s.fld (R.SYN_RAMP_CTL_START_MODE k) = 0 then
        t.fld (R.SYN_RAMP_STATUS_RESULT k) = 2 ∧ t.fld (R.SYN_RAMP_STATUS_SEG k) = 0 ∧
        t.ramp k = { s.ramp k with phase := 2, hold := false, left := s.segDur k 0 } ∧
        FieldsKept s t [R.SYN_RAMP_STATUS_RESULT k, R.SYN_RAMP_STATUS_SEG k]
      else if s.rampAt k < s.tb.now + 2 * fuPerUs then
        t.fld (R.SYN_RAMP_STATUS_RESULT k) = 5 ∧ OnlyFields s t [R.SYN_RAMP_STATUS_RESULT k]
      else t.fld (R.SYN_RAMP_STATUS_RESULT k) = 1 ∧ (t.ramp k).phase = 1 ∧ FieldsKept s t [R.SYN_RAMP_STATUS_RESULT k] := by
  have he : exec (.synRampGo p) s = s.live (s.rampGo (p.val + 1)).2 := rfl
  refine does_live he hp ?_
  generalize p.val + 1 = k
  have hset (v : Nat) (hv : v < 8) : (s.setFld (R.SYN_RAMP_STATUS_RESULT k) v).fld (R.SYN_RAMP_STATUS_RESULT k) = v ∧
      OnlyFields s (s.setFld (R.SYN_RAMP_STATUS_RESULT k) v) [R.SYN_RAMP_STATUS_RESULT k] :=
    ⟨(State.fld_setFld_same _ _ _).trans (Nat.mod_eq_of_lt hv), (OnlyFields.refl s _).setFld _ (by simp)⟩
  simp only [State.rampGo, State.flag, bne_iff_ne, ne_eq, ite_not]
  split_ifs with hfmt hbusy hnot hmode hlate
  · exact hset 7 (by decide)
  · exact hset 6 (by decide)
  · exact ⟨s.rampBegin_status k |>.1, s.rampBegin_status k |>.2, s.rampBegin_ramp k, s.rampBegin_fieldsKept k⟩
  · exact hset 5 (by decide)
  · exact ⟨(hset 1 (by decide)).1, by simp, (hset 1 (by decide)).2.2⟩
  · exact ⟨State.fld_raise_same _ _, (OnlyFields.refl s _).raise (by simp)⟩

theorem does_synRampAbort {s : State} {p : Fin 3} (hp : s.powered = true) (hph : (s.ramp (p.val + 1)).phase ≠ 0) :
    Does (.synRampAbort p) s fun t => t.fld (R.SYN_RAMP_STATUS_RESULT (p.val + 1)) = 4 ∧
      t.ramp (p.val + 1) = { s.ramp (p.val + 1) with phase := 0 } ∧
      FieldsKept s t [R.SYN_RAMP_STATUS_RESULT (p.val + 1)] ∧ MemKept s t := by
  have he : exec (.synRampAbort p) s = s.live (s.rampAbort (p.val + 1)).2 := rfl
  refine does_live he hp ?_
  generalize p.val + 1 = k at hph
  rw [State.rampAbort, if_neg hph]
  exact ⟨(State.fld_setFld_same _ _ _).trans rfl, State.ramp_setRamp_same _ _ _,
    ((FieldsKept.refl s _).setFld (g := R.SYN_RAMP_STATUS_RESULT k) 4 (by simp)), fun _ => rfl⟩

theorem ignores_synRampAbort_rampStartAt {s : State} {p : Fin 3} (hph : (s.ramp (p.val + 1)).phase = 0) :
    ∀ c ∈ [Instr.synRampAbort p, .rampStartAt p], Ignores c s := by
  simp only [List.forall_mem_cons]
  refine ⟨ignores_live (t := (s.rampAbort (p.val + 1)).2) rfl ?_, ignores_live (t := s.rampStartAt (p.val + 1)) rfl ?_, by simp⟩
  · rw [State.rampAbort, if_pos hph]
  · rw [State.rampStartAt, if_neg (by omega)]

theorem does_rampStartAt {s : State} {p : Fin 3} (hp : s.powered = true) (hph : (s.ramp (p.val + 1)).phase = 1)
    (hat : s.rampAt (p.val + 1) ≤ s.tb.now) :
    Does (.rampStartAt p) s fun t => t.fld (R.SYN_RAMP_STATUS_RESULT (p.val + 1)) = 2 ∧
      t.fld (R.SYN_RAMP_STATUS_SEG (p.val + 1)) = 0 ∧ (t.ramp (p.val + 1)).phase = 2 ∧
      (t.ramp (p.val + 1)).left = s.segDur (p.val + 1) 0 ∧
      FieldsKept s t [R.SYN_RAMP_STATUS_RESULT (p.val + 1), R.SYN_RAMP_STATUS_SEG (p.val + 1)] ∧ MemKept s t := by
  have he : exec (.rampStartAt p) s = s.live (s.rampStartAt (p.val + 1)) := rfl
  refine does_live he hp ?_
  generalize p.val + 1 = k at hph hat
  rw [State.rampStartAt, if_pos ⟨hph, hat⟩]
  obtain ⟨hres, hseg⟩ := s.rampBegin_status k
  exact ⟨hres, hseg, by rw [s.rampBegin_ramp], by rw [s.rampBegin_ramp], s.rampBegin_fieldsKept k,
    memKept_of_memory (s.rampBegin_memory k)⟩

theorem does_rampUpdate {s : State} {p : Fin 3} (hp : s.powered = true) (hph : (s.ramp (p.val + 1)).phase = 2)
    (hl : 2 ≤ (s.ramp (p.val + 1)).left) :
    Does (.rampUpdate p) s fun t =>
      let k := p.val + 1
      t.ramp k = { s.ramp k with left := (s.ramp k).left - 1, acc := (s.ramp k).acc + s.rampOut k * (fuPerUs : Int) } ∧
      ((s.ramp k).hold = false → t.pair (R.SYN_RAMP_OUT_LO k) (R.SYN_RAMP_OUT_HI k)
        = ofSigned 64 (s.rampOut k + s.segRate k (s.fld (R.SYN_RAMP_STATUS_SEG k)))) ∧
      ((s.ramp k).hold = true → t.rampOut k = s.rampOut k) ∧
      FieldsKept s t [R.SYN_RAMP_OUT_LO k, R.SYN_RAMP_OUT_HI k, R.SYN_ROT_RPH_LO k, R.SYN_ROT_RPH_HI k, R.SYN_ROT_FREQ_LO k,
        R.SYN_ROT_FREQ_HI k, R.SYN_PLL_STATUS_ROT_CLAMP k] ∧ MemKept s t := by
  have he : exec (.rampUpdate p) s = s.live (s.rampUpdate (p.val + 1)) := rfl
  refine does_live he hp ?_
  generalize p.val + 1 = k at hph hl
  have hmem := memKept_of_memory (s.rampUpdate_memory k)
  rw [State.rampUpdate_of_left hph hl] at hmem ⊢
  refine ⟨State.ramp_setRamp_same _ _ _, fun hh => ?_, fun hh => ?_, fun f hf => ?_, hmem⟩
  · simp only [hh, Bool.false_eq_true, if_false]
    rw [State.pair_setRamp, State.setRampOut_pair]
  · simp only [hh, if_true]
    rw [State.rampOut_setRamp, s.rampPhase_rampOut k]
  · simp only [List.forall_mem_cons] at hf
    have hphase : (s.rampPhase k).fld f = s.fld f := s.rampPhase_fieldsKept k f (by simp [hf])
    rw [State.setRamp_fld, State.fld_ite, State.setRampOut_fieldsKept _ _ _ f (by simp [rampOutFields, hf]), hphase, ite_self]

/-- Settles O12: each clause is what the generator's own equation says, the busy, ready and start tests taken in order. -/
theorem rampCommands : Obligations.RampCommands := by
  refine ⟨fun s p hp => does_synRampGo hp, fun s p hp hph => does_synRampAbort hp hph,
    fun s p _ hph => ignores_synRampAbort_rampStartAt hph, fun s p hp hph hat => does_rampStartAt hp hph hat,
    fun s p hp hph hl => does_rampUpdate hp hph hl⟩

end Sys2Proof.Machine


/-! O13: the clock outputs and SYNC (05 R150, R157 to R161). -/
namespace Sys2Proof.Machine

/-! ### Configuration and divider -/

@[simp] theorem State.clearOver_fld (s : State) (i : Nat) (f : Fld) : (s.clearOver i).fld f = s.fld f := rfl

theorem does_outCfgWrite {s : State} {i : Fin 24} {v : BitVec 32} (hp : s.powered = true)
    (hf : freqOk (s.pllN (i.val / 6)) (s.fld (R.OUT_DIV_D i)) (v.toNat / 2 % 8) = true)
    (hl : s.lvcmosOk (3 + i.val / 6) (v.toNat / 2 % 8) = true) :
    Does (.outCfgWrite i v) s fun t => t.fld (R.OUT_CFG_EN i) = v.toNat % 2 ∧ t.fld (R.OUT_CFG_STD i) = v.toNat / 2 % 8 ∧
      t.outOver i = false ∧ FieldsKept s t [R.OUT_CFG_EN i, R.OUT_CFG_STD i] ∧ MemKept s t := by
  have he : exec (.outCfgWrite i v) s = s.live (s.writeOutCfg i v.toNat) := rfl
  refine does_live he hp ?_
  have hmem := memKept_of_memory (s.writeOutCfg_memory i v.toNat)
  generalize v.toNat = v at *
  generalize (i : Nat) = i at *
  rw [State.writeOutCfg, if_pos ⟨hf, hl⟩] at hmem ⊢
  refine ⟨?_, ?_, ?_, ?_, hmem⟩
  · simp +arith [State.fld_setFld, Fld.key, R.OUT_CFG_EN, R.OUT_CFG_STD]
  · simp [R.OUT_CFG_STD]
  · simp [State.outOver, State.clearOver]
  · exact FieldsKept.of_regs (t := (s.setFld (R.OUT_CFG_EN i) v).setFld (R.OUT_CFG_STD i) (v / 2 % 8))
      (((FieldsKept.refl s _).setFld _ (by simp)).setFld _ (by simp)) rfl

theorem does_outCfgWrite_refused {s : State} {i : Fin 24} {v : BitVec 32} (hp : s.powered = true)
    (h : ¬ freqOk (s.pllN (i.val / 6)) (s.fld (R.OUT_DIV_D i)) (v.toNat / 2 % 8) = true ∨
      s.lvcmosOk (3 + i.val / 6) (v.toNat / 2 % 8) = false) :
    Does (.outCfgWrite i v) s fun t => t.fld (R.OUT_STATUS_STD_REJ i) = 1 ∧ OnlyFields s t [R.OUT_STATUS_STD_REJ i] := by
  have he : exec (.outCfgWrite i v) s = s.live (s.writeOutCfg i v.toNat) := rfl
  refine does_live he hp ?_
  rw [State.writeOutCfg, if_neg fun ⟨hf, hl⟩ => h.elim (fun h => h hf) (fun h => by simp [h] at hl)]
  exact ⟨State.fld_raise_same _ _, (OnlyFields.refl s _).raise (by simp)⟩

/-- What a divider write that its standard admits leaves. -/
theorem State.writeOutDiv_of_ok {s : State} {i v : Nat}
    (h : 2 ≤ v % 2 ^ 13 ∧ v % 2 ^ 13 ≤ 4096 ∧ freqOk (s.pllN (i / 6)) (v % 2 ^ 13) (s.fld (R.OUT_CFG_STD i)) = true ∧
      (privileged i = true → 1 ≤ v / 2 ^ 16 % 2 ^ 13 ∧ v / 2 ^ 16 % 2 ^ 13 ≤ 4096 ∧
        freqOk 1 (v / 2 ^ 16 % 2 ^ 13) (s.fld (R.OUT_CFG_STD i)) = true)) :
    s.writeOutDiv i v =
      let u := ((s.raiseIf (v % 2 ^ 13 != s.fld (R.OUT_DIV_D i)) (R.OUT_STATUS_PHASE_LOST i)).setFld (R.OUT_DIV_D i)
        (v % 2 ^ 13)).clearOver i
      if privileged i then u.setFld (R.OUT_DIV_BYP_D i) (v / 2 ^ 16 % 2 ^ 13) else u := by
  obtain ⟨hlo, hhi, hfits, hbyp⟩ := h
  rw [State.writeOutDiv, if_pos]
  refine ⟨hlo, hhi, hfits, ?_⟩
  cases hpriv : privileged i with
  | false => rfl
  | true =>
    obtain ⟨hb1, hb2, hb3⟩ := hbyp hpriv
    simp only [hb1, hb2, hb3, decide_true, Bool.and_self, Bool.or_true]

theorem does_outDivWrite {s : State} {i : Fin 24} {v : BitVec 32} (hp : s.powered = true) (hpriv : privileged i = false)
    (hlo : 2 ≤ v.toNat % 2 ^ 13) (hhi : v.toNat % 2 ^ 13 ≤ 4096)
    (hfits : freqOk (s.pllN (i.val / 6)) (v.toNat % 2 ^ 13) (s.fld (R.OUT_CFG_STD i)) = true) :
    Does (.outDivWrite i v) s fun t => t.fld (R.OUT_DIV_D i) = v.toNat % 2 ^ 13 ∧
      (s.fld (R.OUT_DIV_D i) ≠ v.toNat % 2 ^ 13 → t.fld (R.OUT_STATUS_PHASE_LOST i) = 1) ∧
      FieldsKept s t [R.OUT_DIV_D i, R.OUT_STATUS_PHASE_LOST i] ∧ MemKept s t := by
  have he : exec (.outDivWrite i v) s = s.live (s.writeOutDiv i v.toNat) := rfl
  refine does_live he hp ?_
  have hmem := memKept_of_memory (s.writeOutDiv_memory i v.toNat)
  generalize v.toNat = v at *
  generalize (i : Nat) = i at *
  rw [State.writeOutDiv_of_ok ⟨hlo, hhi, hfits, by simp [hpriv]⟩] at hmem ⊢
  simp only [hpriv, Bool.false_eq_true, if_false] at hmem ⊢
  refine ⟨?_, fun hne => ?_, fun f hf => ?_, hmem⟩
  · simp [R.OUT_DIV_D]
  · have hkey : (R.OUT_STATUS_PHASE_LOST i).key ≠ (R.OUT_DIV_D i).key := by
      simp only [Fld.key, R.OUT_STATUS_PHASE_LOST, R.OUT_DIV_D]
      omega
    rw [State.clearOver_fld, State.fld_setFld_ne _ _ hkey, State.raiseIf, if_pos (bne_iff_ne.mpr hne.symm), State.fld_raise_same]
    rfl
  · simp only [List.forall_mem_cons] at hf
    simp [State.fld_setFld, State.raiseIf, State.fld_ite, State.fld_raise, hf]

theorem does_outDivWrite_privileged {s : State} {i : Fin 24} {v : BitVec 32} (hp : s.powered = true) (hpriv : privileged i = true)
    (hlo : 2 ≤ v.toNat % 2 ^ 13) (hhi : v.toNat % 2 ^ 13 ≤ 4096)
    (hfits : freqOk (s.pllN (i.val / 6)) (v.toNat % 2 ^ 13) (s.fld (R.OUT_CFG_STD i)) = true)
    (hblo : 1 ≤ v.toNat / 2 ^ 16 % 2 ^ 13) (hbhi : v.toNat / 2 ^ 16 % 2 ^ 13 ≤ 4096)
    (hbfits : freqOk 1 (v.toNat / 2 ^ 16 % 2 ^ 13) (s.fld (R.OUT_CFG_STD i)) = true) :
    Does (.outDivWrite i v) s fun t => t.fld (R.OUT_DIV_D i) = v.toNat % 2 ^ 13 ∧
      t.fld (R.OUT_DIV_BYP_D i) = v.toNat / 2 ^ 16 % 2 ^ 13 ∧
      FieldsKept s t [R.OUT_DIV_D i, R.OUT_DIV_BYP_D i, R.OUT_STATUS_PHASE_LOST i] ∧ MemKept s t := by
  have he : exec (.outDivWrite i v) s = s.live (s.writeOutDiv i v.toNat) := rfl
  refine does_live he hp ?_
  have hmem := memKept_of_memory (s.writeOutDiv_memory i v.toNat)
  generalize v.toNat = v at *
  generalize (i : Nat) = i at *
  rw [State.writeOutDiv_of_ok ⟨hlo, hhi, hfits, fun _ => ⟨hblo, hbhi, hbfits⟩⟩] at hmem ⊢
  simp only [hpriv, if_true] at hmem ⊢
  refine ⟨?_, ?_, fun f hf => ?_, hmem⟩
  · simp +arith [State.fld_setFld, Fld.key, R.OUT_DIV_D, R.OUT_DIV_BYP_D]
  · simp [R.OUT_DIV_BYP_D]
  · simp only [List.forall_mem_cons] at hf
    simp [State.fld_setFld, State.raiseIf, State.fld_ite, State.fld_raise, hf]

theorem does_outDivWrite_refused {s : State} {i : Fin 24} {v : BitVec 32} (hp : s.powered = true)
    (h : v.toNat % 2 ^ 13 < 2 ∨ 4096 < v.toNat % 2 ^ 13 ∨
      ¬ freqOk (s.pllN (i.val / 6)) (v.toNat % 2 ^ 13) (s.fld (R.OUT_CFG_STD i)) = true) :
    Does (.outDivWrite i v) s fun t => t.fld (R.OUT_STATUS_STD_REJ i) = 1 ∧ OnlyFields s t [R.OUT_STATUS_STD_REJ i] := by
  have he : exec (.outDivWrite i v) s = s.live (s.writeOutDiv i v.toNat) := rfl
  refine does_live he hp ?_
  rw [State.writeOutDiv, if_neg]
  · exact ⟨State.fld_raise_same _ _, (OnlyFields.refl s _).raise (by simp)⟩
  · rintro ⟨hlo, hhi, hfits, -⟩
    obtain h | h | h := h
    · omega
    · omega
    · exact h hfits

/-! ### The trim -/

theorem State.trimBusy_fld_ne (s : State) (i : Nat) {f : Fld} (hf : f.key ≠ (R.OUT_STATUS_TRIM_BUSY i).key) :
    (s.trimBusy i).fld f = s.fld f := State.fld_setFld_ne _ _ hf

theorem State.trimBusy_busy (s : State) (i : Nat) : (s.trimBusy i).fld (R.OUT_STATUS_TRIM_BUSY i) =
    if s.fld (R.OUT_TRIM_TRIM_NOW i) = s.fld (R.OUT_TRIM_TRIM i) then 0 else 1 := by
  rw [State.trimBusy, State.fld_setFld_same]
  simp only [eq_comm (a := s.fld (R.OUT_TRIM_TRIM i))]
  split <;> rfl

theorem trim_keys (i : Nat) : (R.OUT_TRIM_TRIM i).key ≠ (R.OUT_TRIM_TRIM_NOW i).key ∧
    (R.OUT_TRIM_TRIM i).key ≠ (R.OUT_STATUS_TRIM_BUSY i).key ∧ (R.OUT_TRIM_TRIM_NOW i).key ≠ (R.OUT_STATUS_TRIM_BUSY i).key := by
  simp only [Fld.key, R.OUT_TRIM_TRIM, R.OUT_TRIM_TRIM_NOW, R.OUT_STATUS_TRIM_BUSY]
  omega

theorem does_outTrimWrite {s : State} {i : Fin 24} {v : BitVec 12} (hp : s.powered = true) :
    Does (.outTrimWrite i v) s fun t => t.fld (R.OUT_TRIM_TRIM i) = v.toNat ∧
      t.fld (R.OUT_STATUS_TRIM_BUSY i) = (if s.fld (R.OUT_TRIM_TRIM_NOW i) = v.toNat then 0 else 1) ∧
      OnlyFields s t [R.OUT_TRIM_TRIM i, R.OUT_STATUS_TRIM_BUSY i] := by
  have he : exec (.outTrimWrite i v) s = s.live (s.writeTrim i v.toNat) := rfl
  refine does_live he hp ?_
  have hv : v.toNat % 2 ^ (R.OUT_TRIM_TRIM i).width = v.toNat := Nat.mod_eq_of_lt v.isLt
  obtain ⟨hnow, hbusy, -⟩ := trim_keys i
  refine ⟨?_, ?_, ((OnlyFields.refl s _).setFld _ (by simp)).setFld _ (by simp)⟩
  · rw [State.writeTrim, State.trimBusy_fld_ne _ _ hbusy, State.fld_setFld_same, hv]
  · rw [State.writeTrim, State.trimBusy_busy, State.fld_setFld_same, State.fld_setFld_ne _ _ hnow.symm, hv]

/-- A step of the walk stays within 64 of where it was and does not pass the target. -/
theorem trimStep_spec (a b : Nat) : (a ≤ b → trimStep a b = min b (a + 64)) ∧ (b ≤ a → trimStep a b = max b (a - 64)) := by
  unfold trimStep
  split <;> omega

theorem does_trimWalkStep {s : State} {i : Fin 24} (hp : s.powered = true) (hb : s.fld (R.OUT_TRIM_TRIM i) < 4096)
    (ha : s.fld (R.OUT_TRIM_TRIM_NOW i) < 4096) :
    Does (.trimWalkStep i) s fun t =>
      let a := s.fld (R.OUT_TRIM_TRIM_NOW i); let b := s.fld (R.OUT_TRIM_TRIM i); let c := t.fld (R.OUT_TRIM_TRIM_NOW i)
      (a ≤ b → c = min b (a + 64)) ∧ (b ≤ a → c = max b (a - 64)) ∧
      t.fld (R.OUT_STATUS_TRIM_BUSY i) = (if c = b then 0 else 1) ∧
      OnlyFields s t [R.OUT_TRIM_TRIM_NOW i, R.OUT_STATUS_TRIM_BUSY i] := by
  have he : exec (.trimWalkStep i) s = s.live (s.trimWalk i) := rfl
  refine does_live he hp ?_
  generalize (i : Nat) = i at *
  obtain ⟨hup, hdown⟩ := trimStep_spec (s.fld (R.OUT_TRIM_TRIM_NOW i)) (s.fld (R.OUT_TRIM_TRIM i))
  have hlt : trimStep (s.fld (R.OUT_TRIM_TRIM_NOW i)) (s.fld (R.OUT_TRIM_TRIM i)) % 4096
      = trimStep (s.fld (R.OUT_TRIM_TRIM_NOW i)) (s.fld (R.OUT_TRIM_TRIM i)) := by
    obtain h | h := Nat.le_total (s.fld (R.OUT_TRIM_TRIM_NOW i)) (s.fld (R.OUT_TRIM_TRIM i))
    · rw [hup h]; omega
    · rw [hdown h]; omega
  obtain ⟨hkey, hbusy, hbusy'⟩ := trim_keys i
  have hwritten : ∀ x, (s.setFld (R.OUT_TRIM_TRIM_NOW i) x).fld (R.OUT_TRIM_TRIM_NOW i) = x % 4096 := State.fld_setFld_same s _
  have hnow : (s.trimWalk i).fld (R.OUT_TRIM_TRIM_NOW i)
      = trimStep (s.fld (R.OUT_TRIM_TRIM_NOW i)) (s.fld (R.OUT_TRIM_TRIM i)) := by
    rw [State.trimWalk, State.trimBusy_fld_ne _ _ hbusy', hwritten, hlt]
  dsimp only
  rw [hnow]
  refine ⟨hup, hdown, ?_, ((OnlyFields.refl s _).setFld _ (by simp)).setFld _ (by simp)⟩
  rw [State.trimWalk, State.trimBusy_busy, hwritten, hlt, State.fld_setFld_ne _ _ hkey]

/-! ### SYNC -/

/-- A SYNC that completes shows its code and is counted. -/
theorem State.syncEnd_spec (s : State) {code : Nat} (hc : code < 8) :
    (s.syncEnd code).fld R.OUT_SYNC_STATUS_RESULT = code ∧
      (s.syncEnd code).fld R.OUT_SYNC_STATUS_SEQ = (s.fld R.OUT_SYNC_STATUS_SEQ + 1) % 2 ^ R.OUT_SYNC_STATUS_SEQ.width ∧
      OnlyFields s (s.syncEnd code) [R.OUT_SYNC_STATUS_RESULT, R.OUT_SYNC_STATUS_SEQ] := by
  refine ⟨?_, ?_, ((OnlyFields.refl s _).setFld _ (by simp)).setFld _ (by simp)⟩
  · rw [State.syncEnd, State.fld_next, if_neg (by decide), State.fld_setFld_same]
    exact Nat.mod_eq_of_lt hc
  · rw [State.syncEnd, State.fld_next, if_pos rfl, State.fld_setFld_ne _ _ (by decide)]

theorem does_syncGo {s : State} (hp : s.powered = true) :
    Does .syncGo s fun t =>
      let at_ := decodeHub (s.triple R.OUT_SYNC_AT_0_AT R.OUT_SYNC_AT_1_AT R.OUT_SYNC_AT_2_AT)
      let code := if s.outs.sync ≠ none then 2 else if at_ < s.tb.now + 2 * fuPerUs then 3
        else if s.syncSet s.syncMask = [] then 4 else 1
      t.fld R.OUT_SYNC_STATUS_RESULT = code ∧
      (code = 1 → t.outs.sync = some { pin := false, mask := s.syncMask, at_ := at_, hold := false }) ∧
      (code ≠ 1 → t.outs = s.outs ∧
        t.fld R.OUT_SYNC_STATUS_SEQ = (s.fld R.OUT_SYNC_STATUS_SEQ + 1) % 2 ^ R.OUT_SYNC_STATUS_SEQ.width) ∧
      FieldsKept s t [R.OUT_SYNC_STATUS_RESULT, R.OUT_SYNC_STATUS_SEQ] ∧ MemKept s t := by
  have he : exec .syncGo s = s.live s.syncGo := rfl
  refine does_live he hp ?_
  have hrefused {code : Nat} (hc : code < 8) : (s.syncEnd code).fld R.OUT_SYNC_STATUS_RESULT = code ∧
      ((s.syncEnd code).outs = s.outs ∧ (s.syncEnd code).fld R.OUT_SYNC_STATUS_SEQ
        = (s.fld R.OUT_SYNC_STATUS_SEQ + 1) % 2 ^ R.OUT_SYNC_STATUS_SEQ.width) ∧
      FieldsKept s (s.syncEnd code) [R.OUT_SYNC_STATUS_RESULT, R.OUT_SYNC_STATUS_SEQ] ∧ MemKept s (s.syncEnd code) := by
    obtain ⟨hres, hseq, -, hkept⟩ := s.syncEnd_spec hc
    exact ⟨hres, ⟨rfl, hseq⟩, hkept, fun _ => rfl⟩
  simp only [State.syncGo, Option.isSome_iff_ne_none]
  split_ifs with hbusy hlate hempty
  · obtain ⟨hres, hrest, hframe⟩ := hrefused (code := 2) (by decide)
    exact ⟨hres, fun h => absurd h (by decide), fun _ => hrest, hframe⟩
  · obtain ⟨hres, hrest, hframe⟩ := hrefused (code := 3) (by decide)
    exact ⟨hres, fun h => absurd h (by decide), fun _ => hrest, hframe⟩
  · obtain ⟨hres, hrest, hframe⟩ := hrefused (code := 4) (by decide)
    exact ⟨hres, fun h => absurd h (by decide), fun _ => hrest, hframe⟩
  · exact ⟨State.fld_setFld_same s R.OUT_SYNC_STATUS_RESULT 1, fun _ => rfl, fun h => absurd rfl h,
      (FieldsKept.refl s _).setFld (g := R.OUT_SYNC_STATUS_RESULT) 1 (by simp), fun _ => rfl⟩

theorem exec_syncInEdge (s : State) : exec .syncInEdge s = s.live s.syncPin := rfl

theorem does_syncInEdge {s : State} (hp : s.powered = true) (hpin : s.fld R.OUT_SYNC_CTL_PIN_EN = 1) (hfree : s.outs.sync = none)
    (hset : s.syncSet s.syncMask ≠ []) :
    Does .syncInEdge s fun t => t.outs.sync = some { pin := true, mask := s.syncMask, at_ := s.tb.elapsed, hold := false } ∧
      t.regs = s.regs ∧ MemKept s t := by
  refine does_live (exec_syncInEdge s) hp ?_
  rw [State.syncPin, if_neg (by simp [State.flag, hpin]), if_neg (by simp [hfree]), if_neg hset]
  exact ⟨rfl, rfl, fun _ => rfl⟩

theorem does_syncInEdge_waiting {s : State} (hp : s.powered = true) (hpin : s.fld R.OUT_SYNC_CTL_PIN_EN = 1)
    (hbusy : s.outs.sync ≠ none) :
    Does .syncInEdge s fun t => t.fld R.OUT_SYNC_STATUS_PIN_IGN
        = min (2 ^ R.OUT_SYNC_STATUS_PIN_IGN.width - 1) (s.fld R.OUT_SYNC_STATUS_PIN_IGN + 1) ∧
      OnlyFields s t [R.OUT_SYNC_STATUS_PIN_IGN] := by
  refine does_live (exec_syncInEdge s) hp ?_
  rw [State.syncPin, if_neg (by simp [State.flag, hpin]), if_pos (Option.isSome_iff_ne_none.mpr hbusy)]
  exact ⟨State.fld_bump_same _ _, (OnlyFields.refl s _).bump (by simp)⟩

theorem does_syncInEdge_empty {s : State} (hp : s.powered = true) (hpin : s.fld R.OUT_SYNC_CTL_PIN_EN = 1)
    (hfree : s.outs.sync = none) (hset : s.syncSet s.syncMask = []) :
    Does .syncInEdge s fun t => t.fld R.OUT_SYNC_STATUS_RESULT = 4 ∧
      t.fld R.OUT_SYNC_STATUS_SEQ = (s.fld R.OUT_SYNC_STATUS_SEQ + 1) % 2 ^ R.OUT_SYNC_STATUS_SEQ.width ∧
      OnlyFields s t [R.OUT_SYNC_STATUS_RESULT, R.OUT_SYNC_STATUS_SEQ] := by
  refine does_live (exec_syncInEdge s) hp ?_
  rw [State.syncPin, if_neg (by simp [State.flag, hpin]), if_neg (by simp [hfree]), if_pos hset]
  exact s.syncEnd_spec (by decide)

theorem ignores_syncInEdge {s : State} (hpin : s.fld R.OUT_SYNC_CTL_PIN_EN = 0) : Ignores .syncInEdge s :=
  ignores_live (exec_syncInEdge s) (if_pos (by simp [State.flag, hpin]))

theorem does_syncHoldStart {s : State} {w : SyncWait} (hp : s.powered = true) (hw : s.outs.sync = some w)
    (hdue : w.pin = true ∨ w.at_ ≤ s.tb.now + 200 * 65536) :
    Does .syncHoldStart s fun t => t.outs.sync = some { w with hold := true } ∧ t.regs = s.regs ∧ MemKept s t := by
  have he : exec .syncHoldStart s = s.live s.syncHold := rfl
  refine does_live he hp ?_
  simp only [State.syncHold, syncHoldFu, hw, hdue, if_true]
  exact ⟨trivial, trivial, fun _ => rfl⟩

/-- Clearing PHASE_LOST of some outputs clears it of those and of no other. -/
theorem State.fld_clearPhaseLost (l : List Nat) (s : State) (i : Nat) :
    (l.foldl (fun s i => s.clr (R.OUT_STATUS_PHASE_LOST i)) s).fld (R.OUT_STATUS_PHASE_LOST i)
      = if i ∈ l then 0 else s.fld (R.OUT_STATUS_PHASE_LOST i) := by
  induction l generalizing s with
  | nil => rfl
  | cons j l ih =>
    have hkey : (R.OUT_STATUS_PHASE_LOST i).key = (R.OUT_STATUS_PHASE_LOST j).key ↔ i = j := by
      simp only [Fld.key, R.OUT_STATUS_PHASE_LOST]
      omega
    rw [List.foldl_cons, ih, State.fld_clr]
    simp only [hkey, List.mem_cons]
    by_cases hj : i = j <;> simp [hj]

/-- The other fields stay. -/
theorem State.fld_clearPhaseLost_ne (l : List Nat) (s : State) {f : Fld} (hf : ∀ i, f.key ≠ (R.OUT_STATUS_PHASE_LOST i).key) :
    (l.foldl (fun s i => s.clr (R.OUT_STATUS_PHASE_LOST i)) s).fld f = s.fld f := by
  induction l generalizing s with
  | nil => rfl
  | cons j l ih => rw [List.foldl_cons, ih, State.fld_clr, if_neg (hf j)]

/-- Three words take a 96-bit value. -/
theorem State.triple_setTriple (s : State) {f0 f1 f2 : Fld} {v : Nat} (h0 : f0.width = 32) (h1 : f1.width = 32) (h2 : f2.width = 32)
    (h01 : f0.key ≠ f1.key) (h02 : f0.key ≠ f2.key) (h12 : f1.key ≠ f2.key) (hv : v < 2 ^ 96) :
    (s.setTriple f0 f1 f2 v).triple f0 f1 f2 = v := by
  rw [State.setTriple_eq, State.triple, State.fld_setFld_same, State.fld_setFld_ne _ _ h02, State.fld_setFld_ne _ _ h01,
    State.fld_setFld_same, State.fld_setFld_ne _ _ h12, State.fld_setFld_same, h0, h1, h2]
  omega

theorem mem_syncSet {s : State} {mask : Nat} (i : Fin 24) :
    (i : Nat) ∈ s.syncSet mask ↔ mask.testBit i = true ∧ s.syncable i = true := by
  simp [State.syncSet]

theorem does_syncInstant {s : State} {w : SyncWait} {at_ : Nat} (hp : s.powered = true) (hw : s.outs.sync = some w)
    (hdue : s.syncDue w at_ = true) :
    Does (.syncInstant at_) s fun t => t.outs.sync = none ∧ t.fld R.OUT_SYNC_STATUS_RESULT = 0 ∧
      t.fld R.OUT_SYNC_STATUS_SEQ = (s.fld R.OUT_SYNC_STATUS_SEQ + 1) % 2 ^ R.OUT_SYNC_STATUS_SEQ.width ∧
      t.triple R.OUT_SYNC_INST_0_INST R.OUT_SYNC_INST_1_INST R.OUT_SYNC_INST_2_INST = encodeHub at_ ∧
      (∀ i : Fin 24, t.fld (R.OUT_STATUS_PHASE_LOST i)
        = if w.mask.testBit i = true ∧ s.syncable i = true then 0 else s.fld (R.OUT_STATUS_PHASE_LOST i)) ∧ MemKept s t := by
  have he : exec (.syncInstant at_) s = s.live (s.syncInstant at_) := rfl
  refine does_live he hp ?_
  have hmem := memKept_of_memory (s.syncInstant_memory at_)
  have henc := encodeHub_lt at_
  simp only [State.syncInstant, hw, hdue, if_true] at hmem ⊢
  generalize encodeHub at_ = x at *
  generalize hu : (s.syncSet w.mask).foldl (fun s i => s.clr (R.OUT_STATUS_PHASE_LOST i)) s = u at *
  generalize hv : u.setTriple R.OUT_SYNC_INST_0_INST R.OUT_SYNC_INST_1_INST R.OUT_SYNC_INST_2_INST x = v at *
  generalize hw' : { v with outs := { v.outs with sync := none } } = w' at hmem ⊢
  have hfree : w'.outs.sync = none := by rw [← hw']
  have hfld (f : Fld) : w'.fld f = v.fld f := State.fld_congr (by rw [← hw']) f
  obtain ⟨hres, hseq, hframe, hkept⟩ := w'.syncEnd_spec (code := 0) (by decide)
  have htriple : v.triple R.OUT_SYNC_INST_0_INST R.OUT_SYNC_INST_1_INST R.OUT_SYNC_INST_2_INST = x :=
    hv ▸ State.triple_setTriple u rfl rfl rfl (by decide) (by decide) (by decide) henc
  have hv' {f : Fld} (hf : ∀ g ∈ [R.OUT_SYNC_INST_0_INST, R.OUT_SYNC_INST_1_INST, R.OUT_SYNC_INST_2_INST], f.key ≠ g.key) :
      v.fld f = u.fld f := by
    simp only [List.forall_mem_cons] at hf
    simp [← hv, State.setTriple_eq, State.fld_setFld, hf]
  refine ⟨by rw [hframe, hfree], hres, hseq.trans ?_, ?_, fun i => ?_, hmem⟩
  · rw [hfld, hv' (by decide), ← hu,
      State.fld_clearPhaseLost_ne]
    intro i
    simp only [Fld.key, R.OUT_STATUS_PHASE_LOST, R.OUT_SYNC_STATUS_SEQ]
    omega
  · simp only [State.triple] at htriple ⊢
    rw [hkept _ (by decide), hkept _ (by decide), hkept _ (by decide), hfld, hfld, hfld]
    exact htriple
  · rw [hkept, hfld, hv', ← hu,
      State.fld_clearPhaseLost]
    · simp only [mem_syncSet]
    · simp only [List.forall_mem_cons, Fld.key, R.OUT_STATUS_PHASE_LOST, R.OUT_SYNC_INST_0_INST, R.OUT_SYNC_INST_1_INST,
        R.OUT_SYNC_INST_2_INST]
      exact ⟨by omega, by omega, by omega, by simp⟩
    · simp only [List.forall_mem_cons, Fld.key, R.OUT_STATUS_PHASE_LOST, R.OUT_SYNC_STATUS_RESULT, R.OUT_SYNC_STATUS_SEQ]
      exact ⟨by omega, by omega, by simp⟩

/-- The instant of R160, as the model tests it. -/
theorem State.syncDue_of {s : State} {w : SyncWait} {at_ : Nat}
    (h : if w.pin then 240 * 65536 ≤ (s.tb.elapsed : Int) + (at_ : Int) - s.tb.now - w.at_
        ∧ (s.tb.elapsed : Int) + (at_ : Int) - s.tb.now - w.at_ ≤ 250 * 65536 ∧ ((at_ : Int) - s.tb.now).natAbs ≤ 10 * 65536
      else w.at_ ≤ at_ ∧ at_ < w.at_ + 10 * 65536 ∧ w.at_ ≤ s.tb.now) : s.syncDue w at_ = true := by
  unfold State.syncDue
  split at h
  · next hpin =>
    simp only [hpin, if_true, Bool.and_eq_true, decide_eq_true_eq]
    omega
  · next hpin =>
    simp only [hpin, Bool.false_eq_true, if_false, Bool.and_eq_true, decide_eq_true_eq]
    omega

theorem ignores_sync {s : State} (at_ : Nat) (hfree : s.outs.sync = none) : ∀ c ∈ [Instr.syncHoldStart, .syncInstant at_], Ignores c s := by
  simp only [List.forall_mem_cons]
  refine ⟨ignores_live (t := s.syncHold) rfl ?_, ignores_live (t := s.syncInstant at_) rfl ?_, by simp⟩
  · simp only [State.syncHold, hfree]
  · simp only [State.syncInstant, hfree]

/-- Settles O13: the write of each register by its admission test, GO and SYNC_IN by the order of their codes, and the instant by the
two folds over the outputs that it restarts. -/
theorem clockOutputCommands : Obligations.ClockOutputCommands :=
  ⟨fun _ _ _ hp hf hl => does_outCfgWrite hp hf hl, fun _ _ _ hp h => does_outCfgWrite_refused hp h,
    fun _ _ _ hp hpriv hlo hhi hfits => does_outDivWrite hp hpriv hlo hhi hfits,
    fun _ _ _ hp hpriv hlo hhi hfits hblo hbhi hbfits => does_outDivWrite_privileged hp hpriv hlo hhi hfits hblo hbhi hbfits,
    fun _ _ _ hp h => does_outDivWrite_refused hp h, fun _ _ _ hp => does_outTrimWrite hp,
    fun _ _ hp hb ha => does_trimWalkStep hp hb ha, fun _ hp => does_syncGo hp,
    fun _ hp hpin hfree hset => does_syncInEdge hp hpin hfree hset, fun _ hp hpin hbusy => does_syncInEdge_waiting hp hpin hbusy,
    fun _ hp hpin hfree hset => does_syncInEdge_empty hp hpin hfree hset, fun _ _ hpin => ignores_syncInEdge hpin,
    fun _ _ hp hw hdue => does_syncHoldStart hp hw hdue, fun _ _ _ hp hw h => does_syncInstant hp hw (State.syncDue_of h),
    fun _ at_ _ hfree => ignores_sync at_ hfree⟩

end Sys2Proof.Machine


/-! O14: the pulse outputs and the commit of the 96-bit registers (05 R162 to R166). -/
namespace Sys2Proof.Machine

/-! ### Rules of the pulse table and of RUNNING -/

@[simp] theorem State.pulse_setFld (s : State) (f : Fld) (v k : Nat) : (s.setFld f v).pulse k = s.pulse k := rfl

@[simp] theorem State.pulse_raise (s : State) (f : Fld) (k : Nat) : (s.raise f).pulse k = s.pulse k := rfl

@[simp] theorem State.pulse_ppsRunning (s : State) (j k : Nat) : (s.ppsRunning j).pulse k = s.pulse k := rfl

@[simp] theorem State.pulse_setPulse (s : State) (k : Nat) (p : Pulse) : (s.setPulse k p).pulse k = p := by
  simp [State.pulse, State.setPulse]

theorem State.ppsRunning_fieldsKept (s : State) (k : Nat) : FieldsKept s (s.ppsRunning k) [R.PPS_STATUS_RUNNING k] :=
  (FieldsKept.refl s _).setFld _ (by simp)

/-- RUNNING does not count among what decides whether the output emits. -/
theorem State.ppsEmits_ppsRunning (s : State) (k : Nat) : (s.ppsRunning k).ppsEmits k = s.ppsEmits k := by
  have hkept := s.ppsRunning_fieldsKept k
  have hen : (s.ppsRunning k).fld (R.PPS_CFG_EN k) = s.fld (R.PPS_CFG_EN k) := hkept _ (by
    simp only [List.forall_mem_cons, Fld.key, R.PPS_CFG_EN, R.PPS_STATUS_RUNNING]
    exact ⟨by omega, by simp⟩)
  have hmode : (s.ppsRunning k).fld (R.PPS_CFG_MODE k) = s.fld (R.PPS_CFG_MODE k) := hkept _ (by
    simp only [List.forall_mem_cons, Fld.key, R.PPS_CFG_MODE, R.PPS_STATUS_RUNNING]
    exact ⟨by omega, by simp⟩)
  have hown : (s.ppsRunning k).fld (R.FLT_SRC_FENCED (0x008 + k)) = s.fld (R.FLT_SRC_FENCED (0x008 + k)) := hkept _ (by
    simp only [List.forall_mem_cons, Fld.key, R.FLT_SRC_FENCED, R.PPS_STATUS_RUNNING]
    exact ⟨by omega, by simp⟩)
  have hti : (s.ppsRunning k).fld R.FLT_STATUS_TI_FENCED = s.fld R.FLT_STATUS_TI_FENCED := hkept _ (by
    simp only [List.forall_mem_cons, Fld.key, R.FLT_STATUS_TI_FENCED, R.PPS_STATUS_RUNNING]
    exact ⟨by omega, by simp⟩)
  simp only [State.ppsEmits, State.pulseFenced, State.fenced, State.tiFenced, State.ppsMode, State.flag, hen, hmode, hown, hti,
    State.pulse_ppsRunning]

theorem State.ppsRunning_running (s : State) (k : Nat) :
    (s.ppsRunning k).fld (R.PPS_STATUS_RUNNING k) = if (s.ppsRunning k).ppsEmits k then 1 else 0 := by
  rw [State.ppsEmits_ppsRunning, State.ppsRunning, State.fld_setFld_same]
  split <;> rfl

/-! ### Edges -/

/-- What an edge that leaves makes of the pulse, whatever the mode. -/
theorem State.pulse_ppsEmit (s : State) (k : Nat) (p : Pulse) (e : Int) : (s.ppsEmit k p e).pulse k =
    { p with n := p.n + 1, cf := s.fld (R.PPS_IRIG_CF k), irig := if s.ppsMode k = 3 then s.irigOut k e else p.irig } := by
  unfold State.ppsEmit State.raiseIf
  dsimp only
  split
  · split <;> simp
  · simp

theorem State.ppsEmit_fieldsKept (s : State) (k : Nat) (p : Pulse) (e : Int) :
    FieldsKept s (s.ppsEmit k p e) [R.PPS_STATUS_FR_DONE k, R.PPS_STATUS_RUNNING k] := by
  intro f hf
  simp only [List.forall_mem_cons] at hf
  simp [State.ppsEmit, State.ppsRunning, State.raiseIf, State.fld_ite, State.fld_setFld, State.fld_raise, hf]

/-- The last edge of a frame sequence shows it done. -/
theorem State.ppsEmit_done {s : State} {k : Nat} {p : Pulse} (e : Int) (hm : s.ppsMode k = 2) (hseq : p.seq = false) :
    (s.ppsEmit k p e).fld (R.PPS_STATUS_FR_DONE k) = 1 := by
  have hkey : (R.PPS_STATUS_FR_DONE k).key ≠ (R.PPS_STATUS_RUNNING k).key := by
    simp only [Fld.key, R.PPS_STATUS_FR_DONE, R.PPS_STATUS_RUNNING]
    omega
  simp only [State.ppsEmit, hm, hseq, if_true, State.ppsRunning, State.raiseIf, Bool.not_false]
  rw [State.fld_setFld_ne _ _ hkey, State.fld_raise_same]
  rfl

theorem does_ppsEdge_owed {s : State} {k : Fin 8} {e : Int} (hp : s.powered = true) (hem : s.ppsEmits k = true)
    (ho : (s.pulse k).owed = some e) :
    Does (.ppsEdge k) s fun t => (t.pulse k).owed = none ∧ (t.pulse k).last = (s.pulse k).last ∧
      (t.pulse k).n = (s.pulse k).n + 1 ∧ FieldsKept s t [R.PPS_STATUS_FR_DONE k, R.PPS_STATUS_RUNNING k] ∧ MemKept s t := by
  have he : exec (.ppsEdge k) s = s.live (s.ppsEdge k) := rfl
  refine does_live he hp ?_
  have hmem := memKept_of_memory (s.ppsEdge_memory k)
  simp only [State.ppsEdge, ho, hem, if_true] at hmem ⊢
  refine ⟨?_, ?_, ?_, State.ppsEmit_fieldsKept _ _ _ _, hmem⟩
  all_goals
    rw [State.pulse_ppsEmit]
    split <;> rfl

theorem does_ppsEdge_due {s : State} {k : Fin 8} (hp : s.powered = true) (hem : s.ppsEmits k = true)
    (ho : (s.pulse k).owed = none) (hrun : s.tb.running = true) (hdue : s.ppsNext k ≤ (s.tb.now : Int)) :
    Does (.ppsEdge k) s fun t => (t.pulse k).last = s.ppsNext k ∧ (t.pulse k).n = (s.pulse k).n + 1 ∧
      (t.pulse k).cf = s.fld (R.PPS_IRIG_CF k) ∧ (s.ppsMode k = 3 → (t.pulse k).irig = s.irigOut k (s.ppsNext k)) ∧
      (s.ppsMode k = 2 → (t.pulse k).m = (s.pulse k).m + 1 ∧ ((s.pulse k).left = 1 → (t.pulse k).seq = false ∧
        t.fld (R.PPS_STATUS_FR_DONE k) = 1)) ∧
      FieldsKept s t [R.PPS_STATUS_FR_DONE k, R.PPS_STATUS_RUNNING k] ∧ MemKept s t := by
  have he : exec (.ppsEdge k) s = s.live (s.ppsEdge k) := rfl
  refine does_live he hp ?_
  have hmem := memKept_of_memory (s.ppsEdge_memory k)
  simp only [State.ppsEdge, ho, hem, hrun, hdue, and_self, if_true] at hmem ⊢
  refine ⟨?_, ?_, ?_, fun hm => ?_, fun hm => ⟨?_, fun hl => ⟨?_, ?_⟩⟩, State.ppsEmit_fieldsKept _ _ _ _, hmem⟩
  · rw [State.pulse_ppsEmit]
    split <;> rfl
  · rw [State.pulse_ppsEmit]
    split <;> rfl
  · rw [State.pulse_ppsEmit]
  · rw [State.pulse_ppsEmit]
    simp only [hm, if_true]
  · rw [State.pulse_ppsEmit]
    simp only [hm, if_true]
  · rw [State.pulse_ppsEmit]
    simp only [hm, if_true, Pulse.frameCount, hl, bne_self_eq_false]
  · exact State.ppsEmit_done _ hm (by simp only [hm, if_true, Pulse.frameCount, hl, bne_self_eq_false])

theorem ignores_ppsEdge {s : State} {k : Fin 8} (ho : (s.pulse k).owed = none)
    (h : s.ppsEmits k = false ∨ (s.tb.now : Int) < s.ppsNext k) : Ignores (.ppsEdge k) s := by
  refine ignores_live (t := s.ppsEdge k) rfl ?_
  simp only [State.ppsEdge, ho]
  refine if_neg fun ⟨hem, _, hdue⟩ => ?_
  obtain h | h := h
  · simp [h] at hem
  · omega

/-! ### Writes of the configuration -/

theorem State.ppsCfgOk_iff (s : State) (k mode npps w : Nat) : s.ppsCfgOk k mode npps w = true ↔
    (mode = 1 → 2 ≤ npps ∧ npps ≤ 999) ∧ (mode = 2 → minPeriod ≤ s.framePeriod k) ∧
      widthOk mode w npps (s.framePeriod k) = true := by
  simp only [State.ppsCfgOk, Bool.and_eq_true, Bool.or_eq_true, bne_iff_ne, and_assoc, or_iff_not_imp_left, ne_eq, not_not]
  simp only [decide_eq_true_eq]

/-- An admitted write of PPS_CFG writes its fields; the pulse's own state and RUNNING follow. -/
theorem State.writePpsCfg_of_ok {s : State} {k v : Nat} (hstd : v / 2 ^ 3 % 4 ≠ 3)
    (hvdd : v / 2 ^ 3 % 4 = 2 ∨ s.bankVdd 1 = v / 2 ^ 3 % 4 + 1)
    (hok : s.ppsCfgOk k (v / 2 % 4) (v / 2 ^ 10 % 2 ^ 10) (s.fld (R.PPS_WIDTH_WIDTH k)) = true) :
    ∃ p, s.writePpsCfg k v = (((((((((s.setFld (R.PPS_CFG_EN k) v).setFld (R.PPS_CFG_MODE k) (v / 2 % 4)).setFld
      (R.PPS_CFG_STD k) (v / 2 ^ 3 % 4)).setFld (R.PPS_CFG_POL k) (v / 2 ^ 5)).setFld (R.PPS_CFG_IRIG_CODE k) (v / 2 ^ 6)).setFld
      (R.PPS_CFG_IRIG_TS k) (v / 2 ^ 9)).setFld (R.PPS_CFG_NPPS k) (v / 2 ^ 10 % 2 ^ 10)).setPulse k p).ppsRunning k) := by
  rw [State.writePpsCfg, if_pos ⟨by simpa only [Bool.and_eq_true, Bool.or_eq_true, decide_eq_true_eq, beq_iff_eq] using ⟨hstd, hvdd⟩, hok⟩]
  exact ⟨_, rfl⟩

theorem does_ppsCfgWrite {s : State} {k : Fin 8} {v : BitVec 32} (hp : s.powered = true) (hstd : v.toNat / 2 ^ 3 % 4 ≠ 3)
    (hvdd : v.toNat / 2 ^ 3 % 4 = 2 ∨ s.bankVdd 1 = v.toNat / 2 ^ 3 % 4 + 1)
    (hrate : v.toNat / 2 % 4 = 1 → 2 ≤ v.toNat / 2 ^ 10 % 2 ^ 10 ∧ v.toNat / 2 ^ 10 % 2 ^ 10 ≤ 999)
    (hper : v.toNat / 2 % 4 = 2 → 20 * 65536 ≤ s.framePeriod k)
    (hwidth : widthOk (v.toNat / 2 % 4) (s.fld (R.PPS_WIDTH_WIDTH k)) (v.toNat / 2 ^ 10 % 2 ^ 10) (s.framePeriod k) = true) :
    Does (.ppsCfgWrite k 0 v) s fun t => t.fld (R.PPS_CFG_EN k) = v.toNat % 2 ∧ t.ppsMode k = v.toNat / 2 % 4 ∧
      t.fld (R.PPS_CFG_STD k) = v.toNat / 2 ^ 3 % 4 ∧ t.fld (R.PPS_CFG_POL k) = v.toNat / 2 ^ 5 % 2 ∧
      t.fld (R.PPS_CFG_NPPS k) = v.toNat / 2 ^ 10 % 2 ^ 10 ∧
      t.fld (R.PPS_STATUS_RUNNING k) = (if t.ppsEmits k then 1 else 0) ∧ MemKept s t := by
  have he : exec (.ppsCfgWrite k 0 v) s = s.live (s.writePpsCfg k v.toNat) := rfl
  refine does_live he hp ?_
  have hmem := memKept_of_memory (s.writePpsCfg_memory k v.toNat)
  obtain ⟨p, heq⟩ := State.writePpsCfg_of_ok hstd hvdd ((s.ppsCfgOk_iff k _ _ _).mpr ⟨hrate, hper, hwidth⟩)
  rw [heq] at hmem ⊢
  generalize v.toNat = v at *
  generalize (k : Nat) = k at *
  refine ⟨?_, ?_, ?_, ?_, ?_, State.ppsRunning_running _ _, hmem⟩
  all_goals
    simp +arith [State.ppsMode, State.ppsRunning, State.fld_setFld, Fld.key, R.PPS_CFG_EN, R.PPS_CFG_MODE, R.PPS_CFG_STD,
      R.PPS_CFG_POL, R.PPS_CFG_IRIG_CODE, R.PPS_CFG_IRIG_TS, R.PPS_CFG_NPPS, R.PPS_STATUS_RUNNING]

theorem does_ppsCfgWrite_refused {s : State} {k : Fin 8} {v : BitVec 32} (hp : s.powered = true)
    (h : v.toNat / 2 ^ 3 % 4 = 3 ∨ (v.toNat / 2 ^ 3 % 4 ≠ 2 ∧ s.bankVdd 1 ≠ v.toNat / 2 ^ 3 % 4 + 1) ∨
      (v.toNat / 2 % 4 = 1 ∧ (v.toNat / 2 ^ 10 % 2 ^ 10 < 2 ∨ 999 < v.toNat / 2 ^ 10 % 2 ^ 10)) ∨
      (v.toNat / 2 % 4 = 2 ∧ s.framePeriod k < 20 * 65536) ∨
      widthOk (v.toNat / 2 % 4) (s.fld (R.PPS_WIDTH_WIDTH k)) (v.toNat / 2 ^ 10 % 2 ^ 10) (s.framePeriod k) = false) :
    Does (.ppsCfgWrite k 0 v) s fun t => t.fld (R.PPS_STATUS_CFG_REJ k) = 1 ∧ OnlyFields s t [R.PPS_STATUS_CFG_REJ k] := by
  have he : exec (.ppsCfgWrite k 0 v) s = s.live (s.writePpsCfg k v.toNat) := rfl
  refine does_live he hp ?_
  rw [State.writePpsCfg, if_neg]
  · exact ⟨State.fld_raise_same _ _, (OnlyFields.refl s _).raise (by simp)⟩
  · rintro ⟨hstd, hok⟩
    obtain ⟨hrate, hper, hwidth⟩ := (s.ppsCfgOk_iff k _ _ _).mp hok
    simp only [Bool.and_eq_true, Bool.or_eq_true, decide_eq_true_eq, beq_iff_eq] at hstd
    obtain ⟨hstd, hvdd⟩ := hstd
    obtain h | ⟨h2, hv⟩ | ⟨hm, h⟩ | ⟨hm, h⟩ | h := h
    · exact hstd h
    · exact hvdd.elim h2 hv
    · have := hrate hm
      omega
    · exact absurd (hper hm) (Nat.not_le.mpr h)
    · exact absurd (hwidth.symm.trans h) (by decide)

theorem does_ppsCfgWrite_width {s : State} {k : Fin 8} {v : BitVec 32} (hp : s.powered = true) :
    Does (.ppsCfgWrite k 1 v) s fun t =>
      if widthOk (s.ppsMode k) (v.toNat % 2 ^ 30) (s.fld (R.PPS_CFG_NPPS k)) (s.framePeriod k) = true then
        t.fld (R.PPS_WIDTH_WIDTH k) = v.toNat % 2 ^ 30 ∧ OnlyFields s t [R.PPS_WIDTH_WIDTH k]
      else t.fld (R.PPS_STATUS_CFG_REJ k) = 1 ∧ OnlyFields s t [R.PPS_STATUS_CFG_REJ k] := by
  have he : exec (.ppsCfgWrite k 1 v) s = s.live (s.writePpsWidth k v.toNat) := rfl
  refine does_live he hp ?_
  simp only [State.writePpsWidth]
  split
  · exact ⟨(State.fld_setFld_same _ _ _).trans (Nat.mod_mod _ _), (OnlyFields.refl s _).setFld _ (by simp)⟩
  · exact ⟨State.fld_raise_same _ _, (OnlyFields.refl s _).raise (by simp)⟩

theorem exec_ppsCfgWrite_period (s : State) (k : Fin 8) (v : BitVec 32) :
    exec (.ppsCfgWrite k 4 v) s = s.live (s.writePeriod k (R.PPS_FR_PER_NS k) v.toNat) := rfl

theorem does_ppsCfgWrite_period {s : State} {k : Fin 8} {v : BitVec 32} (hp : s.powered = true) (hseq : (s.pulse k).seq = false) :
    Does (.ppsCfgWrite k 4 v) s fun t => t.fld (R.PPS_FR_PER_NS k) = v.toNat % 2 ^ (R.PPS_FR_PER_NS k).width ∧
      OnlyFields s t [R.PPS_FR_PER_NS k] := by
  refine does_live (exec_ppsCfgWrite_period s k v) hp ?_
  rw [State.writePeriod, if_neg (by simp [hseq])]
  exact ⟨State.fld_setFld_same _ _ _, (OnlyFields.refl s _).setFld _ (by simp)⟩

theorem does_ppsCfgWrite_period_refused {s : State} {k : Fin 8} {v : BitVec 32} (hp : s.powered = true)
    (hseq : (s.pulse k).seq = true)
    (hshort : v.toNat % 2 ^ (R.PPS_FR_PER_NS k).width * 65536 + s.fld (R.PPS_FR_PER_FU k) < 20 * 65536) :
    Does (.ppsCfgWrite k 4 v) s fun t => t.fld (R.PPS_STATUS_CFG_REJ k) = 1 ∧ OnlyFields s t [R.PPS_STATUS_CFG_REJ k] := by
  refine does_live (exec_ppsCfgWrite_period s k v) hp ?_
  have hkey : (R.PPS_FR_PER_FU k).key ≠ (R.PPS_FR_PER_NS k).key := by
    simp only [Fld.key, R.PPS_FR_PER_FU, R.PPS_FR_PER_NS]
    omega
  have hper : (s.setFld (R.PPS_FR_PER_NS k) v.toNat).framePeriod k < minPeriod := by
    rw [State.framePeriod, State.fld_setFld_same, State.fld_setFld_ne _ _ hkey]
    exact hshort
  rw [State.writePeriod, if_pos ⟨hseq, hper⟩]
  exact ⟨State.fld_raise_same _ _, (OnlyFields.refl s _).raise (by simp)⟩

/-! ### Frame sequences -/

/-- The first frame lies at least 2 us ahead, and the one before it does not. -/
theorem firstFrame_spec {start per now : Nat} (hper : 0 < per) :
    now + 2 * fuPerUs ≤ start + firstFrame start per now * per ∧
      (firstFrame start per now ≠ 0 → start + (firstFrame start per now - 1) * per < now + 2 * fuPerUs) := by
  simp only [firstFrame]
  generalize now + 2 * fuPerUs = t
  split
  · next h =>
    refine ⟨?_, fun h => absurd rfl h⟩
    omega
  · next h =>
    have hlt : start < t := by omega
    have hle := Nat.div_mul_le_self (t - start + per - 1) per
    have hgt := Nat.lt_div_mul_add (a := t - start + per - 1) hper
    refine ⟨by omega, fun _ => ?_⟩
    rw [Nat.sub_mul, Nat.one_mul]
    omega

theorem does_frArm {s : State} {k : Fin 8} (hp : s.powered = true) (hm : s.ppsMode k = 2) (hen : s.fld (R.PPS_CFG_EN k) = 1)
    (hper : 20 * 65536 ≤ s.framePeriod k) :
    Does (.frArm k) s fun t => (t.pulse k).seq = true ∧ (t.pulse k).left = s.fld (R.PPS_FR_COUNT k) ∧
      s.tb.now + 2 * fuPerUs ≤ s.frameStart k + (t.pulse k).m * s.framePeriod k ∧
      ((t.pulse k).m ≠ 0 → s.frameStart k + ((t.pulse k).m - 1) * s.framePeriod k < s.tb.now + 2 * fuPerUs) ∧
      t.fld (R.PPS_STATUS_RUNNING k) = (if t.ppsEmits k then 1 else 0) ∧ FieldsKept s t [R.PPS_STATUS_RUNNING k] ∧ MemKept s t := by
  have he : exec (.frArm k) s = s.live (s.frArm k) := rfl
  refine does_live he hp ?_
  obtain ⟨hat, hfirst⟩ := firstFrame_spec (start := s.frameStart k) (now := s.tb.now) (show 0 < s.framePeriod k by omega)
  rw [State.frArm, if_neg (by simp [hm]), if_neg (by simp only [minPeriod]; omega), if_neg (by simp [State.flag, hen])]
  refine ⟨?_, ?_, ?_, ?_, State.ppsRunning_running _ _, (State.ppsRunning_fieldsKept _ _), fun _ => rfl⟩
  all_goals rw [State.pulse_ppsRunning, State.pulse_setPulse]
  · exact hat
  · exact hfirst

theorem does_frArm_refused {s : State} {k : Fin 8} (hp : s.powered = true) (hm : s.ppsMode k = 2)
    (hper : s.framePeriod k < 20 * 65536) :
    Does (.frArm k) s fun t => t.fld (R.PPS_STATUS_CFG_REJ k) = 1 ∧ OnlyFields s t [R.PPS_STATUS_CFG_REJ k] := by
  have he : exec (.frArm k) s = s.live (s.frArm k) := rfl
  refine does_live he hp ?_
  rw [State.frArm, if_neg (by simp [hm]), if_pos (show s.framePeriod k < minPeriod from hper)]
  exact ⟨State.fld_raise_same _ _, (OnlyFields.refl s _).raise (by simp)⟩

theorem does_frStop {s : State} {k : Fin 8} (hp : s.powered = true) :
    Does (.frStop k) s fun t => (t.pulse k).seq = false ∧ t.fld (R.PPS_STATUS_RUNNING k) = (if t.ppsEmits k then 1 else 0) ∧
      FieldsKept s t [R.PPS_STATUS_RUNNING k] ∧ MemKept s t := by
  have he : exec (.frStop k) s = s.live (s.frStop k) := rfl
  refine does_live he hp ⟨?_, State.ppsRunning_running _ _, State.ppsRunning_fieldsKept _ _, fun _ => rfl⟩
  rw [State.frStop, State.pulse_ppsRunning, State.pulse_setPulse]

/-! ### 96-bit registers -/

/-- A legal value of 96 bits is committed in three words of 32 bits. -/
theorem State.commitHub_legal {s : State} {f0 f1 f2 rej : Fld} {v x : Nat} (hv : v < 2 ^ 32)
    (hx : Tab.get (fun _ => 0) s.syn.stage f0.addr + 2 ^ 32 * Tab.get (fun _ => 0) s.syn.stage f1.addr + 2 ^ 64 * v = x)
    (hlegal : hubLegal x = true) : s.commitHub f0 f1 f2 rej v = s.setTriple f0 f1 f2 x := by
  rw [State.commitHub, Nat.mod_eq_of_lt hv]
  simp only [hx, hlegal, if_true]

theorem State.commitHub_refused {s : State} {f0 f1 f2 rej : Fld} {v x : Nat} (hv : v < 2 ^ 32)
    (hx : Tab.get (fun _ => 0) s.syn.stage f0.addr + 2 ^ 32 * Tab.get (fun _ => 0) s.syn.stage f1.addr + 2 ^ 64 * v = x)
    (hlegal : hubLegal x = false) : s.commitHub f0 f1 f2 rej v = s.raise rej := by
  rw [State.commitHub, Nat.mod_eq_of_lt hv]
  simp only [hx, hlegal, Bool.false_eq_true, if_false]

theorem OnlyFields.setTriple (s : State) (f0 f1 f2 : Fld) (v : Nat) : OnlyFields s (s.setTriple f0 f1 f2 v) [f0, f1, f2] :=
  (((OnlyFields.refl s _).setFld _ (by simp)).setFld _ (by simp)).setFld _ (by simp)

theorem does_htRegCommit_sync {s : State} {v : BitVec 32} (hp : s.powered = true) :
    Does (.htRegCommit 3 v) s fun t =>
      let x := Tab.get (fun _ => 0) s.syn.stage R.OUT_SYNC_AT_0_AT.addr
        + 2 ^ 32 * Tab.get (fun _ => 0) s.syn.stage R.OUT_SYNC_AT_1_AT.addr + 2 ^ 64 * v.toNat
      if hubLegal x = true then x < 2 ^ 96 →
        t.triple R.OUT_SYNC_AT_0_AT R.OUT_SYNC_AT_1_AT R.OUT_SYNC_AT_2_AT = x ∧
        OnlyFields s t [R.OUT_SYNC_AT_0_AT, R.OUT_SYNC_AT_1_AT, R.OUT_SYNC_AT_2_AT]
      else t.fld R.OUT_SYNC_STATUS_HT_REJ = 1 ∧ OnlyFields s t [R.OUT_SYNC_STATUS_HT_REJ] := by
  have he : exec (.htRegCommit 3 v) s = s.live
    (s.commitHub R.OUT_SYNC_AT_0_AT R.OUT_SYNC_AT_1_AT R.OUT_SYNC_AT_2_AT R.OUT_SYNC_STATUS_HT_REJ v.toNat) := rfl
  refine does_live he hp ?_
  intro x
  split
  · next hlegal =>
    intro hx
    rw [State.commitHub_legal v.isLt (x := x) rfl hlegal]
    exact ⟨State.triple_setTriple s rfl rfl rfl (by decide) (by decide) (by decide) hx, OnlyFields.setTriple _ _ _ _ _⟩
  · next hlegal =>
    rw [State.commitHub_refused v.isLt (x := x) rfl (Bool.eq_false_of_not_eq_true hlegal)]
    exact ⟨State.fld_raise_same _ _, (OnlyFields.refl s _).raise (by simp)⟩

theorem does_htRegCommit_ramp_refused {s : State} {p : Fin 3} {v : BitVec 32} (hp : s.powered = true)
    (hlegal : hubLegal (Tab.get (fun _ => 0) s.syn.stage (R.SYN_RAMP_AT_0_AT (p.val + 1)).addr
        + 2 ^ 32 * Tab.get (fun _ => 0) s.syn.stage (R.SYN_RAMP_AT_1_AT (p.val + 1)).addr + 2 ^ 64 * v.toNat) = false) :
    Does (.htRegCommit ⟨p.val, by omega⟩ v) s fun t => t.fld (R.SYN_RAMP_STATUS_HT_REJ (p.val + 1)) = 1 ∧
      OnlyFields s t [R.SYN_RAMP_STATUS_HT_REJ (p.val + 1)] := by
  have he : exec (.htRegCommit ⟨p.val, by omega⟩ v) s = s.live (s.commitAt p.val v.toNat) := rfl
  refine does_live he hp ?_
  rw [State.commitAt, if_pos p.isLt, State.commitHub_refused v.isLt rfl hlegal]
  exact ⟨State.fld_raise_same _ _, (OnlyFields.refl s _).raise (by simp)⟩

theorem does_htRegCommit_frame {s : State} {k : Fin 8} {v : BitVec 32} {x : Nat} (hp : s.powered = true)
    (hx : Tab.get (fun _ => 0) s.syn.stage (R.PPS_FR_START_0 k).addr
      + 2 ^ 32 * Tab.get (fun _ => 0) s.syn.stage (R.PPS_FR_START_1 k).addr + 2 ^ 64 * v.toNat = x)
    (hlegal : hubLegal x = true) (hlt : x < 2 ^ 96) :
    Does (.htRegCommit ⟨4 + k.val, by omega⟩ v) s fun t => t.frameStart k = decodeHub x ∧
      OnlyFields s t [R.PPS_FR_START_0 k, R.PPS_FR_START_1 k, R.PPS_FR_START_2 k] := by
  have he : exec (.htRegCommit ⟨4 + k.val, by omega⟩ v) s = s.live (s.commitAt (4 + k.val) v.toNat) := rfl
  refine does_live he hp ?_
  rw [State.commitAt, if_neg (by omega), if_neg (by omega), Nat.add_sub_cancel_left, State.commitHub_legal v.isLt hx hlegal]
  refine ⟨congrArg decodeHub (State.triple_setTriple s rfl rfl rfl ?_ ?_ ?_ hlt), OnlyFields.setTriple _ _ _ _ _⟩
  all_goals
    simp only [Fld.key, R.PPS_FR_START_0, R.PPS_FR_START_1, R.PPS_FR_START_2]
    omega

/-- Settles O14: an edge by what it makes of the pulse, each register write by its admission test, and the commit of a 96-bit
register as three words of 32 bits. -/
theorem pulseOutputCommands : Obligations.PulseOutputCommands :=
  ⟨fun _ _ _ hp hem ho => does_ppsEdge_owed hp hem ho, fun _ _ hp hem ho hrun hdue => does_ppsEdge_due hp hem ho hrun hdue,
    fun _ _ _ ho h => ignores_ppsEdge ho h, fun _ _ _ hp hstd hvdd hrate hper hw => does_ppsCfgWrite hp hstd hvdd hrate hper hw,
    fun _ _ _ hp h => does_ppsCfgWrite_refused hp h, fun _ _ _ hp => does_ppsCfgWrite_width hp,
    fun _ _ _ hp hseq => does_ppsCfgWrite_period hp hseq, fun _ _ _ hp hseq hs => does_ppsCfgWrite_period_refused hp hseq hs,
    fun _ _ _ hp hm hen hper => does_frArm hp hm hen hper, fun _ _ hp hm hper => does_frArm_refused hp hm hper,
    fun _ _ hp => does_frStop hp, fun _ _ hp => does_htRegCommit_sync hp,
    fun _ _ _ hp hlegal => does_htRegCommit_ramp_refused hp hlegal,
    fun _ _ _ hp hlegal hlt => does_htRegCommit_frame hp rfl hlegal hlt⟩

end Sys2Proof.Machine


/-! What the shared operations of the collector, TSERVO and the seam unit change (02 R64 to R69, 04 R106 to R136, 16 R440 to R449). -/
namespace Sys2Proof.Machine

/-! ### Frames -/

theorem OnlyFields.trans {s t u : State} {l : List Fld} (h : OnlyFields s t l) (h' : OnlyFields t u l) : OnlyFields s u l := by
  refine ⟨?_, h.2.trans h'.2⟩
  rw [h'.1, h.1]

theorem OnlyFields.mono {s t : State} {l l' : List Fld} (h : OnlyFields s t l) (hl : ∀ g ∈ l, g ∈ l') : OnlyFields s t l' :=
  ⟨h.1, h.2.mono hl⟩

theorem OnlyFields.seam {s t : State} {l : List Fld} (h : OnlyFields s t l) : t.seam = s.seam := by rw [h.1]
theorem OnlyFields.tsv {s t : State} {l : List Fld} (h : OnlyFields s t l) : t.tsv = s.tsv := by rw [h.1]
theorem OnlyFields.tb {s t : State} {l : List Fld} (h : OnlyFields s t l) : t.tb = s.tb := by rw [h.1]
theorem OnlyFields.cands {s t : State} {l : List Fld} (h : OnlyFields s t l) : t.cands = s.cands := by rw [h.1]
theorem OnlyFields.outs {s t : State} {l : List Fld} (h : OnlyFields s t l) : t.outs = s.outs := by rw [h.1]

/-- The keys of the engines' registers begin here; the collector and the host's registers lie above them (18 R483). -/
def lowEnd : Nat := 0x050B0000 * 32

/-- Every field below the engines' registers reads as before, but for the listed ones. -/
def LowKept (s t : State) (l : List Fld) : Prop := ∀ f : Fld, f.key < lowEnd → (∀ g ∈ l, f.key ≠ g.key) → t.fld f = s.fld f

theorem FieldsKept.low {s t : State} {l : List Fld} (h : FieldsKept s t l) : LowKept s t l := fun f _ hf => h f hf

theorem LowKept.refl (s : State) (l : List Fld) : LowKept s s l := fun _ _ _ => rfl

theorem LowKept.trans {s t u : State} {l : List Fld} (h : LowKept s t l) (h' : LowKept t u l) : LowKept s u l :=
  fun f hlow hf => (h' f hlow hf).trans (h f hlow hf)

theorem LowKept.mono {s t : State} {l l' : List Fld} (h : LowKept s t l) (hl : ∀ g ∈ l, g ∈ l') : LowKept s t l' :=
  fun f hlow hf => h f hlow fun g hg => hf g (hl g hg)

theorem LowKept.of_regs {s t u : State} {l : List Fld} (h : LowKept s t l) (hu : u.regs = t.regs) : LowKept s u l :=
  fun f hlow hf => (State.fld_congr hu f).trans (h f hlow hf)

/-- A write above the low registers keeps them. -/
theorem LowKept.setFld {s t : State} {l : List Fld} (h : LowKept s t l) {g : Fld} (v : Nat) (hg : lowEnd ≤ g.key) :
    LowKept s (t.setFld g v) l :=
  fun f hlow hf => (State.fld_setFld_ne t v (by omega)).trans (h f hlow hf)

/-! ### What the collector records -/

theorem lowKept_wakeThread (s : State) (e t : Nat) : LowKept s (s.wakeThread e t) [] := by
  unfold State.wakeThread
  dsimp only
  split
  · refine LowKept.setFld ?_ _ (by simp only [lowEnd, Fld.key, R.ENG_THR_STATE_W0_TSTATE]; omega)
    exact (LowKept.refl s []).of_regs rfl
  · exact LowKept.refl s []

theorem lowKept_raiseEvent (s : State) (e t k : Nat) : LowKept s (s.raiseEvent e t k) [] := by
  refine LowKept.trans ?_ (lowKept_wakeThread _ e t)
  refine LowKept.of_regs (t := s.setFld (R.ENG_THR_STATE_W1_PENDING e t) _) ?_ rfl
  exact (LowKept.refl s []).setFld _ (by simp only [lowEnd, Fld.key, R.ENG_THR_STATE_W1_PENDING]; omega)

theorem lowKept_raiseVector (s : State) (v : Nat) : LowKept s (s.raiseVector v) [] := by
  unfold State.raiseVector
  have hf : lowEnd ≤ (if v < 32 then R.HOST_INT_PEND_LO_PEND else R.HOST_INT_PEND_HI_PEND).key := by split <;> decide
  generalize (if v < 32 then R.HOST_INT_PEND_LO_PEND else R.HOST_INT_PEND_HI_PEND) = f at hf
  have h : LowKept s (s.setFld f (Nat.lor (s.fld f) (2 ^ (v % 32)))) [] := (LowKept.refl s []).setFld _ hf
  dsimp only
  split
  · split
    · exact h.of_regs (by rfl)
    · exact h.of_regs (by rfl)
  · exact h

theorem lowKept_captureFirst (s : State) (src cls cause : Nat) : LowKept s (s.captureFirst src cls cause) [] := by
  unfold State.captureFirst
  dsimp only
  split
  · exact LowKept.refl s []
  · exact (((((((LowKept.refl s []).setFld _ (by decide)).setFld _ (by decide)).setFld _ (by decide)).setFld _
      (by decide)).setFld _ (by decide)).setFld _ (by decide)).setFld _ (by decide)

theorem lowKept_note (s : State) (src : Nat) : LowKept s (s.note src) [] :=
  (LowKept.refl s []).setFld _ (by simp only [lowEnd, Fld.key, R.FLT_SRC_NOTES]; omega)

theorem lowKept_appendLog (s : State) (src cls cause : Nat) : LowKept s (s.appendLog src cls cause) [] := by
  unfold State.appendLog
  dsimp only
  split
  · refine (((((((((LowKept.refl s []).setFld _ ?_).setFld _ ?_).setFld _ ?_).setFld _ ?_).setFld _ ?_).setFld _ ?_).setFld _
      ?_).setFld _ ?_)
    all_goals
      simp only [lowEnd, Fld.key, R.FLT_LOG_0_SRC, R.FLT_LOG_0_CLASS, R.FLT_LOG_0_CAUSE, R.FLT_LOG_0_VALID, R.FLT_LOG_1_TIME,
        R.FLT_LOG_2_TIME, R.FLT_LOG_3_TIME, R.FLT_LOG_STATUS_COUNT]
      omega
  · exact (((LowKept.refl s []).setFld _ (by decide)).setFld _ (by decide)).trans (lowKept_note _ _)

theorem lowKept_collectorInt (s : State) {f : Fld} (hf : lowEnd ≤ f.key) : LowKept s (s.collectorInt f) [] := by
  have h : LowKept s (s.raise f) [] := (LowKept.refl s []).setFld 1 hf
  unfold State.collectorInt
  dsimp only
  refine LowKept.setFld ?_ _ (by decide)
  split
  · exact h
  · exact h.trans (lowKept_raiseVector _ _)

theorem lowKept_routeFault (s : State) (src : Nat) : LowKept s (s.routeFault src) [] := by
  unfold State.routeFault
  dsimp only
  split
  · exact LowKept.refl s []
  · split
    · exact lowKept_raiseEvent s _ _ _
    · exact LowKept.refl s []

/-- A report leaves the registers below the engines' alone (R440 to R449). -/
theorem lowKept_record (s : State) (src cls cause : Nat) : LowKept s (s.record src cls cause) [] := by
  unfold State.record
  dsimp only
  split
  · exact lowKept_note s src
  · have hsrc : LowKept s ((s.setFld (R.FLT_SRC_LAST_CLASS src) cls).setFld (R.FLT_SRC_LAST_CAUSE src) cause) [] := by
      refine ((LowKept.refl s []).setFld _ ?_).setFld _ ?_
      all_goals
        simp only [lowEnd, Fld.key, R.FLT_SRC_LAST_CLASS, R.FLT_SRC_LAST_CAUSE]
        omega
    have hfirst := hsrc.trans (lowKept_captureFirst _ src cls cause)
    have hwake (u : State) (n : Nat) : LowKept u (u.faultWake n) [] := by
      unfold State.faultWake
      dsimp only
      split
      · exact (LowKept.refl u []).of_regs rfl
      · exact LowKept.refl u []
    refine LowKept.trans ?_ (hwake _ _)
    refine LowKept.trans ?_ (lowKept_routeFault _ _)
    have hlog : LowKept s (if 2 ≤ cls then
        ((((s.setFld (R.FLT_SRC_LAST_CLASS src) cls).setFld (R.FLT_SRC_LAST_CAUSE src) cause).captureFirst src cls cause).appendLog
          src cls cause)
        else (((s.setFld (R.FLT_SRC_LAST_CLASS src) cls).setFld (R.FLT_SRC_LAST_CAUSE src) cause).captureFirst src cls cause)) [] := by
      split
      · exact hfirst.trans (lowKept_appendLog _ _ _ _)
      · exact hfirst
    refine hlog.trans ?_
    generalize (if 2 ≤ cls then _ else _ : State) = u
    split
    · split
      · exact lowKept_collectorInt _ (by decide)
      · exact LowKept.refl _ _
    · exact lowKept_collectorInt _ (by decide)
    · exact lowKept_collectorInt _ (by decide)

/-! ### TSERVO -/

/-- The fields that show the steering word (R73, R139). -/
def steerFields : List Fld :=
  [R.TSV_STEER_LO, R.TSV_STEER_HI, R.SYN_ROT_FREQ_LO 0, R.SYN_ROT_FREQ_HI 0, R.SYN_PLL_STATUS_ROT_CLAMP 0, R.SYN_ROT_FREQ_LO 1,
    R.SYN_ROT_FREQ_HI 1, R.SYN_PLL_STATUS_ROT_CLAMP 1, R.SYN_ROT_FREQ_LO 2, R.SYN_ROT_FREQ_HI 2, R.SYN_PLL_STATUS_ROT_CLAMP 2,
    R.SYN_ROT_FREQ_LO 3, R.SYN_ROT_FREQ_HI 3, R.SYN_PLL_STATUS_ROT_CLAMP 3]

theorem onlyFields_showRotator (s : State) (p : Nat) :
    OnlyFields s (s.showRotator p) [R.SYN_ROT_FREQ_LO p, R.SYN_ROT_FREQ_HI p, R.SYN_PLL_STATUS_ROT_CLAMP p] :=
  ((OnlyFields.refl s _).setPair _ (by simp) (by simp)).setFld _ (by simp)

theorem onlyFields_showSteer (s : State) : OnlyFields s s.showSteer steerFields := by
  have hrot (u : State) (p : Nat) (hp : p < 4) : OnlyFields u (u.showRotator p) steerFields := by
    refine (onlyFields_showRotator u p).mono ?_
    interval_cases p <;> simp [steerFields]
  have hsteer : OnlyFields s (s.setInt64 R.TSV_STEER_LO R.TSV_STEER_HI s.steer) steerFields :=
    (OnlyFields.refl s _).setPair _ (by simp [steerFields]) (by simp [steerFields])
  exact (((hsteer.trans (hrot _ 0 (by decide))).trans (hrot _ 1 (by decide))).trans (hrot _ 2 (by decide))).trans
    (hrot _ 3 (by decide))

/-- The fields of TSERVO that an input, a stage or holding writes. -/
def servoFields : List Fld :=
  [R.TSV_STATUS_HOLDING, R.TSV_STATUS_STAGE, R.TSV_INTEG_LO, R.TSV_INTEG_HI, R.TSV_STATUS_CLAMP, R.TSV_STATUS_BW_CLAMP,
    R.TSV_LASTX_LO, R.TSV_LASTX_HI] ++ steerFields

/-- TSERVO's own part of the state: its table and its fields. -/
def ServoOnly (s t : State) : Prop := t = { s with regs := t.regs, tsv := t.tsv } ∧ FieldsKept s t servoFields

theorem ServoOnly.refl (s : State) : ServoOnly s s := ⟨rfl, FieldsKept.refl s _⟩

theorem ServoOnly.trans {s t u : State} (h : ServoOnly s t) (h' : ServoOnly t u) : ServoOnly s u := by
  refine ⟨?_, h.2.trans h'.2⟩
  rw [h'.1, h.1]

theorem servoOnly_ite {s t u : State} {c : Prop} [Decidable c] (ht : ServoOnly s t) (hu : ServoOnly s u) :
    ServoOnly s (if c then t else u) := by split <;> assumption

theorem ServoOnly.seam {s t : State} (h : ServoOnly s t) : t.seam = s.seam := by rw [h.1]
theorem ServoOnly.cands {s t : State} (h : ServoOnly s t) : t.cands = s.cands := by rw [h.1]
theorem ServoOnly.tb {s t : State} (h : ServoOnly s t) : t.tb = s.tb := by rw [h.1]
theorem ServoOnly.links {s t : State} (h : ServoOnly s t) : t.links = s.links := by rw [h.1]

theorem OnlyFields.servo {s t : State} {l : List Fld} (h : OnlyFields s t l) (hl : ∀ g ∈ l, g ∈ servoFields) : ServoOnly s t := by
  refine ⟨?_, h.2.mono hl⟩
  conv_lhs => rw [h.1]
  rw [h.tsv]

theorem servoOnly_setFld (s : State) {f : Fld} (v : Nat) (hf : f ∈ servoFields) : ServoOnly s (s.setFld f v) :=
  ⟨rfl, (FieldsKept.refl s _).setFld v hf⟩

theorem servoOnly_tsv (s : State) (v : Tservo) : ServoOnly s { s with tsv := v } := ⟨rfl, (FieldsKept.refl s _).of_regs rfl⟩

theorem servoOnly_showSteer (s : State) : ServoOnly s s.showSteer :=
  (onlyFields_showSteer s).servo fun _ hg => List.mem_append_right _ hg

theorem servoOnly_setInteg (s : State) (v : Int) : ServoOnly s (s.setInteg v) :=
  (servoOnly_setFld s _ (by simp [servoFields])).trans (servoOnly_setFld _ _ (by simp [servoFields]))

theorem servoOnly_servoHold (s : State) (v : Int) : ServoOnly s (s.servoHold v) := by
  unfold State.servoHold
  split
  · exact ServoOnly.refl s
  · refine ServoOnly.trans ?_ (servoOnly_showSteer _)
    exact (servoOnly_setFld s 1 (f := R.TSV_STATUS_HOLDING) (by simp [servoFields])).trans (servoOnly_tsv _ _)

theorem servoOnly_servoRelease (s : State) : ServoOnly s s.servoRelease := by
  unfold State.servoRelease
  split
  · exact ServoOnly.refl s
  · refine ServoOnly.trans ?_ (servoOnly_showSteer _)
    exact (((servoOnly_setInteg s _).trans (servoOnly_tsv _ _)).trans (servoOnly_setFld _ _ (by simp [servoFields]))).trans
      (servoOnly_setFld _ _ (by simp [servoFields]))

theorem servoOnly_enterStage (s : State) (n : Nat) : ServoOnly s (s.enterStage n) :=
  ((servoOnly_setFld s n (by simp [servoFields])).trans (servoOnly_setInteg _ _)).trans (servoOnly_tsv _ _)

theorem servoOnly_servoInput (s : State) (x : Int) (tau : Option Nat) : ServoOnly s (s.servoInput x tau) := by
  unfold State.servoInput
  split
  · exact ServoOnly.refl s
  · dsimp only
    refine ServoOnly.trans ?_ (servoOnly_showSteer _)
    refine ServoOnly.trans ?_ (servoOnly_tsv _ _)
    refine ServoOnly.trans ?_ (servoOnly_setFld _ _ (by simp [servoFields]))
    refine ServoOnly.trans ?_ (servoOnly_setFld _ _ (by simp [servoFields]))
    refine ServoOnly.trans ?_ (servoOnly_setFld _ _ (by simp [servoFields]))
    generalize hu : ({ s with tsv := _ } : State) = u
    have h : ServoOnly s u := hu ▸ servoOnly_tsv s _
    exact h.trans (servoOnly_ite (servoOnly_setFld _ 1 (f := R.TSV_STATUS_CLAMP) (by simp [servoFields]))
      ((servoOnly_setInteg _ _).trans (servoOnly_setFld _ 0 (f := R.TSV_STATUS_CLAMP) (by simp [servoFields]))))

theorem servoOnly_seamInput (s : State) (e : Int) : ServoOnly s (s.seamInput e) := by
  unfold State.seamInput
  split
  · exact ServoOnly.refl s
  · split
    · exact servoOnly_servoInput s _ _
    · exact (servoOnly_tsv s _).trans (servoOnly_servoInput _ _ _)
    · exact ServoOnly.refl s

/-! ### What the seam unit renews -/

/-- The fields that the seam unit renews at a change of candidate state or of selection (R106, R132). -/
def reformFields : List Fld :=
  [R.SEAM_STBY_STBY_0, R.SEAM_STBY_V0, R.SEAM_STBY_STBY_1, R.SEAM_STBY_V1, R.SEAM_STBY_STBY_2, R.SEAM_STBY_V2, R.SEAM_STATUS_TR_WAIT,
    R.SEAM_EVENTS_TR_REPORT, R.SEAM_TR_CAND_CAND, R.SEAM_TR_OFFSET_LO, R.SEAM_TR_OFFSET_HI]

theorem onlyFields_trReport (s : State) : OnlyFields s s.trReport reformFields := by
  have hnone : OnlyFields s ((s.clr R.SEAM_STATUS_TR_WAIT).setFld R.SEAM_TR_CAND_CAND 0x3F) reformFields :=
    ((OnlyFields.refl s _).clr (by simp [reformFields])).setFld _ (by simp [reformFields])
  unfold State.trReport
  split
  · split
    · refine OnlyFields.setPair ?_ _ (by simp [reformFields]) (by simp [reformFields])
      refine (OnlyFields.raise ?_ (by simp [reformFields])).setFld _ (by simp [reformFields])
      exact ((OnlyFields.refl s _).raise (by simp [reformFields])).ite (OnlyFields.refl s _)
    · exact hnone
  · exact hnone

theorem onlyFields_setStandby (s : State) (l : List Nat) : OnlyFields s (s.setStandby l) reformFields :=
  ((((((OnlyFields.refl s _).setFld _ (by simp [reformFields])).setFld _ (by simp [reformFields])).setFld _
    (by simp [reformFields])).setFld _ (by simp [reformFields])).setFld _ (by simp [reformFields])).setFld _ (by simp [reformFields])

/-- The revert timer alone may change. -/
theorem State.revertCheck_eq (s : State) : s.revertCheck = { s with seam := { s.seam with wtr := s.revertCheck.seam.wtr } } := by
  unfold State.revertCheck
  split
  · split
    · rfl
    · rfl
  · rfl

theorem State.reform_eq (s : State) : s.reform =
    { s with regs := s.reform.regs, cands := s.reform.cands, seam := { s.seam with wtr := s.reform.seam.wtr } } := by
  have hset := (onlyFields_setStandby s s.standbySet).1
  have htr := (onlyFields_trReport (((s.setStandby s.standbySet).dropShadows).revertCheck)).1
  have hrev := ((s.setStandby s.standbySet).dropShadows).revertCheck_eq
  unfold State.reform
  rw [htr, hrev, State.dropShadows, hset]

theorem State.reform_fieldsKept (s : State) : FieldsKept s s.reform reformFields := by
  have hset : FieldsKept s ((s.setStandby s.standbySet).dropShadows) reformFields :=
    (onlyFields_setStandby s s.standbySet).2.of_regs (by rfl)
  have hrev : FieldsKept s (((s.setStandby s.standbySet).dropShadows).revertCheck) reformFields :=
    hset.of_regs (by rw [State.revertCheck_eq])
  exact hrev.trans (onlyFields_trReport _).2

@[simp] theorem State.reform_tsv (s : State) : s.reform.tsv = s.tsv := by rw [State.reform_eq]
@[simp] theorem State.reform_tb (s : State) : s.reform.tb = s.tb := by rw [State.reform_eq]

theorem State.reform_seam (s : State) : s.reform.seam = { s.seam with wtr := s.reform.seam.wtr } := by
  conv_lhs => rw [State.reform_eq]

theorem onlyFields_pressBusy (s : State) : OnlyFields s s.pressBusy [R.SEAM_STATUS_PRESS_BUSY] :=
  (OnlyFields.refl s _).setFld _ (by simp)

@[simp] theorem State.announce_tb (s : State) : s.announce.tb = s.tb := by rw [linksOnly_announce s]
@[simp] theorem State.announce_cands (s : State) : s.announce.cands = s.cands := by rw [linksOnly_announce s]

/-! ### Slews -/

/-- The fields that the end of a slew writes. -/
def slewFields : List Fld := [R.SEAM_SLEW_REM_LO, R.SEAM_SLEW_REM_HI, R.SEAM_STATUS_AUTO_SLEW] ++ steerFields

theorem mem_slewFields_of_steer {g : Fld} (hg : g ∈ steerFields) : g ∈ slewFields := List.mem_append_right _ hg

theorem State.stopSlew_fieldsKept (s : State) : FieldsKept s s.stopSlew slewFields := by
  unfold State.stopSlew
  split
  · exact FieldsKept.refl s _
  · extract_lets v m u
    have hu : FieldsKept s u slewFields := (FieldsKept.refl s _).of_regs (by rfl)
    have hrem : FieldsKept s ((u.setInt64 R.SEAM_SLEW_REM_LO R.SEAM_SLEW_REM_HI 0).clr R.SEAM_STATUS_AUTO_SLEW) slewFields :=
      (hu.setPair _ (by simp [slewFields]) (by simp [slewFields])).clr (by simp [slewFields])
    exact hrem.trans ((onlyFields_showSteer _).2.mono fun _ => mem_slewFields_of_steer)

/-! ### Holdover -/

/-- The fields that an entry into HOLDOVER writes besides the state and its event. -/
def holdoverFields : List Fld :=
  [R.SEAM_STATUS_SEAMING, R.SEAM_STATUS_PRESS_BUSY, R.SEAM_STATUS_HOLDOVER_UNLEARNED, R.SEAM_EVENTS_UNLOCK] ++ servoFields ++ reformFields

theorem State.leaveLocked_tb (s : State) : s.leaveLocked.tb = s.tb := by
  unfold State.leaveLocked
  split <;> rfl

/-- What an entry into HOLDOVER writes first: the seam unit's own table, the state with its event, and the selection (R119, R136). -/
def State.holdoverHead (s : State) : State :=
  let s := s.leaveLocked
  let s := { s with seam := { s.seam with guard := [], ux := s.seam.spread, hoAt := s.tb.elapsed, tInt := 0,
                                          tIntAt := s.tb.elapsed, lockFrom := none, unlockN := 0, ins := [],
                                          frozen := some s.modelInUse, acq := if s.srcFeed then s.seam.acq else none } }
  let s := (s.setFld R.SEAM_STATUS_TS_STATE 3).raise R.SEAM_EVENTS_HO_ENTER
  if s.srcFeed then s else s.setFld R.SEAM_STATUS_SEL 0x3F

/-- What follows from it: the seam ends, TSERVO holds, the report, the announced quality and the standbys. -/
def State.holdoverTail (s : State) : State :=
  let s := (s.clr R.SEAM_STATUS_SEAMING).pressBusy
  let s := s.servoHold s.modelValue
  let s := match s.seam.model with
    | some _ => s.record 0x003 1 0x10
    | none => (s.raise R.SEAM_STATUS_HOLDOVER_UNLEARNED).record 0x003 2 0x13
  s.announce.reform

theorem State.enterHoldover_eq {s : State} (hf : s.seamFenced = false) (hts : s.tsState = 1 ∨ s.tsState = 2) :
    s.enterHoldover = s.holdoverHead.holdoverTail := by
  rw [State.enterHoldover, if_neg (by simp [hf, hts])]
  rfl

theorem State.holdoverTail_spec (s : State) :
    LowKept s s.holdoverTail holdoverFields ∧ s.holdoverTail.seam.hoAt = s.seam.hoAt := by
  unfold State.holdoverTail
  extract_lets s1 s2 s3
  have h1 : OnlyFields s s1 holdoverFields :=
    ((OnlyFields.refl s _).clr (by simp [holdoverFields])).trans ((onlyFields_pressBusy _).mono (by simp [holdoverFields]))
  have h12 : ServoOnly s1 s2 := servoOnly_servoHold s1 _
  have h23 : LowKept s2 s3 holdoverFields ∧ s3.seam = s2.seam := by
    unfold s3
    split
    · exact ⟨(lowKept_record s2 _ _ _).mono (by simp), (quiet_record s2 _ _ _).seam⟩
    · exact ⟨((FieldsKept.refl s2 _).raise (by simp [holdoverFields])).low.trans ((lowKept_record _ _ _ _).mono (by simp)),
        (quiet_record _ _ _ _).seam⟩
  clear_value s3 s2 s1
  have hservo : LowKept s1 s2 holdoverFields := h12.2.low.mono fun g hg => by
    simp only [holdoverFields, List.mem_append]
    exact Or.inl (Or.inr hg)
  have hreform : LowKept s3 s3.announce.reform holdoverFields :=
    ((LowKept.refl s3 _).of_regs s3.announce_regs).trans
      (s3.announce.reform_fieldsKept.low.mono fun g hg => List.mem_append_right _ hg)
  refine ⟨((h1.2.low.trans hservo).trans h23.1).trans hreform, ?_⟩
  rw [State.reform_seam, State.announce_seam, h23.2, h12.seam, h1.seam]

theorem State.holdoverHead_spec (s : State) :
    s.holdoverHead.tsState = 3 ∧ s.holdoverHead.fld R.SEAM_EVENTS_HO_ENTER = 1 ∧ s.holdoverHead.seam.hoAt = s.tb.elapsed ∧
      (s.srcFeed = true → s.holdoverHead.selected = s.selected) ∧
      FieldsKept s s.holdoverHead [R.SEAM_STATUS_SEL, R.SEAM_STATUS_TS_STATE, R.SEAM_EVENTS_HO_ENTER, R.SEAM_EVENTS_UNLOCK] := by
  unfold State.holdoverHead
  extract_lets s1 m s2 s3
  have h12 : FieldsKept s s2 [R.SEAM_EVENTS_UNLOCK] := s.leaveLocked_fieldsKept.of_regs (by rfl)
  have hat : s2.seam.hoAt = s.tb.elapsed := s.leaveLocked_tb ▸ rfl
  have h13 : FieldsKept s s3 [R.SEAM_STATUS_TS_STATE, R.SEAM_EVENTS_HO_ENTER, R.SEAM_EVENTS_UNLOCK] :=
    ((h12.mono (by simp)).setFld _ (by simp)).raise (by simp)
  have hts : s3.fld R.SEAM_STATUS_TS_STATE = 3 := by
    rw [State.fld_raise, if_neg (by decide), State.fld_setFld_same]
    rfl
  have hev : s3.fld R.SEAM_EVENTS_HO_ENTER = 1 := State.fld_raise_same _ _
  have hat3 : s3.seam.hoAt = s.tb.elapsed := hat
  have hsrc : s3.srcFeed = s.srcFeed := by rw [State.srcFeed, State.tsvSrc, h13 _ (by decide), State.srcFeed, State.tsvSrc]
  clear_value s3 s2 s1
  rw [hsrc]
  split
  · exact ⟨hts, hev, hat3, fun _ => h13 _ (by decide), h13.mono (by simp)⟩
  · next hno =>
    refine ⟨?_, ?_, hat3, fun h => absurd h hno, (h13.mono (by simp)).setFld _ (by simp)⟩
    · rw [State.tsState, State.fld_setFld_ne _ _ (by decide), hts]
    · rw [State.fld_setFld_ne _ _ (by decide), hev]

/-- What an entry into HOLDOVER leaves (R119, R136). -/
theorem State.enterHoldover_spec {s : State} (hf : s.seamFenced = false) (hts : s.tsState = 1 ∨ s.tsState = 2) :
    s.enterHoldover.tsState = 3 ∧ s.enterHoldover.fld R.SEAM_EVENTS_HO_ENTER = 1 ∧ s.enterHoldover.seam.hoAt = s.tb.elapsed ∧
      (s.srcFeed = true → s.enterHoldover.selected = s.selected) ∧
      LowKept s s.enterHoldover ([R.SEAM_STATUS_SEL, R.SEAM_STATUS_TS_STATE, R.SEAM_EVENTS_HO_ENTER] ++ holdoverFields) := by
  rw [State.enterHoldover_eq hf hts]
  obtain ⟨hts3, hev, hat, hsel, hhead⟩ := s.holdoverHead_spec
  obtain ⟨htail, hat'⟩ := s.holdoverHead.holdoverTail_spec
  refine ⟨?_, ?_, hat'.trans hat, fun hfeed => ?_, ?_⟩
  · rw [State.tsState, htail _ (by decide) (by decide)]
    exact hts3
  · rw [htail _ (by decide) (by decide), hev]
  · rw [State.selected, htail _ (by decide) (by decide)]
    exact hsel hfeed
  · exact (hhead.low.mono (by simp [holdoverFields])).trans (htail.mono fun g hg => List.mem_append_right _ hg)

end Sys2Proof.Machine


/-! O8: the timescale states (04 R112, R113, R119). -/
namespace Sys2Proof.Machine

/-! ### LOCKED and ACQUIRING -/

/-- What entering LOCKED writes: the state, its event, and with a time candidate the end of uncertain time (R112, 02 R56). -/
theorem State.toLocked_spec (s : State) : s.toLocked.tsState = 2 ∧ s.toLocked.fld R.SEAM_EVENTS_LOCK = 1 ∧
    (s.timeCand s.selected = true → s.tiFenced = false → s.toLocked.fld R.TB_STATUS_TIME_UNCERTAIN = 0 ∧ s.toLocked.uncBound = 0) := by
  unfold State.toLocked
  extract_lets _ _ s1 s2
  have h1 : FieldsKept s s1 [R.SEAM_STATUS_TS_STATE, R.SEAM_EVENTS_LOCK] :=
    (((FieldsKept.refl s _).setFld 2 (g := R.SEAM_STATUS_TS_STATE) (by simp)).raise (g := R.SEAM_EVENTS_LOCK) (by simp)).of_regs (by rfl)
  have h12 : FieldsKept s1 s2 [R.FLT_SRC_NOTES 0x003] :=
    ((FieldsKept.refl s1 _).bump (g := R.FLT_SRC_NOTES 0x003) (by simp)).of_regs (State.announce_regs _)
  have hregs1 : s1.regs = ((s.setFld R.SEAM_STATUS_TS_STATE 2).raise R.SEAM_EVENTS_LOCK).regs := rfl
  have hts : s2.tsState = 2 := by
    rw [State.tsState, h12 _ (by decide), State.fld_congr hregs1, State.fld_raise, if_neg (by decide), State.fld_setFld_same]
    rfl
  have hev : s2.fld R.SEAM_EVENTS_LOCK = 1 := by
    rw [h12 _ (by decide), State.fld_congr hregs1, State.fld_raise_same]
    rfl
  have hcond : s2.timeCand s2.selected = s.timeCand s.selected := by
    have hsel : s2.selected = s.selected := by rw [State.selected, h12 _ (by decide), h1 _ (by decide), State.selected]
    rw [hsel, State.timeCand, State.timeCand]
    by_cases hn : s.selected < 16
    · rw [h12, h1]
      · simp only [List.forall_mem_cons, Fld.key, R.QUAL_CAND_CFG_KIND, R.SEAM_STATUS_TS_STATE, R.SEAM_EVENTS_LOCK]
        exact ⟨by omega, by omega, by simp⟩
      · simp only [List.forall_mem_cons, Fld.key, R.QUAL_CAND_CFG_KIND, R.FLT_SRC_NOTES]
        exact ⟨by omega, by simp⟩
    · simp only [hn, decide_false, Bool.false_and]
  have hti : s2.tiFenced = s.tiFenced := by
    rw [State.tiFenced, State.flag, h12 _ (by decide), h1 _ (by decide), State.tiFenced, State.flag]
  rw [hcond, hti]
  split
  · have hlast : FieldsKept s2 ((s2.clr R.TB_STATUS_TIME_UNCERTAIN).setPair R.TB_UNC_BOUND_LO_BOUND R.TB_UNC_BOUND_HI_BOUND 0)
        [R.TB_STATUS_TIME_UNCERTAIN, R.TB_UNC_BOUND_LO_BOUND, R.TB_UNC_BOUND_HI_BOUND] :=
      ((FieldsKept.refl s2 _).clr (by simp)).setPair _ (by simp) (by simp)
    refine ⟨(hlast _ (by decide)).trans hts, (hlast _ (by decide)).trans hev, fun _ _ => ⟨?_, ?_⟩⟩
    · rw [State.setPair_eq, State.fld_setFld_ne _ _ (by decide), State.fld_setFld_ne _ _ (by decide), State.fld_clr_same]
    · exact State.pair_setPair _ (by decide) (by decide)
  · next h => exact ⟨hts, hev, fun hc hti => absurd ⟨hc, by simp [hti]⟩ h⟩

theorem does_tsLock {s : State} (hp : s.powered = true) (hr : s.lockReady = true) :
    Does .tsLock s fun t => t.tsState = 2 ∧ t.fld R.SEAM_EVENTS_LOCK = 1 ∧
      (s.timeCand s.selected = true → s.tiFenced = false → t.fld R.TB_STATUS_TIME_UNCERTAIN = 0 ∧ t.uncBound = 0) ∧ MemKept s t := by
  have he : exec .tsLock s = s.live s.lockNow := rfl
  refine does_live he hp ?_
  rw [State.lockNow, if_pos hr]
  obtain ⟨hts, hev, hcert⟩ := s.toLocked_spec
  exact ⟨hts, hev, hcert, memKept_of_memory s.toLocked_memory⟩

theorem does_tsUnlock {s : State} (hp : s.powered = true) (hr : s.unlockReady = true) :
    Does .tsUnlock s fun t => t.tsState = 1 ∧ t.fld R.SEAM_EVENTS_UNLOCK = 1 ∧ t.seam.lockFrom = none ∧ t.selected = s.selected ∧
      MemKept s t := by
  have he : exec .tsUnlock s = s.live (if s.unlockReady then s.toAcquiring else s) := rfl
  refine does_live he hp ?_
  have hts : s.tsState = 2 := by
    simp only [State.unlockReady, Bool.and_eq_true, beq_iff_eq] at hr
    exact hr.1.1
  rw [if_pos hr]
  refine ⟨s.toAcquiring_tsState, ?_, ?_, s.toAcquiring_fieldsKept _ (by decide), memKept_of_memory s.toAcquiring_memory⟩
  · rw [State.fld_congr s.toAcquiring_regs, State.fld_setFld_ne _ _ (by decide), State.leaveLocked, if_pos hts]
    exact (State.fld_congr (by rfl) _).trans (State.fld_raise_same s R.SEAM_EVENTS_UNLOCK)
  · rw [State.toAcquiring, State.announce_seam]

/-! ### HOLDOVER -/

theorem does_feedLossExpire {s : State} (hp : s.powered = true) (hsrc : s.srcFeed = true) (hf : s.seamFenced = false)
    (hts : s.tsState = 1 ∨ s.tsState = 2) (hdue : s.seam.feedAt + s.fld R.SEAM_FEED_LOSS_MS * fuPerMs ≤ s.tb.elapsed) :
    Does .feedLossExpire s fun t => t.tsState = 3 ∧ t.fld R.SEAM_EVENTS_HO_ENTER = 1 ∧ t.selected = s.selected ∧
      t.seam.hoAt = s.tb.elapsed ∧ MemKept s t := by
  have he : exec .feedLossExpire s = s.live s.feedLoss := rfl
  refine does_live he hp ?_
  rw [State.feedLoss, if_pos ⟨hsrc, hdue⟩]
  obtain ⟨hts', hev, hat, hsel, -⟩ := State.enterHoldover_spec hf hts
  exact ⟨hts', hev, hsel hsrc, hat, memKept_of_memory s.enterHoldover_memory⟩

theorem ignores_feedLossExpire {s : State} (h : s.srcFeed = false ∨ s.tb.elapsed < s.seam.feedAt + s.fld R.SEAM_FEED_LOSS_MS * fuPerMs) :
    Ignores .feedLossExpire s := by
  refine ignores_live (t := s.feedLoss) rfl (if_neg fun ⟨hsrc, hdue⟩ => ?_)
  obtain h | h := h
  · simp [h] at hsrc
  · omega

/-! ### FREE-RUN -/

theorem exec_seamFreeWrite (s : State) (b : Bool) : exec (.seamFreeWrite b) s = s.live (s.seamGuard fun s => s.writeFree b) := rfl

/-- The fields that FREE-RUN writes after its state, its selection and the end of the seam. -/
def freeFields : List Fld :=
  [R.SEAM_STATUS_PREARMED, R.SEAM_STBY_FALLBACK, R.SEAM_STATUS_PRESS_BUSY] ++ steerFields ++ reformFields

/-- What FREE = 1 leaves (R113). -/
theorem State.toFree_spec (s : State) : s.toFree.tsState = 0 ∧ s.toFree.selected = 0x3F ∧ s.toFree.seam.run = none ∧
    s.toFree.fld R.SEAM_STATUS_SEAMING = 0 ∧ s.toFree.tsv.y = s.toFree.integ ∧
    s.toFree.fld R.SEAM_CTL_FREE = s.fld R.SEAM_CTL_FREE := by
  unfold State.toFree
  extract_lets s1 s2 s3 m v s4 s5
  have h12 : FieldsKept s1 s2 slewFields := by
    unfold s2
    split
    · exact s1.stopSlew_fieldsKept.ite (FieldsKept.refl s1 _)
    · exact FieldsKept.refl s1 _
  have h23 : FieldsKept s2 s3 ([R.SEAM_EVENTS_HO_EXIT, R.SEAM_STATUS_HOLDOVER_UNLEARNED] ++ servoFields) :=
    FieldsKept.ite ((((servoOnly_servoRelease s2).2.mono fun _ hg => List.mem_append_right _ hg).raise (by simp)).clr (by simp)) (FieldsKept.refl s2 _)
  have hfree : s5.fld R.SEAM_CTL_FREE = s.fld R.SEAM_CTL_FREE := by
    rw [State.fld_clr, if_neg (by decide), State.fld_setFld_ne _ _ (by decide), State.fld_setFld_ne _ _ (by decide),
      State.fld_congr (show s4.regs = s3.regs from rfl), h23 _ (by decide), h12 _ (by decide), s.leaveLocked_fieldsKept _ (by decide)]
  have hinteg : s5.integ = s3.integ := by
    have hint {f : Fld} (hf : f.key ≠ R.SEAM_STATUS_TS_STATE.key ∧ f.key ≠ R.SEAM_STATUS_SEL.key ∧ f.key ≠ R.SEAM_STATUS_SEAMING.key) :
        s5.fld f = s3.fld f := by
      rw [State.fld_clr, if_neg hf.2.2, State.fld_setFld_ne _ _ hf.2.1, State.fld_setFld_ne _ _ hf.1]
      rfl
    simp only [State.integ, State.int64, State.pair]
    rw [hint (by decide), hint (by decide)]
  have hts : s5.tsState = 0 := by
    rw [State.tsState, State.fld_clr, if_neg (by decide), State.fld_setFld_ne _ _ (by decide), State.fld_setFld_same]
    rfl
  have hsel : s5.selected = 0x3F := by
    rw [State.selected, State.fld_clr, if_neg (by decide), State.fld_setFld_same]
    rfl
  have hseaming : s5.fld R.SEAM_STATUS_SEAMING = 0 := State.fld_clr_same _ _
  have hrun : s5.seam.run = none := rfl
  have hy : s5.tsv.y = s3.integ := rfl
  clear_value s5
  have h6 : OnlyFields s5 ((s5.clr R.SEAM_STATUS_PREARMED).setFld R.SEAM_STBY_FALLBACK 0x3F).showSteer.pressBusy freeFields := by
    refine OnlyFields.trans ?_ ((onlyFields_pressBusy _).mono (by simp [freeFields]))
    refine OnlyFields.trans ?_ ((onlyFields_showSteer _).mono fun g hg => by simp [freeFields, hg])
    exact ((OnlyFields.refl s5 _).clr (by simp [freeFields])).setFld _ (by simp [freeFields])
  generalize ((s5.clr R.SEAM_STATUS_PREARMED).setFld R.SEAM_STBY_FALLBACK 0x3F).showSteer.pressBusy = u at h6
  have ht : FieldsKept s5 u.announce.reform freeFields :=
    (h6.2.of_regs (State.announce_regs _)).trans (u.announce.reform_fieldsKept.mono fun g hg => by simp [freeFields, hg])
  refine ⟨?_, ?_, ?_, ?_, ?_, ?_⟩
  · rw [State.tsState, ht _ (by decide)]
    exact hts
  · rw [State.selected, ht _ (by decide)]
    exact hsel
  · rw [State.reform_seam, State.announce_seam, h6.seam, hrun]
  · rw [ht _ (by decide), hseaming]
  · rw [State.reform_tsv, State.announce_tsv, h6.tsv, hy, ← hinteg, State.integ, State.integ, State.int64, State.int64, State.pair,
      State.pair, ht _ (by decide), ht _ (by decide)]
  · rw [ht _ (by decide), hfree]

theorem does_seamFreeWrite_true {s : State} (hp : s.powered = true) (hf : s.seamFenced = false) (hfree : s.isFree = false) :
    Does (.seamFreeWrite true) s fun t => t.isFree = true ∧ t.tsState = 0 ∧ t.selected = 0x3F ∧ t.seam.run = none ∧
      t.fld R.SEAM_STATUS_SEAMING = 0 ∧ t.tsv.y = t.integ ∧ MemKept s t := by
  refine does_live (exec_seamFreeWrite s true) hp ?_
  rw [State.seamGuard, if_neg (by simp [hf]), State.writeFree, if_pos rfl, if_neg (by simp [hfree])]
  obtain ⟨hts, hsel, hrun, hseaming, hy, hctl⟩ := (s.raise R.SEAM_CTL_FREE).toFree_spec
  refine ⟨?_, hts, hsel, hrun, hseaming, hy, memKept_of_memory ((s.raise R.SEAM_CTL_FREE).toFree_memory.trans (s.raise_memory _))⟩
  rw [State.isFree, State.flag, hctl, State.fld_raise_same]
  rfl

theorem does_seamFreeWrite_false {s : State} (hp : s.powered = true) (hf : s.seamFenced = false) :
    Does (.seamFreeWrite false) s fun t => t.isFree = false ∧ OnlyFields s t [R.SEAM_CTL_FREE] := by
  refine does_live (exec_seamFreeWrite s false) hp ?_
  rw [State.seamGuard, if_neg (by simp [hf]), State.writeFree, if_neg (by simp)]
  refine ⟨?_, (OnlyFields.refl s _).clr (by simp)⟩
  rw [State.isFree, State.flag, State.fld_clr_same]
  rfl

theorem ignores_seamFreeWrite {s : State} (b : Bool) (hf : s.seamFenced = true) : Ignores (.seamFreeWrite b) s :=
  ignores_live (exec_seamFreeWrite s b) (if_pos hf)

/-- Settles O8: each entry into a state by what it writes last, the renewals after it keeping the state's own fields. -/
theorem timescaleStates : Obligations.TimescaleStates :=
  ⟨fun _ hp hr => does_tsLock hp hr, fun _ hp hr => does_tsUnlock hp hr,
    fun s _ hr => ignores_live (t := s.lockNow) rfl (if_neg (by simp [hr])),
    fun s _ hr => ignores_live (t := if s.unlockReady then s.toAcquiring else s) rfl (if_neg (by simp [hr])),
    fun _ hp hsrc hf hts hdue => does_feedLossExpire hp hsrc hf hts hdue, fun _ _ h => ignores_feedLossExpire h,
    fun _ hp hf hfree => does_seamFreeWrite_true hp hf hfree, fun _ hp hf => does_seamFreeWrite_false hp hf,
    fun _ b _ hf => ignores_seamFreeWrite b hf⟩

end Sys2Proof.Machine


/-! O7: the commands of selection (04 R101 to R105, R109, R135). -/
namespace Sys2Proof.Machine

/-! ### A seam begins -/

theorem State.startSeam_eq {s : State} (n : Nat) (eo : Int) (hf : s.seamFenced = false) :
    s.startSeam n eo = { s.raise R.SEAM_STATUS_SEAMING with seam := { s.seam with run := some { dst := n, eo := eo } } } := by
  rw [State.startSeam, if_neg (by simp [hf])]

/-- What a seam that begins leaves. -/
theorem State.startSeam_spec {s : State} (n : Nat) (eo : Int) (hf : s.seamFenced = false) :
    (s.startSeam n eo).seam.run = some { dst := n, eo := eo } ∧ (s.startSeam n eo).fld R.SEAM_STATUS_SEAMING = 1 ∧
      FieldsKept s (s.startSeam n eo) [R.SEAM_STATUS_SEAMING] ∧ MemKept s (s.startSeam n eo) := by
  have hmem := memKept_of_memory (s.startSeam_memory n eo)
  rw [State.startSeam_eq n eo hf] at hmem ⊢
  refine ⟨rfl, ?_, ((FieldsKept.refl s _).raise (g := R.SEAM_STATUS_SEAMING) (by simp)).of_regs (by rfl), hmem⟩
  exact (State.fld_congr (by rfl) _).trans (State.fld_raise_same s _)

/-! ### What the preference leaves alone -/

/-- The fields that a SELECT writes before anything follows from it. -/
def prefFields : List Fld := [R.SEAM_STATUS_PREF, R.SEAM_STATUS_SEL_PENDING]

theorem fld_qual_of_pref {s t : State} (h : FieldsKept s t prefFields) {f : Fld} (hf : f.key < 0x05030000 * 32) : t.fld f = s.fld f := by
  refine h f ?_
  simp only [prefFields, List.forall_mem_cons]
  refine ⟨?_, ?_, by simp⟩
  all_goals
    simp only [Fld.key, R.SEAM_STATUS_PREF, R.SEAM_STATUS_SEL_PENDING] at hf ⊢
    omega

theorem timeCand_of_pref {s t : State} (h : FieldsKept s t prefFields) (n : Nat) : t.timeCand n = s.timeCand n := by
  rw [State.timeCand, State.timeCand]
  by_cases hn : n < 16
  · rw [fld_qual_of_pref h (by simp only [Fld.key, R.QUAL_CAND_CFG_KIND]; omega)]
  · simp only [hn, decide_false, Bool.false_and]

theorem fit_of_pref {s t : State} (h : FieldsKept s t prefFields) (n : Nat) : t.fit n = s.fit n := by
  rw [State.fit, State.fit]
  by_cases hn : n < 48
  · have hfenced : t.qualFenced = s.qualFenced := congrArg (· != 0) (h (R.FLT_SRC_FENCED 0x010) (by decide))
    have hreturn : t.flag R.SEAM_CTL_TIME_RETURN = s.flag R.SEAM_CTL_TIME_RETURN := congrArg (· != 0) (h _ (by decide))
    have hstate := fld_qual_of_pref h (f := R.QUAL_CAND_STATE_STATE n) (by simp only [Fld.key, R.QUAL_CAND_STATE_STATE]; omega)
    have hstepped : t.steppedCand n = s.steppedCand n :=
      congrArg (· != 0) (fld_qual_of_pref h (by simp only [Fld.key, R.QUAL_CAND_STATE_STEPPED]; omega))
    simp only [State.candState, hfenced, hreturn, hstate, hstepped]
  · simp only [hn, decide_false, Bool.false_and]

theorem shadowValid_of_pref {s t : State} (h : OnlyFields s t prefFields) (n : Nat) : t.shadowValid n = s.shadowValid n := by
  rw [State.shadowValid, State.shadowValid, State.shadowSpan, State.shadowSpan, timeCand_of_pref h.2, State.cand, State.cand, h.cands]

theorem handInput_of_pref {s t : State} (h : OnlyFields s t prefFields) : t.handInput = s.handInput := by
  have hsel : t.selected = s.selected := h.2 _ (by decide)
  have hts : t.tsState = s.tsState := h.2 _ (by decide)
  simp only [State.handInput, State.retainedInput, timeCand_of_pref h.2, hsel, hts, h.seam, h.tb]

theorem seamFenced_of_pref {s t : State} (h : FieldsKept s t prefFields) : t.seamFenced = s.seamFenced := by
  simp only [State.seamFenced, State.fenced, State.tiFenced, State.flag]
  rw [h (R.FLT_SRC_FENCED 0x002) (by decide), h R.FLT_STATUS_TI_FENCED (by decide)]

/-! ### SELECT and CLEAR_PREF -/

theorem exec_select (s : State) (m : Fin 64) : exec (.select m) s = s.live (s.seamGuard fun s => s.select m) := rfl

theorem does_select_refused {s : State} {m : Fin 64} (hp : s.powered = true) (hf : s.seamFenced = false) (hm : 47 < (m : Nat)) :
    Does (.select m) s fun t => t.fld R.SEAM_EVENTS_SEL_REJ = 1 ∧ OnlyFields s t [R.SEAM_EVENTS_SEL_REJ] := by
  refine does_live (exec_select s m) hp ?_
  rw [State.seamGuard, if_neg (by simp [hf]), State.select, if_pos hm]
  exact ⟨State.fld_raise_same _ _, (OnlyFields.refl s _).raise (by simp)⟩

/-- A renewal leaves the fields that it does not renew, and the seam in progress. -/
theorem State.reform_fld {s : State} {f : Fld} (hf : ∀ g ∈ reformFields, f.key ≠ g.key) : s.reform.fld f = s.fld f :=
  s.reform_fieldsKept f hf

theorem State.reform_run (s : State) : s.reform.seam.run = s.seam.run := by rw [s.reform_seam]

theorem onlyFields_pref (s : State) (m : Nat) : OnlyFields s (s.setFld R.SEAM_STATUS_PREF m) prefFields :=
  (OnlyFields.refl s _).setFld _ (by simp [prefFields])

theorem State.fld_pref (s : State) {m : Nat} (hm : m < 64) : (s.setFld R.SEAM_STATUS_PREF m).fld R.SEAM_STATUS_PREF = m :=
  (State.fld_setFld_same s _ m).trans (Nat.mod_eq_of_lt hm)

theorem does_select_fit {s : State} {m : Fin 64} (hp : s.powered = true) (hf : s.seamFenced = false) (hm : (m : Nat) < 48)
    (hfree : s.isFree = false) (hsel : s.selected ≠ m) (hfit : s.fit m = true) (hvalid : s.shadowValid m = true) :
    Does (.select m) s fun t => t.prefCand = m ∧ t.fld R.SEAM_STATUS_SEL_PENDING = 0 ∧ t.fld R.SEAM_STATUS_SEAMING = 1 ∧
      t.seam.run = some { dst := m, eo := s.handInput } ∧ t.selected = s.selected ∧ MemKept s t := by
  refine does_live (exec_select s m) hp ?_
  have hmem := memKept_of_memory (s.select_memory m)
  have hpref := onlyFields_pref s m
  have hfld := s.fld_pref (m := m) (by omega)
  simp only [State.seamGuard, hf, Bool.false_eq_true, if_false]
  rw [State.select, if_neg (by omega)] at hmem ⊢
  extract_lets s1 s2
  replace hmem : MemKept s s2.reform := hmem
  have hs2 : s2 = (s1.clr R.SEAM_STATUS_SEL_PENDING).startSeam m s1.handInput := by
    have hfree1 : s1.isFree = false := (congrArg (· != 0) (hpref.2 R.SEAM_CTL_FREE (by decide))).trans hfree
    have hsel1 : s1.selected = s.selected := hpref.2 _ (by decide)
    unfold s2
    rw [if_neg (by simp [hfree1]), if_neg (by rw [hsel1]; exact hsel.symm),
      if_pos ⟨(fit_of_pref hpref.2 m).trans hfit, (shadowValid_of_pref hpref m).trans hvalid⟩]
  have hclr : OnlyFields s (s1.clr R.SEAM_STATUS_SEL_PENDING) prefFields := hpref.clr (by simp [prefFields])
  obtain ⟨hrun, hseaming, hkept, -⟩ := State.startSeam_spec (s := s1.clr R.SEAM_STATUS_SEL_PENDING) m s1.handInput
    ((seamFenced_of_pref hclr.2).trans hf)
  rw [hs2] at hmem ⊢
  refine ⟨?_, ?_, ?_, ?_, ?_, hmem⟩
  · rw [State.prefCand, State.reform_fld (by decide), hkept _ (by decide), State.fld_clr, if_neg (by decide)]
    exact hfld
  · rw [State.reform_fld (by decide), hkept _ (by decide), State.fld_clr_same]
  · rw [State.reform_fld (by decide), hseaming]
  · rw [State.reform_run, hrun, handInput_of_pref hpref]
  · rw [State.selected, State.reform_fld (by decide), hkept _ (by decide), hclr.2 _ (by decide), State.selected]

theorem does_select_pending {s : State} {m : Fin 64} (hp : s.powered = true) (hf : s.seamFenced = false) (hm : (m : Nat) < 48)
    (h : s.isFree = true ∨ (s.selected ≠ m ∧ (s.fit m = false ∨ s.shadowValid m = false))) :
    Does (.select m) s fun t => t.prefCand = m ∧ t.fld R.SEAM_STATUS_SEL_PENDING = 1 ∧ t.seam.run = s.seam.run ∧
      t.selected = s.selected ∧ MemKept s t := by
  refine does_live (exec_select s m) hp ?_
  have hmem := memKept_of_memory (s.select_memory m)
  have hpref := onlyFields_pref s m
  have hfld := s.fld_pref (m := m) (by omega)
  simp only [State.seamGuard, hf, Bool.false_eq_true, if_false]
  rw [State.select, if_neg (by omega)] at hmem ⊢
  extract_lets s1 s2
  replace hmem : MemKept s s2.reform := hmem
  have hs2 : s2 = s1.raise R.SEAM_STATUS_SEL_PENDING := by
    have hfree1 : s1.isFree = s.isFree := congrArg (· != 0) (hpref.2 R.SEAM_CTL_FREE (by decide))
    have hsel1 : s1.selected = s.selected := hpref.2 _ (by decide)
    unfold s2
    rw [hfree1, hsel1, fit_of_pref hpref.2 m, shadowValid_of_pref hpref m]
    obtain hfree | ⟨hne, hnot⟩ := h
    · exact if_pos hfree
    · have hunfit : ¬(s.fit m = true ∧ s.shadowValid m = true) := by
        rintro ⟨hfit, hvalid⟩
        simp [hfit, hvalid] at hnot
      rw [if_neg hne.symm, if_neg hunfit, ite_self]
  have hraise : OnlyFields s (s1.raise R.SEAM_STATUS_SEL_PENDING) prefFields := hpref.raise (by simp [prefFields])
  rw [hs2] at hmem ⊢
  refine ⟨?_, ?_, ?_, ?_, hmem⟩
  · rw [State.prefCand, State.reform_fld (by decide), State.fld_raise, if_neg (by decide)]
    exact hfld
  · rw [State.reform_fld (by decide), State.fld_raise_same]
    rfl
  · rw [State.reform_run, hraise.seam]
  · rw [State.selected, State.reform_fld (by decide), hraise.2 _ (by decide), State.selected]

theorem does_clearPref {s : State} (hp : s.powered = true) (hf : s.seamFenced = false) :
    Does .clearPref s fun t => t.prefCand = 0x3F ∧ t.fld R.SEAM_STATUS_SEL_PENDING = 0 ∧ t.seam.run = s.seam.run ∧ MemKept s t := by
  have he : exec .clearPref s = s.live (s.seamGuard fun s => s.clearPref) := rfl
  refine does_live he hp ?_
  have hmem := memKept_of_memory s.clearPref_memory
  simp only [State.seamGuard, hf, Bool.false_eq_true, if_false]
  refine ⟨?_, ?_, ?_, hmem⟩
  · rw [State.prefCand, State.clearPref, State.reform_fld (by decide), State.fld_clr, if_neg (by decide), State.fld_setFld_same]
    rfl
  · rw [State.clearPref, State.reform_fld (by decide), State.fld_clr_same]
  · rw [State.clearPref, State.reform_run]
    rfl

/-! ### Seams that begin of themselves -/

theorem seamFenced_of_seamIdle {s : State} (h : s.seamIdle = true) : s.seamFenced = false := by
  simp only [State.seamIdle, Bool.and_eq_true, Bool.not_eq_true'] at h
  exact h.1.2

theorem does_selPendingSeam {s : State} (hp : s.powered = true) (hidle : s.seamIdle = true)
    (hpend : s.fld R.SEAM_STATUS_SEL_PENDING = 1) (hfit : s.fit s.prefCand = true) (hvalid : s.shadowValid s.prefCand = true)
    (hne : s.prefCand ≠ s.selected) :
    Does .selPendingSeam s fun t => t.seam.run = some { dst := s.prefCand, eo := s.handInput } ∧
      t.fld R.SEAM_STATUS_SEL_PENDING = 0 ∧ t.fld R.SEAM_STATUS_SEAMING = 1 ∧
      FieldsKept s t [R.SEAM_STATUS_SEL_PENDING, R.SEAM_STATUS_SEAMING] ∧ MemKept s t := by
  have he : exec .selPendingSeam s = s.live s.pendingSeam := rfl
  refine does_live he hp ?_
  have hclr : FieldsKept s (s.clr R.SEAM_STATUS_SEL_PENDING) prefFields := (FieldsKept.refl s _).clr (by simp [prefFields])
  obtain ⟨hrun, hseaming, hkept, hmem⟩ := State.startSeam_spec (s := s.clr R.SEAM_STATUS_SEL_PENDING) s.prefCand s.handInput
    ((seamFenced_of_pref hclr).trans (seamFenced_of_seamIdle hidle))
  have heq : s.pendingSeam = (s.clr R.SEAM_STATUS_SEL_PENDING).startSeam s.prefCand s.handInput :=
    if_pos ⟨hidle, by simp [State.flag, hpend], hfit, hvalid, hne⟩
  rw [heq]
  refine ⟨hrun, ?_, hseaming, ?_, hmem⟩
  · rw [hkept _ (by decide), State.fld_clr_same]
  · exact ((FieldsKept.refl s _).clr (by simp)).trans (hkept.mono (by simp))

theorem ignores_selPendingSeam {s : State} (h : s.seamIdle = false ∨ s.fld R.SEAM_STATUS_SEL_PENDING = 0) : Ignores .selPendingSeam s := by
  refine ignores_live (t := s.pendingSeam) rfl (if_neg fun ⟨hidle, hpend, _⟩ => ?_)
  obtain h | h := h
  · simp [h] at hidle
  · simp [State.flag, h] at hpend

/-- The first of the automatic order is seamed to when it is wanted. -/
theorem does_autoSelect {s : State} (hp : s.powered = true) (hidle : s.seamIdle = true) (hne : s.autoOrder ≠ [])
    (hvalid : s.shadowValid (s.autoOrder.headD 0) = true) (hw : s.wants (s.autoOrder.headD 0) = true) :
    Does .autoSelect s fun t => t.seam.run = some { dst := s.autoOrder.headD 0, eo := 0 } ∧
      t.fld R.SEAM_STATUS_SEAMING = 1 ∧ FieldsKept s t [R.SEAM_STATUS_SEAMING] ∧ MemKept s t := by
  have he : exec .autoSelect s = s.live s.autoSelect := rfl
  refine does_live he hp ?_
  have heq : s.autoSelect = s.startSeam (s.autoOrder.headD 0) 0 := by
    rw [State.autoSelect, if_pos hidle]
    obtain ⟨n, l, hl⟩ := List.exists_cons_of_ne_nil hne
    simp only [hl, List.headD_cons, List.head?_cons] at hvalid hw ⊢
    rw [if_pos ⟨hvalid, hw⟩]
  rw [heq]
  exact State.startSeam_spec _ 0 (seamFenced_of_seamIdle hidle)

theorem ignores_autoSelect {s : State}
    (h : s.autoOrder = [] ∨ ((s.tsState = 1 ∨ s.tsState = 2) ∧ (s.srcFeed = false ∨ s.selectedGood = true))) :
    Ignores .autoSelect s := by
  refine ignores_live (t := s.autoSelect) rfl ?_
  rw [State.autoSelect]
  split
  · split
    · next n hn =>
      obtain h | ⟨hts, h⟩ := h
      · simp [h] at hn
      · refine if_neg fun ⟨_, hw⟩ => ?_
        rw [State.wants, if_pos hts] at hw
        obtain h | h := h <;> simp [h] at hw
    · rfl
  · rfl

theorem does_revertTimerExpire {s : State} (hp : s.powered = true) (hidle : s.seamIdle = true) (hr : s.revertHolds = true)
    (hvalid : s.shadowValid s.prefCand = true) (hsome : s.seam.wtr.isSome = true)
    (hdue : s.seam.wtr.getD 0 + s.fld R.SEAM_WTR_WTR * fuPerSec ≤ s.tb.elapsed) :
    Does .revertTimerExpire s fun t => t.seam.run = some { dst := s.prefCand, eo := s.handInput } ∧
      t.fld R.SEAM_STATUS_SEAMING = 1 ∧ FieldsKept s t [R.SEAM_STATUS_SEAMING] ∧ MemKept s t := by
  have he : exec .revertTimerExpire s = s.live s.revertExpire := rfl
  refine does_live he hp ?_
  obtain ⟨w, hw⟩ := Option.isSome_iff_exists.mp hsome
  rw [hw, Option.getD_some] at hdue
  have heq : s.revertExpire = s.startSeam s.prefCand s.handInput := by
    simp only [State.revertExpire, hw]
    exact if_pos ⟨hidle, hr, hdue, hvalid⟩
  rw [heq]
  exact State.startSeam_spec _ _ (seamFenced_of_seamIdle hidle)

theorem ignores_revertTimerExpire {s : State}
    (h : s.seam.wtr = none ∨ s.tb.elapsed < s.seam.wtr.getD 0 + s.fld R.SEAM_WTR_WTR * fuPerSec) : Ignores .revertTimerExpire s := by
  refine ignores_live (t := s.revertExpire) rfl ?_
  unfold State.revertExpire
  split
  · next w hw =>
    refine if_neg fun ⟨_, _, hdue, _⟩ => ?_
    obtain h | h := h
    · simp [h] at hw
    · rw [hw, Option.getD_some] at h
      omega
  · rfl

/-! ### The end of a seam -/

/-- The fields that the completion of a seam writes besides the selection, the seam's own and the pre-armed fall-back. -/
def sideFields : List Fld :=
  [R.SEAM_EVENTS_UNLOCK, R.SEAM_STATUS_TS_STATE, R.SEAM_EVENTS_HO_EXIT, R.SEAM_STATUS_HOLDOVER_UNLEARNED, R.SEAM_STATUS_SEL_PENDING,
    R.SEAM_STATUS_PRESS_BUSY, R.SEAM_PRESS_STATUS_RESULT, R.SEAM_EVENTS_PRESS_DONE, R.SEAM_SLEW_REM_LO, R.SEAM_SLEW_REM_HI,
    R.SEAM_STATUS_AUTO_SLEW, R.SEAM_BUILDOUT_LO, R.SEAM_BUILDOUT_HI] ++ servoFields ++ reformFields

theorem mem_side_of_servo {g : Fld} (hg : g ∈ servoFields) : g ∈ sideFields :=
  List.mem_append_left _ (List.mem_append_right _ hg)

theorem mem_side_of_reform {g : Fld} (hg : g ∈ reformFields) : g ∈ sideFields := List.mem_append_right _ hg

theorem mem_side_of_slew {g : Fld} (hg : g ∈ slewFields) : g ∈ sideFields := by
  simp only [slewFields, List.mem_append, List.mem_cons, List.not_mem_nil, or_false] at hg
  obtain (rfl | rfl | rfl) | hg := hg
  · simp [sideFields]
  · simp [sideFields]
  · simp [sideFields]
  · exact mem_side_of_servo (List.mem_append_right _ hg)

/-- The seam in progress, the acquisition step that waits and the fields outside the side effects stay. -/
def SideOnly (s t : State) : Prop := FieldsKept s t sideFields ∧ t.seam.run = s.seam.run ∧ t.seam.acq = s.seam.acq

theorem SideOnly.refl (s : State) : SideOnly s s := ⟨FieldsKept.refl s _, rfl, rfl⟩

theorem SideOnly.trans {s t u : State} (h : SideOnly s t) (h' : SideOnly t u) : SideOnly s u :=
  ⟨h.1.trans h'.1, h'.2.1.trans h.2.1, h'.2.2.trans h.2.2⟩

theorem SideOnly.ite {s t u : State} {c : Prop} [Decidable c] (ht : SideOnly s t) (hu : SideOnly s u) :
    SideOnly s (if c then t else u) := by split <;> assumption

theorem SideOnly.setFld {s t : State} (h : SideOnly s t) {f : Fld} (v : Nat) (hf : f ∈ sideFields) : SideOnly s (t.setFld f v) :=
  ⟨h.1.setFld v hf, h.2⟩

theorem SideOnly.raise {s t : State} (h : SideOnly s t) {f : Fld} (hf : f ∈ sideFields) : SideOnly s (t.raise f) := h.setFld 1 hf

theorem SideOnly.clr {s t : State} (h : SideOnly s t) {f : Fld} (hf : f ∈ sideFields) : SideOnly s (t.clr f) := h.setFld 0 hf

/-- What leaves the registers alone, and of the seam unit's table the seam and the acquisition step. -/
theorem SideOnly.of_regs {s t u : State} (h : SideOnly s t) (hregs : u.regs = t.regs) (hrun : u.seam.run = t.seam.run)
    (hacq : u.seam.acq = t.seam.acq) : SideOnly s u :=
  ⟨h.1.of_regs hregs, hrun.trans h.2.1, hacq.trans h.2.2⟩

theorem ServoOnly.side {s t : State} (h : ServoOnly s t) : SideOnly s t :=
  ⟨h.2.mono fun _ => mem_side_of_servo, by rw [h.seam], by rw [h.seam]⟩

theorem OnlyFields.side {s t : State} {l : List Fld} (h : OnlyFields s t l) (hl : ∀ g ∈ l, g ∈ sideFields) : SideOnly s t :=
  ⟨h.2.mono hl, by rw [h.seam], by rw [h.seam]⟩

theorem sideOnly_pressBusy (s : State) : SideOnly s s.pressBusy := (onlyFields_pressBusy s).side (by simp [sideFields])

theorem sideOnly_showSteer (s : State) : SideOnly s s.showSteer := (servoOnly_showSteer s).side

theorem sideOnly_reform (s : State) : SideOnly s s.reform :=
  ⟨s.reform_fieldsKept.mono fun _ => mem_side_of_reform, s.reform_run, by rw [s.reform_seam]⟩

theorem sideOnly_stopSlew (s : State) : SideOnly s s.stopSlew := by
  refine ⟨s.stopSlew_fieldsKept.mono fun _ => mem_side_of_slew, ?_, ?_⟩
  all_goals
    unfold State.stopSlew
    split
    · rfl
    · rw [(onlyFields_showSteer _).seam]
      rfl

theorem sideOnly_pressFinish (s : State) (code : Nat) : SideOnly s (s.pressFinish code) :=
  (((SideOnly.refl s).setFld code (f := R.SEAM_PRESS_STATUS_RESULT) (by simp [sideFields])).raise (by simp [sideFields])).trans
    (sideOnly_pressBusy _)

theorem sideOnly_startSlew (s : State) (amt : Int) (auto : Bool) (by_ : Issuer) : SideOnly s (s.startSlew amt auto by_) := by
  unfold State.startSlew
  extract_lets rate sign m v s1 s2
  have h1 : SideOnly s s1 := (SideOnly.refl s).of_regs rfl rfl rfl
  have h2 : SideOnly s s2 := (h1.setFld _ (by simp [sideFields])).setFld _ (by simp [sideFields])
  refine (SideOnly.trans ?_ (sideOnly_showSteer _)).trans (sideOnly_pressBusy _)
  exact (h2.raise (by simp [sideFields])).ite h2

theorem sideOnly_resumeAuto (s : State) : SideOnly s s.resumeAuto := by
  unfold State.resumeAuto
  split
  · exact ((SideOnly.refl s).of_regs (u := { s with seam := { s.seam with autoWait := false } }) rfl rfl rfl).trans
      (sideOnly_startSlew _ _ _ _)
  · exact SideOnly.refl s

theorem sideOnly_abortSlew (s : State) : SideOnly s s.abortSlew := by
  unfold State.abortSlew
  split
  · exact SideOnly.refl s
  · exact SideOnly.ite ((sideOnly_stopSlew s).trans (sideOnly_pressBusy _))
      (((sideOnly_stopSlew s).trans (sideOnly_pressFinish _ 5)).trans (sideOnly_resumeAuto _))

theorem sideOnly_autoSlew (s : State) (b : Int) : SideOnly s (s.autoSlew b) :=
  (sideOnly_startSlew s _ _ _).ite ((SideOnly.refl s).of_regs rfl rfl rfl)

theorem sideOnly_setBuildout (s : State) (n : Nat) (v : Int) : SideOnly s (s.setBuildout n v) := by
  unfold State.setBuildout
  extract_lets m s1
  have h1 : SideOnly s s1 := (SideOnly.refl s).of_regs rfl rfl rfl
  exact ((h1.setFld _ (by simp [sideFields])).setFld _ (by simp [sideFields])).ite h1

theorem sideOnly_leaveLocked (s : State) : SideOnly s s.leaveLocked := by
  refine ⟨s.leaveLocked_fieldsKept.mono (by simp [sideFields]), ?_, ?_⟩
  all_goals
    unfold State.leaveLocked
    split <;> rfl

theorem sideOnly_toAcquiring (s : State) : SideOnly s s.toAcquiring :=
  ((sideOnly_leaveLocked s).setFld 1 (f := R.SEAM_STATUS_TS_STATE) (by simp [sideFields])).of_regs s.toAcquiring_regs
    (by rw [State.toAcquiring, State.announce_seam]; rfl) (by rw [State.toAcquiring, State.announce_seam]; rfl)

theorem sideOnly_leaveHoldover (s : State) : SideOnly s s.leaveHoldover := by
  unfold State.leaveHoldover
  split
  · extract_lets m s1
    have h1 : SideOnly s s1 := (SideOnly.refl s).of_regs rfl rfl rfl
    have h2 := (h1.trans (servoOnly_servoRelease s1).side).trans (sideOnly_toAcquiring _)
    exact ((h2.raise (by simp [sideFields])).clr (by simp [sideFields])).trans
      ((onlyFields_trReport _).side fun _ => mem_side_of_reform)
  · exact SideOnly.refl s

theorem State.noteInput_eq (s : State) (e : Int) : SideOnly s (s.noteInput e) := by
  unfold State.noteInput
  refine (SideOnly.refl s).of_regs rfl ?_ ?_
  all_goals
    dsimp only
    split
    · split <;> rfl
    · split <;> rfl

theorem sideOnly_deliver (s : State) (n : Nat) (r : Int) : SideOnly s (s.deliver n r) := by
  unfold State.deliver
  split
  · exact SideOnly.refl s
  · exact SideOnly.ite ((s.noteInput_eq _).trans (servoOnly_seamInput _ _).side) (SideOnly.refl s)

/-- The acquisition step of a candidate begins: it waits, and only side effects come with it. -/
theorem State.beginAcquisition_side (s : State) (n : Nat) : FieldsKept s (s.beginAcquisition n) sideFields ∧
    (s.beginAcquisition n).seam.run = s.seam.run ∧ (s.beginAcquisition n).seam.acq.map (·.1) = some n := by
  unfold State.beginAcquisition
  extract_lets s1 m s2 v
  have h1 : SideOnly s s1 := sideOnly_abortSlew s
  have h2 : SideOnly s1 s2 := by
    unfold s2
    split
    · exact ((SideOnly.refl s1).of_regs (u := { s1 with seam := { s1.seam with press := none } }) rfl rfl rfl).trans
        (sideOnly_pressFinish _ 5)
    · exact SideOnly.refl s1
  have h12 := h1.trans h2
  refine ⟨(h12.1.of_regs (by rfl)).trans (sideOnly_pressBusy _).1, ?_, ?_⟩
  · rw [(onlyFields_pressBusy _).seam]
    exact h12.2.1
  · rw [(onlyFields_pressBusy _).seam]
    rfl

/-- The pre-arming of the fall-back writes it alone (R130). -/
theorem State.prearm_spec (s : State) : FieldsKept s s.prearm [R.SEAM_STBY_FALLBACK, R.SEAM_STATUS_PREARMED] ∧
    s.prearm.seam.run = s.seam.run ∧ s.prearm.seam.acq = s.seam.acq := by
  unfold State.prearm
  split
  · exact ⟨FieldsKept.refl s _, rfl, rfl⟩
  · extract_lets m u
    have hu : FieldsKept s u [R.SEAM_STBY_FALLBACK, R.SEAM_STATUS_PREARMED] := (FieldsKept.refl s _).of_regs (by rfl)
    exact ⟨(hu.setFld _ (by simp)).raise (by simp), rfl, rfl⟩

/-- The fields that the completion of a seam writes. -/
def completeFields : List Fld :=
  [R.SEAM_STATUS_SEAMING, R.SEAM_EVENTS_SEAM_DONE, R.SEAM_STATUS_SEL, R.SEAM_STATUS_PREARMED, R.SEAM_STBY_FALLBACK] ++ sideFields

/-- None of them belongs to a candidate or to the collector. -/
theorem candState_of_complete {s t : State} (h : FieldsKept s t completeFields) {n : Nat} (hn : n < 48) : t.candState n = s.candState n := by
  have hkeys : ∀ g ∈ completeFields, g.key < 0x05020000 * 32 ∨ 0x05030000 * 32 ≤ g.key := by decide
  have hstate : t.fld (R.QUAL_CAND_STATE_STATE n) = s.fld (R.QUAL_CAND_STATE_STATE n) := by
    refine h _ fun g hg => ?_
    have := hkeys g hg
    have hkey : (R.QUAL_CAND_STATE_STATE n).key = (0x05020000 + (R.QUAL_CAND_STATE_STATE n).addr - 0x05020000) * 32 +
        (R.QUAL_CAND_STATE_STATE n).lo := by simp only [Fld.key]; omega
    simp only [R.QUAL_CAND_STATE_STATE, Fld.key] at *
    omega
  have hfence : t.qualFenced = s.qualFenced := congrArg (· != 0) (h (R.FLT_SRC_FENCED 0x010) (by decide))
  rw [State.candState, State.candState, hstate, hfence]

/-- The retained inputs alone change. -/
theorem State.retainInput_eq (s : State) (e : Int) : ∃ l, s.retainInput e = { s with seam := { s.seam with ins := l } } := ⟨_, rfl⟩

theorem sideOnly_retainInput (s : State) (e : Int) : SideOnly s (s.retainInput e) := by
  obtain ⟨l, hl⟩ := s.retainInput_eq e
  rw [hl]
  exact (SideOnly.refl s).of_regs rfl rfl rfl

/-- Another selection disarms the fall-back (R130). -/
theorem State.disarm_spec (s : State) : OnlyFields s s.disarm [R.SEAM_STATUS_PREARMED, R.SEAM_STBY_FALLBACK] ∧
    s.disarm.fld R.SEAM_STATUS_PREARMED = 0 ∧ s.disarm.fld R.SEAM_STBY_FALLBACK = 0x3F := by
  refine ⟨((OnlyFields.refl s _).clr (by simp)).setFld _ (by simp), ?_, ?_⟩
  · rw [State.disarm, State.fld_setFld_ne _ _ (by decide), State.fld_clr_same]
  · rw [State.disarm, State.fld_setFld_same]
    rfl

/-- What a completed seam leaves (R109, R135). -/
theorem State.completeSeam_spec {s : State} {r : SeamRun} (hr : s.seam.run = some r) (hn : r.dst < 48) :
    s.completeSeam.selected = r.dst ∧ s.completeSeam.seam.run = none ∧ s.completeSeam.fld R.SEAM_STATUS_SEAMING = 0 ∧
      s.completeSeam.fld R.SEAM_EVENTS_SEAM_DONE = 1 ∧ (s.completeSeam.seam.acq.map (·.1)).getD r.dst = r.dst ∧
      (s.candState r.dst = 2 → s.completeSeam.fld R.SEAM_STATUS_PREARMED = 0 ∧ s.completeSeam.fld R.SEAM_STBY_FALLBACK = 0x3F) := by
  unfold State.completeSeam
  split
  · next h => simp [h] at hr
  next r' hr' =>
  obtain rfl : r' = r := Option.some.inj (hr'.symm.trans hr)
  extract_lets n s1 b m s2 s3 s4 s5 s6 s7 s8 s9
  have h1 : SideOnly s s1 := by
    unfold s1
    split
    · exact (sideOnly_stopSlew s).ite (SideOnly.refl s)
    · exact SideOnly.refl s
  have h3 : FieldsKept s s3 completeFields := by
    have h2 : FieldsKept s s2 completeFields := (h1.1.mono fun g hg => List.mem_append_right _ hg).of_regs (by rfl)
    exact (h2.clr (by simp [completeFields])).raise (by simp [completeFields])
  have hbuild := sideOnly_setBuildout (s3.setFld R.SEAM_STATUS_SEL n) n b
  obtain ⟨hdis, hdispre, hdisfall⟩ := ((s3.setFld R.SEAM_STATUS_SEL n).setBuildout n b).disarm_spec
  have hbusy : SideOnly ((s3.setFld R.SEAM_STATUS_SEL n).setBuildout n b).disarm s4 := sideOnly_pressBusy _
  have h34 : FieldsKept s3 s4 ([R.SEAM_STATUS_SEL, R.SEAM_STATUS_PREARMED, R.SEAM_STBY_FALLBACK] ++ sideFields) := by
    refine FieldsKept.trans ?_ (hbusy.1.mono fun g hg => List.mem_append_right _ hg)
    refine FieldsKept.trans ?_ (hdis.2.mono fun g hg => by simp only [List.mem_append, List.mem_cons] at hg ⊢; tauto)
    exact ((FieldsKept.refl s3 _).setFld _ (by simp)).trans (hbuild.1.mono fun g hg => List.mem_append_right _ hg)
  have hstate : s4.candState n = s.candState n :=
    candState_of_complete (h3.trans (h34.mono fun g hg => by
      simp only [completeFields, List.mem_append, List.mem_cons] at hg ⊢
      tauto)) hn
  have hsel4 : s4.fld R.SEAM_STATUS_SEL = n := by
    rw [hbusy.1 _ (by decide), hdis.2 _ (by decide), hbuild.1 _ (by decide), State.fld_setFld_same]
    exact Nat.mod_eq_of_lt (by simp only [R.SEAM_STATUS_SEL]; omega)
  have hseaming4 : s4.fld R.SEAM_STATUS_SEAMING = 0 := by
    rw [h34 _ (by decide), State.fld_raise, if_neg (by decide), State.fld_clr_same]
  have hdone4 : s4.fld R.SEAM_EVENTS_SEAM_DONE = 1 := by
    rw [h34 _ (by decide), State.fld_raise_same]
    rfl
  have hpre4 : s4.fld R.SEAM_STATUS_PREARMED = 0 := by rw [hbusy.1 _ (by decide), hdispre]
  have hfall4 : s4.fld R.SEAM_STBY_FALLBACK = 0x3F := by rw [hbusy.1 _ (by decide), hdisfall]
  have hrun4 : s4.seam.run = none ∧ s4.seam.acq = none := by
    obtain ⟨-, hrunb, hacqb⟩ := hbusy
    obtain ⟨-, hrunc, hacqc⟩ := hbuild
    rw [hrunb, hacqb, hdis.seam, hrunc, hacqc]
    exact ⟨rfl, rfl⟩
  have h45 : FieldsKept s4 s5 [R.SEAM_STBY_FALLBACK, R.SEAM_STATUS_PREARMED] ∧ s5.seam.run = none ∧ s5.seam.acq = none := by
    unfold s5
    split
    · obtain ⟨hkept, hrun, hacq⟩ := s4.prearm_spec
      exact ⟨hkept, hrun.trans hrun4.1, hacq.trans hrun4.2⟩
    · exact ⟨FieldsKept.refl s4 _, hrun4⟩
  have h57 : SideOnly s5 s7 := by
    have h56 : SideOnly s5 s6 := ((SideOnly.refl s5).clr (by simp [sideFields])).ite (SideOnly.refl s5)
    exact h56.trans ((SideOnly.refl s6).ite
      (((servoOnly_enterStage s6 0).side.trans (sideOnly_toAcquiring _)).ite (sideOnly_leaveHoldover s6)))
  have h78 : FieldsKept s7 s8 sideFields ∧ s8.seam.run = none ∧ (s8.seam.acq.map (·.1)).getD n = n := by
    have hrun7 : s7.seam.run = none := h57.2.1.trans h45.2.1
    have hacq7 : s7.seam.acq = none := h57.2.2.trans h45.2.2
    unfold s8
    split
    · obtain ⟨hkept, hrun, hacq⟩ := s7.beginAcquisition_side n
      exact ⟨hkept, hrun.trans hrun7, by rw [hacq, Option.getD_some]⟩
    · have hslew : SideOnly s7 (if s7.timeCand n = true then s7.autoSlew b else s7) := (sideOnly_autoSlew s7 b).ite (SideOnly.refl s7)
      exact ⟨hslew.1, hslew.2.1.trans hrun7, by rw [hslew.2.2, hacq7]; rfl⟩
  have h8t : SideOnly s8 s9.announce.reform := by
    have h89 : SideOnly s8 s9 := by
      unfold s9
      split
      · exact (sideOnly_retainInput s8 _).trans (sideOnly_deliver _ _ _)
      · exact SideOnly.refl s8
    exact (h89.trans ((SideOnly.refl s9).of_regs s9.announce_regs (by rw [s9.announce_seam]) (by rw [s9.announce_seam]))).trans
      (sideOnly_reform _)
  have h5t : FieldsKept s5 s9.announce.reform sideFields := (h57.1.trans h78.1).trans h8t.1
  refine ⟨?_, ?_, ?_, ?_, ?_, fun hq => ?_⟩
  · rw [State.selected, h5t _ (by decide), h45.1 _ (by decide), hsel4]
  · rw [h8t.2.1, h78.2.1]
  · rw [h5t _ (by decide), h45.1 _ (by decide), hseaming4]
  · rw [h5t _ (by decide), h45.1 _ (by decide), hdone4]
  · rw [h8t.2.2]
    exact h78.2.2
  · have h5 : s5 = s4 := if_neg (by rw [hstate]; exact fun h => absurd (hq.symm.trans h) (by decide))
    rw [h5t _ (by decide), h5t _ (by decide), h5]
    exact ⟨hpre4, hfall4⟩

theorem does_seamComplete {s : State} {n : Fin 48} (hp : s.powered = true) (hr : (s.seam.run.map (·.dst)) = some (n : Nat)) :
    Does .seamComplete s fun t => t.selected = n ∧ t.seam.run = none ∧ t.fld R.SEAM_STATUS_SEAMING = 0 ∧
      t.fld R.SEAM_EVENTS_SEAM_DONE = 1 ∧ (t.seam.acq.map (·.1)).getD n.val = n.val ∧
      (s.candState n = 2 → t.fld R.SEAM_STATUS_PREARMED = 0 ∧ t.fld R.SEAM_STBY_FALLBACK = 0x3F) ∧ MemKept s t := by
  have he : exec .seamComplete s = s.live s.completeSeam := rfl
  refine does_live he hp ?_
  obtain ⟨r, hr, hdst⟩ := Option.map_eq_some_iff.mp hr
  obtain ⟨hsel, hrun, hseaming, hdone, hacq, hpre⟩ := State.completeSeam_spec hr (by omega)
  rw [hdst] at hsel hacq hpre
  exact ⟨hsel, hrun, hseaming, hdone, hacq, hpre, memKept_of_memory s.completeSeam_memory⟩

theorem ignores_seamComplete {s : State} (hr : s.seam.run = none) : Ignores .seamComplete s := by
  refine ignores_live (t := s.completeSeam) rfl ?_
  unfold State.completeSeam
  split
  · rfl
  · next h => simp [hr] at h

/-- Settles O7: what SELECT and the seams that begin of themselves write, and for the end of a seam the fields that its side effects
cannot reach. -/
theorem selectionCommands : Obligations.SelectionCommands := by
  refine ⟨fun _ _ hp hf hm => does_select_refused hp hf hm,
    fun _ _ hp hf hm hfree hsel hfit hvalid => does_select_fit hp hf hm hfree hsel hfit hvalid,
    fun _ _ hp hf hm h => does_select_pending hp hf hm h, fun _ hp hf => does_clearPref hp hf,
    fun _ hp hidle hpend hfit hvalid hne => does_selPendingSeam hp hidle hpend hfit hvalid hne,
    fun _ _ h => ignores_selPendingSeam h, fun s hp hidle hts hne hvalid hw => does_autoSelect hp hidle hne hvalid ?_,
    fun s hp hidle hts hfeed hgood hne hvalid hw => does_autoSelect hp hidle hne hvalid ?_, fun _ _ h => ignores_autoSelect h,
    fun _ hp hidle hr hvalid hsome hdue => does_revertTimerExpire hp hidle hr hvalid hsome hdue,
    fun _ _ h => ignores_revertTimerExpire h, fun _ _ hp hr => does_seamComplete hp hr, fun _ _ hr => ignores_seamComplete hr⟩
  · rw [State.wants, if_neg (by omega)]
    simpa using hw
  · rw [State.wants, if_pos hts]
    simpa [hfeed, hgood] using hw

end Sys2Proof.Machine


/-! O6: the changes of candidate state (03 R74, R83, R92 to R98). -/
namespace Sys2Proof.Machine

/-! ### The qualifier's registers -/

/-- The field stands in the qualifier's block. -/
def Fld.InQual (f : Fld) : Prop := 0x05020000 * 32 ≤ f.key ∧ f.key < 0x05030000 * 32

/-- Every register of the qualifier reads as before. -/
def QualKept (s t : State) : Prop := ∀ f : Fld, f.InQual → t.fld f = s.fld f

theorem QualKept.refl (s : State) : QualKept s s := fun _ _ => rfl

theorem QualKept.trans {s t u : State} (h : QualKept s t) (h' : QualKept t u) : QualKept s u := fun f hf => (h' f hf).trans (h f hf)

theorem QualKept.ite {s t u : State} {c : Prop} [Decidable c] (ht : QualKept s t) (hu : QualKept s u) :
    QualKept s (if c then t else u) := by split <;> assumption

/-- What writes none but listed low fields outside the block, keeps the block. -/
theorem LowKept.qual {s t : State} {l : List Fld} (h : LowKept s t l) (hl : ∀ g ∈ l, g.key < 0x05020000 * 32 ∨ 0x05030000 * 32 ≤ g.key) :
    QualKept s t := fun f ⟨hlo, hhi⟩ => by
  refine h f (by simp only [lowEnd]; omega) fun g hg => ?_
  have := hl g hg
  omega

/-! ### The reactions of the seam unit -/

theorem qualKept_reform (s : State) : QualKept s s.reform := s.reform_fieldsKept.low.qual (by decide)

theorem qualKept_prearm (s : State) : QualKept s s.prearm := s.prearm_spec.1.low.qual (by decide)

theorem qualKept_disarm (s : State) : QualKept s s.disarm := s.disarm_spec.1.2.low.qual (by decide)

theorem qualKept_enterHoldover (s : State) : QualKept s s.enterHoldover := by
  by_cases h : s.seamFenced = false ∧ (s.tsState = 1 ∨ s.tsState = 2)
  · exact (State.enterHoldover_spec h.1 h.2).2.2.2.2.qual (by decide)
  · rw [State.enterHoldover, if_pos]
    · exact QualKept.refl s
    · by_cases hf : s.seamFenced = true
      · exact Or.inl hf
      · exact Or.inr fun hts => h ⟨by simpa using hf, hts⟩

theorem qualKept_startSeam (s : State) (n : Nat) (eo : Int) : QualKept s (s.startSeam n eo) := by
  by_cases hf : s.seamFenced = true
  · rw [State.startSeam, if_pos hf]
    exact QualKept.refl s
  · obtain ⟨-, -, hkept, -⟩ := State.startSeam_spec n eo (Bool.eq_false_of_not_eq_true hf)
    exact hkept.low.qual (by decide)

theorem qualKept_fallBack (s : State) : QualKept s s.fallBack := by
  unfold State.fallBack
  split
  · exact QualKept.refl s
  · extract_lets m s1 s2
    have h2 : QualKept s s2 := by
      have h1 : FieldsKept s s1 [R.SEAM_STATUS_PREARMED, R.SEAM_STBY_FALLBACK] := (FieldsKept.refl s _).of_regs (by rfl)
      exact ((h1.clr (by simp)).setFld _ (by simp)).low.qual (by decide)
    have hlast : QualKept s (if s2.srcFeed = true then s2 else s2.enterHoldover) := h2.ite (h2.trans (qualKept_enterHoldover s2))
    split
    · exact (h2.trans (qualKept_startSeam s2 _ _)).ite hlast
    · exact hlast

theorem qualKept_candFailed (s : State) (n : Nat) : QualKept s (s.candFailed n) := by
  unfold State.candFailed
  extract_lets onto m s1
  have h1 : QualKept s s1 := by
    have h0 : FieldsKept s { s with seam := { s.seam with run := none } } [R.SEAM_STATUS_SEAMING, R.SEAM_EVENTS_SEAM_ABORT] :=
      (FieldsKept.refl s _).of_regs (by rfl)
    exact ((h0.clr (by simp)).raise (by simp)).low.qual (by decide)
  exact (h1.ite (h1.trans (qualKept_fallBack s1))).ite ((qualKept_fallBack s).ite (QualKept.refl s))

/-! ### A change of state -/

/-- The fields of the qualifier that a change of state of candidate n writes. -/
def candFields (n : Nat) : List Fld :=
  [R.QUAL_CAND_STATE_STATE n, R.QUAL_CAND_STATE_CAUSE n, R.QUAL_CAND_EVENTS_STATE_CHG n, R.QUAL_EVENTS_ANY_STATE,
    R.QUAL_CAND_STATE_DRIFT_ARMED n, R.QUAL_CAND_STATE_LABEL_OK n, R.QUAL_CAND_STATE_TIMER n]

/-- How the seam unit reacts to the new state. -/
def State.seamReacts (s : State) (n st : Nat) : State :=
  (if st = 0 ∨ st = 4 then s.candFailed n
    else if n = s.selected ∧ st = 3 then s.prearm
    else if n = s.selected ∧ st = 2 then s.disarm
    else s).reform

theorem qualKept_seamReacts (s : State) (n st : Nat) : QualKept s (s.seamReacts n st) :=
  ((qualKept_candFailed s n).ite ((qualKept_prearm s).ite ((qualKept_disarm s).ite (QualKept.refl s)))).trans (qualKept_reform _)

/-- The state, its cause and its events, written first. -/
def State.stateFields (s : State) (n st cause : Nat) : State :=
  let s := s.setFld (R.QUAL_CAND_STATE_STATE n) st
  let s := if cause < 8 then s.setFld (R.QUAL_CAND_STATE_CAUSE n) (2 ^ cause) else s
  (s.raise (R.QUAL_CAND_EVENTS_STATE_CHG n)).raise R.QUAL_EVENTS_ANY_STATE

theorem candState_keys (n : Nat) : (R.QUAL_CAND_STATE_STATE n).key ≠ (R.QUAL_CAND_STATE_CAUSE n).key ∧
    (R.QUAL_CAND_STATE_STATE n).key ≠ (R.QUAL_CAND_EVENTS_STATE_CHG n).key ∧
    (R.QUAL_CAND_STATE_STATE n).key ≠ R.QUAL_EVENTS_ANY_STATE.key ∧
    (R.QUAL_CAND_STATE_CAUSE n).key ≠ (R.QUAL_CAND_EVENTS_STATE_CHG n).key ∧
    (R.QUAL_CAND_STATE_CAUSE n).key ≠ R.QUAL_EVENTS_ANY_STATE.key ∧
    (R.QUAL_CAND_EVENTS_STATE_CHG n).key ≠ R.QUAL_EVENTS_ANY_STATE.key := by
  simp only [Fld.key, R.QUAL_CAND_STATE_STATE, R.QUAL_CAND_STATE_CAUSE, R.QUAL_CAND_EVENTS_STATE_CHG, R.QUAL_EVENTS_ANY_STATE]
  omega

theorem State.stateFields_spec (s : State) {n st cause : Nat} (hst : st < 8) :
    (s.stateFields n st cause).fld (R.QUAL_CAND_STATE_STATE n) = st ∧
      (s.stateFields n st cause).fld (R.QUAL_CAND_EVENTS_STATE_CHG n) = 1 ∧
      (s.stateFields n st cause).fld R.QUAL_EVENTS_ANY_STATE = 1 ∧
      (cause < 8 → (s.stateFields n st cause).fld (R.QUAL_CAND_STATE_CAUSE n) = 2 ^ cause) := by
  obtain ⟨hsc, hse, hsa, hce, hca, hea⟩ := candState_keys n
  unfold State.stateFields
  refine ⟨?_, ?_, ?_, fun hcause => ?_⟩
  · rw [State.fld_raise, if_neg hsa, State.fld_raise, if_neg hse, State.fld_ite, State.fld_setFld_ne _ _ hsc, ite_self,
      State.fld_setFld_same]
    exact Nat.mod_eq_of_lt hst
  · rw [State.fld_raise, if_neg hea, State.fld_raise_same]
    rfl
  · rw [State.fld_raise_same]
    rfl
  · rw [State.fld_raise, if_neg hca, State.fld_raise, if_neg hce, if_pos hcause, State.fld_setFld_same]
    exact Nat.mod_eq_of_lt (Nat.pow_lt_pow_right (by decide) hcause)

/-- What a new state brings the candidate besides. -/
def State.candEnters (s : State) (n st old : Nat) : State :=
  let c := s.cand n
  match st with
  | 0 => (((s.setCand n c.gone).clr (R.QUAL_CAND_STATE_DRIFT_ARMED n)).clr (R.QUAL_CAND_STATE_LABEL_OK n)).setFld
      (R.QUAL_CAND_STATE_TIMER n) 0
  | 1 => (s.setCand n (c.observe s.tb.elapsed (old == 0 || old == 4) s.uncertain)).setFld (R.QUAL_CAND_STATE_TIMER n) 0
  | 3 => s.setCand n { c with suspAt := s.tb.elapsed }
  | 4 => s.setCand n { c with disqAt := s.tb.elapsed }
  | _ => s

/-- The fields that it writes. -/
def enterFields (n : Nat) : List Fld :=
  [R.QUAL_CAND_STATE_DRIFT_ARMED n, R.QUAL_CAND_STATE_LABEL_OK n, R.QUAL_CAND_STATE_TIMER n]

theorem State.candEnters_fieldsKept (s : State) (n st old : Nat) : FieldsKept s (s.candEnters n st old) (enterFields n) := by
  have hset (c : Cand) : FieldsKept s (s.setCand n c) (enterFields n) := (FieldsKept.refl s _).of_regs (by rfl)
  unfold State.candEnters
  extract_lets c
  split
  · exact (((hset _).clr (by simp [enterFields])).clr (by simp [enterFields])).setFld _ (by simp [enterFields])
  · exact (hset _).setFld _ (by simp [enterFields])
  · exact hset _
  · exact hset _
  · exact FieldsKept.refl s _

theorem State.candEnters_absent (s : State) (n old : Nat) :
    (s.candEnters n 0 old).fld (R.QUAL_CAND_STATE_DRIFT_ARMED n) = 0 := by
  have hdl : (R.QUAL_CAND_STATE_DRIFT_ARMED n).key ≠ (R.QUAL_CAND_STATE_LABEL_OK n).key := by
    simp only [Fld.key, R.QUAL_CAND_STATE_DRIFT_ARMED, R.QUAL_CAND_STATE_LABEL_OK]
    omega
  have hdt : (R.QUAL_CAND_STATE_DRIFT_ARMED n).key ≠ (R.QUAL_CAND_STATE_TIMER n).key := by
    simp only [Fld.key, R.QUAL_CAND_STATE_DRIFT_ARMED, R.QUAL_CAND_STATE_TIMER]
    omega
  rw [State.candEnters, State.fld_setFld_ne _ _ hdt, State.fld_clr, if_neg hdl, State.fld_clr_same]

theorem State.candEnters_observing (s : State) (n old : Nat) : (s.candEnters n 1 old).fld (R.QUAL_CAND_STATE_TIMER n) = 0 := by
  rw [State.candEnters, State.fld_setFld_same, Nat.zero_mod]

theorem State.setCandState_eq {s : State} {n st : Nat} (cause : Nat) (h : s.fld (R.QUAL_CAND_STATE_STATE n) ≠ st) :
    s.setCandState n st cause =
      ((s.stateFields n st cause).candEnters n st (s.fld (R.QUAL_CAND_STATE_STATE n))).seamReacts n st := by
  rw [State.setCandState]
  simp only [if_neg h]
  rfl

theorem State.stateFields_fieldsKept (s : State) (n st cause : Nat) : FieldsKept s (s.stateFields n st cause) (candFields n) := by
  have h1 : FieldsKept s (s.setFld (R.QUAL_CAND_STATE_STATE n) st) (candFields n) :=
    (FieldsKept.refl s _).setFld _ (by simp [candFields])
  exact (((h1.setFld _ (by simp [candFields])).ite h1).raise (by simp [candFields])).raise (by simp [candFields])

theorem inQual_cand {n : Nat} (hn : n < 48) : ∀ g ∈ candFields n, g.InQual := by
  simp only [candFields, List.forall_mem_cons, Fld.InQual, Fld.key, R.QUAL_CAND_STATE_STATE, R.QUAL_CAND_STATE_CAUSE,
    R.QUAL_CAND_EVENTS_STATE_CHG, R.QUAL_EVENTS_ANY_STATE, R.QUAL_CAND_STATE_DRIFT_ARMED, R.QUAL_CAND_STATE_LABEL_OK,
    R.QUAL_CAND_STATE_TIMER]
  exact ⟨by omega, by omega, by omega, by omega, by omega, by omega, by omega, by simp⟩

/-- A change of state: the fields of the candidate that it writes, and no other of the qualifier's. -/
theorem State.setCandState_spec {s : State} {n st cause : Nat} (h : s.fld (R.QUAL_CAND_STATE_STATE n) ≠ st) (hn : n < 48) (hst : st < 8) :
    let t := s.setCandState n st cause
    t.fld (R.QUAL_CAND_STATE_STATE n) = st ∧ t.fld (R.QUAL_CAND_EVENTS_STATE_CHG n) = 1 ∧ t.fld R.QUAL_EVENTS_ANY_STATE = 1 ∧
      (cause < 8 → t.fld (R.QUAL_CAND_STATE_CAUSE n) = 2 ^ cause) ∧
      (∀ f : Fld, f.InQual → (∀ g ∈ candFields n, f.key ≠ g.key) → t.fld f = s.fld f) ∧
      (st = 0 → t.fld (R.QUAL_CAND_STATE_DRIFT_ARMED n) = 0) ∧ (st = 1 → t.fld (R.QUAL_CAND_STATE_TIMER n) = 0) := by
  intro t
  obtain ⟨hstate, hchg, hany, hcause⟩ := s.stateFields_spec (n := n) (cause := cause) hst
  have hwrites := s.stateFields_fieldsKept n st cause
  have henters := (s.stateFields n st cause).candEnters_fieldsKept n st (s.fld (R.QUAL_CAND_STATE_STATE n))
  have hreacts : QualKept ((s.stateFields n st cause).candEnters n st (s.fld (R.QUAL_CAND_STATE_STATE n))) t := by
    unfold t
    rw [State.setCandState_eq cause h]
    exact qualKept_seamReacts _ n st
  have hin := inQual_cand hn
  have hfirst {f : Fld} (hf : f ∈ [R.QUAL_CAND_STATE_STATE n, R.QUAL_CAND_STATE_CAUSE n, R.QUAL_CAND_EVENTS_STATE_CHG n,
      R.QUAL_EVENTS_ANY_STATE]) : t.fld f = (s.stateFields n st cause).fld f := by
    rw [hreacts f (hin f (List.mem_append_left (bs := enterFields n) hf)), henters f]
    revert f
    simp only [enterFields, List.forall_mem_cons, Fld.key, R.QUAL_CAND_STATE_STATE, R.QUAL_CAND_STATE_CAUSE,
      R.QUAL_CAND_EVENTS_STATE_CHG, R.QUAL_EVENTS_ANY_STATE, R.QUAL_CAND_STATE_DRIFT_ARMED, R.QUAL_CAND_STATE_LABEL_OK,
      R.QUAL_CAND_STATE_TIMER]
    exact ⟨⟨by omega, by omega, by omega, by simp⟩, ⟨by omega, by omega, by omega, by simp⟩, ⟨by omega, by omega, by omega, by simp⟩,
      ⟨by omega, by omega, by omega, by simp⟩, by simp⟩
  refine ⟨?_, ?_, ?_, fun hc => ?_, fun f hq hf => ?_, fun h0 => ?_, fun h1 => ?_⟩
  · rw [hfirst (by simp), hstate]
  · rw [hfirst (by simp), hchg]
  · rw [hfirst (by simp), hany]
  · rw [hfirst (by simp), hcause hc]
  · rw [hreacts f hq, henters f fun g hg => hf g (List.mem_append_right [_, _, _, _] hg), hwrites f hf]
  · subst h0
    rw [hreacts _ (hin _ (by simp [candFields])), State.candEnters_absent]
  · subst h1
    rw [hreacts _ (hin _ (by simp [candFields])), State.candEnters_observing]

/-! ### The obligation -/

/-- The states of the other candidates stay. -/
theorem State.setCandState_others {s : State} {n st cause : Nat} (h : s.fld (R.QUAL_CAND_STATE_STATE n) ≠ st) (hn : n < 48) (hst : st < 8)
    (m : Fin 48) (hm : (m : Nat) ≠ n) :
    (s.setCandState n st cause).fld (R.QUAL_CAND_STATE_STATE m) = s.fld (R.QUAL_CAND_STATE_STATE m) := by
  obtain ⟨-, -, -, -, hkept, -, -⟩ := State.setCandState_spec (cause := cause) h hn hst
  refine hkept _ (inQual_cand m.isLt _ (by simp [candFields])) ?_
  simp only [candFields, List.forall_mem_cons, Fld.key, R.QUAL_CAND_STATE_STATE, R.QUAL_CAND_STATE_CAUSE,
    R.QUAL_CAND_EVENTS_STATE_CHG, R.QUAL_EVENTS_ANY_STATE, R.QUAL_CAND_STATE_DRIFT_ARMED, R.QUAL_CAND_STATE_LABEL_OK,
    R.QUAL_CAND_STATE_TIMER]
  exact ⟨by omega, by omega, by omega, by omega, by omega, by omega, by omega, by simp⟩

/-- A candidate whose state became `st`, as the obligation says it. -/
def CandChanged (s t : State) (n : Fin 48) (st : Nat) : Prop :=
  t.fld (R.QUAL_CAND_STATE_STATE n) = st ∧ t.fld (R.QUAL_CAND_EVENTS_STATE_CHG n) = 1 ∧ t.fld R.QUAL_EVENTS_ANY_STATE = 1 ∧
    (∀ m : Fin 48, m ≠ n → t.fld (R.QUAL_CAND_STATE_STATE m) = s.fld (R.QUAL_CAND_STATE_STATE m)) ∧ MemKept s t

theorem candChanged_setCandState {s : State} {n : Fin 48} {st : Nat} (cause : Nat) (h : s.fld (R.QUAL_CAND_STATE_STATE n) ≠ st)
    (hst : st < 8) : CandChanged s (s.setCandState n st cause) n st := by
  obtain ⟨hstate, hchg, hany, -, -, -, -⟩ := State.setCandState_spec (cause := cause) h n.isLt hst
  exact ⟨hstate, hchg, hany, fun m hm => State.setCandState_others h n.isLt hst m (fun he => hm (Fin.ext he)),
    memKept_of_memory (s.setCandState_memory n st cause)⟩

/-- A change after writes that leave the states alone and memory as it was. -/
theorem CandChanged.after {s u t : State} {n : Fin 48} {st : Nat} (h : CandChanged u t n st)
    (hstate : ∀ m : Fin 48, u.fld (R.QUAL_CAND_STATE_STATE m) = s.fld (R.QUAL_CAND_STATE_STATE m)) (hmem : MemKept s u) :
    CandChanged s t n st := by
  obtain ⟨hst, hchg, hany, hothers, hm⟩ := h
  exact ⟨hst, hchg, hany, fun m hne => (hothers m hne).trans (hstate m), fun a => (hm a).trans (hmem a)⟩

theorem does_lossOfSignal {s : State} {n : Fin 48} (hp : s.powered = true) (hf : s.qualFenced = false) (hen : s.candEn n = true)
    (hst : s.fld (R.QUAL_CAND_STATE_STATE n) ≠ 0) (hlost : (n : Nat) < 16 → s.edgesLost n = true) :
    Does (.lossOfSignal n) s fun t => CandChanged s t n 0 ∧ t.fld (R.QUAL_CAND_STATE_CAUSE n) = 1 ∧
      t.fld (R.QUAL_CAND_EVENTS_LOS n) = 1 ∧ t.fld (R.QUAL_CAND_STATE_DRIFT_ARMED n) = 0 := by
  have he : exec (.lossOfSignal n) s =
      s.live (if s.qualFenced ∨ (n.val < 16 ∧ ¬ s.edgesLost n) then s else s.lossOfSignal n) := rfl
  refine does_live he hp ?_
  rw [if_neg (by simpa [hf] using hlost), State.lossOfSignal, if_neg (by simp [hen, hst])]
  have hlos : FieldsKept s (s.raise (R.QUAL_CAND_EVENTS_LOS n)) [R.QUAL_CAND_EVENTS_LOS n] := (FieldsKept.refl s _).raise (by simp)
  have hstate (m : Fin 48) :
      (s.raise (R.QUAL_CAND_EVENTS_LOS n)).fld (R.QUAL_CAND_STATE_STATE m) = s.fld (R.QUAL_CAND_STATE_STATE m) := by
    refine hlos _ ?_
    simp only [List.forall_mem_cons, Fld.key, R.QUAL_CAND_STATE_STATE, R.QUAL_CAND_EVENTS_LOS]
    exact ⟨by omega, by simp⟩
  have hst' : (s.raise (R.QUAL_CAND_EVENTS_LOS n)).fld (R.QUAL_CAND_STATE_STATE n) ≠ 0 := by rwa [hstate n]
  obtain ⟨-, -, -, hcause, hkept, hdrift, -⟩ := State.setCandState_spec (cause := 0) hst' n.isLt (by decide)
  refine ⟨(candChanged_setCandState 0 hst' (by decide)).after hstate (fun _ => rfl), hcause (by decide), ?_, hdrift rfl⟩
  rw [hkept]
  · exact State.fld_raise_same _ _
  · simp only [Fld.InQual, Fld.key, R.QUAL_CAND_EVENTS_LOS]
    omega
  · simp only [candFields, List.forall_mem_cons, Fld.key, R.QUAL_CAND_STATE_STATE, R.QUAL_CAND_STATE_CAUSE,
      R.QUAL_CAND_EVENTS_STATE_CHG, R.QUAL_EVENTS_ANY_STATE, R.QUAL_CAND_STATE_DRIFT_ARMED, R.QUAL_CAND_STATE_LABEL_OK,
      R.QUAL_CAND_STATE_TIMER, R.QUAL_CAND_EVENTS_LOS]
    exact ⟨by omega, by omega, by omega, by omega, by omega, by omega, by omega, by simp⟩

theorem ignores_lossOfSignal {s : State} {n : Fin 16} (h : s.edgesLost n = false) : Ignores (.lossOfSignal (n.castLE (by decide))) s := by
  refine ignores_live (t := if s.qualFenced ∨ ((n : Nat) < 16 ∧ ¬ s.edgesLost n) then s else s.lossOfSignal n) rfl (if_pos ?_)
  exact Or.inr ⟨n.isLt, by simp [h]⟩

theorem does_activityRestored {s : State} {n : Fin 48} (hp : s.powered = true) (hf : s.qualFenced = false) (hen : s.candEn n = true)
    (hst : s.fld (R.QUAL_CAND_STATE_STATE n) = 0) (hact : s.active n = true) :
    Does (.activityRestored n) s fun t => CandChanged s t n 1 ∧ t.fld (R.QUAL_CAND_STATE_TIMER n) = 0 := by
  have he : exec (.activityRestored n) s = s.live (s.activityRestored n) := rfl
  refine does_live he hp ?_
  rw [State.activityRestored, if_neg (by simp [hf, hen, hact]), if_pos hst]
  have hne : s.fld (R.QUAL_CAND_STATE_STATE n) ≠ 1 := by omega
  obtain ⟨-, -, -, -, -, -, htimer⟩ := State.setCandState_spec (cause := 8) hne n.isLt (by decide)
  exact ⟨candChanged_setCandState 8 hne (by decide), htimer rfl⟩

theorem does_candQualify {s : State} {n : Fin 48} (hp : s.powered = true) (hf : s.qualFenced = false) (hsoak : s.soak = false)
    (hst : s.fld (R.QUAL_CAND_STATE_STATE n) = 1) (hobs : s.obsDone n = true) (hmon : (s.cand n).monitorFails = false) :
    Does (.candQualify n) s fun t => CandChanged s t n 2 := by
  have he : exec (.candQualify n) s = s.live (s.candQualify n) := rfl
  refine does_live he hp ?_
  rw [State.candQualify, if_pos (by simp [hf, hsoak, hst, hobs, hmon])]
  exact candChanged_setCandState 8 (by omega) (by decide)

theorem ignores_candQualify {s : State} {n : Fin 48}
    (h : s.qualFenced = true ∨ s.soak = true ∨ s.fld (R.QUAL_CAND_STATE_STATE n) ≠ 1 ∨ s.obsDone n = false
      ∨ (s.cand n).monitorFails = true) : Ignores (.candQualify n) s := by
  refine ignores_live (t := s.candQualify n) rfl (if_neg fun ⟨hst, hf, hsoak, hobs, hmon⟩ => ?_)
  obtain h | h | h | h | h := h
  · exact hf h
  · exact hsoak h
  · exact h hst
  · simp [h] at hobs
  · exact hmon h

theorem does_driftHoldExpire {s : State} {n : Fin 48} (hp : s.powered = true) (hf : s.qualFenced = false)
    (hst : s.fld (R.QUAL_CAND_STATE_STATE n) = 3)
    (hdue : (s.cand n).suspAt + s.fld R.QUAL_DRIFT_WIN_HOLD * fuPerSec ≤ s.tb.elapsed) :
    Does (.driftHoldExpire n) s fun t => CandChanged s t n 4 ∧ t.fld (R.QUAL_CAND_STATE_CAUSE n) = 64 := by
  have he : exec (.driftHoldExpire n) s = s.live (s.driftHoldExpire n) := rfl
  refine does_live he hp ?_
  rw [State.driftHoldExpire, if_pos ⟨hst, by simp [hf], hdue⟩]
  have hne : s.fld (R.QUAL_CAND_STATE_STATE n) ≠ 4 := by omega
  obtain ⟨-, -, -, hcause, -, -, -⟩ := State.setCandState_spec (cause := 6) hne n.isLt (by decide)
  exact ⟨candChanged_setCandState 6 hne (by decide), hcause (by decide)⟩

theorem does_disqMinExpire {s : State} {n : Fin 48} (hp : s.powered = true) (hf : s.qualFenced = false)
    (hst : s.fld (R.QUAL_CAND_STATE_STATE n) = 4) (hcl : s.disqCleared n = true)
    (hdue : (s.cand n).disqAt + s.fld R.QUAL_DISQ_MIN_MIN * fuPerSec ≤ s.tb.elapsed) :
    Does (.disqMinExpire n) s fun t => CandChanged s t n 1 := by
  have he : exec (.disqMinExpire n) s = s.live (s.disqMinExpire n) := rfl
  refine does_live he hp ?_
  rw [State.disqMinExpire, if_pos ⟨hst, by simp [hf], hcl, hdue⟩]
  exact candChanged_setCandState 8 (by omega) (by decide)

theorem does_reobserve {s : State} {n : Fin 48} (hp : s.powered = true) (hsel : s.selected ≠ n)
    (hst : s.fld (R.QUAL_CAND_STATE_STATE n) = 2 ∨ s.fld (R.QUAL_CAND_STATE_STATE n) = 3
      ∨ s.fld (R.QUAL_CAND_STATE_STATE n) = 4) :
    Does (.reobserve n) s fun t => CandChanged s t n 1 ∧ t.fld (R.QUAL_CAND_STATE_CAUSE n) = 128 := by
  have he : exec (.reobserve n) s = s.live (s.reobserve n) := rfl
  refine does_live he hp ?_
  rw [State.reobserve, if_neg hsel.symm]
  simp only [hst, if_true]
  have hne : s.fld (R.QUAL_CAND_STATE_STATE n) ≠ 1 := by omega
  obtain ⟨-, -, -, hcause, -, -, -⟩ := State.setCandState_spec (cause := 7) hne n.isLt (by decide)
  exact ⟨candChanged_setCandState 7 hne (by decide), hcause (by decide)⟩

theorem does_reobserve_selected {s : State} {n : Fin 48} (hp : s.powered = true) (hsel : s.selected = n) :
    Does (.reobserve n) s fun t => t.fld (R.QUAL_CAND_EVENTS_CMD_REJ n) = 1 ∧ OnlyFields s t [R.QUAL_CAND_EVENTS_CMD_REJ n] := by
  have he : exec (.reobserve n) s = s.live (s.reobserve n) := rfl
  refine does_live he hp ?_
  rw [State.reobserve, if_pos hsel.symm]
  exact ⟨State.fld_raise_same _ _, (OnlyFields.refl s _).raise (by simp)⟩

theorem State.restartDec_regs (s : State) (c : Nat) : (s.restartDec c).regs = s.regs := rfl

theorem does_qualCandEnWrite_true {s : State} {n : Fin 48} (hp : s.powered = true) :
    Does (.qualCandEnWrite n true) s fun t => t.fld (R.QUAL_CAND_CFG_EN n) = 1 ∧
      ((n : Nat) < 16 → s.candEn n = false → (t.tdcCh (64 + n)).dec = 0) ∧
      t = { s with regs := t.regs, tdc := { s.tdc with ch := t.tdc.ch } } ∧ FieldsKept s t [R.QUAL_CAND_CFG_EN n] := by
  have he : exec (.qualCandEnWrite n true) s = s.live (s.writeCandEn n true) := rfl
  refine does_live he hp ?_
  simp only [State.writeCandEn, if_true]
  refine ⟨State.fld_raise_same _ _, fun hn hoff => ?_, ?_, ?_⟩
  · rw [if_pos ⟨hn, by simp [hoff]⟩]
    simp [State.tdcCh, State.restartDec, State.setTdcCh, State.raise_eq]
  · split <;> rfl
  · refine FieldsKept.raise ?_ (by simp)
    exact FieldsKept.ite ((FieldsKept.refl s _).of_regs (s.restartDec_regs _)) (FieldsKept.refl s _)

theorem does_qualCandEnWrite_false {s : State} {n : Fin 48} (hp : s.powered = true) (hst : s.fld (R.QUAL_CAND_STATE_STATE n) ≠ 0) :
    Does (.qualCandEnWrite n false) s fun t => CandChanged s t n 0 ∧ t.fld (R.QUAL_CAND_CFG_EN n) = 0 ∧
      t.fld (R.QUAL_CAND_STATE_CAUSE n) = 128 := by
  have he : exec (.qualCandEnWrite n false) s = s.live (s.writeCandEn n false) := rfl
  refine does_live he hp ?_
  have hregs : (if (n : Nat) < 16 ∧ false ≠ s.candEn n then s.restartDec (64 + n) else s).regs = s.regs := by split <;> rfl
  have hmem : MemKept s (if (n : Nat) < 16 ∧ false ≠ s.candEn n then s.restartDec (64 + n) else s) := by split <;> exact fun _ => rfl
  simp only [State.writeCandEn, Bool.false_eq_true, if_false]
  generalize (if (n : Nat) < 16 ∧ false ≠ s.candEn n then s.restartDec (64 + n) else s) = u at hregs hmem
  have hstate (m : Fin 48) : (u.clr (R.QUAL_CAND_CFG_EN n)).fld (R.QUAL_CAND_STATE_STATE m) = s.fld (R.QUAL_CAND_STATE_STATE m) := by
    rw [State.fld_clr, if_neg, State.fld_congr hregs]
    simp only [Fld.key, R.QUAL_CAND_STATE_STATE, R.QUAL_CAND_CFG_EN]
    omega
  have hst' : (u.clr (R.QUAL_CAND_CFG_EN n)).fld (R.QUAL_CAND_STATE_STATE n) ≠ 0 := by rwa [hstate n]
  rw [if_neg hst']
  obtain ⟨-, -, -, hcause, hkept, -, -⟩ := State.setCandState_spec (cause := 7) hst' n.isLt (by decide)
  refine ⟨(candChanged_setCandState 7 hst' (by decide)).after hstate hmem, ?_, hcause (by decide)⟩
  rw [hkept, State.fld_clr_same]
  · simp only [Fld.InQual, Fld.key, R.QUAL_CAND_CFG_EN]
    omega
  · simp only [candFields, List.forall_mem_cons, Fld.key, R.QUAL_CAND_STATE_STATE, R.QUAL_CAND_STATE_CAUSE,
      R.QUAL_CAND_EVENTS_STATE_CHG, R.QUAL_EVENTS_ANY_STATE, R.QUAL_CAND_STATE_DRIFT_ARMED, R.QUAL_CAND_STATE_LABEL_OK,
      R.QUAL_CAND_STATE_TIMER, R.QUAL_CAND_CFG_EN]
    exact ⟨by omega, by omega, by omega, by omega, by omega, by omega, by omega, by simp⟩

theorem does_qualSteppedClear {s : State} {n : Fin 48} (hp : s.powered = true) :
    Does (.qualSteppedClear n) s fun t => t.fld (R.QUAL_CAND_STATE_STEPPED n) = 0 ∧
      t.fld (R.QUAL_CAND_EVENTS_STEPPED_SET n) = 0 ∧
      (∀ m : Fin 48, m ≠ n → t.fld (R.QUAL_CAND_STATE_STATE m) = s.fld (R.QUAL_CAND_STATE_STATE m)) ∧ MemKept s t := by
  have he : exec (.qualSteppedClear n) s = s.live (s.clearStepped n).reform := rfl
  refine does_live he hp ?_
  have hmem : MemKept s (s.clearStepped n).reform := memKept_of_memory (by simp)
  have hreform := qualKept_reform (s.clearStepped n)
  have hregs : (s.clearStepped n).regs = ((s.clr (R.QUAL_CAND_STATE_STEPPED n)).clr (R.QUAL_CAND_EVENTS_STEPPED_SET n)).regs := rfl
  have hkey : (R.QUAL_CAND_STATE_STEPPED n).key ≠ (R.QUAL_CAND_EVENTS_STEPPED_SET n).key := by
    simp only [Fld.key, R.QUAL_CAND_STATE_STEPPED, R.QUAL_CAND_EVENTS_STEPPED_SET]
    omega
  refine ⟨?_, ?_, fun m _ => ?_, hmem⟩
  · rw [hreform, State.fld_congr hregs, State.fld_clr, if_neg hkey, State.fld_clr_same]
    simp only [Fld.InQual, Fld.key, R.QUAL_CAND_STATE_STEPPED]
    omega
  · rw [hreform, State.fld_congr hregs, State.fld_clr_same]
    simp only [Fld.InQual, Fld.key, R.QUAL_CAND_EVENTS_STEPPED_SET]
    omega
  · rw [hreform _ (inQual_cand m.isLt _ (by simp [candFields])), State.fld_congr hregs, State.fld_clr, if_neg, State.fld_clr, if_neg]
    all_goals
      simp only [Fld.key, R.QUAL_CAND_STATE_STATE, R.QUAL_CAND_STATE_STEPPED, R.QUAL_CAND_EVENTS_STEPPED_SET]
      omega

/-! ### A change of the drift window -/

/-- Disarming the drift watches of some candidates disarms those and keeps the window. -/
theorem disarmDrifts_spec (l : List Nat) (s : State) :
    let t := l.foldl (fun s n => (s.setCand n { s.cand n with drift := [], driftBad := false }).clr (R.QUAL_CAND_STATE_DRIFT_ARMED n)) s
    t.fld R.QUAL_DRIFT_WIN_WIN = s.fld R.QUAL_DRIFT_WIN_WIN ∧ t.fld R.QUAL_DRIFT_WIN_HOLD = s.fld R.QUAL_DRIFT_WIN_HOLD ∧
      ∀ n, (n ∈ l ∨ (s.fld (R.QUAL_CAND_STATE_DRIFT_ARMED n) = 0 ∧ (s.cand n).drift = [] ∧ (s.cand n).driftBad = false)) →
        t.fld (R.QUAL_CAND_STATE_DRIFT_ARMED n) = 0 ∧ (t.cand n).drift = [] ∧ (t.cand n).driftBad = false := by
  induction l generalizing s with
  | nil => exact ⟨rfl, rfl, fun n h => h.resolve_left (by simp)⟩
  | cons k l ih =>
    obtain ⟨hwin, hhold, hall⟩ := ih
      ((s.setCand k { s.cand k with drift := [], driftBad := false }).clr (R.QUAL_CAND_STATE_DRIFT_ARMED k))
    refine ⟨hwin.trans ?_, hhold.trans ?_, fun n hn => hall n ?_⟩
    · rw [State.fld_clr, if_neg]
      · rfl
      · simp only [Fld.key, R.QUAL_CAND_STATE_DRIFT_ARMED, R.QUAL_DRIFT_WIN_WIN]
        omega
    · rw [State.fld_clr, if_neg]
      · rfl
      · simp only [Fld.key, R.QUAL_CAND_STATE_DRIFT_ARMED, R.QUAL_DRIFT_WIN_HOLD]
        omega
    · by_cases hl : n ∈ l
      · exact Or.inl hl
      · refine Or.inr ?_
        by_cases hk : n = k
        · subst hk
          exact ⟨State.fld_clr_same _ _, by simp [State.clr_eq], by simp [State.clr_eq]⟩
        · obtain ⟨harm, hdrift, hbad⟩ := hn.resolve_left (by simp [hk, hl])
          rw [State.fld_clr, if_neg (by simp only [Fld.key, R.QUAL_CAND_STATE_DRIFT_ARMED]; omega), State.clr_eq, State.cand_setFld,
            State.cand_setCand_ne _ _ hk]
          exact ⟨harm, hdrift, hbad⟩

theorem does_qualDriftWinWrite {s : State} {v : BitVec 32} (hp : s.powered = true)
    (hne : s.fld R.QUAL_DRIFT_WIN_WIN ≠ v.toNat % 2 ^ 16) :
    Does (.qualDriftWinWrite v) s fun t => t.fld R.QUAL_DRIFT_WIN_WIN = v.toNat % 2 ^ 16 ∧
      t.fld R.QUAL_DRIFT_WIN_HOLD = v.toNat / 2 ^ 16 ∧
      (∀ n : Fin 48, t.fld (R.QUAL_CAND_STATE_DRIFT_ARMED n) = 0 ∧ (t.cand n).drift = [] ∧ (t.cand n).driftBad = false) ∧
      MemKept s t := by
  have he : exec (.qualDriftWinWrite v) s = s.live (s.writeDriftWin v.toNat) := rfl
  refine does_live he hp ?_
  have hmem := memKept_of_memory (s.writeDriftWin_memory v.toNat)
  have hv := v.isLt
  have hwin : ((s.setFld R.QUAL_DRIFT_WIN_WIN v.toNat).setFld R.QUAL_DRIFT_WIN_HOLD (v.toNat / 2 ^ 16)).fld R.QUAL_DRIFT_WIN_WIN
      = v.toNat % 2 ^ 16 := by
    rw [State.fld_setFld_ne _ _ (by decide), State.fld_setFld_same]
    rfl
  have hhold : ((s.setFld R.QUAL_DRIFT_WIN_WIN v.toNat).setFld R.QUAL_DRIFT_WIN_HOLD (v.toNat / 2 ^ 16)).fld R.QUAL_DRIFT_WIN_HOLD
      = v.toNat / 2 ^ 16 := by
    rw [State.fld_setFld_same]
    exact Nat.mod_eq_of_lt (by simp only [R.QUAL_DRIFT_WIN_HOLD]; omega)
  simp only [State.writeDriftWin, hwin, if_neg hne] at hmem ⊢
  obtain ⟨hwin', hhold', hall⟩ := disarmDrifts_spec (List.range 48)
    ((s.setFld R.QUAL_DRIFT_WIN_WIN v.toNat).setFld R.QUAL_DRIFT_WIN_HOLD (v.toNat / 2 ^ 16))
  exact ⟨hwin'.trans hwin, hhold'.trans hhold, fun n => hall n (Or.inl (List.mem_range.mpr n.isLt)), hmem⟩

/-- Settles O6: a change of state is the writes of the candidate's own fields and a reaction of the seam unit that writes none of the
qualifier's. -/
theorem candidateStates : Obligations.CandidateStates := by
  refine ⟨fun _ _ hp hf hen hst hlost => does_lossOfSignal hp hf hen hst hlost,
    fun _ _ hp hf hen hst hact => does_activityRestored hp hf hen hst hact,
    fun s n _ hact => ignores_live (t := s.activityRestored n) rfl (if_pos (by simp [hact])),
    fun _ _ _ h => ignores_lossOfSignal h, fun _ _ hp hf hsoak hst hobs hmon => does_candQualify hp hf hsoak hst hobs hmon,
    fun _ _ _ h => ignores_candQualify h, fun _ _ hp hf hst hdue => does_driftHoldExpire hp hf hst hdue,
    fun _ _ hp hf hst hcl hdue => does_disqMinExpire hp hf hst hcl hdue, fun _ _ hp hsel hst => does_reobserve hp hsel hst,
    fun _ _ hp hsel => does_reobserve_selected hp hsel, fun _ _ hp => does_qualCandEnWrite_true hp,
    fun _ _ hp hst => does_qualCandEnWrite_false hp hst, fun _ _ hp => does_qualSteppedClear hp,
    fun _ _ hp hne => does_qualDriftWinWrite hp hne⟩

end Sys2Proof.Machine


/-! O5: the samples, frames and drift watch of a candidate (03 R78 to R87, R91, R97, R511). -/
namespace Sys2Proof.Machine

/-! ### What a candidate keeps of its samples -/

/-- The samples, the stamp that waits and the label that the program wrote. -/
def Cand.data (c : Cand) : List Sample × Option Int × Option Nat := (c.samples, c.stamp, c.prog)

/-- A change of the listed candidates that keeps their data keeps that of one with samples, though entries at their reset value go. -/
theorem Tab.find_filter_map {l : Tab Cand} {g : Nat × Cand → Cand} (hg : ∀ e, (g e).data = e.2.data) {n : Nat} {c : Cand}
    (hc : Tab.find l n = some c) (hs : c.samples ≠ []) :
    ∃ c', Tab.find ((l.map fun e => (e.1, g e)).filter fun e => e.2 != Cand.init) n = some c' ∧ c'.data = c.data := by
  induction l with
  | nil => simp [Tab.find] at hc
  | cons e l ih =>
    obtain ⟨k, d⟩ := e
    by_cases hk : k = n
    · subst hk
      obtain rfl : d = c := by simpa [Tab.find] using hc
      have hsamples : (g (k, d)).samples = d.samples := congrArg Prod.fst (hg (k, d))
      have hne : g (k, d) ≠ Cand.init := fun h => hs (by rw [← hsamples, h]; rfl)
      exact ⟨g (k, d), by simp [Tab.find, hne], hg (k, d)⟩
    · have hc' : Tab.find l n = some c := by simpa [Tab.find, hk] using hc
      obtain ⟨c', hfind, hdata⟩ := ih hc'
      refine ⟨c', ?_, hdata⟩
      rw [List.map_cons, List.filter_cons]
      split
      · simpa [Tab.find, hk] using hfind
      · exact hfind

/-- The loss of a shadow keeps the data of a candidate with samples. -/
theorem State.dropShadows_data {s : State} {n : Nat} (h : (s.cand n).samples ≠ []) : (s.dropShadows.cand n).data = (s.cand n).data := by
  cases hc : Tab.find s.cands n with
  | none =>
    refine absurd ?_ h
    rw [State.cand, Tab.get, hc]
    rfl
  | some c =>
    have hcand : s.cand n = c := by rw [State.cand, Tab.get, hc]
    obtain ⟨c', hfind, hdata⟩ := Tab.find_filter_map
      (g := fun e => if s.shadowed e.1 then e.2 else { e.2 with fed := 0 }) (fun e => by dsimp only; split <;> rfl) hc (hcand ▸ h)
    rw [hcand, ← hdata, State.cand, Tab.get, State.dropShadows]
    simp only
    rw [hfind]

/-- What a candidate shows of its samples: the offset of its pulse, and whether its drift watch is armed. -/
def shownFields (n : Nat) : List Fld := [R.QUAL_CAND_TOFF_LO n, R.QUAL_CAND_TOFF_HI n, R.QUAL_CAND_STATE_DRIFT_ARMED n]

theorem shownFields_inQual {n : Nat} (hn : n < 48) : ∀ g ∈ shownFields n, g.InQual := by
  simp only [shownFields, List.forall_mem_cons, Fld.InQual, Fld.key, R.QUAL_CAND_TOFF_LO, R.QUAL_CAND_TOFF_HI,
    R.QUAL_CAND_STATE_DRIFT_ARMED]
  exact ⟨by omega, by omega, by omega, by simp⟩

/-- A field that stands at another place of a candidate's 64 bytes (2,048 keys) than the shown ones. -/
def Fld.Unshown (f : Fld) : Prop := f.key % 2048 ≠ 1280 ∧ f.key % 2048 ≠ 1408 ∧ f.key % 2048 ≠ 388

theorem Fld.Unshown.ne {f : Fld} (h : f.Unshown) (n : Nat) : ∀ g ∈ shownFields n, g.key ≠ f.key := by
  obtain ⟨hlo, hhi, harmed⟩ := h
  simp only [shownFields, List.forall_mem_cons, Fld.key, R.QUAL_CAND_TOFF_LO, R.QUAL_CAND_TOFF_HI,
    R.QUAL_CAND_STATE_DRIFT_ARMED] at *
  exact ⟨by omega, by omega, by omega, by simp⟩

/-- The fields that the windows, the monitors and the states write. -/
theorem unshown_cand (n : Nat) : (R.QUAL_CAND_STATE_STATE n).Unshown ∧ (R.QUAL_CAND_STATE_CAUSE n).Unshown ∧
    (R.QUAL_CAND_EVENTS_STATE_CHG n).Unshown ∧ (R.QUAL_CAND_STATE_TIMER n).Unshown ∧ (R.QUAL_CAND_STATE_STEPPED n).Unshown ∧
    (R.QUAL_CAND_EVENTS_STEPPED_SET n).Unshown ∧ (R.QUAL_CAND_FREQ_LO n).Unshown ∧ (R.QUAL_CAND_FREQ_HI n).Unshown ∧
    (R.QUAL_CAND_JIT_JIT n).Unshown ∧ (R.QUAL_CAND_DRIFT_LO n).Unshown ∧ (R.QUAL_CAND_DRIFT_HI n).Unshown := by
  simp only [Fld.Unshown, Fld.key, R.QUAL_CAND_STATE_STATE, R.QUAL_CAND_STATE_CAUSE, R.QUAL_CAND_EVENTS_STATE_CHG,
    R.QUAL_CAND_STATE_TIMER, R.QUAL_CAND_STATE_STEPPED, R.QUAL_CAND_EVENTS_STEPPED_SET, R.QUAL_CAND_FREQ_LO,
    R.QUAL_CAND_FREQ_HI, R.QUAL_CAND_JIT_JIT, R.QUAL_CAND_DRIFT_LO, R.QUAL_CAND_DRIFT_HI]
  omega

/-- Candidate n keeps its data, where it has samples, and what it shows of them. -/
def SampleKept (n : Nat) (s t : State) : Prop :=
  ((s.cand n).samples ≠ [] → (t.cand n).data = (s.cand n).data) ∧ ∀ g ∈ shownFields n, t.fld g = s.fld g

theorem SampleKept.refl (n : Nat) (s : State) : SampleKept n s s := ⟨fun _ => rfl, fun _ _ => rfl⟩

theorem SampleKept.trans {n : Nat} {s t u : State} (h : SampleKept n s t) (h' : SampleKept n t u) : SampleKept n s u := by
  refine ⟨fun hs => ?_, fun g hg => (h'.2 g hg).trans (h.2 g hg)⟩
  have hd := h.1 hs
  have hs' : (t.cand n).samples ≠ [] := by
    have hsamples : (t.cand n).samples = (s.cand n).samples := congrArg Prod.fst hd
    rwa [hsamples]
  exact (h'.1 hs').trans hd

theorem SampleKept.ite {n : Nat} {s t u : State} {c : Prop} [Decidable c] (ht : SampleKept n s t) (hu : SampleKept n s u) :
    SampleKept n s (if c then t else u) := by split <;> assumption

/-- What leaves the candidates and the qualifier's registers alone. -/
theorem SampleKept.of_qual {s t : State} {n : Nat} (hn : n < 48) (hc : t.cands = s.cands) (h : QualKept s t) : SampleKept n s t :=
  ⟨fun _ => by rw [State.cand, hc, State.cand], fun g hg => h g (shownFields_inQual hn g hg)⟩

/-- A field that the candidate does not show. -/
theorem SampleKept.setFld {s t : State} {n : Nat} (h : SampleKept n s t) {f : Fld} (v : Nat) (hf : f.Unshown) :
    SampleKept n s (t.setFld f v) :=
  h.trans ⟨fun _ => by rw [State.cand_setFld], fun g hg => State.fld_setFld_ne _ _ (hf.ne n g hg)⟩

theorem SampleKept.setInt64 {s t : State} {n : Nat} (h : SampleKept n s t) {lo hi : Fld} (v : Int) (hlo : lo.Unshown) (hhi : hi.Unshown) :
    SampleKept n s (t.setInt64 lo hi v) :=
  (h.setFld _ hlo).setFld _ hhi

/-- A new table entry with the same data. -/
theorem SampleKept.setCand {s t : State} {n : Nat} (h : SampleKept n s t) {m : Nat} {c : Cand} (hc : c.data = (t.cand m).data) :
    SampleKept n s (t.setCand m c) := by
  refine h.trans ⟨fun _ => ?_, fun _ _ => rfl⟩
  by_cases hm : n = m
  · rw [hm, State.cand_setCand_same, hc]
  · rw [State.cand_setCand_ne _ _ hm]

/-! ### The seam unit's reactions -/

theorem State.enterHoldover_cands (s : State) (h : ¬ (s.seamFenced = false ∧ (s.tsState = 1 ∨ s.tsState = 2))) : s.enterHoldover = s := by
  rw [State.enterHoldover, if_pos]
  by_cases hf : s.seamFenced = true
  · exact Or.inl hf
  · exact Or.inr fun hts => h ⟨by simpa using hf, hts⟩

theorem sampleKept_dropShadows (n : Nat) (s : State) : SampleKept n s s.dropShadows := ⟨State.dropShadows_data, fun _ _ => rfl⟩

section
variable {n : Nat} (hn : n < 48)
include hn

theorem sampleKept_setStandby (s : State) (l : List Nat) : SampleKept n s (s.setStandby l) :=
  .of_qual hn (onlyFields_setStandby s l).cands ((onlyFields_setStandby s l).2.low.qual (by decide))

theorem sampleKept_trReport (s : State) : SampleKept n s s.trReport :=
  .of_qual hn (onlyFields_trReport s).cands ((onlyFields_trReport s).2.low.qual (by decide))

theorem sampleKept_revertCheck (s : State) : SampleKept n s s.revertCheck :=
  .of_qual hn (by rw [s.revertCheck_eq]) (fun f _ => State.fld_congr (by rw [s.revertCheck_eq]) f)

theorem sampleKept_reform (s : State) : SampleKept n s s.reform :=
  (((sampleKept_setStandby hn s _).trans (sampleKept_dropShadows n _)).trans (sampleKept_revertCheck hn _)).trans
    (sampleKept_trReport hn _)

theorem sampleKept_prearm (s : State) : SampleKept n s s.prearm :=
  .of_qual hn (by unfold State.prearm; split <;> rfl) (qualKept_prearm s)

theorem sampleKept_disarm (s : State) : SampleKept n s s.disarm := .of_qual hn s.disarm_spec.1.cands (qualKept_disarm s)

theorem sampleKept_startSeam (s : State) (m : Nat) (eo : Int) : SampleKept n s (s.startSeam m eo) :=
  .of_qual hn (by unfold State.startSeam; split <;> rfl) (qualKept_startSeam s m eo)

theorem sampleKept_record (s : State) (src cls cause : Nat) : SampleKept n s (s.record src cls cause) :=
  .of_qual hn (quiet_record s _ _ _).cands ((lowKept_record s _ _ _).qual (by simp))

theorem sampleKept_enterHoldover (s : State) : SampleKept n s s.enterHoldover := by
  by_cases h : s.seamFenced = false ∧ (s.tsState = 1 ∨ s.tsState = 2)
  · rw [State.enterHoldover_eq h.1 h.2]
    have hhead : s.holdoverHead.cands = s.cands := by
      have hleave : s.leaveLocked.cands = s.cands := by unfold State.leaveLocked; split <;> rfl
      unfold State.holdoverHead
      extract_lets s1 m s2 s3
      exact (apply_ite State.cands _ _ _).trans ((ite_self _).trans hleave)
    refine SampleKept.trans (.of_qual hn hhead (s.holdoverHead_spec.2.2.2.2.low.qual (by decide))) ?_
    generalize s.holdoverHead = u
    unfold State.holdoverTail
    extract_lets s1 s2 s3
    have h1 : OnlyFields u s1 [R.SEAM_STATUS_SEAMING, R.SEAM_STATUS_PRESS_BUSY] :=
      ((OnlyFields.refl u _).clr (by simp)).trans ((onlyFields_pressBusy _).mono (by simp))
    have h2 : ServoOnly s1 s2 := servoOnly_servoHold s1 _
    have h3 : SampleKept n s2 s3 := by
      unfold s3
      split
      · exact sampleKept_record hn _ _ _ _
      · have hr : FieldsKept s2 (s2.raise R.SEAM_STATUS_HOLDOVER_UNLEARNED) [R.SEAM_STATUS_HOLDOVER_UNLEARNED] :=
          (FieldsKept.refl s2 _).raise (by simp)
        have hu : SampleKept n s2 (s2.raise R.SEAM_STATUS_HOLDOVER_UNLEARNED) := .of_qual hn rfl (hr.low.qual (by decide))
        exact hu.trans (sampleKept_record hn _ _ _ _)
    clear_value s3 s2 s1
    have h4 : SampleKept n s3 s3.announce := .of_qual hn s3.announce_cands fun f _ => State.announce_fld s3 f
    exact (((SampleKept.of_qual hn h1.cands (h1.2.low.qual (by decide))).trans
      (.of_qual hn h2.cands (h2.2.low.qual (by decide)))).trans h3).trans (h4.trans (sampleKept_reform hn _))
  · rw [s.enterHoldover_cands h]
    exact SampleKept.refl n s

theorem sampleKept_fallBack (s : State) : SampleKept n s s.fallBack := by
  unfold State.fallBack
  split
  · exact SampleKept.refl n s
  · extract_lets m s1 s2
    have h2 : SampleKept n s s2 := by
      have h1 : FieldsKept s s1 [R.SEAM_STATUS_PREARMED, R.SEAM_STBY_FALLBACK] := (FieldsKept.refl s _).of_regs (by rfl)
      exact .of_qual hn rfl (((h1.clr (by simp)).setFld _ (by simp)).low.qual (by decide))
    have hlast : SampleKept n s (if s2.srcFeed = true then s2 else s2.enterHoldover) :=
      h2.ite (h2.trans (sampleKept_enterHoldover hn s2))
    split
    · exact (h2.trans (sampleKept_startSeam hn s2 _ _)).ite hlast
    · exact hlast

theorem sampleKept_candFailed (s : State) (m : Nat) : SampleKept n s (s.candFailed m) := by
  unfold State.candFailed
  extract_lets onto v s1
  have h1 : SampleKept n s s1 := by
    have h0 : FieldsKept s { s with seam := { s.seam with run := none } } [R.SEAM_STATUS_SEAMING, R.SEAM_EVENTS_SEAM_ABORT] :=
      (FieldsKept.refl s _).of_regs (by rfl)
    exact .of_qual hn rfl (((h0.clr (by simp)).raise (by simp)).low.qual (by decide))
  exact (h1.ite (h1.trans (sampleKept_fallBack hn s1))).ite ((sampleKept_fallBack hn s).ite (SampleKept.refl n s))

theorem sampleKept_seamReacts (s : State) (m st : Nat) : SampleKept n s (s.seamReacts m st) :=
  ((sampleKept_candFailed hn s m).ite ((sampleKept_prearm hn s).ite ((sampleKept_disarm hn s).ite (SampleKept.refl n s)))).trans
    (sampleKept_reform hn _)

end

/-! ### One sample through the windows and the evaluation -/

theorem State.freqWindow_eq (s : State) (m : Nat) : s.freqWindow m = s ∨ ∃ (bad good : Nat) (fail : Bool) (v : Int),
    s.freqWindow m = (s.setCand m { s.cand m with fwBad := bad, fwGood := good, fwFail := fail }).setInt64
      (R.QUAL_CAND_FREQ_LO m) (R.QUAL_CAND_FREQ_HI m) v := by
  unfold State.freqWindow
  extract_lets c
  split
  · exact Or.inr ⟨_, _, _, _, rfl⟩
  · exact Or.inl rfl

theorem sampleKept_freqWindow (n m : Nat) (s : State) : SampleKept n s (s.freqWindow m) := by
  obtain ⟨-, -, -, -, -, -, hlo, hhi, -⟩ := unshown_cand m
  obtain h | ⟨bad, good, fail, v, h⟩ := s.freqWindow_eq m
  · rw [h]
    exact SampleKept.refl n s
  · rw [h]
    refine SampleKept.setInt64 (SampleKept.setCand (SampleKept.refl n s) ?_) v hlo hhi
    rfl

theorem sampleKept_jitter (n m : Nat) (s : State) : SampleKept n s (s.jitter m) := by
  obtain ⟨-, -, -, -, -, -, -, -, hjit, -⟩ := unshown_cand m
  unfold State.jitter
  extract_lets c w lim ms good fail
  have h1 : SampleKept n s (s.setCand m { c with jitGood := good, jitFail := fail }) := (SampleKept.refl n s).setCand rfl
  exact ((SampleKept.refl n s).setFld 0 hjit).ite (h1.setFld _ hjit)

theorem sampleKept_setStepped (n m : Nat) (s : State) : SampleKept n s (s.setStepped m) := by
  obtain ⟨-, -, -, -, hstep, hevent, -⟩ := unshown_cand m
  exact (SampleKept.refl n s).ite (((SampleKept.refl n s).setFld 1 hstep).setFld 1 hevent)

theorem sampleKept_firstOffset (n m : Nat) (s : State) (off : Int) : SampleKept n s (s.firstOffset m off) := by
  have hset : SampleKept n s (s.setCand m { s.cand m with compared := true }) := (SampleKept.refl n s).setCand rfl
  exact (SampleKept.refl n s).ite ((hset.trans (sampleKept_setStepped n m _)).ite hset)

theorem sampleKept_observeStep (n m : Nat) (s : State) (dt : Nat) (pulse good : Bool) :
    SampleKept n s (s.observeStep m dt pulse good) := by
  obtain ⟨-, -, -, htimer, -⟩ := unshown_cand m
  unfold State.observeStep
  extract_lets c now c1 c2 s1
  have h1 : c1.data = c.data := by
    unfold c1
    split
    · rfl
    · split
      · rfl
      · split <;> rfl
  have h2 : c2.data = c1.data := by
    unfold c2
    split
    · rfl
    · split <;> rfl
  exact ((SampleKept.refl n s).setCand (h2.trans h1)).setFld _ htimer

section
variable {n : Nat} (hn : n < 48)
include hn

theorem sampleKept_retainInput (s : State) (e : Int) : SampleKept n s (s.retainInput e) := by
  obtain ⟨l, hl⟩ := s.retainInput_eq e
  rw [hl]
  exact .of_qual hn rfl fun _ _ => rfl

theorem sampleKept_jumpCount (m : Nat) (s : State) (off : Int) : SampleKept n s (s.jumpCount m off) := by
  obtain ⟨-, -, -, -, hstep, -⟩ := unshown_cand m
  unfold State.jumpCount
  extract_lets c k s1
  have h1 : SampleKept n s s1 := (SampleKept.refl n s).setCand rfl
  exact ((h1.setFld 0 hstep).trans (sampleKept_reform hn _)).ite h1

/-- A change to any state but ABSENT. -/
theorem sampleKept_setCandState (s : State) (m : Nat) {st : Nat} (hst : st ≠ 0) (cause : Nat) :
    SampleKept n s (s.setCandState m st cause) := by
  by_cases h : s.fld (R.QUAL_CAND_STATE_STATE m) = st
  · rw [State.setCandState, if_pos h]
    exact SampleKept.refl n s
  · obtain ⟨hstate, hcause, hchg, htimer, -⟩ := unshown_cand m
    rw [State.setCandState_eq cause h]
    refine SampleKept.trans (SampleKept.trans (t := s.stateFields m st cause) ?_ ?_) (sampleKept_seamReacts hn _ m st)
    · have h1 := (SampleKept.refl n s).setFld st hstate
      exact (((h1.setFld (2 ^ cause) hcause).ite h1).setFld 1 hchg).setFld 1 (f := R.QUAL_EVENTS_ANY_STATE) ⟨by decide, by decide, by decide⟩
    · generalize s.stateFields m st cause = u
      unfold State.candEnters
      extract_lets c
      split
      · exact absurd rfl hst
      · refine ((SampleKept.refl n u).setCand ?_).setFld 0 htimer
        unfold Cand.observe
        extract_lets c1
        exact (apply_ite Cand.data _ _ _).trans (ite_self _)
      · exact (SampleKept.refl n u).setCand rfl
      · exact (SampleKept.refl n u).setCand rfl
      · exact SampleKept.refl n u

theorem sampleKept_evaluate (m : Nat) (s : State) (labelFail : Bool) : SampleKept n s (s.evaluate m labelFail) := by
  have hr := SampleKept.refl n s
  have hset {st : Nat} (hst : st ≠ 0) (cause : Nat) := sampleKept_setCandState hn s m hst cause
  unfold State.evaluate
  extract_lets c st
  exact ((hset (by decide) 1).ite ((hset (by decide) 4).ite (((sampleKept_setStepped n m s).trans
    (sampleKept_setCandState hn _ m (by decide) 5)).ite ((hset (by decide) 2).ite ((hset (by decide) 5).ite
      ((hset (by decide) 8).ite hr)))))).ite hr

theorem sampleKept_deliver (m : Nat) (s : State) (r : Int) : SampleKept n s (s.deliver m r) := by
  unfold State.deliver
  split
  · exact SampleKept.refl n s
  · extract_lets e
    have hnote : SampleKept n s (s.noteInput e) := .of_qual hn rfl fun _ _ => rfl
    have hservo := servoOnly_seamInput (s.noteInput e) e
    exact (hnote.trans (.of_qual hn (by rw [hservo.1]) (hservo.2.low.qual (by decide)))).ite (SampleKept.refl n s)

end

/-! ### The newest sample -/

theorem jitSpan_pos (s : State) (n : Nat) : 0 < s.jitSpan n := by
  unfold State.jitSpan
  split <;> decide

/-- The windows take the sample as the newest one; the stamp, the label and the offset that is shown stay. -/
theorem State.addSample_spec {s : State} {n : Nat} (hn : n < 48) (x p : Int) (ok : Bool) :
    ((s.addSample n x p ok).cand n).samples = ({ t := s.tb.elapsed, x := x, p := p } :: (s.cand n).samples).take (s.jitSpan n) ∧
      ((s.addSample n x p ok).cand n).stamp = (s.cand n).stamp ∧ ((s.addSample n x p ok).cand n).prog = (s.cand n).prog ∧
      ∀ g ∈ shownFields n, (s.addSample n x p ok).fld g = s.fld g := by
  unfold State.addSample
  extract_lets c e c1 s1 s2 s3
  have hc1 : s1.cand n = c1 := State.cand_setCand_same ..
  have h12 : SampleKept n s1 s2 := (sampleKept_retainInput hn s1 _).ite (SampleKept.refl n s1)
  have h23 : SampleKept n s2 s3 := (SampleKept.refl n s2).ite (sampleKept_freqWindow n n s2)
  have hkept := (h12.trans h23).trans (sampleKept_jitter n n s3)
  have hne : (s1.cand n).samples ≠ [] := by
    rw [hc1]
    exact List.ne_nil_of_length_pos (by simp [c1, jitSpan_pos])
  have hdata := hkept.1 hne
  rw [hc1, Cand.data, Cand.data, Prod.mk.injEq, Prod.mk.injEq] at hdata
  exact ⟨hdata.1, hdata.2.1, hdata.2.2, fun g hg => hkept.2 g hg⟩

/-- The newest sample with the stamp and the label, once what follows the sample keeps them. -/
theorem State.addSample_kept {s t : State} {n : Nat} (hn : n < 48) {x p : Int} {ok : Bool} (h : SampleKept n (s.addSample n x p ok) t) :
    (t.cand n).samples.head? = some { t := s.tb.elapsed, x := x, p := p } ∧ (t.cand n).stamp = (s.cand n).stamp ∧
      (t.cand n).prog = (s.cand n).prog ∧ ∀ g ∈ shownFields n, t.fld g = s.fld g := by
  obtain ⟨hsamples, hstamp, hprog, hshown⟩ := s.addSample_spec hn x p ok
  have hpos := jitSpan_pos s n
  have hne : ((s.addSample n x p ok).cand n).samples ≠ [] := by
    rw [hsamples]
    exact List.ne_nil_of_length_pos (by simp [hpos])
  have hdata := h.1 hne
  rw [Cand.data, Cand.data, Prod.mk.injEq, Prod.mk.injEq] at hdata
  obtain ⟨hs, hst, hp⟩ := hdata
  refine ⟨?_, hst.trans hstamp, hp.trans hprog, fun g hg => (h.2 g hg).trans (hshown g hg)⟩
  rw [hs, hsamples]
  cases hj : s.jitSpan n with
  | zero => omega
  | succ k => rfl

/-- A phase sample of a clock or link candidate that has its origin. -/
theorem State.clockSample_spec {s : State} {n : Nat} (hn : n < 48) {v o : Int} (gap : Nat) (ho : (s.cand n).origin = some o) :
    ((s.clockSample n v gap).cand n).samples.head? = some (Sample.mk s.tb.elapsed
        (v - o - (if n < 16 then ((((s.cand n).kept + gap) * fuPerMs : Nat) : Int) else 0) - s.candPhase n) (s.candPhase n)) ∧
      ((s.clockSample n v gap).cand n).stamp = (s.cand n).stamp := by
  unfold State.clockSample
  extract_lets c dt c1 s1 o1 r p s2 s3
  have hc1 : c1 = { c with kept := c.kept + gap } := by
    unfold c1
    rw [show c.origin = some o from ho]
  have hcand : s1.cand n = c1 := State.cand_setCand_same ..
  have hp : p = s.candPhase n := by
    have hsteer : s1.steerPhase = s.steerPhase := rfl
    unfold p
    rw [State.candPhase, hsteer, hcand, hc1]
    rfl
  have hr : r = v - o - (if n < 16 then ((((s.cand n).kept + gap) * fuPerMs : Nat) : Int) else 0) := by
    have ho1 : o1 = o := by
      unfold o1
      rw [hc1]
      simp only [show c.origin = some o from ho, Option.getD_some]
    unfold r
    rw [ho1, hc1]
    split
    · rfl
    · omega
  have h23 : SampleKept n s2 s3 := (sampleKept_observeStep n n s2 dt false true).ite (SampleKept.refl n s2)
  have hkept := (h23.trans (sampleKept_evaluate hn n s3 false)).trans (sampleKept_deliver hn n _ r)
  obtain ⟨hhead, hstamp, -, -⟩ := s1.addSample_kept hn hkept
  refine ⟨?_, ?_⟩
  · rw [hhead, hr, hp]
    rfl
  · rw [hstamp, hcand, hc1]

/-- What the label of a pulse comes from. -/
def Cand.labels (c : Cand) : Option Nat × Option Nat × Option Nat × Bool := (c.prog, c.irig, c.irigAt, c.irigOk)

/-- The offset of a pulse is read past a change of the candidate's edge, stamp or origin. -/
theorem State.pulseOffset_setCand (s : State) (n : Nat) {m : Nat} {c : Cand} (hc : c.labels = (s.cand m).labels) (edge : Int) :
    (s.setCand m c).pulseOffset n edge = s.pulseOffset n edge := by
  have hlabels (k : Nat) : ((s.setCand m c).cand k).labels = (s.cand k).labels := by
    by_cases hk : k = m
    · rw [hk, State.cand_setCand_same, hc]
    · rw [State.cand_setCand_ne _ _ hk]
  have hprog (k : Nat) : ((s.setCand m c).cand k).prog = (s.cand k).prog := congrArg Prod.fst (hlabels k)
  have hirig (k t : Nat) : ((s.setCand m c).cand k).irigLabel t = (s.cand k).irigLabel t := by
    have h := hlabels k
    simp only [Cand.labels, Prod.mk.injEq] at h
    obtain ⟨-, hi, ha, ho⟩ := h
    rw [Cand.irigLabel, Cand.irigLabel, hi, ha, ho]
  have hlabel : (s.setCand m c).label n = s.label n := by
    simp only [State.label, hprog, hirig]
    rfl
  rw [State.pulseOffset, hlabel]
  rfl

theorem Cand.pulse_stamp (c : Cand) (t : Nat) (x : Int) (good trackFail : Bool) : (c.pulse t x good trackFail).stamp = c.stamp := by
  unfold Cand.pulse
  extract_lets c1 c2 c3
  have h2 : c2.stamp = c.stamp := by
    unfold c2
    split <;> rfl
  have h3 : c3.stamp = c2.stamp := by
    unfold c3
    split <;> rfl
  rw [apply_ite Cand.stamp]
  exact (ite_self _).trans (h3.trans h2)

/-- A pulse shows its offset and uses up a label that the program wrote. -/
theorem State.pulseSample_spec {s : State} {n : Nat} (hn : n < 48) (edge : Int) :
    (s.pulseSample n edge).pair (R.QUAL_CAND_TOFF_LO n) (R.QUAL_CAND_TOFF_HI n) = ofSigned 64 (s.pulseOffset n edge).1 ∧
      ((s.pulseSample n edge).cand n).prog = none ∧ ((s.pulseSample n edge).cand n).stamp = (s.cand n).stamp ∧
      ((s.pulseSample n edge).cand n).samples ≠ [] := by
  unfold State.pulseSample
  extract_lets c s1 dt p
  have h1 : s1 = s ∨ ∃ c' : Cand, c'.labels = (s.cand n).labels ∧ c'.stamp = (s.cand n).stamp ∧ s1 = s.setCand n c' := by
    unfold s1
    split
    · exact Or.inl rfl
    · exact Or.inr ⟨{ c with origin := some 0, p0 := s.steerPhase }, rfl, rfl, rfl⟩
  have hoff1 : s1.pulseOffset n edge = s.pulseOffset n edge := by
    obtain h1 | ⟨c', hlab, -, h1⟩ := h1
    · rw [h1]
    · rw [h1]
      exact s.pulseOffset_setCand n hlab edge
  have hstamp1 : (s1.cand n).stamp = (s.cand n).stamp := by
    obtain h1 | ⟨c', -, hst, h1⟩ := h1
    · rw [h1]
    · rw [h1, State.cand_setCand_same, hst]
  clear_value p s1
  split
  next off missing labelFail hoff =>
  extract_lets x track good s2 c2 c3 s3 s4 s5 s6 s7 s8
  have hoff2 : s2.pair (R.QUAL_CAND_TOFF_LO n) (R.QUAL_CAND_TOFF_HI n) = ofSigned 64 (s.pulseOffset n edge).1 := by
    rw [← hoff1, hoff]
    refine s1.pair_setPair ?_ (ofSigned_lt 64 off)
    simp only [ne_eq, Fld.key, R.QUAL_CAND_TOFF_LO, R.QUAL_CAND_TOFF_HI]
    omega
  have hcand3 : s3.cand n = { c2.pulse s2.tb.elapsed x good (!track) with prog := none } := State.cand_setCand_same ..
  have hstamp3 : (s3.cand n).stamp = (s.cand n).stamp := by
    rw [hcand3, ← hstamp1]
    exact c2.pulse_stamp _ _ _ _
  have hprog3 : (s3.cand n).prog = none := by rw [hcand3]
  have hfld3 (f : Fld) : s3.fld f = s2.fld f := rfl
  clear_value s3
  have h45 : SampleKept n s4 s5 := (sampleKept_firstOffset n n s4 off).ite (SampleKept.refl n s4)
  have h56 : SampleKept n s5 s6 := sampleKept_jumpCount hn n s5 off
  have h67 : SampleKept n s6 s7 := (sampleKept_observeStep n n s6 dt true good).ite (SampleKept.refl n s6)
  have h78 : SampleKept n s7 s8 := sampleKept_evaluate hn n s7 labelFail
  have hend : SampleKept n s8 (s8.deliver n off).trReport := (sampleKept_deliver hn n s8 off).trans (sampleKept_trReport hn _)
  obtain ⟨hhead, hstamp, hprog, hshown⟩ := s3.addSample_kept hn ((((h45.trans h56).trans h67).trans h78).trans hend)
  refine ⟨?_, hprog.trans hprog3, hstamp.trans hstamp3, fun h => by simp [h] at hhead⟩
  rw [← hoff2, State.pair, State.pair, hshown _ (by simp [shownFields]), hshown _ (by simp [shownFields]), hfld3, hfld3]

/-! ### The commands -/

theorem does_phaseSample_glitch {s : State} {n : Fin 48} {v : Int} (hp : s.powered = true) (hf : s.qualFenced = false)
    (hen : s.candEn n = true) (hn : 16 ≤ (n : Nat)) :
    Does (.qualPhaseSample n v 0) s fun t => t.fld (R.QUAL_CAND_EVENTS_GLITCH n)
        = min (2 ^ (R.QUAL_CAND_EVENTS_GLITCH n).width - 1) (s.fld (R.QUAL_CAND_EVENTS_GLITCH n) + 1) ∧
      OnlyFields s t [R.QUAL_CAND_EVENTS_GLITCH n] := by
  have he : exec (.qualPhaseSample n v 0) s = s.live (s.phaseSample n v 0) := rfl
  refine does_live he hp ?_
  rw [State.phaseSample, if_neg (by simp [hf, hen]), if_pos ⟨hn, rfl⟩]
  exact ⟨State.fld_bump_same _ _, (OnlyFields.refl s _).bump (by simp)⟩

theorem ignores_phaseSample {s : State} {n : Fin 48} {v : Int} {gap : Nat} (hgap : (n : Nat) < 16 ∨ gap ≠ 0)
    (hst : (s.cand n).stamp ≠ some v) : Ignores (.qualPhaseSample n v gap) s := by
  refine ignores_live (t := s.phaseSample n v gap) rfl ?_
  have hlink : ¬ (16 ≤ (n : Nat) ∧ gap = 0) := by omega
  by_cases hoff : s.qualFenced ∨ ¬ s.candEn n
  · rw [State.phaseSample, if_pos hoff]
  · rw [State.phaseSample, if_neg hoff, if_neg hlink, if_pos hst]

/-- A stamp that has been handed over is used up, and the state of the candidate says what follows. -/
theorem State.phaseSample_eq {s : State} {n : Nat} {v : Int} {gap : Nat} (hf : s.qualFenced = false) (hen : s.candEn n = true)
    (hgap : n < 16 ∨ gap ≠ 0) (hst : (s.cand n).stamp = some v) : ∃ c : Cand, c.stamp = none ∧ c.labels = (s.cand n).labels ∧
      c.origin = (s.cand n).origin ∧ c.kept = (s.cand n).kept ∧ c.p0 = (s.cand n).p0 ∧
      s.phaseSample n v gap = if s.fld (R.QUAL_CAND_STATE_STATE n) = 0 then s.setCand n c
        else let t := if s.timeCand n then (s.setCand n c).pulseSample n v else (s.setCand n c).clockSample n v gap
          (t.setStandby (([t.fld R.SEAM_STBY_STBY_0, t.fld R.SEAM_STBY_STBY_1, t.fld R.SEAM_STBY_STBY_2]).filter
            (fun k => k != 0x3F))).revertCheck := by
  refine ⟨if n < 16 ∧ s.kind n = 3 then { s.cand n with stamp := none }.edge s.tb.elapsed (s.nominal n) (s.losTime n)
    else { s.cand n with stamp := none }, ?_, ?_, ?_, ?_, ?_, ?_⟩
  iterate 5
    split
    · unfold Cand.edge
      split <;> rfl
    · rfl
  rw [State.phaseSample, if_neg (by simp [hf, hen]), if_neg (by omega), if_neg (by simp [hst])]
  rfl

theorem does_phaseSample_absent {s : State} {n : Fin 48} {v : Int} {gap : Nat} (hp : s.powered = true) (hf : s.qualFenced = false)
    (hen : s.candEn n = true) (hgap : (n : Nat) < 16 ∨ gap ≠ 0) (hst : (s.cand n).stamp = some v)
    (habs : s.fld (R.QUAL_CAND_STATE_STATE n) = 0) :
    Does (.qualPhaseSample n v gap) s fun t => (t.cand n).stamp = none ∧ t.regs = s.regs ∧ MemKept s t := by
  have he : exec (.qualPhaseSample n v gap) s = s.live (s.phaseSample n v gap) := rfl
  obtain ⟨c, hc, -, -, -, -, heq⟩ := State.phaseSample_eq hf hen hgap hst
  refine does_live he hp ?_
  rw [heq, if_pos habs]
  exact ⟨by rw [State.cand_setCand_same, hc], rfl, memKept_of_memory rfl⟩

/-- What follows a sample of a candidate that is not ABSENT. -/
theorem sampleKept_reorder {n : Nat} (hn : n < 48) (s : State) (l : List Nat) : SampleKept n s (s.setStandby l).revertCheck :=
  (sampleKept_setStandby hn s l).trans (sampleKept_revertCheck hn _)

theorem does_phaseSample_clock {s : State} {n : Fin 48} {v : Int} {gap : Nat} (hp : s.powered = true) (hf : s.qualFenced = false)
    (hen : s.candEn n = true) (hgap : (n : Nat) < 16 ∨ gap ≠ 0) (hst : (s.cand n).stamp = some v)
    (hin : s.fld (R.QUAL_CAND_STATE_STATE n) ≠ 0) (hk : s.timeCand n = false) (ho : (s.cand n).origin.isSome = true) :
    Does (.qualPhaseSample n v gap) s fun t =>
      (t.cand n).samples.head? = some (Sample.mk s.tb.elapsed
        (v - (s.cand n).origin.getD 0 - (if (n : Nat) < 16 then ((((s.cand n).kept + gap) * fuPerMs : Nat) : Int) else 0)
          - s.candPhase n)
        (s.candPhase n)) ∧
      (t.cand n).stamp = none ∧ MemKept s t := by
  have he : exec (.qualPhaseSample n v gap) s = s.live (s.phaseSample n v gap) := rfl
  refine does_live he hp (and_assoc.mp ⟨?_, memKept_of_memory (s.phaseSample_memory n v gap)⟩)
  obtain ⟨c, hc, -, horigin, hkept, hp0, heq⟩ := State.phaseSample_eq hf hen hgap hst
  obtain ⟨o, ho⟩ := Option.isSome_iff_exists.mp ho
  have hcand : (s.setCand n c).cand n = c := State.cand_setCand_same ..
  have hphase : (s.setCand n c).candPhase n = s.candPhase n := by
    rw [State.candPhase, hcand, hp0]
    rfl
  obtain ⟨hhead, hstamp⟩ := (s.setCand n c).clockSample_spec n.isLt gap (v := v) (o := o) (by rw [hcand, horigin, ho])
  rw [heq, if_neg hin, hk]
  simp only [Bool.false_eq_true, if_false]
  have hlast := sampleKept_reorder n.isLt ((s.setCand n c).clockSample n v gap) (([((s.setCand n c).clockSample n v gap).fld R.SEAM_STBY_STBY_0,
    ((s.setCand n c).clockSample n v gap).fld R.SEAM_STBY_STBY_1,
    ((s.setCand n c).clockSample n v gap).fld R.SEAM_STBY_STBY_2]).filter (fun k => k != 0x3F))
  generalize (s.setCand n c).clockSample n v gap = t at *
  have hdata := hlast.1 (fun h => by simp [h] at hhead)
  rw [Cand.data, Cand.data, Prod.mk.injEq, Prod.mk.injEq] at hdata
  obtain ⟨hs, hst', -⟩ := hdata
  refine ⟨?_, ?_⟩
  · rw [hs, hhead, hphase, hcand, hkept, ho]
    rfl
  · rw [hst', hstamp, hcand, hc]

theorem does_phaseSample_pulse {s : State} {n : Fin 48} {v : Int} {gap : Nat} (hp : s.powered = true) (hf : s.qualFenced = false)
    (hen : s.candEn n = true) (hgap : (n : Nat) < 16 ∨ gap ≠ 0) (hst : (s.cand n).stamp = some v)
    (hin : s.fld (R.QUAL_CAND_STATE_STATE n) ≠ 0) (hk : s.timeCand n = true) :
    Does (.qualPhaseSample n v gap) s fun t =>
      t.pair (R.QUAL_CAND_TOFF_LO n) (R.QUAL_CAND_TOFF_HI n) = ofSigned 64 (s.pulseOffset n v).1 ∧
      (t.cand n).prog = none ∧ (t.cand n).stamp = none ∧ MemKept s t := by
  have he : exec (.qualPhaseSample n v gap) s = s.live (s.phaseSample n v gap) := rfl
  refine does_live he hp ?_
  suffices h : (s.phaseSample n v gap).pair (R.QUAL_CAND_TOFF_LO n) (R.QUAL_CAND_TOFF_HI n) = ofSigned 64 (s.pulseOffset n v).1 ∧
      ((s.phaseSample n v gap).cand n).prog = none ∧ ((s.phaseSample n v gap).cand n).stamp = none from
    ⟨h.1, h.2.1, h.2.2, memKept_of_memory (s.phaseSample_memory n v gap)⟩
  obtain ⟨c, hc, hlabels, -, -, -, heq⟩ := State.phaseSample_eq hf hen hgap hst
  have hcand : (s.setCand n c).cand n = c := State.cand_setCand_same ..
  obtain ⟨hoff, hprog, hstamp, hne⟩ := (s.setCand n c).pulseSample_spec n.isLt v
  rw [s.pulseOffset_setCand n hlabels] at hoff
  rw [heq, if_neg hin, hk]
  simp only [if_true]
  have hlast := sampleKept_reorder n.isLt ((s.setCand n c).pulseSample n v) (([((s.setCand n c).pulseSample n v).fld R.SEAM_STBY_STBY_0,
    ((s.setCand n c).pulseSample n v).fld R.SEAM_STBY_STBY_1,
    ((s.setCand n c).pulseSample n v).fld R.SEAM_STBY_STBY_2]).filter (fun k => k != 0x3F))
  generalize (s.setCand n c).pulseSample n v = t at *
  have hdata := hlast.1 hne
  rw [Cand.data, Cand.data, Prod.mk.injEq, Prod.mk.injEq] at hdata
  obtain ⟨-, hst', hprog'⟩ := hdata
  refine ⟨?_, hprog'.trans hprog, ?_⟩
  · rw [← hoff, State.pair, State.pair, hlast.2 _ (by simp [shownFields]), hlast.2 _ (by simp [shownFields])]
  · rw [hst', hstamp, hcand, hc]

/-! ### Edges at the front end -/

/-- The channel of a reference input that the qualifier owns takes its rising edges while the time base runs. -/
theorem State.tdcEdge_eq {s : State} {n : Nat} (hn : n < 16) (num den : Nat) (hrun : s.tb.running = true) (hen : s.candEn n = true) :
    s.tdcEdge (64 + n) false num den =
      (s.rawEdge n (s.edgeAt num den).floor.toNat).keepEdge (64 + n) false num den
        (s.edgeGlitch (64 + n) (s.edgeAt num den).floor.toNat) := by
  have hsub : 64 + n - 64 = n := by omega
  have howned : s.owned (64 + n) = true := by
    rw [State.owned, hsub, hen, Bool.and_true, isReft]
    simp only [Bool.and_eq_true, decide_eq_true_eq]
    omega
  have hon : s.chOn (64 + n) = true := by
    rw [State.chOn, if_neg (by omega), howned, Bool.or_true]
  have htakes : s.takesEdge (64 + n) false = true := by
    rw [State.takesEdge, howned]
    rfl
  rw [State.tdcEdge, if_neg (by simp [hrun, hon, htakes])]
  simp only [howned, if_true, hsub]

theorem State.setBuildout_tb (s : State) (n : Nat) (v : Int) : (s.setBuildout n v).tb = s.tb := by
  unfold State.setBuildout
  extract_lets m s1
  exact (apply_ite State.tb _ _ _).trans (ite_self _)

theorem State.slewAdvance_now (s : State) (d : Nat) : (s.slewAdvance d).tb.now = s.tb.now := by
  unfold State.slewAdvance
  split
  · rfl
  · extract_lets num m sign delta seam tb s1 s2
    have hset : (s2.setBuildout s2.selected (s2.buildout s2.selected + delta)).tb = s2.tb := State.setBuildout_tb ..
    split
    · rw [hset]
      rfl
    · rfl

theorem State.advance_now (s : State) (n : Nat) : (s.advance n).tb.now = s.tb.now + (s.increments n).1 := State.slewAdvance_now _ _

/-- The instant of an edge depends on no candidate, and no register that counts edges. -/
theorem State.edgeAt_setCand (s : State) (m : Nat) (c : Cand) (num den : Nat) : (s.setCand m c).edgeAt num den = s.edgeAt num den := by
  rw [State.edgeAt, State.edgeAt, State.advance_now, State.advance_now]
  rfl

theorem State.stampTime_setCand (s : State) (m : Nat) (c : Cand) (ch num den : Nat) :
    (s.setCand m c).stampTime ch num den = s.stampTime ch num den := by
  rw [State.stampTime, State.stampTime, State.advance_now, State.advance_now]
  rfl

/-- The fields of a TDC channel that an edge writes. -/
def tdcFields (c : Nat) : List Fld :=
  [R.TDC_CH_STATUS_SEQ c, R.TDC_CH_MISSED_COUNT c, R.TDC_CH_EVENTS_MISSED_SET c, R.TDC_CH_DROP_COUNT c, R.TDC_CH_EVENTS_DROP_SET c,
    R.FLT_SRC_NOTES (0x100 + c), R.TDC_CH_STATUS_LEVEL c, R.TDC_CH_EVENTS_HIWAT c]

theorem tdcFields_notQual {c : Nat} (hc : c < 104) : ∀ g ∈ tdcFields c, g.key < 0x05020000 * 32 ∨ 0x05030000 * 32 ≤ g.key := by
  simp only [tdcFields, List.forall_mem_cons, Fld.key, R.TDC_CH_STATUS_SEQ, R.TDC_CH_MISSED_COUNT, R.TDC_CH_EVENTS_MISSED_SET,
    R.TDC_CH_DROP_COUNT, R.TDC_CH_EVENTS_DROP_SET, R.FLT_SRC_NOTES, R.TDC_CH_STATUS_LEVEL, R.TDC_CH_EVENTS_HIWAT]
  exact ⟨by omega, by omega, by omega, by omega, by omega, by omega, by omega, by omega, by simp⟩

/-- The channel's own part of the state. -/
def TdcOnly (c : Nat) (s t : State) : Prop := t = { s with regs := t.regs, tdc := t.tdc } ∧ FieldsKept s t (tdcFields c)

theorem TdcOnly.refl (c : Nat) (s : State) : TdcOnly c s s := ⟨rfl, FieldsKept.refl s _⟩

theorem TdcOnly.trans {c : Nat} {s t u : State} (h : TdcOnly c s t) (h' : TdcOnly c t u) : TdcOnly c s u := by
  refine ⟨?_, h.2.trans h'.2⟩
  rw [h'.1, h.1]

theorem TdcOnly.ite {c : Nat} {s t u : State} {p : Prop} [Decidable p] (ht : TdcOnly c s t) (hu : TdcOnly c s u) :
    TdcOnly c s (if p then t else u) := by split <;> assumption

theorem TdcOnly.setFld {c : Nat} {s t : State} (h : TdcOnly c s t) {f : Fld} (v : Nat) (hf : f ∈ tdcFields c) : TdcOnly c s (t.setFld f v) :=
  h.trans ⟨rfl, (FieldsKept.refl t _).setFld v hf⟩

theorem TdcOnly.setCh {c : Nat} {s t : State} (h : TdcOnly c s t) (x : Tdc) : TdcOnly c s (t.setTdcCh c x) :=
  h.trans ⟨rfl, (FieldsKept.refl t _).of_regs (by rfl)⟩

theorem TdcOnly.cands {c : Nat} {s t : State} (h : TdcOnly c s t) : t.cands = s.cands := by rw [h.1]

theorem tdcOnly_missEdge (s : State) (c : Nat) : TdcOnly c s (s.missEdge c) :=
  (((TdcOnly.refl c s).setFld _ (by simp [tdcFields])).setFld _ (by simp [tdcFields])).setCh _

theorem tdcOnly_stamped (s : State) (c : Nat) (queued : Bool) : TdcOnly c s (s.stamped c queued) :=
  ((TdcOnly.refl c s).setCh _).setFld _ (by simp [tdcFields])

theorem tdcOnly_setFifo (s : State) (c : Nat) (l : List Nat) : TdcOnly c s (s.setFifo c l) := by
  have h1 := ((TdcOnly.refl c s).setCh { s.tdcCh c with fifo := l }).setFld (f := R.TDC_CH_STATUS_LEVEL c) l.length (by simp [tdcFields])
  exact (h1.setFld _ (by simp [tdcFields])).ite h1

theorem tdcOnly_dropStamp (s : State) (c : Nat) : TdcOnly c s (s.dropStamp c) := by
  have hnote : TdcOnly c s (s.note (0x100 + c)) := (TdcOnly.refl c s).setFld _ (by simp [tdcFields])
  have h1 := (TdcOnly.refl c s).ite (p := s.flag (R.TDC_CH_EVENTS_DROP_SET c) = true) hnote
  exact ((h1.setFld _ (by simp [tdcFields])).setFld _ (by simp [tdcFields])).setCh _

theorem tdcOnly_stampEdge (s : State) (c : Nat) (falling : Bool) (num den : Nat) : TdcOnly c s (s.stampEdge c falling num den) := by
  unfold State.stampEdge
  extract_lets r x s1 l
  have h1 : TdcOnly c s s1 := (TdcOnly.refl c s).setCh _
  have hqueued : TdcOnly c s1 ((s1.stamped c true).setFifo c (l ++ [r])) := (tdcOnly_stamped s1 c true).trans (tdcOnly_setFifo _ _ _)
  have hdropped : TdcOnly c s1 ((s1.stamped c false).dropStamp c) := (tdcOnly_stamped s1 c false).trans (tdcOnly_dropStamp _ _)
  exact h1.trans ((hqueued.ite hdropped).ite (tdcOnly_stamped s1 c false))

/-- What an edge does once it has been seen: of the candidate it changes only the stamp, which a glitch does not reach. -/
theorem State.keepEdge_spec (s : State) {n : Nat} (hn : n < 16) (num den : Nat) (glitch : Bool) :
    QualKept s (s.keepEdge (64 + n) false num den glitch) ∧
      ((s.keepEdge (64 + n) false num den glitch).cand n).lastEdge = (s.cand n).lastEdge ∧
      (glitch = true → (s.keepEdge (64 + n) false num den glitch).cand n = s.cand n) ∧
      (glitch = false → s.owned (64 + n) = true → s.qualFenced = false → (s.tdcCh (64 + n)).dec = 0 → s.coreless (64 + n) = false →
        (s.tdcCh (64 + n)).lastAt = none →
        ((s.keepEdge (64 + n) false num den glitch).cand n).stamp = some (s.stampTime (64 + n) num den)) := by
  have hsub : 64 + n - 64 = n := by omega
  have honly {t : State} (h : TdcOnly (64 + n) s t) : QualKept s t ∧ t.cand n = s.cand n :=
    ⟨h.2.low.qual (tdcFields_notQual (by omega)), by rw [State.cand, h.cands, State.cand]⟩
  unfold State.keepEdge
  extract_lets x v s1 s2
  have h1 : TdcOnly (64 + n) s s1 := (TdcOnly.refl _ s).setCh _
  have h2 : TdcOnly (64 + n) s s2 := h1.trans (tdcOnly_stampEdge s1 _ _ _ _)
  split
  next hdec =>
    obtain ⟨hq, hc⟩ := honly ((TdcOnly.refl (64 + n) s).setCh { x with dec := x.dec - 1 })
    exact ⟨hq, by rw [hc], fun _ => hc, fun _ _ _ h => absurd h (Nat.ne_of_gt hdec)⟩
  next hdec =>
    split
    next hmiss =>
      obtain ⟨hq, hc⟩ := honly (h1.trans (tdcOnly_missEdge s1 (64 + n)))
      refine ⟨hq, by rw [hc], fun _ => hc, fun _ _ _ _ hcore hlast => ?_⟩
      have hblind (t : Rat) : x.blind t = false := by rw [Tdc.blind, show x.lastAt = none from hlast]
      rw [hblind] at hmiss
      exact absurd (hmiss.resolve_right (by decide)) (by rw [show s1.coreless (64 + n) = s.coreless (64 + n) from rfl, hcore]; decide)
    next hmiss =>
      obtain ⟨hq, hc⟩ := honly h2
      cases glitch with
      | true => exact ⟨hq, congrArg Cand.lastEdge hc, fun _ => hc, fun h => absurd h (by decide)⟩
      | false =>
        have hhand : s2.handStamp (64 + n) v = s2 ∨ s2.handStamp (64 + n) v = s2.setCand n { s2.cand n with stamp := some v } := by
          rw [State.handStamp, hsub]
          split
          · exact Or.inr rfl
          · exact Or.inl rfl
        refine ⟨?_, ?_, fun h => absurd h (by decide), fun _ howned hfence _ _ _ => ?_⟩
        · obtain h | h := hhand
          · simpa [h] using hq
          · rw [h]
            exact fun f hf => hq f hf
        · obtain h | h := hhand
          · simp [h, hc]
          · simp [h, hc]
        · have hen : s2.owned (64 + n) = true := by
            rw [State.owned, hsub, State.candEn, State.flag, hq (R.QUAL_CAND_CFG_EN n) (by
              simp only [Fld.InQual, Fld.key, R.QUAL_CAND_CFG_EN]
              omega)]
            rwa [State.owned, hsub, State.candEn, State.flag] at howned
          have hopen : s2.qualFenced = false := by
            rw [State.qualFenced, State.fenced, State.flag, h2.2 (R.FLT_SRC_FENCED 0x010) (by
              simp only [tdcFields, List.forall_mem_cons, Fld.key, R.FLT_SRC_FENCED, R.TDC_CH_STATUS_SEQ, R.TDC_CH_MISSED_COUNT,
                R.TDC_CH_EVENTS_MISSED_SET, R.TDC_CH_DROP_COUNT, R.TDC_CH_EVENTS_DROP_SET, R.FLT_SRC_NOTES, R.TDC_CH_STATUS_LEVEL,
                R.TDC_CH_EVENTS_HIWAT]
              exact ⟨by omega, by omega, by omega, by omega, by omega, by omega, by omega, by omega, by simp⟩)]
            exact hfence
          rw [if_neg (by decide), State.handStamp, if_pos ⟨hen, by simp [hopen]⟩, hsub, State.cand_setCand_same]

/-- The GLITCH count is one of the qualifier's registers. -/
theorem glitch_inQual {n : Nat} (hn : n < 48) : (R.QUAL_CAND_EVENTS_GLITCH n).InQual := by
  simp only [Fld.InQual, Fld.key, R.QUAL_CAND_EVENTS_GLITCH]
  omega

theorem State.edgeGlitch_eq {s : State} {n t : Nat} (hn : n < 16) (hen : s.candEn n = true) (hk : s.kind n ≠ 3) :
    s.edgeGlitch (64 + n) t = (s.cand n).glitch t (s.nominal n) := by
  have hsub : 64 + n - 64 = n := by omega
  have howned : s.owned (64 + n) = true := by
    rw [State.owned, hsub, hen, Bool.and_true, isReft]
    simp only [Bool.and_eq_true, decide_eq_true_eq]
    omega
  simp [State.edgeGlitch, howned, hsub, hk]

theorem does_tdcEdge_glitch {s : State} {n : Fin 16} {num den : Nat} (hp : s.powered = true) (hrun : s.tb.running = true)
    (hf : s.qualFenced = false) (hen : s.candEn n = true) (hk : s.kind n ≠ 3)
    (hg : s.edgeGlitch (64 + n) (s.edgeAt num den).floor.toNat = true) :
    Does (.tdcEdge (Fin.ofNat 104 (64 + n)) false num den) s fun t => t.cand n = s.cand n ∧
      t.fld (R.QUAL_CAND_EVENTS_GLITCH n)
        = min (2 ^ (R.QUAL_CAND_EVENTS_GLITCH n).width - 1) (s.fld (R.QUAL_CAND_EVENTS_GLITCH n) + 1) ∧ MemKept s t := by
  have hn := n.isLt
  have hfin : ((Fin.ofNat 104 (64 + n) : Fin 104) : Nat) = 64 + n := Nat.mod_eq_of_lt (by omega)
  have he : exec (.tdcEdge (Fin.ofNat 104 (64 + n)) false num den) s = s.live (s.tdcEdge (64 + n) false num den) := by
    rw [show exec (.tdcEdge (Fin.ofNat 104 (64 + n)) false num den) s =
      s.live (s.tdcEdge (Fin.ofNat 104 (64 + n) : Fin 104).val false num den) from rfl, hfin]
  refine does_live he hp ?_
  have hraw : s.rawEdge n (s.edgeAt num den).floor.toNat = s.bump (R.QUAL_CAND_EVENTS_GLITCH n) := by
    rw [State.edgeGlitch_eq hn hen hk] at hg
    rw [State.rawEdge, if_neg (by simp [hf, hk]), if_pos hg]
  have hmem : MemKept s (s.tdcEdge (64 + n) false num den) := memKept_of_memory (s.tdcEdge_memory _ _ _ _)
  rw [State.tdcEdge_eq hn num den hrun hen, hraw, hg] at hmem ⊢
  obtain ⟨hq, -, hc, -⟩ := (s.bump (R.QUAL_CAND_EVENTS_GLITCH n)).keepEdge_spec hn num den true
  exact ⟨hc rfl, by rw [hq _ (glitch_inQual (by omega)), State.fld_bump_same], hmem⟩

theorem does_tdcEdge {s : State} {n : Fin 16} {num den : Nat} (hp : s.powered = true) (hrun : s.tb.running = true)
    (hf : s.qualFenced = false) (hen : s.candEn n = true) (hk : s.kind n ≠ 3)
    (hg : s.edgeGlitch (64 + n) (s.edgeAt num den).floor.toNat = false) :
    Does (.tdcEdge (Fin.ofNat 104 (64 + n)) false num den) s fun t =>
      (t.cand n).lastEdge = some (s.edgeAt num den).floor.toNat ∧
      ((s.tdcCh (64 + n)).dec = 0 → s.coreless (64 + n) = false → (s.tdcCh (64 + n)).lastAt = none →
        (t.cand n).stamp = some (s.stampTime (64 + n) num den)) ∧ MemKept s t := by
  have hn := n.isLt
  have hfin : ((Fin.ofNat 104 (64 + n) : Fin 104) : Nat) = 64 + n := Nat.mod_eq_of_lt (by omega)
  have hsub : 64 + (n : Nat) - 64 = n := by omega
  have he : exec (.tdcEdge (Fin.ofNat 104 (64 + n)) false num den) s = s.live (s.tdcEdge (64 + n) false num den) := by
    rw [show exec (.tdcEdge (Fin.ofNat 104 (64 + n)) false num den) s =
      s.live (s.tdcEdge (Fin.ofNat 104 (64 + n) : Fin 104).val false num den) from rfl, hfin]
  refine does_live he hp ?_
  have hraw : s.rawEdge n (s.edgeAt num den).floor.toNat =
      s.setCand n ((s.cand n).edge (s.edgeAt num den).floor.toNat (s.nominal n) (s.losTime n)) := by
    have hg' := hg
    rw [State.edgeGlitch_eq hn hen hk] at hg'
    rw [State.rawEdge, if_neg (by simp [hf, hk]), if_neg (by simp [hg'])]
  have hlast : ((s.cand n).edge (s.edgeAt num den).floor.toNat (s.nominal n) (s.losTime n)).lastEdge
      = some (s.edgeAt num den).floor.toNat := by
    unfold Cand.edge
    split <;> rfl
  have howned : s.owned (64 + n) = true := by
    rw [State.owned, hsub, hen, Bool.and_true, isReft]
    simp only [Bool.and_eq_true, decide_eq_true_eq]
    omega
  have hmem : MemKept s (s.tdcEdge (64 + n) false num den) := memKept_of_memory (s.tdcEdge_memory _ _ _ _)
  rw [State.tdcEdge_eq hn num den hrun hen, hraw, hg] at hmem ⊢
  generalize hc : (s.cand n).edge (s.edgeAt num den).floor.toNat (s.nominal n) (s.losTime n) = c at *
  obtain ⟨-, hedge, -, hstamp⟩ := (s.setCand n c).keepEdge_spec hn num den false
  refine ⟨?_, fun hdec hcore hat => ?_, hmem⟩
  · rw [hedge, State.cand_setCand_same, hlast]
  · rw [hstamp rfl howned hf hdec hcore hat, State.stampTime_setCand]

/-! ### IRIG-B -/

theorem labelOk_fieldsKept {s : State} {n : Nat} (c : Cand) (v : Nat) :
    FieldsKept s ((s.setCand n c).setFld (R.QUAL_CAND_STATE_LABEL_OK n) v) [R.QUAL_CAND_STATE_LABEL_OK n] := by
  have h : FieldsKept s (s.setCand n c) [R.QUAL_CAND_STATE_LABEL_OK n] := (FieldsKept.refl s _).of_regs (by rfl)
  exact h.setFld v (by simp)

theorem does_irigFrame_good {s : State} {n : Fin 16} {w : List Nat} (hp : s.powered = true) (hf : s.qualFenced = false)
    (hen : s.candEn n = true) (hk : s.kind n = 3) (hgood : (s.irigDecode n w).isSome = true) (hprev : (s.cand n).irig.isSome = true) :
    Does (.irigFrame n w) s fun t => (t.cand n).irig = s.irigDecode n w ∧
      t.fld (R.QUAL_CAND_STATE_LABEL_OK n) =
        (if s.labelStep ((s.cand n).irig.getD 0) ((s.irigDecode n w).getD 0) then 1 else 0) ∧
      FieldsKept s t [R.QUAL_CAND_STATE_LABEL_OK n] ∧ MemKept s t := by
  have he : exec (.irigFrame n w) s = s.live (s.irigFrame n w) := rfl
  obtain ⟨l, hl⟩ := Option.isSome_iff_exists.mp hgood
  obtain ⟨a, ha⟩ := Option.isSome_iff_exists.mp hprev
  refine does_live he hp ?_
  rw [State.irigFrame, if_neg (by simp [hf, hen, hk])]
  simp only [hl, ha, Option.getD_some]
  refine ⟨by rw [State.cand_setFld, State.cand_setCand_same], ?_, labelOk_fieldsKept _ _, memKept_of_memory rfl⟩
  rw [State.fld_setFld_same]
  split <;> rfl

/-- A frame of another length, or with an element that is no bit, is not decoded. -/
theorem State.irigDecode_bad (s : State) (n : Nat) {w : List Nat} (h : w.length ≠ 100 ∨ w.any (fun x => (irigBit x).isNone) = true) :
    s.irigDecode n w = none := by
  have hlen : w.length ≠ 100 ∨ (w.filterMap irigBit).length ≠ 100 := by
    refine or_iff_not_imp_left.mpr fun hw hb => ?_
    rw [not_not] at hw
    rw [List.length_filterMap_eq_countP, ← hw, List.countP_eq_length] at hb
    obtain ⟨x, hx, hnone⟩ := List.any_eq_true.mp (h.resolve_left (not_not_intro hw))
    have hsome := hb x hx
    rw [Option.isSome_iff_ne_none] at hsome
    exact hsome (Option.isNone_iff_eq_none.mp hnone)
  rw [State.irigDecode, if_pos hlen]

theorem does_irigFrame_bad {s : State} {n : Fin 16} {w : List Nat} (hp : s.powered = true) (hf : s.qualFenced = false)
    (hen : s.candEn n = true) (hk : s.kind n = 3) (h : w.length ≠ 100 ∨ w.any (fun x => (irigBit x).isNone) = true) :
    Does (.irigFrame n w) s fun t => (t.cand n).irig = none ∧ t.fld (R.QUAL_CAND_STATE_LABEL_OK n) = 0 ∧
      FieldsKept s t [R.QUAL_CAND_STATE_LABEL_OK n] ∧ MemKept s t := by
  have he : exec (.irigFrame n w) s = s.live (s.irigFrame n w) := rfl
  refine does_live he hp ?_
  rw [State.irigFrame, if_neg (by simp [hf, hen, hk])]
  simp only [s.irigDecode_bad n h]
  exact ⟨by rw [State.clr_eq, State.cand_setFld, State.cand_setCand_same], State.fld_clr_same _ _, labelOk_fieldsKept _ 0, memKept_of_memory rfl⟩

/-! ### The drift watch -/

/-- What the drift watch of one candidate reads and shows. -/
def DriftKept (n : Nat) (s t : State) : Prop :=
  t.cand n = s.cand n ∧ t.fld (R.QUAL_CAND_STATE_DRIFT_ARMED n) = s.fld (R.QUAL_CAND_STATE_DRIFT_ARMED n) ∧
    t.fld (R.QUAL_CAND_STATE_STATE n) = s.fld (R.QUAL_CAND_STATE_STATE n) ∧ t.driftWin = s.driftWin

theorem DriftKept.refl (n : Nat) (s : State) : DriftKept n s s := ⟨rfl, rfl, rfl, rfl⟩

/-- One sample of another candidate. -/
theorem driftKept_driftSample (s : State) {n m : Nat} (hm : n ≠ m) : DriftKept n s (s.driftSample m) := by
  unfold State.driftSample
  extract_lets c
  split
  · exact DriftKept.refl n s
  · split
    · exact DriftKept.refl n s
    · refine ⟨by rw [State.cand_setFld, State.cand_setCand_ne _ _ hm], State.fld_setFld_ne _ _ ?_, State.fld_setFld_ne _ _ ?_,
        congrArg (max 100) (State.fld_setFld_ne _ _ ?_)⟩
      all_goals
        simp only [ne_eq, Fld.key, R.QUAL_CAND_STATE_DRIFT_ARMED, R.QUAL_CAND_STATE_STATE, R.QUAL_DRIFT_WIN_WIN]
        omega

theorem driftKept_foldl {n : Nat} {l : List Nat} (s : State) (hl : n ∉ l) : DriftKept n s (l.foldl State.driftSample s) := by
  induction l generalizing s with
  | nil => exact DriftKept.refl n s
  | cons m l ih =>
    rw [List.mem_cons, not_or] at hl
    obtain ⟨hc, ha, hst, hw⟩ := driftKept_driftSample s hl.1
    obtain ⟨hc', ha', hst', hw'⟩ := ih (s.driftSample m) hl.2
    exact ⟨hc'.trans hc, ha'.trans ha, hst'.trans hst, hw'.trans hw⟩

/-- A candidate that is not ABSENT takes its newest sample, and is armed once the window is full. -/
theorem State.driftSample_armed {s : State} {n : Nat} (hst : s.fld (R.QUAL_CAND_STATE_STATE n) ≠ 0) (hne : (s.cand n).samples ≠ []) :
    (s.driftSample n).fld (R.QUAL_CAND_STATE_DRIFT_ARMED n) = if s.driftWin ≤ (s.cand n).drift.length + 1 then 1 else 0 := by
  unfold State.driftSample
  extract_lets c
  rw [if_neg hst]
  cases hs : c.samples with
  | nil => exact absurd hs hne
  | cons e es =>
    simp only [List.head?_cons, State.fld_setFld_same, List.length_take, List.length_cons, decide_eq_true_eq, Nat.le_min, Nat.le_refl,
      true_and]
    unfold c
    split <;> rfl

theorem State.driftSamples_armed {s : State} {n : Nat} (hn : n < 48) (hst : s.fld (R.QUAL_CAND_STATE_STATE n) ≠ 0)
    (hne : (s.cand n).samples ≠ []) : ((List.range 48).foldl State.driftSample s).fld (R.QUAL_CAND_STATE_DRIFT_ARMED n)
      = if s.driftWin ≤ (s.cand n).drift.length + 1 then 1 else 0 := by
  obtain ⟨before, after, hl⟩ := List.append_of_mem (List.mem_range.mpr hn)
  have hnodup : (before ++ n :: after).Nodup := hl ▸ List.nodup_range
  obtain ⟨-, hafter, hbefore⟩ := List.nodup_append.mp hnodup
  rw [hl, List.foldl_append, List.foldl_cons]
  obtain ⟨hc, -, hst1, hw⟩ := driftKept_foldl (n := n) (l := before) s fun hm => hbefore n hm n (by simp) rfl
  generalize before.foldl State.driftSample s = u at *
  obtain ⟨-, ha, -⟩ := driftKept_foldl (u.driftSample n) (List.nodup_cons.mp hafter).1
  rw [ha, State.driftSample_armed (by rw [hst1]; exact hst) (by rw [hc]; exact hne), hc, hw]

section
variable {n : Nat} (hn : n < 48)
include hn

theorem sampleKept_setDisagree (s : State) : SampleKept n s s.setDisagree := by
  unfold State.setDisagree
  extract_lets v old s1
  have h1 : SampleKept n s s1 := (SampleKept.refl n s).setFld _ ⟨by decide, by decide, by decide⟩
  have h2 : SampleKept n s1 (s1.raise R.QUAL_EVENTS_DISAGREE_SET) := (SampleKept.refl n s1).setFld _ ⟨by decide, by decide, by decide⟩
  exact ((h1.trans h2).trans (sampleKept_record hn _ _ _ _)).ite h1

theorem sampleKept_driftVerdict (s : State) (m : Nat) (ref : DriftRef) : SampleKept n s (s.driftVerdict m ref) := by
  obtain ⟨-, -, -, -, -, -, -, -, -, hlo, hhi⟩ := unshown_cand m
  unfold State.driftVerdict
  extract_lets c y d s1 ver soft bad s2 st
  have h1 : SampleKept n s s1 := (SampleKept.refl n s).setInt64 d hlo hhi
  have h2 : SampleKept n s s2 := h1.setCand rfl
  have hset {st : Nat} (hst : st ≠ 0) (cause : Nat) : SampleKept n s (s2.setCandState m st cause) :=
    h2.trans (sampleKept_setCandState hn s2 m hst cause)
  exact (hset (by decide) 3).ite ((hset (by decide) 3).ite ((hset (by decide) 8).ite h2))

theorem sampleKept_driftVerdicts (l : List (Nat × DriftRef)) (s : State) :
    SampleKept n s (l.foldl (fun s e => s.driftVerdict e.1 e.2) s) := by
  induction l generalizing s with
  | nil => exact SampleKept.refl n s
  | cons e l ih => exact (sampleKept_driftVerdict hn s e.1 e.2).trans (ih _)

end

theorem does_driftWatchEval {s : State} {n : Fin 48} (hp : s.powered = true) (hf : s.qualFenced = false) (hsoak : s.soak = false)
    (hst : s.fld (R.QUAL_CAND_STATE_STATE n) ≠ 0) (hne : (s.cand n).samples ≠ []) :
    Does .driftWatchEval s fun t =>
      t.fld (R.QUAL_CAND_STATE_DRIFT_ARMED n) = (if s.driftWin ≤ (s.cand n).drift.length + 1 then 1 else 0) ∧ MemKept s t := by
  have he : exec .driftWatchEval s = s.live s.driftEval := rfl
  refine does_live he hp ⟨?_, memKept_of_memory s.driftEval_memory⟩
  have hn := n.isLt
  unfold State.driftEval
  rw [if_neg (by simp [hf, hsoak])]
  extract_lets s1 refs unv s2 old s3 s4 s5
  have h12 : SampleKept n s1 s2 := sampleKept_setDisagree hn s1
  have h23 : SampleKept n s2 s3 := (SampleKept.refl _ s2).setFld _ ⟨by decide, by decide, by decide⟩
  have h34 : SampleKept n s3 s4 := by
    have hr : SampleKept n s3 (s3.raise R.QUAL_EVENTS_UNVERIFIABLE_SET) :=
      (SampleKept.refl _ s3).setFld _ ⟨by decide, by decide, by decide⟩
    have hnote : SampleKept n (s3.raise R.QUAL_EVENTS_UNVERIFIABLE_SET) ((s3.raise R.QUAL_EVENTS_UNVERIFIABLE_SET).note 0x010) := by
      generalize s3.raise R.QUAL_EVENTS_UNVERIFIABLE_SET = u
      exact .of_qual hn rfl ((lowKept_note u _).qual (by simp))
    exact (hr.trans hnote).ite (SampleKept.refl _ s3)
  have h45 : SampleKept n s4 s5 := sampleKept_driftVerdicts hn refs s4
  have hall := (((h12.trans h23).trans h34).trans h45).trans (sampleKept_revertCheck hn s5)
  rw [hall.2 _ (by simp [shownFields])]
  exact State.driftSamples_armed hn hst hne

theorem ignores_driftWatchEval {s : State} (h : s.qualFenced = true ∨ s.soak = true) : Ignores .driftWatchEval s :=
  ignores_live rfl (by rw [State.driftEval, if_pos h])

/-- Settles O5: a sample goes through the windows, and what follows it keeps the sample and the offset. -/
theorem candidateSamples : Obligations.CandidateSamples := by
  unfold Obligations.CandidateSamples
  exact ⟨fun _ _ _ hp hf hen hn => does_phaseSample_glitch hp hf hen hn,
    fun _ _ _ _ hp hrun hf hen hk hg => does_tdcEdge_glitch hp hrun hf hen hk hg,
    fun _ _ _ _ hp hrun hf hen hk hg => does_tdcEdge hp hrun hf hen hk hg,
    fun _ _ _ _ _ hgap hst => ignores_phaseSample hgap hst,
    fun _ _ _ _ hp hf hen hgap hst habs => does_phaseSample_absent hp hf hen hgap hst habs,
    fun _ _ _ _ hp hf hen hgap hst hin hk ho => does_phaseSample_clock hp hf hen hgap hst hin hk ho,
    fun _ _ _ _ hp hf hen hgap hst hin hk => does_phaseSample_pulse hp hf hen hgap hst hin hk,
    fun _ _ _ hp hf hen hk hgood hprev => does_irigFrame_good hp hf hen hk hgood hprev,
    fun _ _ _ hp hf hen hk h => does_irigFrame_bad hp hf hen hk h,
    fun _ _ hp hf hsoak hst hne => does_driftWatchEval hp hf hsoak hst hne,
    fun _ _ h => ignores_driftWatchEval h⟩

end Sys2Proof.Machine


/-! O10: PRESS from its GO to its end (04 R125 to R129, 02 R57, 05 R163). -/
namespace Sys2Proof.Machine

theorem FieldsKept.pair {s t : State} {l : List Fld} (h : FieldsKept s t l) {lo hi : Fld} (hlo : ∀ g ∈ l, lo.key ≠ g.key)
    (hhi : ∀ g ∈ l, hi.key ≠ g.key) : t.pair lo hi = s.pair lo hi := by
  rw [State.pair, State.pair, h lo hlo, h hi hhi]

/-! ### The check of a host GO -/

/-- The status of R125, first match first. -/
def State.pressCode (s : State) (p : Press) : Nat :=
  if s.flag R.SEAM_STATUS_PRESS_BUSY then 2 else if s.pressFormat p then 3 else if s.pressNoTarget p then 4
  else if p.at_ ≠ 0 ∧ p.at_ ≤ s.hubSec then 6 else 1

/-- The seam unit with a PRESS accepted. -/
def State.pressTaken (s : State) (p : Press) : Seam :=
  if p.form = .align then { s.seam with aligns := s.seam.aligns ++ [{ p with at_ := s.boundary p.at_ }] }
  else { s.seam with press := some { p with at_ := s.boundary p.at_ } }

theorem State.pressCheck_eq {s : State} {p : Press} (hform : p.form ≠ .abort) : s.pressCheck p =
    (s.pressCode p, if s.pressCode p = 1 then ({ s with seam := s.pressTaken p }).pressBusy else s) := by
  unfold State.pressCheck State.pressCode
  rw [if_neg hform]
  split
  · rfl
  · split
    · rfl
    · split
      · rfl
      · split
        · rfl
        · rfl

theorem State.pressCode_lt (s : State) (p : Press) : s.pressCode p < 8 := by
  unfold State.pressCode
  repeat' split
  all_goals decide

/-- The fields that a GO writes. -/
def goFields : List Fld :=
  [R.SEAM_PRESS_STATUS_RESULT, R.SEAM_PRESS_STATUS_SEQ, R.SEAM_EVENTS_PRESS_DONE, R.SEAM_STATUS_PRESS_BUSY]

/-- The PRESS that a host GO asks for. -/
def State.hostPress (s : State) (form : Form) (align : Bool) (mask target : Nat) : Press :=
  { form := form, amt := s.int64 R.SEAM_PRESS_AMT_LO R.SEAM_PRESS_AMT_HI, at_ := s.pair R.SEAM_PRESS_AT_LO R.SEAM_PRESS_AT_HI,
    align := align, mask := mask, target := target, by_ := .host }

/-- A host GO other than ABORT: its status, its count, its event, and what it leaves. -/
theorem State.pressHost_spec {s : State} {form : Form} (align : Bool) (mask target : Nat) (hform : form ≠ .abort) :
    let p := s.hostPress form align mask target
    let t := s.pressHost form align mask target
    t.fld R.SEAM_PRESS_STATUS_RESULT = s.pressCode p ∧
      t.fld R.SEAM_PRESS_STATUS_SEQ = (s.fld R.SEAM_PRESS_STATUS_SEQ + 1) % 2 ^ R.SEAM_PRESS_STATUS_SEQ.width ∧
      (s.pressCode p ≠ 1 → t.fld R.SEAM_EVENTS_PRESS_DONE = 1) ∧ t.tb = s.tb ∧ FieldsKept s t goFields ∧
      (s.pressCode p = 1 → t.seam = s.pressTaken p ∧ (form ≠ .align → t.fld R.SEAM_STATUS_PRESS_BUSY = 1)) := by
  intro p t
  have ht : t = let u := if s.pressCode p = 1 then ({ s with seam := s.pressTaken p }).pressBusy else s
      let v := (u.next R.SEAM_PRESS_STATUS_SEQ).setFld R.SEAM_PRESS_STATUS_RESULT (s.pressCode p)
      if s.pressCode p = 1 then v else v.raise R.SEAM_EVENTS_PRESS_DONE := by
    have hp : p.form ≠ .abort := hform
    unfold t State.pressHost
    extract_lets q
    rw [show q = p from rfl, State.pressCheck_eq hp]
  have hlt : s.pressCode p % 2 ^ R.SEAM_PRESS_STATUS_RESULT.width = s.pressCode p := Nat.mod_eq_of_lt (s.pressCode_lt p)
  have hseq : R.SEAM_PRESS_STATUS_SEQ.key ≠ R.SEAM_PRESS_STATUS_RESULT.key := by decide
  rw [ht]
  by_cases h1 : s.pressCode p = 1
  · simp only [h1, if_true]
    have hu : FieldsKept s (({ s with seam := s.pressTaken p } : State).pressBusy) goFields :=
      ((FieldsKept.refl s _).of_regs (u := { s with seam := s.pressTaken p }) (by rfl)).trans
        ((onlyFields_pressBusy _).2.mono (by simp [goFields]))
    have hbusy : form ≠ .align → (({ s with seam := s.pressTaken p } : State).pressBusy).fld R.SEAM_STATUS_PRESS_BUSY = 1 := by
      intro hne
      have hne : ¬ p.form = .align := hne
      rw [State.pressBusy, State.fld_setFld_same]
      simp only [State.pressTaken, if_neg hne, Option.isSome_some, Bool.or_true, Bool.true_or, if_true]
      rfl
    have hseam : (({ s with seam := s.pressTaken p } : State).pressBusy).seam = s.pressTaken p := rfl
    have hseq0 : (({ s with seam := s.pressTaken p } : State).pressBusy).fld R.SEAM_PRESS_STATUS_SEQ = s.fld R.SEAM_PRESS_STATUS_SEQ :=
      State.fld_setFld_ne _ _ (by decide)
    have htb : (({ s with seam := s.pressTaken p } : State).pressBusy).tb = s.tb := rfl
    generalize ({ s with seam := s.pressTaken p } : State).pressBusy = u at *
    refine ⟨State.fld_setFld_same _ _ _, ?_, fun h => absurd rfl h, htb, (hu.next (by simp [goFields])).setFld _ (by simp [goFields]),
      fun _ => ⟨hseam, fun hne => ?_⟩⟩
    · rw [State.fld_setFld_ne _ _ hseq, State.fld_next, if_pos rfl, hseq0]
    · rw [State.fld_setFld_ne _ _ (by decide), State.fld_next, if_neg (by decide), hbusy hne]
  · simp only [h1, if_false]
    refine ⟨?_, ?_, fun _ => State.fld_raise_same _ _, rfl,
      (((FieldsKept.refl s _).next (by simp [goFields])).setFld _ (by simp [goFields])).raise (by simp [goFields]), fun h => h.elim⟩
    · rw [State.fld_raise, if_neg (by decide), State.fld_setFld_same, hlt]
    · rw [State.fld_raise, if_neg (by decide), State.fld_setFld_ne _ _ hseq, State.fld_next, if_pos rfl]

/-! ### Slews and completion -/

theorem State.stopSlew_eq (s : State) : ∃ regs tsv, s.stopSlew = { s with regs := regs, tsv := tsv, seam := { s.seam with slew := none } } := by
  unfold State.stopSlew
  cases hs : s.seam.slew with
  | none =>
    refine ⟨s.regs, s.tsv, ?_⟩
    have hseam : ({ s.seam with slew := none } : Seam) = s.seam := by rw [← hs]
    rw [hseam]
  | some w =>
    have h := (onlyFields_showSteer ((({ s with seam := { s.seam with slew := none }, tsv := { s.tsv with slew := 0 } } : State).setInt64
      R.SEAM_SLEW_REM_LO R.SEAM_SLEW_REM_HI 0).clr R.SEAM_STATUS_AUTO_SLEW)).1
    exact ⟨_, _, h⟩

@[simp] theorem State.stopSlew_tb (s : State) : s.stopSlew.tb = s.tb := by
  obtain ⟨regs, tsv, h⟩ := s.stopSlew_eq
  rw [h]

theorem State.stopSlew_seam (s : State) : s.stopSlew.seam = { s.seam with slew := none } := by
  obtain ⟨regs, tsv, h⟩ := s.stopSlew_eq
  rw [h]

/-- The slew in progress is gone, and REM shows nothing. -/
theorem State.stopSlew_some {s : State} {w : Slew} (hw : s.seam.slew = some w) :
    s.stopSlew.tsv.slew = 0 ∧ s.stopSlew.pair R.SEAM_SLEW_REM_LO R.SEAM_SLEW_REM_HI = 0 := by
  unfold State.stopSlew
  rw [hw]
  dsimp only
  have hslew : ({ s with seam := { s.seam with slew := none }, tsv := { s.tsv with slew := 0 } } : State).tsv.slew = 0 := rfl
  generalize ({ s with seam := { s.seam with slew := none }, tsv := { s.tsv with slew := 0 } } : State) = u at *
  have h := onlyFields_showSteer ((u.setInt64 R.SEAM_SLEW_REM_LO R.SEAM_SLEW_REM_HI 0).clr R.SEAM_STATUS_AUTO_SLEW)
  refine ⟨by rw [h.tsv]; exact hslew, ?_⟩
  have hpair : (u.setInt64 R.SEAM_SLEW_REM_LO R.SEAM_SLEW_REM_HI 0).pair R.SEAM_SLEW_REM_LO R.SEAM_SLEW_REM_HI = 0 :=
    u.pair_setPair (by decide) (by decide)
  rw [← hpair, State.pair, State.pair, h.2 _ (by decide), h.2 _ (by decide), State.fld_clr, if_neg (by decide), State.fld_clr,
    if_neg (by decide)]

/-- What a slew writes when it starts. -/
theorem State.startSlew_spec (s : State) (amt : Int) (auto : Bool) (by_ : Issuer) :
    let t := s.startSlew amt auto by_
    t.seam = { s.seam with slew := some { amt := amt, rate := s.slewRate, num := 0, moved := 0, auto := auto, by_ := by_ } } ∧
      t.tb = s.tb ∧ t.fld R.SEAM_STATUS_PRESS_BUSY = 1 ∧
      t.pair R.SEAM_SLEW_REM_LO R.SEAM_SLEW_REM_HI = ofSigned 64 amt ∧
      FieldsKept s t (R.SEAM_STATUS_PRESS_BUSY :: slewFields) := by
  intro t
  unfold t State.startSlew
  extract_lets rate sign m v s1 s2
  have hseam1 : s1.seam = { s.seam with slew := some { amt := amt, rate := s.slewRate, num := 0, moved := 0, auto := auto, by_ := by_ } } := rfl
  have htb1 : s1.tb = s.tb := rfl
  have hregs1 : s1.regs = s.regs := rfl
  clear_value s1
  have hpair2 : s2.pair R.SEAM_SLEW_REM_LO R.SEAM_SLEW_REM_HI = ofSigned 64 amt := s1.pair_setPair (by decide) (ofSigned_lt 64 amt)
  have h12 : OnlyFields s1 s2 slewFields := (OnlyFields.refl s1 _).setPair _ (by simp [slewFields]) (by simp [slewFields])
  have h23 : OnlyFields s2 (if auto then s2.raise R.SEAM_STATUS_AUTO_SLEW else s2) [R.SEAM_STATUS_AUTO_SLEW] :=
    ((OnlyFields.refl s2 _).raise (by simp)).ite (OnlyFields.refl s2 _)
  generalize (if auto = true then s2.raise R.SEAM_STATUS_AUTO_SLEW else s2) = s3 at *
  have h34 := onlyFields_showSteer s3
  have h45 := onlyFields_pressBusy s3.showSteer
  clear_value s2
  have hseam4 : s3.showSteer.seam = s1.seam := by rw [h34.seam, h23.seam, h12.seam]
  refine ⟨by rw [h45.seam, hseam4, hseam1], by rw [h45.tb, h34.tb, h23.tb, h12.tb, htb1], ?_, ?_, ?_⟩
  · rw [State.pressBusy, State.fld_setFld_same, hseam4, hseam1]
    rfl
  · rw [← hpair2, State.pair, State.pair, h45.2 _ (by decide), h45.2 _ (by decide), h34.2 _ (by decide), h34.2 _ (by decide),
      h23.2 _ (by decide), h23.2 _ (by decide)]
  · have h1 : FieldsKept s s1 (R.SEAM_STATUS_PRESS_BUSY :: slewFields) := (FieldsKept.refl s _).of_regs hregs1
    exact (((h1.trans (h12.2.mono fun _ => List.mem_cons_of_mem _)).trans (h23.2.mono (by simp [slewFields]))).trans
      (h34.2.mono fun _ hg => List.mem_cons_of_mem _ (mem_slewFields_of_steer hg))).trans (h45.2.mono (by simp))

/-- The status with which a PRESS ends. -/
theorem State.pressFinish_spec (s : State) {code : Nat} (hcode : code < 8) :
    let t := s.pressFinish code
    t.fld R.SEAM_PRESS_STATUS_RESULT = code ∧ t.fld R.SEAM_EVENTS_PRESS_DONE = 1 ∧ OnlyFields s t goFields := by
  intro t
  have hr : R.SEAM_PRESS_STATUS_RESULT.key ≠ R.SEAM_EVENTS_PRESS_DONE.key := by decide
  refine ⟨?_, ?_, ?_⟩
  · unfold t State.pressFinish State.pressBusy
    rw [State.fld_setFld_ne _ _ (by decide), State.fld_raise, if_neg hr, State.fld_setFld_same]
    exact Nat.mod_eq_of_lt hcode
  · unfold t State.pressFinish State.pressBusy
    rw [State.fld_setFld_ne _ _ (by decide), State.fld_raise_same]
    rfl
  · exact (((OnlyFields.refl s _).setFld _ (by simp [goFields])).raise (by simp [goFields])).trans
      ((onlyFields_pressBusy _).mono (by simp [goFields]))

/-- An automatic slew that waited: PRESS and the time base stay. -/
theorem State.resumeAuto_spec (s : State) : s.resumeAuto.tb = s.tb ∧ s.resumeAuto.seam.press = s.seam.press ∧
    (s.seam.autoWait = false → s.resumeAuto = s) ∧ FieldsKept s s.resumeAuto (R.SEAM_STATUS_PRESS_BUSY :: slewFields) := by
  unfold State.resumeAuto
  split
  next h =>
    obtain ⟨hseam, htb, -, -, hf⟩ := ({ s with seam := { s.seam with autoWait := false } } : State).startSlew_spec
      (-s.buildout s.selected) true .seam
    refine ⟨htb, by rw [hseam], fun hw => absurd h.1 (by simp [hw]), ?_⟩
    exact FieldsKept.trans ((FieldsKept.refl s _).of_regs (by rfl)) hf
  next h => exact ⟨rfl, rfl, fun _ => rfl, FieldsKept.refl s _⟩

/-- Stopping the commanded slew. -/
theorem State.abortSlew_spec (s : State) : s.abortSlew.tb = s.tb ∧ s.abortSlew.seam.press = s.seam.press ∧
    (s.seam.autoWait = false → s.abortSlew.seam.slew = none) := by
  unfold State.abortSlew
  split
  next h => exact ⟨rfl, rfl, fun _ => h⟩
  next w h =>
    extract_lets s1
    have hseam : s1.seam = { s.seam with slew := none } := s.stopSlew_seam
    have htb : s1.tb = s.tb := s.stopSlew_tb
    clear_value s1
    split
    · exact ⟨htb, by rw [(onlyFields_pressBusy s1).seam, hseam], fun _ => by rw [(onlyFields_pressBusy s1).seam, hseam]⟩
    · obtain ⟨-, -, hfin⟩ := s1.pressFinish_spec (code := 5) (by decide)
      obtain ⟨htb', hpress', hsame, -⟩ := (s1.pressFinish 5).resumeAuto_spec
      refine ⟨by rw [htb', hfin.tb, htb], by rw [hpress', hfin.seam, hseam], fun hw => ?_⟩
      rw [hsame (by rw [hfin.seam, hseam, hw]), hfin.seam, hseam]

theorem State.pressAbort_spec (s : State) : s.pressAbort.tb = s.tb ∧ s.pressAbort.seam.press = none ∧
    (s.seam.autoWait = false → s.pressAbort.seam.slew = none) := by
  obtain ⟨htb, hpress, hslew⟩ := s.abortSlew_spec
  unfold State.pressAbort
  extract_lets s1
  split
  next p h =>
    obtain ⟨-, -, hfin⟩ := ({ s1 with seam := { s1.seam with press := none } } : State).pressFinish_spec (code := 5) (by decide)
    exact ⟨by rw [hfin.tb]; exact htb, by rw [hfin.seam], fun hw => by rw [hfin.seam]; exact hslew hw⟩
  next h => exact ⟨htb, h, hslew⟩

/-! ### A STEP -/

/-- What is read of one index after a fold over all is what the step of that index gave. -/
theorem foldl_read {σ β : Type} {f : σ → Nat → σ} {q : σ → β} {k : Nat} (hother : ∀ s j, j ≠ k → q (f s j) = q s)
    {l : List Nat} (hk : k ∈ l) (hl : l.Nodup) (s : σ) : ∃ u, q u = q s ∧ q (l.foldl f s) = q (f u k) := by
  have hskip : ∀ (l : List Nat) (s : σ), k ∉ l → q (l.foldl f s) = q s := by
    intro l
    induction l with
    | nil => exact fun s _ => rfl
    | cons j l ih =>
      intro s hj
      rw [List.mem_cons, not_or] at hj
      exact (ih (f s j) hj.2).trans (hother s j (Ne.symm hj.1))
  obtain ⟨before, after, rfl⟩ := List.append_of_mem hk
  obtain ⟨-, hafter, hbefore⟩ := List.nodup_append.mp hl
  refine ⟨before.foldl f s, hskip before s fun hm => hbefore k hm k (by simp) rfl, ?_⟩
  rw [List.foldl_append, List.foldl_cons]
  exact hskip after _ (List.nodup_cons.mp hafter).1

/-- The standoff that an output shows. -/
def State.standoffReg (s : State) (k : Nat) : Nat := s.pair (R.PPS_STANDOFF_LO k) (R.PPS_STANDOFF_HI k)

theorem State.standoffReg_setStandoff (s : State) (j k : Nat) (v : Int) :
    (s.setStandoff j v).standoffReg k = if k = j then ofSigned 64 v else s.standoffReg k := by
  unfold State.setStandoff State.standoffReg
  split
  next h =>
    subst h
    refine s.pair_setPair ?_ (ofSigned_lt 64 v)
    simp only [ne_eq, Fld.key, R.PPS_STANDOFF_LO, R.PPS_STANDOFF_HI]
    omega
  next h =>
    have hkeys : (R.PPS_STANDOFF_LO k).key ≠ (R.PPS_STANDOFF_LO j).key ∧ (R.PPS_STANDOFF_LO k).key ≠ (R.PPS_STANDOFF_HI j).key ∧
        (R.PPS_STANDOFF_HI k).key ≠ (R.PPS_STANDOFF_LO j).key ∧ (R.PPS_STANDOFF_HI k).key ≠ (R.PPS_STANDOFF_HI j).key := by
      simp only [ne_eq, Fld.key, R.PPS_STANDOFF_LO, R.PPS_STANDOFF_HI]
      omega
    obtain ⟨hll, hlh, hhl, hhh⟩ := hkeys
    rw [State.setInt64, State.setPair_eq, State.pair, State.pair, State.fld_setFld_ne _ _ hlh, State.fld_setFld_ne _ _ hll,
      State.fld_setFld_ne _ _ hhh, State.fld_setFld_ne _ _ hhl]

/-- The fields of the standoffs. -/
def standoffFields (l : List Nat) : List Fld := l.flatMap fun k => [R.PPS_STANDOFF_LO k, R.PPS_STANDOFF_HI k]

/-- Only the pulse outputs and their standoffs change. -/
def OutsOnly (s t : State) : Prop := t = { s with regs := t.regs, outs := t.outs } ∧ FieldsKept s t (standoffFields (List.range 8))

theorem OutsOnly.refl (s : State) : OutsOnly s s := ⟨rfl, FieldsKept.refl s _⟩

theorem OutsOnly.trans {s t u : State} (h : OutsOnly s t) (h' : OutsOnly t u) : OutsOnly s u := by
  refine ⟨?_, h.2.trans h'.2⟩
  rw [h'.1, h.1]

theorem outsOnly_setStandoff (s : State) {k : Nat} (hk : k < 8) (v : Int) : OutsOnly s (s.setStandoff k v) := by
  have hmem : R.PPS_STANDOFF_LO k ∈ standoffFields (List.range 8) ∧ R.PPS_STANDOFF_HI k ∈ standoffFields (List.range 8) := by
    simp only [standoffFields, List.mem_flatMap, List.mem_range]
    exact ⟨⟨k, hk, by simp⟩, ⟨k, hk, by simp⟩⟩
  exact ⟨rfl, (FieldsKept.refl s _).setPair _ hmem.1 hmem.2⟩

theorem outsOnly_setPulse (s : State) (k : Nat) (p : Pulse) : OutsOnly s (s.setPulse k p) := ⟨rfl, (FieldsKept.refl s _).of_regs (by rfl)⟩

theorem outsOnly_foldl {f : State → Nat → State} (hf : ∀ s k, k < 8 → OutsOnly s (f s k)) (s : State) :
    OutsOnly s ((List.range 8).foldl f s) := by
  have h : ∀ l : List Nat, (∀ k ∈ l, k < 8) → ∀ s, OutsOnly s (l.foldl f s) := by
    intro l
    induction l with
    | nil => exact fun _ s => OutsOnly.refl s
    | cons k l ih => exact fun hl s => (hf s k (hl k (by simp))).trans (ih (fun j hj => hl j (by simp [hj])) _)
  exact h _ (fun k hk => List.mem_range.mp hk) s

theorem outsOnly_standoffStep1 (s : State) (amt : Int) (mask : Nat) {k : Nat} (hk : k < 8) : OutsOnly s (s.standoffStep1 amt mask k) := by
  unfold State.standoffStep1 State.realign
  split
  · exact (outsOnly_setStandoff s hk _).trans (outsOnly_setPulse _ _ _)
  · exact (outsOnly_setStandoff s hk _).trans (outsOnly_setPulse _ _ _)

theorem State.standoffStep1_reg (s : State) (amt : Int) (mask j k : Nat) : (s.standoffStep1 amt mask j).standoffReg k =
    if k = j then (if mask.testBit k then 0 else ofSigned 64 (s.standoff k + amt)) else s.standoffReg k := by
  have hset (u : State) (p : Pulse) : (u.setPulse j p).standoffReg k = u.standoffReg k := rfl
  unfold State.standoffStep1 State.realign
  by_cases hj : k = j
  · subst hj
    by_cases hm : mask.testBit k = true
    · rw [if_pos hm, if_pos rfl, if_pos hm, hset, State.standoffReg_setStandoff, if_pos rfl]
      rfl
    · rw [if_neg hm, if_pos rfl, if_neg hm, hset, State.standoffReg_setStandoff, if_pos rfl]
  · by_cases hm : mask.testBit j = true
    · rw [if_pos hm, if_neg hj, hset, State.standoffReg_setStandoff, if_neg hj]
    · rw [if_neg hm, if_neg hj, hset, State.standoffReg_setStandoff, if_neg hj]

theorem State.standoffStep_reg (s : State) (amt : Int) (mask : Nat) {k : Nat} (hk : k < 8) : (s.standoffStep amt mask).standoffReg k =
    if mask.testBit k then 0 else ofSigned 64 (s.standoff k + amt) := by
  obtain ⟨u, hu, hfold⟩ := foldl_read (f := fun s k => s.standoffStep1 amt mask k) (q := fun s => s.standoffReg k) (k := k)
    (fun s j hj => by rw [State.standoffStep1_reg, if_neg (Ne.symm hj)]) (List.mem_range.mpr hk) List.nodup_range s
  have hstand : u.standoff k = s.standoff k := congrArg (toSigned 64) hu
  rw [State.standoffStep]
  exact hfold.trans (by rw [State.standoffStep1_reg, if_pos rfl, hstand])

theorem State.setBuildout_spec (s : State) (n : Nat) (v : Int) :
    let t := s.setBuildout n v
    t.buildout n = v ∧ t.seam = { s.seam with bo := t.seam.bo } ∧ FieldsKept s t [R.SEAM_BUILDOUT_LO, R.SEAM_BUILDOUT_HI] := by
  intro t
  unfold t State.setBuildout
  extract_lets m s1
  have h1 : FieldsKept s s1 [R.SEAM_BUILDOUT_LO, R.SEAM_BUILDOUT_HI] := (FieldsKept.refl s _).of_regs (by rfl)
  have hbo : s1.buildout n = v := Tab.get_set_same ..
  have hseam : s1.seam = { s.seam with bo := s1.seam.bo } := rfl
  clear_value s1
  split
  · exact ⟨hbo, hseam, h1.setPair _ (by simp) (by simp)⟩
  · exact ⟨hbo, hseam, h1⟩

/-- The fields that a STEP writes before it completes. -/
def stepFields : List Fld := [R.SEAM_BUILDOUT_LO, R.SEAM_BUILDOUT_HI] ++ standoffFields (List.range 8)

/-- The actions of a STEP (R126). -/
theorem State.stepActions_spec (s : State) (amt : Int) (align : Bool) (mask : Nat) :
    let t := s.stepActions amt align mask
    t.tb = (s.moveHub amt).tb ∧ t.seam = { s.seam with bo := t.seam.bo } ∧
      (s.selected < 48 → t.buildout s.selected = s.buildout s.selected + amt) ∧
      (∀ k < 8, t.standoffReg k = if align = true ∧ mask.testBit k = true then 0 else ofSigned 64 (s.standoff k + amt)) ∧
      FieldsKept s t stepFields := by
  intro t
  unfold t State.stepActions
  extract_lets s1 s2
  have h1 : s1 = s.moveHub amt := rfl
  have h2 : s2.tb = s1.tb ∧ s2.seam = { s.seam with bo := s2.seam.bo } ∧
      (s.selected < 48 → s2.buildout s.selected = s.buildout s.selected + amt) ∧
      FieldsKept s s2 [R.SEAM_BUILDOUT_LO, R.SEAM_BUILDOUT_HI] := by
    have hregs : FieldsKept s s1 [R.SEAM_BUILDOUT_LO, R.SEAM_BUILDOUT_HI] := (FieldsKept.refl s _).of_regs (by rfl)
    unfold s2
    split
    · obtain ⟨hbo, hseam, hf⟩ := s1.setBuildout_spec s1.selected (s1.buildout s1.selected + amt)
      exact ⟨State.setBuildout_tb .., hseam, fun _ => hbo, hregs.trans hf⟩
    next hsel => exact ⟨rfl, rfl, fun h => absurd h hsel, hregs⟩
  obtain ⟨htb, hseam, hbo, hf⟩ := h2
  have hstand (k : Nat) (hk : k < 8) : s2.standoff k = s.standoff k := by
    have hkeys : (∀ g ∈ [R.SEAM_BUILDOUT_LO, R.SEAM_BUILDOUT_HI], (R.PPS_STANDOFF_LO k).key ≠ g.key) ∧
        ∀ g ∈ [R.SEAM_BUILDOUT_LO, R.SEAM_BUILDOUT_HI], (R.PPS_STANDOFF_HI k).key ≠ g.key := by
      simp only [List.forall_mem_cons, Fld.key, R.PPS_STANDOFF_LO, R.PPS_STANDOFF_HI, R.SEAM_BUILDOUT_LO, R.SEAM_BUILDOUT_HI]
      exact ⟨⟨by omega, by omega, by simp⟩, ⟨by omega, by omega, by simp⟩⟩
    rw [State.standoff, State.standoff, State.int64, State.int64, State.pair, State.pair, hf _ hkeys.1, hf _ hkeys.2]
  clear_value s2
  have houts : OutsOnly s2 (s2.standoffStep amt (if align then mask else 0)) :=
    outsOnly_foldl (fun u k hk => outsOnly_standoffStep1 u amt _ hk) s2
  refine ⟨by rw [houts.1, htb, h1], ?_, fun hsel => ?_, fun k hk => ?_, ?_⟩
  · have hs : (s2.standoffStep amt (if align then mask else 0)).seam = s2.seam := by rw [houts.1]
    rw [hs, hseam]
  · have hs : (s2.standoffStep amt (if align then mask else 0)).seam = s2.seam := by rw [houts.1]
    rw [State.buildout, hs]
    exact hbo hsel
  · rw [State.standoffStep_reg _ _ _ hk, hstand k hk]
    cases align <;> simp
  · exact (hf.mono fun g hg => List.mem_append_left _ hg).trans (houts.2.mono fun g hg => List.mem_append_right _ hg)

/-- The fields of the leap check. -/
def leapFields : List Fld :=
  [R.TB_UTC_OFFSET_OFFSET, R.TB_STATUS_LEAP_ARMED, R.TB_STATUS_LEAP_DONE, R.TB_STATUS_LEAP_ACTIVE]

theorem onlyFields_leapCheck (s : State) : OnlyFields s s.leapCheck leapFields := by
  have h0 := OnlyFields.refl s leapFields
  unfold State.leapCheck
  extract_lets s1
  have h1 : OnlyFields s s1 leapFields := h0.setFld _ (by simp [leapFields])
  exact ((((h1.clr (by simp [leapFields])).raise (by simp [leapFields])).clr (by simp [leapFields])).ite
    ((h0.setFld _ (by simp [leapFields])).ite h0)).ite h0

/-- A step completes: its status, the order of the candidates, and the leap check of its tick. -/
theorem State.stepDone_spec (s : State) :
    let t := ((s.pressFinish 0).reform).leapCheck
    t.fld R.SEAM_PRESS_STATUS_RESULT = 0 ∧ t.fld R.SEAM_EVENTS_PRESS_DONE = 1 ∧ t.tb = s.tb ∧
      t.seam = { s.seam with wtr := t.seam.wtr } ∧ FieldsKept s t (goFields ++ reformFields ++ leapFields) := by
  intro t
  obtain ⟨hres, hdone, hfin⟩ := s.pressFinish_spec (code := 0) (by decide)
  have href := (s.pressFinish 0).reform_fieldsKept
  have hleap := onlyFields_leapCheck (s.pressFinish 0).reform
  refine ⟨?_, ?_, by rw [hleap.tb, State.reform_tb, hfin.tb], ?_, ?_⟩
  · rw [hleap.2 _ (by decide), href _ (by decide), hres]
  · rw [hleap.2 _ (by decide), href _ (by decide), hdone]
  · rw [hleap.seam, State.reform_seam, hfin.seam]
  · exact ((hfin.2.mono fun g hg => List.mem_append_left _ (List.mem_append_left _ hg)).trans
      (href.mono fun g hg => List.mem_append_left _ (List.mem_append_right _ hg))).trans
      (hleap.2.mono fun g hg => List.mem_append_right _ hg)

theorem standoff_notDone {k : Nat} (hk : k < 8) : (∀ g ∈ goFields ++ reformFields ++ leapFields, (R.PPS_STANDOFF_LO k).key ≠ g.key) ∧
    ∀ g ∈ goFields ++ reformFields ++ leapFields, (R.PPS_STANDOFF_HI k).key ≠ g.key := by
  have hbelow : ∀ g ∈ goFields ++ reformFields ++ leapFields, g.key < 0x05040000 * 32 := by decide
  refine ⟨fun g hg => ?_, fun g hg => ?_⟩
  all_goals
    have h := hbelow g hg
    simp only [Fld.key, R.PPS_STANDOFF_LO, R.PPS_STANDOFF_HI] at *
    omega

theorem does_pressStepApply {s : State} {p : Press} (hp : s.powered = true) (hpress : s.seam.press = some p) (hform : p.form = .step)
    (hat : p.at_ ≤ s.hubSec) (hf : s.seamFenced = false) (htarget : p.target = 0x3F) :
    Does .pressStepApply s fun t => t.tb.now = ((s.tb.now : Int) + p.amt).toNat ∧ t.tb.elapsed = s.tb.elapsed ∧
      t.seam.press = none ∧ t.fld R.SEAM_PRESS_STATUS_RESULT = 0 ∧ t.fld R.SEAM_EVENTS_PRESS_DONE = 1 ∧
      (s.selected < 48 → t.buildout s.selected = s.buildout s.selected + p.amt) ∧
      (∀ k : Fin 8, t.pair (R.PPS_STANDOFF_LO k) (R.PPS_STANDOFF_HI k)
        = if p.align = true ∧ p.mask.testBit k = true then 0 else ofSigned 64 (s.standoff k + p.amt)) ∧ MemKept s t := by
  have he : exec .pressStepApply s = s.live s.pressStepApply := rfl
  have hmem : MemKept s s.pressStepApply := memKept_of_memory s.pressStepApply_memory
  have heq : s.pressStepApply = (((({ s with seam := { s.seam with press := none } } : State).stepActions p.amt p.align p.mask).pressFinish
      0).reform).leapCheck := by
    have hamount : ({ s with seam := { s.seam with press := none } } : State).pressAmount p = (0, p.amt) := if_pos htarget
    have hdue : s.dueStep = some p := by
      rw [State.dueStep, hpress]
      exact if_pos ⟨hform, hat⟩
    have hopen : ({ s with seam := { s.seam with press := none } } : State).seamFenced = s.seamFenced := rfl
    rw [State.pressStepApply, hdue]
    simp only [State.applyStep, hopen, hf, Bool.false_eq_true, if_false, hamount, htarget, if_true]
  rw [heq] at hmem
  refine does_live he hp ?_
  rw [heq]
  obtain ⟨htb, hseam, hbo, hstand, -⟩ := ({ s with seam := { s.seam with press := none } } : State).stepActions_spec p.amt p.align p.mask
  generalize ({ s with seam := { s.seam with press := none } } : State).stepActions p.amt p.align p.mask = u at *
  obtain ⟨hres, hdone, htb', hseam', hkept⟩ := u.stepDone_spec
  refine ⟨by rw [htb', htb]; rfl, by rw [htb', htb]; rfl, by rw [hseam', hseam], hres, hdone, fun hsel => ?_, fun k => ?_, hmem⟩
  · rw [State.buildout, hseam']
    exact hbo hsel
  · obtain ⟨hlo, hhi⟩ := standoff_notDone k.isLt
    rw [State.pair, hkept _ hlo, hkept _ hhi]
    exact hstand k k.isLt

theorem does_acquisitionStep {s : State} {n : Fin 48} (hp : s.powered = true) (hacq : s.seam.acq.map (·.1) = some (n : Nat))
    (hat : (s.seam.acq.map (·.2)).getD 0 ≤ s.hubSec) (hf : s.seamFenced = false) (hoff : s.hasOffset n = true) :
    Does .acquisitionStep s fun t => t.tb.now = ((s.tb.now : Int) - s.toff n).toNat ∧ t.tb.elapsed = s.tb.elapsed ∧
      t.seam.acq = none ∧ t.buildout n = 0 ∧ t.fld (R.QUAL_CAND_STATE_STEPPED n) = 0 ∧
      t.fld R.SEAM_PRESS_STATUS_RESULT = 0 ∧ MemKept s t := by
  have he : exec .acquisitionStep s = s.live s.acquisitionStep := rfl
  have hn := n.isLt
  have hmem : MemKept s s.acquisitionStep := memKept_of_memory s.acquisitionStep_memory
  have heq : s.acquisitionStep = ((((((({ s with seam := { s.seam with acq := none, ins := [], lockFrom := none, unlockN := 0 } } : State).stepActions
      (-s.toff n) (s.flag R.SEAM_CTL_ACQ_ALIGN) 0xFF).setBuildout n 0).clearStepped n).pressFinish 0).reform).leapCheck) := by
    have hdue : s.dueAcquisition = some (n : Nat) := by
      rw [State.dueAcquisition]
      cases hs : s.seam.acq with
      | none => simp [hs] at hacq
      | some e =>
        obtain ⟨m, b⟩ := e
        rw [hs] at hacq hat
        obtain rfl : m = n := by simpa using hacq
        exact if_pos hat
    rw [State.acquisitionStep, hdue]
    simp only [State.applyAcquisition, hf, hoff, Bool.false_eq_true, not_true, or_self, if_false]
    rfl
  rw [heq] at hmem
  refine does_live he hp ?_
  rw [heq]
  obtain ⟨htb, hseam, -, -, -⟩ := ({ s with seam := { s.seam with acq := none, ins := [], lockFrom := none, unlockN := 0 } } : State).stepActions_spec
    (-s.toff n) (s.flag R.SEAM_CTL_ACQ_ALIGN) 0xFF
  generalize ({ s with seam := { s.seam with acq := none, ins := [], lockFrom := none, unlockN := 0 } } : State).stepActions
    (-s.toff n) (s.flag R.SEAM_CTL_ACQ_ALIGN) 0xFF = u at *
  obtain ⟨hbo, hseam2, -⟩ := u.setBuildout_spec n 0
  have htb2 := State.setBuildout_tb u n 0
  generalize u.setBuildout n 0 = v at *
  obtain ⟨hres, -, htb', hseam', hkept⟩ := (v.clearStepped n).stepDone_spec
  have hcseam : (v.clearStepped n).seam = v.seam := rfl
  have hctb : (v.clearStepped n).tb = v.tb := rfl
  refine ⟨?_, ?_, by rw [hseam', hcseam, hseam2, hseam], ?_, ?_, hres, hmem⟩
  · rw [htb', hctb, htb2, htb]
    exact congrArg Int.toNat (Int.sub_eq_add_neg).symm
  · rw [htb', hctb, htb2, htb]
    rfl
  · rw [State.buildout, hseam', hcseam]
    exact hbo
  · have hkey : ∀ g ∈ goFields ++ reformFields ++ leapFields, (R.QUAL_CAND_STATE_STEPPED n).key ≠ g.key := by
      have hother : ∀ g ∈ goFields ++ reformFields ++ leapFields, g.key < 0x05021000 * 32 ∨ 0x05030000 * 32 ≤ g.key := by decide
      intro g hg
      have h := hother g hg
      simp only [Fld.key, R.QUAL_CAND_STATE_STEPPED] at *
      omega
    rw [hkept _ hkey]
    show ((v.clr (R.QUAL_CAND_STATE_STEPPED n)).clr (R.QUAL_CAND_EVENTS_STEPPED_SET n)).fld (R.QUAL_CAND_STATE_STEPPED n) = 0
    rw [State.fld_clr, State.fld_clr, if_pos rfl, ite_self]

/-! ### ALIGN, SLEW and the end of a slew -/

theorem State.alignOutputs_standoff (s : State) (mask : Nat) {k : Nat} (hk : k < 8) :
    (s.alignOutputs mask).standoff k = if mask.testBit k then 0 else s.standoff k := by
  have hstep (u : State) (j : Nat) : (if mask.testBit j then u.setStandoff j 0 else u).standoff k =
      if k = j ∧ mask.testBit k = true then 0 else u.standoff k := by
    by_cases hj : k = j
    · subst hj
      by_cases hm : mask.testBit k = true
      · rw [if_pos hm, if_pos ⟨rfl, hm⟩]
        exact congrArg (toSigned 64) ((u.standoffReg_setStandoff k k 0).trans (if_pos rfl))
      · rw [if_neg hm, if_neg (fun h : k = k ∧ mask.testBit k = true => hm h.2)]
    · rw [if_neg (fun h : k = j ∧ mask.testBit k = true => hj h.1)]
      split
      · exact congrArg (toSigned 64) ((u.standoffReg_setStandoff j k 0).trans (if_neg hj))
      · rfl
  obtain ⟨u, hu, hfold⟩ := foldl_read (f := fun u j => if mask.testBit j then u.setStandoff j 0 else u)
    (q := fun u => State.standoff u k) (k := k) (fun u j hj => by rw [hstep, if_neg (fun h => hj h.1.symm)])
    (List.mem_range.mpr hk) List.nodup_range s
  rw [State.alignOutputs, hfold]
  refine (hstep u k).trans ?_
  rw [hu]
  simp

theorem outsOnly_alignOutputs (s : State) (mask : Nat) : OutsOnly s (s.alignOutputs mask) := by
  refine outsOnly_foldl (fun u k hk => ?_) s
  split
  · exact outsOnly_setStandoff u hk 0
  · exact OutsOnly.refl u

theorem does_pressAlignApply {s : State} {p : Press} (hp : s.powered = true) (haligns : s.seam.aligns = [p]) (hat : p.at_ ≤ s.hubSec)
    (hf : s.seamFenced = false) :
    Does .pressAlignApply s fun t => t.seam.aligns = [] ∧ t.fld R.SEAM_PRESS_STATUS_RESULT = 0 ∧ t.tb = s.tb ∧
      (∀ k : Fin 8, t.standoff k = if p.mask.testBit k = true then 0 else s.standoff k) ∧ MemKept s t := by
  have he : exec .pressAlignApply s = s.live s.pressAlignApply := rfl
  have hmem : MemKept s s.pressAlignApply := memKept_of_memory s.pressAlignApply_memory
  have heq : s.pressAlignApply = (({ s with seam := { s.seam with aligns := [] } } : State).alignOutputs p.mask).pressFinish 0 := by
    have hopen : ({ s with seam := { s.seam with aligns := [] } } : State).seamFenced = s.seamFenced := rfl
    rw [State.pressAlignApply]
    simp only [haligns, List.filter_cons, hat, decide_true, if_true, List.filter_nil, List.foldl_cons, List.foldl_nil,
      Nat.not_lt.mpr hat, decide_false, Bool.false_eq_true, if_false]
    rw [hopen, hf]
    rfl
  rw [heq] at hmem
  refine does_live he hp ?_
  rw [heq]
  have hstand (k : Nat) (hk : k < 8) := ({ s with seam := { s.seam with aligns := [] } } : State).alignOutputs_standoff p.mask hk
  have houts := outsOnly_alignOutputs { s with seam := { s.seam with aligns := [] } } p.mask
  generalize ({ s with seam := { s.seam with aligns := [] } } : State).alignOutputs p.mask = u at *
  obtain ⟨hres, -, hfin⟩ := u.pressFinish_spec (code := 0) (by decide)
  refine ⟨by rw [hfin.seam, houts.1], hres, by rw [hfin.tb, houts.1], fun k => ?_, hmem⟩
  obtain ⟨hlo, hhi⟩ := standoff_notDone k.isLt
  refine Eq.trans ?_ (hstand k k.isLt)
  rw [State.standoff, State.standoff, State.int64, State.int64, State.pair, State.pair,
    hfin.2 _ fun g hg => hlo g (List.mem_append_left _ (List.mem_append_left _ hg)),
    hfin.2 _ fun g hg => hhi g (List.mem_append_left _ (List.mem_append_left _ hg))]

theorem does_slewStart {s : State} {p : Press} (hp : s.powered = true) (hpress : s.seam.press = some p) (hform : p.form = .slew)
    (hat : p.at_ ≤ s.hubSec) (hf : s.seamFenced = false) (htarget : p.target = 0x3F) :
    Does .slewStart s fun t => t.seam.slew = some { amt := p.amt, rate := s.slewRate, num := 0, moved := 0, auto := false,
                                                    by_ := p.by_ } ∧
      t.seam.press = none ∧ t.fld R.SEAM_STATUS_PRESS_BUSY = 1 ∧
      t.pair R.SEAM_SLEW_REM_LO R.SEAM_SLEW_REM_HI = ofSigned 64 p.amt ∧ MemKept s t := by
  have he : exec .slewStart s = s.live s.slewStart := rfl
  have hmem : MemKept s s.slewStart := memKept_of_memory s.slewStart_memory
  have heq : ∃ wait, s.slewStart = (({ ({ s with seam := { s.seam with press := none } } : State).stopSlew with
      seam := { ({ s with seam := { s.seam with press := none } } : State).stopSlew.seam with autoWait := wait } } : State).startSlew
        p.amt false p.by_) := by
    have hopen : ({ s with seam := { s.seam with press := none } } : State).seamFenced = s.seamFenced := rfl
    have hamount : ({ s with seam := { s.seam with press := none } } : State).pressAmount p = (0, p.amt) := if_pos htarget
    unfold State.slewStart
    rw [hpress]
    dsimp only
    rw [if_pos ⟨hform, hat⟩, hopen, hf, hamount]
    exact ⟨_, rfl⟩
  obtain ⟨wait, heq⟩ := heq
  rw [heq] at hmem
  refine does_live he hp ?_
  rw [heq]
  have hseam := ({ s with seam := { s.seam with press := none } } : State).stopSlew_seam
  have hrate : ({ s with seam := { s.seam with press := none } } : State).stopSlew.slewRate = s.slewRate :=
    congrArg (fun v => min 655360 (max 1 v)) (State.stopSlew_fieldsKept { s with seam := { s.seam with press := none } } R.SEAM_SLEW_RATE_RATE
      (by decide))
  generalize ({ s with seam := { s.seam with press := none } } : State).stopSlew = u at *
  obtain ⟨hs, -, hbusy, hrem, -⟩ := ({ u with seam := { u.seam with autoWait := wait } } : State).startSlew_spec p.amt false p.by_
  have hrate' : ({ u with seam := { u.seam with autoWait := wait } } : State).slewRate = u.slewRate := rfl
  refine ⟨by rw [hs, hrate', hrate], ?_, hbusy, hrem, hmem⟩
  rw [hs]
  show u.seam.press = none
  rw [hseam]

/-- The last part of a slew, which makes up its total. -/
def State.slewMoved (s : State) (w : Slew) : State :=
  let rest := (if w.amt < 0 then -1 else 1) * ((w.amt.natAbs - w.moved : Nat) : Int)
  let u : State := { s with tb := { s.tb with slewed := s.tb.slewed + rest } }
  if u.selected < 48 then u.setBuildout u.selected (u.buildout u.selected + rest) else u

theorem State.slewMoved_spec (s : State) (w : Slew) : (s.slewMoved w).tb.slewed
      = s.tb.slewed + (if w.amt < 0 then -1 else 1) * ((w.amt.natAbs - w.moved : Nat) : Int) ∧
    (s.slewMoved w).seam = { s.seam with bo := (s.slewMoved w).seam.bo } := by
  unfold State.slewMoved
  extract_lets rest v u
  split
  · exact ⟨congrArg TimeBase.slewed (State.setBuildout_tb ..), (u.setBuildout_spec _ _).2.1⟩
  · exact ⟨rfl, rfl⟩

theorem State.slewEnd_eq {s : State} {w : Slew} (hw : s.seam.slew = some w) (hdone : w.amt.natAbs ≤ w.moved + 1) : s.slewEnd =
    if w.auto then (s.slewMoved w).stopSlew.pressBusy else ((s.slewMoved w).stopSlew.pressFinish 0).resumeAuto := by
  rw [State.slewEnd, hw]
  exact if_pos hdone

theorem does_slewEnd {s : State} {w : Slew} (hp : s.powered = true) (hw : s.seam.slew = some w) (hdone : w.amt.natAbs ≤ w.moved + 1) :
    Does .slewEnd s fun t =>
      (w.auto = true ∨ s.seam.autoWait = false →
        t.seam.slew = none ∧ t.tsv.slew = 0 ∧ t.pair R.SEAM_SLEW_REM_LO R.SEAM_SLEW_REM_HI = 0) ∧
      t.tb.slewed = s.tb.slewed + (if w.amt < 0 then -1 else 1) * ((w.amt.natAbs - w.moved : Nat) : Int) ∧
      (w.auto = false → t.fld R.SEAM_PRESS_STATUS_RESULT = 0 ∧ t.fld R.SEAM_EVENTS_PRESS_DONE = 1) ∧ MemKept s t := by
  have he : exec .slewEnd s = s.live s.slewEnd := rfl
  refine does_live he hp ?_
  suffices h : (w.auto = true ∨ s.seam.autoWait = false →
        s.slewEnd.seam.slew = none ∧ s.slewEnd.tsv.slew = 0 ∧ s.slewEnd.pair R.SEAM_SLEW_REM_LO R.SEAM_SLEW_REM_HI = 0) ∧
      s.slewEnd.tb.slewed = s.tb.slewed + (if w.amt < 0 then -1 else 1) * ((w.amt.natAbs - w.moved : Nat) : Int) ∧
      (w.auto = false → s.slewEnd.fld R.SEAM_PRESS_STATUS_RESULT = 0 ∧ s.slewEnd.fld R.SEAM_EVENTS_PRESS_DONE = 1) from
    ⟨h.1, h.2.1, h.2.2, memKept_of_memory s.slewEnd_memory⟩
  rw [State.slewEnd_eq hw hdone]
  obtain ⟨hslewed, hseam2⟩ := s.slewMoved_spec w
  have hw2 : (s.slewMoved w).seam.slew = some w := by rw [hseam2, hw]
  obtain ⟨htsv, hrem⟩ := State.stopSlew_some hw2
  have hseam3 := (s.slewMoved w).stopSlew_seam
  have htb3 := (s.slewMoved w).stopSlew_tb
  have hwait : (s.slewMoved w).stopSlew.seam.autoWait = s.seam.autoWait := by rw [hseam3, hseam2]
  generalize (s.slewMoved w).stopSlew = s3 at *
  generalize s.slewMoved w = s2 at *
  cases hauto : w.auto with
  | true =>
    have hb := onlyFields_pressBusy s3
    simp only [if_true]
    refine ⟨fun _ => ⟨by rw [hb.seam, hseam3], by rw [hb.tsv, htsv], ?_⟩, by rw [hb.tb, htb3, hslewed], fun h => absurd h (by decide)⟩
    rw [hb.2.pair (by decide) (by decide), hrem]
  | false =>
    simp only [Bool.false_eq_true, if_false, false_or]
    obtain ⟨hres, hev, hfin⟩ := s3.pressFinish_spec (code := 0) (by decide)
    obtain ⟨htb, -, hsame, hkept⟩ := (s3.pressFinish 0).resumeAuto_spec
    refine ⟨fun hnone => ?_, by rw [htb, hfin.tb, htb3, hslewed], fun _ => ⟨?_, ?_⟩⟩
    · rw [hsame (by rw [hfin.seam, hwait, hnone])]
      refine ⟨by rw [hfin.seam, hseam3], by rw [hfin.tsv, htsv], ?_⟩
      rw [hfin.2.pair (by decide) (by decide), hrem]
    · rw [hkept _ (by decide), hres]
    · rw [hkept _ (by decide), hev]

/-! ### The commands of the host -/

/-- The status words of a host GO. -/
theorem does_pressHost {c : Instr} {s : State} {form : Form} {align : Bool} {mask target code : Nat} (hp : s.powered = true)
    (hf : s.seamFenced = false) (hform : form ≠ .abort)
    (he : exec c s = s.live (s.seamGuard (fun s => s.pressHost form align mask target)))
    (hcode : s.pressCode (s.hostPress form align mask target) = code) :
    Does c s fun t => (t.fld R.SEAM_PRESS_STATUS_RESULT = code ∧
      t.fld R.SEAM_PRESS_STATUS_SEQ = (s.fld R.SEAM_PRESS_STATUS_SEQ + 1) % 2 ^ R.SEAM_PRESS_STATUS_SEQ.width ∧
      (code ≠ 1 → t.fld R.SEAM_EVENTS_PRESS_DONE = 1) ∧ t.tb = s.tb ∧ MemKept s t ∧ FieldsKept s t goFields) ∧
      (code = 1 → t.seam = s.pressTaken (s.hostPress form align mask target) ∧ (form ≠ .align → t.fld R.SEAM_STATUS_PRESS_BUSY = 1)) := by
  refine does_live he hp ?_
  obtain ⟨hres, hseq, hdone, htb, hkept, htaken⟩ := s.pressHost_spec align mask target hform
  rw [hcode] at hres hdone htaken
  rw [State.seamGuard, hf]
  exact ⟨⟨hres, hseq, hdone, htb, memKept_of_memory (s.pressHost_memory form align mask target), hkept⟩, htaken⟩

theorem flag_ne_zero (s : State) (f : Fld) : (s.flag f = true) = (s.fld f ≠ 0) := by simp [State.flag]

/-- The target that a STEP or SLEW names has no offset. -/
theorem pressNoTarget_target {s : State} {form : Form} {al : Bool} {mask : Nat} {target : Fin 64} (hform : form = .step ∨ form = .slew) :
    s.pressNoTarget (s.hostPress form al mask target) = decide (target ≠ 0x3F ∧ s.hasOffset target = false) := by
  have h : s.pressNoTarget (s.hostPress form al mask target) = ((target : Nat) != 0x3F && !s.hasOffset target) := by
    obtain rfl | rfl := hform <;> rfl
  rw [h, Bool.eq_iff_iff]
  simp [Fin.ext_iff]

theorem does_pressCmdAbort {s : State} (hp : s.powered = true) (hf : s.seamFenced = false) :
    Does .pressCmdAbort s fun t => t.fld R.SEAM_PRESS_STATUS_RESULT = 0 ∧ t.fld R.SEAM_EVENTS_PRESS_DONE = 1 ∧
      (s.seam.autoWait = false → t.seam.slew = none) ∧ t.seam.press = none ∧ t.tb = s.tb ∧ MemKept s t := by
  have he : exec .pressCmdAbort s = s.live (s.seamGuard (fun s => s.pressHost .abort false 0 0x3F)) := rfl
  have hmem : MemKept s (s.pressHost .abort false 0 0x3F) := memKept_of_memory (s.pressHost_memory .abort false 0 0x3F)
  have heq : s.pressHost .abort false 0 0x3F =
      ((s.pressAbort.next R.SEAM_PRESS_STATUS_SEQ).setFld R.SEAM_PRESS_STATUS_RESULT 0).raise R.SEAM_EVENTS_PRESS_DONE := rfl
  refine does_live he hp ?_
  rw [State.seamGuard, hf]
  show (s.pressHost .abort false 0 0x3F).fld _ = 0 ∧ _
  rw [heq] at hmem ⊢
  obtain ⟨htb, hpress, hslew⟩ := s.pressAbort_spec
  refine ⟨?_, State.fld_raise_same _ _, hslew, hpress, htb, hmem⟩
  rw [State.fld_raise, if_neg (by decide), State.fld_setFld_same]
  rfl

theorem ignores_seamGuard {c : Instr} {s : State} {act : State → State} (he : exec c s = s.live (s.seamGuard act)) (hf : s.seamFenced = true) :
    Ignores c s := ignores_live he (by rw [State.seamGuard, if_pos hf])

/-- Settles O10: a GO is checked in the order of R125, and each end of a PRESS leaves its parts as they are stated. -/
theorem pressCommands : Obligations.PressCommands := by
  unfold Obligations.PressCommands
  intro host amt at_ late bound value
  refine ⟨fun s al mask hp hf => ?_, fun s al mask target hp hf => ?_, fun s al mask target hp hf => ?_,
    fun _ hp hf => does_pressCmdAbort hp hf, ?_,
    fun _ _ hp hpress hform hat hf htarget => does_pressStepApply hp hpress hform hat hf htarget,
    fun _ _ hp hacq hat hf hoff => does_acquisitionStep hp hacq hat hf hoff,
    fun _ _ hp haligns hat hf => does_pressAlignApply hp haligns hat hf,
    fun _ _ hp hpress hform hat hf htarget => does_slewStart hp hpress hform hat hf htarget,
    fun _ _ hp hw hdone => does_slewEnd hp hw hdone, ?_⟩
  · have hcode : s.pressCode (s.hostPress .align al mask.toNat 0x3F) =
        if s.fld R.SEAM_STATUS_PRESS_BUSY ≠ 0 then 2 else if al = false then 3 else if late s then 6 else 1 := by
      unfold State.pressCode
      rw [show s.pressNoTarget (s.hostPress .align al mask.toNat 0x3F) = false from rfl,
        show s.pressFormat (s.hostPress .align al mask.toNat 0x3F) = !al from rfl]
      simp only [flag_ne_zero, Bool.not_eq_true', Bool.false_eq_true, if_false]
      rfl
    obtain ⟨t, hexec, hhost, htaken⟩ := does_pressHost (c := (.pressCmdAlign al mask)) hp hf (by decide) rfl hcode
    refine ⟨t, hexec, hhost, fun hbusy hal hlate => ?_⟩
    have hone : (if s.fld R.SEAM_STATUS_PRESS_BUSY ≠ 0 then 2 else if al = false then 3 else if late s then 6 else 1) = 1 := by
      rw [if_neg (not_not_intro hbusy), if_neg (by simp [hal]), if_neg hlate]
    have htake : (s.pressTaken (s.hostPress .align al mask.toNat 0x3F)).aligns
        = s.seam.aligns ++ [{ s.hostPress .align al mask.toNat 0x3F with at_ := bound s }] := rfl
    rw [(htaken hone).1, htake, List.map_append]
    rfl
  · have hcode : s.pressCode (s.hostPress .step al mask.toNat target) =
        if s.fld R.SEAM_STATUS_PRESS_BUSY ≠ 0 then 2
        else if (s.tb.now : Int) + value s target < 0 ∨ ((2 ^ 48 * fuPerSec : Nat) : Int) ≤ (s.tb.now : Int) + value s target then 3
        else if target ≠ 0x3F ∧ s.hasOffset target = false then 4 else if late s then 6 else 1 := by
      have hformat : s.pressFormat (s.hostPress .step al mask.toNat target) =
          (decide ((s.tb.now : Int) + value s target < 0) ||
            decide (((2 ^ 48 * fuPerSec : Nat) : Int) ≤ (s.tb.now : Int) + value s target)) := rfl
      rw [State.pressCode, hformat, pressNoTarget_target (Or.inl rfl)]
      simp only [flag_ne_zero, Bool.or_eq_true, decide_eq_true_eq]
      rfl
    obtain ⟨t, hexec, hhost, htaken⟩ := does_pressHost (c := (.pressCmdStep al mask target)) hp hf (by decide) rfl hcode
    refine ⟨t, hexec, hhost, fun hres => ?_⟩
    obtain ⟨hseam, hbusy⟩ := htaken (hhost.1.symm.trans hres)
    exact ⟨by rw [hseam]; rfl, hbusy (by decide)⟩
  · have hcode : s.pressCode (s.hostPress .slew al mask.toNat target) =
        if s.fld R.SEAM_STATUS_PRESS_BUSY ≠ 0 then 2 else if fuPerMs < (value s target).natAbs then 3
        else if target ≠ 0x3F ∧ s.hasOffset target = false then 4 else if late s then 6 else 1 := by
      have hformat : s.pressFormat (s.hostPress .slew al mask.toNat target) = decide (fuPerMs < (value s target).natAbs) := rfl
      rw [State.pressCode, hformat, pressNoTarget_target (Or.inr rfl)]
      simp only [flag_ne_zero, decide_eq_true_eq]
      rfl
    obtain ⟨t, hexec, hhost, htaken⟩ := does_pressHost (c := (.pressCmdSlew al mask target)) hp hf (by decide) rfl hcode
    refine ⟨t, hexec, hhost, fun hres => ?_⟩
    obtain ⟨hseam, hbusy⟩ := htaken (hhost.1.symm.trans hres)
    exact ⟨hbusy (by decide), by rw [hseam]; rfl⟩
  · intro s al mask target hp hf
    simp only [List.forall_mem_cons]
    exact ⟨ignores_seamGuard rfl hf, ignores_seamGuard rfl hf, ignores_seamGuard rfl hf, ignores_seamGuard rfl hf, by simp⟩
  · intro s hp hpress hacq hslew haligns
    simp only [List.forall_mem_cons]
    refine ⟨?_, ?_, ?_, ?_, ?_, by simp⟩
    · refine ignores_live (t := s.pressStepApply) rfl ?_
      rw [State.pressStepApply, show s.dueStep = none by rw [State.dueStep, hpress]]
    · refine ignores_live (t := s.acquisitionStep) rfl ?_
      rw [State.acquisitionStep, show s.dueAcquisition = none by rw [State.dueAcquisition, hacq]]
    · refine ignores_live (t := s.pressAlignApply) rfl ?_
      have hseam : ({ s.seam with aligns := [] } : Seam) = s.seam := by rw [← haligns]
      rw [State.pressAlignApply]
      simp only [haligns, List.filter_nil, List.foldl_nil, hseam]
    · refine ignores_live (t := s.slewStart) rfl ?_
      rw [State.slewStart, hpress]
    · refine ignores_live (t := s.slewEnd) rfl ?_
      rw [State.slewEnd, hslew]

end Sys2Proof.Machine


/-! O9: learning, the holdover model, the bounds and the snapshot (04 R115 to R122). -/
namespace Sys2Proof.Machine

/-! ### The temperature and the bounds -/

/-- The temperature is shown; of the seam unit only its integral and the time it was read move. -/
theorem State.readTemp_spec (s : State) (temp : Int) :
    let t := s.readTemp temp
    t = { s with regs := t.regs, seam := t.seam } ∧ t.fld R.SEAM_SUB_TEMP = ofSigned 32 temp ∧ FieldsKept s t [R.SEAM_SUB_TEMP] ∧
      t.seam = { s.seam with tInt := t.seam.tInt, tIntAt := t.seam.tIntAt } ∧ (s.tsState < 3 → t.seam = s.seam) := by
  intro t
  unfold t State.readTemp
  extract_lets d m s1
  have h1 : ∃ v : Seam, s1 = { s with seam := v } ∧ v = { s.seam with tInt := v.tInt, tIntAt := v.tIntAt } ∧
      (s.tsState < 3 → v = s.seam) := by
    unfold s1
    split
    next h => exact ⟨_, rfl, rfl, fun hlt => by omega⟩
    next h => exact ⟨s.seam, rfl, rfl, fun _ => rfl⟩
  clear_value s1
  obtain ⟨v, rfl, hseam, hsame⟩ := h1
  refine ⟨rfl, ?_, ((FieldsKept.refl s _).of_regs (by rfl)).setFld _ (by simp), hseam, hsame⟩
  rw [State.fld_setFld_same]
  exact Nat.mod_eq_of_lt (ofSigned_lt 32 temp)

theorem State.readTemp_tsState (s : State) (temp : Int) : (s.readTemp temp).tsState = s.tsState :=
  (s.readTemp_spec temp).2.2.1 _ (by decide)

theorem State.readTemp_fenced (s : State) (temp : Int) : (s.readTemp temp).seamFenced = s.seamFenced := by
  have hkept := (s.readTemp_spec temp).2.2.1
  rw [State.seamFenced, State.seamFenced, State.fenced, State.fenced, State.tiFenced, State.tiFenced, State.flag, State.flag, State.flag,
    State.flag, hkept _ (by decide), hkept _ (by decide)]

/-- The bounds are shown: U_osc, then U. -/
def State.showBounds (s : State) (uosc unc : Nat) : State :=
  (s.setPair R.SEAM_UOSC_LO R.SEAM_UOSC_HI uosc).setPair R.SEAM_UNC_LO R.SEAM_UNC_HI unc

/-- The fields of the two bounds. -/
def boundFields : List Fld := [R.SEAM_UOSC_LO, R.SEAM_UOSC_HI, R.SEAM_UNC_LO, R.SEAM_UNC_HI]

theorem State.showBounds_spec (s : State) (uosc unc : Nat) :
    (s.showBounds uosc unc).pair R.SEAM_UNC_LO R.SEAM_UNC_HI = unc % 2 ^ 64 ∧ FieldsKept s (s.showBounds uosc unc) boundFields := by
  refine ⟨?_, ((FieldsKept.refl s _).setPair _ (by simp [boundFields]) (by simp [boundFields])).setPair _ (by simp [boundFields])
    (by simp [boundFields])⟩
  rw [State.showBounds, State.setPair_eq, State.pair, State.fld_setFld_same, State.fld_setFld_ne _ _ (by decide), State.fld_setFld_same]
  simp only [R.SEAM_UNC_LO, R.SEAM_UNC_HI]
  omega

/-- LOST is entered (R120). -/
def State.enterLost (s : State) : State :=
  ((s.setFld R.SEAM_STATUS_TS_STATE 4).raise R.SEAM_EVENTS_LOST_ENTER).announce.record 0x003 1 0x11

theorem State.enterLost_spec (s : State) : s.enterLost.tsState = 4 ∧ s.enterLost.fld R.SEAM_EVENTS_LOST_ENTER = 1 ∧
    LowKept s s.enterLost [R.SEAM_STATUS_TS_STATE, R.SEAM_EVENTS_LOST_ENTER] := by
  have hset : FieldsKept s ((s.setFld R.SEAM_STATUS_TS_STATE 4).raise R.SEAM_EVENTS_LOST_ENTER)
      [R.SEAM_STATUS_TS_STATE, R.SEAM_EVENTS_LOST_ENTER] := ((FieldsKept.refl s _).setFld _ (by simp)).raise (by simp)
  have hts : ((s.setFld R.SEAM_STATUS_TS_STATE 4).raise R.SEAM_EVENTS_LOST_ENTER).fld R.SEAM_STATUS_TS_STATE = 4 := by
    rw [State.fld_raise, if_neg (by decide), State.fld_setFld_same]
    rfl
  have hev : ((s.setFld R.SEAM_STATUS_TS_STATE 4).raise R.SEAM_EVENTS_LOST_ENTER).fld R.SEAM_EVENTS_LOST_ENTER = 1 :=
    State.fld_raise_same _ _
  unfold State.enterLost
  generalize (s.setFld R.SEAM_STATUS_TS_STATE 4).raise R.SEAM_EVENTS_LOST_ENTER = u at *
  have hrec := lowKept_record u.announce 0x003 1 0x11
  refine ⟨?_, ?_, hset.low.trans ((LowKept.of_regs (LowKept.refl u _) u.announce_regs).trans (hrec.mono (by simp)))⟩
  · rw [State.tsState, hrec _ (by decide) (by simp), State.announce_fld, hts]
  · rw [hrec _ (by decide) (by simp), State.announce_fld, hev]

theorem State.publish_eq (s : State) (temp : Int) : ∃ (u : State) (uosc : Nat), u.regs = (s.readTemp temp).regs ∧
    ((s.tsState = 3 ∨ s.tsState = 4) → u = s.readTemp temp) ∧
    s.publish temp = if s.tsState = 3 ∧ s.seamFenced = false ∧
        s.pair R.SEAM_HOLD_LIMIT_LO_LIMIT R.SEAM_HOLD_LIMIT_HI_LIMIT < (Config.modelRound u.uExact).toNat then
      (u.showBounds uosc (Config.modelRound u.uExact).toNat).enterLost else u.showBounds uosc (Config.modelRound u.uExact).toNat := by
  have hts := s.readTemp_tsState temp
  have hf := s.readTemp_fenced temp
  have hkept := (s.readTemp_spec temp).2.2.1
  unfold State.publish
  extract_lets s1 m s2 u s3 s4
  have hregs : s2.regs = s1.regs := by
    unfold s2
    split <;> rfl
  have hsame : (s.tsState = 3 ∨ s.tsState = 4) → s2 = s1 := fun h => if_pos (by rw [← hts] at h; exact h)
  have h4 : FieldsKept s1 s4 boundFields :=
    ((FieldsKept.refl s1 boundFields).of_regs hregs).trans (s2.showBounds_spec (Config.modelRound s2.uOscExact).toNat u).2
  have hts4 : s4.tsState = s.tsState := (h4 _ (by decide)).trans hts
  have hf4 : s4.seamFenced = s.seamFenced := by
    rw [← hf, State.seamFenced, State.seamFenced, State.fenced, State.fenced, State.tiFenced, State.tiFenced, State.flag, State.flag,
      State.flag, State.flag, h4 _ (by decide), h4 _ (by decide)]
  have hlim : s4.pair R.SEAM_HOLD_LIMIT_LO_LIMIT R.SEAM_HOLD_LIMIT_HI_LIMIT
      = s.pair R.SEAM_HOLD_LIMIT_LO_LIMIT R.SEAM_HOLD_LIMIT_HI_LIMIT :=
    (h4.pair (by decide) (by decide)).trans (hkept.pair (by decide) (by decide))
  refine ⟨s2, (Config.modelRound s2.uOscExact).toNat, hregs, hsame, ?_⟩
  simp only [hts4, hf4, hlim, Bool.not_eq_true]
  rfl

theorem does_uncertaintyPublish {s : State} {temp : Int} (hp : s.powered = true) :
    Does (.uncertaintyPublish temp) s fun t => t.fld R.SEAM_SUB_TEMP = ofSigned 32 temp ∧
      ((s.tsState = 3 ∨ s.tsState = 4) → t.pair R.SEAM_UNC_LO R.SEAM_UNC_HI
        = (Config.modelRound (s.readTemp temp).uExact).toNat % 2 ^ 64) ∧
      (s.tsState = 3 → s.seamFenced = false →
        s.pair R.SEAM_HOLD_LIMIT_LO_LIMIT R.SEAM_HOLD_LIMIT_HI_LIMIT < (Config.modelRound (s.readTemp temp).uExact).toNat →
        t.tsState = 4 ∧ t.fld R.SEAM_EVENTS_LOST_ENTER = 1) ∧
      (s.tsState ≠ 3 → t.tsState = s.tsState) ∧ MemKept s t := by
  have he : exec (.uncertaintyPublish temp) s = s.live (s.publish temp) := rfl
  have hmem : MemKept s (s.publish temp) := memKept_of_memory (s.publish_memory temp)
  obtain ⟨-, htemp, -, -, -⟩ := s.readTemp_spec temp
  have hts := s.readTemp_tsState temp
  obtain ⟨u, uosc, hregs, hsame, heq⟩ := s.publish_eq temp
  rw [heq] at hmem
  refine does_live he hp ?_
  rw [heq]
  obtain ⟨hunc, hkept⟩ := u.showBounds_spec uosc (Config.modelRound u.uExact).toNat
  have htemp' : (u.showBounds uosc (Config.modelRound u.uExact).toNat).fld R.SEAM_SUB_TEMP = ofSigned 32 temp := by
    rw [hkept _ (by decide), State.fld_congr hregs, htemp]
  have hts' : (u.showBounds uosc (Config.modelRound u.uExact).toNat).tsState = s.tsState := by
    rw [State.tsState, hkept _ (by decide), State.fld_congr hregs]
    exact hts
  have hu (h : s.tsState = 3 ∨ s.tsState = 4) : (Config.modelRound (s.readTemp temp).uExact).toNat = (Config.modelRound u.uExact).toNat := by
    rw [hsame h]
  generalize u.showBounds uosc (Config.modelRound u.uExact).toNat = v at *
  split
  next h =>
    rw [if_pos h] at hmem
    obtain ⟨hlost, hev, hlow⟩ := v.enterLost_spec
    refine ⟨(hlow _ (by decide) (by decide)).trans htemp', fun hh => ?_, fun _ _ _ => ⟨hlost, hev⟩, fun hne => absurd h.1 hne, hmem⟩
    rw [State.pair, hlow _ (by decide) (by decide), hlow _ (by decide) (by decide), hu hh]
    exact hunc
  next h =>
    rw [if_neg h] at hmem
    refine ⟨htemp', fun hh => by rw [hu hh]; exact hunc, fun h3 hf hlt => ?_, fun _ => hts', hmem⟩
    rw [hu (Or.inl h3)] at hlt
    exact absurd ⟨h3, hf, hlt⟩ h

/-! ### Samples -/

theorem State.enterWindow_spec (s : State) (e : Learn) : (s.enterWindow e).seam.guard = s.seam.guard ∧
    (s.enterWindow e).seam.learnAt = s.seam.learnAt ∧ (s.enterWindow e).fld R.SEAM_SUB_TEMP = s.fld R.SEAM_SUB_TEMP := by
  refine ⟨rfl, rfl, ?_⟩
  unfold State.enterWindow
  extract_lets win m u
  exact State.fld_setFld_ne u win.length (by decide)

theorem enterWindows_spec (l : List Learn) (s : State) : (l.foldr (fun e s => s.enterWindow e) s).seam.guard = s.seam.guard ∧
    (l.foldr (fun e s => s.enterWindow e) s).seam.learnAt = s.seam.learnAt ∧
    (l.foldr (fun e s => s.enterWindow e) s).fld R.SEAM_SUB_TEMP = s.fld R.SEAM_SUB_TEMP := by
  induction l with
  | nil => exact ⟨rfl, rfl, rfl⟩
  | cons e l ih =>
    obtain ⟨hg, hl, ht⟩ := ih
    obtain ⟨hg', hl', ht'⟩ := (l.foldr (fun e s => s.enterWindow e) s).enterWindow_spec e
    exact ⟨hg'.trans hg, hl'.trans hl, ht'.trans ht⟩

theorem does_learnSample {s : State} {temp : Int} (hp : s.powered = true) (hlearn : (s.readTemp temp).learning = true) :
    Does (.learnSample temp) s fun t => t.seam.learnAt = s.tb.elapsed ∧ t.fld R.SEAM_SUB_TEMP = ofSigned 32 temp ∧
      t.seam.guard = ({ t := s.tb.elapsed, y := s.meanY, temp := temp } :: s.seam.guard).take (s.fld R.SEAM_HO_CFG_GUARD_S) ∧
      (s.seam.guard.length < s.fld R.SEAM_HO_CFG_GUARD_S → t.seam.window = s.seam.window) ∧ MemKept s t := by
  have he : exec (.learnSample temp) s = s.live (s.learnSample temp) := rfl
  refine does_live he hp ?_
  have hmem : MemKept s (s.learnSample temp) := memKept_of_memory (s.learnSample_memory temp)
  obtain ⟨hstate, htemp, hkept, hseam, -⟩ := s.readTemp_spec temp
  have htb : (s.readTemp temp).tb = s.tb := by rw [hstate]
  have hguard : (s.readTemp temp).seam.guard = s.seam.guard := by rw [hseam]
  have hwindow : (s.readTemp temp).seam.window = s.seam.window := by rw [hseam]
  revert hmem
  unfold State.learnSample
  extract_lets y s1 take m s2 g k out m' s3
  intro hmem
  have htake : take = true := hlearn
  rw [if_pos htake] at hmem ⊢
  have hk : k = s.fld R.SEAM_HO_CFG_GUARD_S := hkept _ (by decide)
  have hg : g = { t := s.tb.elapsed, y := s.meanY, temp := temp } :: s.seam.guard := by
    unfold g
    rw [show s2.seam.guard = s1.seam.guard from rfl, hguard, show s2.tb = s1.tb from rfl, htb]
  have hs3 : s3.seam.guard = g.take k ∧ s3.seam.window = s.seam.window ∧ s3.seam.learnAt = s.tb.elapsed ∧
      s3.fld R.SEAM_SUB_TEMP = ofSigned 32 temp := ⟨rfl, hwindow, congrArg TimeBase.elapsed htb, htemp⟩
  obtain ⟨hguard3, hwindow3, hat3, htemp3⟩ := hs3
  clear_value s3
  obtain ⟨hg', hl', ht'⟩ := enterWindows_spec out s3
  refine ⟨hl'.trans hat3, ht'.trans htemp3, by rw [hg', hguard3, hg, hk], fun hlt => ?_, hmem⟩
  have hout : out = [] := by
    unfold out
    rw [List.drop_eq_nil_iff, hg, hk]
    exact hlt
  rw [hout]
  exact hwindow3

theorem does_learnSample_idle {s : State} {temp : Int} (hp : s.powered = true) (hlearn : (s.readTemp temp).learning = false) :
    Does (.learnSample temp) s fun t => t.seam.learnAt = s.tb.elapsed ∧ t.seam.guard = s.seam.guard ∧
      t.seam.window = s.seam.window ∧ FieldsKept s t [R.SEAM_SUB_TEMP] ∧ MemKept s t := by
  have he : exec (.learnSample temp) s = s.live (s.learnSample temp) := rfl
  refine does_live he hp ?_
  have hmem : MemKept s (s.learnSample temp) := memKept_of_memory (s.learnSample_memory temp)
  obtain ⟨hstate, -, hkept, hseam, -⟩ := s.readTemp_spec temp
  have htb : (s.readTemp temp).tb = s.tb := by rw [hstate]
  revert hmem
  unfold State.learnSample
  extract_lets y s1 take m s2 g k out m' s3
  intro hmem
  have htake : ¬ take = true := by
    rw [Bool.not_eq_true]
    exact hlearn
  rw [if_neg htake] at hmem ⊢
  have hs1 : s1.seam.guard = s.seam.guard ∧ s1.seam.window = s.seam.window := ⟨by unfold s1; rw [hseam], by unfold s1; rw [hseam]⟩
  exact ⟨congrArg TimeBase.elapsed htb, hs1.1, hs1.2, hkept.of_regs (by rfl), hmem⟩

/-! ### The model -/

/-- The registers show the model, and the model stays. -/
theorem State.showModel_spec (s : State) : s.showModel.seam = s.seam ∧
    s.showModel.pair R.SEAM_HO_S0_LO R.SEAM_HO_S0_HI = ofSigned 64 s.modelInUse.s0 ∧
    FieldsKept s s.showModel [R.SEAM_HO_S0_LO, R.SEAM_HO_S0_HI, R.SEAM_HO_AGING_LO, R.SEAM_HO_AGING_HI, R.SEAM_HO_TEMPCO, R.SEAM_HO_T0,
      R.SEAM_HO_UF_LO, R.SEAM_HO_UF_HI, R.SEAM_HO_UA, R.SEAM_HO_UT] := by
  unfold State.showModel
  extract_lets m s1 s2
  have hpair : (s.setInt64 R.SEAM_HO_S0_LO R.SEAM_HO_S0_HI m.s0).pair R.SEAM_HO_S0_LO R.SEAM_HO_S0_HI = ofSigned 64 m.s0 :=
    s.pair_setPair (by decide) (ofSigned_lt 64 _)
  have hfirst : FieldsKept s (s.setInt64 R.SEAM_HO_S0_LO R.SEAM_HO_S0_HI m.s0) [R.SEAM_HO_S0_LO, R.SEAM_HO_S0_HI] :=
    (FieldsKept.refl s _).setPair _ (by simp) (by simp)
  have hseam : (s.setInt64 R.SEAM_HO_S0_LO R.SEAM_HO_S0_HI m.s0).seam = s.seam := rfl
  unfold s2 s1
  generalize s.setInt64 R.SEAM_HO_S0_LO R.SEAM_HO_S0_HI m.s0 = u at *
  have hrest : FieldsKept u ((((((u.setInt64 R.SEAM_HO_AGING_LO R.SEAM_HO_AGING_HI m.a).setFld R.SEAM_HO_TEMPCO (ofSigned 32 m.c)).setFld
      R.SEAM_HO_T0 (ofSigned 32 m.tt0)).setPair R.SEAM_HO_UF_LO R.SEAM_HO_UF_HI m.uf).setFld R.SEAM_HO_UA m.ua).setFld R.SEAM_HO_UT m.ut)
      [R.SEAM_HO_AGING_LO, R.SEAM_HO_AGING_HI, R.SEAM_HO_TEMPCO, R.SEAM_HO_T0, R.SEAM_HO_UF_LO, R.SEAM_HO_UF_HI, R.SEAM_HO_UA,
        R.SEAM_HO_UT] :=
    ((((((FieldsKept.refl u _).setPair _ (by simp) (by simp)).setFld _ (by simp)).setFld _ (by simp)).setPair _ (by simp)
      (by simp)).setFld _ (by simp)).setFld _ (by simp)
  refine ⟨hseam, (hrest.pair (by decide) (by decide)).trans hpair, (hfirst.mono (by simp)).trans (hrest.mono (by simp))⟩

theorem State.recompute_eq {s : State} (hf : s.seamFenced = false) (hts : s.tsState < 3) (hne : s.seam.window ≠ [])
    (hlen : s.fld R.SEAM_HO_MIN_COMPLETE_S ≤ s.seam.window.length) : ∃ m : Model, some m.t0 = s.seam.window.head?.map (·.t) ∧
      s.recompute = (({ s with seam := { s.seam with model := some m } } : State).raise R.SEAM_STATUS_LEARNED).showModel := by
  obtain ⟨e, l, hw⟩ := List.exists_cons_of_ne_nil hne
  have hempty : s.seam.window.isEmpty = false := by
    rw [hw]
    rfl
  have hgo : ¬ (s.seamFenced ∨ s.tsState = 3 ∨ s.tsState = 4 ∨ s.seam.window.length < s.fld R.SEAM_HO_MIN_COMPLETE_S
      ∨ s.seam.window.isEmpty) := by
    simp only [hf, hempty, Bool.false_eq_true, false_or, or_false]
    omega
  unfold State.recompute
  extract_lets w t0 tt0 src
  have ht0 : t0 = e.t := by
    unfold t0 w
    rw [hw]
    rfl
  rw [if_neg hgo]
  refine ⟨_, ?_, rfl⟩
  rw [hw]
  exact congrArg some ht0

theorem does_hoModelRecompute {s : State} (hp : s.powered = true) (hf : s.seamFenced = false) (hts : s.tsState < 3)
    (hne : s.seam.window ≠ []) (hlen : s.fld R.SEAM_HO_MIN_COMPLETE_S ≤ s.seam.window.length) :
    Does .hoModelRecompute s fun t => t.seam.model.map (·.t0) = s.seam.window.head?.map (·.t) ∧
      t.fld R.SEAM_STATUS_LEARNED = 1 ∧
      t.pair R.SEAM_HO_S0_LO R.SEAM_HO_S0_HI = ofSigned 64 t.modelInUse.s0 ∧ MemKept s t := by
  have he : exec .hoModelRecompute s = s.live s.recompute := rfl
  refine does_live he hp ?_
  have hmem : MemKept s s.recompute := memKept_of_memory s.recompute_memory
  obtain ⟨m, ht0, heq⟩ := State.recompute_eq hf hts hne hlen
  rw [heq] at hmem ⊢
  have hmodel : (({ s with seam := { s.seam with model := some m } } : State).raise R.SEAM_STATUS_LEARNED).seam.model = some m := rfl
  have hlearned : (({ s with seam := { s.seam with model := some m } } : State).raise R.SEAM_STATUS_LEARNED).fld R.SEAM_STATUS_LEARNED = 1 :=
    State.fld_raise_same _ _
  generalize ({ s with seam := { s.seam with model := some m } } : State).raise R.SEAM_STATUS_LEARNED = u at *
  obtain ⟨hseam, hs0, hkept⟩ := u.showModel_spec
  refine ⟨by rw [hseam, hmodel]; exact ht0, (hkept _ (by decide)).trans hlearned, ?_, hmem⟩
  have hsame : u.showModel.modelInUse = u.modelInUse := by
    rw [State.modelInUse, State.modelInUse, hseam, hmodel]
  rw [hs0, hsame]

theorem does_dayClose {s : State} (hp : s.powered = true) (hf : s.seamFenced = false)
    (hat : s.seam.day + (86400 * fuPerSec : Nat) ≤ (s.tb.elapsed : Int)) :
    Does .dayClose s fun t => t.seam.day = s.seam.day + (86400 * fuPerSec : Nat) ∧ t.seam.dayN = 0 ∧
      (s.seam.dayN < 43200 → t.seam.days = s.seam.days.map (fun e => (e.1, min 65535 (e.2 + 1)))) ∧
      (43200 ≤ s.seam.dayN → t.seam.days.length = min 30 (s.seam.days.length + 1)) ∧
      FieldsKept s t [R.SEAM_HO_LEARN_DAYS] ∧ MemKept s t := by
  have he : exec .dayClose s = s.live s.dayClose := rfl
  refine does_live he hp ?_
  have hmem : MemKept s s.dayClose := memKept_of_memory s.dayClose_memory
  revert hmem
  unfold State.dayClose
  rw [if_neg (by simp only [hf, Bool.false_eq_true, or_false]; omega)]
  extract_lets aged mean l days m u
  intro hmem
  have hu : FieldsKept s u [R.SEAM_HO_LEARN_DAYS] := (FieldsKept.refl s _).of_regs (by rfl)
  refine ⟨rfl, rfl, fun hlt => if_neg (Nat.not_le.mpr hlt), fun hle => ?_, hu.setFld _ (by simp), hmem⟩
  show days.length = _
  have hdays : days = l.drop (l.length - 30) := if_pos hle
  rw [hdays]
  simp only [List.length_drop, List.length_append, List.length_cons, List.length_nil, l, aged, List.length_map]
  omega

theorem does_tempMean60s {s : State} (hp : s.powered = true) (hf : s.seamFenced = false)
    (hat : s.seam.min60At + 60 * fuPerSec ≤ s.tb.elapsed) :
    Does .tempMean60s s fun t => t.seam.min60 = [] ∧ t.seam.min60At = s.seam.min60At + 60 * fuPerSec ∧
      (∀ e ∈ t.seam.means, s.tb.elapsed ≤ e.t + 604800 * fuPerSec) ∧ t.regs = s.regs ∧ MemKept s t := by
  have he : exec .tempMean60s s = s.live s.tempMean := rfl
  refine does_live he hp ?_
  rw [State.tempMean, if_neg (by simp only [hf, Bool.false_eq_true, or_false]; omega)]
  refine ⟨rfl, rfl, fun e hmem => ?_, rfl, memKept_of_memory rfl⟩
  exact of_decide_eq_true (List.mem_filter.mp hmem).2

/-- The steering word that is shown. -/
theorem State.showSteer_steer (s : State) : s.showSteer.pair R.TSV_STEER_LO R.TSV_STEER_HI = ofSigned 64 s.steer := by
  have hrot (u : State) (p : Nat) (hp : p < 4) : (u.showRotator p).pair R.TSV_STEER_LO R.TSV_STEER_HI = u.pair R.TSV_STEER_LO R.TSV_STEER_HI := by
    refine (onlyFields_showRotator u p).2.pair ?_ ?_
    all_goals
      simp only [List.forall_mem_cons, Fld.key, R.TSV_STEER_LO, R.TSV_STEER_HI, R.SYN_ROT_FREQ_LO, R.SYN_ROT_FREQ_HI,
        R.SYN_PLL_STATUS_ROT_CLAMP]
      exact ⟨by omega, by omega, by omega, by simp⟩
  rw [State.showSteer]
  exact (((hrot _ 3 (by decide)).trans (hrot _ 2 (by decide))).trans (hrot _ 1 (by decide))).trans ((hrot _ 0 (by decide)).trans
    (s.pair_setPair (by decide) (ofSigned_lt 64 _)))

theorem does_hoModelEval {s : State} {temp : Int} (hp : s.powered = true) (hts : s.tsState = 3 ∨ s.tsState = 4)
    (hh : s.holding = true) (hf : s.tservoFenced = false) :
    Does (.hoModelEval temp) s fun t => t.tsv.hold = (s.readTemp temp).modelValue ∧
      t.pair R.TSV_STEER_LO R.TSV_STEER_HI = ofSigned 64 ((s.readTemp temp).modelValue + s.tsv.slew) ∧ MemKept s t := by
  have he : exec (.hoModelEval temp) s = s.live (s.modelEval temp) := rfl
  refine does_live he hp ?_
  have hmem : MemKept s (s.modelEval temp) := memKept_of_memory (s.modelEval_memory temp)
  obtain ⟨hstate, -, hkept, -, -⟩ := s.readTemp_spec temp
  have htsv : (s.readTemp temp).tsv = s.tsv := by rw [hstate]
  have hhold : (s.readTemp temp).holding = true := by
    rw [← hh, State.holding, State.holding, State.flag, State.flag, hkept _ (by decide)]
  have hopen : (s.readTemp temp).tservoFenced = false := by
    rw [← hf, State.tservoFenced, State.tservoFenced, State.fenced, State.fenced, State.tiFenced, State.tiFenced, State.flag, State.flag,
      State.flag, State.flag, hkept _ (by decide), hkept _ (by decide)]
  have heq : s.modelEval temp = ({ s.readTemp temp with
      tsv := { (s.readTemp temp).tsv with hold := (s.readTemp temp).modelValue } } : State).showSteer := by
    rw [State.modelEval]
    simp only [State.readTemp_tsState, hhold, State.servoHoldValue, hopen]
    rw [if_pos ⟨hts, trivial⟩]
    rfl
  rw [heq] at hmem ⊢
  have hu : ({ s.readTemp temp with tsv := { (s.readTemp temp).tsv with hold := (s.readTemp temp).modelValue } } : State).steer
      = (s.readTemp temp).modelValue + s.tsv.slew := by
    have hbase : ({ s.readTemp temp with tsv := { (s.readTemp temp).tsv with hold := (s.readTemp temp).modelValue } } : State).steerBase
        = (s.readTemp temp).modelValue := if_pos hhold
    rw [State.steer, hbase, ← htsv]
  have hhold' : ({ s.readTemp temp with tsv := { (s.readTemp temp).tsv with hold := (s.readTemp temp).modelValue } } : State).tsv.hold
      = (s.readTemp temp).modelValue := rfl
  generalize ({ s.readTemp temp with tsv := { (s.readTemp temp).tsv with hold := (s.readTemp temp).modelValue } } : State) = u at *
  refine ⟨by rw [(onlyFields_showSteer u).tsv, hhold'], ?_, hmem⟩
  rw [State.showSteer_steer, hu]

theorem does_hoModelEval_idle {s : State} {temp : Int} (hp : s.powered = true) (hts : s.tsState < 3) :
    Does (.hoModelEval temp) s fun t => t.fld R.SEAM_SUB_TEMP = ofSigned 32 temp ∧ OnlyFields s t [R.SEAM_SUB_TEMP] := by
  have he : exec (.hoModelEval temp) s = s.live (s.modelEval temp) := rfl
  refine does_live he hp ?_
  obtain ⟨hstate, htemp, hkept, -, hseam⟩ := s.readTemp_spec temp
  have heq : s.modelEval temp = s.readTemp temp := by
    rw [State.modelEval]
    exact if_neg (by rw [State.readTemp_tsState]; omega)
  rw [heq]
  refine ⟨htemp, ?_, hkept⟩
  conv_lhs => rw [hstate, hseam hts]

/-! ### The snapshot -/

theorem snapWords_other {v : Nat} {f : Fld} (hf : f.key < (R.SEAM_SNAP_WORD 0).key) (l : List Nat) (s : State) :
    (l.foldl (fun s k => s.setFld (R.SEAM_SNAP_WORD k) (v / 2 ^ (32 * k))) s).fld f = s.fld f := by
  induction l generalizing s with
  | nil => rfl
  | cons k l ih =>
    refine (ih _).trans (State.fld_setFld_ne s _ ?_)
    simp only [ne_eq, Fld.key, R.SEAM_SNAP_WORD] at hf ⊢
    omega

theorem snapWords_tb (v : Nat) (l : List Nat) (s : State) :
    (l.foldl (fun s k => s.setFld (R.SEAM_SNAP_WORD k) (v / 2 ^ (32 * k))) s).tb = s.tb := by
  induction l generalizing s with
  | nil => rfl
  | cons k l ih => exact ih _

theorem does_snapshot {s : State} (hp : s.powered = true) (hl : s.fld R.SEAM_STATUS_LEARNED = 1)
    (hper : s.fld R.SEAM_SNAP_PERIOD_PERIOD ≠ 0) (hf : s.seamFenced = false)
    (hat : s.seam.snapAt + s.fld R.SEAM_SNAP_PERIOD_PERIOD * fuPerSec ≤ s.tb.elapsed) :
    Does .snapshot s fun t => (∀ k : Fin 80, t.fld (R.SEAM_SNAP_WORD k) = s.snapshotBits / 2 ^ (32 * (k : Nat)) % 2 ^ 32) ∧
      t.fld R.SEAM_SNAP_SEQ = (s.fld R.SEAM_SNAP_SEQ + 1) % 2 ^ R.SEAM_SNAP_SEQ.width ∧ t.fld R.SEAM_EVENTS_SNAP = 1 ∧
      t.seam.snapAt = s.tb.elapsed ∧ MemKept s t := by
  have he : exec .snapshot s = s.live s.takeSnapshot := rfl
  refine does_live he hp ?_
  have hmem : MemKept s s.takeSnapshot := memKept_of_memory s.takeSnapshot_memory
  revert hmem
  unfold State.takeSnapshot
  rw [if_pos ⟨by rw [State.flag, hl]; rfl, hper, by simp [hf], hat⟩]
  extract_lets v s1 m s2
  intro hmem
  have hword (k : Fin 80) : s1.fld (R.SEAM_SNAP_WORD k) = s.snapshotBits / 2 ^ (32 * (k : Nat)) % 2 ^ 32 := by
    obtain ⟨u, -, hfold⟩ := foldl_read (f := fun s k => s.setFld (R.SEAM_SNAP_WORD k) (v / 2 ^ (32 * k)))
      (q := fun s => s.fld (R.SEAM_SNAP_WORD k)) (k := k) (fun u j hj => State.fld_setFld_ne u _ (by
        simp only [ne_eq, Fld.key, R.SEAM_SNAP_WORD]
        omega)) (List.mem_range.mpr k.isLt) List.nodup_range s
    exact hfold.trans (State.fld_setFld_same u _ _)
  have hseq : s1.fld R.SEAM_SNAP_SEQ = s.fld R.SEAM_SNAP_SEQ := snapWords_other (by decide) (List.range 80) s
  have hat2 : s2.seam.snapAt = s.tb.elapsed := congrArg TimeBase.elapsed (snapWords_tb v (List.range 80) s)
  have hregs : s2.regs = s1.regs := rfl
  clear_value s2 s1
  refine ⟨fun k => ?_, ?_, State.fld_raise_same _ _, hat2, hmem⟩
  · have hkeys : (R.SEAM_SNAP_WORD k).key ≠ R.SEAM_EVENTS_SNAP.key ∧ (R.SEAM_SNAP_WORD k).key ≠ R.SEAM_SNAP_SEQ.key := by
      simp only [ne_eq, Fld.key, R.SEAM_SNAP_WORD, R.SEAM_EVENTS_SNAP, R.SEAM_SNAP_SEQ]
      omega
    rw [State.fld_raise, if_neg hkeys.1, State.fld_next, if_neg hkeys.2, State.fld_congr hregs, hword]
  · rw [State.fld_raise, if_neg (by decide), State.fld_next, if_pos rfl, State.fld_congr hregs, hseq]

/-- Settles O9: what is learned and shown of the holdover model, command by command. -/
theorem holdoverLearning : Obligations.HoldoverLearning := by
  unfold Obligations.HoldoverLearning
  refine ⟨fun _ _ hp => does_uncertaintyPublish hp, fun _ _ hp h => does_learnSample hp h, fun _ _ hp h => does_learnSample_idle hp h,
    fun _ hp hf hts hne hlen => does_hoModelRecompute hp hf hts hne hlen, fun s hp h => ?_,
    fun _ hp hf hat => does_dayClose hp hf hat, fun s hp h => ?_, fun _ hp hf hat => does_tempMean60s hp hf hat, fun s hp h => ?_,
    fun _ _ hp hts hh hf => does_hoModelEval hp hts hh hf, fun _ _ hp hts => does_hoModelEval_idle hp hts,
    fun _ hp hl hper hf hat => does_snapshot hp hl hper hf hat, fun s hp h => ?_⟩
  · refine ignores_live (t := s.recompute) rfl ?_
    rw [State.recompute]
    exact if_pos (by tauto)
  · exact ignores_live (t := s.dayClose) rfl (if_pos (Or.inl h))
  · exact ignores_live (t := s.tempMean) rfl (if_pos (Or.inl h))
  · refine ignores_live (t := s.takeSnapshot) rfl ?_
    rw [State.takeSnapshot]
    exact if_neg (by simp only [State.flag]; obtain h | h := h <;> simp [h])

end Sys2Proof.Machine




/-! O35: the completion of an operation of a thread beside the four (10 R277). -/
namespace Sys2Proof.Machine

/-- A performed operation that names a fifth thread. -/
def strayFlight : Flight := { place := 0, thr := 4, dest := .none, tok := 0, op := .load 0 4, done := some { val := 0, code := 0 } }

/-- Engine 0 without a free place: the stray operation and fifteen others, its thread STALLED. -/
def fullOfFlights : { s : State // s.pwrState = 0 ∧ s.pwr.drained = false ∧ s.pwr.wakeDue = false } :=
  ⟨(State.reset.setFlights 0 (strayFlight :: List.replicate 15 { strayFlight with place := 1 })).setTstate 0 4 3, by decide +kernel⟩

/-- With no place free, the completion lets the four threads of the engine go on, and the fifth stays as it was. -/
theorem fullOfFlights_complete : (fullOfFlights.1.opComplete 0 0).tstate 0 4 = 3 := by decide +kernel

theorem exec_opComplete_fullOfFlights :
    exec (.opComplete (0 : Fin 8) (0 : Fin 16)) fullOfFlights.1 = .next (fullOfFlights.1.opComplete 0 0) :=
  congrArg Host.Outcome.next (if_pos ⟨fullOfFlights.2.1, by simp [fullOfFlights.2.2.1]⟩)

/-- Refutes O35: the thread of an operation is any number in the statement, and for one past the four threads of an engine without a
free place the completion makes no STALLED thread of that number READY. -/
theorem not_operationCompletion : ¬ Obligations.OperationCompletion := by
  unfold Obligations.OperationCompletion
  intro h
  obtain ⟨hdone, -⟩ := h
  obtain ⟨-, hready, -⟩ := (hdone fullOfFlights.1 0 0 strayFlight _ fullOfFlights.2 (by decide +kernel) rfl).of_exec
    exec_opComplete_fullOfFlights
  exact absurd (hready.symm.trans fullOfFlights_complete) (by decide +kernel)

end Sys2Proof.Machine


/-! O36: an operation in an engine's lane whose thread is past the owners of the lanes (10 R298). -/
namespace Sys2Proof.Machine

/-- A DEVW of TSV_XLIM that names a seventh thread. -/
def unservedFlight : Flight :=
  { place := 0, thr := 6, dest := .none, tok := State.reset.token 0, op := .devw R.TSV_XLIM_XLIM.addr 0, done := none }

/-- Engine 0 has the operation in flight, and it waits alone in the engine's lane. -/
def unservedLane : State := (State.reset.setFlights 0 [unservedFlight]).setLane 0 [.flight 0 6]

/-- The round robin of the lane does not come to a seventh owner. -/
theorem unservedLane_stays : unservedLane.mailboxAdmit.lane 0 = [.flight 0 6] := by decide +kernel

/-- Refutes O36: the thread of an operation is any number in the statement, and one past the owners that the round robin of a lane
serves never has its DEVW admitted. -/
theorem not_mailboxAdmission : ¬ Obligations.MailboxAdmission := by
  unfold Obligations.MailboxAdmission
  intro h
  obtain ⟨-, -, hdevw, -⟩ := h
  obtain ⟨⟨-, hlane, -⟩, -⟩ := (hdevw unservedLane 0 unservedFlight 0 (by decide +kernel) (by decide +kernel) rfl (by decide +kernel)
    (by decide +kernel) (by decide +kernel)).of_exec rfl
  exact absurd (unservedLane_stays.symm.trans hlane) (by decide)

end Sys2Proof.Machine


/-! O40: a bank that leaves ON while a boot darn and a requested darn both stand in it (12 R348, R355). -/
namespace Sys2Proof.Machine

/-- Bank 27 is BUSY with its boot darn, and a preserving darn of it was requested. -/
def darnedTwice : { s : State // s.powered = true } :=
  ⟨{ State.reset with bank := { State.reset.bank with busy := [(27, 3)], darn := some (27, false) } }, by decide +kernel⟩

/-- The power change aborts the boot darn alone. -/
theorem darnedTwice_darn : (darnedTwice.1.bankCfgWrite 27 1).bank.darn = some (27, false) := by decide +kernel

theorem exec_bnkPwrWrite {s : State} (b : Fin 29) (v : BitVec 32) (hp : s.powered = true) :
    exec (.bnkPwrWrite b v) s = .next (s.bankCfgWrite b v.toNat) :=
  State.live_next _ hp

/-- Refutes O40: the statement lets a bank that is BUSY with its boot darn have a requested preserving darn too, and the bank's
leaving ON then ends the boot darn and not the requested one. -/
theorem not_bankCommands : ¬ Obligations.BankCommands := by
  unfold Obligations.BankCommands
  intro h
  obtain ⟨hpower, -⟩ := h
  obtain ⟨-, -, -, -, -, -, -, hdarn, -⟩ := (hpower darnedTwice.1 27 1 darnedTwice.2 (by decide +kernel) (by decide +kernel)
    (by decide +kernel)).of_exec (exec_bnkPwrWrite 27 1 darnedTwice.2)
  obtain ⟨hnone, -⟩ := hdarn (by decide) (by decide +kernel) rfl
  exact absurd (hnone.symm.trans darnedTwice_darn) (by decide)

end Sys2Proof.Machine


/-! O45: a flush with no open buffer (13 R394). -/
namespace Sys2Proof.Machine

/-- NV_STATUS shows three open page buffers, and none is open. -/
def miscountedBufs : { s : State // s.awakes = true } := ⟨State.reset.setFld R.NV_STATUS_OPEN 3, by decide +kernel⟩

theorem exec_nvFlush {s : State} (res vin : Nat) (hp : s.awakes = true) :
    exec (.nvFlush res vin) s = .next (s.nvSense res vin).nvFlush :=
  State.awake_next _ hp

/-- Refutes O45: the statement lets OPEN show buffers where none is open, and a flush that commits nothing does not write OPEN. -/
theorem not_nvPageBuffers : ¬ Obligations.NvPageBuffers := by
  unfold Obligations.NvPageBuffers
  intro h
  obtain ⟨-, -, -, -, -, -, -, hflush, -⟩ := h
  obtain ⟨-, -, -, hopen, -⟩ := (hflush miscountedBufs.1 4200 3000 miscountedBufs.2 (by decide +kernel) (by decide)).of_exec
    (exec_nvFlush 4200 3000 miscountedBufs.2)
  exact absurd hopen (by decide +kernel)

end Sys2Proof.Machine


/-! O48: the oven's supply goes low while the heater draws power (19 R493, 06 R195). -/
namespace Sys2Proof.Machine

/-- The heater draws 1200 mW. -/
def ovenHeating : State := State.reset.setFld R.TDC_OVEN_HEAT_MW 1200

/-- Refutes O48: the heater that its supply switches off no longer draws power, so TDC_OVEN shows 0 mW and is not kept. -/
theorem not_resetAndSupplies : ¬ Obligations.ResetAndSupplies := by
  unfold Obligations.ResetAndSupplies
  intro h
  obtain ⟨-, -, -, -, -, -, -, -, -, -, hlow, -⟩ := h
  obtain ⟨-, -, hkept, -⟩ := (hlow ovenHeating).of_exec rfl
  exact absurd (hkept R.TDC_OVEN_HEAT_MW (by simp)) (by decide +kernel)

end Sys2Proof.Machine


/-! O52: a MAJOR of a source whose fence stands (16 R446, R449). -/
namespace Sys2Proof.Machine

/-- The fence of the engine source 0x060 is in effect, and the collector's status shows no fence. -/
def fencedUnshown : { s : State // s.awakes = true } := ⟨State.reset.raise (R.FLT_SRC_FENCED 0x060), by decide +kernel⟩

/-- A unit that is fenced already is fenced no more, and the line follows the status. -/
theorem fencedUnshown_line : (fencedUnshown.1.report 0x060 2 0).fld R.FLT_STATUS_FAULT_L = 0 := by decide +kernel

theorem exec_faultReport {s : State} (src : Fin 512) (cls : Fin 4) (cause : BitVec 8) (hp : s.awakes = true) :
    exec (.faultReport src cls cause) s = .next (s.report src cls cause.toNat) :=
  State.awake_next _ hp

/-- Refutes O52: the statement lets a source be fenced while ANY_FENCE is clear, and a MAJOR of it then leaves FAULT_L off. -/
theorem not_faultReports : ¬ Obligations.FaultReports := by
  unfold Obligations.FaultReports
  intro h
  obtain ⟨-, -, -, hfence, -⟩ := h
  obtain ⟨-, hline⟩ := (hfence fencedUnshown.1 0x060 2 0 ⟨fencedUnshown.2, by decide +kernel, by decide +kernel⟩ (by decide)
    (by decide)).of_exec (exec_faultReport 0x060 2 0 fencedUnshown.2)
  exact absurd (fencedUnshown_line.symm.trans hline) (by decide)

end Sys2Proof.Machine


/-! O53: an entry of the fault log that reads more than its field holds (16 R445, R455). -/
namespace Sys2Proof.Machine

/-- The log counts one entry, and the one-bit VALID of the entry behind it reads 2. -/
def wideLogEntry : { s : State // s.awakes = true } :=
  ⟨{ (State.reset.setFld R.FLT_LOG_STATUS_COUNT 1) with
      regs := Tab.set resetField (State.reset.setFld R.FLT_LOG_STATUS_COUNT 1).regs (R.FLT_LOG_0_VALID 1).key 2 }, by decide +kernel⟩

/-- The entry that moves down is written at the width of its field. -/
theorem wideLogEntry_moved : (wideLogEntry.1.logAck 1).fld (R.FLT_LOG_0_VALID 0) = 0 := by decide +kernel

theorem exec_fltLogAck {s : State} (n : Fin 32) (hp : s.awakes = true) : exec (.fltLogAck n) s = .next (s.logAck n) :=
  State.awake_next _ hp

/-- Refutes O53: the statement ranges over registers that read more than their width, and a log entry that moves down is cut to it. -/
theorem not_faultClearing : ¬ Obligations.FaultClearing := by
  unfold Obligations.FaultClearing
  intro h
  obtain ⟨-, -, -, -, -, -, -, hack, -⟩ := h
  obtain ⟨-, hmoved, -⟩ := (hack wideLogEntry.1 1 wideLogEntry.2 (by decide) (by decide +kernel)).of_exec
    (exec_fltLogAck 1 wideLogEntry.2)
  have hvalid := congrArg (fun l => l.getD 3 0) (hmoved 0 (by decide))
  exact absurd (wideLogEntry_moved.symm.trans hvalid) (by decide +kernel)

end Sys2Proof.Machine


/-! O54: a post whose STAGE reads more than a word (17 R474). -/
namespace Sys2Proof.Machine

/-- Engine 0 holds the role of slot 0, whose first STAGE word reads 2^32. -/
def wideStage : { s : State // s.awakes = true } :=
  ⟨{ (State.reset.setFld (R.HOST_SLOT_CFG_ROLE 0) 0) with
      regs := Tab.set resetField (State.reset.setFld (R.HOST_SLOT_CFG_ROLE 0) 0).regs (slotStage 0 0).key (2 ^ 32) }, by decide +kernel⟩

/-- DATA takes the word at the width of its field. -/
theorem wideStage_published : (wideStage.1.slotPost 1 0).fld (R.HOST_SLOT_DATA_DATA 0 0) = 0 := by decide +kernel

theorem exec_slotPost {s : State} (b : Fin 9) (k : Fin 32) (hp : s.awakes = true) : exec (.slotPost b k) s = .next (s.slotPost b k) :=
  State.awake_next _ hp

/-- Refutes O54: the statement ranges over registers that read more than their width, and a post cuts a STAGE word to it. -/
theorem not_resultSlotsAndPcie : ¬ Obligations.ResultSlotsAndPcie := by
  unfold Obligations.ResultSlotsAndPcie
  intro h
  obtain ⟨-, -, hpost, -⟩ := h
  obtain ⟨hdata, -⟩ := (hpost wideStage.1 1 0 ⟨wideStage.2, by decide +kernel, by decide +kernel⟩ (by decide +kernel)).of_exec
    (exec_slotPost 1 0 wideStage.2)
  exact absurd (wideStage_published.symm.trans (hdata 0)) (by decide +kernel)

end Sys2Proof.Machine


/-! O55: a read of the SPI path that stands in an engine's lane (17 R467, R468). -/
namespace Sys2Proof.Machine

/-- The SPI path uses the compatibility set, and a read of an address that is not mapped waits for it in the lane of engine 0, which the
mailbox serves next. -/
def strayRead : { s : State // s.spiCompat = true } :=
  ⟨{ ((State.reset.raise R.HOST_CFG_SPI_EN).raise R.HOST_CFG_SPI_SET).setLane 0 [.read 1 0x05070000 0] with
      mb := { (State.reset.setLane 0 [.read 1 0x05070000 0]).mb with last := 8 } }, by decide +kernel⟩

/-- The stray read is admitted before the frame's own, and its failure is the frame's first. -/
theorem strayRead_status : ((strayRead.1.compatRead 0x10 6 []).settleWake).host.compatStatus = 4 := by decide +kernel

theorem exec_spiCompatRead {s : State} (i : BitVec 15) (n : Nat) (l : List Nat) (hc : s.spiCompat = true) :
    exec (.spiCompatRead i n l) s = .next (s.compatRead i.toNat n l).settleWake :=
  congrArg Host.Outcome.next (if_pos hc)

/-- Refutes O55: the statement lets the lane of an engine hold a read of the SPI path, whose status becomes that of the frame that reads
hub time. -/
theorem not_serialFrames : ¬ Obligations.SerialFrames := by
  unfold Obligations.SerialFrames
  intro h
  obtain ⟨-, -, -, -, -, -, -, -, -, -, -, -, -, -, -, -, -, hnow, -⟩ := h
  obtain ⟨-, hstatus, -⟩ := (hnow strayRead.1 ⟨strayRead.2, rfl, rfl, by decide +kernel⟩).of_exec
    (exec_spiCompatRead 0x10 6 [] strayRead.2)
  exact absurd (strayRead_status.symm.trans hstatus) (by decide)

end Sys2Proof.Machine


/-! O49: RECALL ends on a state that shows the TI group fence already (16 R447, R451). -/
namespace Sys2Proof.Machine

/-- RECALL is ready to end after a cold start; source 0 has its TI latch set, and the status shows the TI group fence as in effect while
time is not uncertain. The factory copy in use has no record, and no generation is adopted. -/
def recalledFenced : { s : State // s.recallReady = true } :=
  ⟨{ (((State.reset.raise (R.FLT_SRC_LATCHED 0)).raise R.FLT_STATUS_TI_FENCED).clr R.TB_STATUS_TIME_UNCERTAIN).raise
        R.OTP_STATUS_BOOT_NONE with
      pwr := { State.reset.pwr with phase := 2, cold := true }
      stores := { State.reset.stores with factory := 2 } }, by decide +kernel⟩

/-- The group fence that is in effect already declares hub time unknown no second time. -/
theorem recalledFenced_certain : (recalledFenced.1.recallEnd [] 0).fld R.TB_STATUS_TIME_UNCERTAIN = 0 := by decide +kernel

/-- Refutes O49: the statement lets the TI group fence be shown before RECALL applies it again, and hub time is then not declared
uncertain. -/
theorem not_recallEnd : ¬ Obligations.RecallEnd := by
  unfold Obligations.RecallEnd
  intro h
  obtain ⟨-, -, -, -, hti, -⟩ := h
  obtain ⟨-, -, huncertain⟩ := (hti recalledFenced.1 [] 0 0 ⟨by decide +kernel, by decide +kernel⟩ (by decide +kernel)).of_exec rfl
  exact absurd (recalledFenced_certain.symm.trans huncertain) (by decide)

end Sys2Proof.Machine


/-! O50 and O51: the entry into SLEEP while a launch waits in a port's calendar (15 R423, 07 R213, 09 R268). -/
namespace Sys2Proof.Machine

/-- A launch from a buffer in DB_0. -/
def sleepLaunch : Launch :=
  { slot := 0, gen := 1, at_ := 2 ^ 60, tol := 0, buf := 0x800000, notify := false, frame := none }

/-- An entry into SLEEP has come to rest, and port 0, enabled, has the launch in its calendar. -/
def sleepWithLaunch : { s : State // s.powered = true ∧ s.fld R.PWR_STATUS_ENTERING ≠ 0 ∧ s.domSrc 0 = 0 } :=
  ⟨{ ((State.reset.raise R.PWR_STATUS_ENTERING).raise (R.LNK_CFG_EN 0)).setLink 0 { State.reset.link 0 with cal := [sleepLaunch] } with
      pwr := { State.reset.pwr with dst := 2, drained := true } }, by decide +kernel⟩

/-- The disabled port completes the launch DOWN, and the status stands in its buffer. -/
theorem sleepWithLaunch_status : (sleepWithLaunch.1.entrySave 0 0 0).byte 0x800018 ≠ sleepWithLaunch.1.byte 0x800018 := by decide +kernel

theorem exec_pwrEntrySave {s : State} (cal : BitVec 64) (res vin : Nat) (hp : s.powered = true) :
    exec (.pwrEntrySave cal res vin) s = .next (s.entrySave cal.toNat res vin) :=
  State.live_next _ hp

/-- Refutes O50: SLEEP disables a port whose calendar holds a launch, and the outcome DOWN is written into the launch's buffer. -/
theorem not_powerStateEntry : ¬ Obligations.PowerStateEntry := by
  unfold Obligations.PowerStateEntry
  intro h
  obtain ⟨-, -, -, -, -, -, -, -, -, -, -, -, hsleep, -⟩ := h
  obtain ⟨hp, hentering, hsource⟩ := sleepWithLaunch.2
  obtain ⟨-, -, -, -, -, -, hmem⟩ := (hsleep sleepWithLaunch.1 0 0 0 ⟨hp, hentering, rfl⟩ hsource rfl rfl).of_exec
    (exec_pwrEntrySave 0 0 0 hp)
  exact sleepWithLaunch_status (hmem 0x800018)

/-- Refutes O51: memory is not kept when SLEEP is entered with a launch in the calendar of an enabled port. -/
theorem not_wakeSourcesAndLedger : ¬ Obligations.WakeSourcesAndLedger := by
  unfold Obligations.WakeSourcesAndLedger
  intro h
  obtain ⟨-, -, -, -, -, -, -, -, -, -, -, -, -, -, hsleep⟩ := h
  obtain ⟨hp, hentering, hsource⟩ := sleepWithLaunch.2
  obtain ⟨-, -, hmem⟩ := (hsleep sleepWithLaunch.1 0 0 0 hp hentering rfl hsource rfl rfl).of_exec (exec_pwrEntrySave 0 0 0 hp)
  exact sleepWithLaunch_status (hmem 0x800018)

end Sys2Proof.Machine


/-! O23: the place of a Sync whose handle a record holds already (09 R265, R267, log 74). -/
namespace Sys2Proof.Machine

theorem pickOne_singleton {α : Type} (x : α) (k : Nat) : pickOne [x] k = some x := by
  simp [pickOne, Nat.mod_one]

/-- What PLACE leaves when the launch takes slot 0 of its link: the state, the status, the handle. -/
def State.placedFirst (s : State) (link buf : Nat) (notify : Bool) (h : List (BitVec 8)) : State × Nat × Nat :=
  let l := s.link link
  let gen := (Tab.get (fun _ => 0) l.gens 0 + 1) % 2 ^ 16
  let tol := if launchFlag h 3 then launchTol h else s.fld (R.LNK_LATE_TOL_TOL link)
  let x : Launch := { slot := 0, gen := gen, at_ := decodeHub (launchAt h), tol := tol, buf := buf, notify := notify, frame := none }
  (s.setLink link { l with cal := insertLaunch x l.cal, gens := Tab.set (fun _ => 0) l.gens 0 gen }, 0, handleOf link 0 gen)

/-- A calendar with one slot left leaves no choice of slot. -/
theorem calPlace_of_oneFree {s : State} {link buf : Nat} {notify : Bool} {h : List (BitVec 8)}
    (hfree : (List.range 1024).filter (fun k => !(s.link link).cal.any (fun x => x.slot == k)) = [0]) :
    s.calPlace link buf notify h = s.placedFirst link buf notify h := by
  unfold State.calPlace
  extract_lets l free
  have hpick : pickOne free buf = some 0 := by rw [show free = [0] from hfree, pickOne_singleton]
  rw [hpick]
  rfl

/-- A PLACE by the link's owner with a good buffer, a good header and AT in range enters the calendar. -/
theorem schedPlace_eq_calPlace {s : State} {tok link buf : Nat} {notify : Bool} (hown : ownsLaunch tok link = true)
    (hbuf : buf % 128 = 0 ∧ launchBank buf = true)
    (hhead : headerOk (s.launchHeader link buf).2 = true ∧ launchAt (s.launchHeader link buf).2 ≠ 0 ∧
      launchBank (buf + 128 * launchEntries (s.launchHeader link buf).2 - 1) = true)
    (hfar : decodeHub (launchAt (s.launchHeader link buf).2) ≤ (s.launchHeader link buf).1.tb.now + horizon)
    (hnear : (s.launchHeader link buf).1.tb.now + 25 * fuPerUs ≤ decodeHub (launchAt (s.launchHeader link buf).2)) :
    s.schedPlace tok link buf notify
      = (s.launchHeader link buf).1.calPlace link buf notify (s.launchHeader link buf).2 := by
  obtain ⟨halign, hbank⟩ := hbuf
  obtain ⟨hok, hat, hend⟩ := hhead
  unfold State.schedPlace
  simp only [hown, halign, hbank, hok, hat, hend, not_true_eq_false, ne_eq, or_self, if_false, Nat.not_lt.mpr hfar,
    Nat.not_lt.mpr hnear]

/-- Launches in every slot of the calendar but the first. -/
def otherLaunches : List Launch :=
  (List.range 1023).map fun k => { slot := k + 1, gen := 1, at_ := 0, tol := 0, buf := 0, notify := false, frame := none }

/-- EPS_0 runs on engine 0. Record 0 is JOINING at link 0, 1 ms before its next interval, and its LAUNCH_0 still holds the handle that
the launch in slot 0 will get; the frame prepared in DB_0 has 60 bytes and a TAG. -/
def staleHandle : State :=
  { (State.reset.setFld (R.ENG_ROLE_HOLDER 8) 0).setLink 0 { State.reset.link 0 with cal := otherLaunches } with
    mem := [(0x80000E, 60), (0x800011, 1), (0x800014, 0x55), (0x1000006, 1), (0x10000B0, 1), (0x10000B3, 0x80)]
    tb := { State.reset.tb with now := fuPerSec - fuPerMs }
    eps := { State.reset.eps with runs := [(0, { EpRun.init with interval := 1 })] } }

/-- AT stands in the frame's first block. -/
def staleHandleTimed : State :=
  (staleHandle.writeRange 8 0x800000 12 (encodeHub fuPerSec) (primaryOf ((staleHandle.holder (epsRole 0)).getD 8) 8)).1

/-- The launch stands in the calendar. -/
def staleHandlePlaced : State × Nat × Nat :=
  (staleHandleTimed.launchHeader 0 0x800000).1.placedFirst 0 0x800000 false (staleHandleTimed.launchHeader 0 0x800000).2

theorem staleHandle_link : (staleHandleTimed.launchHeader 0 0x800000).1.links = staleHandle.links := by decide +kernel

theorem otherLaunches_any (k : Nat) : otherLaunches.any (fun x => x.slot == k) = (decide (1 ≤ k) && decide (k ≤ 1023)) := by
  rw [Bool.eq_iff_iff]
  simp only [otherLaunches, List.any_map, List.any_eq_true, List.mem_range, Function.comp, beq_iff_eq, Bool.and_eq_true, decide_eq_true_eq]
  constructor
  · rintro ⟨j, hj, rfl⟩
    omega
  · rintro ⟨h1, h2⟩
    exact ⟨k - 1, by omega, by omega⟩

theorem staleHandle_oneFree : (List.range 1024).filter
    (fun k => !((staleHandleTimed.launchHeader 0 0x800000).1.link 0).cal.any (fun x => x.slot == k)) = [0] := by
  have hcal : ((staleHandleTimed.launchHeader 0 0x800000).1.link 0).cal = otherLaunches := by
    rw [State.link, staleHandle_link]
    decide +kernel
  simp only [hcal, otherLaunches_any]
  decide +kernel

theorem staleHandle_schedPlace :
    staleHandleTimed.schedPlace (staleHandleTimed.token (epsRole 0)).toNat 0 0x800000 false = staleHandlePlaced :=
  (schedPlace_eq_calPlace (by decide +kernel) (by decide +kernel) (by decide +kernel) (by decide +kernel) (by decide +kernel)).trans
    (calPlace_of_oneFree staleHandle_oneFree)

/-- A Sync that is due, from a buffer in a bank of launches, is placed; with the status 0 its handle and TAG go into the record. -/
theorem syncPlace_eq {s s1 : State} {i buf : Nat} {r : Record} {p : State × Nat × Nat} (hrec : s.getRec i = (s, r, false))
    (hdue : s.syncDueFor i r = true) (hbuf : launchBank buf = true)
    (htime : (s.writeRange ((bankOf buf).getD 0) buf 12 (encodeHub (intervalStart i (s.intervalNo i r + 1) r))
      (primaryOf ((s.holder (epsRole (shardOf i))).getD 8) ((bankOf buf).getD 0))).1 = s1)
    (hplace : s1.schedPlace (s1.token (epsRole (shardOf i))).toNat (r.get 16 1 % 32) buf false = p) (hcode : p.2.1 = 0) :
    s.syncPlace i buf = (p.1.setEpRun i { p.1.epRun i with placed := s.intervalNo i r + 1 }).putRec i
      ((r.put (p.1.launchField r) 4 p.2.2).put (p.1.launchField r + 4) 4
        ((p.1.setEpRun i { p.1.epRun i with placed := s.intervalNo i r + 1 }).bytes (buf + 20) 4)) := by
  unfold State.syncPlace
  simp only [hrec, hdue, hbuf, htime, hplace, hcode, Bool.false_eq_true, not_true_eq_false, or_self, if_false, ne_eq]

theorem intervalClose_eq {s : State} {i : Nat} {r : Record} (hrec : s.getRec i = (s, r, false))
    (hdue : s.intervalNo i r ≤ (s.epRun i).interval) : s.intervalClose i = s := by
  unfold State.intervalClose
  simp only [hrec, hdue, or_true, if_true]

/-- Record 0 as the role reads it. -/
def staleHandleRec : Record := staleHandle.byteList (recordAt 0) 256

theorem staleHandle_getRec : staleHandle.getRec 0 = (staleHandle, staleHandleRec, false) := by decide +kernel

theorem staleHandle_timed : (staleHandle.writeRange ((bankOf 0x800000).getD 0) 0x800000 12
    (encodeHub (intervalStart 0 (staleHandle.intervalNo 0 staleHandleRec + 1) staleHandleRec))
    (primaryOf ((staleHandle.holder (epsRole (shardOf 0))).getD 8) ((bankOf 0x800000).getD 0))).1 = staleHandleTimed := by
  have hstart : intervalStart 0 (staleHandle.intervalNo 0 staleHandleRec + 1) staleHandleRec = fuPerSec := by decide +kernel
  rw [hstart]
  rfl

/-- What the role leaves: the launch is in the calendar, and the record is updated from there. -/
def staleHandleLeft : State :=
  (staleHandlePlaced.1.setEpRun 0 { staleHandlePlaced.1.epRun 0 with placed := staleHandle.intervalNo 0 staleHandleRec + 1 }).putRec 0
    ((staleHandleRec.put (staleHandlePlaced.1.launchField staleHandleRec) 4 staleHandlePlaced.2.2).put
      (staleHandlePlaced.1.launchField staleHandleRec + 4) 4
      ((staleHandlePlaced.1.setEpRun 0 { staleHandlePlaced.1.epRun 0 with
        placed := staleHandle.intervalNo 0 staleHandleRec + 1 }).bytes (0x800000 + 20) 4))

theorem staleHandle_syncPlace : staleHandle.syncPlace 0 0x800000 = staleHandleLeft :=
  syncPlace_eq staleHandle_getRec (by decide +kernel) (by decide +kernel) staleHandle_timed staleHandle_schedPlace (by decide +kernel)

theorem staleHandle_intervalEnd : staleHandle.intervalEnd 0 0x800000 = staleHandleLeft := by
  rw [State.intervalEnd, if_neg (by decide +kernel), intervalClose_eq staleHandle_getRec (by decide +kernel)]
  exact staleHandle_syncPlace

/-- LAUNCH_1 takes the handle, since LAUNCH_0 names the new launch. -/
theorem staleHandleLeft_launch1 : staleHandleLeft.byte (recordAt 0 + 184) ≠ staleHandle.byte (recordAt 0 + 184) := by decide +kernel

theorem exec_epIntervalEnd {s : State} (i : Fin 131072) (buf : BitVec 32) (hp : s.powered = true) :
    exec (.epIntervalEnd i buf) s = .next (s.intervalEnd i buf.toNat) :=
  State.live_next _ hp

/-- Refutes O23: the statement takes the place of the handle from the calendar before the launch. A record whose LAUNCH_0 holds the
handle that the launch gets keeps it, and the new entry goes to LAUNCH_1. -/
theorem not_endpointIntervals : ¬ Obligations.EndpointIntervals := by
  unfold Obligations.EndpointIntervals
  intro h
  obtain ⟨-, -, -, -, hplace, -⟩ := h
  have hp : staleHandle.powered = true := by decide +kernel
  have hexec : exec (.epIntervalEnd 0 0x800000) staleHandle = .next staleHandleLeft :=
    (exec_epIntervalEnd 0 0x800000 hp).trans (congrArg Host.Outcome.next staleHandle_intervalEnd)
  have hready : staleHandle.epsRuns 0 = true ∧ staleHandle.bank.ecc = [] ∧ Record.state staleHandleRec ≠ 0 ∧
      Record.state staleHandleRec ≠ 7 := by decide +kernel
  obtain ⟨-, -, -, -, hown, -⟩ := (hplace staleHandle 0 0x800000 ⟨hp, hready⟩ (by decide +kernel) (by decide +kernel)
    ⟨by decide +kernel, by decide +kernel, by decide +kernel, by decide +kernel, by decide +kernel, by decide +kernel,
      by decide +kernel, by decide +kernel, by decide +kernel, 0, by decide, by decide +kernel⟩).of_exec hexec
  have hfield : staleHandle.launchField staleHandleRec = 176 := by decide +kernel
  refine staleHandleLeft_launch1 (hown 184 (by decide) ?_ (by decide) (by decide))
  change 184 ∉ (List.range 8).map (staleHandle.launchField staleHandleRec + ·)
  rw [hfield]
  decide

end Sys2Proof.Machine


/-! O47: the mode commands and the request for FACTORY (14 R404, R408, R411). -/
namespace Sys2Proof.Machine

/-! ### An operation enters a lane -/

theorem State.lane_of_mb {s t : State} (h : t.mb = s.mb) (l : Nat) : t.lane l = s.lane l := by rw [State.lane, State.lane, h]

theorem State.lane_setLane (s : State) (l : Nat) (x : List LaneOp) : (s.setLane l x).lane l = x := Tab.get_set_same _ _ _ _

theorem State.lane_laneAdd (s : State) (l : Nat) (o : LaneOp) : (s.laneAdd l o).lane l = s.lane l ++ [o] := by
  unfold State.laneAdd
  dsimp only
  split
  · exact (State.lane_of_mb (by rfl) l).trans (s.lane_setLane l _)
  · exact s.lane_setLane l _

theorem FieldsKept.hostLaneAdd {s t : State} {l : List Fld} (h : FieldsKept s t l) (o : LaneOp) (hl : R.HOST_MB_WAIT_WAITS ∈ l) :
    FieldsKept s (t.laneAdd 8 o) l := by
  have hlane : FieldsKept s (t.setLane 8 (t.lane 8 ++ [o])) l := h.of_regs (by rfl)
  exact .ite (hlane.bump hl) hlane

/-- Several operations enter the host lane in order. -/
theorem foldl_hostLaneAdd {α : Type} (g : α → LaneOp) {l : List Fld} (hl : R.HOST_MB_WAIT_WAITS ∈ l) :
    ∀ (ws : List α) {s t : State}, FieldsKept s t l → MemKept s t →
      (ws.foldl (fun s w => s.laneAdd 8 (g w)) t).lane 8 = t.lane 8 ++ ws.map g ∧
        FieldsKept s (ws.foldl (fun s w => s.laneAdd 8 (g w)) t) l ∧ MemKept s (ws.foldl (fun s w => s.laneAdd 8 (g w)) t)
  | [], s, t, hf, hm => ⟨by simp, hf, hm⟩
  | w :: ws, s, t, hf, hm => by
    obtain ⟨hlane, hfld, hmem⟩ := foldl_hostLaneAdd g hl ws (hf.hostLaneAdd (g w) hl) 
      (fun a => (memKept_of_memory (t.laneAdd_memory 8 (g w)) a).trans (hm a))
    exact ⟨by rw [List.foldl_cons, hlane, State.lane_laneAdd, List.map_cons, List.append_assoc, List.singleton_append], hfld, hmem⟩

/-! ### The code and the answer of a mode command -/

theorem leaveReady_iff (s : State) : s.leaveReady = true ↔ s.pllState 0 = 3 ∧ s.domSrc 0 = 0 ∧ s.domGated 0 = false := by
  simp only [State.leaveReady, Bool.and_eq_true, beq_iff_eq, Bool.not_eq_true', and_assoc]

/-- The state in which the answer is shown. -/
def State.modeAnswer (s : State) (code : Nat) : State := (s.setFld R.SYS_MODE_STATUS_RESULT code).next R.SYS_MODE_STATUS_SEQ

theorem State.modeAnswer_spec (s : State) {code : Nat} (hc : code < 8) :
    (s.modeAnswer code).fld R.SYS_MODE_STATUS_RESULT = code ∧
      (s.modeAnswer code).fld R.SYS_MODE_STATUS_SEQ = (s.fld R.SYS_MODE_STATUS_SEQ + 1) % 2 ^ R.SYS_MODE_STATUS_SEQ.width ∧
      OnlyFields s (s.modeAnswer code) [R.SYS_MODE_STATUS_RESULT, R.SYS_MODE_STATUS_SEQ] := by
  refine ⟨?_, ?_, ((OnlyFields.refl s _).setFld code (by simp)).setFld _ (by simp)⟩
  · rw [State.modeAnswer, State.fld_next, if_neg (by decide), State.fld_setFld_same]
    exact Nat.mod_eq_of_lt hc
  · rw [State.modeAnswer, State.fld_next, if_pos rfl, State.fld_setFld_ne _ _ (by decide)]

theorem State.modeCmd_of_refused {s : State} {dst code : Nat} (h : s.modeCode dst = code) (hc : code ≠ 1) :
    s.modeCmd dst = s.modeAnswer code := by
  rw [State.modeCmd, h]
  exact if_neg hc

/-- What an accepted command leaves before its entry writes enter the host lane. -/
def State.modeEntered (s : State) (dst : Nat) : State := ((s.modeAnswer 1).setFld R.SYS_MODE_MODE dst).raise R.SYS_MODE_CHANGING

/-- The host-lane form of an entry write. -/
def entryOp (w : Nat × Nat) : LaneOp := .write 5 w.1 0 (BitVec.ofNat 32 w.2)

theorem State.modeCmd_of_accepted {s : State} {dst : Nat} (h : s.modeCode dst = 1) :
    s.modeCmd dst = ((s.modeEntered dst).modeWrites dst).foldl (fun s w => s.laneAdd 8 (entryOp w)) (s.modeEntered dst) := by
  rw [State.modeCmd, h]
  rfl

/-- SRC of the RELAY mode follows RELAY_SRC, which the command leaves alone. -/
theorem State.modeWrites_modeEntered (s : State) (dst m : Nat) : (s.modeEntered dst).modeWrites m = s.modeWrites m := by
  have hrelay : (s.modeEntered dst).flag R.SYS_MODE_RELAY_SRC = s.flag R.SYS_MODE_RELAY_SRC := by
    obtain ⟨-, -, honly⟩ := s.modeAnswer_spec (code := 1) (by decide)
    refine congrArg (· != 0) ?_
    exact (State.fld_setFld_ne _ _ (by decide)).trans ((State.fld_setFld_ne _ _ (by decide)).trans (honly.2 _ (by decide)))
  simp only [State.modeWrites, hrelay]

theorem exec_modeCmd (s : State) (dst : Fin 8) : exec (.modeCmd dst) s = s.awake (s.modeCmd dst) := rfl

/-- Settles O47: the code of R408 decides; an accepted command enters its mode and puts its writes into the host lane in order. -/
theorem modeCommands : Obligations.ModeCommands := by
  unfold Obligations.ModeCommands
  extract_lets mode answers turned busy open_ legal ready free src writes waits
  have hrefuse (s : State) (dst : Fin 8) {code : Nat} (hp : s.awakes = true) (h : s.modeCode dst = code) (hc : code ≠ 1)
      (hc8 : code < 8) : Does (.modeCmd dst) s fun u => turned s u code := by
    obtain ⟨hres, hseq, honly⟩ := s.modeAnswer_spec hc8
    refine does_awake (exec_modeCmd s dst) hp ?_
    rw [State.modeCmd_of_refused h hc]
    exact ⟨⟨hres, hseq⟩, honly⟩
  have hbusy (s : State) : (s.fld R.SYS_MODE_MODE = 0 ∨ s.flag R.SYS_MODE_CHANGING = true) ↔ busy s := by
    rw [flag_ne_zero]
  have hlegal (dst : Fin 8) : (dst.val = 0 ∨ 5 ≤ dst.val) ↔ ¬ legal dst := by
    change _ ↔ ¬ (1 ≤ dst.val ∧ dst.val ≤ 4)
    omega
  have hready (s : State) : (s.fld R.SYS_MODE_MODE = 4 ∧ ¬ s.leaveReady = true) ↔ ¬ ready s := by
    rw [leaveReady_iff, ← Classical.not_imp]
  have hwaits (s : State) : s.entryWaits = true ↔ waits s := Iff.rfl
  have hdone (s : State) : (s.flag R.SYS_MODE_CHANGING = true ∧ ¬ s.entryWaits = true) ↔
      s.fld R.SYS_MODE_CHANGING ≠ 0 ∧ ¬ waits s := by rw [flag_ne_zero, hwaits]
  have hcode (s : State) (dst : Fin 8) : s.modeCode dst = if busy s then 5 else if mode s = 5 then 6 else if ¬ legal dst then 3
      else if ¬ ready s then 4 else if dst.val = mode s then 2 else 1 := by
    simp only [State.modeCode, hbusy, hlegal, hready]
    rfl
  refine ⟨?busy, ?factory, ?illegal, ?unready, ?present, ?accepted, ?done, ?idle, ?latched, ?unlatched⟩
  case busy =>
    intro s dst hp hb
    exact hrefuse s dst hp (by rw [hcode, if_pos hb]) (by decide) (by decide)
  case factory =>
    intro s dst hp hm hb
    exact hrefuse s dst hp (by rw [hcode, if_neg hb, if_pos hm]) (by decide) (by decide)
  case illegal =>
    rintro s dst ⟨hp, hb, hm⟩ hl
    exact hrefuse s dst hp (by rw [hcode, if_neg hb, if_neg hm, if_pos hl]) (by decide) (by decide)
  case unready =>
    rintro s dst ⟨hp, hb, hm⟩ hl hr
    exact hrefuse s dst hp (by rw [hcode, if_neg hb, if_neg hm, if_neg (not_not.mpr hl), if_pos hr]) (by decide) (by decide)
  case present =>
    rintro s dst ⟨hp, hb, hm⟩ hl hr he
    exact hrefuse s dst hp (by rw [hcode, if_neg hb, if_neg hm, if_neg (not_not.mpr hl), if_neg (not_not.mpr hr), if_pos he.symm])
      (by decide) (by decide)
  case accepted =>
    rintro s dst ⟨hp, hb, hm⟩ hl hr hne
    have h1 : s.modeCode dst = 1 := by
      rw [hcode, if_neg hb, if_neg hm, if_neg (not_not.mpr hl), if_neg (not_not.mpr hr), if_neg (Ne.symm hne)]
    obtain ⟨hres, hseq, honly⟩ := s.modeAnswer_spec (code := 1) (by decide)
    have hlist : FieldsKept s (s.modeEntered dst)
        [R.SYS_MODE_MODE, R.SYS_MODE_CHANGING, R.SYS_MODE_STATUS_RESULT, R.SYS_MODE_STATUS_SEQ, R.HOST_MB_WAIT_WAITS] :=
      ((honly.2.mono (by simp)).setFld _ (by simp)).raise (by simp)
    have hmem : MemKept s (s.modeEntered dst) := memKept_of_memory rfl
    obtain ⟨hlane, -, -⟩ := foldl_hostLaneAdd entryOp (by simp) ((s.modeEntered dst).modeWrites dst) hlist hmem
    obtain ⟨-, hfld, hmem'⟩ := foldl_hostLaneAdd entryOp (l :=
      [R.SYS_MODE_MODE, R.SYS_MODE_CHANGING, R.SYS_MODE_STATUS_RESULT, R.SYS_MODE_STATUS_SEQ, R.HOST_MB_WAIT_WAITS]) (by simp)
      ((s.modeEntered dst).modeWrites dst) hlist hmem
    obtain ⟨-, hrest, -⟩ := foldl_hostLaneAdd entryOp (l := [R.HOST_MB_WAIT_WAITS]) (by simp)
      ((s.modeEntered dst).modeWrites dst) (FieldsKept.refl (s.modeEntered dst) _) (memKept_of_memory rfl)
    refine does_awake (exec_modeCmd s dst) hp ?_
    rw [State.modeCmd_of_accepted h1]
    refine ⟨⟨?_, ?_⟩, ?_, ?_, ?_, hmem', hfld⟩
    · rw [hrest _ (by decide)]
      exact (State.fld_setFld_ne _ _ (by decide)).trans ((State.fld_setFld_ne _ _ (by decide)).trans hres)
    · rw [hrest _ (by decide)]
      exact (State.fld_setFld_ne _ _ (by decide)).trans ((State.fld_setFld_ne _ _ (by decide)).trans hseq)
    · refine (hrest _ (by decide)).trans ((State.fld_setFld_ne _ _ (by decide)).trans ((State.fld_setFld_same _ _ _).trans ?_))
      exact Nat.mod_eq_of_lt dst.isLt
    · exact (hrest _ (by decide)).trans (State.fld_raise_same _ _)
    · rw [hlane, State.lane_of_mb (s := s) (by rfl)]
      refine congrArg (s.lane 8 ++ ·) ?_
      rw [State.modeWrites_modeEntered]
      obtain hd | hd | hd | hd : dst.val = 1 ∨ dst.val = 2 ∨ dst.val = 3 ∨ dst.val = 4 := by
        obtain ⟨hlo, hhi⟩ : 1 ≤ dst.val ∧ dst.val ≤ 4 := hl
        omega
      · simp only [writes, hd]
        rfl
      · simp only [writes, hd]
        rfl
      · by_cases hr : s.fld R.SYS_MODE_RELAY_SRC = 0
        · simp only [writes, hd, State.modeWrites, State.flag, hr, if_true]
          rfl
        · simp only [writes, hd, State.modeWrites, flag_ne_zero, ne_eq, hr, not_false_eq_true, if_true, if_false]
          rfl
      · simp only [writes, hd]
        rfl
  case done =>
    intro s hp hc hw
    refine does_awake (t := s.modeDone) rfl hp ?_
    rw [State.modeDone, if_pos ((hdone s).mpr ⟨hc, hw⟩)]
    refine ⟨?_, State.fld_setFld_same _ _ _, ((OnlyFields.refl s _).clr (by simp)).setFld _ (by simp)⟩
    exact (State.fld_setFld_ne _ _ (by decide)).trans (State.fld_clr_same _ _)
  case idle =>
    intro s hp hc
    exact ignores_awake rfl (if_neg fun h => hc.elim ((hdone s).mp h).1 ((hdone s).mp h).2)
  case latched =>
    intro s v hl hv
    refine does_next rfl ?_
    have hbit : v.toNat.testBit 0 = true := by rw [Nat.testBit_zero, decide_eq_true hv]
    rw [State.factoryReq, if_pos ⟨hl, hbit⟩]
    exact ⟨rfl, rfl, rfl⟩
  case unlatched =>
    intro s v h
    refine ignores_next rfl (if_neg fun ⟨hl, hbit⟩ => ?_)
    rw [Nat.testBit_zero, decide_eq_true_eq] at hbit
    exact h.elim (fun h => by simp [h] at hl) (by omega)

end Sys2Proof.Machine


/-! O43: with which code an OTP command is admitted (13 R374, R384, R388). -/
namespace Sys2Proof.Machine

/-! ### The image store is a matter of memory alone -/

section
variable {s t : State} (h : t.memory = s.memory)
include h

theorem bytes_of_memory : t.bytes = s.bytes := by
  funext a n
  exact State.bytes_congr fun i _ => memKept_of_memory h _

theorem genField_of_memory (g off n : Nat) : t.genField g off n = s.genField g off n := by
  rw [State.genField, State.genField, bytes_of_memory h]

theorem genLength_of_memory (g : Nat) : t.genLength g = s.genLength g := genField_of_memory h g 20 4

theorem lengthOk_of_memory (g : Nat) : t.lengthOk g = s.lengthOk g := by rw [State.lengthOk, State.lengthOk, genLength_of_memory h]

theorem genCrc_of_memory (g : Nat) : t.genCrc g = s.genCrc g := by
  simp only [State.genCrc, genLength_of_memory h, genField_of_memory h]

theorem genState_of_memory (g : Nat) : t.genState g = s.genState g := by
  have hmem : t.mem = s.mem := (Prod.mk.inj h).1
  have hblank : t.genBlank g = s.genBlank g := by rw [State.genBlank, State.genBlank, hmem]
  simp only [State.genState, genField_of_memory h, lengthOk_of_memory h, genCrc_of_memory h, hblank]

theorem imageRecs_of_memory : ∀ f a e : Nat, t.imageRecs f a e = s.imageRecs f a e
  | 0, _, _ => rfl
  | f + 1, a, e => by simp only [State.imageRecs, bytes_of_memory h, imageRecs_of_memory f]

theorem genRecs_of_memory (g : Nat) : t.genRecs g = s.genRecs g := by
  simp only [State.genRecs, genLength_of_memory h, imageRecs_of_memory h]

theorem triplesOf_of_memory (a len : Nat) : t.triplesOf a len = s.triplesOf a len := by
  simp only [State.triplesOf, bytes_of_memory h]

theorem genTriples_of_memory (g : Nat) : t.genTriples g = s.genTriples g := by
  simp only [State.genTriples, genRecs_of_memory h, triplesOf_of_memory h]

theorem recordOk_of_memory (r : Nat × Nat × Nat × Nat) : t.recordOk r = s.recordOk r := by
  simp only [State.recordOk, bytes_of_memory h, triplesOf_of_memory h]

theorem imageValid_of_memory (g : Nat) : t.imageValid g = s.imageValid g := by
  simp only [State.imageValid, genField_of_memory h, lengthOk_of_memory h, genRecs_of_memory h, recordOk_of_memory h]

theorem adoptable_of_memory : t.adoptable = s.adoptable := by
  simp only [State.adoptable, genState_of_memory h, imageValid_of_memory h]

end

/-! ### The sensed voltage and a GO -/

/-- What sensing VDD_OTP leaves as it was: the store, its evaluation and the command's operands. -/
theorem State.otpSense_code (s : State) (low : Bool) (op gen : Nat) :
    (s.otpSense low).otpCode op gen =
      if s.stores.otp.isSome ∨ s.fenced 0x01B then 3
      else if 3 < op then 4
      else if op < 3 ∧ low then 5
      else if op = 0 ∧ s.burnAddrBad (s.fld R.OTP_ADDR_ADDR) then 6
      else if op = 0 ∧ Nat.land (s.otpWord (s.fld R.OTP_ADDR_ADDR)) (s.fld R.OTP_DATA) ≠ s.otpWord (s.fld R.OTP_ADDR_ADDR) then 7
      else if (op = 1 ∧ s.genState gen ≠ 1) ∨ (op = 2 ∧ s.genState gen = 0) ∨ (op = 3 ∧ s.genState gen ≠ 2) then 8
      else if op = 3 ∧ s.adoptable ≠ some gen then 9
      else if (op = 1 ∨ op = 3) ∧ ¬ s.imageValid gen then 10
      else if op = 1 ∧ s.genCrc gen ≠ s.fld R.OTP_EXPECT_CRC then 11
      else 1 := by
  have hkept (f : Fld) (hf : f.key ≠ R.OTP_STATUS_OTP_LOW.key) : (s.otpSense low).fld f = s.fld f := State.fld_setFld_ne _ _ hf
  have haddr := hkept R.OTP_ADDR_ADDR (by decide)
  have hdata := hkept R.OTP_DATA (by decide)
  have hcrc := hkept R.OTP_EXPECT_CRC (by decide)
  have hfence : (s.otpSense low).fenced 0x01B = s.fenced 0x01B := congrArg (· != 0) (hkept _ (by decide))
  have hmem : (s.otpSense low).memory = s.memory := rfl
  have hword (off : Nat) : (s.otpSense low).otpWord off = s.otpWord off := by rw [State.otpWord, State.otpWord, bytes_of_memory hmem]
  have hbad (off : Nat) : (s.otpSense low).burnAddrBad off = s.burnAddrBad off := by
    rw [State.burnAddrBad, State.burnAddrBad, genState_of_memory hmem]
  rw [State.otpCode, haddr, hdata, hcrc, hfence, hword, hbad, genState_of_memory hmem, imageValid_of_memory hmem,
    genCrc_of_memory hmem, adoptable_of_memory hmem]
  rfl

/-- An ending of a GO: SEQ counts it, the code is shown, CMD_DONE sets. -/
def State.otpRefused (s : State) (code : Nat) : State := (s.next R.OTP_RESULT_SEQ).otpEnd code

theorem State.otpGo_of_refused {s : State} {op gen code : Nat} (h : s.otpCode op gen = code) (hc : code ≠ 1) :
    s.otpGo op gen = s.otpRefused code := by
  rw [State.otpGo, h]
  exact if_neg hc

theorem State.otpRefused_spec (s : State) {code : Nat} (hc : code < 16) :
    (s.otpRefused code).fld R.OTP_RESULT_SEQ = (s.fld R.OTP_RESULT_SEQ + 1) % 2 ^ R.OTP_RESULT_SEQ.width ∧
      (s.otpRefused code).fld R.OTP_RESULT_RESULT = code ∧ (s.otpRefused code).fld R.OTP_EVENTS_CMD_DONE = 1 ∧
      OnlyFields s (s.otpRefused code) [R.OTP_RESULT_SEQ, R.OTP_RESULT_RESULT, R.OTP_EVENTS_CMD_DONE] := by
  refine ⟨?_, ?_, State.fld_raise_same _ _,
    (((OnlyFields.refl s _).setFld _ (by simp)).setFld code (by simp)).raise (by simp)⟩
  · exact (State.fld_setFld_ne _ _ (by decide)).trans ((State.fld_setFld_ne _ _ (by decide)).trans (State.fld_setFld_same _ _ _))
  · exact (State.fld_setFld_ne _ _ (by decide)).trans ((State.fld_setFld_same _ _ _).trans (Nat.mod_eq_of_lt hc))

/-- A command that is admitted. -/
def State.otpAdmitted (s : State) (x : OtpRun) : State :=
  ((({ s with stores := { s.stores with otp := some x } }).next R.OTP_RESULT_SEQ).setFld R.OTP_RESULT_RESULT 1).raise R.OTP_STATUS_BUSY

theorem State.otpGo_of_admitted {s : State} {op gen : Nat} (h : s.otpCode op gen = 1) :
    s.otpGo op gen = s.otpAdmitted ⟨op, gen, s.fld R.OTP_ADDR_ADDR, if op = 3 then 0 else s.fld R.OTP_DATA⟩ := by
  have haddr : (s.next R.OTP_RESULT_SEQ).fld R.OTP_ADDR_ADDR = s.fld R.OTP_ADDR_ADDR := State.fld_setFld_ne _ _ (by decide)
  have hdata : (s.next R.OTP_RESULT_SEQ).fld R.OTP_DATA = s.fld R.OTP_DATA := State.fld_setFld_ne _ _ (by decide)
  rw [State.otpGo, h]
  dsimp only
  rw [if_pos rfl, haddr, hdata]
  rfl

theorem State.otpAdmitted_spec (s : State) (x : OtpRun) :
    (s.otpAdmitted x).fld R.OTP_RESULT_SEQ = (s.fld R.OTP_RESULT_SEQ + 1) % 2 ^ R.OTP_RESULT_SEQ.width ∧
      (s.otpAdmitted x).fld R.OTP_RESULT_RESULT = 1 ∧ (s.otpAdmitted x).fld R.OTP_STATUS_BUSY = 1 ∧
      FieldsKept s (s.otpAdmitted x) [R.OTP_RESULT_SEQ, R.OTP_RESULT_RESULT, R.OTP_STATUS_BUSY] := by
  have hput : FieldsKept s { s with stores := { s.stores with otp := some x } }
      [R.OTP_RESULT_SEQ, R.OTP_RESULT_RESULT, R.OTP_STATUS_BUSY] := (FieldsKept.refl s _).of_regs rfl
  refine ⟨?_, ?_, State.fld_raise_same _ _, ((hput.next (by simp)).setFld 1 (by simp)).raise (by simp)⟩
  · exact (State.fld_setFld_ne _ _ (by decide)).trans ((State.fld_setFld_ne _ _ (by decide)).trans (State.fld_setFld_same _ _ _))
  · exact (State.fld_setFld_ne _ _ (by decide)).trans (State.fld_setFld_same _ _ _)

/-- The generation that may be adopted has a valid image. -/
theorem imageValid_of_adoptable {s : State} {g : Nat} (h : s.adoptable = some g) : s.imageValid g = true := by
  have hg := List.find?_some h
  simp only [Bool.and_eq_true] at hg
  exact hg.2

/-- An ADOPT that is admitted begins its writes. -/
theorem State.otpCmd_of_adopted {s : State} {gen : Nat} (h : s.otpCode 3 gen = 1) (hnone : s.stores.otp = none) :
    s.otpCmd 3 gen = (adoptRegs (s.genTriples gen)).foldl (fun v a => v.adoptWrite a (v.adoptValue (s.genTriples gen) a))
      (s.otpAdmitted ⟨3, gen, s.fld R.OTP_ADDR_ADDR, 0⟩) := by
  have hmem : (s.otpAdmitted ⟨3, gen, s.fld R.OTP_ADDR_ADDR, 0⟩).memory = s.memory := rfl
  have hrun : (s.otpAdmitted ⟨3, gen, s.fld R.OTP_ADDR_ADDR, 0⟩).stores.otp ≠ none := Option.some_ne_none _
  rw [State.otpCmd, State.otpGo_of_admitted h, if_pos rfl]
  rw [if_pos ⟨rfl, hnone, hrun⟩, State.adoptStart, genTriples_of_memory hmem]

theorem exec_otpAdopt (s : State) (g : Fin 4) : exec (.otpAdopt g) s = s.awake (s.otpCmd 3 g) := rfl

/-- Settles O43: the first code of R384 that applies, read with the voltage as sensed; an admitted ADOPT makes its writes in order. -/
theorem otpAdmission : Obligations.OtpAdmission := by
  unfold Obligations.OtpAdmission
  extract_lets sensed busy word badAddr clears seq answers ends runs ok adoptEnds
  have hbusy (s : State) : (s.stores.otp.isSome = true ∨ s.fenced 0x01B = true) ↔ busy s := by
    rw [Option.isSome_iff_ne_none]
  have hbad (s : State) : s.burnAddrBad (s.fld R.OTP_ADDR_ADDR) = true ↔ badAddr s := by
    simp only [State.burnAddrBad, Bool.or_eq_true, bne_iff_ne, decide_eq_true_eq, or_assoc]
    rfl
  have hclears (s : State) : Nat.land (s.otpWord (s.fld R.OTP_ADDR_ADDR)) (s.fld R.OTP_DATA) ≠ s.otpWord (s.fld R.OTP_ADDR_ADDR) ↔
      clears s := Iff.rfl
  have hsense (s : State) (low : Bool) : (s.otpSense low).fld R.OTP_STATUS_OTP_LOW = if low = true then 1 else 0 := by
    refine (State.fld_setFld_same _ _ _).trans ?_
    cases low <;> rfl
  have hsenseKept (s : State) (low : Bool) {l : List Fld} (hl : R.OTP_STATUS_OTP_LOW ∈ l) : FieldsKept s (s.otpSense low) l :=
    FieldsKept.setFld ((FieldsKept.refl s l).of_regs rfl) _ hl
  -- A command that is refused, and one that is admitted.
  have hends (s : State) (low : Bool) {op gen code : Nat} (h : (s.otpSense low).otpCode op gen = code) (hc : code ≠ 1)
      (hc16 : code < 16) : ends s ((s.otpSense low).otpGo op gen) low code := by
    rw [State.otpGo_of_refused h hc]
    obtain ⟨hseq, hres, hdone, honly⟩ := (s.otpSense low).otpRefused_spec hc16
    refine ⟨⟨⟨rfl, (honly.2 _ (by decide)).trans (hsense s low)⟩, ?_, hres, memKept_of_memory rfl⟩, hdone, rfl,
      (hsenseKept s low (by simp)).trans (honly.2.mono (by simp))⟩
    exact hseq.trans (by rw [hsenseKept s low (l := [R.OTP_STATUS_OTP_LOW]) (by simp) _ (by decide)])
  have hruns (s : State) (low : Bool) {op gen : Nat} (h : (s.otpSense low).otpCode op gen = 1) (hop : op ≠ 3) :
      runs s ((s.otpSense low).otpGo op gen) low op gen := by
    have hkept := hsenseKept s low (l := [R.OTP_STATUS_OTP_LOW]) (by simp)
    rw [State.otpGo_of_admitted h, if_neg hop, hkept _ (by decide), hkept _ (by decide)]
    obtain ⟨hseq, hres, hbsy, hfld⟩ := (s.otpSense low).otpAdmitted_spec ⟨op, gen, s.fld R.OTP_ADDR_ADDR, s.fld R.OTP_DATA⟩
    refine ⟨⟨⟨rfl, (hfld _ (by decide)).trans (hsense s low)⟩, ?_, hres, memKept_of_memory rfl⟩, hbsy, rfl,
      (hsenseKept s low (by simp)).trans (hfld.mono (by simp))⟩
    exact hseq.trans (by rw [hkept _ (by decide)])
  have hadopt (s : State) {g : Fin 4} {code : Nat} (hp : s.awakes = true) (h : s.otpCode 3 g = code) (hc : code ≠ 1)
      (hc16 : code < 16) : Does (.otpAdopt g) s fun u => adoptEnds s u code := by
    have hcmd : s.otpCmd 3 g = s.otpRefused code := by
      have hnone : s.stores.otp = none → (s.otpRefused code).stores.otp = none := id
      rw [State.otpCmd, State.otpGo_of_refused h hc]
      exact if_neg fun ⟨_, h0, h1⟩ => h1 (hnone h0)
    obtain ⟨hseq, hres, hdone, honly⟩ := s.otpRefused_spec hc16
    exact does_awake (exec_otpAdopt s g) hp (hcmd ▸ ⟨hseq, hres, hdone, honly⟩)
  have hcode3 (s : State) (gen : Nat) : s.otpCode 3 gen = if busy s then 3 else if s.genState gen ≠ 2 then 8
      else if s.adoptable ≠ some gen then 9 else if ¬ s.imageValid gen then 10 else 1 := by
    rw [State.otpCode]
    simp only [hbusy]
    simp
  refine ⟨?busy, ?low, ?addr, ?clear, ?burns, ?sealState, ?sealInvalid, ?sealMismatch, ?seals, ?revokeBlank, ?revokes, ?adoptBusy,
    ?adoptState, ?adoptNext, ?adopts, ?lane, ?window⟩
  case busy =>
    intro s g low hp hb c hc
    have h3 (op : Nat) : (s.otpSense low).otpCode op g = 3 := by rw [State.otpSense_code, if_pos ((hbusy s).mpr hb)]
    simp only [List.mem_cons, List.not_mem_nil, or_false] at hc
    obtain rfl | rfl | rfl := hc
    · exact does_awake rfl hp (hends s low (h3 0) (by decide) (by decide))
    · exact does_awake rfl hp (hends s low (h3 1) (by decide) (by decide))
    · exact does_awake rfl hp (hends s low (h3 2) (by decide) (by decide))
  case low =>
    intro s g hp hb c hc
    have h5 {op : Nat} (hop : op < 3) : (s.otpSense true).otpCode op g = 5 := by
      rw [State.otpSense_code, if_neg (mt (hbusy s).mp hb), if_neg (by omega), if_pos ⟨hop, rfl⟩]
    simp only [List.mem_cons, List.not_mem_nil, or_false] at hc
    obtain rfl | rfl | rfl := hc
    · exact does_awake rfl hp (hends s true (h5 (op := 0) (by decide)) (by decide) (by decide))
    · exact does_awake rfl hp (hends s true (h5 (op := 1) (by decide)) (by decide) (by decide))
    · exact does_awake rfl hp (hends s true (h5 (op := 2) (by decide)) (by decide) (by decide))
  case addr =>
    rintro s g _ ⟨hp, hb, rfl⟩ ha
    refine does_awake rfl hp (hends s false (op := 0) ?_ (by decide) (by decide))
    rw [State.otpSense_code]
    simp [hbusy, hbad, hb, ha]
  case clear =>
    rintro s g _ ⟨hp, hb, rfl⟩ ha hcl
    refine does_awake rfl hp (hends s false (op := 0) ?_ (by decide) (by decide))
    rw [State.otpSense_code]
    simp only [hbusy, hbad, hclears]
    simp [hb, ha, hcl]
  case burns =>
    rintro s g _ ⟨hp, hb, rfl⟩ ha hcl
    refine does_awake rfl hp (hruns s false (op := 0) ?_ (by decide))
    rw [State.otpSense_code]
    simp only [hbusy, hbad, hclears]
    simp [hb, ha, hcl]
  case sealState =>
    rintro s g _ ⟨hp, hb, rfl⟩ hg
    refine does_awake rfl hp (hends s false (op := 1) ?_ (by decide) (by decide))
    rw [State.otpSense_code]
    simp [hbusy, hb, hg]
  case sealInvalid =>
    rintro s g _ ⟨hp, hb, rfl⟩ hg hv
    refine does_awake rfl hp (hends s false (op := 1) ?_ (by decide) (by decide))
    rw [State.otpSense_code]
    simp [hbusy, hb, hg, hv]
  case sealMismatch =>
    rintro s g _ ⟨hp, hb, rfl⟩ hg hv hne
    refine does_awake rfl hp (hends s false (op := 1) ?_ (by decide) (by decide))
    rw [State.otpSense_code]
    simp [hbusy, hb, hg, hv, hne]
  case seals =>
    rintro s g _ ⟨hp, hb, rfl⟩ hg hv heq
    refine does_awake rfl hp (hruns s false (op := 1) ?_ (by decide))
    rw [State.otpSense_code]
    simp [hbusy, hb, hg, hv, heq]
  case revokeBlank =>
    rintro s g _ ⟨hp, hb, rfl⟩ hg
    refine does_awake rfl hp (hends s false (op := 2) ?_ (by decide) (by decide))
    rw [State.otpSense_code]
    simp [hbusy, hb, hg]
  case revokes =>
    rintro s g _ ⟨hp, hb, rfl⟩ hg
    refine does_awake rfl hp (hruns s false (op := 2) ?_ (by decide))
    rw [State.otpSense_code]
    simp [hbusy, hb, hg]
  case adoptBusy =>
    intro s g hp hb
    exact hadopt s hp (by rw [hcode3, if_pos hb]) (by decide) (by decide)
  case adoptState =>
    intro s g hp hb hg
    exact hadopt s hp (by rw [hcode3, if_neg hb, if_pos hg]) (by decide) (by decide)
  case adoptNext =>
    intro s g hp hb hg ha
    exact hadopt s hp (by rw [hcode3, if_neg hb, if_neg (not_not.mpr hg), if_pos ha]) (by decide) (by decide)
  case adopts =>
    intro s g hp hb hg ha
    have h1 : s.otpCode 3 g = 1 := by
      rw [hcode3, if_neg hb, if_neg (not_not.mpr hg), if_neg (not_not.mpr ha), if_neg (not_not.mpr (imageValid_of_adoptable ha))]
    have hnone : s.stores.otp = none := by
      by_contra hsome
      exact hb (Or.inl hsome)
    exact does_awake (exec_otpAdopt s g) hp (State.otpCmd_of_adopted h1 hnone)
  case lane =>
    intro t a v ha
    rw [State.adoptWrite, if_pos ha]
    exact ⟨t.lane_laneAdd 8 _, memKept_of_memory (t.laneAdd_memory 8 _), (FieldsKept.refl t _).hostLaneAdd _ (by simp)⟩
  case window =>
    intro s hp
    exact does_awake rfl hp ⟨State.fld_bump_same s _, (OnlyFields.refl s _).bump (by simp)⟩

end Sys2Proof.Machine


/-! O44: what a completed OTP command leaves in the store (13 R378, R384 to R388). -/
namespace Sys2Proof.Machine

/-! ### Words of the store -/

theorem bytes_lt (s : State) (a n : Nat) : s.bytes a n < 256 ^ n := by
  induction n generalizing a with
  | zero => simp [State.bytes]
  | succ n ih =>
    have hb := (s.byte a).isLt
    have hr := ih (a + 1)
    rw [State.bytes, Nat.pow_succ]
    omega

theorem otpWord_lt (s : State) (off : Nat) : s.otpWord off < 2 ^ 32 := bytes_lt s _ 4

theorem otpWord_of_memory {s t : State} (h : t.memory = s.memory) (off : Nat) : t.otpWord off = s.otpWord off := by
  rw [State.otpWord, State.otpWord, bytes_of_memory h]

theorem otpWord_of_outside {s t : State} {a n off : Nat} (h : MemKeptOutside s t (otpBase + a) n)
    (hoff : off + 4 ≤ a ∨ a + n ≤ off) : t.otpWord off = s.otpWord off :=
  State.bytes_congr fun i hi => h _ (by omega)

/-- The bits of a value that burn when some of them fail. -/
def unstuck (k : BitVec 32) (v : Nat) : Nat := Nat.land v (2 ^ 32 - 1 - k.toNat)

theorem lor_unstuck_lt (s : State) (off v : Nat) (k : BitVec 32) : Nat.lor (s.otpWord off) (unstuck k v) < 2 ^ 32 := by
  refine Nat.or_lt_two_pow (otpWord_lt s off) ?_
  have hle : unstuck k v ≤ 2 ^ 32 - 1 - k.toNat := Nat.and_le_right
  omega

/-- The store after a burn of one word. -/
def State.burned (s : State) (off v : Nat) (k : BitVec 32) : State :=
  s.setBytes (otpBase + off) 4 (Nat.lor (s.otpWord off) (unstuck k v))

theorem State.burned_otpWord (s : State) (off v : Nat) (k : BitVec 32) :
    (s.burned off v k).otpWord off = Nat.lor (s.otpWord off) (unstuck k v) :=
  (State.bytes_setBytes _ _ _ _).trans (Nat.mod_eq_of_lt (lor_unstuck_lt s off v k))

theorem State.burned_outside (s : State) (off v : Nat) (k : BitVec 32) : MemKeptOutside s (s.burned off v k) (otpBase + off) 4 :=
  s.memKeptOutside_setBytes _ _ _

theorem State.burned_regs (s : State) (off v : Nat) (k : BitVec 32) : (s.burned off v k).regs = s.regs := by
  rw [State.burned, State.setBytes_regs]

theorem State.burned_stores (s : State) (off v : Nat) (k : BitVec 32) : (s.burned off v k).stores = s.stores := by
  rw [State.burned, State.setBytes_stores]

theorem State.burnWord_eq (s : State) (off : Nat) {v : Nat} (k : BitVec 32) (hv : v < 2 ^ 32) :
    s.burnWord off v k.toNat = (s.burned off v k, decide ((s.burned off v k).otpWord off = v)) := by
  rw [State.burned_otpWord, State.burnWord, Nat.mod_eq_of_lt k.isLt, Nat.mod_eq_of_lt hv]
  rfl

/-! ### The CRC fits into its word -/

theorem crcBits_lt {p : Nat} (hp : p < 2 ^ 32) : ∀ (n : Nat) {c : Nat}, c < 2 ^ 32 → crcBits p n c < 2 ^ 32
  | 0, _, hc => hc
  | n + 1, c, hc => by
    refine crcBits_lt hp n ?_
    have hhalf : c / 2 < 2 ^ 32 := by omega
    unfold crcBit
    split
    · exact Nat.xor_lt_two_pow hhalf hp
    · exact hhalf

theorem crcFold_lt {p : Nat} (hp : p < 2 ^ 32) : ∀ (l : List (BitVec 8)) {c : Nat}, c < 2 ^ 32 → l.foldl (crcByte p) c < 2 ^ 32
  | [], _, hc => hc
  | b :: l, _, hc => crcFold_lt hp l (crcBits_lt hp 8 (Nat.xor_lt_two_pow hc (b.isLt.trans (by decide))))

theorem genCrc_lt (s : State) (g : Nat) : s.genCrc g < 2 ^ 32 :=
  Nat.xor_lt_two_pow (crcFold_lt (by decide) _ (by decide)) (by decide)

theorem genState_le (s : State) (g : Nat) : s.genState g ≤ 3 := by
  unfold State.genState
  split
  · omega
  · split
    · omega
    · split <;> omega

/-- The states of the four generations as GEN_STATE shows them. -/
def gensShown (s : State) : Nat := (List.range 4).foldr (fun g a => s.genState g + 4 * a) 0

theorem gensShown_lt (s : State) : gensShown s < 2 ^ 8 := by
  have h0 := genState_le s 0
  have h1 := genState_le s 1
  have h2 := genState_le s 2
  have h3 := genState_le s 3
  change s.genState 0 + 4 * (s.genState 1 + 4 * (s.genState 2 + 4 * (s.genState 3 + 4 * 0))) < 256
  omega

/-! ### The ending of a command -/

/-- No command runs any more. -/
def State.otpStopped (s : State) : State := ({ s with stores := { s.stores with otp := none } }).clr R.OTP_STATUS_BUSY

/-- The fields in which the ending of a burning command shows. -/
def burnEndFields : List Fld := [R.OTP_STATUS_BUSY, R.OTP_RESULT_RESULT, R.OTP_EVENTS_CMD_DONE, R.OTP_STATUS_GEN_STATE]

/-- What the ending shows of a command whose burning left `w`. -/
theorem otpEnded {s w : State} {code : Nat} (hregs : w.regs = s.otpStopped.regs) (hotp : w.stores.otp = none) (hc : code < 16) :
    ((w.otpEnd code).showGens).stores.otp = none ∧ ((w.otpEnd code).showGens).fld R.OTP_STATUS_BUSY = 0 ∧
      ((w.otpEnd code).showGens).fld R.OTP_RESULT_RESULT = code ∧ ((w.otpEnd code).showGens).fld R.OTP_EVENTS_CMD_DONE = 1 ∧
      ((w.otpEnd code).showGens).fld R.OTP_STATUS_GEN_STATE =
        (List.range 4).foldr (fun g a => ((w.otpEnd code).showGens).genState g + 4 * a) 0 ∧
      FieldsKept s ((w.otpEnd code).showGens) burnEndFields := by
  have hmem : ((w.otpEnd code).showGens).memory = (w.otpEnd code).memory := State.showGens_memory _
  have hgens : (w.otpEnd code).showGens = (w.otpEnd code).setFld R.OTP_STATUS_GEN_STATE (gensShown (w.otpEnd code)) := rfl
  have hw : FieldsKept s w burnEndFields :=
    (((FieldsKept.refl s _).of_regs (u := { s with stores := { s.stores with otp := none } }) rfl).clr
      (g := R.OTP_STATUS_BUSY) (by simp [burnEndFields])).of_regs hregs
  have hbusy : w.fld R.OTP_STATUS_BUSY = 0 := (State.fld_congr hregs _).trans (State.fld_clr_same _ _)
  have hshow : gensShown ((w.otpEnd code).showGens) = gensShown (w.otpEnd code) := by
    simp only [gensShown, genState_of_memory hmem]
  change _ ∧ _ ∧ _ ∧ _ ∧ _ = gensShown ((w.otpEnd code).showGens) ∧ _
  rw [hshow, hgens]
  have hlt := gensShown_lt (w.otpEnd code)
  generalize gensShown (w.otpEnd code) = v at hlt
  refine ⟨hotp, ?_, ?_, ?_, (State.fld_setFld_same _ _ _).trans (Nat.mod_eq_of_lt hlt),
    ((hw.setFld code (by simp [burnEndFields])).raise (by simp [burnEndFields])).setFld _ (by simp [burnEndFields])⟩
  · exact (State.fld_setFld_ne _ _ (by decide)).trans
      ((State.fld_setFld_ne _ _ (by decide)).trans ((State.fld_setFld_ne _ _ (by decide)).trans hbusy))
  · exact (State.fld_setFld_ne _ _ (by decide)).trans
      ((State.fld_setFld_ne _ _ (by decide)).trans ((State.fld_setFld_same _ _ _).trans (Nat.mod_eq_of_lt hc)))
  · exact (State.fld_setFld_ne _ _ (by decide)).trans (State.fld_raise_same _ _)

/-- A burning command completes. -/
theorem State.otpComplete_burn {s : State} {x : OtpRun} (k k' : Nat) (hx : s.stores.otp = some x) (hop : x.op ≠ 3) :
    s.otpComplete k k' = ((s.otpStopped.burnRun x k k').1.otpEnd (if (s.otpStopped.burnRun x k k').2 then 2 else 12)).showGens := by
  rw [State.otpComplete, hx]
  dsimp only
  rw [if_neg (fun h => hop h.1), if_neg hop]
  rfl

theorem State.burnRun_burn (s : State) {x : OtpRun} (k k' : Nat) (hop : x.op = 0) : s.burnRun x k k' = s.burnWord x.addr x.data k := by
  simp only [State.burnRun, hop]

theorem State.burnRun_seal (s : State) {x : OtpRun} (k k' : Nat) (hop : x.op = 1) : s.burnRun x k k' =
    s.burnTwo (genBase x.gen + trailerOff) (s.genCrc x.gen) k (genBase x.gen + trailerOff + 4) 0x4C414553 k' := by
  simp only [State.burnRun, hop]

theorem State.burnRun_revoke (s : State) {x : OtpRun} (k k' : Nat) (hop : x.op = 2) : s.burnRun x k k' =
    if s.genState x.gen = 3 then (s, true)
    else s.burnTwo (genBase x.gen + trailerOff + 8) 0xFFFFFFFF k (genBase x.gen + trailerOff + 8 + 4) 0xFFFFFFFF k' := by
  simp only [State.burnRun, hop, Nat.add_assoc, Nat.reduceAdd]

/-- Two words burn one after the other. -/
theorem State.burnTwo_eq (s : State) (o0 o1 : Nat) {v0 v1 : Nat} (k0 k1 : BitVec 32) (h0 : v0 < 2 ^ 32) (h1 : v1 < 2 ^ 32) :
    s.burnTwo o0 v0 k0.toNat o1 v1 k1.toNat =
      if (s.burned o0 v0 k0).otpWord o0 = v0 then
        ((s.burned o0 v0 k0).burned o1 v1 k1, decide (((s.burned o0 v0 k0).burned o1 v1 k1).otpWord o1 = v1))
      else (s.burned o0 v0 k0, false) := by
  rw [State.burnTwo, State.burnWord_eq s o0 k0 h0]
  by_cases h : (s.burned o0 v0 k0).otpWord o0 = v0
  · rw [decide_eq_true h, if_pos h]
    exact State.burnWord_eq _ o1 k1 h1
  · rw [decide_eq_false h, if_neg h]

/-- What a burn of one word leaves. -/
theorem State.burnWord_spec (s : State) (off : Nat) {v : Nat} (k : BitVec 32) (hv : v < 2 ^ 32) :
    (s.burnWord off v k.toNat).1.regs = s.regs ∧ (s.burnWord off v k.toNat).1.stores = s.stores ∧
      MemKeptOutside s (s.burnWord off v k.toNat).1 (otpBase + off) 4 ∧
      (s.burnWord off v k.toNat).1.otpWord off = Nat.lor (s.otpWord off) (unstuck k v) ∧
      ((s.burnWord off v k.toNat).2 = true ↔ (s.burnWord off v k.toNat).1.otpWord off = v) := by
  rw [State.burnWord_eq s off k hv]
  exact ⟨s.burned_regs off v k, s.burned_stores off v k, s.burned_outside off v k, s.burned_otpWord off v k, decide_eq_true_iff⟩

/-- What a burn of two words in a row leaves: the second is burned only when the first reads back. -/
theorem State.burnTwo_spec (s : State) (off : Nat) {v0 v1 : Nat} (k0 k1 : BitVec 32) (h0 : v0 < 2 ^ 32) (h1 : v1 < 2 ^ 32)
    {r : State × Bool} (hr : s.burnTwo off v0 k0.toNat (off + 4) v1 k1.toNat = r) :
    r.1.regs = s.regs ∧ r.1.stores = s.stores ∧ MemKeptOutside s r.1 (otpBase + off) 8 ∧
      r.1.otpWord off = Nat.lor (s.otpWord off) (unstuck k0 v0) ∧
      (r.1.otpWord off = v0 → r.1.otpWord (off + 4) = Nat.lor (s.otpWord (off + 4)) (unstuck k1 v1)) ∧
      (¬ r.1.otpWord off = v0 → r.1.otpWord (off + 4) = s.otpWord (off + 4)) ∧
      (r.2 = true ↔ r.1.otpWord off = v0 ∧ r.1.otpWord (off + 4) = v1) := by
  have hout := s.burned_outside off v0 k0
  have hnext : (s.burned off v0 k0).otpWord (off + 4) = s.otpWord (off + 4) := otpWord_of_outside hout (Or.inr (Nat.le_refl _))
  rw [State.burnTwo_eq s off (off + 4) k0 k1 h0 h1] at hr
  by_cases hgood : (s.burned off v0 k0).otpWord off = v0
  · rw [if_pos hgood] at hr
    subst hr
    have hout' := (s.burned off v0 k0).burned_outside (off + 4) v1 k1
    have hfirst : ((s.burned off v0 k0).burned (off + 4) v1 k1).otpWord off = (s.burned off v0 k0).otpWord off :=
      otpWord_of_outside hout' (Or.inl (Nat.le_refl _))
    refine ⟨(State.burned_regs _ _ _ _).trans (s.burned_regs _ _ _), (State.burned_stores _ _ _ _).trans (s.burned_stores _ _ _),
      fun b hb => (hout' b (by omega)).trans (hout b (by omega)), hfirst.trans (s.burned_otpWord off v0 k0), fun _ => ?_,
      fun h => absurd (hfirst.trans hgood) h, ?_⟩
    · rw [State.burned_otpWord, hnext]
    · simp only [decide_eq_true_eq, hfirst, hgood, true_and]
  · rw [if_neg hgood] at hr
    subst hr
    exact ⟨s.burned_regs _ _ _, s.burned_stores _ _ _, fun b hb => hout b (by omega), s.burned_otpWord off v0 k0,
      fun h => absurd h hgood, fun _ => hnext, by simp [hgood]⟩

/-! ### The state of a generation -/

theorem genField_eq_otpWord (s : State) (g off : Nat) : s.genField g off 4 = s.otpWord (genBase g + off) := by
  rw [State.genField, State.otpWord, Nat.add_assoc]

theorem byte_of_bytes_zero {s : State} {n : Nat} : ∀ {a i : Nat}, s.bytes a n = 0 → i < n → s.byte (a + i) = 0 := by
  induction n with
  | zero => exact fun _ hi => absurd hi (Nat.not_lt_zero _)
  | succ n ih =>
    intro a i h hi
    rw [State.bytes] at h
    obtain ⟨hhead, htail⟩ : (s.byte a).toNat = 0 ∧ s.bytes (a + 1) n = 0 := by omega
    obtain _ | i := i
    · exact BitVec.eq_of_toNat_eq hhead
    · rw [← Nat.add_assoc, Nat.add_right_comm]
      exact ih htail (by omega)

theorem bytes_eq_zero {s : State} {n : Nat} : ∀ {a : Nat}, (∀ i, i < n → s.byte (a + i) = 0) → s.bytes a n = 0 := by
  induction n with
  | zero => exact fun _ => rfl
  | succ n ih =>
    intro a h
    have htail : s.bytes (a + 1) n = 0 := ih fun i hi => by rw [Nat.add_right_comm, Nat.add_assoc]; exact h (i + 1) (by omega)
    have hhead : s.byte a = 0 := h 0 (by omega)
    rw [State.bytes, htail, hhead]
    rfl

/-- A blank trailer is four words of zero. -/
theorem otpWord_of_blankTrailer {s : State} {g : Nat} (h : s.genField g trailerOff 16 = 0) {k : Nat} (hk : k + 4 ≤ 16) :
    s.otpWord (genBase g + trailerOff + k) = 0 :=
  bytes_eq_zero fun i hi => by
    have hb := byte_of_bytes_zero h (i := k + i) (by omega)
    rwa [show otpBase + genBase g + trailerOff + (k + i) = otpBase + (genBase g + trailerOff + k) + i by omega] at hb

/-- What stands before the trailer does not change when the trailer does. -/
theorem genField_of_trailer {s t : State} {g : Nat} (h : MemKeptOutside s t (otpBase + (genBase g + trailerOff)) 16) {off n : Nat}
    (hoff : off + n ≤ trailerOff) : t.genField g off n = s.genField g off n :=
  State.bytes_congr fun i hi => h _ (Or.inl (by omega))

theorem genState_revoked {s : State} {g : Nat} (h : s.otpWord (genBase g + trailerOff + 8) ≠ 0) : s.genState g = 3 := by
  rw [State.genState, if_pos]
  left
  rwa [genField_eq_otpWord, ← Nat.add_assoc]

/-- A generation with a valid header whose trailer takes its CRC and the seal word is SEALED. -/
theorem genState_sealed {s t : State} {g : Nat} (hmagic : s.genField g 0 4 = 0x4E525942) (hlen : s.lengthOk g = true)
    (hblank : s.genField g trailerOff 16 = 0) (hout : MemKeptOutside s t (otpBase + (genBase g + trailerOff)) 8)
    (hcrc : t.otpWord (genBase g + trailerOff) = s.genCrc g) (hseal : t.otpWord (genBase g + trailerOff + 4) = 0x4C414553) :
    t.genState g = 2 := by
  have hkept {off n : Nat} (hoff : off + n ≤ trailerOff) : t.genField g off n = s.genField g off n :=
    genField_of_trailer (fun b hb => hout b (by omega)) hoff
  have hlength : t.genLength g = s.genLength g := hkept (by decide)
  have hshort : s.genLength g ≤ 122800 := by
    rw [State.lengthOk, Bool.and_eq_true, decide_eq_true_eq] at hlen
    exact hlen.2
  have hsum : t.genCrc g = s.genCrc g := by
    simp only [State.genCrc, hlength, hkept (off := 0) (n := 64 + s.genLength g) (by rw [trailerOff]; omega)]
  have hlen' : t.lengthOk g = true := by rw [State.lengthOk, hlength]; exact hlen
  have hzero {k : Nat} (hk8 : 8 ≤ k) (hk : k + 4 ≤ 16) : t.genField g (trailerOff + k) 4 = 0 := by
    rw [genField_eq_otpWord, ← Nat.add_assoc, otpWord_of_outside hout (Or.inr (by omega))]
    exact otpWord_of_blankTrailer hblank hk
  rw [State.genState, if_neg, if_pos]
  · refine ⟨?_, (hkept (by decide)).trans hmagic, hlen', ?_⟩
    · rw [genField_eq_otpWord, ← Nat.add_assoc]
      exact hseal
    · rw [genField_eq_otpWord, hcrc, hsum]
  · rw [hzero (k := 8) (by omega) (by omega), hzero (k := 12) (by omega) (by omega)]
    simp

theorem unstuck_zero {v : Nat} (hv : v < 2 ^ 32) : unstuck 0 v = v :=
  (Nat.and_two_pow_sub_one_eq_mod v 32).trans (Nat.mod_eq_of_lt hv)

/-! ### ADOPT -/

theorem mem_of_findReg {d : RegDef} {a : Nat} : ∀ {l : List RegDef}, findReg l a = some d → d ∈ l
  | [], h => nomatch h
  | e :: es, h => by
    rw [findReg] at h
    split at h
    · exact List.mem_cons.mpr (Or.inl (Option.some.inj h).symm)
    · exact List.mem_cons_of_mem _ (mem_of_findReg h)

/-- A field of a register stands within its word. -/
theorem lo_lt_of_fieldsAt {a : Nat} {f : FieldDef} (hf : f ∈ fieldsAt a) : f.lo < 32 := by
  have hblocks (b : Nat) : ∀ d ∈ blockRegs b, ∀ f ∈ d.fields, f.lo < 32 := by
    unfold blockRegs
    split <;> decide +kernel
  unfold fieldsAt at hf
  split at hf
  · next d hd => exact hblocks _ d (mem_of_findReg hd) f hf
  · exact absurd hf List.not_mem_nil

/-- The registers whose fields are all structural stand below the block of the stores. -/
theorem block_of_structuralReg {a : Nat} (h : structuralReg a = true) : a / 0x10000 < 0x511 := by
  unfold structuralReg at h
  dsimp only at h
  split at h
  case h_12 => exact absurd h Bool.false_ne_true
  all_goals omega

/-- No register of the stores has a structural field. -/
theorem key_of_structFields {a : Nat} {f : FieldDef} (hf : f ∈ structFields a) : a * 32 + f.lo < 0x05110000 * 32 := by
  rw [structFields, List.mem_filter] at hf
  obtain ⟨hat, hf⟩ := hf
  have hlo := lo_lt_of_fieldsAt hat
  have hblock : a / 0x10000 < 0x511 := by
    simp only [structural, Bool.and_eq_true, Bool.or_eq_true, beq_iff_eq] at hf
    obtain ⟨-, hreg | ⟨hcfg, -⟩⟩ := hf
    · exact block_of_structuralReg hreg
    · rw [hcfg]
      decide
  omega

/-- The running part differs from a generation whatever the fields of the stores show. -/
theorem structDiffers_of_fields {s t : State} (hmem : t.memory = s.memory) (hf : ∀ f : Fld, f.key < 0x05110000 * 32 → t.fld f = s.fld f)
    (g : Nat) : t.structDiffers g = s.structDiffers g := by
  have hrec (r : Nat × Nat × Nat × Nat) : t.recTargets r = s.recTargets r := by
    simp only [State.recTargets, bytes_of_memory hmem]
  have hany (a : Nat) : ((structFields a).any fun f => fieldValue (s.genTriples g) a f != t.fld ⟨a, f.lo, f.width⟩) =
      (structFields a).any fun f => fieldValue (s.genTriples g) a f != s.fld ⟨a, f.lo, f.width⟩ := by
    rw [Bool.eq_iff_iff, List.any_eq_true, List.any_eq_true]
    refine exists_congr fun f => and_congr_right fun hmem => ?_
    rw [hf ⟨a, f.lo, f.width⟩ (key_of_structFields hmem)]
  simp only [State.structDiffers, genTriples_of_memory hmem, genRecs_of_memory hmem, bytes_of_memory hmem, hrec, hany]

/-- An ADOPT completes once none of its writes waits. -/
theorem State.otpComplete_adopt {s : State} {x : OtpRun} (k k' : Nat) (hx : s.stores.otp = some x) (hop : x.op = 3)
    (hq : s.adoptQuiet = true) : s.otpComplete k k' = s.otpStopped.adoptEnd x := by
  rw [State.otpComplete, hx]
  dsimp only
  rw [if_neg (fun h => h.2 hq), if_pos hop]
  rfl

/-- The fields in which the ending of an ADOPT shows. -/
def adoptEndFields : List Fld := [R.OTP_STATUS_BUSY, R.OTP_RESULT_RESULT, R.OTP_EVENTS_CMD_DONE, R.OTP_STATUS_LIVE_GEN,
  R.OTP_STATUS_LIVE_NONE, R.OTP_IMAGE_ID, R.OTP_STATUS_STRUCT_PENDING]

/-- The adopted generation is shown. -/
def State.liveShown (s : State) (g id : Nat) : State :=
  ((s.setFld R.OTP_STATUS_LIVE_GEN g).clr R.OTP_STATUS_LIVE_NONE).setFld R.OTP_IMAGE_ID id

/-- What the stores' own registers show does not count in STRUCT_PENDING. -/
theorem structDiffers_setFld (s : State) {f : Fld} (hf : 0x05110000 * 32 ≤ f.key) (v n : Nat) :
    (s.setFld f v).structDiffers n = s.structDiffers n := by
  have hmem : (s.setFld f v).memory = s.memory := rfl
  exact structDiffers_of_fields hmem (fun g hg => State.fld_setFld_ne s v (by omega)) n

theorem adoptEnd_eq (s : State) (x : OtpRun) : s.adoptEnd x =
    ((s.liveShown x.gen (s.genField x.gen 24 4)).setFld R.OTP_STATUS_STRUCT_PENDING
      (if s.structDiffers x.gen = true then 1 else 0)).otpEnd (if x.data = 0 then 2 else 13) := by
  have hmem : ((s.setFld R.OTP_STATUS_LIVE_GEN x.gen).clr R.OTP_STATUS_LIVE_NONE).memory = s.memory := rfl
  have hstruct : ((s.setFld R.OTP_STATUS_LIVE_GEN x.gen).clr R.OTP_STATUS_LIVE_NONE).structDiffers x.gen = s.structDiffers x.gen := by
    rw [State.clr_eq, structDiffers_setFld _ (by decide), structDiffers_setFld _ (by decide)]
  unfold State.adoptEnd
  extract_lets v w
  have hw : w = (s.liveShown x.gen (s.genField x.gen 24 4)).setFld R.OTP_STATUS_STRUCT_PENDING
      (if s.structDiffers x.gen = true then 1 else 0) := by
    rw [← hstruct, ← genField_of_memory hmem]
    rfl
  rw [hw]

/-- What the ending of an ADOPT shows. -/
theorem adoptEnd_spec {s : State} {x : OtpRun} (hg : x.gen < 4) {u : State} (hu : s.otpStopped.adoptEnd x = u) :
    u.stores.otp = none ∧ u.fld R.OTP_STATUS_BUSY = 0 ∧ u.fld R.OTP_EVENTS_CMD_DONE = 1 ∧
      u.fld R.OTP_RESULT_RESULT = (if x.data = 0 then 2 else 13) ∧ u.fld R.OTP_STATUS_LIVE_GEN = x.gen ∧
      u.fld R.OTP_STATUS_LIVE_NONE = 0 ∧ u.fld R.OTP_IMAGE_ID = s.genField x.gen 24 4 ∧
      u.fld R.OTP_STATUS_STRUCT_PENDING = (if s.structDiffers x.gen = true then 1 else 0) ∧ MemKept s u ∧
      FieldsKept s u adoptEndFields := by
  have hstop : FieldsKept s s.otpStopped adoptEndFields :=
    ((FieldsKept.refl s _).of_regs (u := { s with stores := { s.stores with otp := none } }) rfl).clr (by simp [adoptEndFields])
  have hmem0 : s.otpStopped.memory = s.memory := rfl
  have hstruct : s.otpStopped.structDiffers x.gen = s.structDiffers x.gen :=
    (structDiffers_setFld _ (by decide) _ _).trans (structDiffers_of_fields (s := s) (t := { s with
      stores := { s.stores with otp := none } }) rfl (fun f _ => rfl) x.gen)
  have hmem : u.memory = s.memory := by rw [← hu, State.adoptEnd_memory, hmem0]
  have hid : s.otpStopped.genField x.gen 24 4 = s.genField x.gen 24 4 := genField_of_memory hmem0 _ _ _
  rw [adoptEnd_eq, hstruct, hid] at hu
  have hidLt : s.genField x.gen 24 4 < 2 ^ 32 := bytes_lt _ _ 4
  generalize s.genField x.gen 24 4 = id at hu hidLt ⊢
  have hshown : FieldsKept s (s.otpStopped.liveShown x.gen id) adoptEndFields :=
    ((hstop.setFld _ (by simp [adoptEndFields])).clr (by simp [adoptEndFields])).setFld _ (by simp [adoptEndFields])
  have hlive : (s.otpStopped.liveShown x.gen id).fld R.OTP_STATUS_LIVE_GEN = x.gen ∧
      (s.otpStopped.liveShown x.gen id).fld R.OTP_STATUS_LIVE_NONE = 0 ∧
      (s.otpStopped.liveShown x.gen id).fld R.OTP_IMAGE_ID = id ∧
      (s.otpStopped.liveShown x.gen id).fld R.OTP_STATUS_BUSY = 0 := by
    refine ⟨?_, (State.fld_setFld_ne _ _ (by decide)).trans (State.fld_clr_same _ _), ?_, ?_⟩
    · exact (State.fld_setFld_ne _ _ (by decide)).trans
        ((State.fld_setFld_ne _ _ (by decide)).trans ((State.fld_setFld_same _ _ _).trans (Nat.mod_eq_of_lt hg)))
    · exact (State.fld_setFld_same _ _ _).trans (Nat.mod_eq_of_lt hidLt)
    · exact (State.fld_setFld_ne _ _ (by decide)).trans ((State.fld_setFld_ne _ _ (by decide)).trans
        ((State.fld_setFld_ne _ _ (by decide)).trans (State.fld_clr_same _ _)))
  have hotp : (s.otpStopped.liveShown x.gen id).stores.otp = none := rfl
  generalize s.otpStopped.liveShown x.gen id = w at hu hshown hlive hotp
  obtain ⟨hgen, hnone, himage, hbusy⟩ := hlive
  generalize hv : (if s.structDiffers x.gen = true then 1 else 0 : Nat) = v at hu
  have hv1 : v < 2 := by rw [← hv]; split <;> decide
  generalize hc : (if x.data = 0 then 2 else 13 : Nat) = code at hu
  have hc16 : code < 16 := by rw [← hc]; split <;> decide
  have hrest {f : Fld} (h0 : f.key ≠ R.OTP_STATUS_STRUCT_PENDING.key) (h1 : f.key ≠ R.OTP_RESULT_RESULT.key)
      (h2 : f.key ≠ R.OTP_EVENTS_CMD_DONE.key) : u.fld f = w.fld f := by
    rw [← hu]
    exact (State.fld_setFld_ne _ _ h2).trans ((State.fld_setFld_ne _ _ h1).trans (State.fld_setFld_ne _ _ h0))
  refine ⟨by rw [← hu]; exact hotp, (hrest (by decide) (by decide) (by decide)).trans hbusy, ?_, ?_,
    (hrest (by decide) (by decide) (by decide)).trans hgen, (hrest (by decide) (by decide) (by decide)).trans hnone,
    (hrest (by decide) (by decide) (by decide)).trans himage, ?_, memKept_of_memory hmem, ?_⟩
  · rw [← hu]
    exact State.fld_raise_same _ _
  · rw [← hu]
    exact (State.fld_setFld_ne _ _ (by decide)).trans ((State.fld_setFld_same _ _ _).trans (Nat.mod_eq_of_lt hc16))
  · rw [← hu]
    exact (State.fld_setFld_ne _ _ (by decide)).trans ((State.fld_setFld_ne _ _ (by decide)).trans
      ((State.fld_setFld_same _ _ _).trans (Nat.mod_eq_of_lt hv1)))
  · rw [← hu]
    exact ((hshown.setFld v (by simp [adoptEndFields])).setFld code (by simp [adoptEndFields])).raise (by simp [adoptEndFields])

theorem exec_otpCmdComplete (s : State) (k k' : BitVec 32) :
    exec (.otpCmdComplete k k') s = s.awake (s.otpComplete k.toNat k'.toNat) := rfl

/-- Settles O44: the words that the burning left decide the code, and the rest of the store stays. -/
theorem otpCompletion : Obligations.OtpCompletion := by
  unfold Obligations.OtpCompletion
  extract_lets ended trailer stuck burned good
  have htrailer (g : Nat) : trailer g = genBase g + trailerOff := rfl
  simp only [htrailer]
  have hmem0 (s : State) : s.otpStopped.memory = s.memory := rfl
  have hstop (s : State) (off : Nat) : s.otpStopped.otpWord off = s.otpWord off := otpWord_of_memory (hmem0 s) off
  have hcrc (s : State) (g : Nat) : s.otpStopped.genCrc g = s.genCrc g := genCrc_of_memory (hmem0 s) g
  have hgenSt (s : State) (g : Nat) : s.otpStopped.genState g = s.genState g := genState_of_memory (hmem0 s) g
  -- What a burning of the store leaves when the ending is shown.
  have hmem (w : State) (code : Nat) : ((w.otpEnd code).showGens).memory = w.memory := (State.showGens_memory _).trans rfl
  have hword (w : State) (code off : Nat) : ((w.otpEnd code).showGens).otpWord off = w.otpWord off := otpWord_of_memory (hmem w code) off
  have hout {s w : State} {a n : Nat} (h : MemKeptOutside s.otpStopped w a n) (code : Nat) :
      MemKeptOutside s ((w.otpEnd code).showGens) a n := fun b hb => (memKept_of_memory (hmem w code) b).trans (h b hb)
  have hended {s w : State} (code : Nat) (hregs : w.regs = s.otpStopped.regs) (hst : w.stores = s.otpStopped.stores)
      (hc : code < 16) : ended s ((w.otpEnd code).showGens) code :=
    otpEnded hregs (by rw [hst]; rfl) hc
  have hcode (c : Bool) : (if c = true then 2 else 12 : Nat) < 16 := by cases c <;> decide
  refine ⟨?burn, ?sealing, ?sealed, ?revoke, ?revoked, ?adopt, ?adoptWaits, ?idle⟩
  case burn =>
    intro s x k k' hp hx hop hdata
    obtain ⟨hregs, hst, hmout, hw, hok⟩ := s.otpStopped.burnWord_spec x.addr k hdata
    have hrun := s.otpStopped.burnRun_burn k.toNat k'.toNat hop
    refine does_awake (exec_otpCmdComplete s k k') hp ?_
    rw [State.otpComplete_burn _ _ hx (by omega), hrun]
    generalize s.otpStopped.burnWord x.addr x.data k.toNat = r at hregs hst hmout hw hok
    refine ⟨?_, ?_, hout hmout _⟩
    · change _ = Nat.lor _ (unstuck _ _)
      rw [hword, hw, hstop]
    · rw [hword, ← if_congr hok rfl rfl]
      exact hended _ hregs hst (hcode _)
  case sealing =>
    intro s x k k' hp hx hop hg
    have hrun := s.otpStopped.burnRun_seal k.toNat k'.toNat hop
    rw [hcrc] at hrun
    refine does_awake (exec_otpCmdComplete s k k') hp ?_
    rw [State.otpComplete_burn _ _ hx (by omega), hrun]
    generalize hr : s.otpStopped.burnTwo (genBase x.gen + trailerOff) (s.genCrc x.gen) k.toNat
      (genBase x.gen + trailerOff + 4) 0x4C414553 k'.toNat = r
    obtain ⟨hregs, hst, hmout, hw, hgood, hbad, hok⟩ :=
      s.otpStopped.burnTwo_spec (genBase x.gen + trailerOff) k k' (genCrc_lt s x.gen) (by decide) hr
    simp only [good, burned, hword]
    simp only [hstop] at hw hgood hbad
    refine ⟨hw, hgood, hbad, ?_, hout hmout _⟩
    rw [← if_congr hok rfl rfl]
    exact hended _ hregs hst (hcode _)
  case sealed =>
    intro s x hp hx hop hg hstate hmagic hlen hblank
    have hrun := s.otpStopped.burnRun_seal (0 : BitVec 32).toNat (0 : BitVec 32).toNat hop
    rw [hcrc] at hrun
    refine does_awake (exec_otpCmdComplete s 0 0) hp ?_
    rw [State.otpComplete_burn _ _ hx (by omega), hrun]
    generalize hr : s.otpStopped.burnTwo (genBase x.gen + trailerOff) (s.genCrc x.gen) (0 : BitVec 32).toNat
      (genBase x.gen + trailerOff + 4) 0x4C414553 (0 : BitVec 32).toNat = r
    obtain ⟨-, -, hmout, hw, hgood, -, -⟩ :=
      s.otpStopped.burnTwo_spec (genBase x.gen + trailerOff) 0 0 (genCrc_lt s x.gen) (by decide) hr
    have hblank0 : s.otpWord (genBase x.gen + trailerOff) = 0 := otpWord_of_blankTrailer (k := 0) hblank (by decide)
    have hblank4 : s.otpWord (genBase x.gen + trailerOff + 4) = 0 := otpWord_of_blankTrailer (k := 4) hblank (by decide)
    rw [hstop, hblank0, unstuck_zero (genCrc_lt s x.gen)] at hw
    rw [hstop, hblank4, unstuck_zero (by decide)] at hgood
    have hcrcWord : r.1.otpWord (genBase x.gen + trailerOff) = s.genCrc x.gen := hw.trans (Nat.zero_or _)
    refine genState_sealed hmagic hlen hblank (hout hmout _) ((hword _ _ _).trans hcrcWord) ((hword _ _ _).trans ?_)
    exact (hgood hcrcWord).trans (Nat.zero_or _)
  case revoke =>
    intro s x k k' hp hx hop hg hstate
    have hrun := s.otpStopped.burnRun_revoke k.toNat k'.toNat hop
    rw [hgenSt, if_neg hstate] at hrun
    refine does_awake (exec_otpCmdComplete s k k') hp ?_
    rw [State.otpComplete_burn _ _ hx (by omega), hrun]
    generalize hr : s.otpStopped.burnTwo (genBase x.gen + trailerOff + 8) 0xFFFFFFFF k.toNat
      (genBase x.gen + trailerOff + 8 + 4) 0xFFFFFFFF k'.toNat = r
    obtain ⟨hregs, hst, hmout, hw, hgood, hbad, hok⟩ :=
      s.otpStopped.burnTwo_spec (genBase x.gen + trailerOff + 8) k k' (by decide) (by decide) hr
    have hnext : genBase x.gen + trailerOff + 8 + 4 = genBase x.gen + trailerOff + 12 := Nat.add_assoc _ _ _
    simp only [good, burned, hword]
    simp only [hstop, hnext] at hw hgood hbad hok
    rw [← Nat.add_assoc] at hmout
    refine ⟨hw, fun h => ⟨hgood h, ?_⟩, hbad, ?_, hout hmout _⟩
    · refine genState_revoked ?_
      rw [hword]
      exact ne_of_eq_of_ne h (by decide)
    · rw [← if_congr hok rfl rfl]
      exact hended _ hregs hst (hcode _)
  case revoked =>
    intro s x k k' hp hx hop hg hstate
    have hrun := s.otpStopped.burnRun_revoke k.toNat k'.toNat hop
    rw [hgenSt, if_pos hstate] at hrun
    refine does_awake (exec_otpCmdComplete s k k') hp ?_
    rw [State.otpComplete_burn _ _ hx (by omega), hrun]
    exact ⟨hended 2 rfl rfl (by decide), memKept_of_memory ((hmem _ _).trans (hmem0 s))⟩
  case adopt =>
    intro s x k k' hp hx hop hg hq
    refine does_awake (exec_otpCmdComplete s k k') hp ?_
    rw [State.otpComplete_adopt _ _ hx hop hq]
    exact adoptEnd_spec hg rfl
  case adoptWaits =>
    intro s x k k' hp hx hop hq
    refine ignores_awake (exec_otpCmdComplete s k k') ?_
    rw [State.otpComplete, hx]
    exact if_pos ⟨hop, by simp [hq]⟩
  case idle =>
    intro s k k' hp hx
    refine ignores_awake (exec_otpCmdComplete s k k') ?_
    rw [State.otpComplete, hx]

end Sys2Proof.Machine


/-! What the collector's record of a report writes (16 R440, R445, R449), and reports of class MINOR. -/
namespace Sys2Proof.Machine

/-! ### Relations that a record keeps -/

/-- A field of the collector that is no source's, the NOTES of a source, or a field of the host interface. -/
def Fld.collects (f : Fld) : Prop :=
  (f.key / 0x200000 = 0x50E ∧ (f.key < 0x050E1000 * 32 ∨ f.key % 256 = 24)) ∨ f.key / 0x200000 = 0x510

/-- A relation that every write of a record keeps: those fields, the FAULT event of an engine's first thread, and what is neither a
register nor of the engines. -/
structure RecordRel (Q : State → State → Prop) : Prop where
  refl : ∀ s, Q s s
  trans : ∀ s t u, Q s t → Q t u → Q s u
  set : ∀ (s : State) (f : Fld) (v : Nat), f.collects → Q s (s.setFld f v)
  event : ∀ (s : State) (e k : Nat), e < 8 → Q s (s.raiseEvent e 0 k)
  frame : ∀ s t : State, t.regs = s.regs → t.eng = s.eng → Q s t

/-- A field of the collector that is no source's. -/
theorem collects_flt {f : Fld} (h : f.key / 0x200000 = 0x50E ∧ f.key < 0x050E1000 * 32) : f.collects := Or.inl ⟨h.1, Or.inl h.2⟩

section
variable {Q : State → State → Prop} {s t : State}

theorem RecordRel.setFld (h : RecordRel Q) (ht : Q s t) {f : Fld} (v : Nat) (hf : f.collects) : Q s (t.setFld f v) :=
  h.trans _ _ _ ht (h.set t f v hf)

theorem RecordRel.of_regs (h : RecordRel Q) (ht : Q s t) {u : State} (hr : u.regs = t.regs) (he : u.eng = t.eng) : Q s u :=
  h.trans _ _ _ ht (h.frame t u hr he)

theorem rel_ite {c : Prop} [Decidable c] {u : State} (ht : Q s t) (hu : Q s u) : Q s (if c then t else u) := by
  split <;> assumption

theorem RecordRel.raiseVector (h : RecordRel Q) (s : State) (v : Nat) : Q s (s.raiseVector v) := by
  have hf : (if v < 32 then R.HOST_INT_PEND_LO_PEND else R.HOST_INT_PEND_HI_PEND).collects := by split <;> exact Or.inr (by decide)
  unfold State.raiseVector
  generalize (if v < 32 then R.HOST_INT_PEND_LO_PEND else R.HOST_INT_PEND_HI_PEND) = f at hf
  have hset := h.set s f (Nat.lor (s.fld f) (2 ^ (v % 32))) hf
  exact rel_ite (rel_ite (h.of_regs hset rfl rfl) (h.of_regs hset rfl rfl)) hset

theorem RecordRel.faultLines (h : RecordRel Q) (s : State) : Q s s.faultLines := h.set s _ _ (collects_flt (by decide))

theorem RecordRel.captureFirst (h : RecordRel Q) (s : State) (src cls cause : Nat) : Q s (s.captureFirst src cls cause) := by
  have hc {f : Fld} := @collects_flt f
  unfold State.captureFirst
  exact rel_ite (h.refl s) (h.setFld (h.setFld (h.setFld (h.setFld (h.setFld (h.setFld (h.setFld (h.refl s) _ (hc (by decide))) _
    (hc (by decide))) _ (hc (by decide))) _ (hc (by decide))) _ (hc (by decide))) _ (hc (by decide))) _ (hc (by decide)))

theorem RecordRel.appendLog (h : RecordRel Q) (s : State) (src cls cause : Nat) : Q s (s.appendLog src cls cause) := by
  have hc {f : Fld} := @collects_flt f
  unfold State.appendLog
  dsimp only
  generalize s.fld R.FLT_LOG_STATUS_COUNT = n
  split
  · next hn =>
    refine h.setFld (h.setFld (h.setFld (h.setFld (h.setFld (h.setFld (h.setFld (h.setFld (h.refl s) _ (hc ?_)) _ (hc ?_)) _ (hc ?_)) _
      (hc ?_)) _ (hc ?_)) _ (hc ?_)) _ (hc ?_)) _ (hc (by decide))
    all_goals
      simp only [Fld.key, R.FLT_LOG_0_SRC, R.FLT_LOG_0_CLASS, R.FLT_LOG_0_CAUSE, R.FLT_LOG_0_VALID, R.FLT_LOG_1_TIME,
        R.FLT_LOG_2_TIME, R.FLT_LOG_3_TIME]
      omega
  · exact h.setFld (h.setFld (h.setFld (h.refl s) _ (hc (by decide))) _ (hc (by decide))) _ (Or.inl (by decide))

theorem RecordRel.collectorInt (h : RecordRel Q) (s : State) {f : Fld} (hf : f.collects) : Q s (s.collectorInt f) := by
  have hset := h.set s f 1 hf
  unfold State.collectorInt
  exact h.trans _ _ _ (rel_ite hset (h.trans _ _ _ hset (h.raiseVector _ _))) (h.faultLines _)

theorem RecordRel.routeFault (h : RecordRel Q) (s : State) (src : Nat) : Q s (s.routeFault src) := by
  unfold State.routeFault
  dsimp only
  split
  · exact h.refl s
  · split
    · next hh => exact h.event s _ _ hh
    · exact h.refl s

theorem RecordRel.faultWake (h : RecordRel Q) (s : State) (cls : Nat) : Q s (s.faultWake cls) := by
  unfold State.faultWake
  exact rel_ite (h.frame _ _ rfl rfl) (h.refl s)

/-- Beside the class and cause of its source, a record of a class above NOTE keeps the relation. -/
theorem RecordRel.record (h : RecordRel Q) (s : State) (src : Nat) {cls : Nat} (cause : Nat) (hcls : cls ≠ 0) :
    Q ((s.setFld (R.FLT_SRC_LAST_CLASS src) cls).setFld (R.FLT_SRC_LAST_CAUSE src) cause) (s.record src cls cause) := by
  have hc {f : Fld} := @collects_flt f
  unfold State.record
  rw [if_neg hcls]
  dsimp only
  generalize (s.setFld (R.FLT_SRC_LAST_CLASS src) cls).setFld (R.FLT_SRC_LAST_CAUSE src) cause = w
  refine h.trans _ _ _ (h.trans _ _ _ ?_ (h.routeFault _ _)) (h.faultWake _ _)
  have hfirst := h.captureFirst w src cls cause
  have hlog := rel_ite (c := 2 ≤ cls) (h.trans _ _ _ hfirst (h.appendLog _ src cls cause)) hfirst
  refine h.trans _ _ _ hlog ?_
  generalize (if 2 ≤ cls then _ else _ : State) = u
  split
  · exact rel_ite (h.collectorInt _ (hc (by decide))) (h.refl _)
  · exact h.collectorInt _ (hc (by decide))
  · exact h.collectorInt _ (hc (by decide))

end

/-! ### Registers outside the collector -/

/-- A field that a record may write beside the class and cause of its source: those of the collector and the host, and the state of
the engines' threads. -/
def Fld.recorded (f : Fld) : Prop :=
  f.collects ∨ (0x050B1000 * 32 ≤ f.key ∧ f.key < 0x050B2000 * 32 ∧ (f.key % 256 = 128 ∨ f.key % 256 = 18))

/-- Every field that no record writes reads as before. -/
def RecKept (s t : State) : Prop := ∀ f : Fld, ¬ f.recorded → t.fld f = s.fld f

theorem RecKept.trans {s t u : State} (h : RecKept s t) (h' : RecKept t u) : RecKept s u := fun f hf => (h' f hf).trans (h f hf)

theorem recKept_setFld (s : State) {g : Fld} (v : Nat) (hg : g.recorded) : RecKept s (s.setFld g v) :=
  fun f hf => State.fld_setFld_ne s v fun he => hf (by rwa [Fld.recorded, Fld.collects, he])

theorem recKept_wakeThread (s : State) {e : Nat} (he : e < 8) : RecKept s (s.wakeThread e 0) := by
  unfold State.wakeThread
  dsimp only
  split
  · refine RecKept.trans (t := s.setThread e 0 _) (fun _ _ => rfl) (recKept_setFld _ _ (Or.inr ?_))
    simp only [Fld.key, R.ENG_THR_STATE_W0_TSTATE]
    omega
  · exact fun _ _ => rfl

theorem recKept_raiseEvent (s : State) {e : Nat} (he : e < 8) (k : Nat) : RecKept s (s.raiseEvent e 0 k) := by
  refine RecKept.trans ?_ (recKept_wakeThread _ he)
  refine RecKept.trans (t := s.setFld (R.ENG_THR_STATE_W1_PENDING e 0) _) (recKept_setFld s _ (Or.inr ?_)) (fun _ _ => rfl)
  simp only [Fld.key, R.ENG_THR_STATE_W1_PENDING]
  omega

theorem recordRel_recKept : RecordRel RecKept where
  refl _ _ _ := rfl
  trans _ _ _ := RecKept.trans
  set s _ v hf := recKept_setFld s v (Or.inl hf)
  event s _ k he := recKept_raiseEvent s he k
  frame _ _ hr _ := fun f _ => State.fld_congr hr f

/-- What the record of a report shows. -/
theorem record_spec (s : State) {src cls cause : Nat} (hsrc : src < 512) (hcls : cls ≠ 0) (hc4 : cls < 4) (hcause : cause < 256) :
    (s.record src cls cause).fld (R.FLT_SRC_LAST_CLASS src) = cls ∧ (s.record src cls cause).fld (R.FLT_SRC_LAST_CAUSE src) = cause ∧
      ∀ f : Fld, ¬ f.recorded → f.key ≠ (R.FLT_SRC_LAST_CLASS src).key → f.key ≠ (R.FLT_SRC_LAST_CAUSE src).key →
        (s.record src cls cause).fld f = s.fld f := by
  have hkept := recordRel_recKept.record s src cause hcls
  have hne : (R.FLT_SRC_LAST_CLASS src).key ≠ (R.FLT_SRC_LAST_CAUSE src).key := by
    simp only [Fld.key, R.FLT_SRC_LAST_CLASS, R.FLT_SRC_LAST_CAUSE]
    omega
  have hshown : ¬ (R.FLT_SRC_LAST_CLASS src).recorded ∧ ¬ (R.FLT_SRC_LAST_CAUSE src).recorded := by
    simp only [Fld.recorded, Fld.collects, Fld.key, R.FLT_SRC_LAST_CLASS, R.FLT_SRC_LAST_CAUSE]
    constructor <;> omega
  refine ⟨?_, ?_, fun f hf h0 h1 => (hkept f hf).trans ((State.fld_setFld_ne _ _ h1).trans (State.fld_setFld_ne _ _ h0))⟩
  · exact (hkept _ hshown.1).trans ((State.fld_setFld_ne _ _ hne).trans ((State.fld_setFld_same _ _ _).trans (Nat.mod_eq_of_lt hc4)))
  · exact (hkept _ hshown.2).trans ((State.fld_setFld_same _ _ _).trans (Nat.mod_eq_of_lt hcause))

/-! ### A report of class MINOR (R440) -/

theorem pwr_ite {c : Prop} [Decidable c] {t u : State} {x : Power} (ht : t.pwr = x) (hu : u.pwr = x) :
    (if c then t else u).pwr = x := by split <;> assumption

theorem raiseVector_pwr (s : State) (v : Nat) : (s.raiseVector v).pwr = s.pwr := pwr_ite (pwr_ite rfl rfl) rfl

theorem wakeThread_pwr (s : State) (e t : Nat) : (s.wakeThread e t).pwr = s.pwr := pwr_ite rfl rfl

theorem captureFirst_pwr (s : State) (src cls cause : Nat) : (s.captureFirst src cls cause).pwr = s.pwr := by
  have hset {t : State} {f : Fld} {v : Nat} (h : t.pwr = s.pwr) : (t.setFld f v).pwr = s.pwr := h
  unfold State.captureFirst
  exact pwr_ite rfl (hset (hset (hset (hset (hset (hset (hset rfl)))))))

theorem collectorInt_pwr (s : State) (f : Fld) : (s.collectorInt f).pwr = s.pwr := by
  change (if s.collectorCond = true then s.raise f else (s.raise f).raiseVector (s.fld R.FLT_CFG_VECTOR)).pwr = s.pwr
  exact pwr_ite rfl (raiseVector_pwr _ _)

theorem routeFault_pwr (s : State) (src : Nat) : (s.routeFault src).pwr = s.pwr :=
  pwr_ite rfl (pwr_ite (wakeThread_pwr _ _ _) rfl)

/-- The record of a MINOR asks for no wake. -/
theorem record_minor_pwr (s : State) (src cause : Nat) : (s.record src 1 cause).pwr = s.pwr := by
  have hwake (u : State) : u.faultWake 1 = u := by
    unfold State.faultWake
    exact if_neg fun h => absurd h.1 (by decide)
  unfold State.record
  rw [if_neg (by decide), hwake, routeFault_pwr]
  exact pwr_ite ((collectorInt_pwr _ _).trans (captureFirst_pwr _ _ _ _)) (captureFirst_pwr _ _ _ _)

/-- A MINOR that feeds no promotion is its record alone. -/
theorem report_minor {s : State} {src cause : Nat} (hp : s.awakes = true) (hsrc : validSource src = true)
    (hcount : counted src 1 cause = false) (hwake : s.pwr.wakeDue = false) : s.report src 1 cause = s.record src 1 cause := by
  have hst : ¬ 3 ≤ s.pwrState := by
    rw [State.awakes, Bool.and_eq_true, decide_eq_true_eq] at hp
    omega
  have hclass : s.classEffects src 1 cause = s.record src 1 cause := rfl
  rw [State.report, if_neg (by rw [hsrc]; simpa using hst), hclass, hcount]
  dsimp only
  rw [if_neg Bool.false_ne_true, State.settleWake, record_minor_pwr, hwake]
  exact if_neg Bool.false_ne_true

end Sys2Proof.Machine


/-! O41: how a darn is requested and how it ends, and what else a bank completes (12 R346, R348, R349, R351 to R356). -/
namespace Sys2Proof.Machine

/-! ### The bytes of a bank -/

theorem range_of_bankOf {a b : Nat} (h : bankOf a = some b) : bankBase b ≤ a ∧ a < bankBase b + bankSize b := by
  unfold bankOf at h
  unfold bankBase bankSize
  split_ifs at h
  all_goals
    simp only [Option.some.injEq] at h
    split_ifs <;> omega

theorem range_of_regionOf {a b : Nat} (hb : b < 29) (h : regionOf a = b) : bankBase b ≤ a ∧ a < bankBase b + bankSize b := by
  refine range_of_bankOf ?_
  unfold regionOf at h
  match hbank : bankOf a with
  | some k =>
    rw [hbank] at h
    exact congrArg some h
  | none =>
    rw [hbank, Option.getD_none] at h
    split_ifs at h <;> omega

/-- A zeroed bank reads zero, and no other byte changes. -/
theorem zeroRegion_spec (s : State) {b : Nat} (hb : b < 29) :
    RegionZero (s.zeroRegion b) b ∧ MemKeptOutside s (s.zeroRegion b) (bankBase b) (bankSize b) := by
  refine ⟨s.zeroRegion_zero b (by omega), fun a ha => ?_⟩
  rw [State.byte_zeroRegion, if_neg]
  intro h
  have := range_of_regionOf hb h
  omega

theorem RegionZero.of_memKept {t u : State} {r : Nat} (h : RegionZero t r) (hu : MemKept t u) : RegionZero u r :=
  fun a ha => (hu a).trans (h a ha)

/-! ### A GO (R355) -/

/-- The answer of a GO. -/
def State.darnAnswer (s : State) (b code : Nat) : State :=
  ((s.setFld R.BNK_DARN_STATUS_RESULT code).setFld R.BNK_DARN_STATUS_BANK b).next R.BNK_DARN_STATUS_SEQ

def darnAnswerFields : List Fld := [R.BNK_DARN_STATUS_RESULT, R.BNK_DARN_STATUS_BANK, R.BNK_DARN_STATUS_SEQ]

theorem darnAnswer_spec (s : State) {b code : Nat} (hb : b < 32) (hc : code < 16) :
    (s.darnAnswer b code).fld R.BNK_DARN_STATUS_RESULT = code ∧ (s.darnAnswer b code).fld R.BNK_DARN_STATUS_BANK = b ∧
      (s.darnAnswer b code).fld R.BNK_DARN_STATUS_SEQ =
        (s.fld R.BNK_DARN_STATUS_SEQ + 1) % 2 ^ R.BNK_DARN_STATUS_SEQ.width ∧
      OnlyFields s (s.darnAnswer b code) darnAnswerFields := by
  refine ⟨?_, ?_, ?_, (((OnlyFields.refl s _).setFld code (by simp [darnAnswerFields])).setFld b (by simp [darnAnswerFields])).setFld _
    (by simp [darnAnswerFields])⟩
  · exact (State.fld_setFld_ne _ _ (by decide)).trans ((State.fld_setFld_ne _ _ (by decide)).trans
      ((State.fld_setFld_same _ _ _).trans (Nat.mod_eq_of_lt hc)))
  · exact (State.fld_setFld_ne _ _ (by decide)).trans ((State.fld_setFld_same _ _ _).trans (Nat.mod_eq_of_lt hb))
  · rw [State.darnAnswer, State.fld_next, if_pos rfl, State.fld_setFld_ne _ _ (by decide), State.fld_setFld_ne _ _ (by decide)]

theorem State.darnGo_of_refused {s : State} {b code : Nat} {hard : Bool} (h : s.darnCode b hard = code) (hc : code ≠ 1) :
    s.darnGo b hard = s.darnAnswer b code := by
  rw [State.darnGo, h]
  exact if_neg hc

/-- The requested darn that an admitted GO puts in. -/
def State.darnPut (s : State) (b : Nat) (hard : Bool) : State :=
  ({ s with bank := { s.bank with darn := some (b, hard), darnRows := 0, darnBad := false } }).setFld R.BNK_DARN_PROG_GROUPS 0

theorem State.darnGo_of_admitted {s : State} {b : Nat} {hard : Bool} (h : s.darnCode b hard = 1) :
    s.darnGo b hard = if hard then ((s.darnAnswer b 1).darnPut b hard).setBusy b 2
      else ((s.darnAnswer b 1).darnPut b hard).raise (R.BNK_STATUS_DARN b) := by
  rw [State.darnGo, h]
  exact if_pos rfl

theorem busyKind_setBusy (s : State) (b k : Nat) : (s.setBusy b k).busyKind b = k := Tab.get_set_same _ _ _ _

theorem FieldsKept.setBusy {s t : State} {l : List Fld} (h : FieldsKept s t l) {b : Nat} (k : Nat) (hb : R.BNK_STATUS_BUSY b ∈ l) :
    FieldsKept s (t.setBusy b k) l := by
  have hput : FieldsKept s { t with bank := { t.bank with busy := Tab.set (fun _ => 0) t.bank.busy b k } } l := h.of_regs rfl
  exact hput.setFld _ hb

/-- The fields of a bank's status stand apart from those of the darn. -/
theorem bnkStatus_ne (b : Nat) : ∀ g ∈ R.BNK_DARN_PROG_GROUPS :: R.BNK_DARN_STATUS_FAIL_ROWS :: darnAnswerFields,
    g.key ≠ (R.BNK_STATUS_BUSY b).key ∧ g.key ≠ (R.BNK_STATUS_DARN b).key ∧ g.key ≠ (R.BNK_EVENTS_DARN_END b).key := by
  simp only [darnAnswerFields, List.forall_mem_cons, Fld.key, R.BNK_STATUS_BUSY, R.BNK_STATUS_DARN, R.BNK_EVENTS_DARN_END,
    R.BNK_DARN_PROG_GROUPS, R.BNK_DARN_STATUS_FAIL_ROWS, R.BNK_DARN_STATUS_RESULT, R.BNK_DARN_STATUS_BANK, R.BNK_DARN_STATUS_SEQ]
  exact ⟨by omega, by omega, by omega, by omega, by omega, by simp⟩

/-! ### Patch entries (R353, R354) -/

/-- A row is patched by an entry of a requested darn or a boot darn. -/
def Patched (u : State) (b row : Nat) : Prop :=
  ∃ j ∈ List.range 16, u.fld (R.BNK_PATCH_V b j) = 1 ∧ u.fld (R.BNK_PATCH_ROW b j) = row ∧ u.fld (R.BNK_PATCH_ORIGIN b j) = 2

/-- The number of free patch rows. -/
def State.freeRows (s : State) (b : Nat) : Nat := ((List.range 16).filter (fun j => s.fld (R.BNK_PATCH_V b j) == 0)).length

/-- The fields of a bank's patch rows. -/
def patchFields (b : Nat) : List Fld := R.BNK_STATUS_PATCHED b :: (List.range 16).flatMap fun j =>
  [R.BNK_PATCH_V b j, R.BNK_PATCH_ROW b j, R.BNK_PATCH_ORIGIN b j]

theorem mem_patchFields {b j : Nat} (hj : j < 16) : R.BNK_PATCH_V b j ∈ patchFields b ∧ R.BNK_PATCH_ROW b j ∈ patchFields b ∧
    R.BNK_PATCH_ORIGIN b j ∈ patchFields b := by
  have h {f : Fld} (hf : f ∈ [R.BNK_PATCH_V b j, R.BNK_PATCH_ROW b j, R.BNK_PATCH_ORIGIN b j]) : f ∈ patchFields b :=
    List.mem_cons_of_mem _ (List.mem_flatMap.mpr ⟨j, List.mem_range.mpr hj, hf⟩)
  exact ⟨h (by simp), h (by simp), h (by simp)⟩

theorem Patched.of_fields {t u : State} {b row : Nat} (h : Patched t b row) (hf : ∀ f ∈ patchFields b, u.fld f = t.fld f) :
    Patched u b row := by
  obtain ⟨j, hj, hv, hrow, horigin⟩ := h
  obtain ⟨h0, h1, h2⟩ := mem_patchFields (b := b) (List.mem_range.mp hj)
  exact ⟨j, hj, (hf _ h0).trans hv, (hf _ h1).trans hrow, (hf _ h2).trans horigin⟩

theorem onlyFields_setPatch (s : State) {b j : Nat} (hj : j < 16) (row origin : Nat) :
    OnlyFields s (s.setPatch b j row origin) (patchFields b) := by
  obtain ⟨hv, hrow, horigin⟩ := mem_patchFields (b := b) hj
  exact ((((OnlyFields.refl s _).setFld row hrow).setFld origin horigin).raise hv).setFld _ (by simp [patchFields])

/-- What the entry of a patched row reads, and that the other entries stay. -/
theorem setPatch_spec (s : State) {b j row : Nat} (hj : j < 16) (hrow : row < 4096) :
    (s.setPatch b j row 2).fld (R.BNK_PATCH_V b j) = 1 ∧ (s.setPatch b j row 2).fld (R.BNK_PATCH_ROW b j) = row ∧
      (s.setPatch b j row 2).fld (R.BNK_PATCH_ORIGIN b j) = 2 ∧
      ∀ i, i < 16 → i ≠ j → (s.setPatch b j row 2).fld (R.BNK_PATCH_V b i) = s.fld (R.BNK_PATCH_V b i) ∧
        (s.setPatch b j row 2).fld (R.BNK_PATCH_ROW b i) = s.fld (R.BNK_PATCH_ROW b i) ∧
        (s.setPatch b j row 2).fld (R.BNK_PATCH_ORIGIN b i) = s.fld (R.BNK_PATCH_ORIGIN b i) := by
  have hkeys {i : Nat} (hi : i < 16) : ∀ g ∈ [R.BNK_PATCH_V b i, R.BNK_PATCH_ROW b i, R.BNK_PATCH_ORIGIN b i],
      g.key ≠ (R.BNK_STATUS_PATCHED b).key ∧ (i ≠ j → g.key ≠ (R.BNK_PATCH_V b j).key ∧ g.key ≠ (R.BNK_PATCH_ROW b j).key ∧
        g.key ≠ (R.BNK_PATCH_ORIGIN b j).key) := by
    simp only [List.forall_mem_cons, Fld.key, R.BNK_PATCH_V, R.BNK_PATCH_ROW, R.BNK_PATCH_ORIGIN, R.BNK_STATUS_PATCHED]
    exact ⟨by omega, by omega, by omega, by simp⟩
  have hown : (R.BNK_PATCH_ROW b j).key ≠ (R.BNK_PATCH_V b j).key ∧ (R.BNK_PATCH_ROW b j).key ≠ (R.BNK_PATCH_ORIGIN b j).key ∧
      (R.BNK_PATCH_ORIGIN b j).key ≠ (R.BNK_PATCH_V b j).key := by
    simp only [Fld.key, R.BNK_PATCH_V, R.BNK_PATCH_ROW, R.BNK_PATCH_ORIGIN]
    omega
  obtain ⟨hrv, hro, hov⟩ := hown
  refine ⟨?_, ?_, ?_, fun i hi hne => ?_⟩
  · exact (State.fld_setFld_ne _ _ (hkeys hj _ (by simp)).1).trans (State.fld_raise_same _ _)
  · refine (State.fld_setFld_ne _ _ (hkeys hj _ (by simp)).1).trans ((State.fld_setFld_ne _ _ hrv).trans
      ((State.fld_setFld_ne _ _ hro).trans ((State.fld_setFld_same _ _ _).trans (Nat.mod_eq_of_lt hrow))))
  · exact (State.fld_setFld_ne _ _ (hkeys hj _ (by simp)).1).trans ((State.fld_setFld_ne _ _ hov).trans (State.fld_setFld_same _ _ _))
  · have hkept {g : Fld} (hg : g ∈ [R.BNK_PATCH_V b i, R.BNK_PATCH_ROW b i, R.BNK_PATCH_ORIGIN b i]) :
        (s.setPatch b j row 2).fld g = s.fld g := by
      obtain ⟨hp, hother⟩ := hkeys hi g hg
      obtain ⟨h0, h1, h2⟩ := hother hne
      exact (State.fld_setFld_ne _ _ hp).trans ((State.fld_setFld_ne _ _ h0).trans ((State.fld_setFld_ne _ _ h2).trans
        (State.fld_setFld_ne _ _ h1)))
    exact ⟨hkept (by simp), hkept (by simp), hkept (by simp)⟩

theorem freePatch_eq_none {s : State} {b : Nat} (h : s.freeRows b = 0) : s.freePatch b = none := by
  rw [State.freeRows, List.length_eq_zero_iff, List.filter_eq_nil_iff] at h
  rw [State.freePatch, List.find?_eq_none]
  intro j hj hv
  refine h j hj ?_
  simpa [State.flag] using hv

theorem exists_freePatch {s : State} {b : Nat} (h : 0 < s.freeRows b) :
    ∃ j, s.freePatch b = some j ∧ j < 16 ∧ s.fld (R.BNK_PATCH_V b j) = 0 := by
  obtain ⟨i, hi⟩ := List.exists_mem_of_length_pos h
  rw [List.mem_filter, beq_iff_eq] at hi
  obtain ⟨hi, hv⟩ := hi
  have hsome : (s.freePatch b).isSome = true := List.find?_isSome.mpr ⟨i, hi, by simp [State.flag, hv]⟩
  obtain ⟨j, hj⟩ := Option.isSome_iff_exists.mp hsome
  refine ⟨j, hj, List.mem_range.mp (List.mem_of_find?_eq_some hj), ?_⟩
  have hp := List.find?_some hj
  simpa [State.flag] using hp

/-- A free entry is taken by the row; at most one free entry fewer is left. -/
theorem freeRows_le {s t : State} {b j : Nat} (h : ∀ i, i < 16 → i ≠ j → s.fld (R.BNK_PATCH_V b i) = 0 → t.fld (R.BNK_PATCH_V b i) = 0) :
    s.freeRows b ≤ t.freeRows b + 1 := by
  have hsub : (List.range 16).filter (fun i => s.fld (R.BNK_PATCH_V b i) == 0) ⊆
      j :: (List.range 16).filter (fun i => t.fld (R.BNK_PATCH_V b i) == 0) := by
    intro i hi
    rw [List.mem_filter, beq_iff_eq] at hi
    by_cases hij : i = j
    · exact hij ▸ List.mem_cons_self
    · exact List.mem_cons_of_mem _ (List.mem_filter.mpr ⟨hi.1, beq_iff_eq.mpr (h i (List.mem_range.mp hi.1) hij hi.2)⟩)
  exact (List.subperm_of_subset (List.nodup_range.filter _) hsub).length_le

/-- The entry that patched the row before is freed. -/
def State.unpatch (s : State) (b row : Nat) : State :=
  match s.patchOf b row with
  | some k => s.clr (R.BNK_PATCH_V b k)
  | none => s

/-- What freeing the entry of a row leaves of the other entries. -/
theorem unpatch_spec (s : State) (b row : Nat) : OnlyFields s (s.unpatch b row) (patchFields b) ∧
    (∀ i, s.fld (R.BNK_PATCH_V b i) = 0 → (s.unpatch b row).fld (R.BNK_PATCH_V b i) = 0) ∧
    ∀ row', row' ≠ row → Patched s b row' → Patched (s.unpatch b row) b row' := by
  unfold State.unpatch
  split
  · next k hk =>
    have hk16 : k < 16 := List.mem_range.mp (List.mem_of_find?_eq_some hk)
    have hrow : s.fld (R.BNK_PATCH_ROW b k) = row := by
      have hp := List.find?_some hk
      rw [Bool.and_eq_true, beq_iff_eq] at hp
      exact hp.2
    refine ⟨(OnlyFields.refl s _).clr (mem_patchFields hk16).1, fun i hi => ?_, ?_⟩
    · rw [State.fld_clr]
      split
      · rfl
      · exact hi
    · rintro row' hne ⟨j, hj, hv, hr, ho⟩
      have hjk : j ≠ k := by
        rintro rfl
        exact hne (hr.symm.trans hrow)
      have hkeys : (R.BNK_PATCH_V b j).key ≠ (R.BNK_PATCH_V b k).key ∧ (R.BNK_PATCH_ROW b j).key ≠ (R.BNK_PATCH_V b k).key ∧
          (R.BNK_PATCH_ORIGIN b j).key ≠ (R.BNK_PATCH_V b k).key := by
        simp only [Fld.key, R.BNK_PATCH_V, R.BNK_PATCH_ROW, R.BNK_PATCH_ORIGIN]
        omega
      obtain ⟨h0, h1, h2⟩ := hkeys
      exact ⟨j, hj, (State.fld_setFld_ne _ _ h0).trans hv, (State.fld_setFld_ne _ _ h1).trans hr, (State.fld_setFld_ne _ _ h2).trans ho⟩
  · exact ⟨OnlyFields.refl s _, fun _ h => h, fun _ _ h => h⟩

theorem patchRow_of_refused {s : State} {b row : Nat} {good : Bool} (h : good = false ∨ s.freeRows b = 0) :
    s.patchRow b row good = (s, false) := by
  unfold State.patchRow
  split
  · next j hj =>
    refine if_pos ?_
    obtain h | h := h
    · simp [h]
    · rw [freePatch_eq_none h] at hj
      cases hj
  · rfl

/-- A row with a good patch row and a free entry is patched. -/
theorem patchRow_good {s : State} {b row : Nat} (hfree : 0 < s.freeRows b) (hrow : row < 4096) :
    ∃ t, s.patchRow b row true = (t, true) ∧ OnlyFields s t (patchFields b) ∧ s.freeRows b ≤ t.freeRows b + 1 ∧ Patched t b row ∧
      ∀ row', Patched s b row' → Patched t b row' := by
  obtain ⟨j, hj, hj16, hjv⟩ := exists_freePatch hfree
  obtain ⟨honly, hclear, hkept⟩ := unpatch_spec s b row
  obtain ⟨hv, hr, ho, hother⟩ := setPatch_spec (s.unpatch b row) (b := b) hj16 hrow
  have hnew : Patched ((s.unpatch b row).setPatch b j row 2) b row := ⟨j, List.mem_range.mpr hj16, hv, hr, ho⟩
  refine ⟨(s.unpatch b row).setPatch b j row 2, ?_, honly.trans (onlyFields_setPatch _ hj16 _ _), ?_, hnew, fun row' h' => ?_⟩
  · rw [State.patchRow, hj]
    rfl
  · exact freeRows_le fun i hi hij hz => (hother i hi hij).1.trans (hclear i hz)
  · by_cases hne : row' = row
    · exact hne ▸ hnew
    · have hjv' : (s.unpatch b row).fld (R.BNK_PATCH_V b j) = 0 := hclear j hjv
      obtain ⟨i, hi, hv', hr', ho'⟩ := hkept row' hne h'
      have hij : i ≠ j := by
        rintro rfl
        omega
      obtain ⟨h0, h1, h2⟩ := hother i (List.mem_range.mp hi) hij
      exact ⟨i, hi, h0.trans hv', h1.trans hr', h2.trans ho'⟩

/-- One step of the patching of several rows. -/
def patchStep (b : Nat) (acc : State × Bool) (r : Nat × Bool) : State × Bool :=
  ((acc.1.patchRow b r.1 r.2).1, acc.2 && (acc.1.patchRow b r.1 r.2).2)

theorem State.patchRows_eq (s : State) (b : Nat) (rows : List (Nat × Bool)) : s.patchRows b rows = rows.foldl (patchStep b) (s, true) := rfl

theorem onlyFields_patchRow (s : State) (b row : Nat) (good : Bool) : OnlyFields s (s.patchRow b row good).1 (patchFields b) := by
  by_cases h : good = false ∨ s.freeRows b = 0
  · rw [patchRow_of_refused h]
    exact OnlyFields.refl s _
  · rw [not_or, Bool.not_eq_false] at h
    obtain ⟨j, hj, hj16, -⟩ := exists_freePatch (Nat.pos_of_ne_zero h.2)
    have heq : s.patchRow b row good = ((s.unpatch b row).setPatch b j row 2, true) := by
      rw [State.patchRow, hj, h.1]
      rfl
    rw [heq]
    exact (unpatch_spec s b row).1.trans (onlyFields_setPatch _ hj16 _ _)

theorem onlyFields_patchFold (b : Nat) : ∀ (rows : List (Nat × Bool)) (acc : State × Bool),
    OnlyFields acc.1 (rows.foldl (patchStep b) acc).1 (patchFields b)
  | [], acc => OnlyFields.refl acc.1 _
  | r :: rows, acc => (onlyFields_patchRow acc.1 b r.1 r.2).trans (onlyFields_patchFold b rows (patchStep b acc r))

theorem onlyFields_patchRows (s : State) (b : Nat) (rows : List (Nat × Bool)) : OnlyFields s (s.patchRows b rows).1 (patchFields b) :=
  onlyFields_patchFold b rows (s, true)

/-- Once a row could not be patched the answer stays so. -/
theorem patchFold_of_failed (b : Nat) : ∀ (rows : List (Nat × Bool)) (t : State), (rows.foldl (patchStep b) (t, false)).2 = false
  | [], _ => rfl
  | r :: rows, t => patchFold_of_failed b rows (t.patchRow b r.1 r.2).1

/-- A row whose patch row fails, or a row when no patch row is free, is not patched. -/
theorem patchFold_bad (b : Nat) : ∀ (rows : List (Nat × Bool)) (acc : State × Bool),
    (∃ r ∈ rows, r.2 = false) ∨ (rows ≠ [] ∧ acc.1.freeRows b = 0) → (rows.foldl (patchStep b) acc).2 = false
  | [], _, h => by simp at h
  | r :: rows, acc, h => by
    rw [List.foldl_cons]
    by_cases hbad : r.2 = false ∨ acc.1.freeRows b = 0
    · rw [patchStep, patchRow_of_refused hbad, Bool.and_false]
      exact patchFold_of_failed b rows _
    · refine patchFold_bad b rows _ (Or.inl ?_)
      rw [not_or] at hbad
      obtain ⟨q, hq, hq2⟩ | ⟨-, h0⟩ := h
      · obtain rfl | hq := List.mem_cons.mp hq
        · exact absurd hq2 hbad.1
        · exact ⟨q, hq, hq2⟩
      · exact absurd h0 hbad.2

/-- Rows with good patch rows, no more than are free, are all patched. -/
theorem patchFold_good (b : Nat) : ∀ (rows : List (Nat × Bool)) (t : State), (∀ r ∈ rows, r.1 < 4096 ∧ r.2 = true) →
    rows.length ≤ t.freeRows b → (rows.foldl (patchStep b) (t, true)).2 = true ∧
      (∀ r ∈ rows, Patched (rows.foldl (patchStep b) (t, true)).1 b r.1) ∧
      ∀ row, Patched t b row → Patched (rows.foldl (patchStep b) (t, true)).1 b row
  | [], _, _, _ => ⟨rfl, fun _ h => absurd h List.not_mem_nil, fun _ h => h⟩
  | r :: rows, t, hgood, hlen => by
    obtain ⟨hrow, hr⟩ := hgood r List.mem_cons_self
    rw [List.length_cons] at hlen
    obtain ⟨w, hw, -, hfree, hnew, hold⟩ := patchRow_good (s := t) (b := b) (row := r.1) (by omega) hrow
    have hstep : patchStep b (t, true) r = (w, true) := by rw [patchStep, hr, hw]; rfl
    obtain ⟨hok, hall, hkeep⟩ := patchFold_good b rows w (fun q hq => hgood q (List.mem_cons_of_mem _ hq)) (by omega)
    rw [List.foldl_cons, hstep]
    refine ⟨hok, fun q hq => ?_, fun row h => hkeep row (hold row h)⟩
    obtain rfl | hq := List.mem_cons.mp hq
    · exact hkeep _ hnew
    · exact hall q hq

/-! ### The end of a requested darn (R351, R355, R356) -/

/-- The fields in which the end of a requested darn shows. -/
def darnEndFields (b : Nat) : List Fld := [R.BNK_DARN_STATUS_RESULT, R.BNK_DARN_STATUS_FAIL_ROWS, R.BNK_DARN_PROG_GROUPS,
  R.BNK_STATUS_BUSY b, R.BNK_STATUS_DARN b, R.BNK_EVENTS_DARN_END b]

/-- What the end of a requested darn leaves. -/
def State.darnEnded (s : State) (b code rows : Nat) : State :=
  (s.darnFinish b code rows).setFld R.BNK_DARN_PROG_GROUPS (bankSize b / 8)

theorem darnEnded_spec (s : State) {b code : Nat} (rows : Nat) (hc : code < 16) :
    (s.darnEnded b code rows).bank.darn = none ∧ (s.darnEnded b code rows).busyKind b = 0 ∧
      (s.darnEnded b code rows).fld (R.BNK_STATUS_BUSY b) = 0 ∧ (s.darnEnded b code rows).fld (R.BNK_STATUS_DARN b) = 0 ∧
      (s.darnEnded b code rows).fld (R.BNK_EVENTS_DARN_END b) = 1 ∧ (s.darnEnded b code rows).fld R.BNK_DARN_STATUS_RESULT = code ∧
      (s.darnEnded b code rows).fld R.BNK_DARN_STATUS_FAIL_ROWS = min 31 rows ∧
      (s.darnEnded b code rows).fld R.BNK_DARN_PROG_GROUPS = bankSize b / 8 ∧ FieldsKept s (s.darnEnded b code rows) (darnEndFields b) ∧
      MemKept s (s.darnEnded b code rows) := by
  have hres := bnkStatus_ne b R.BNK_DARN_STATUS_RESULT (by simp [darnAnswerFields])
  have hfail := bnkStatus_ne b R.BNK_DARN_STATUS_FAIL_ROWS (by simp)
  have hprog := bnkStatus_ne b R.BNK_DARN_PROG_GROUPS (by simp)
  have hown : (R.BNK_STATUS_BUSY b).key ≠ (R.BNK_STATUS_DARN b).key ∧ (R.BNK_STATUS_BUSY b).key ≠ (R.BNK_EVENTS_DARN_END b).key ∧
      (R.BNK_STATUS_DARN b).key ≠ (R.BNK_EVENTS_DARN_END b).key := by
    simp only [Fld.key, R.BNK_STATUS_BUSY, R.BNK_STATUS_DARN, R.BNK_EVENTS_DARN_END]
    omega
  have hsize : bankSize b / 8 < 2 ^ 20 := by
    unfold bankSize
    split_ifs <;> decide
  have hput : FieldsKept s { s with bank := { s.bank with darn := none } } (darnEndFields b) := (FieldsKept.refl s _).of_regs rfl
  refine ⟨rfl, busyKind_setBusy _ b 0, ?_, ?_, ?_, ?_, ?_, (State.fld_setFld_same _ _ _).trans (Nat.mod_eq_of_lt hsize),
    ((((((hput.setBusy 0 (by simp [darnEndFields])).clr (by simp [darnEndFields])).setFld code (by simp [darnEndFields])).setFld _
      (by simp [darnEndFields])).raise (by simp [darnEndFields])).setFld _ (by simp [darnEndFields])), memKept_of_memory rfl⟩
  · exact (State.fld_setFld_ne _ _ hprog.1.symm).trans ((State.fld_setFld_ne _ _ hown.2.1).trans ((State.fld_setFld_ne _ _ hfail.1.symm).trans
      ((State.fld_setFld_ne _ _ hres.1.symm).trans ((State.fld_setFld_ne _ _ hown.1).trans (State.fld_setFld_same _ _ _)))))
  · exact (State.fld_setFld_ne _ _ hprog.2.1.symm).trans ((State.fld_setFld_ne _ _ hown.2.2).trans
      ((State.fld_setFld_ne _ _ hfail.2.1.symm).trans ((State.fld_setFld_ne _ _ hres.2.1.symm).trans (State.fld_clr_same _ _))))
  · exact (State.fld_setFld_ne _ _ hprog.2.2.symm).trans (State.fld_raise_same _ _)
  · exact (State.fld_setFld_ne _ _ (by decide)).trans ((State.fld_setFld_ne _ _ hres.2.2).trans ((State.fld_setFld_ne _ _ (by decide)).trans
      ((State.fld_setFld_same _ _ _).trans (Nat.mod_eq_of_lt hc))))
  · refine (State.fld_setFld_ne _ _ (by decide)).trans ((State.fld_setFld_ne _ _ hfail.2.2).trans
      ((State.fld_setFld_same _ _ _).trans (Nat.mod_eq_of_lt ?_)))
    change min 31 rows < 32
    omega

/-- A requested darn of the bank completes. -/
theorem State.darnDone_requested {s : State} {b : Nat} {hard : Bool} (hd : s.bank.darn = some (b, hard)) (hk : s.busyKind b ≠ 3) :
    s.darnDone b = (if hard = true then s.zeroRegion b else s).darnEnded b (darnResult s.bank.darnRows s.bank.darnBad) s.bank.darnRows := by
  have hruns : s.darnRuns b = true := by simp [State.darnRuns, hd]
  have hhard : (s.darnsHard b = true ∨ s.busyKind b = 3) ↔ hard = true := by simp [State.darnsHard, hd, hk]
  unfold State.darnDone
  simp only [hhard]
  cases hard
  · simp only [Bool.false_eq_true, if_false, hruns, if_true]
    rfl
  · have hruns' : (s.zeroRegion b).darnRuns b = true := hruns
    simp only [if_true, hruns']
    rfl

/-- A boot darn completes. -/
theorem State.darnDone_boot {s : State} {b : Nat} (hd : ∀ h, s.bank.darn ≠ some (b, h)) (hk : s.busyKind b = 3) :
    s.darnDone b = ((s.zeroRegion b).setBusy b 0).raise (R.BNK_EVENTS_DARN_END b) := by
  have hruns : ¬ (s.zeroRegion b).darnRuns b = true := by
    intro h
    rw [State.darnRuns, beq_iff_eq, Option.map_eq_some_iff] at h
    obtain ⟨⟨b', hard⟩, hx, rfl⟩ := h
    exact hd hard hx
  unfold State.darnDone
  rw [if_pos (Or.inr hk)]
  exact if_neg hruns

/-- The bytes of a bank after a darn: zero after a destructive one, else as before. -/
def DarnBytes (s u : State) (b : Nat) (hard : Bool) : Prop :=
  if hard = true then RegionZero u b ∧ MemKeptOutside s u (bankBase b) (bankSize b) else MemKept s u

theorem darnBytes_ended {s t : State} {b : Nat} (hb : b < 29) (hard : Bool) (hmem : MemKept s t) {code : Nat} (rows : Nat) (hc : code < 16) :
    DarnBytes s ((if hard = true then t.zeroRegion b else t).darnEnded b code rows) b hard := by
  obtain ⟨-, -, -, -, -, -, -, -, -, hkept⟩ := darnEnded_spec (if hard = true then t.zeroRegion b else t) (b := b) rows hc
  obtain ⟨hzero, hout⟩ := zeroRegion_spec t hb
  cases hard
  · exact fun a => (hkept a).trans (hmem a)
  · exact ⟨hzero.of_memKept hkept, fun a ha => (hkept a).trans ((hout a ha).trans (hmem a))⟩

/-! ### The rows that a darn has found (R353) -/

/-- The counts of a requested darn after more failing rows. -/
def State.darnCounted (s : State) (b n : Nat) (bad : Bool) : State :=
  if s.darnRuns b then { s with bank := { s.bank with darnRows := s.bank.darnRows + n, darnBad := s.bank.darnBad || bad } } else s

theorem State.darnFound_eq (s : State) (b : Nat) (rows : List (Nat × Bool)) : s.darnFound b rows =
    (if (s.patchRows b rows).2 then (s.patchRows b rows).1 else (s.patchRows b rows).1.noPatch b).darnCounted b rows.length
      (!(s.patchRows b rows).2) := rfl

/-- Rows that are all patched are counted; nothing else of the darn changes. -/
theorem darnFound_good {s : State} {b : Nat} {rows : List (Nat × Bool)} (hgood : ∀ r ∈ rows, r.1 < 4096 ∧ r.2 = true)
    (hlen : rows.length ≤ s.freeRows b) : ∃ t, s.darnFound b rows = t.darnCounted b rows.length false ∧ OnlyFields s t (patchFields b) ∧
      ∀ r ∈ rows, Patched t b r.1 := by
  obtain ⟨hok, hall, -⟩ := patchFold_good b rows s hgood hlen
  refine ⟨(s.patchRows b rows).1, ?_, onlyFields_patchRows s b rows, hall⟩
  have h2 : (s.patchRows b rows).2 = true := hok
  rw [State.darnFound_eq, h2]
  rfl

theorem State.darnCounted_of_requested {s : State} {b : Nat} {hard : Bool} (hd : s.bank.darn = some (b, hard)) (n : Nat) (bad : Bool) :
    s.darnCounted b n bad =
      { s with bank := { s.bank with darnRows := s.bank.darnRows + n, darnBad := s.bank.darnBad || bad } } :=
  if_pos (by simp [State.darnRuns, hd])

theorem State.darnCounted_of_boot {s : State} {b : Nat} (hd : ∀ h, s.bank.darn ≠ some (b, h)) (n : Nat) (bad : Bool) :
    s.darnCounted b n bad = s := by
  refine if_neg fun h => ?_
  rw [State.darnRuns, beq_iff_eq, Option.map_eq_some_iff] at h
  obtain ⟨⟨b', hard⟩, hx, rfl⟩ := h
  exact hd hard hx

/-- The registers of a bank that no patching writes. -/
theorem bnk_not_patch {b : Nat} {g : Fld} (hg : g ∈ R.BNK_DARN_STATUS_SEQ :: darnEndFields b) : ∀ f ∈ patchFields b, g.key ≠ f.key := by
  have hkey : ∀ g ∈ R.BNK_DARN_STATUS_SEQ :: darnEndFields b, g.key < (0x050D1040 + 0x80 * b) * 32 ∧ g.key ≠ (R.BNK_STATUS_PATCHED b).key := by
    simp only [darnEndFields, List.forall_mem_cons, Fld.key, R.BNK_STATUS_PATCHED, R.BNK_DARN_STATUS_SEQ, R.BNK_DARN_STATUS_RESULT,
      R.BNK_DARN_STATUS_FAIL_ROWS, R.BNK_DARN_PROG_GROUPS, R.BNK_STATUS_BUSY, R.BNK_STATUS_DARN, R.BNK_EVENTS_DARN_END]
    exact ⟨by omega, by omega, by omega, by omega, by omega, by omega, by omega, by simp⟩
  obtain ⟨hlow, hne⟩ := hkey g hg
  simp only [patchFields, List.forall_mem_cons, List.mem_flatMap, List.mem_range, forall_exists_index, and_imp]
  refine ⟨hne, ?_⟩
  intro f j hj hf
  have hhigh : (0x050D1040 + 0x80 * b) * 32 ≤ f.key := by
    revert f
    simp only [List.forall_mem_cons, Fld.key, R.BNK_PATCH_V, R.BNK_PATCH_ROW, R.BNK_PATCH_ORIGIN]
    exact ⟨by omega, by omega, by omega, by simp⟩
  omega

theorem patch_not_darnEnd {b : Nat} {f : Fld} (hf : f ∈ patchFields b) : ∀ g ∈ darnEndFields b, f.key ≠ g.key :=
  fun _ hg => (bnk_not_patch (List.mem_cons_of_mem _ hg) f hf).symm

/-- The patching of rows leaves the part awake. -/
theorem awakes_of_patch {s t : State} {b : Nat} (hb : b < 29) (h : OnlyFields s t (patchFields b)) : t.awakes = s.awakes := by
  have hpwr : t.pwr = s.pwr := by rw [h.1]
  have hst : t.pwrState = s.pwrState := by
    refine h.2 _ ?_
    simp only [patchFields, List.forall_mem_cons, List.mem_flatMap, List.mem_range, forall_exists_index, and_imp, Fld.key,
      R.PWR_STATUS_STATE, R.BNK_STATUS_PATCHED]
    refine ⟨by omega, ?_⟩
    intro f j hj hf
    have hhigh : f.key < 0x050E0000 * 32 := by
      revert f
      simp only [List.forall_mem_cons, Fld.key, R.BNK_PATCH_V, R.BNK_PATCH_ROW, R.BNK_PATCH_ORIGIN]
      exact ⟨by omega, by omega, by omega, by simp⟩
    exact Nat.ne_of_gt (hhigh.trans (by decide))
  rw [State.awakes, State.awakes, hpwr, hst]

/-- What a row that could not be patched brings: NO_PATCH and a MINOR of the bank. -/
theorem noPatch_spec {t : State} {b : Nat} (hb : b < 29) (hp : t.awakes = true) (hw : t.pwr.wakeDue = false) :
    (t.noPatch b).fld (R.BNK_EVENTS_NO_PATCH b) = 1 ∧ (t.noPatch b).fld (R.FLT_SRC_LAST_CLASS (0x080 + b)) = 1 ∧
      (t.noPatch b).fld (R.FLT_SRC_LAST_CAUSE (0x080 + b)) = 9 ∧ (t.noPatch b).bank = t.bank ∧ MemKept t (t.noPatch b) := by
  have hsrc : validSource (0x080 + b) = true := by
    simp only [validSource, Bool.or_eq_true, Bool.and_eq_true, decide_eq_true_eq]
    omega
  have hcount : counted (0x080 + b) 1 9 = false := by
    unfold counted
    split_ifs <;> rfl
  have hst : (t.raise (R.BNK_EVENTS_NO_PATCH b)).pwrState = t.pwrState := State.fld_setFld_ne _ _ (by
    simp only [Fld.key, R.BNK_EVENTS_NO_PATCH, R.PWR_STATUS_STATE]
    omega)
  have hp' : (t.raise (R.BNK_EVENTS_NO_PATCH b)).awakes = true := by
    rw [State.awakes, hst]
    exact hp
  have heq : t.noPatch b = (t.raise (R.BNK_EVENTS_NO_PATCH b)).record (0x080 + b) 1 9 := report_minor hp' hsrc hcount hw
  obtain ⟨hclass, hcause, hkept⟩ := record_spec (t.raise (R.BNK_EVENTS_NO_PATCH b)) (src := 0x080 + b) (cls := 1) (cause := 9) (by omega)
    (by decide) (by decide) (by decide)
  have hquiet := quiet_record (t.raise (R.BNK_EVENTS_NO_PATCH b)) (0x080 + b) 1 9
  rw [heq]
  refine ⟨?_, hclass, hcause, hquiet.bank, hquiet.memKept⟩
  refine (hkept _ ?_ ?_ ?_).trans (State.fld_raise_same _ _)
  · simp only [Fld.recorded, Fld.collects, Fld.key, R.BNK_EVENTS_NO_PATCH]
    omega
  · simp only [Fld.key, R.BNK_EVENTS_NO_PATCH, R.FLT_SRC_LAST_CLASS]
    omega
  · simp only [Fld.key, R.BNK_EVENTS_NO_PATCH, R.FLT_SRC_LAST_CAUSE]
    omega

/-- Rows of which one could not be patched. -/
theorem darnFound_bad {s : State} {b : Nat} {hard : Bool} {rows : List (Nat × Bool)} (hb : b < 29) (hp : s.awakes = true)
    (hw : s.pwr.wakeDue = false) (hd : s.bank.darn = some (b, hard)) (hbad : (∃ r ∈ rows, r.2 = false) ∨ (rows ≠ [] ∧ s.freeRows b = 0)) :
    (s.darnFound b rows).bank = { s.bank with darnRows := s.bank.darnRows + rows.length, darnBad := true } ∧
      (s.darnFound b rows).fld (R.BNK_EVENTS_NO_PATCH b) = 1 ∧ (s.darnFound b rows).fld (R.FLT_SRC_LAST_CLASS (0x080 + b)) = 1 ∧
      (s.darnFound b rows).fld (R.FLT_SRC_LAST_CAUSE (0x080 + b)) = 9 ∧ MemKept s (s.darnFound b rows) := by
  have honly := onlyFields_patchRows s b rows
  have hfail : (s.patchRows b rows).2 = false := patchFold_bad b rows (s, true) hbad
  have hbank : (s.patchRows b rows).1.bank = s.bank := by rw [honly.1]
  have hmem : MemKept s (s.patchRows b rows).1 := memKept_of_memory (by rw [honly.1]; rfl)
  have hpwr : (s.patchRows b rows).1.pwr = s.pwr := by rw [honly.1]
  obtain ⟨hno, hclass, hcause, hkeep, hkept⟩ := noPatch_spec hb ((awakes_of_patch hb honly).trans hp) (t := (s.patchRows b rows).1)
    (by rw [hpwr]; exact hw)
  have hd' : ((s.patchRows b rows).1.noPatch b).bank.darn = some (b, hard) := by rw [hkeep, hbank, hd]
  have heq : s.darnFound b rows = ((s.patchRows b rows).1.noPatch b).darnCounted b rows.length true := by
    rw [State.darnFound_eq, hfail]
    rfl
  rw [heq, State.darnCounted_of_requested hd']
  exact ⟨by rw [hkeep, hbank, Bool.or_true], hno, hclass, hcause, fun a => (hkept a).trans (hmem a)⟩

/-- The fields that the end of a darn leaves, whether or not its bytes are zeroed. -/
theorem fld_darnEnded (s : State) {b : Nat} (hard : Bool) {code : Nat} (rows : Nat) (hc : code < 16) {f : Fld}
    (hf : ∀ g ∈ darnEndFields b, f.key ≠ g.key) :
    ((if hard = true then s.zeroRegion b else s).darnEnded b code rows).fld f = s.fld f := by
  obtain ⟨-, -, -, -, -, -, -, -, hkept, -⟩ := darnEnded_spec (if hard = true then s.zeroRegion b else s) (b := b) rows hc
  refine (hkept f hf).trans ?_
  cases hard <;> rfl

theorem Patched.darnEnded {s : State} {b row : Nat} (h : Patched s b row) (hard : Bool) {code : Nat} (rows : Nat) (hc : code < 16) :
    Patched ((if hard = true then s.zeroRegion b else s).darnEnded b code rows) b row :=
  h.of_fields fun _ hf => fld_darnEnded s hard rows hc (patch_not_darnEnd hf)

theorem exec_darnEnd (s : State) (b : Fin 29) (rows : List (Nat × Bool)) (g : Option (BitVec 20)) :
    exec (.darnEnd b rows g) s = s.awake (s.darnEnd b rows (g.map fun g => g.toNat)) := rfl

theorem State.darnEnd_eq {s : State} {b : Nat} (h : s.darnRuns b = true ∨ s.busyKind b = 3) (rows : List (Nat × Bool)) (g : Option Nat) :
    s.darnEnd b rows g = match g with
      | some g => if (s.darnFound b rows).darnRuns b then (s.darnFound b rows).setFld R.BNK_DARN_PROG_GROUPS (min g (bankSize b / 8))
        else s.darnFound b rows
      | none => (s.darnFound b rows).darnDone b := by
  refine if_neg fun hno => ?_
  obtain h | h := h
  · exact hno.1 h
  · exact hno.2 h

theorem darnRuns_of_requested {s : State} {b : Nat} {hard : Bool} (hd : s.bank.darn = some (b, hard)) : s.darnRuns b = true := by
  simp [State.darnRuns, hd]

theorem State.darnFound_nil (s : State) (b : Nat) : s.darnFound b [] = s.darnCounted b 0 false := rfl

/-- How the end of a requested darn shows. -/
def DarnShown (u : State) (b code rows : Nat) : Prop := u.bank.darn = none ∧ u.busyKind b = 0 ∧
  u.fld (R.BNK_STATUS_BUSY b) = 0 ∧ u.fld (R.BNK_STATUS_DARN b) = 0 ∧ u.fld (R.BNK_EVENTS_DARN_END b) = 1 ∧
  u.fld R.BNK_DARN_STATUS_RESULT = code ∧ u.fld R.BNK_DARN_STATUS_FAIL_ROWS = min 31 rows

/-- A requested darn ends with the code of the rows that it has found. -/
theorem darnEnd_requested {s : State} {b : Nat} (hb : b < 29) {hard : Bool} {rows : List (Nat × Bool)} (hd : s.bank.darn = some (b, hard))
    (hk : s.busyKind b ≠ 3) {c n : Nat} {k : Bool} (hbank : (s.darnFound b rows).bank = { s.bank with darnRows := n, darnBad := k })
    (hmem : MemKept s (s.darnFound b rows)) (hc : darnResult n k = c) :
    s.darnEnd b rows none = (if hard = true then (s.darnFound b rows).zeroRegion b else s.darnFound b rows).darnEnded b c n ∧
      DarnShown (s.darnEnd b rows none) b c n ∧ DarnBytes s (s.darnEnd b rows none) b hard := by
  have hc16 : c < 16 := by
    rw [← hc, darnResult]
    split_ifs <;> decide
  have hkind : (s.darnFound b rows).busyKind b ≠ 3 := by rwa [State.busyKind, hbank]
  have heq : s.darnEnd b rows none =
      (if hard = true then (s.darnFound b rows).zeroRegion b else s.darnFound b rows).darnEnded b c n := by
    rw [State.darnEnd_eq (Or.inl (darnRuns_of_requested hd)), State.darnDone_requested (by rw [hbank]; exact hd) hkind, hbank, ← hc]
  obtain ⟨h0, h1, h2, h3, h4, h5, h6, -⟩ :=
    darnEnded_spec (if hard = true then (s.darnFound b rows).zeroRegion b else s.darnFound b rows) (b := b) n hc16
  rw [heq]
  exact ⟨rfl, ⟨h0, h1, h2, h3, h4, h5, h6⟩, darnBytes_ended hb hard hmem n hc16⟩

theorem bankOf_put {s t : State} {l : List Fld} (h : OnlyFields s t l) : t.bank = s.bank := by rw [h.1]

theorem memory_put {s t : State} {l : List Fld} (h : OnlyFields s t l) : t.memory = s.memory := by rw [h.1]; rfl

/-- The end of a darn that reports no more rows. -/
theorem darnFound_none {s : State} {b : Nat} {hard : Bool} (hd : s.bank.darn = some (b, hard)) : s.darnFound b [] = s := by
  rw [State.darnFound_nil, State.darnCounted_of_requested hd, Bool.or_false]
  rfl

theorem darnEnd_none {s : State} {b : Nat} (hb : b < 29) {hard : Bool} (hd : s.bank.darn = some (b, hard)) (hk : s.busyKind b ≠ 3) {c : Nat}
    (hc : darnResult s.bank.darnRows s.bank.darnBad = c) :
    DarnShown (s.darnEnd b [] none) b c s.bank.darnRows ∧ (s.darnEnd b [] none).fld R.BNK_DARN_PROG_GROUPS = bankSize b / 8 ∧
      DarnBytes s (s.darnEnd b [] none) b hard ∧ FieldsKept s (s.darnEnd b [] none) (darnEndFields b) := by
  have hfound := darnFound_none hd
  have hc16 : c < 16 := by
    rw [← hc, darnResult]
    split_ifs <;> decide
  obtain ⟨heq, hend, hbytes⟩ := darnEnd_requested hb hd hk (rows := []) (c := c) (by rw [hfound]) (fun a => by rw [hfound]) hc
  refine ⟨hend, ?_, hbytes, fun f hf => ?_⟩
  · rw [heq]
    obtain ⟨-, -, -, -, -, -, -, hprog, -⟩ := darnEnded_spec (if hard = true then (s.darnFound b []).zeroRegion b else s.darnFound b [])
      (b := b) s.bank.darnRows hc16
    exact hprog
  · rw [heq, fld_darnEnded _ hard _ hc16 hf, hfound]

/-- The end of a requested darn of which every row was patched. -/
theorem darnEnd_all {s : State} {b : Nat} (hb : b < 29) {hard : Bool} {rows : List (Nat × Bool)} (hd : s.bank.darn = some (b, hard))
    (hk : s.busyKind b ≠ 3) (hn : s.bank.darnRows + rows.length ≠ 0) (hbad : s.bank.darnBad = false)
    (hgood : ∀ r ∈ rows, r.1 < 4096 ∧ r.2 = true) (hlen : rows.length ≤ s.freeRows b) :
    DarnShown (s.darnEnd b rows none) b 3 (s.bank.darnRows + rows.length) ∧ (∀ r ∈ rows, Patched (s.darnEnd b rows none) b r.1) ∧
      DarnBytes s (s.darnEnd b rows none) b hard := by
  obtain ⟨t, hfound, honly, hall⟩ := darnFound_good hgood hlen
  have hbank := bankOf_put honly
  have hmem := memory_put honly
  rw [State.darnCounted_of_requested (by rw [hbank]; exact hd)] at hfound
  obtain ⟨heq, hend, hbytes⟩ := darnEnd_requested hb hd hk (rows := rows) (c := 3) (n := s.bank.darnRows + rows.length) (k := false)
    (by rw [hfound, hbank, hbad]; rfl) (memKept_of_memory (by rw [hfound]; exact hmem)) (by rw [darnResult, if_neg hn]; rfl)
  refine ⟨hend, fun r hr => ?_, hbytes⟩
  rw [heq]
  have hpatched : Patched (s.darnFound b rows) b r.1 := by
    rw [hfound]
    exact (hall r hr).of_fields fun _ _ => rfl
  exact hpatched.darnEnded hard _ (by decide)

/-- The end of a requested darn of which a row could not be patched. -/
theorem darnEnd_some {s : State} {b : Nat} (hb : b < 29) {hard : Bool} {rows : List (Nat × Bool)} (hp : s.awakes = true)
    (hw : s.pwr.wakeDue = false) (hd : s.bank.darn = some (b, hard)) (hk : s.busyKind b ≠ 3)
    (hbad : (∃ r ∈ rows, r.2 = false) ∨ (rows ≠ [] ∧ s.freeRows b = 0)) :
    DarnShown (s.darnEnd b rows none) b 4 (s.bank.darnRows + rows.length) ∧ (s.darnEnd b rows none).fld (R.BNK_EVENTS_NO_PATCH b) = 1 ∧
      (s.darnEnd b rows none).fld (R.FLT_SRC_LAST_CLASS (0x080 + b)) = 1 ∧
      (s.darnEnd b rows none).fld (R.FLT_SRC_LAST_CAUSE (0x080 + b)) = 9 ∧ DarnBytes s (s.darnEnd b rows none) b hard := by
  obtain ⟨hbank, hno, hclass, hcause, hmem⟩ := darnFound_bad hb hp hw hd hbad
  have hlen : s.bank.darnRows + rows.length ≠ 0 := by
    have hrows : rows ≠ [] := by
      rintro rfl
      simp at hbad
    have hpos := List.length_pos_iff.mpr hrows
    omega
  have hne : ∀ f ∈ [R.BNK_EVENTS_NO_PATCH b, R.FLT_SRC_LAST_CLASS (0x080 + b), R.FLT_SRC_LAST_CAUSE (0x080 + b)],
      ∀ g ∈ darnEndFields b, f.key ≠ g.key := by
    simp only [darnEndFields, List.forall_mem_cons, Fld.key, R.BNK_EVENTS_NO_PATCH, R.FLT_SRC_LAST_CLASS, R.FLT_SRC_LAST_CAUSE,
      R.BNK_DARN_STATUS_RESULT, R.BNK_DARN_STATUS_FAIL_ROWS, R.BNK_DARN_PROG_GROUPS, R.BNK_STATUS_BUSY, R.BNK_STATUS_DARN,
      R.BNK_EVENTS_DARN_END]
    exact ⟨⟨by omega, by omega, by omega, by omega, by omega, by omega, by simp⟩,
      ⟨by omega, by omega, by omega, by omega, by omega, by omega, by simp⟩,
      ⟨by omega, by omega, by omega, by omega, by omega, by omega, by simp⟩, by simp⟩
  obtain ⟨heq, hend, hbytes⟩ := darnEnd_requested hb hd hk (c := 4) hbank hmem (by rw [darnResult, if_neg hlen]; rfl)
  have hkeep {f : Fld} (hf : f ∈ [R.BNK_EVENTS_NO_PATCH b, R.FLT_SRC_LAST_CLASS (0x080 + b), R.FLT_SRC_LAST_CAUSE (0x080 + b)]) :
      (s.darnEnd b rows none).fld f = (s.darnFound b rows).fld f := by
    rw [heq, fld_darnEnded _ hard _ (by decide) (hne f hf)]
  exact ⟨hend, (hkeep (by simp)).trans hno, (hkeep (by simp)).trans hclass, (hkeep (by simp)).trans hcause, hbytes⟩

/-- A requested darn that goes on. -/
theorem darnEnd_goes {s : State} {b : Nat} {hard : Bool} {rows : List (Nat × Bool)} (g : Nat) (hd : s.bank.darn = some (b, hard))
    (hgood : ∀ r ∈ rows, r.1 < 4096 ∧ r.2 = true) (hlen : rows.length ≤ s.freeRows b) {u : State} (hu : s.darnEnd b rows (some g) = u) :
    u.bank.darn = s.bank.darn ∧ u.bank.darnRows = s.bank.darnRows + rows.length ∧ u.bank.darnBad = s.bank.darnBad ∧
      (∀ r ∈ rows, Patched u b r.1) ∧ u.fld R.BNK_DARN_PROG_GROUPS = min g (bankSize b / 8) ∧ MemKept s u ∧
      ∀ f ∈ [R.BNK_DARN_STATUS_RESULT, R.BNK_DARN_STATUS_FAIL_ROWS, R.BNK_STATUS_BUSY b, R.BNK_STATUS_DARN b], u.fld f = s.fld f := by
  obtain ⟨t, hfound, honly, hall⟩ := darnFound_good hgood hlen
  have hbank := bankOf_put honly
  have hmem := memory_put honly
  rw [State.darnCounted_of_requested (by rw [hbank]; exact hd)] at hfound
  have hruns : (s.darnFound b rows).darnRuns b = true := darnRuns_of_requested (by rw [hfound]; exact hbank ▸ hd)
  rw [State.darnEnd_eq (Or.inl (darnRuns_of_requested hd))] at hu
  dsimp only at hu
  rw [if_pos hruns] at hu
  have hbankF : (s.darnFound b rows).bank =
      { s.bank with darnRows := s.bank.darnRows + rows.length, darnBad := s.bank.darnBad || false } := by rw [hfound, hbank]
  have hmemF : (s.darnFound b rows).memory = s.memory := by
    rw [hfound]
    exact hmem
  have hfld (f : Fld) : (s.darnFound b rows).fld f = t.fld f := by
    rw [hfound]
    rfl
  generalize s.darnFound b rows = w at hu hbankF hmemF hfld
  subst hu
  have hprog {f : Fld} (hf : f.key ≠ R.BNK_DARN_PROG_GROUPS.key) (v : Nat) : (w.setFld R.BNK_DARN_PROG_GROUPS v).fld f = t.fld f :=
    (State.fld_setFld_ne _ _ hf).trans (hfld f)
  have hsize : bankSize b / 8 < 2 ^ 20 := by
    unfold bankSize
    split_ifs <;> decide
  have hrest : ∀ f ∈ [R.BNK_DARN_STATUS_RESULT, R.BNK_DARN_STATUS_FAIL_ROWS, R.BNK_STATUS_BUSY b, R.BNK_STATUS_DARN b],
      f ∈ darnEndFields b ∧ f.key ≠ R.BNK_DARN_PROG_GROUPS.key := by
    have hkeys : (R.BNK_STATUS_BUSY b).key ≠ R.BNK_DARN_PROG_GROUPS.key ∧ (R.BNK_STATUS_DARN b).key ≠ R.BNK_DARN_PROG_GROUPS.key := by
      simp only [Fld.key, R.BNK_DARN_PROG_GROUPS, R.BNK_STATUS_BUSY, R.BNK_STATUS_DARN]
      omega
    simp only [List.forall_mem_cons]
    exact ⟨⟨by simp [darnEndFields], by decide⟩, ⟨by simp [darnEndFields], by decide⟩, ⟨by simp [darnEndFields], hkeys.1⟩,
      ⟨by simp [darnEndFields], hkeys.2⟩, by simp⟩
  refine ⟨by rw [State.setFld_bank, hbankF], by rw [State.setFld_bank, hbankF],
    by rw [State.setFld_bank, hbankF, Bool.or_false],
    fun r hr => (hall r hr).of_fields fun f hf => hprog (patch_not_darnEnd hf _ (by simp [darnEndFields])) _, ?_,
    memKept_of_memory hmemF, fun f hf => ?_⟩
  · exact (State.fld_setFld_same _ _ _).trans (Nat.mod_eq_of_lt ((Nat.min_le_right _ _).trans_lt hsize))
  · obtain ⟨hin, hne⟩ := hrest f hf
    exact (hprog hne _).trans (honly.2 f (bnk_not_patch (List.mem_cons_of_mem _ hin)))

/-- The end of a boot darn. -/
theorem darnEnd_boot {s : State} {b : Nat} (hb : b < 29) {rows : List (Nat × Bool)} (hk : s.busyKind b = 3)
    (hd : ∀ h, s.bank.darn ≠ some (b, h)) (hgood : ∀ r ∈ rows, r.1 < 4096 ∧ r.2 = true) (hlen : rows.length ≤ s.freeRows b) {u : State}
    (hu : s.darnEnd b rows none = u) :
    DarnBytes s u b true ∧ u.busyKind b = 0 ∧ u.fld (R.BNK_STATUS_BUSY b) = 0 ∧ u.fld (R.BNK_EVENTS_DARN_END b) = 1 ∧
      (∀ r ∈ rows, Patched u b r.1) ∧ (rows = [] → FieldsKept s u [R.BNK_STATUS_BUSY b, R.BNK_EVENTS_DARN_END b]) ∧
      ∀ f ∈ [R.BNK_DARN_STATUS_RESULT, R.BNK_DARN_STATUS_FAIL_ROWS, R.BNK_DARN_STATUS_SEQ], u.fld f = s.fld f := by
  obtain ⟨t, hfound, honly, hall⟩ := darnFound_good hgood hlen
  have hbank := bankOf_put honly
  have hmem := memory_put honly
  rw [State.darnCounted_of_boot (by rw [hbank]; exact hd)] at hfound
  have hdone := State.darnDone_boot (s := t) (b := b) (by rw [hbank]; exact hd) (by rw [State.busyKind, hbank]; exact hk)
  obtain ⟨hzero, hout⟩ := zeroRegion_spec t hb
  rw [State.darnEnd_eq (Or.inr hk)] at hu
  dsimp only at hu
  rw [hfound, hdone] at hu
  have hbusy : (R.BNK_STATUS_BUSY b).key ≠ (R.BNK_EVENTS_DARN_END b).key := by
    simp only [Fld.key, R.BNK_STATUS_BUSY, R.BNK_EVENTS_DARN_END]
    omega
  have hkept : FieldsKept t u [R.BNK_STATUS_BUSY b, R.BNK_EVENTS_DARN_END b] := by
    rw [← hu]
    exact (((FieldsKept.refl t _).of_regs rfl).setBusy 0 (by simp)).raise (by simp)
  have hbytes : MemKept (t.zeroRegion b) u := by
    rw [← hu]
    exact memKept_of_memory rfl
  refine ⟨⟨hzero.of_memKept hbytes, fun a ha => (hbytes a).trans ((hout a ha).trans (memKept_of_memory hmem a))⟩, ?_, ?_, ?_,
    fun r hr => ?_, ?_, fun f hf => ?_⟩
  · rw [← hu]
    exact busyKind_setBusy _ _ _
  · rw [← hu]
    exact (State.fld_setFld_ne _ _ hbusy).trans (State.fld_setFld_same _ _ _)
  · rw [← hu]
    exact State.fld_raise_same _ _
  · refine (hall r hr).of_fields fun f hf => hkept f ?_
    have hne := patch_not_darnEnd hf
    simp only [darnEndFields, List.forall_mem_cons] at hne
    obtain ⟨-, -, -, h0, -, h1, -⟩ := hne
    simp only [List.forall_mem_cons]
    exact ⟨h0, h1, by simp⟩
  · rintro rfl
    have ht : t = s := by
      rw [State.darnFound_nil, State.darnCounted_of_boot hd] at hfound
      exact hfound.symm
    exact ht ▸ hkept
  · have hrest : f ∈ R.BNK_DARN_STATUS_SEQ :: darnEndFields b := by
      revert f
      simp [darnEndFields]
    have hne := bnkStatus_ne b f (by revert f; simp [darnAnswerFields])
    refine (hkept f ?_).trans (honly.2 f (bnk_not_patch hrest))
    simp only [List.forall_mem_cons]
    exact ⟨hne.1, hne.2.2, by simp⟩

/-! ### A GO, and the other completions of a bank -/

theorem darnPut_kept (s : State) (b : Nat) (hard : Bool) :
    FieldsKept (s.darnAnswer b 1) ((s.darnAnswer b 1).darnPut b hard) [R.BNK_DARN_PROG_GROUPS] :=
  ((FieldsKept.refl _ _).of_regs rfl).setFld _ (by simp)

/-- What an admitted GO shows, once `u` keeps the fields of the answer. -/
theorem darnPut_spec (s : State) {b : Nat} (hb : b < 32) (hard : Bool) {u : State}
    (hu : ∀ g ∈ R.BNK_DARN_PROG_GROUPS :: darnAnswerFields, u.fld g = ((s.darnAnswer b 1).darnPut b hard).fld g) :
    (u.fld R.BNK_DARN_STATUS_RESULT = 1 ∧ u.fld R.BNK_DARN_STATUS_BANK = b ∧
      u.fld R.BNK_DARN_STATUS_SEQ = (s.fld R.BNK_DARN_STATUS_SEQ + 1) % 2 ^ R.BNK_DARN_STATUS_SEQ.width) ∧
      u.fld R.BNK_DARN_PROG_GROUPS = 0 := by
  obtain ⟨hres, hbank, hseq, -⟩ := darnAnswer_spec s (b := b) (code := 1) hb (by decide)
  have h {g : Fld} (hg : g ∈ darnAnswerFields) (hne : g.key ≠ R.BNK_DARN_PROG_GROUPS.key) : u.fld g = (s.darnAnswer b 1).fld g :=
    (hu g (List.mem_cons_of_mem _ hg)).trans (darnPut_kept s b hard g (by simpa using hne))
  exact ⟨⟨(h (by simp [darnAnswerFields]) (by decide)).trans hres, (h (by simp [darnAnswerFields]) (by decide)).trans hbank,
    (h (by simp [darnAnswerFields]) (by decide)).trans hseq⟩, (hu _ (by simp)).trans (State.fld_setFld_same _ _ _)⟩

theorem darnPut_fields (s : State) {b : Nat} (hb : b < 32) (hard : Bool) :
    FieldsKept s ((s.darnAnswer b 1).darnPut b hard) (darnAnswerFields ++ [R.BNK_DARN_PROG_GROUPS]) := by
  obtain ⟨-, -, -, honly⟩ := darnAnswer_spec s (b := b) (code := 1) hb (by decide)
  exact (honly.2.mono (by simp +contextual)).trans ((darnPut_kept s b hard).mono (by simp))

/-- A bank asked to return to ON. -/
theorem bankCfgWrite_on {s : State} {b v : Nat} (hv : v % 4 = 0) (hne : s.fld (R.BNK_CFG_PWR b) ≠ 0) :
    (s.bankCfgWrite b v).fld (R.BNK_CFG_PWR b) = 0 ∧ (s.bankCfgWrite b v).fld (R.BNK_STATUS_PWR_NOW b) = 0 ∧
      (s.bankCfgWrite b v).bank.darn = s.bank.darn ∧ MemKept s (s.bankCfgWrite b v) := by
  have hkeys : (R.BNK_CFG_PWR b).key ≠ (R.BNK_CFG_RINSE b).key ∧ (R.BNK_CFG_PWR b).key ≠ (R.BNK_CFG_BOOT_DARN b).key ∧
      (R.BNK_CFG_PWR b).key ≠ (R.BNK_STATUS_PWR_NOW b).key ∧ (R.BNK_CFG_PWR b).key ≠ (R.BNK_STATUS_BUSY b).key ∧
      (R.BNK_STATUS_PWR_NOW b).key ≠ (R.BNK_STATUS_BUSY b).key := by
    simp only [Fld.key, R.BNK_CFG_PWR, R.BNK_CFG_RINSE, R.BNK_CFG_BOOT_DARN, R.BNK_STATUS_PWR_NOW, R.BNK_STATUS_BUSY]
    omega
  obtain ⟨hrinse, hboot, hnow, hbusy, hnowBusy⟩ := hkeys
  have hrefuse : s.refusesPwr b 0 = false := by simp [State.refusesPwr]
  have hpwr : ¬ 0 = ((s.setFld (R.BNK_CFG_RINSE b) (v / 4)).setFld (R.BNK_CFG_BOOT_DARN b) (v / 8)).fld (R.BNK_CFG_PWR b) := by
    rw [State.fld_setFld_ne _ _ hboot, State.fld_setFld_ne _ _ hrinse]
    exact Ne.symm hne
  have heq : s.bankCfgWrite b v =
      (((s.setFld (R.BNK_CFG_RINSE b) (v / 4)).setFld (R.BNK_CFG_BOOT_DARN b) (v / 8)).setFld (R.BNK_CFG_PWR b) 0).bankPower b 0 := by
    rw [State.bankCfgWrite, if_neg (fun h => h.2.1 hv), State.writeBankCfg, hv, hrefuse, if_neg Bool.false_ne_true, if_neg hpwr]
  have hw : (((s.setFld (R.BNK_CFG_RINSE b) (v / 4)).setFld (R.BNK_CFG_BOOT_DARN b) (v / 8)).setFld (R.BNK_CFG_PWR b) 0).fld
      (R.BNK_CFG_PWR b) = 0 := State.fld_setFld_same _ _ _
  have hdarn : (((s.setFld (R.BNK_CFG_RINSE b) (v / 4)).setFld (R.BNK_CFG_BOOT_DARN b) (v / 8)).setFld (R.BNK_CFG_PWR b) 0).bank =
      s.bank := rfl
  have hmem : (((s.setFld (R.BNK_CFG_RINSE b) (v / 4)).setFld (R.BNK_CFG_BOOT_DARN b) (v / 8)).setFld (R.BNK_CFG_PWR b) 0).memory =
      s.memory := rfl
  rw [heq]
  generalize ((s.setFld (R.BNK_CFG_RINSE b) (v / 4)).setFld (R.BNK_CFG_BOOT_DARN b) (v / 8)).setFld (R.BNK_CFG_PWR b) 0 = w
    at hw hdarn hmem
  by_cases h0 : 0 = w.fld (R.BNK_STATUS_PWR_NOW b)
  · rw [State.bankPower, if_pos h0]
    exact ⟨hw, h0.symm, by rw [hdarn], memKept_of_memory hmem⟩
  · have hon : w.bankPower b 0 = if w.fld (R.BNK_STATUS_PWR_NOW b) = 2 ∧ (w.setFld (R.BNK_STATUS_PWR_NOW b) 0).flag (R.BNK_CFG_RINSE b) = true
        then (w.setFld (R.BNK_STATUS_PWR_NOW b) 0).setBusy b 1 else w.setFld (R.BNK_STATUS_PWR_NOW b) 0 := by
      rw [State.bankPower, if_neg h0]
      have h02 : ¬ (0 : Nat) = 2 := by decide
      simp only [Ne.symm h0, h02, if_false, true_and]
      rfl
    have hset : (w.setFld (R.BNK_STATUS_PWR_NOW b) 0).fld (R.BNK_CFG_PWR b) = 0 := (State.fld_setFld_ne _ _ hnow).trans hw
    rw [hon]
    split
    · exact ⟨(State.fld_setFld_ne _ _ hbusy).trans hset, (State.fld_setFld_ne _ _ hnowBusy).trans (State.fld_setFld_same _ _ _),
        by rw [← hdarn]; rfl, memKept_of_memory hmem⟩
    · exact ⟨hset, State.fld_setFld_same _ _ _, by rw [← hdarn]; rfl, memKept_of_memory hmem⟩

/-- A rinse ends. -/
theorem rinseEnd_spec {s : State} {b : Nat} (hb : b < 29) (hp : s.pwr.phase ≠ 2) (hk : s.busyKind b = 1) :
    RegionZero (s.rinseEnd b) b ∧ (s.rinseEnd b).fld (R.BNK_STATUS_BUSY b) = 0 ∧ (s.rinseEnd b).fld (R.BNK_EVENTS_RINSE_END b) = 1 ∧
      MemKeptOutside s (s.rinseEnd b) (bankBase b) (bankSize b) := by
  obtain ⟨hzero, hout⟩ := zeroRegion_spec s hb
  have hbusy : (R.BNK_STATUS_BUSY b).key ≠ (R.BNK_EVENTS_RINSE_END b).key := by
    simp only [Fld.key, R.BNK_STATUS_BUSY, R.BNK_EVENTS_RINSE_END]
    omega
  have hphase : ¬ ((s.pwr.phase = 2) ∧ s.flag (R.BNK_CFG_BOOT_DARN b) = true) := fun h => hp h.1
  rw [State.rinseEnd, if_pos hk, if_neg hphase]
  exact ⟨hzero.of_memKept (memKept_of_memory rfl), (State.fld_setFld_ne _ _ hbusy).trans (State.fld_setFld_same _ _ _),
    State.fld_raise_same _ _, hout⟩

/-- A corrected group is counted. -/
theorem ceWriteback_spec (s : State) {b : Nat} (hb : b < 29) (a : Nat) :
    (s.ceWriteback b a false).fld (R.BNK_EVENTS_CE_SET b) = 1 ∧ (s.ceWriteback b a false).bank.darn = s.bank.darn ∧
      (s.ceWriteback b a false).fld (R.BNK_CE_COUNT b) = min (2 ^ (R.BNK_CE_COUNT b).width - 1) (s.fld (R.BNK_CE_COUNT b) + 1) ∧
      MemKept s (s.ceWriteback b a false) := by
  have hkeys : (R.BNK_CE_COUNT b).key ≠ (R.BNK_EVENTS_CE_SET b).key ∧ (R.BNK_CE_COUNT b).key ≠ (R.FLT_SRC_NOTES (0x080 + b)).key := by
    simp only [Fld.key, R.BNK_CE_COUNT, R.BNK_EVENTS_CE_SET, R.FLT_SRC_NOTES]
    omega
  have heq : s.ceWriteback b a false = (if (s.bump (R.BNK_CE_COUNT b)).flag (R.BNK_EVENTS_CE_SET b) then s.bump (R.BNK_CE_COUNT b)
      else (s.bump (R.BNK_CE_COUNT b)).note (0x080 + b)).raise (R.BNK_EVENTS_CE_SET b) := if_neg Bool.false_ne_true
  rw [heq]
  split
  · exact ⟨State.fld_raise_same _ _, rfl, (State.fld_setFld_ne _ _ hkeys.1).trans (State.fld_bump_same _ _), memKept_of_memory rfl⟩
  · exact ⟨State.fld_raise_same _ _, rfl, (State.fld_setFld_ne _ _ hkeys.1).trans ((State.fld_setFld_ne _ _ hkeys.2).trans
      (State.fld_bump_same _ _)), memKept_of_memory rfl⟩

theorem bankOf_lt {a b : Nat} (h : bankOf a = some b) : b < 29 := by
  unfold bankOf at h
  split_ifs at h
  all_goals
    simp only [Option.some.injEq] at h
    omega

/-- Settles O41: the first code of R355 that applies, and the ends of a requested darn and of a boot darn. -/
theorem darnCommands : Obligations.DarnCommands := by
  unfold Obligations.DarnCommands
  extract_lets answers refused bad busy patched free ended bytes
  have hcode (s : State) (b : Fin 32) (hard : Bool) : s.darnCode b hard = if bad s b then 7 else if busy s b then 5
      else if hard = true ∧ ¬ s.bankQuiet b = true then 6 else 1 := by
    have hbusy : (s.bank.darn.isSome = true ∨ s.flag (R.BNK_STATUS_BUSY b) = true) ↔ busy s b := by
      rw [flag_ne_zero, Option.isSome_iff_ne_none]
    simp only [State.darnCode, hbusy]
    rfl
  have hrefuse (s : State) (b : Fin 32) {hard : Bool} {code : Nat} (hp : s.powered = true) (h : s.darnCode b hard = code) (hc : code ≠ 1)
      (hc16 : code < 16) : Does (if hard = true then .darnDestructive b else .darnPreserving b) s fun u => refused s u b code := by
    obtain ⟨hres, hbank, hseq, honly⟩ := darnAnswer_spec s (b := b) b.isLt hc16
    have he : exec (if hard = true then .darnDestructive b else .darnPreserving b) s = s.live (s.darnGo b hard) := by cases hard <;> rfl
    refine does_live he hp ?_
    rw [State.darnGo_of_refused h hc]
    exact ⟨⟨hres, hbank, hseq⟩, honly⟩
  refine ⟨?unfit, ?occupied, ?loud, ?destructive, ?preserving, ?none_, ?all, ?some_, ?before, ?goes, ?boot, ?no, ?on, ?rinse, ?ce⟩
  case unfit =>
    intro s b hp hb c hc
    have h7 (hard : Bool) : s.darnCode b hard = 7 := by rw [hcode, if_pos hb]
    simp only [List.mem_cons, List.not_mem_nil, or_false] at hc
    obtain rfl | rfl := hc
    · exact hrefuse s b hp (h7 false) (by decide) (by decide)
    · exact hrefuse s b hp (h7 true) (by decide) (by decide)
  case occupied =>
    intro s b hp hb hbusy c hc
    have h5 (hard : Bool) : s.darnCode b hard = 5 := by rw [hcode, if_neg hb, if_pos hbusy]
    simp only [List.mem_cons, List.not_mem_nil, or_false] at hc
    obtain rfl | rfl := hc
    · exact hrefuse s b hp (h5 false) (by decide) (by decide)
    · exact hrefuse s b hp (h5 true) (by decide) (by decide)
  case loud =>
    intro s b hp hb hbusy hq
    exact hrefuse s b (hard := true) hp (by rw [hcode, if_neg hb, if_neg hbusy, if_pos ⟨rfl, by simp [hq]⟩]) (by decide) (by decide)
  case destructive =>
    intro s b hp hb hbusy hq
    have h1 : s.darnCode b true = 1 := by rw [hcode, if_neg hb, if_neg hbusy, if_neg (by simp [hq])]
    refine does_live (t := s.darnGo b true) rfl hp ?_
    rw [State.darnGo_of_admitted h1, if_pos rfl]
    obtain ⟨hans, hprog⟩ := darnPut_spec s b.isLt true (u := ((s.darnAnswer b 1).darnPut b true).setBusy b 2) fun g hg =>
      State.fld_setFld_ne _ _ (bnkStatus_ne b g (by revert g; simp +contextual)).1
    exact ⟨hans, rfl, hprog, State.fld_setFld_same _ _ _, busyKind_setBusy _ _ _, rfl, memKept_of_memory rfl,
      ((darnPut_fields s b.isLt true).mono (by simp [darnAnswerFields])).setBusy 2 (by simp)⟩
  case preserving =>
    intro s b hp hb hbusy
    have h1 : s.darnCode b false = 1 := by rw [hcode, if_neg hb, if_neg hbusy, if_neg (by simp)]
    refine does_live (t := s.darnGo b false) rfl hp ?_
    rw [State.darnGo_of_admitted h1, if_neg Bool.false_ne_true]
    obtain ⟨hans, hprog⟩ := darnPut_spec s b.isLt false (u := ((s.darnAnswer b 1).darnPut b false).raise (R.BNK_STATUS_DARN b)) fun g hg =>
      State.fld_setFld_ne _ _ (bnkStatus_ne b g (by revert g; simp +contextual)).2.1
    exact ⟨hans, rfl, hprog, State.fld_raise_same _ _, memKept_of_memory rfl,
      ((darnPut_fields s b.isLt false).mono (by simp [darnAnswerFields])).raise (by simp)⟩
  case none_ =>
    intro s b hard hp hd hk hrows
    obtain ⟨hend, hprog, hbytes, hkept⟩ := darnEnd_none b.isLt hd hk (c := 2) (by simp [darnResult, hrows])
    rw [hrows] at hend
    exact does_awake (exec_darnEnd s b [] none) hp ⟨hend, hprog, hbytes, hkept⟩
  case all =>
    intro s b hard rows hp hd hk hn hbad hgood hlen
    exact does_awake (exec_darnEnd s b rows none) hp (darnEnd_all b.isLt hd hk hn hbad hgood hlen)
  case some_ =>
    intro s b hard rows hp hw hd hk hrows hbad
    exact does_awake (exec_darnEnd s b rows none) hp (darnEnd_some b.isLt hp hw hd hk hbad)
  case before =>
    intro s b hard hp hd hk hn hbad
    obtain ⟨hend, -, hbytes, -⟩ := darnEnd_none b.isLt hd hk (c := 4) (by simp [darnResult, hn, hbad])
    exact does_awake (exec_darnEnd s b [] none) hp ⟨hend, hbytes⟩
  case goes =>
    intro s b hard rows g hp hd hgood hlen
    exact does_awake (exec_darnEnd s b rows (some g)) hp (darnEnd_goes g.toNat hd hgood hlen rfl)
  case boot =>
    intro s b rows hp hk hd hgood hlen
    exact does_awake (exec_darnEnd s b rows none) hp (darnEnd_boot b.isLt hk hd hgood hlen rfl)
  case no =>
    intro s b rows g hp hk hd
    refine ignores_awake (exec_darnEnd s b rows g) (if_pos ⟨fun h => ?_, hk⟩)
    rw [State.darnRuns, beq_iff_eq, Option.map_eq_some_iff] at h
    obtain ⟨⟨b', hard⟩, hx, hb⟩ := h
    exact hd hard (by rw [hx, ← hb])
  case on =>
    intro s b v hp hv hne
    exact does_live (t := s.bankCfgWrite b v.toNat) rfl hp (bankCfgWrite_on hv hne)
  case rinse =>
    intro s b hp hk
    have hphase : s.pwr.phase = 0 := by
      rw [State.powered, Bool.and_eq_true, beq_iff_eq] at hp
      exact hp.2
    exact does_awake (t := s.rinseEnd b) rfl (State.awakes_of_powered hp) (rinseEnd_spec b.isLt (by omega) hk)
  case ce =>
    intro s a b hp hb hopen
    refine does_live (t := s.ceWriteback b a.toNat false) ?_ hp (ceWriteback_spec s (bankOf_lt hb) a.toNat)
    change s.live _ = _
    rw [hb]
    dsimp only
    rw [if_pos hopen]

end Sys2Proof.Machine


/-! O42: the thread that a ring's registers name (12 R364, R370). -/
namespace Sys2Proof.Machine

/-- The two-bit THR of the consumer side of ring 112 reads 4; engine 0 holds the side's role, and an entry is present. -/
def ringOfThread4 : { s : State // s.powered = true } :=
  ⟨{ State.reset with regs := [((R.RING_CONS_ROLE 112).key, 0), ((R.RING_CONS_THR 112).key, 4), ((R.RING_TAIL_INDEX 112).key, 1)] },
    by decide +kernel⟩

/-- What a write of STOP to the ring leaves. -/
def ringOfThread4Left : State := ringOfThread4.1.ringUpdate 112 false fun s => s.setFld (R.RING_CFG_STOP 112) 0

/-- The event goes where the pending events of a fifth thread would stand. -/
theorem ringOfThread4Left_pending :
    ringOfThread4Left.fld (R.ENG_THR_STATE_W1_PENDING 0 4) ≠ ringOfThread4.1.fld (R.ENG_THR_STATE_W1_PENDING 0 4) := by decide +kernel

theorem exec_ringStopWrite {s : State} (r : Fin 128) (stop : Bool) (hp : s.powered = true) :
    exec (.ringStopWrite r stop) s = .next (s.ringUpdate r false fun s => s.setFld (R.RING_CFG_STOP r) (if stop then 1 else 0)) :=
  State.live_next _ hp

/-- Refutes O42: the statement ranges over registers that read more than their width, and the event of a ring whose THR reads 4 is
pending at no thread of its engine. -/
theorem not_ringCommands : ¬ Obligations.RingCommands := by
  unfold Obligations.RingCommands
  intro h
  obtain ⟨-, -, -, -, -, -, -, hstop, -⟩ := h
  obtain ⟨-, -, hkept, -⟩ := (hstop ringOfThread4.1 112 false ringOfThread4.2).of_exec (exec_ringStopWrite 112 false ringOfThread4.2)
  exact ringOfThread4Left_pending (hkept (R.ENG_THR_STATE_W1_PENDING 0 4) (by decide +kernel))

end Sys2Proof.Machine


/-! The issue slot of a thread, with its state (10 R274, R277, R296): what an instruction that stalls, waits, halts or traps leaves. -/
namespace Sys2Proof.Machine

/-- The thread is `x`, stands at `pc` in thread state `ts`, and nothing but it and the round robin changed. -/
def State.Stands (s : State) (e : Fin 8) (t : Fin 4) (x : Thread) (pc ts : Nat) (u : State) : Prop :=
  u.thread e t = x ∧ u.pc e t = pc ∧ u.tstate e t = ts ∧
  (∀ (e' : Fin 8) (t' : Fin 4), (e' ≠ e ∨ t' ≠ t) → u.thread e' t' = s.thread e' t') ∧
  FieldsKept s u [R.ENG_THR_STATE_W0_PC e t, R.ENG_THR_STATE_W0_TSTATE e t] ∧
  u = { s with regs := u.regs, eng := { s.eng with thr := u.eng.thr, lastThr := u.eng.lastThr } }

section
variable {s u : State} {e : Fin 8} {t : Fin 4} {x : Thread} {pc ts : Nat}

theorem pc_key_ne_tstate (e t : Nat) : (R.ENG_THR_STATE_W0_PC e t).key ≠ (R.ENG_THR_STATE_W0_TSTATE e t).key := by
  simp only [Fld.key, R.ENG_THR_STATE_W0_PC, R.ENG_THR_STATE_W0_TSTATE]
  omega

theorem State.stands_turnTaken : s.Stands e t (s.thread e t) (s.pc e t) (s.tstate e t) (s.turnTaken e t) :=
  ⟨rfl, rfl, rfl, fun _ _ _ => rfl, fun _ _ => rfl, rfl⟩

theorem State.Stands.setThread (h : s.Stands e t x pc ts u) (y : Thread) : s.Stands e t y pc ts (u.setThread e t y) := by
  obtain ⟨-, hpc, hts, hothers, hfields, hframe⟩ := h
  refine ⟨State.thread_setThread_same u e t y, hpc, hts, fun e' t' hne => ?_, hfields, ?_⟩
  · rw [State.thread_setThread_ne u y (threadIndex_ne hne), hothers e' t' hne]
  · rw [hframe]
    rfl

theorem State.Stands.setPc (h : s.Stands e t x pc ts u) (v : Nat) : s.Stands e t x (v / 4 * 4 % 2 ^ 18) ts (u.setPc e t v) := by
  obtain ⟨hthread, -, hts, hothers, hfields, hframe⟩ := h
  refine ⟨hthread, State.fld_setFld_same u _ _, ?_, hothers, hfields.setFld _ (by simp), ?_⟩
  · exact (State.fld_setFld_ne u _ (pc_key_ne_tstate e t).symm).trans hts
  · rw [hframe]
    rfl

theorem State.Stands.setTstate (h : s.Stands e t x pc ts u) {v : Nat} (hv : v < 8) : s.Stands e t x pc v (u.setTstate e t v) := by
  obtain ⟨hthread, hpc, -, hothers, hfields, hframe⟩ := h
  refine ⟨hthread, ?_, (State.fld_setFld_same u _ _).trans (Nat.mod_eq_of_lt hv), hothers, hfields.setFld _ (by simp), ?_⟩
  · exact (State.fld_setFld_ne u _ (pc_key_ne_tstate e t)).trans hpc
  · rw [hframe]
    rfl

theorem State.Stands.stepPc (h : s.Stands e t x pc ts u) (h4 : pc % 4 = 0) :
    s.Stands e t x ((pc + 4) % 2 ^ 18) ts (u.stepPc e t) := by
  have hstep := h.setPc (nextPc (u.pc e t))
  obtain ⟨-, hpc, -⟩ := h
  rw [hpc] at hstep
  have heq : nextPc pc / 4 * 4 % 2 ^ 18 = (pc + 4) % 2 ^ 18 := by
    have := nextPc_aligned h4
    have := nextPc_lt pc
    rw [nextPc] at *
    omega
  rw [heq] at hstep
  rwa [State.stepPc, hpc]

theorem State.Stands.retireIns (h : s.Stands e t x pc ts u) (h4 : pc % 4 = 0) (y : Thread) :
    s.Stands e t y ((pc + 4) % 2 ^ 18) ts (u.retireIns e t y) := (h.setThread y).stepPc h4

/-- An instruction that only moves on or writes its thread leaves the thread's state alone too. -/
theorem State.Stands.keeps_tstate (h : s.Stands e t x pc (s.tstate e t) u) : FieldsKept s u [R.ENG_THR_STATE_W0_PC e t] := by
  obtain ⟨-, -, hts, -, hfields, -⟩ := h
  intro f hf
  by_cases hk : f.key = (R.ENG_THR_STATE_W0_TSTATE e t).key
  · rw [State.fld, hk]
    exact hts.trans (by rw [State.tstate, State.fld, State.fld, hk])
  · exact hfields f (by simpa using ⟨hf _ (List.mem_singleton_self _), hk⟩)

theorem State.Stands.memKept (h : s.Stands e t x pc ts u) : MemKept s u := by
  obtain ⟨-, -, -, -, -, hframe⟩ := h
  rw [hframe]
  exact memKept_of_memory rfl

/-! ### The trap (R296) -/

/-- A thread that traps at `pc`. -/
def Thread.trapped (x : Thread) (pc : Nat) : Thread :=
  { x with
    fs := { code := 1, sticky := Nat.lor x.fs.sticky 1, inTrap := true, trapPc := pc }
    v1 := false
    trapDue := false }

/-- A thread whose trap is only marked, in its handler. -/
def Thread.marked (x : Thread) : Thread := { x with fs := { x.fs with sticky := Nat.lor x.fs.sticky 1 }, trapDue := false }

theorem State.Stands.fencedTrap (h : s.Stands e t x pc ts u) (hin : x.fs.inTrap = false) (at_ : Nat) :
    s.Stands e t (x.trapped at_) (s.fld (R.ENG_FENCE_VEC_VEC e) / 4 * 4 % 2 ^ 18) 1 (u.fencedTrap e t at_) := by
  have hvec : u.fld (R.ENG_FENCE_VEC_VEC e) = s.fld (R.ENG_FENCE_VEC_VEC e) := by
    obtain ⟨-, -, -, -, hfields, -⟩ := h
    refine hfields _ ?_
    simp only [List.forall_mem_cons, Fld.key, R.ENG_FENCE_VEC_VEC, R.ENG_THR_STATE_W0_PC, R.ENG_THR_STATE_W0_TSTATE]
    exact ⟨by omega, by omega, by simp⟩
  have htrap := ((h.setThread (x.trapped at_)).setPc (u.fld (R.ENG_FENCE_VEC_VEC e))).setTstate (v := 1) (by decide)
  rw [hvec] at htrap
  obtain ⟨hx, -⟩ := h
  subst hx
  rw [State.fencedTrap, hin, hvec]
  exact htrap

theorem State.Stands.fencedTrap_in (h : s.Stands e t x pc ts u) (hin : x.fs.inTrap = true) (at_ : Nat) :
    s.Stands e t x.marked pc ts (u.fencedTrap e t at_) := by
  have hmark := h.setThread x.marked
  obtain ⟨hx, -⟩ := h
  subst hx
  rw [State.fencedTrap, hin]
  exact hmark

/-- A BEAT or EPOCH that completes FENCED outside the handler traps. -/
theorem State.Stands.issueFenced (h : s.Stands e t x pc ts u) (hin : x.fs.inTrap = false) :
    s.Stands e t (x.trapped pc) (s.fld (R.ENG_FENCE_VEC_VEC e) / 4 * 4 % 2 ^ 18) 1 (u.issueFenced e t .none) := by
  have htrap := h.fencedTrap hin pc
  obtain ⟨hx, hpc, -⟩ := h
  subst hx hpc
  change s.Stands e t _ _ _ (if (u.thread e t).fs.inTrap then _ else _)
  rw [hin]
  exact htrap

/-- In the handler it only marks fs and goes on. -/
theorem State.Stands.issueFenced_in (h : s.Stands e t x pc ts u) (h4 : pc % 4 = 0) (hin : x.fs.inTrap = true) :
    s.Stands e t x.marked ((pc + 4) % 2 ^ 18) ts (u.issueFenced e t .none) := by
  have hmark := (h.fencedTrap_in hin (u.pc e t)).stepPc h4
  obtain ⟨hx, -⟩ := h
  subst hx
  change s.Stands e t _ _ _ (if (u.thread e t).fs.inTrap then _ else _)
  rw [hin]
  exact hmark

/-- An instruction that names its registers, none of them pending, does what it does then in the slot of its thread. -/
theorem does_of_withRegs {c : Instr} {uses : List Dest} {act go : State → State} {P : State → Prop} (hm : s.mayIssue e t = true)
    (ht : (s.thread e t).trapDue = false) (hfree : ∀ d ∈ uses, s.regPending e t d = false)
    (hc : exec c s = .next (s.issue e t act)) (hact : act (s.turnTaken e t) = (s.turnTaken e t).withRegs e t uses go)
    (hP : P (go (s.turnTaken e t))) : Does c s P :=
  does_of_issue hc hm ht (by rwa [hact, State.withRegs_turnTaken _ hfree])

theorem Does.mono {c : Instr} {P Q : State → Prop} (h : Does c s P) (hPQ : ∀ u, P u → Q u) : Does c s Q := by
  obtain ⟨u, hu, hP⟩ := h
  exact ⟨u, hu, hPQ u hP⟩

/-- With a trap due every instruction gives its slot to it. -/
theorem does_trap_of_issue {c : Instr} {act : State → State} {P : State → Prop} (hc : exec c s = .next (s.issue e t act))
    (hm : s.mayIssue e t = true) (hdue : (s.thread e t).trapDue = true) (hP : P ((s.turnTaken e t).fencedTrap e t (s.pc e t))) :
    Does c s P := by
  refine ⟨_, hc, ?_⟩
  have hdue' : ((s.turnTaken e t).thread e t).trapDue = true := hdue
  rw [State.issue, if_pos hm]
  change P (if ((s.turnTaken e t).thread e t).trapDue then _ else _)
  rwa [hdue']

theorem ignores_of_issue {c : Instr} {act : State → State} (hc : exec c s = .next (s.issue e t act)) (hm : s.mayIssue e t = false) :
    Ignores c s := by
  rw [Ignores, hc, State.issue, hm]
  rfl

/-- An instruction that names a pending register stalls its thread. -/
theorem State.stands_withRegs_pending {uses : List Dest} (act : State → State) (h : uses.any (fun d => s.regPending e t d) = true) :
    s.Stands e t (s.thread e t) (s.pc e t) 3 ((s.turnTaken e t).withRegs e t uses act) := by
  have hany : uses.any (fun d => (s.turnTaken e t).regPending e t d) = true := h
  rw [State.withRegs, hany]
  exact State.stands_turnTaken.setTstate (by decide)

end

end Sys2Proof.Machine


/-! O34: the event and state instructions (11 R327 to R329, R323, 10 R279, R281 to R296). -/
namespace Sys2Proof.Machine

section
variable {s u : State} {e : Fin 8} {t : Fin 4} {x : Thread} {pc ts : Nat}

theorem State.Stands.frame (h : s.Stands e t x pc ts u) :
    (∀ (e' : Fin 8) (t' : Fin 4), (e' ≠ e ∨ t' ≠ t) → u.thread e' t' = s.thread e' t') ∧
      u = { s with regs := u.regs, eng := { s.eng with thr := u.eng.thr, lastThr := u.eng.lastThr } } := by
  obtain ⟨-, -, -, hothers, -, hframe⟩ := h
  exact ⟨hothers, hframe⟩

theorem Thread.trapped_of_not_due (h : x.trapDue = false) : x.trapped pc =
    { x with fs := { code := 1, sticky := Nat.lor x.fs.sticky 1, inTrap := true, trapPc := pc }, v1 := false } := by
  simp only [Thread.trapped, ← h]

theorem Thread.marked_of_not_due (h : x.trapDue = false) : x.marked = { x with fs := { x.fs with sticky := Nat.lor x.fs.sticky 1 } } := by
  simp only [Thread.marked, ← h]

/-! ### WAITE (R282, R327) -/

/-- The thread as it waits. -/
def Thread.waits (x : Thread) (m rd : Nat) : Thread := { x with mask := m, wrd := x.no rd }

/-- The thread with the events that WAITE found. -/
def Thread.gets (x : Thread) (rd m : Nat) : Thread := { x.wr rd (BitVec.ofNat 64 m) with lastEv := x.lowestAt m }

/-- The pending events of the mask. -/
def State.masked (s : State) (e t ra : Nat) : Nat :=
  Nat.land (s.fld (R.ENG_THR_STATE_W1_PENDING e t)) (eventMask (s.thread e t) ra)

/-- WAITE in the slot of its thread. -/
theorem does_waite (hm : s.mayIssue e t = true) (ht : (s.thread e t).trapDue = false) {rd ra : Fin 32} {P : State → Prop}
    (hfree : ∀ d ∈ [(s.thread e t).dest rd, (s.thread e t).dest ra], s.regPending e t d = false)
    (hP : P ((s.turnTaken e t).waiteGo e t rd ra (s.thread e t))) : Does (.waite e t rd ra) s P :=
  does_of_withRegs (go := fun u => u.waiteGo e t rd ra (s.thread e t)) hm ht hfree rfl rfl hP

variable (h4 : s.pc e t % 4 = 0)
include h4

theorem State.stands_waiteGo_halt {rd ra : Nat} (h0 : eventMask (s.thread e t) ra = 0) :
    s.Stands e t { (s.thread e t).wr rd 0 with v1 := false } ((s.pc e t + 4) % 2 ^ 18) 0
      ((s.turnTaken e t).waiteGo e t rd ra (s.thread e t)) := by
  rw [State.waiteGo, if_pos h0]
  exact (State.stands_turnTaken.retireIns h4 _).setTstate (by decide)

theorem State.stands_waiteGo_ready {rd ra : Nat} (hp : s.masked e t ra ≠ 0) :
    s.Stands e t ((s.thread e t).gets rd (s.masked e t ra)) ((s.pc e t + 4) % 2 ^ 18) (s.tstate e t)
      ((s.turnTaken e t).waiteGo e t rd ra (s.thread e t)) := by
  have hm0 : eventMask (s.thread e t) ra ≠ 0 := fun h => hp (by rw [State.masked, h]; exact Nat.and_zero _)
  rw [State.waiteGo, if_neg hm0]
  exact (if_pos hp : ite _ _ _ = _) ▸ State.stands_turnTaken.retireIns h4 _

/-- The state in which the thread waits behind the WAITE. -/
def State.waitsNow (s : State) (e t rd ra : Nat) : State :=
  ((s.turnTaken e t).retireIns e t ((s.thread e t).waits (eventMask (s.thread e t) ra) rd)).setTstate e t 2

theorem State.stands_waitsNow (rd ra : Nat) : s.Stands e t ((s.thread e t).waits (eventMask (s.thread e t) ra) rd)
    ((s.pc e t + 4) % 2 ^ 18) 2 (s.waitsNow e t rd ra) :=
  (State.stands_turnTaken.retireIns h4 _).setTstate (by decide)

theorem State.engState_waitsNow (rd ra : Nat) : (s.waitsNow e t rd ra).engState e = s.engState e := by
  have hstands := State.stands_waitsNow h4 rd ra
  obtain ⟨-, -, -, -, hfields, -⟩ := hstands
  refine hfields _ ?_
  simp only [List.forall_mem_cons, Fld.key, R.ENG_STATE_STATE, R.ENG_THR_STATE_W0_PC, R.ENG_THR_STATE_W0_TSTATE]
  exact ⟨by omega, by omega, by simp⟩

theorem State.waiteGo_wait {rd ra : Nat} (h0 : eventMask (s.thread e t) ra ≠ 0) (hp : s.masked e t ra = 0) :
    (s.turnTaken e t).waiteGo e t rd ra (s.thread e t) =
      if s.engState e = 3 then (s.waitsNow e t rd ra).fencedTrap e t (s.pc e t) else s.waitsNow e t rd ra := by
  rw [State.waiteGo, if_neg h0, ← State.engState_waitsNow h4 rd ra]
  exact if_neg (not_not.2 hp)

end

/-! ### EVACK (R327) -/

/-- A number without a bit that it has. -/
theorem testBit_sub_two_pow {v k : Nat} (h : v.testBit k = true) (j : Nat) :
    (v - 2 ^ k).testBit j = (v.testBit j && decide (j ≠ k)) := by
  have hk : v / 2 ^ k % 2 = 1 := by simpa [Nat.testBit_eq_decide_div_mod_eq] using h
  have hb : v % 2 ^ k < 2 ^ k := Nat.mod_lt _ (Nat.two_pow_pos k)
  have hv : v = 2 ^ (k + 1) * (v / 2 ^ k / 2) + (2 ^ k + v % 2 ^ k) := by
    have h2 := Nat.div_add_mod (v / 2 ^ k) 2
    have h1 := Nat.div_add_mod v (2 ^ k)
    rw [hk] at h2
    rw [← h2] at h1
    rw [Nat.pow_succ]
    linarith
  generalize v / 2 ^ k / 2 = a at hv
  generalize v % 2 ^ k = b at hv hb
  have hsub : v - 2 ^ k = 2 ^ (k + 1) * a + b := by omega
  rw [hsub, hv, Nat.testBit_two_pow_mul_add a (by rw [Nat.pow_succ]; omega), Nat.testBit_two_pow_mul_add a (by rw [Nat.pow_succ]; omega)]
  rcases Nat.lt_trichotomy j k with hj | rfl | hj
  · rw [if_pos (by omega), if_pos (by omega), Nat.testBit_two_pow_add_gt hj]
    simp [Nat.ne_of_lt hj]
  · rw [if_pos (Nat.lt_succ_self _), if_pos (Nat.lt_succ_self _), Nat.testBit_lt_two_pow hb]
    simp
  · rw [if_neg (by omega), if_neg (by omega)]
    simp [Nat.ne_of_gt hj]

/-- Only the pending events of the thread may differ. -/
def State.SamePending (s : State) (e : Fin 8) (t : Fin 4) (u : State) : Prop :=
  FieldsKept s u [R.ENG_THR_STATE_W1_PENDING e t] ∧ u = { s with regs := u.regs }

section
variable {s u : State} {e : Fin 8} {t : Fin 4}

theorem State.SamePending.ringCond (h : s.SamePending e t u) {r : Nat} (hr : r < 128) (c : Bool) : u.ringCond r c = s.ringCond r c := by
  have hring {f : Fld} (hf : f.key / 0x200000 = 0x50C) : u.fld f = s.fld f := by
    refine h.1 f fun g hg => ?_
    rw [List.mem_singleton.1 hg]
    simp only [Fld.key, R.ENG_THR_STATE_W1_PENDING] at hf ⊢
    omega
  have hcount : u.ringCount r = s.ringCount r := by
    rw [State.ringCount, State.ringCount, State.ringHead, State.ringHead, State.ringTail, State.ringTail,
      hring (f := R.RING_HEAD_INDEX r) (by simp only [Fld.key, R.RING_HEAD_INDEX]; omega),
      hring (f := R.RING_TAIL_INDEX r) (by simp only [Fld.key, R.RING_TAIL_INDEX]; omega)]
  have hroom : u.ringRoom r = s.ringRoom r := by
    rw [State.ringRoom, State.ringRoom, State.ringFree, State.ringFree, hcount, State.ringN, State.ringN, State.ringOn, State.ringOn,
      State.flag, State.flag, State.flag, State.flag, hring (f := R.RING_CFG_LOG2N r) (by simp only [Fld.key, R.RING_CFG_LOG2N]; omega),
      hring (f := R.RING_CFG_EN r) (by simp only [Fld.key, R.RING_CFG_EN]; omega),
      hring (f := R.RING_CFG_STOP r) (by simp only [Fld.key, R.RING_CFG_STOP]; omega)]
  have hlevel : u.fld (ringLevel r c) = s.fld (ringLevel r c) := by
    cases c
    · exact hring (f := R.RING_CONS_LEVEL r) (by simp only [Fld.key, R.RING_CONS_LEVEL]; omega)
    · exact hring (f := R.RING_PROD_LEVEL r) (by simp only [Fld.key, R.RING_PROD_LEVEL]; omega)
  rw [State.ringCond, State.ringCond, hlevel, hroom, hcount]

theorem State.SamePending.holder (h : s.SamePending e t u) {r : Nat} (hr : r < 0x3E) : u.holder r = s.holder r := by
  have hf : u.fld (R.ENG_ROLE_HOLDER r) = s.fld (R.ENG_ROLE_HOLDER r) := by
    refine h.1 _ fun g hg => ?_
    rw [List.mem_singleton.1 hg]
    simp only [Fld.key, R.ENG_THR_STATE_W1_PENDING, R.ENG_ROLE_HOLDER]
    omega
  rw [State.holder, State.holder, hf]

theorem ring_lt_of_mem_sides {x : Nat × Bool} (hx : x ∈ (List.range 128).flatMap (fun r => [(r, true), (r, false)])) : x.1 < 128 := by
  obtain ⟨r, hr, hxr⟩ := List.mem_flatMap.1 hx
  rcases List.mem_cons.1 hxr with rfl | hxr
  · exact List.mem_range.1 hr
  · exact (List.mem_singleton.1 hxr) ▸ List.mem_range.1 hr

/-- The condition of a RING_k event does not read the pending events. -/
theorem State.SamePending.ringHolds (h : s.SamePending e t u) (k : Nat) : u.ringHolds e t k = s.ringHolds e t k := by
  have hside (r : Nat) (_ : r < 128) (c : Bool) :
      u.fld (ringRole r c) = s.fld (ringRole r c) ∧ u.fld (ringThr r c) = s.fld (ringThr r c) ∧ u.fld (ringBit r c) = s.fld (ringBit r c) := by
    have hring (f : Fld) (hf : f.key / 0x200000 = 0x50C) : u.fld f = s.fld f := by
      refine h.1 f fun g hg => ?_
      rw [List.mem_singleton.1 hg]
      simp only [Fld.key, R.ENG_THR_STATE_W1_PENDING] at hf ⊢
      omega
    cases c
    · exact ⟨hring (R.RING_CONS_ROLE r) (by simp only [Fld.key, R.RING_CONS_ROLE]; omega),
        hring (R.RING_CONS_THR r) (by simp only [Fld.key, R.RING_CONS_THR]; omega),
        hring (R.RING_CONS_BIT r) (by simp only [Fld.key, R.RING_CONS_BIT]; omega)⟩
    · exact ⟨hring (R.RING_PROD_ROLE r) (by simp only [Fld.key, R.RING_PROD_ROLE]; omega),
        hring (R.RING_PROD_THR r) (by simp only [Fld.key, R.RING_PROD_THR]; omega),
        hring (R.RING_PROD_BIT r) (by simp only [Fld.key, R.RING_PROD_BIT]; omega)⟩
  have hnames : u.namers e t k = s.namers e t k := by
    refine List.filter_congr fun x hx => ?_
    obtain ⟨hrole, hthr, hbit⟩ := hside x.1 (ring_lt_of_mem_sides hx) x.2
    rw [hrole, hthr, hbit]
    by_cases hlow : s.fld (ringRole x.1 x.2) < 0x3E
    · rw [h.holder hlow]
    · simp only [hlow, decide_false, Bool.false_and]
  rw [State.ringHolds, State.ringHolds, hnames, Bool.eq_iff_iff, List.any_eq_true, List.any_eq_true]
  refine exists_congr fun x => and_congr_right fun hx => ?_
  rw [h.ringCond (ring_lt_of_mem_sides (List.mem_of_mem_filter hx))]

/-- EVACK of a mask clears event k when it clears it at all. -/
def State.clears (s : State) (e t m k : Nat) : Bool := m.testBit k && !(decide (k < 16) && s.ringHolds e t k)

theorem State.SamePending.evackBit (h : s.SamePending e t u) (m k : Nat) :
    s.SamePending e t (u.evackBit e t m k) ∧ ∀ j < 32, ((u.evackBit e t m k).fld (R.ENG_THR_STATE_W1_PENDING e t)).testBit j =
      ((u.fld (R.ENG_THR_STATE_W1_PENDING e t)).testBit j && !(decide (j = k) && s.clears e t m k)) := by
  have hclears : (m.testBit k = true ∧ ¬ (k < 16 ∧ u.ringHolds e t k = true)) ↔ s.clears e t m k = true := by
    rw [State.clears, h.ringHolds]
    cases s.ringHolds e t k <;> simp
  rw [State.evackBit, State.dropEvent]
  by_cases hc : s.clears e t m k = true
  · rw [if_pos (hclears.2 hc)]
    split
    · next hbit =>
      refine ⟨⟨h.1.setFld _ (List.mem_singleton_self _), by rw [h.2]; rfl⟩, fun j hj => ?_⟩
      rw [State.fld_setFld_same]
      change ((_ : Nat) % 2 ^ 32).testBit j = _
      rw [Nat.testBit_mod_two_pow, testBit_sub_two_pow hbit, hc]
      simp [hj]
    · next hbit =>
      refine ⟨h, fun j _ => ?_⟩
      by_cases hjk : j = k
      · subst hjk
        simp [hbit]
      · simp [hjk]
  · rw [if_neg (mt hclears.1 hc)]
    exact ⟨h, fun j _ => by simp [hc]⟩

theorem State.SamePending.evackBits (m : Nat) (l : List Nat) (h : s.SamePending e t u) :
    s.SamePending e t (l.foldl (fun s k => s.evackBit e t m k) u) ∧ ∀ j < 32,
      ((l.foldl (fun s k => s.evackBit e t m k) u).fld (R.ENG_THR_STATE_W1_PENDING e t)).testBit j =
        ((u.fld (R.ENG_THR_STATE_W1_PENDING e t)).testBit j && !(decide (j ∈ l) && s.clears e t m j)) := by
  induction l generalizing u with
  | nil => exact ⟨h, fun j _ => by simp⟩
  | cons k l ih =>
    obtain ⟨hk, hbits⟩ := h.evackBit m k
    obtain ⟨hl, hall⟩ := ih hk
    refine ⟨hl, fun j hj => ?_⟩
    rw [List.foldl_cons, hall j hj, hbits j hj]
    by_cases hjk : j = k
    · subst hjk
      cases s.clears e t m j <;> simp
    · simp [hjk]

/-- The thread moves on, its pending events less those that EVACK clears, and nothing else changed. -/
def State.Acked (s : State) (e : Fin 8) (t : Fin 4) (m : Nat) (u : State) : Prop :=
  (∀ k < 32, (u.fld (R.ENG_THR_STATE_W1_PENDING e t)).testBit k =
    ((s.fld (R.ENG_THR_STATE_W1_PENDING e t)).testBit k && !s.clears e t m k)) ∧
  u.thread e t = s.thread e t ∧ u.pc e t = (s.pc e t + 4) % 2 ^ 18 ∧ u.tstate e t = s.tstate e t ∧
  FieldsKept s u [R.ENG_THR_STATE_W0_PC e t, R.ENG_THR_STATE_W1_PENDING e t] ∧
  (∀ (e' : Fin 8) (t' : Fin 4), (e' ≠ e ∨ t' ≠ t) → u.thread e' t' = s.thread e' t') ∧
  u = { s with regs := u.regs, eng := { s.eng with thr := u.eng.thr, lastThr := u.eng.lastThr } }

/-- EVACK clears the pending events of its mask, but the RING_k events whose condition holds. -/
theorem State.evack_spec (m : Nat) (h4 : s.pc e t % 4 = 0) :
    s.Acked e t m (((List.range 32).foldl (fun s k => s.evackBit e t m k) (s.turnTaken e t)).stepPc e t) := by
  have hstart : (s.turnTaken e t).SamePending e t (s.turnTaken e t) := ⟨FieldsKept.refl _ _, rfl⟩
  obtain ⟨⟨hfields, hframe⟩, hbits⟩ := hstart.evackBits m (List.range 32)
  generalize (List.range 32).foldl (fun s k => s.evackBit e t m k) (s.turnTaken e t) = w at hfields hframe hbits
  have hlocal : ∀ g ∈ [R.ENG_THR_STATE_W1_PENDING e t], (R.ENG_THR_STATE_W0_PC e t).key ≠ g.key ∧ (R.ENG_THR_STATE_W0_TSTATE e t).key ≠ g.key := by
    simp only [List.mem_singleton, forall_eq, Fld.key, R.ENG_THR_STATE_W0_PC, R.ENG_THR_STATE_W0_TSTATE, R.ENG_THR_STATE_W1_PENDING]
    omega
  have hstands : w.Stands e t (w.thread e t) (w.pc e t) (w.tstate e t) w := ⟨rfl, rfl, rfl, fun _ _ _ => rfl, FieldsKept.refl _ _, rfl⟩
  have hpc : w.pc e t = s.pc e t := hfields _ fun g hg => (hlocal g hg).1
  have hts : w.tstate e t = s.tstate e t := hfields _ fun g hg => (hlocal g hg).2
  have hthr (e' t' : Nat) : w.thread e' t' = s.thread e' t' := by
    rw [hframe]
    rfl
  have hmoved := hstands.stepPc (hpc ▸ h4)
  rw [hpc] at hmoved
  have hkept := hmoved.keeps_tstate
  obtain ⟨hx, hpcu, htsu, hothers, -, hframeu⟩ := hmoved
  refine ⟨fun k hk => ?_, hx.trans (hthr _ _), hpcu, htsu.trans hts, ?_, fun e' t' h => (hothers e' t' h).trans (hthr _ _), ?_⟩
  · have hne : ∀ g ∈ [R.ENG_THR_STATE_W0_PC e t], (R.ENG_THR_STATE_W1_PENDING e t).key ≠ g.key := by
      simp only [List.mem_singleton, forall_eq, Fld.key, R.ENG_THR_STATE_W0_PC, R.ENG_THR_STATE_W1_PENDING]
      omega
    rw [hkept _ hne, hbits k hk, decide_eq_true (List.mem_range.2 hk), Bool.true_and]
    rfl
  · exact (FieldsKept.mono hfields (by simp)).trans (hkept.mono (by simp))
  · rw [hframeu, hframe]
    rfl

end

/-! ### The instructions one by one -/

theorem Thread.rd_of_velmos2 {x : Thread} (h : x.v1 = false) (r : Nat) : x.rd r = x.gpr r := by
  rw [Thread.rd, Thread.no, h]
  rfl

/-- The thread after STAMP. -/
def State.stampThread (s : State) (x : Thread) (td rb : Nat) : Thread :=
  if x.v1 then x.setTreg td (BitVec.ofNat 96 (encodeHub s.tb.now))
  else (x.setTreg td (BitVec.ofNat 96 (encodeHub s.tb.now))).wr rb (BitVec.ofNat 64 (s.stampLatency x))

theorem State.thread_turnTaken (s : State) (e t : Nat) : (s.turnTaken e t).thread = s.thread := rfl

theorem State.stamp_eq (s : State) (e t td rb : Nat) :
    s.stamp e t td rb = s.withRegs e t ([.t td] ++ if (s.thread e t).v1 then [] else [(s.thread e t).dest rb]) (fun u =>
      u.retireIns e t (u.stampThread (s.thread e t) td rb)) := by
  simp only [State.stamp, State.stampThread]

theorem Thread.setTreg_v1 (x : Thread) (td : Nat) (v : BitVec 96) : (x.setTreg td v).v1 = x.v1 := rfl

theorem State.stampThread_velmos1 {s : State} {x : Thread} (h : x.v1 = true) (td rb : Nat) :
    s.stampThread x td rb = x.setTreg td (BitVec.ofNat 96 (encodeHub s.tb.now)) := if_pos h

theorem State.stampThread_velmos2 {s : State} {x : Thread} (h : x.v1 = false) (td rb : Nat) :
    s.stampThread x td rb =
      (x.setTreg td (BitVec.ofNat 96 (encodeHub s.tb.now))).setGpr rb (BitVec.ofNat 64 (s.stampLatency x)) := by
  have hgo : s.stampThread x td rb =
      (x.setTreg td (BitVec.ofNat 96 (encodeHub s.tb.now))).wr rb (BitVec.ofNat 64 (s.stampLatency x)) :=
    if_neg (by rw [h]; exact Bool.false_ne_true)
  rw [hgo, Thread.wr_of_velmos2]
  rw [Thread.setTreg_v1, h]

theorem State.stampLatency_eq (s : State) (x : Thread) : s.stampLatency x =
    match x.lastEv with
    | some at_ => min 65535 ((s.tb.elapsed - at_) / 65536)
    | none => 0xFFFF := by
  rw [State.stampLatency]
  cases x.lastEv <;> rfl

theorem State.unlessV1_of_velmos2 {s : State} {e t : Nat} (h : (s.thread e t).v1 = false) (act : State → State) :
    s.unlessV1 e t act = act s := by
  rw [State.unlessV1, h]
  rfl

section
variable {s u : State} {e : Fin 8} {t : Fin 4} {x : Thread} {pc : Nat}

/-- A thread that only moved on: its thread state is no exception. -/
theorem State.Stands.moves (h : s.Stands e t x pc (s.tstate e t) u) :
    u.thread e t = x ∧ u.pc e t = pc ∧ FieldsKept s u [R.ENG_THR_STATE_W0_PC e t] ∧
      (∀ (e' : Fin 8) (t' : Fin 4), (e' ≠ e ∨ t' ≠ t) → u.thread e' t' = s.thread e' t') ∧
      u = { s with regs := u.regs, eng := { s.eng with thr := u.eng.thr, lastThr := u.eng.lastThr } } := by
  have hkept := h.keeps_tstate
  obtain ⟨hx, hpc, -, hothers, -, hframe⟩ := h
  exact ⟨hx, hpc, hkept, hothers, hframe⟩

theorem State.Stands.traps {ts : Nat} (h : s.Stands e t x pc ts u) :
    u.thread e t = x ∧ u.pc e t = pc ∧ u.tstate e t = ts ∧
      FieldsKept s u [R.ENG_THR_STATE_W0_PC e t, R.ENG_THR_STATE_W0_TSTATE e t] ∧
      (∀ (e' : Fin 8) (t' : Fin 4), (e' ≠ e ∨ t' ≠ t) → u.thread e' t' = s.thread e' t') ∧
      u = { s with regs := u.regs, eng := { s.eng with thr := u.eng.thr, lastThr := u.eng.lastThr } } := by
  obtain ⟨hx, hpc, hts, hothers, hfields, hframe⟩ := h
  exact ⟨hx, hpc, hts, hfields, hothers, hframe⟩

variable (hm : s.mayIssue e t = true) (ht : (s.thread e t).trapDue = false) (h4 : s.pc e t % 4 = 0)
include hm ht h4

/-- WAITE without a pending masked event. -/
theorem does_waite_wait {rd ra : Fin 32} {P : State → Prop}
    (hfree : ∀ d ∈ [(s.thread e t).dest rd, (s.thread e t).dest ra], s.regPending e t d = false)
    (h0 : eventMask (s.thread e t) ra ≠ 0) (hp : s.masked e t ra = 0)
    (hP : P (if s.engState e = 3 then (s.waitsNow e t rd ra).fencedTrap e t (s.pc e t) else s.waitsNow e t rd ra)) :
    Does (.waite e t rd ra) s P :=
  does_waite hm ht hfree (by rwa [State.waiteGo_wait h4 h0 hp])

omit hm ht h4 in
theorem State.evack_eq (s : State) (e t ra : Nat) : s.evack e t ra = s.withRegs e t [(s.thread e t).dest ra] (fun u =>
    ((List.range 32).foldl (fun v k => v.evackBit e t (eventMask (s.thread e t) ra) k) u).stepPc e t) := rfl

theorem does_evack {ra : Fin 32} (hfree : ∀ d ∈ [(s.thread e t).dest ra], s.regPending e t d = false) :
    Does (.evack e t ra) s (s.Acked e t (eventMask (s.thread e t) ra)) := by
  have hspec := State.evack_spec (eventMask (s.thread e t) ra) h4
  refine does_of_issue (act := fun u => u.evack e t ra) rfl hm ht ?_
  rw [State.evack_eq]
  refine (State.withRegs_turnTaken (s := s) (uses := [(s.thread e t).dest ra]) _ hfree).symm ▸ ?_
  exact hspec

/-- An instruction that only retires its thread. -/
theorem does_moves {c : Instr} {act : State → State} {uses : List Dest} {P : State → Prop}
    (hfree : ∀ d ∈ uses, s.regPending e t d = false) (hc : exec c s = .next (s.issue e t act))
    (hact : act (s.turnTaken e t) = (s.turnTaken e t).withRegs e t uses (fun u => u.retireIns e t x))
    (hP : ∀ u, s.Stands e t x ((s.pc e t + 4) % 2 ^ 18) (s.tstate e t) u → P u) : Does c s P :=
  does_of_withRegs hm ht hfree hc hact (hP _ (State.stands_turnTaken.retireIns h4 x))

omit h4 in
/-- BEAT of a fenced engine completes FENCED at issue. -/
theorem does_beat_fenced (hst : s.engState e = 3) : Does (.beat e t) s fun u => u = (s.turnTaken e t).issueFenced e t .none :=
  does_of_issue rfl hm ht (if_pos hst)

/-- BEAT of an engine that is not fenced restarts its timer. -/
theorem does_beat_running (hst : s.engState e ≠ 3) : Does (.beat e t) s fun u =>
    Tab.get (fun _ => 0) u.eng.beatAt e = s.tb.elapsed ∧ u.thread e t = s.thread e t ∧ u.pc e t = (s.pc e t + 4) % 2 ^ 18 ∧
      FieldsKept s u [R.ENG_THR_STATE_W0_PC e t] ∧ MemKept s u := by
  refine does_of_issue rfl hm ht ?_
  have hgo : (s.turnTaken e t).beatIns e t = ((s.turnTaken e t).beat e).stepPc e t := if_neg hst
  have hstart : State.Stands ((s.turnTaken e t).beat e) e t (s.thread e t) (s.pc e t) (s.tstate e t) ((s.turnTaken e t).beat e) :=
    ⟨rfl, rfl, rfl, fun _ _ _ => rfl, FieldsKept.refl _ _, rfl⟩
  have hend := hstart.stepPc h4
  have hbeat : Tab.get (fun _ => 0) ((s.turnTaken e t).beat e).eng.beatAt e = s.tb.elapsed := Tab.get_set_same _ _ _ _
  rw [hgo]
  obtain ⟨hx, hpc, -⟩ := hend.moves
  refine ⟨hbeat, hx, hpc, hend.keeps_tstate, hend.memKept⟩

omit h4 in
/-- EPOCH of a role that the engine holds takes its token. -/
theorem does_epoch_held {r : Fin 64} (hv : (s.thread e t).v1 = false) (hh : s.holder r = some e.val) :
    Does (.epoch e t r) s fun u => u = (s.turnTaken e t).retireIns e t { s.thread e t with ep := s.token r } :=
  does_of_issue rfl hm ht (by
    rw [State.epochIns, State.unlessV1_of_velmos2 (s := s.turnTaken e t) hv]
    exact if_pos hh)

omit h4 in
/-- EPOCH of another role completes FENCED at issue. -/
theorem does_epoch_not_held {r : Fin 64} (hv : (s.thread e t).v1 = false) (hh : s.holder r ≠ some e.val) :
    Does (.epoch e t r) s fun u => u = (s.turnTaken e t).issueFenced e t .none :=
  does_of_issue rfl hm ht (by
    rw [State.epochIns, State.unlessV1_of_velmos2 (s := s.turnTaken e t) hv]
    exact if_neg hh)

omit h4 in
theorem does_fence_stall (hfl : s.flightsOf e t ≠ []) : Does (.fence e t) s fun u => u = (s.turnTaken e t).setTstate e t 3 :=
  does_of_issue rfl hm ht (if_neg hfl)

omit h4 in
theorem does_fence_go (hfl : s.flightsOf e t = []) : Does (.fence e t) s fun u => u = (s.turnTaken e t).stepPc e t :=
  does_of_issue rfl hm ht (if_pos hfl)

theorem does_rdsr {rd : Fin 32} {sel : Fin 3} (hfree : ∀ d ∈ [(s.thread e t).dest rd], s.regPending e t d = false)
    (hv : (s.thread e t).v1 = true → sel = 0) : Does (.rdsr e t rd sel) s (s.Stands e t
      ((s.thread e t).wr rd (BitVec.ofNat 64 (rdsrOf e t (s.thread e t) sel))) ((s.pc e t + 4) % 2 ^ 18) (s.tstate e t)) := by
  have hsel : ¬ ((s.thread e t).v1 = true ∧ sel.val ≠ 0) := fun h => h.2 (by rw [hv h.1]; rfl)
  exact does_moves hm ht h4 hfree rfl (if_neg hsel) fun _ => id

theorem does_wrfs {ra : Fin 32} (hfree : ∀ d ∈ [(s.thread e t).dest ra], s.regPending e t d = false)
    (hv : (s.thread e t).v1 = false) : Does (.wrfs e t ra) s (s.Stands e t
      { s.thread e t with fs := { (s.thread e t).fs with
          code := ((s.thread e t).gpr ra).toNat % 256
          sticky := ((s.thread e t).gpr ra).toNat / 256 % 32
          inTrap := ((s.thread e t).gpr ra).toNat.testBit 16 } } ((s.pc e t + 4) % 2 ^ 18) (s.tstate e t)) :=
  does_moves hm ht h4 hfree rfl (Thread.rd_of_velmos2 hv ra ▸ State.unlessV1_of_velmos2 (s := s.turnTaken e t) hv _) fun _ => id

theorem does_stamp {td : Fin 8} {rb : Fin 32} {P : State → Prop}
    (hfree : ∀ d ∈ [.t td.val] ++ (if (s.thread e t).v1 then [] else [(s.thread e t).dest rb]), s.regPending e t d = false)
    (hP : ∀ u, s.Stands e t (s.stampThread (s.thread e t) td rb) ((s.pc e t + 4) % 2 ^ 18) (s.tstate e t) u → P u) :
    Does (.stamp e t td rb) s P :=
  does_of_issue (act := fun u => u.stamp e t td rb) rfl hm ht (by
    rw [State.stamp_eq, State.thread_turnTaken, State.withRegs_turnTaken (s := s) _ hfree]
    exact hP _ (State.stands_turnTaken.retireIns h4 _))

end

theorem rdsrOf_eq (e : Fin 8) (t : Fin 4) (x : Thread) (sel : Fin 3) : rdsrOf e t x sel =
    if sel = 0 then x.fs.code + 2 ^ 8 * x.fs.sticky + (if x.fs.inTrap then 2 ^ 16 else 0) + 2 ^ 32 * x.fs.trapPc
    else if sel = 1 then x.ep.toNat else e.val + 16 * t.val := by
  fin_cases sel <;> rfl

/-- Settles O34: every instruction in the issue slot of its thread, by the state of the thread and of its engine. -/
theorem eventInstructions : Obligations.EventInstructions := by
  unfold Obligations.EventInstructions
  intro runs others next pend mask moved trap marked
  refine ⟨?halt, ?ready, ?wait, ?waitFenced, ?evack, ?beat, ?beatTrap, ?beatMark, ?fenceGo, ?fenceStall, ?rdsr, ?wrfs, ?epoch, ?epochTrap,
    ?epochMark, ?stamp1, ?stamp2⟩
  case halt =>
    rintro s e t rd ra ⟨hm, ht, h4, -, hfree⟩ h0
    have hs := State.stands_waiteGo_halt (rd := rd) h4 h0
    refine does_waite hm ht hfree ?_
    obtain ⟨hx, hpc, hts, hothers, hfields, hframe⟩ := hs
    exact ⟨hts, hx, hpc, hfields, hothers, hframe⟩
  case ready =>
    rintro s e t rd ra ⟨hm, ht, h4, -, hfree⟩ hp
    exact does_waite hm ht hfree (State.stands_waiteGo_ready (rd := rd) h4 hp).moves
  case wait =>
    rintro s e t rd ra ⟨hm, ht, h4, -, hfree⟩ h0 hp hst
    refine does_waite_wait hm ht h4 hfree h0 hp ?_
    rw [if_neg hst]
    obtain ⟨hx, hpc, hts, hothers, hfields, hframe⟩ := State.stands_waitsNow h4 rd.val ra.val
    exact ⟨hts, hpc, hx, hfields, hothers, hframe⟩
  case waitFenced =>
    rintro s e t rd ra ⟨hm, ht, h4, -, hfree⟩ h0 hp hst
    refine does_waite_wait hm ht h4 hfree h0 hp ?_
    rw [if_pos hst]
    have hwaits := State.stands_waitsNow h4 rd.val ra.val
    have hdue : ((s.thread e t).waits (mask s e t ra) rd).trapDue = false := ht
    by_cases hin : (s.thread e t).fs.inTrap = true
    · obtain ⟨hx, hpc, hts, hothers, hfields, hframe⟩ := hwaits.fencedTrap_in hin (s.pc e t)
      refine ⟨hfields, ⟨hothers, hframe⟩, ?_⟩
      rw [if_pos hin]
      exact ⟨hx.trans (Thread.marked_of_not_due hdue), hts, hpc⟩
    · obtain ⟨hx, hpc, hts, hothers, hfields, hframe⟩ := hwaits.fencedTrap (Bool.eq_false_iff.2 hin) (s.pc e t)
      refine ⟨hfields, ⟨hothers, hframe⟩, ?_⟩
      rw [if_neg hin]
      exact ⟨hx.trans (Thread.trapped_of_not_due hdue), hts, hpc⟩
  case evack =>
    rintro s e t ra ⟨hm, ht, h4, -, hfree⟩
    refine (does_evack hm ht h4 hfree).mono fun u hu => ?_
    obtain ⟨hbits, hx, hpc, -, hfields, hothers, hframe⟩ := hu
    exact ⟨fun k hk => hbits k (List.mem_range.1 hk), hx, hpc, hfields, hothers, hframe⟩
  case beat =>
    rintro s e t ⟨hm, ht, h4, -, -⟩ hst
    exact does_beat_running hm ht h4 hst
  case beatTrap =>
    rintro s e t ⟨hm, ht, h4, -, -⟩ hst hin
    exact (does_beat_fenced hm ht hst).mono fun u hu => hu ▸ (State.stands_turnTaken.issueFenced hin).traps
  case beatMark =>
    rintro s e t ⟨hm, ht, h4, -, -⟩ hst hin
    refine (does_beat_fenced hm ht hst).mono fun u hu => ?_
    obtain ⟨hx, hrest⟩ := (State.stands_turnTaken.issueFenced_in h4 hin).moves
    exact hu ▸ ⟨hx.trans (Thread.marked_of_not_due ht), hrest⟩
  case fenceGo =>
    rintro s e t ⟨hm, ht, h4, -, -⟩ hfl
    exact (does_fence_go hm ht hfl).mono fun u hu => hu ▸ (State.stands_turnTaken.stepPc h4).moves
  case fenceStall =>
    rintro s e t ⟨hm, ht, h4, -, -⟩ hfl
    refine (does_fence_stall hm ht hfl).mono fun u hu => ?_
    have hstall : s.Stands e t _ _ 3 u := hu ▸ State.stands_turnTaken.setTstate (by decide)
    obtain ⟨hx, hpc, hts, hothers, -, hframe⟩ := hstall
    exact ⟨hts, hpc, hx, hu ▸ FieldsKept.setFld (fun _ _ => rfl) _ (List.mem_singleton_self _), hothers, hframe⟩
  case rdsr =>
    rintro s e t rd sel ⟨hm, ht, h4, -, hfree⟩ hv fs
    exact (does_rdsr hm ht h4 hfree hv).mono fun u hu => rdsrOf_eq e t (s.thread e t) sel ▸ hu.moves
  case wrfs =>
    rintro s e t ra ⟨hm, ht, h4, -, hfree⟩ hv v
    exact (does_wrfs hm ht h4 hfree hv).mono fun u hu => hu.moves
  case epoch =>
    rintro s e t r ⟨hm, ht, h4, -, -⟩ hv hh
    exact (does_epoch_held hm ht hv hh).mono fun u hu => hu ▸ (State.stands_turnTaken.retireIns h4 _).moves
  case epochTrap =>
    rintro s e t r ⟨hm, ht, h4, -, -⟩ hv hh hin
    exact (does_epoch_not_held hm ht hv hh).mono fun u hu => hu ▸ (State.stands_turnTaken.issueFenced hin).traps
  case epochMark =>
    rintro s e t r ⟨hm, ht, h4, -, -⟩ hv hh hin
    refine (does_epoch_not_held hm ht hv hh).mono fun u hu => ?_
    obtain ⟨hx, hrest⟩ := (State.stands_turnTaken.issueFenced_in h4 hin).moves
    exact hu ▸ ⟨hx.trans (Thread.marked_of_not_due ht), hrest⟩
  case stamp1 =>
    rintro s e t td rb ⟨hm, ht, h4, -, hfree⟩ hv
    refine does_stamp hm ht h4 (by simpa [hv] using hfree) fun u hu => ?_
    exact (State.stampThread_velmos1 hv td rb ▸ hu).moves
  case stamp2 =>
    rintro s e t td rb ⟨hm, ht, h4, -, hfree⟩ hv
    refine does_stamp hm ht h4 (by simpa [hv] using hfree) fun u hu => ?_
    exact (State.stampLatency_eq s (s.thread e t) ▸ State.stampThread_velmos2 hv td rb ▸ hu).moves

end Sys2Proof.Machine


/-! O29: when a thread issues, stalls and traps (10 R274, R277, R296). -/
namespace Sys2Proof.Machine

/-- The command is one in the issue slot of the thread. -/
def IssuesAt (c : Instr) (e : Fin 8) (t : Fin 4) : Prop := ∃ act : State → State, ∀ s, exec c s = .next (s.issue e t act)

/-- Issued, it stalls at the registers of the list. -/
def NamesAt (c : Instr) (s : State) (e : Fin 8) (t : Fin 4) (uses : List Dest) : Prop :=
  ∃ act go : State → State, exec c s = .next (s.issue e t act) ∧ act (s.turnTaken e t) = (s.turnTaken e t).withRegs e t uses go

/-- Issued, it is an operation that uses the registers of the list. -/
def OperatesAt (c : Instr) (s : State) (e : Fin 8) (t : Fin 4) (uses : List Dest) : Prop :=
  ∃ (act : State → State) (d : Dest) (op : Op) (transit : Bool), exec c s = .next (s.issue e t act) ∧
    act (s.turnTaken e t) = (s.turnTaken e t).operate e t uses d op transit

/-- What a stall leaves of the state (R277). -/
def State.Stalled (s : State) (e : Fin 8) (t : Fin 4) (u : State) : Prop :=
  u.tstate e t = 3 ∧ FieldsKept s u [R.ENG_THR_STATE_W0_TSTATE e t] ∧
    u = { s with regs := u.regs, eng := { s.eng with lastThr := u.eng.lastThr } }

/-- What a trap that was due leaves of the state (R296). -/
def State.TookTrap (s : State) (e : Fin 8) (t : Fin 4) (u : State) : Prop :=
  u.thread e t = (s.thread e t).trapped (s.pc e t) ∧
  u.pc e t = s.fld (R.ENG_FENCE_VEC_VEC e) / 4 * 4 % 2 ^ 18 ∧ u.tstate e t = 1 ∧
  FieldsKept s u [R.ENG_THR_STATE_W0_PC e t, R.ENG_THR_STATE_W0_TSTATE e t] ∧
  u = { s with regs := u.regs, eng := { s.eng with thr := u.eng.thr, lastThr := u.eng.lastThr } }

section
variable {s : State} {e : Fin 8} {t : Fin 4} {c : Instr} {uses : List Dest}

theorem IssuesAt.ignores (h : IssuesAt c e t) (hm : s.mayIssue e t = false) : Ignores c s := by
  obtain ⟨act, hc⟩ := h
  exact ignores_of_issue (hc s) hm

theorem IssuesAt.traps (h : IssuesAt c e t) (hm : s.mayIssue e t = true) (hdue : (s.thread e t).trapDue = true)
    (hin : (s.thread e t).fs.inTrap = false) : Does c s (s.TookTrap e t) := by
  obtain ⟨act, hc⟩ := h
  refine does_trap_of_issue (hc s) hm hdue ?_
  obtain ⟨hx, hpc, hts, hfields, -, hframe⟩ := (State.stands_turnTaken.fencedTrap hin (s.pc e t)).traps
  exact ⟨hx, hpc, hts, hfields, hframe⟩

theorem State.stalled_setTstate : s.Stalled e t ((s.turnTaken e t).setTstate e t 3) :=
  ⟨State.fld_setFld_same _ _ _, FieldsKept.setFld (fun _ _ => rfl) _ (List.mem_singleton_self _), rfl⟩

theorem NamesAt.stalls (h : NamesAt c s e t uses) (hm : s.mayIssue e t = true) (ht : (s.thread e t).trapDue = false)
    (hp : ∃ d ∈ uses, s.regPending e t d = true) : Does c s (s.Stalled e t) := by
  obtain ⟨act, go, hc, hact⟩ := h
  refine does_of_issue hc hm ht ?_
  have hany : uses.any (fun d => (s.turnTaken e t).regPending e t d) = true := List.any_eq_true.2 hp
  rw [hact, State.withRegs, hany]
  exact State.stalled_setTstate

/-- An operation that finds no free place stalls its thread. -/
theorem OperatesAt.stalls (h : OperatesAt c s e t uses) (hm : s.mayIssue e t = true) (ht : (s.thread e t).trapDue = false)
    (hfree : ∀ d ∈ uses, s.regPending e t d = false) (hst : s.engState e = 1) (hcur : s.current (s.thread e t).ep = true)
    (hfull : s.scoreFull e t = true) : Does c s (s.Stalled e t) := by
  obtain ⟨act, d, op, transit, hc, hact⟩ := h
  refine does_of_issue hc hm ht ?_
  have hgo : ¬ ((s.turnTaken e t).engState e = 3 ∨ ¬ (s.turnTaken e t).current ((s.turnTaken e t).thread e t).ep = true) := by
    rintro (h3 | h3)
    · exact absurd (hst.symm.trans h3) (by decide)
    · exact h3 hcur
  have hfull' : (s.turnTaken e t).scoreFull e t = true := hfull
  rw [hact, State.operate, State.withRegs_turnTaken (s := s) _ hfree, if_neg hgo, if_pos hfull']
  exact State.stalled_setTstate

end

/-! ### The instructions -/

/-- Instructions of rd, ra and rb. -/
def regs3 (e : Fin 8) (t : Fin 4) (rd ra rb : Fin 32) : List Instr :=
  [.add e t rd ra rb, .sub e t rd ra rb, .and e t rd ra rb, .or e t rd ra rb, .xor e t rd ra rb, .shl e t rd ra rb,
    .shr e t rd ra rb, .sra e t rd ra rb, .mul e t rd ra rb, .mulh e t rd ra rb, .sel e t rd ra rb, .cmpeq e t rd ra rb,
    .cmpne e t rd ra rb, .cmplt e t rd ra rb, .cmpge e t rd ra rb, .cmpltu e t rd ra rb, .cmpgeu e t rd ra rb,
    .devw e t rd ra rb]

/-- Instructions of rd and ra. -/
def regs2 (e : Fin 8) (t : Fin 4) (rd ra : Fin 32) (i : BitVec 16) (n : BitVec 6) (m : BitVec 12) (x : Bool) : List Instr :=
  [.addi e t rd ra i, .andi e t rd ra i, .ori e t rd ra i, .xori e t rd ra i, .shli e t rd ra n, .shri e t rd ra n,
    .srai e t rd ra n, .cmpeqi e t rd ra i, .cmpnei e t rd ra i, .cmplti e t rd ra i, .cmpgei e t rd ra i,
    .cmpltui e t rd ra i, .cmpgeui e t rd ra i, .ld8 e t rd ra m x, .ld16 e t rd ra m x, .ld32 e t rd ra m x, .ld64 e t rd ra m x,
    .st8 e t rd ra m x, .st16 e t rd ra m x, .st32 e t rd ra m x, .st64 e t rd ra m x, .waite e t rd ra, .devr e t rd ra]

/-- The other instructions. -/
def restOf (e : Fin 8) (t : Fin 4) (td : Fin 8) (ra rb : Fin 32) (b : BitVec 21) (m : BitVec 12) (r : Fin 64) (x : Bool) : List Instr :=
  [.br e t b, .beq e t ra b, .bne e t ra b, .blt e t ra b, .bge e t ra b, .call e t b, .enter1 e t b, .ret e t ra,
    .tadd e t td td rb, .tsub e t ra td td, .tcmp e t ra td td, .tcvtSec e t ra td, .tcvtNs e t ra td, .tcvtFrac e t ra td,
    .tcvtFu e t ra td, .tcvtMk e t td ra rb, .tcvtMov e t td td, .stamp e t td rb, .tld e t td ra m x, .tst e t td ra m x,
    .xadd e t ra ra rb x x, .xswp e t ra ra rb x x, .evack e t ra, .beat e t, .fence e t, .rdsr e t ra 0, .wrfs e t ra,
    .epoch e t r, .push e t ra 3 rb x, .pop e t ra 3 rb x, .peek e t ra 3 rb x, .pressAlign e t ra ra rb x,
    .pressStep e t ra ra rb x, .pressSlew e t ra ra rb x, .pressAbort e t ra ra rb x, .seamSelect e t ra rb r,
    .seamClearPref e t ra rb r, .rampGo e t ra 1 0, .rampAbort e t ra 1 0, .feed e t ra rb td, .schedPlace e t ra rb rb x x x,
    .schedCancel e t ra rb rb x x x, .undefinedInstruction e t]

theorem regs3_issues (e : Fin 8) (t : Fin 4) (rd ra rb : Fin 32) : ∀ c ∈ regs3 e t rd ra rb, IssuesAt c e t := by
  iterate 18 refine List.forall_mem_cons.2 ⟨⟨_, fun _ => rfl⟩, ?_⟩
  exact List.forall_mem_nil _

theorem regs2_issues (e : Fin 8) (t : Fin 4) (rd ra : Fin 32) (i : BitVec 16) (n : BitVec 6) (m : BitVec 12) (x : Bool) :
    ∀ c ∈ regs2 e t rd ra i n m x, IssuesAt c e t := by
  iterate 23 refine List.forall_mem_cons.2 ⟨⟨_, fun _ => rfl⟩, ?_⟩
  exact List.forall_mem_nil _

theorem restOf_issues (e : Fin 8) (t : Fin 4) (td : Fin 8) (ra rb : Fin 32) (b : BitVec 21) (m : BitVec 12) (r : Fin 64) (x : Bool) :
    ∀ c ∈ restOf e t td ra rb b m r x, IssuesAt c e t := by
  iterate 43 refine List.forall_mem_cons.2 ⟨⟨_, fun _ => rfl⟩, ?_⟩
  exact List.forall_mem_nil _

/-- Every instruction of the three lists. -/
theorem instructions_issue (e : Fin 8) (t : Fin 4) (td : Fin 8) (rd ra rb : Fin 32) (i : BitVec 16) (n : BitVec 6) (m : BitVec 12)
    (b : BitVec 21) (r : Fin 64) (x : Bool) :
    ∀ c ∈ regs3 e t rd ra rb ++ regs2 e t rd ra i n m x ++ restOf e t td ra rb b m r x, IssuesAt c e t :=
  List.forall_mem_append.2 ⟨List.forall_mem_append.2 ⟨regs3_issues e t rd ra rb, regs2_issues e t rd ra i n m x⟩,
    restOf_issues e t td ra rb b m r x⟩

theorem namesAt_aluRow {c : Instr} {s : State} {e : Fin 8} {t : Fin 4} {fn : Nat} {rd ra rb : Fin 32}
    {f : BitVec 64 → BitVec 64 → BitVec 64 → BitVec 64} (hf : aluFn fn = some f)
    (hc : exec c s = .next (s.issue e t (fun s => s.aluRow e t fn rd ra rb))) :
    NamesAt c s e t [(s.thread e t).dest rd, (s.thread e t).dest ra, (s.thread e t).dest rb] := by
  have hact (u : State) : u.aluRow e t fn rd ra rb = u.alu3 e t rd ra rb f := by rw [State.aluRow, hf]
  exact ⟨_, fun u => u.retireIns e t ((s.thread e t).wr rd (f ((s.thread e t).rd rd) ((s.thread e t).rd ra) ((s.thread e t).rd rb))), hc,
    hact (s.turnTaken e t)⟩

theorem namesAt_immRow {c : Instr} {s : State} {e : Fin 8} {t : Fin 4} {major : Nat} {rd ra : Fin 32} {imm : BitVec 16}
    {f : BitVec 64 → BitVec 64} (hf : aluImm major imm = some f)
    (hc : exec c s = .next (s.issue e t (fun s => s.immRow e t major rd ra imm))) :
    NamesAt c s e t [(s.thread e t).dest rd, (s.thread e t).dest ra] := by
  have hact (u : State) : u.immRow e t major rd ra imm = u.alu2 e t rd ra f := by rw [State.immRow, hf]
  exact ⟨_, fun u => u.retireIns e t ((s.thread e t).wr rd (f ((s.thread e t).rd ra))), hc, hact (s.turnTaken e t)⟩

/-- An operation stalls at its registers before anything else. -/
theorem OperatesAt.names {c : Instr} {s : State} {e : Fin 8} {t : Fin 4} {uses : List Dest} (h : OperatesAt c s e t uses) :
    NamesAt c s e t uses := by
  obtain ⟨act, d, op, transit, hc, hact⟩ := h
  exact ⟨act, _, hc, hact⟩

theorem operatesAt_devw (s : State) (e : Fin 8) (t : Fin 4) (rd ra rb : Fin 32) :
    OperatesAt (.devw e t rd ra rb) s e t [(s.thread e t).dest rd, (s.thread e t).dest ra, (s.thread e t).dest rb] :=
  ⟨_, _, _, _, rfl, rfl⟩

/-- The operations of rd and ra. -/
theorem operations_operate (s : State) (e : Fin 8) (t : Fin 4) (rd ra : Fin 32) (m : BitVec 12) (x : Bool) :
    ∀ c ∈ [.ld8 e t rd ra m x, .ld16 e t rd ra m x, .ld32 e t rd ra m x, .ld64 e t rd ra m x, .st8 e t rd ra m x, .st16 e t rd ra m x,
      .st32 e t rd ra m x, .st64 e t rd ra m x, .devr e t rd ra], OperatesAt c s e t [(s.thread e t).dest rd, (s.thread e t).dest ra] := by
  iterate 9 refine List.forall_mem_cons.2 ⟨⟨_, _, _, _, rfl, rfl⟩, ?_⟩
  exact List.forall_mem_nil _

theorem namesAt_waite (s : State) (e : Fin 8) (t : Fin 4) (rd ra : Fin 32) :
    NamesAt (.waite e t rd ra) s e t [(s.thread e t).dest rd, (s.thread e t).dest ra] :=
  ⟨_, fun u => u.waiteGo e t rd ra (s.thread e t), rfl, rfl⟩

theorem regs3_names (s : State) (e : Fin 8) (t : Fin 4) (rd ra rb : Fin 32) : ∀ c ∈ regs3 e t rd ra rb,
    NamesAt c s e t [(s.thread e t).dest rd, (s.thread e t).dest ra, (s.thread e t).dest rb] := by
  iterate 17 refine List.forall_mem_cons.2 ⟨namesAt_aluRow rfl rfl, ?_⟩
  exact List.forall_mem_cons.2 ⟨(operatesAt_devw s e t rd ra rb).names, List.forall_mem_nil _⟩

theorem regs2_names (s : State) (e : Fin 8) (t : Fin 4) (rd ra : Fin 32) (i : BitVec 16) (n : BitVec 6) (m : BitVec 12) (x : Bool) :
    ∀ c ∈ regs2 e t rd ra i n m x, NamesAt c s e t [(s.thread e t).dest rd, (s.thread e t).dest ra] := by
  have hops := operations_operate s e t rd ra m x
  iterate 13 refine List.forall_mem_cons.2 ⟨namesAt_immRow rfl rfl, ?_⟩
  iterate 8 refine List.forall_mem_cons.2 ⟨(hops _ (by simp)).names, ?_⟩
  exact List.forall_mem_cons.2 ⟨namesAt_waite s e t rd ra, List.forall_mem_cons.2 ⟨(hops _ (by simp)).names, List.forall_mem_nil _⟩⟩

/-! ### The instructions of a thread that runs Velmos-2 with nothing in flight -/

section
variable {s : State} {e : Fin 8} {t : Fin 4}

theorem State.regPending_of_no_flights (h : s.flightsOf e t = []) (d : Dest) : s.regPending e t d = false := by
  rw [State.regPending, h, List.any_nil, Bool.and_false]

theorem eventMask_of_velmos2 (hv : (s.thread e t).v1 = false) (ra : Nat) :
    eventMask (s.thread e t) ra = ((s.thread e t).rd ra).toNat % 2 ^ 32 := by
  rw [eventMask, hv]
  rfl

/-- In rd, which g0 is not, the masked events are found. -/
theorem Thread.rd_gets {x : Thread} (hv : x.v1 = false) (rd : Fin 32) (m : Nat) :
    (x.gets rd m).rd rd = if rd = 0 then 0 else BitVec.ofNat 64 m := by
  have hgets : (x.gets rd m).rd rd = (x.setGpr rd (BitVec.ofNat 64 m)).gpr rd := by
    rw [Thread.rd_of_velmos2 (x := x.gets rd m) (by rw [Thread.gets, Thread.wr_of_velmos2 hv, Thread.setGpr_frame]; exact hv)]
    rw [Thread.gets, Thread.wr_of_velmos2 hv]
    rfl
  rw [hgets, Thread.gpr_setGpr]
  by_cases h0 : rd = 0
  · subst h0
    rfl
  · have hval : rd.val ≠ 0 := fun h => h0 (Fin.ext h)
    rw [if_pos ⟨rfl, hval⟩, if_neg h0]

variable (hm : s.mayIssue e t = true) (ht : (s.thread e t).trapDue = false) (hv : (s.thread e t).v1 = false)
  (hfl : s.flightsOf e t = []) (h4 : s.pc e t % 4 = 0)
include hm ht hfl h4

omit h4 in
theorem does_waite_velmos2 {rd ra : Fin 32} {P : State → Prop} (hP : P ((s.turnTaken e t).waiteGo e t rd ra (s.thread e t))) :
    Does (.waite e t rd ra) s P :=
  does_waite hm ht (fun d _ => State.regPending_of_no_flights hfl d) hP

include hv in
theorem does_waite_result (rd ra : Fin 32) (hst : s.engState e = 1) : Does (.waite e t rd ra) s fun u =>
    u.pc e t = (s.pc e t + 4) % 2 ^ 18 ∧ MemKept s u ∧
      if eventMask (s.thread e t) ra = 0 then u.tstate e t = 0
      else if s.masked e t ra ≠ 0 then u.tstate e t = s.tstate e t ∧ (u.thread e t).rd rd =
        (if rd = 0 then 0 else BitVec.ofNat 64 (s.masked e t ra))
      else u.tstate e t = 2 ∧ (u.thread e t).mask = eventMask (s.thread e t) ra := by
  refine does_waite_velmos2 hm ht hfl ?_
  by_cases h0 : eventMask (s.thread e t) ra = 0
  · have hs := State.stands_waiteGo_halt (rd := rd) h4 h0
    have hmem := hs.memKept
    obtain ⟨-, hpc, hts, -⟩ := hs
    rw [if_pos h0]
    exact ⟨hpc, hmem, hts⟩
  · rw [if_neg h0]
    by_cases hp : s.masked e t ra = 0
    · have hs := State.stands_waitsNow h4 rd.val ra.val
      have hmem := hs.memKept
      obtain ⟨hx, hpc, hts, -⟩ := hs
      rw [State.waiteGo_wait h4 h0 hp, if_neg (by rw [hst]; decide), if_neg (not_not.2 hp)]
      exact ⟨hpc, hmem, hts, by rw [hx]; rfl⟩
    · have hs := State.stands_waiteGo_ready (rd := rd) h4 hp
      have hmem := hs.memKept
      obtain ⟨hx, hpc, hts, -⟩ := hs
      rw [if_pos hp, hx]
      exact ⟨hpc, hmem, hts, Thread.rd_gets hv rd _⟩

end

/-- What a thread that runs Velmos-2 completes with nothing in flight. -/
theorem does_events {s : State} {e : Fin 8} {t : Fin 4} (rd ra : Fin 32) (r : Fin 64) (sel : Fin 3) (hm : s.mayIssue e t = true)
    (ht : (s.thread e t).trapDue = false) (hv : (s.thread e t).v1 = false) (hfl : s.flightsOf e t = []) (hst : s.engState e = 1)
    (h4 : s.pc e t % 4 = 0) :
    let x := s.thread e t
    let on (y : Thread) (u : State) : Prop := u.thread e t = y ∧ u.pc e t = (s.pc e t + 4) % 2 ^ 18 ∧ MemKept s u
    Does (.fence e t) s (fun u => on x u ∧ u.tstate e t = s.tstate e t) ∧
    Does (.beat e t) s (fun u => on x u ∧ Tab.get (fun _ => 0) u.eng.beatAt e = s.tb.elapsed) ∧
    Does (.rdsr e t rd sel) s (on (x.wr rd (BitVec.ofNat 64 (rdsrOf e t x sel)))) ∧
    Does (.wrfs e t ra) s (on { x with fs := { x.fs with
      code := (x.gpr ra).toNat % 256
      sticky := (x.gpr ra).toNat / 256 % 32
      inTrap := (x.gpr ra).toNat.testBit 16 } }) ∧
    (s.holder r = some e.val → Does (.epoch e t r) s (on { x with ep := s.token r })) ∧
    Does (.evack e t ra) s (fun u => on x u ∧ ∀ k < 32, (u.fld (R.ENG_THR_STATE_W1_PENDING e t)).testBit k =
      ((s.fld (R.ENG_THR_STATE_W1_PENDING e t)).testBit k && !s.clears e t (eventMask x ra) k)) := by
  intro x on
  have hfree (l : List Dest) : ∀ d ∈ l, s.regPending e t d = false := fun d _ => State.regPending_of_no_flights hfl d
  have hon {y : Thread} {ts : Nat} {u : State} (h : s.Stands e t y ((s.pc e t + 4) % 2 ^ 18) ts u) : on y u := by
    have hmem := h.memKept
    obtain ⟨hx, hpc, -⟩ := h
    exact ⟨hx, hpc, hmem⟩
  refine ⟨?fence, ?beat, (does_rdsr hm ht h4 (hfree _) (by simp [hv])).mono fun _ => hon,
    (does_wrfs hm ht h4 (hfree _) hv).mono fun _ => hon, fun hh => ?epoch, ?evack⟩
  case fence =>
    refine (does_fence_go hm ht hfl).mono fun u hu => ?_
    have hs := State.stands_turnTaken (s := s).stepPc h4
    obtain ⟨-, -, hts, -⟩ := id hs
    exact hu ▸ ⟨hon hs, hts⟩
  case beat =>
    refine (does_beat_running hm ht h4 (by rw [hst]; decide)).mono fun u hu => ?_
    obtain ⟨hat, hx, hpc, -, hmem⟩ := hu
    exact ⟨⟨hx, hpc, hmem⟩, hat⟩
  case epoch => exact (does_epoch_held hm ht hv hh).mono fun u hu => hu ▸ hon (State.stands_turnTaken.retireIns h4 _)
  case evack =>
    refine (does_evack hm ht h4 (hfree _)).mono fun u hu => ?_
    obtain ⟨hbits, hx, hpc, -, -, -, hframe⟩ := hu
    refine ⟨⟨hx, hpc, ?_⟩, hbits⟩
    rw [hframe]
    exact memKept_of_memory rfl

/-- Settles O29: what an instruction does of its own comes after the issue slot, the trap that is due and the scoreboard. -/
theorem threadIssue : Obligations.ThreadIssue := by
  unfold Obligations.ThreadIssue
  intro slot stalled trap l3 l2 lr
  refine ⟨fun s e t td rd ra rb i n m b r x hm c hc => (instructions_issue e t td rd ra rb i n m b r x c hc).ignores hm,
    fun s e t td rd ra rb i n m b r x hm hdue hin c hc => (instructions_issue e t td rd ra rb i n m b r x c hc).traps hm hdue hin,
    fun s e t rd ra rb hm ht hp c hc => (regs3_names s e t rd ra rb c hc).stalls hm ht ?_,
    fun s e t rd ra i n m x hm ht hp c hc => (regs2_names s e t rd ra i n m x c hc).stalls hm ht ?_,
    fun s e t rd ra m x hm ht hfree hst hcur hfull c hc => ?full, ?events⟩
  · obtain ⟨r, hr, hpend⟩ := hp
    exact ⟨_, List.mem_map_of_mem (f := (s.thread e t).dest ∘ Fin.val) hr, hpend⟩
  · obtain ⟨r, hr, hpend⟩ := hp
    exact ⟨_, List.mem_map_of_mem (f := (s.thread e t).dest ∘ Fin.val) hr, hpend⟩
  case full =>
    have huses (l : List (Fin 32)) : ∀ d ∈ l.map ((s.thread e t).dest ∘ Fin.val), s.regPending e t d = false :=
      List.forall_mem_map.2 fun r _ => hfree r
    rcases List.mem_append.1 (show c ∈ [_, _, _, _, _, _, _, _, _] ++ [_] from hc) with hc | hc
    · exact (operations_operate s e t rd ra m x c hc).stalls hm ht (huses [rd, ra]) hst hcur hfull
    · rw [List.mem_singleton.1 hc]
      exact (operatesAt_devw s e t rd ra ra).stalls hm ht (huses [rd, ra, ra]) hst hcur hfull
  case events =>
    intro s e t rd ra r sel hm ht hv hfl hst h4 hlt
    obtain ⟨hfence, hbeat, hrdsr, hwrfs, hepoch, hevack⟩ := does_events rd ra r sel hm ht hv hfl hst h4
    have hmask := eventMask_of_velmos2 hv ra.val
    refine ⟨hfence, hbeat, rdsrOf_eq e t (s.thread e t) sel ▸ hrdsr, Thread.rd_of_velmos2 hv ra ▸ hwrfs, hepoch, hevack.mono fun u hu => ?_, ?_⟩
    · refine ⟨hu.1, fun k hk h16 => (hu.2 k (List.mem_range.1 hk)).trans ?_⟩
      rw [State.clears, hmask, decide_eq_false (by omega), Bool.false_and, Bool.not_false, Bool.and_true]
    · have hwaite := does_waite_result hm ht hv hfl h4 rd ra hst
      rw [State.masked, hmask] at hwaite
      exact hwaite

end Sys2Proof.Machine


/-! O39: a role moves (10 R290, R291, R293): what its events leave of the role table, and what they set. -/
namespace Sys2Proof.Machine

/-! ### Events leave the role table alone -/

/-- The registers of the role table and the controller stand below those of the engines. -/
def roleEnd : Nat := 0x050B1000 * 32

/-- The role table, but for the listed fields, and the moves that wait are as before. -/
def RoleKept (s t : State) (l : List Fld) : Prop :=
  (∀ f : Fld, f.key < roleEnd → (∀ g ∈ l, f.key ≠ g.key) → t.fld f = s.fld f) ∧ t.eng.roleWait = s.eng.roleWait

/-- A bit of a field that starts its word is never lost. -/
def BitsKept (s t : State) : Prop :=
  ∀ (f : Fld) (i : Nat), f.key % 128 = 0 → i < 32 → (s.fld f).testBit i = true → (t.fld f).testBit i = true

theorem RoleKept.refl (s : State) (l : List Fld) : RoleKept s s l := ⟨fun _ _ _ => rfl, rfl⟩

theorem RoleKept.trans {s t u : State} {l : List Fld} (h : RoleKept s t l) (h' : RoleKept t u l) : RoleKept s u l :=
  ⟨fun f hf hl => (h'.1 f hf hl).trans (h.1 f hf hl), h'.2.trans h.2⟩

theorem RoleKept.mono {s t : State} {l l' : List Fld} (h : RoleKept s t l) (hl : ∀ g ∈ l, g ∈ l') : RoleKept s t l' :=
  ⟨fun f hf hne => h.1 f hf fun g hg => hne g (hl g hg), h.2⟩

theorem RoleKept.of_regs {s t u : State} {l : List Fld} (h : RoleKept s t l) (hu : u.regs = t.regs) (hw : u.eng.roleWait = t.eng.roleWait) :
    RoleKept s u l := ⟨fun f hf hl => (State.fld_congr hu f).trans (h.1 f hf hl), hw.trans h.2⟩

/-- A write to the table itself. -/
theorem RoleKept.setFld {s t : State} {l : List Fld} (h : RoleKept s t l) {g : Fld} (v : Nat) (hg : g ∈ l) : RoleKept s (t.setFld g v) l :=
  ⟨fun f hf hl => (State.fld_setFld_ne t v (hl g hg)).trans (h.1 f hf hl), h.2⟩

/-- A write above it. -/
theorem RoleKept.setFld_above {s t : State} {l : List Fld} (h : RoleKept s t l) {g : Fld} (v : Nat) (hg : roleEnd ≤ g.key) :
    RoleKept s (t.setFld g v) l :=
  ⟨fun f hf hl => (State.fld_setFld_ne t v (by omega)).trans (h.1 f hf hl), h.2⟩

theorem BitsKept.refl (s : State) : BitsKept s s := fun _ _ _ _ => id

theorem BitsKept.trans {s t u : State} (h : BitsKept s t) (h' : BitsKept t u) : BitsKept s u :=
  fun f i hf hi hb => h' f i hf hi (h f i hf hi hb)

theorem BitsKept.of_regs {s t u : State} (h : BitsKept s t) (hu : u.regs = t.regs) : BitsKept s u :=
  fun f i hf hi hb => (State.fld_congr hu f).symm ▸ h f i hf hi hb

theorem testBit_lor_two_pow (p k i : Nat) : (Nat.lor p (2 ^ k)).testBit i = (p.testBit i || decide (k = i)) :=
  (Nat.testBit_or p (2 ^ k) i).trans (by rw [Nat.testBit_two_pow])

/-- A bit set in a 32-bit field stands, with those that stood. -/
theorem bits_setBit (s : State) {g : Fld} (hw : g.width = 32) (k : Nat) :
    BitsKept s (s.setFld g (Nat.lor (s.fld g) (2 ^ k))) ∧ (k < 32 → ((s.setFld g (Nat.lor (s.fld g) (2 ^ k))).fld g).testBit k = true) := by
  have hsame : (s.setFld g (Nat.lor (s.fld g) (2 ^ k))).fld g = Nat.lor (s.fld g) (2 ^ k) % 2 ^ 32 := by rw [State.fld_setFld_same, hw]
  refine ⟨fun f i _ hi hb => ?_, fun hk => ?_⟩
  · by_cases hfg : f.key = g.key
    · rw [State.fld, hfg] at hb ⊢
      change ((s.setFld g _).fld g).testBit i = true
      change (s.fld g).testBit i = true at hb
      rw [hsame, Nat.testBit_mod_two_pow, testBit_lor_two_pow, hb, decide_eq_true hi]
      rfl
    · rwa [State.fld_setFld_ne _ _ hfg]
  · rw [hsame, Nat.testBit_mod_two_pow, testBit_lor_two_pow, decide_eq_true hk, decide_eq_true rfl, Bool.or_true]
    rfl

/-- The role table and the waiting moves stand, and no bit is lost. -/
def EventKept (s t : State) : Prop := RoleKept s t [] ∧ BitsKept s t

theorem EventKept.refl (s : State) : EventKept s s := ⟨RoleKept.refl s [], BitsKept.refl s⟩

theorem EventKept.trans {s t u : State} (h : EventKept s t) (h' : EventKept t u) : EventKept s u := ⟨h.1.trans h'.1, h.2.trans h'.2⟩

theorem eventKept_foldl {β : Type} {f : State → β → State} (hf : ∀ s b, EventKept s (f s b)) (l : List β) (s : State) :
    EventKept s (l.foldl f s) := by
  induction l generalizing s with
  | nil => exact EventKept.refl s
  | cons b r ih => exact (hf s b).trans (ih _)

theorem eventKept_wakeThread (s : State) (e t : Nat) : EventKept s (s.wakeThread e t) := by
  have hset (u : State) (v : Nat) : EventKept u (u.setTstate e t v) := by
    refine ⟨(RoleKept.refl u []).setFld_above v ?_, fun f i hf _ hb => ?_⟩
    · simp only [roleEnd, Fld.key, R.ENG_THR_STATE_W0_TSTATE]
      omega
    · rwa [State.setTstate, State.fld_setFld_ne]
      simp only [Fld.key, R.ENG_THR_STATE_W0_TSTATE] at hf ⊢
      omega
  unfold State.wakeThread
  dsimp only
  split
  · exact EventKept.trans ⟨(RoleKept.refl s []).of_regs rfl rfl, (BitsKept.refl s).of_regs rfl⟩ (hset _ 1)
  · exact EventKept.refl s

/-- An event stands pending at its thread. -/
theorem raiseEvent_spec (s : State) (e t k : Nat) : EventKept s (s.raiseEvent e t k) ∧
    (k < 32 → ((s.raiseEvent e t k).fld (R.ENG_THR_STATE_W1_PENDING e t)).testBit k = true) := by
  have hset := bits_setBit s (g := R.ENG_THR_STATE_W1_PENDING e t) rfl k
  have hrole : RoleKept s (s.setFld (R.ENG_THR_STATE_W1_PENDING e t) (Nat.lor (s.fld (R.ENG_THR_STATE_W1_PENDING e t)) (2 ^ k))) [] := by
    refine (RoleKept.refl s []).setFld_above _ ?_
    simp only [roleEnd, Fld.key, R.ENG_THR_STATE_W1_PENDING]
    omega
  have hstart (x : Thread) : EventKept s
      ((s.setFld (R.ENG_THR_STATE_W1_PENDING e t) (Nat.lor (s.fld (R.ENG_THR_STATE_W1_PENDING e t)) (2 ^ k))).setThread e t x) :=
    ⟨hrole.of_regs rfl rfl, hset.1.of_regs rfl⟩
  have hpend : (R.ENG_THR_STATE_W1_PENDING e t).key % 128 = 0 := by
    simp only [Fld.key, R.ENG_THR_STATE_W1_PENDING]
    omega
  have hwake (u : State) := eventKept_wakeThread u e t
  exact ⟨(hstart _).trans (hwake _), fun hk => (hwake _).2 _ _ hpend hk (hset.2 hk)⟩

theorem eventKept_ringArrive (s : State) (r : Nat) : EventKept s (s.ringArrive r) := by
  refine eventKept_foldl (fun u x => ?_) _ _
  unfold State.ringLatch
  dsimp only
  split
  · split
    · exact (raiseEvent_spec u _ _ _).1
    · exact EventKept.refl u
  · exact EventKept.refl u

/-- A role's bit in a pair of registers of an engine. -/
theorem engineBit_spec (s : State) {lo hi : Fld} (hlo : lo.width = 32) (hhi : hi.width = 32) (halo : roleEnd ≤ lo.key)
    (hahi : roleEnd ≤ hi.key) (r : Nat) : EventKept s (engineBit lo hi s r) ∧
      ((engineBit lo hi s r).fld (if r < 32 then lo else hi)).testBit (r % 32) = true := by
  have hw : (if r < 32 then lo else hi).width = 32 := by split <;> assumption
  have ha : roleEnd ≤ (if r < 32 then lo else hi).key := by split <;> assumption
  unfold engineBit
  dsimp only
  generalize (if r < 32 then lo else hi) = f at hw ha
  have hset := bits_setBit s hw (r % 32)
  exact ⟨⟨(RoleKept.refl s []).setFld_above _ ha, hset.1⟩, hset.2 (Nat.mod_lt _ (by decide))⟩

/-- ROLE_IN: the event is pending and the role stands in ARRIVED. -/
theorem roleIn_spec (s : State) (r n : Nat) : EventKept s (s.roleIn r n) ∧
    ((s.roleIn r n).fld (R.ENG_THR_STATE_W1_PENDING n 0)).testBit 17 = true ∧
    ((s.roleIn r n).fld (if r < 32 then R.ENG_ROLE_ARRIVED_LO_ROLES n else R.ENG_ROLE_ARRIVED_HI_ROLES n)).testBit (r % 32) = true := by
  have hbit := engineBit_spec s (lo := R.ENG_ROLE_ARRIVED_LO_ROLES n) (hi := R.ENG_ROLE_ARRIVED_HI_ROLES n) rfl rfl
    (by simp only [roleEnd, Fld.key, R.ENG_ROLE_ARRIVED_LO_ROLES]; omega) (by simp only [roleEnd, Fld.key, R.ENG_ROLE_ARRIVED_HI_ROLES]; omega) r
  have hev := raiseEvent_spec (engineBit (R.ENG_ROLE_ARRIVED_LO_ROLES n) (R.ENG_ROLE_ARRIVED_HI_ROLES n) s r) n 0 17
  have hring := eventKept_ringArrive ((engineBit (R.ENG_ROLE_ARRIVED_LO_ROLES n) (R.ENG_ROLE_ARRIVED_HI_ROLES n) s r).raiseEvent n 0 17) r
  have hkey : (if r < 32 then R.ENG_ROLE_ARRIVED_LO_ROLES n else R.ENG_ROLE_ARRIVED_HI_ROLES n).key % 128 = 0 := by
    split <;> simp only [Fld.key, R.ENG_ROLE_ARRIVED_LO_ROLES, R.ENG_ROLE_ARRIVED_HI_ROLES] <;> omega
  have hpend : (R.ENG_THR_STATE_W1_PENDING n 0).key % 128 = 0 := by
    simp only [Fld.key, R.ENG_THR_STATE_W1_PENDING]
    omega
  exact ⟨hbit.1.trans (hev.1.trans hring), hring.2 _ _ hpend (by decide) (hev.2 (by decide)),
    (hev.1.trans hring).2 _ _ hkey (Nat.mod_lt _ (by decide)) hbit.2⟩

/-- ROLE_OUT: the event is pending and the role stands in LEFT. -/
theorem roleOut_spec (s : State) (r n : Nat) : EventKept s (s.roleOut r n) ∧
    ((s.roleOut r n).fld (R.ENG_THR_STATE_W1_PENDING n 0)).testBit 18 = true ∧
    ((s.roleOut r n).fld (if r < 32 then R.ENG_ROLE_LEFT_LO_ROLES n else R.ENG_ROLE_LEFT_HI_ROLES n)).testBit (r % 32) = true := by
  have hbit := engineBit_spec s (lo := R.ENG_ROLE_LEFT_LO_ROLES n) (hi := R.ENG_ROLE_LEFT_HI_ROLES n) rfl rfl
    (by simp only [roleEnd, Fld.key, R.ENG_ROLE_LEFT_LO_ROLES]; omega) (by simp only [roleEnd, Fld.key, R.ENG_ROLE_LEFT_HI_ROLES]; omega) r
  have hev := raiseEvent_spec (engineBit (R.ENG_ROLE_LEFT_LO_ROLES n) (R.ENG_ROLE_LEFT_HI_ROLES n) s r) n 0 18
  have hkey : (if r < 32 then R.ENG_ROLE_LEFT_LO_ROLES n else R.ENG_ROLE_LEFT_HI_ROLES n).key % 128 = 0 := by
    split <;> simp only [Fld.key, R.ENG_ROLE_LEFT_LO_ROLES, R.ENG_ROLE_LEFT_HI_ROLES] <;> omega
  exact ⟨hbit.1.trans hev.1, hev.2 (by decide), hev.1.2 _ _ hkey (Nat.mod_lt _ (by decide)) hbit.2⟩

/-! ### A role is given (R291) -/

/-- What a role that moves to an engine leaves, for the engine and for the one that held it. -/
def RoleArrived (u : State) (r n : Nat) : Prop :=
  u.holder r = some n ∧ (u.fld (R.ENG_THR_STATE_W1_PENDING n 0)).testBit 17 = true ∧
    (u.fld (if r < 32 then R.ENG_ROLE_ARRIVED_LO_ROLES n else R.ENG_ROLE_ARRIVED_HI_ROLES n)).testBit (r % 32) = true

def RoleLeft (u : State) (r h : Nat) : Prop :=
  (u.fld (R.ENG_THR_STATE_W1_PENDING h 0)).testBit 18 = true ∧
    (u.fld (if r < 32 then R.ENG_ROLE_LEFT_LO_ROLES h else R.ENG_ROLE_LEFT_HI_ROLES h)).testBit (r % 32) = true

theorem holder_key_lt {r : Nat} (hr : r < 64) : (R.ENG_ROLE_HOLDER r).key < roleEnd ∧ (R.ENG_ROLE_EPOCH r).key < roleEnd := by
  simp only [roleEnd, Fld.key, R.ENG_ROLE_HOLDER, R.ENG_ROLE_EPOCH]
  omega

theorem EventKept.holder {s t : State} (h : EventKept s t) {r : Nat} (hr : r < 64) : t.holder r = s.holder r := by
  have hf : t.fld (R.ENG_ROLE_HOLDER r) = s.fld (R.ENG_ROLE_HOLDER r) := h.1.1 _ (holder_key_lt hr).1 (by simp)
  rw [State.holder, State.holder, hf]

theorem EventKept.arrived {s t : State} (h : EventKept s t) {r n : Nat} (hr : r < 64) (ha : RoleArrived s r n) : RoleArrived t r n := by
  obtain ⟨hh, hpend, hbit⟩ := ha
  refine ⟨(h.holder hr).trans hh, h.2 _ _ ?_ (by decide) hpend, h.2 _ _ ?_ (Nat.mod_lt _ (by decide)) hbit⟩
  · simp only [Fld.key, R.ENG_THR_STATE_W1_PENDING]
    omega
  · split <;> simp only [Fld.key, R.ENG_ROLE_ARRIVED_LO_ROLES, R.ENG_ROLE_ARRIVED_HI_ROLES] <;> omega

theorem epsStart_regs (s : State) (r : Nat) : (s.epsStart r).regs = s.regs ∧ (s.epsStart r).eng = s.eng := by
  unfold State.epsStart
  split <;> exact ⟨rfl, rfl⟩

/-- The role goes to an engine. -/
theorem giveRole_some_spec (s : State) {r : Nat} (n : Nat) (hr : r < 64) (fence : Bool) :
    RoleKept s (s.giveRole r (some n) fence) [R.ENG_ROLE_HOLDER r] ∧ (n < 8 → RoleArrived (s.giveRole r (some n) fence) r n) ∧
      (fence = false → ∀ h, s.holder r = some h → RoleLeft (s.giveRole r (some n) fence) r h) := by
  have hset : RoleKept s ((s.setFld (R.ENG_ROLE_HOLDER r) n).epsStart r) [R.ENG_ROLE_HOLDER r] := by
    obtain ⟨hregs, heng⟩ := epsStart_regs (s.setFld (R.ENG_ROLE_HOLDER r) n) r
    exact ((RoleKept.refl s _).setFld n (List.mem_singleton_self _)).of_regs hregs (by rw [heng])
  have hholder (hn : n < 8) : ((s.setFld (R.ENG_ROLE_HOLDER r) n).epsStart r).holder r = some n := by
    have hf : ((s.setFld (R.ENG_ROLE_HOLDER r) n).epsStart r).fld (R.ENG_ROLE_HOLDER r) = n := by
      rw [State.fld_congr (epsStart_regs _ r).1, State.fld_setFld_same]
      exact Nat.mod_eq_of_lt (show n < 16 by omega)
    rw [State.holder, hf]
    exact if_pos hn
  obtain ⟨hkept, hpend, hbit⟩ := roleIn_spec ((s.setFld (R.ENG_ROLE_HOLDER r) n).epsStart r) r n
  have harr (hn : n < 8) : RoleArrived (((s.setFld (R.ENG_ROLE_HOLDER r) n).epsStart r).roleIn r n) r n :=
    ⟨(hkept.holder hr).trans (hholder hn), hpend, hbit⟩
  have hin : RoleKept s (((s.setFld (R.ENG_ROLE_HOLDER r) n).epsStart r).roleIn r n) [R.ENG_ROLE_HOLDER r] :=
    hset.trans (hkept.1.mono (by simp))
  have hgive : s.giveRole r (some n) fence = match s.holder r with
      | some h => if fence then ((s.setFld (R.ENG_ROLE_HOLDER r) n).epsStart r).roleIn r n
        else (((s.setFld (R.ENG_ROLE_HOLDER r) n).epsStart r).roleIn r n).roleOut r h
      | none => ((s.setFld (R.ENG_ROLE_HOLDER r) n).epsStart r).roleIn r n := rfl
  rw [hgive]
  generalize ((s.setFld (R.ENG_ROLE_HOLDER r) n).epsStart r).roleIn r n = u at hin harr
  split
  · next h hold =>
    obtain ⟨hout, hleft⟩ := roleOut_spec u r h
    cases fence with
    | true => exact ⟨hin, harr, fun h => absurd h (by decide)⟩
    | false =>
      refine ⟨hin.trans (hout.1.mono (by simp)), fun hn => hout.arrived hr (harr hn), fun _ h' hh' => ?_⟩
      obtain rfl : h = h' := Option.some.inj (hold.symm.trans hh')
      exact hleft
  · next hold => exact ⟨hin, harr, fun _ h hh => absurd (hold.symm.trans hh) (by simp)⟩

theorem roleKept_foldl {β : Type} {f : State → β → State} (hf : ∀ s b, RoleKept s (f s b) []) (l : List β) (s : State) :
    RoleKept s (l.foldl f s) [] := by
  induction l generalizing s with
  | nil => exact RoleKept.refl s []
  | cons b r ih => exact (hf s b).trans (ih _)

theorem roleKept_ringLeave (s : State) (r e : Nat) : RoleKept s (s.ringLeave r e) [] := by
  refine roleKept_foldl (fun u x => ?_) _ _
  dsimp only
  split
  · unfold State.dropEvent
    dsimp only
    split
    · refine (RoleKept.refl u []).setFld_above _ ?_
      simp only [roleEnd, Fld.key, R.ENG_THR_STATE_W1_PENDING]
      omega
    · exact RoleKept.refl u []
  · exact RoleKept.refl u []

/-- What a record writes stands above the table. -/
theorem recordRel_roleKept : RecordRel fun s t => RoleKept s t [] where
  refl s := RoleKept.refl s []
  trans _ _ _ := RoleKept.trans
  set s f v hf := (RoleKept.refl s []).setFld_above v (by rw [Fld.collects] at hf; rw [roleEnd]; omega)
  event s e k _ := (raiseEvent_spec s e 0 k).1.1
  frame s _ hr he := (RoleKept.refl s []).of_regs hr (by rw [he])

theorem roleKept_record (s : State) (src cause : Nat) {cls : Nat} (hcls : cls ≠ 0) : RoleKept s (s.record src cls cause) [] := by
  refine RoleKept.trans ?_ (recordRel_roleKept.record s src cause hcls)
  refine ((RoleKept.refl s []).setFld_above _ ?_).setFld_above _ ?_
  all_goals
    simp only [roleEnd, Fld.key, R.FLT_SRC_LAST_CLASS, R.FLT_SRC_LAST_CAUSE]
    omega

/-- The role of no engine (R291, R364). -/
theorem roleUnheld_spec (s : State) {r : Nat} (hr : r < 64) (old : Option Nat) :
    RoleKept s (s.roleUnheld r old) [R.ENG_ROLE_HOLDER r, R.ENGC_EVENTS_ROLE_UNHELD] ∧ (s.roleUnheld r old).holder r = none ∧
      (s.roleUnheld r old).fld R.ENGC_EVENTS_ROLE_UNHELD = 1 := by
  have hset : RoleKept s ((s.setFld (R.ENG_ROLE_HOLDER r) 0xF).raise R.ENGC_EVENTS_ROLE_UNHELD)
      [R.ENG_ROLE_HOLDER r, R.ENGC_EVENTS_ROLE_UNHELD] :=
    ((RoleKept.refl s _).setFld _ (by simp)).setFld _ (by simp)
  have hfld : ((s.setFld (R.ENG_ROLE_HOLDER r) 0xF).raise R.ENGC_EVENTS_ROLE_UNHELD).fld (R.ENG_ROLE_HOLDER r) = 15 := by
    rw [State.fld_raise, if_neg, State.fld_setFld_same]
    · rfl
    · simp only [Fld.key, R.ENG_ROLE_HOLDER, R.ENGC_EVENTS_ROLE_UNHELD]
      omega
  have hflag : ((s.setFld (R.ENG_ROLE_HOLDER r) 0xF).raise R.ENGC_EVENTS_ROLE_UNHELD).fld R.ENGC_EVENTS_ROLE_UNHELD = 1 :=
    State.fld_setFld_same _ _ _
  have hrest : RoleKept ((s.setFld (R.ENG_ROLE_HOLDER r) 0xF).raise R.ENGC_EVENTS_ROLE_UNHELD) (s.roleUnheld r old) [] := by
    refine RoleKept.trans ?_ (roleKept_record _ _ _ (by decide))
    cases old with
    | none => exact RoleKept.refl _ []
    | some h => exact roleKept_ringLeave _ r h
  refine ⟨hset.trans (hrest.mono (by simp)), ?_, (hrest.1 _ (by decide) (by simp)).trans hflag⟩
  rw [State.holder, hrest.1 _ (holder_key_lt hr).1 (by simp), hfld]
  rfl

/-! ### Moves (R290) -/

theorem roleKept_bumpEpoch (s : State) (r : Nat) : RoleKept s (s.bumpEpoch r) [R.ENG_ROLE_EPOCH r] :=
  ((RoleKept.refl s _).setFld _ (List.mem_singleton_self _)).of_regs rfl rfl

theorem bumpEpoch_epoch (s : State) (r : Nat) : (s.bumpEpoch r).fld (R.ENG_ROLE_EPOCH r) = (s.fld (R.ENG_ROLE_EPOCH r) + 1) % 256 :=
  State.fld_setFld_same _ _ _

theorem bumpEpoch_holder (s : State) (r q : Nat) : (s.bumpEpoch r).holder q = s.holder q := by
  have hf : (s.bumpEpoch r).fld (R.ENG_ROLE_HOLDER q) = s.fld (R.ENG_ROLE_HOLDER q) := by
    refine State.fld_setFld_ne s _ ?_
    simp only [Fld.key, R.ENG_ROLE_HOLDER, R.ENG_ROLE_EPOCH]
    omega
  rw [State.holder, State.holder, hf]

/-- A move touches the role's own entry of the table, and ROLE_UNHELD. -/
def moveFields (r : Nat) : List Fld := [R.ENG_ROLE_EPOCH r, R.ENG_ROLE_HOLDER r, R.ENGC_EVENTS_ROLE_UNHELD]

theorem RoleKept.others {s t : State} {r : Nat} (h : RoleKept s t (R.ENG_ROLE_RESULT_RESULT :: R.ENG_ROLE_RESULT_SEQ :: moveFields r)) {q : Nat} (hq : q < 64) (hne : q ≠ r) :
    t.holder q = s.holder q ∧ t.fld (R.ENG_ROLE_EPOCH q) = s.fld (R.ENG_ROLE_EPOCH q) := by
  have hkeys : ∀ g ∈ R.ENG_ROLE_RESULT_RESULT :: R.ENG_ROLE_RESULT_SEQ :: moveFields r,
      (R.ENG_ROLE_HOLDER q).key ≠ g.key ∧ (R.ENG_ROLE_EPOCH q).key ≠ g.key := by
    simp only [moveFields, List.forall_mem_cons, Fld.key, R.ENG_ROLE_HOLDER, R.ENG_ROLE_EPOCH, R.ENGC_EVENTS_ROLE_UNHELD,
      R.ENG_ROLE_RESULT_RESULT, R.ENG_ROLE_RESULT_SEQ]
    exact ⟨by omega, by omega, by omega, by omega, by omega, by simp⟩
  have hf := h.1 _ (holder_key_lt hq).1 fun g hg => (hkeys g hg).1
  exact ⟨by rw [State.holder, State.holder, hf], h.1 _ (holder_key_lt hq).2 fun g hg => (hkeys g hg).2⟩

/-- A role that moves to an engine with its advance (R291). -/
theorem move_some_spec (s : State) {r : Nat} (n : Nat) (hr : r < 64) (fence : Bool) :
    RoleKept s ((s.bumpEpoch r).giveRole r (some n) fence) (moveFields r) ∧
    ((s.bumpEpoch r).giveRole r (some n) fence).fld (R.ENG_ROLE_EPOCH r) = (s.fld (R.ENG_ROLE_EPOCH r) + 1) % 256 ∧
    (n < 8 → RoleArrived ((s.bumpEpoch r).giveRole r (some n) fence) r n) ∧
      (fence = false → ∀ h, s.holder r = some h → RoleLeft ((s.bumpEpoch r).giveRole r (some n) fence) r h) := by
  obtain ⟨hkept, harr, hleft⟩ := giveRole_some_spec (s.bumpEpoch r) n hr fence
  refine ⟨((roleKept_bumpEpoch s r).mono (by simp [moveFields])).trans (hkept.mono (by simp [moveFields])), ?_, harr,
    fun hf h hh => hleft hf h ((bumpEpoch_holder s r r).trans hh)⟩
  refine (hkept.1 _ (holder_key_lt hr).2 ?_).trans (bumpEpoch_epoch s r)
  simp only [List.mem_singleton, forall_eq, Fld.key, R.ENG_ROLE_HOLDER, R.ENG_ROLE_EPOCH]
  omega

/-- A role that loses its engine. -/
theorem move_none_spec (s : State) {r : Nat} (hr : r < 64) (fence : Bool) :
    RoleKept s ((s.bumpEpoch r).giveRole r none fence) (moveFields r) ∧
    ((s.bumpEpoch r).giveRole r none fence).fld (R.ENG_ROLE_EPOCH r) = (s.fld (R.ENG_ROLE_EPOCH r) + 1) % 256 ∧
    ((s.bumpEpoch r).giveRole r none fence).holder r = none ∧
    ((s.bumpEpoch r).giveRole r none fence).fld R.ENGC_EVENTS_ROLE_UNHELD = 1 := by
  obtain ⟨hkept, hnone, hflag⟩ := roleUnheld_spec (s.bumpEpoch r) hr ((s.bumpEpoch r).holder r)
  have hout : EventKept ((s.bumpEpoch r).roleUnheld r ((s.bumpEpoch r).holder r)) ((s.bumpEpoch r).giveRole r none fence) := by
    change EventKept _ (match (s.bumpEpoch r).holder r with
      | some h => if fence then (s.bumpEpoch r).roleUnheld r ((s.bumpEpoch r).holder r)
        else ((s.bumpEpoch r).roleUnheld r ((s.bumpEpoch r).holder r)).roleOut r h
      | none => (s.bumpEpoch r).roleUnheld r ((s.bumpEpoch r).holder r))
    split
    · split
      · exact EventKept.refl _
      · exact (roleOut_spec _ r _).1
    · exact EventKept.refl _
  have hepoch : ∀ g ∈ [R.ENG_ROLE_HOLDER r, R.ENGC_EVENTS_ROLE_UNHELD], (R.ENG_ROLE_EPOCH r).key ≠ g.key := by
    simp only [List.forall_mem_cons, Fld.key, R.ENG_ROLE_HOLDER, R.ENG_ROLE_EPOCH, R.ENGC_EVENTS_ROLE_UNHELD]
    exact ⟨by omega, by omega, by simp⟩
  refine ⟨((roleKept_bumpEpoch s r).mono (by simp [moveFields])).trans ((hkept.mono (by simp [moveFields])).trans (hout.1.mono (by simp))),
    ?_, (hout.holder hr).trans hnone, (hout.1.1 _ (by decide) (by simp)).trans hflag⟩
  exact (hout.1.1 _ (holder_key_lt hr).2 (by simp)).trans ((hkept.1 _ (holder_key_lt hr).2 hepoch).trans (bumpEpoch_epoch s r))

/-- A move with its advance, to whatever holder. -/
theorem move_spec (s : State) {r : Nat} (dst : Option Nat) (hr : r < 64) (fence : Bool) :
    RoleKept s ((s.bumpEpoch r).giveRole r dst fence) (moveFields r) ∧
      ((s.bumpEpoch r).giveRole r dst fence).fld (R.ENG_ROLE_EPOCH r) = (s.fld (R.ENG_ROLE_EPOCH r) + 1) % 256 := by
  cases dst with
  | none => exact ⟨(move_none_spec s hr fence).1, (move_none_spec s hr fence).2.1⟩
  | some n => exact ⟨(move_some_spec s n hr fence).1, (move_some_spec s n hr fence).2.1⟩

/-- Every move stays within the role's entry; all but a take that falls away advance the epoch. -/
theorem moveNow_spec (s : State) {r : Nat} (m : RoleMove) (hr : r < 64) : RoleKept s (s.moveNow r m) (moveFields r) ∧
    ((∀ n, m ≠ .take n) → (s.moveNow r m).fld (R.ENG_ROLE_EPOCH r) = (s.fld (R.ENG_ROLE_EPOCH r) + 1) % 256) := by
  have hmove (dst : Option Nat) (fence : Bool) := move_spec s dst hr fence
  unfold State.moveNow
  split
  · exact ⟨(roleKept_bumpEpoch s r).mono (by simp [moveFields]), fun _ => bumpEpoch_epoch s r⟩
  · exact ⟨(hmove _ _).1, fun _ => (hmove _ _).2⟩
  · exact ⟨(hmove _ _).1, fun _ => (hmove _ _).2⟩
  · next n =>
    refine ⟨?_, fun h => absurd rfl (h n)⟩
    split
    · exact (hmove _ _).1
    · exact RoleKept.refl s _
  · exact ⟨(hmove _ _).1, fun _ => (hmove _ _).2⟩

/-- A role that went to an engine of the eight. -/
def RoleMoved (s u : State) (r : Fin 64) (n : Fin 8) : Prop :=
  RoleArrived u r n ∧ ∀ h : Fin 8, s.holder r = some h.val → RoleLeft u r h

theorem moveNow_to {s : State} {r : Fin 64} {n : Fin 8} (hn : s.engState n = 1) : RoleMoved s (s.moveNow r (.to n)) r n := by
  have hto : s.moveNow r (.to n) = (s.bumpEpoch r).giveRole r (some n.val) false := by
    rw [State.moveNow, if_pos hn]
  obtain ⟨-, -, harr, hleft⟩ := move_some_spec s n.val r.isLt false
  rw [hto]
  exact ⟨harr n.isLt, fun h hh => hleft rfl h hh⟩

theorem moveNow_take {s : State} {r : Fin 64} {n : Fin 8} (hn : s.engState n = 1) (hh : s.holder r = none) :
    RoleMoved s (s.moveNow r (.take n)) r n ∧
      (s.moveNow r (.take n)).fld (R.ENG_ROLE_EPOCH r) = (s.fld (R.ENG_ROLE_EPOCH r) + 1) % 256 := by
  have htake : s.moveNow r (.take n) = (s.bumpEpoch r).giveRole r (some n.val) false := by
    rw [State.moveNow, if_pos ⟨hh, hn⟩]
  obtain ⟨-, hepoch, harr, hleft⟩ := move_some_spec s n.val r.isLt false
  rw [htake]
  exact ⟨⟨harr n.isLt, fun h hh => hleft rfl h hh⟩, hepoch⟩

theorem epochFree_iff (s : State) (r : Nat) : s.epochFree r = true ↔
    ¬ (Tab.get (fun _ => 0) s.eng.roleAt r ≠ 0 ∧ s.tb.elapsed + 1 < Tab.get (fun _ => 0) s.eng.roleAt r + 100 * 65536000) := by
  rw [State.epochFree, Bool.or_eq_true, beq_iff_eq, decide_eq_true_eq, epochGap, fuPerUs]
  omega

theorem heldMoves_setHeldMoves (s : State) (r : Nat) (l : List RoleMove) : (s.setHeldMoves r l).heldMoves r = l :=
  Tab.get_set_same _ _ _ _

theorem RoleKept.heldMoves {s t : State} {l : List Fld} (h : RoleKept s t l) (r : Nat) : t.heldMoves r = s.heldMoves r := by
  rw [State.heldMoves, State.heldMoves, h.2]

/-! ### Commands -/

/-- A ROLE_CMD shows its code. -/
def State.showRole (s : State) (code : Nat) : State := (s.setFld R.ENG_ROLE_RESULT_RESULT code).next R.ENG_ROLE_RESULT_SEQ

theorem exec_roleCmd {s : State} {r : Fin 64} {dst : Fin 8} {code : Nat} (hp : s.powered = true) (hc : s.roleCode r dst = code) :
    exec (.roleCmd r dst) s = .next ((if code = 0 then s.moveRole r (.to dst) else s).showRole code) := by
  subst hc
  exact State.live_next _ hp

theorem showRole_spec (s : State) {code : Nat} (hc : code < 8) : (s.showRole code).fld R.ENG_ROLE_RESULT_RESULT = code ∧
    (s.showRole code).fld R.ENG_ROLE_RESULT_SEQ = (s.fld R.ENG_ROLE_RESULT_SEQ + 1) % 2 ^ R.ENG_ROLE_RESULT_SEQ.width ∧
    OnlyFields s (s.showRole code) [R.ENG_ROLE_RESULT_RESULT, R.ENG_ROLE_RESULT_SEQ] := by
  refine ⟨?_, ?_, ((OnlyFields.refl s _).setFld _ (by simp)).setFld _ (by simp)⟩
  · rw [State.showRole, State.fld_next, if_neg (by decide), State.fld_setFld_same]
    exact Nat.mod_eq_of_lt hc
  · rw [State.showRole, State.fld_next, if_pos rfl, State.fld_setFld_ne _ _ (by decide)]

theorem does_roleCmd_refused {s : State} {r : Fin 64} {dst : Fin 8} {code : Nat} (hp : s.powered = true) (hc : s.roleCode r dst = code)
    (h0 : code ≠ 0) (h8 : code < 8) : Does (.roleCmd r dst) s fun u =>
      (u.fld R.ENG_ROLE_RESULT_RESULT = code ∧
        u.fld R.ENG_ROLE_RESULT_SEQ = (s.fld R.ENG_ROLE_RESULT_SEQ + 1) % 2 ^ R.ENG_ROLE_RESULT_SEQ.width) ∧
      OnlyFields s u [R.ENG_ROLE_RESULT_RESULT, R.ENG_ROLE_RESULT_SEQ] := by
  obtain ⟨hres, hseq, honly⟩ := showRole_spec s h8
  refine does_next (exec_roleCmd hp hc) ?_
  rw [if_neg h0]
  exact ⟨⟨hres, hseq⟩, honly⟩

/-- A role that moved: the statement's own form. -/
theorem RoleMoved.out {s u : State} {r : Fin 64} {n : Fin 8} (h : RoleMoved s u r n)
    (hothers : ∀ q : Fin 64, q ≠ r → u.holder q = s.holder q ∧ u.fld (R.ENG_ROLE_EPOCH q) = s.fld (R.ENG_ROLE_EPOCH q))
    (hmem : MemKept s u) :
    u.holder r = some n.val ∧ (∀ q : Fin 64, q ≠ r → u.holder q = s.holder q ∧ u.fld (R.ENG_ROLE_EPOCH q) = s.fld (R.ENG_ROLE_EPOCH q)) ∧
    (u.fld (R.ENG_THR_STATE_W1_PENDING n 0)).testBit 17 = true ∧
    (u.fld (if r.val < 32 then R.ENG_ROLE_ARRIVED_LO_ROLES n else R.ENG_ROLE_ARRIVED_HI_ROLES n)).testBit (r.val % 32) = true ∧
    (∀ h : Fin 8, s.holder r = some h.val → (u.fld (R.ENG_THR_STATE_W1_PENDING h 0)).testBit 18 = true ∧
      (u.fld (if r.val < 32 then R.ENG_ROLE_LEFT_LO_ROLES h else R.ENG_ROLE_LEFT_HI_ROLES h)).testBit (r.val % 32) = true) ∧
    MemKept s u := by
  obtain ⟨⟨hh, hpend, hbit⟩, hleft⟩ := h
  exact ⟨hh, hothers, hpend, hbit, hleft, hmem⟩

theorem eventKept_showRole (s : State) (code : Nat) (hc : code < 8) : ∀ f : Fld, f.key ≠ R.ENG_ROLE_RESULT_RESULT.key →
    f.key ≠ R.ENG_ROLE_RESULT_SEQ.key → (s.showRole code).fld f = s.fld f := by
  obtain ⟨-, -, honly⟩ := showRole_spec s hc
  exact fun f h1 h2 => honly.2 f (by simpa using ⟨h1, h2⟩)

/-- The answer of a ROLE_CMD does not touch what the move left. -/
theorem RoleMoved.showRole {s u : State} {r : Fin 64} {n : Fin 8} (h : RoleMoved s u r n) : RoleMoved s (u.showRole 0) r n := by
  have hkept {f : Fld} (hf : f.key < R.ENG_ROLE_RESULT_RESULT.key ∨ R.ENG_ROLE_RESULT_SEQ.key < f.key) : (u.showRole 0).fld f = u.fld f := by
    have hlt : R.ENG_ROLE_RESULT_RESULT.key < R.ENG_ROLE_RESULT_SEQ.key := by decide
    exact eventKept_showRole u 0 (by decide) f (by omega) (by omega)
  have hseq : R.ENG_ROLE_RESULT_SEQ.key = 0x050B0014 * 32 + 8 := rfl
  have hr := r.isLt
  have hpend (k : Nat) : (u.showRole 0).fld (R.ENG_THR_STATE_W1_PENDING k 0) = u.fld (R.ENG_THR_STATE_W1_PENDING k 0) :=
    hkept (Or.inr (by rw [hseq]; simp only [Fld.key, R.ENG_THR_STATE_W1_PENDING]; omega))
  have hholder : (u.showRole 0).fld (R.ENG_ROLE_HOLDER r) = u.fld (R.ENG_ROLE_HOLDER r) :=
    hkept (Or.inr (by rw [hseq]; simp only [Fld.key, R.ENG_ROLE_HOLDER]; omega))
  have harr (k : Nat) : (u.showRole 0).fld (if r.val < 32 then R.ENG_ROLE_ARRIVED_LO_ROLES k else R.ENG_ROLE_ARRIVED_HI_ROLES k) =
      u.fld (if r.val < 32 then R.ENG_ROLE_ARRIVED_LO_ROLES k else R.ENG_ROLE_ARRIVED_HI_ROLES k) :=
    hkept (Or.inr (by rw [hseq]; split <;> simp only [Fld.key, R.ENG_ROLE_ARRIVED_LO_ROLES, R.ENG_ROLE_ARRIVED_HI_ROLES] <;> omega))
  have hleave (k : Nat) : (u.showRole 0).fld (if r.val < 32 then R.ENG_ROLE_LEFT_LO_ROLES k else R.ENG_ROLE_LEFT_HI_ROLES k) =
      u.fld (if r.val < 32 then R.ENG_ROLE_LEFT_LO_ROLES k else R.ENG_ROLE_LEFT_HI_ROLES k) :=
    hkept (Or.inr (by rw [hseq]; split <;> simp only [Fld.key, R.ENG_ROLE_LEFT_LO_ROLES, R.ENG_ROLE_LEFT_HI_ROLES] <;> omega))
  obtain ⟨⟨hh, hp, hb⟩, hleft⟩ := h
  refine ⟨⟨?_, ?_, ?_⟩, fun h hh => ⟨?_, ?_⟩⟩
  · rw [State.holder, hholder]
    exact hh
  · rw [hpend]
    exact hp
  · rw [harr]
    exact hb
  · rw [hpend]
    exact (hleft h hh).1
  · rw [hleave]
    exact (hleft h hh).2

/-- A role that the command moves at once, or whose move waits. -/
theorem does_roleCmd {s : State} {r : Fin 64} {dst : Fin 8} (hp : s.powered = true) (hc : s.roleCode r dst = 0) (hst : s.engState dst = 1) :
    Does (.roleCmd r dst) s fun u =>
      (u.fld R.ENG_ROLE_RESULT_RESULT = 0 ∧
        u.fld R.ENG_ROLE_RESULT_SEQ = (s.fld R.ENG_ROLE_RESULT_SEQ + 1) % 2 ^ R.ENG_ROLE_RESULT_SEQ.width) ∧ MemKept s u ∧
      if s.heldMoves r = [] ∧ s.epochFree r = true then
        RoleMoved s u r dst ∧ RoleKept s u (R.ENG_ROLE_RESULT_RESULT :: R.ENG_ROLE_RESULT_SEQ :: moveFields r) ∧
          u.fld (R.ENG_ROLE_EPOCH r) = (s.fld (R.ENG_ROLE_EPOCH r) + 1) % 256
      else u.heldMoves r = s.heldMoves r ++ [.to dst] ∧ u.eng.thr = s.eng.thr ∧
        FieldsKept s u [R.ENG_ROLE_RESULT_RESULT, R.ENG_ROLE_RESULT_SEQ] := by
  refine does_next (exec_roleCmd hp hc) ?_
  rw [if_pos rfl, State.moveRole]
  by_cases hnow : s.heldMoves r = [] ∧ s.epochFree r = true
  · rw [if_pos hnow, if_pos hnow]
    have hmoved := moveNow_to (s := s) (r := r) (n := dst) hst
    obtain ⟨hkept, hepoch⟩ := moveNow_spec s (.to dst.val) r.isLt
    have hmem := s.moveNow_memory r (.to dst.val)
    generalize s.moveNow r (.to dst.val) = v at hmoved hkept hepoch hmem
    obtain ⟨hres, hseq, honly⟩ := showRole_spec v (code := 0) (by decide)
    have hseqv : v.fld R.ENG_ROLE_RESULT_SEQ = s.fld R.ENG_ROLE_RESULT_SEQ := by
      refine hkept.1 _ (by decide) ?_
      simp only [moveFields, List.forall_mem_cons, Fld.key, R.ENG_ROLE_HOLDER, R.ENG_ROLE_EPOCH, R.ENGC_EVENTS_ROLE_UNHELD,
        R.ENG_ROLE_RESULT_SEQ]
      exact ⟨by omega, by omega, by omega, by simp⟩
    have hep : (v.showRole 0).fld (R.ENG_ROLE_EPOCH r) = v.fld (R.ENG_ROLE_EPOCH r) := by
      refine honly.2 _ ?_
      simp only [List.forall_mem_cons, Fld.key, R.ENG_ROLE_EPOCH, R.ENG_ROLE_RESULT_SEQ, R.ENG_ROLE_RESULT_RESULT]
      exact ⟨by omega, by omega, by simp⟩
    refine ⟨⟨hres, hseqv ▸ hseq⟩, memKept_of_memory hmem, hmoved.showRole, ?_, hep.trans (hepoch (by simp))⟩
    exact (hkept.mono (by simp +contextual)).trans (((RoleKept.refl v _).setFld _ (by simp)).setFld _ (by simp))
  · rw [if_neg hnow, if_neg hnow]
    obtain ⟨hres, hseq, honly⟩ := showRole_spec (s.setHeldMoves r (s.heldMoves r ++ [.to dst.val])) (code := 0) (by decide)
    exact ⟨⟨hres, hseq⟩, memKept_of_memory rfl, heldMoves_setHeldMoves s r _, rfl, honly.2⟩

theorem exec_epochAdvanceDeferred {s : State} (r : Fin 64) (hp : s.powered = true) :
    exec (.epochAdvanceDeferred r) s = .next (s.heldEpoch r) := State.live_next _ hp

theorem State.heldEpoch_go {s : State} {r : Nat} {m : RoleMove} {l : List RoleMove} (h : s.heldMoves r = m :: l)
    (hgo : s.epochFree r = true ∧ (m = .self ∨ ¬ s.rolesFenced = true)) : s.heldEpoch r = (s.setHeldMoves r l).moveNow r m := by
  rw [State.heldEpoch, h]
  exact if_pos hgo

theorem State.heldEpoch_stay {s : State} {r : Nat} {m : RoleMove} {l : List RoleMove} (h : s.heldMoves r = m :: l)
    (hgo : ¬ (s.epochFree r = true ∧ (m = .self ∨ ¬ s.rolesFenced = true))) : s.heldEpoch r = s := by
  rw [State.heldEpoch, h]
  exact if_neg hgo

theorem State.heldEpoch_nil {s : State} {r : Nat} (h : s.heldMoves r = []) : s.heldEpoch r = s := by
  rw [State.heldEpoch, h]

/-- What the oldest waiting move does, by its kind. -/
theorem moveNow_kinds (s : State) (r : Fin 64) (m : RoleMove) :
    (m = .self → FieldsKept s (s.moveNow r m) [R.ENG_ROLE_EPOCH r]) ∧
    (∀ n, m = .take n → (s.engState n ≠ 1 ∨ s.holder r ≠ none) → FieldsKept s (s.moveNow r m) []) ∧
    (∀ f, m = .plan f → ∀ n : Fin 8, s.planTarget r = some n.val → (s.moveNow r m).holder r = some n.val ∧
      ((s.moveNow r m).fld (R.ENG_THR_STATE_W1_PENDING n 0)).testBit 17 = true) ∧
    (m = .unhold → (s.moveNow r m).holder r = none ∧ (s.moveNow r m).fld R.ENGC_EVENTS_ROLE_UNHELD = 1) := by
  refine ⟨?_, ?_, ?_, ?_⟩
  · rintro rfl
    exact FieldsKept.of_regs ((FieldsKept.refl s _).next (List.mem_singleton_self _)) rfl
  · rintro n rfl hn
    have hstay : s.moveNow r (.take n) = s := if_neg (by rintro ⟨h1, h2⟩; exact hn.elim (· h2) (· h1))
    rw [hstay]
    exact FieldsKept.refl s []
  · rintro f rfl n hplan
    have hgo : s.moveNow r (.plan f) = (s.bumpEpoch r).giveRole r (some n.val) f := by rw [State.moveNow, hplan]
    obtain ⟨-, -, harr, -⟩ := move_some_spec s n.val r.isLt f
    obtain ⟨hh, hpend, -⟩ := harr n.isLt
    rw [hgo]
    exact ⟨hh, hpend⟩
  · rintro rfl
    obtain ⟨-, -, hnone, hflag⟩ := move_none_spec s r.isLt true
    exact ⟨hnone, hflag⟩

/-- Settles O39: a refused command writes its answer only; a move stays within the role's own entry of the table, since the events
that it raises stand above the table, whatever thread a ring names. -/
theorem roleCommands : Obligations.RoleCommands := by
  unfold Obligations.RoleCommands
  intro answered refused defined young bit moved
  have hdef {s : State} {r : Fin 64} (h : defined s r) : s.flag (R.ENG_ROLE_DEFINED r) = true := by
    rw [State.flag]
    exact bne_iff_ne.2 h
  refine ⟨?undefined, ?self, ?same, ?stopped, ?fenced, ?go, ?held, ?stay, ?none⟩
  case undefined =>
    intro s r dst hp hf hd
    refine does_roleCmd_refused hp ?_ (by decide) (by decide)
    have hd' : ¬ s.flag (R.ENG_ROLE_DEFINED r) = true := fun h => hd (bne_iff_ne.1 h)
    rw [State.roleCode, hf, if_neg Bool.false_ne_true, if_pos hd']
  case self =>
    intro s r dst hp hf hd hr
    refine does_roleCmd_refused hp ?_ (by decide) (by decide)
    rw [State.roleCode, hf, if_neg Bool.false_ne_true, if_neg (not_not.2 (hdef hd)), if_pos hr]
  case same =>
    intro s r dst hp hf hd hr hh
    refine does_roleCmd_refused hp ?_ (by decide) (by decide)
    rw [State.roleCode, hf, if_neg Bool.false_ne_true, if_neg (not_not.2 (hdef hd)), if_neg (by omega), if_pos hh]
  case stopped =>
    intro s r dst hp hf hd hr hh hst
    refine does_roleCmd_refused hp ?_ (by decide) (by decide)
    rw [State.roleCode, hf, if_neg Bool.false_ne_true, if_neg (not_not.2 (hdef hd)), if_neg (by omega), if_neg hh, if_pos hst]
  case fenced =>
    intro s r dst hp hf
    refine does_roleCmd_refused hp ?_ (by decide) (by decide)
    rw [State.roleCode, if_pos hf]
  case go =>
    intro s r dst hp hf hd hr hh hst
    have hcode : s.roleCode r dst = 0 := by
      rw [State.roleCode, hf, if_neg Bool.false_ne_true, if_neg (not_not.2 (hdef hd)), if_neg (by omega), if_neg hh,
        if_neg (not_not.2 hst)]
    refine (does_roleCmd hp hcode hst).mono fun u hu => ?_
    obtain ⟨hans, hmem, hcase⟩ := hu
    refine ⟨hans, ?_⟩
    by_cases hnow : s.heldMoves r = [] ∧ ¬ young s r
    · rw [if_pos ⟨hnow.1, (epochFree_iff s r).2 hnow.2⟩] at hcase
      rw [if_pos hnow]
      obtain ⟨hmoved, hkept, hepoch⟩ := hcase
      exact ⟨hmoved.out (fun q hq => hkept.others q.isLt (Fin.val_ne_of_ne hq)) hmem, hepoch, (hkept.heldMoves r).trans hnow.1⟩
    · rw [if_neg fun h => hnow ⟨h.1, (epochFree_iff s r).1 h.2⟩] at hcase
      rw [if_neg hnow]
      obtain ⟨hheld, hthr, hfields⟩ := hcase
      exact ⟨hheld, hthr, hmem, hfields⟩
  case held =>
    intro s r m l hp hheld hy hm
    refine does_next (exec_epochAdvanceDeferred r hp) ?_
    have hm' : m = .self ∨ ¬ s.rolesFenced = true := hm.imp_right fun h => by rw [h]; exact Bool.false_ne_true
    rw [State.heldEpoch_go hheld ⟨(epochFree_iff s r).2 hy, hm'⟩]
    obtain ⟨hkept, hepoch⟩ := moveNow_spec (s.setHeldMoves r l) m r.isLt
    obtain ⟨hself, hfalls, hplan, hunhold⟩ := moveNow_kinds (s.setHeldMoves r l) r m
    have hmem : MemKept s ((s.setHeldMoves r l).moveNow r m) := memKept_of_memory (State.moveNow_memory _ _ _)
    have hothers (q : Fin 64) (hq : q ≠ r) := (hkept.mono (l' := R.ENG_ROLE_RESULT_RESULT :: R.ENG_ROLE_RESULT_SEQ :: moveFields r)
      (by simp +contextual)).others q.isLt (Fin.val_ne_of_ne hq)
    refine ⟨(hkept.heldMoves r).trans (heldMoves_setHeldMoves s r l), hothers, hself, hepoch, ?_, ?_, hfalls, hplan, hunhold, hmem⟩
    · rintro n rfl hst
      have hmoved : RoleMoved (s.setHeldMoves r l) _ r n := moveNow_to hst
      exact RoleMoved.out (s := s) hmoved hothers hmem
    · rintro n rfl hst hnone
      have hmoved : RoleMoved (s.setHeldMoves r l) _ r n ∧ _ := moveNow_take hst hnone
      exact ⟨RoleMoved.out (s := s) hmoved.1 hothers hmem, hmoved.2⟩
  case stay =>
    intro s r m l hp hheld hno
    refine ignores_next (exec_epochAdvanceDeferred r hp) (State.heldEpoch_stay hheld ?_)
    rintro ⟨hfree, hself⟩
    rcases hno with hy | ⟨hne, hfenced⟩
    · exact (epochFree_iff s r).1 hfree hy
    · exact hself.elim hne (· hfenced)
  case none =>
    intro s r hp hheld
    exact ignores_next (exec_epochAdvanceDeferred r hp) (State.heldEpoch_nil hheld)

end Sys2Proof.Machine


/-! O28: an undefined word fences the engine and traps its thread (11 R309, R340, 10 R295). What the fence does beside stays away
from the thread: the registers that a report, a role's move or an event writes are others. -/
namespace Sys2Proof.Machine

/-! ### What the fence leaves of the thread that traps -/

/-- A field that is none of those by which the trap of thread t of engine e is known. -/
def Fld.Apart (f : Fld) (e t : Nat) : Prop :=
  f.key ≠ (R.ENG_FENCE_VEC_VEC e).key ∧ f.key ≠ (R.ENG_STATE_STATE e).key ∧ f.key ≠ R.PWR_STATUS_STATE.key ∧
    f.key ≠ R.PWR_STATUS_ENTERING.key ∧ f.key ≠ (R.FLT_SRC_LAST_CLASS (0x068 + e)).key ∧
    f.key ≠ (R.FLT_SRC_LAST_CAUSE (0x068 + e)).key ∧ f.key ≠ (R.ENG_THR_STATE_W0_TSTATE e t).key

/-- Those fields, with the thread state of a READY thread and fs, are as before. -/
def TrapKept (e t : Nat) (s u : State) : Prop :=
  (∀ f ∈ [R.ENG_FENCE_VEC_VEC e, R.ENG_STATE_STATE e, R.PWR_STATUS_STATE, R.PWR_STATUS_ENTERING, R.FLT_SRC_LAST_CLASS (0x068 + e),
    R.FLT_SRC_LAST_CAUSE (0x068 + e)], u.fld f = s.fld f) ∧
  (s.tstate e t = 1 → u.tstate e t = 1) ∧ (u.thread e t).fs = (s.thread e t).fs

section
variable {e t : Nat} {s u v : State}

theorem TrapKept.refl (s : State) : TrapKept e t s s := ⟨fun _ _ => rfl, id, rfl⟩

theorem TrapKept.trans (h : TrapKept e t s u) (h' : TrapKept e t u v) : TrapKept e t s v :=
  ⟨fun f hf => (h'.1 f hf).trans (h.1 f hf), fun hs => h'.2.1 (h.2.1 hs), h'.2.2.trans h.2.2⟩

theorem TrapKept.of_regs (hr : u.regs = s.regs) (ht : u.eng.thr = s.eng.thr) : TrapKept e t s u :=
  ⟨fun f _ => State.fld_congr hr f, fun h => (State.fld_congr hr _).trans h, by rw [State.thread, State.thread, ht]⟩

theorem trapKept_ite {c : Prop} [Decidable c] (hu : TrapKept e t s u) (hv : TrapKept e t s v) : TrapKept e t s (if c then u else v) := by
  split <;> assumption

theorem trapKept_setFld (s : State) {g : Fld} (n : Nat) (hg : g.Apart e t) : TrapKept e t s (s.setFld g n) := by
  obtain ⟨h1, h2, h3, h4, h5, h6, h7⟩ := hg
  refine ⟨?_, fun h => (State.fld_setFld_ne s n h7.symm).trans h, rfl⟩
  simp only [List.forall_mem_cons]
  exact ⟨State.fld_setFld_ne s n h1.symm, State.fld_setFld_ne s n h2.symm, State.fld_setFld_ne s n h3.symm,
    State.fld_setFld_ne s n h4.symm, State.fld_setFld_ne s n h5.symm, State.fld_setFld_ne s n h6.symm, by simp⟩

/-- A thread goes on: it is READY then, whichever it is. -/
theorem trapKept_setTstate_one (s : State) (e' t' : Nat) : TrapKept e t s (s.setTstate e' t' 1) := by
  refine ⟨fun f hf => State.fld_setFld_ne s 1 ?_, fun h => ?_, rfl⟩
  · revert f
    simp only [List.forall_mem_cons, Fld.key, R.ENG_FENCE_VEC_VEC, R.ENG_STATE_STATE, R.PWR_STATUS_STATE, R.PWR_STATUS_ENTERING,
      R.FLT_SRC_LAST_CLASS, R.FLT_SRC_LAST_CAUSE, R.ENG_THR_STATE_W0_TSTATE]
    exact ⟨by omega, by omega, by omega, by omega, by omega, by omega, by simp⟩
  · by_cases hk : (R.ENG_THR_STATE_W0_TSTATE e t).key = (R.ENG_THR_STATE_W0_TSTATE e' t').key
    · rw [State.tstate, State.fld, hk]
      exact State.fld_setFld_same s _ 1
    · exact (State.fld_setFld_ne s 1 hk).trans h

theorem trapKept_setThread (s : State) (e' t' : Nat) {x : Thread} (hx : x.fs = (s.thread e' t').fs) :
    TrapKept e t s (s.setThread e' t' x) := by
  refine ⟨fun _ _ => rfl, id, ?_⟩
  by_cases hi : 4 * e + t = 4 * e' + t'
  · have hsame : (s.setThread e' t' x).thread e t = x := by
      rw [State.thread, hi]
      exact State.thread_setThread_same s e' t' x
    have hold : s.thread e t = s.thread e' t' := by rw [State.thread, State.thread, hi]
    rw [hsame, hold, hx]
  · rw [State.thread_setThread_ne s x hi]

theorem trapKept_wakeThread (s : State) (e' t' : Nat) : TrapKept e t s (s.wakeThread e' t') := by
  unfold State.wakeThread
  refine trapKept_ite (TrapKept.trans (trapKept_setThread s e' t' ?_) (trapKept_setTstate_one _ e' t')) (TrapKept.refl s)
  rw [Thread.setGpr_frame]

theorem apart_pending (e t e' t' : Nat) : (R.ENG_THR_STATE_W1_PENDING e' t').Apart e t := by
  simp only [Fld.Apart, Fld.key, R.ENG_FENCE_VEC_VEC, R.ENG_STATE_STATE, R.PWR_STATUS_STATE, R.PWR_STATUS_ENTERING,
    R.FLT_SRC_LAST_CLASS, R.FLT_SRC_LAST_CAUSE, R.ENG_THR_STATE_W0_TSTATE, R.ENG_THR_STATE_W1_PENDING]
  omega

/-- An event at any thread, a raw one too. -/
theorem trapKept_raiseEvent (s : State) (e' t' k : Nat) : TrapKept e t s (s.raiseEvent e' t' k) := by
  unfold State.raiseEvent
  refine TrapKept.trans (TrapKept.trans (trapKept_setFld s _ (apart_pending e t e' t')) (trapKept_setThread _ e' t' ?_))
    (trapKept_wakeThread _ e' t')
  split <;> rfl

theorem trapKept_foldl {β : Type} {f : State → β → State} (l : List β) (hf : ∀ s, ∀ b ∈ l, TrapKept e t s (f s b)) (s : State) :
    TrapKept e t s (l.foldl f s) := by
  induction l generalizing s with
  | nil => exact TrapKept.refl s
  | cons b r ih => exact (hf s b List.mem_cons_self).trans (ih (fun s c hc => hf s c (List.mem_cons_of_mem b hc)) _)

/-! ### Reports and roles -/

theorem apart_of_collects {f : Fld} (he : e < 8) (ht : t < 4) (hf : f.collects) : f.Apart e t := by
  rw [Fld.collects] at hf
  rw [Fld.Apart]
  generalize f.key = k at hf ⊢
  simp only [Fld.key, R.ENG_FENCE_VEC_VEC, R.ENG_STATE_STATE, R.PWR_STATUS_STATE, R.PWR_STATUS_ENTERING, R.FLT_SRC_LAST_CLASS,
    R.FLT_SRC_LAST_CAUSE, R.ENG_THR_STATE_W0_TSTATE]
  omega

/-- A write to the role table and what stands before it. -/
theorem apart_of_low {f : Fld} (he : e < 8) (ht : t < 4) (hf : f.key < roleEnd) : f.Apart e t := by
  rw [roleEnd] at hf
  rw [Fld.Apart]
  generalize f.key = k at hf ⊢
  simp only [Fld.key, R.ENG_FENCE_VEC_VEC, R.ENG_STATE_STATE, R.PWR_STATUS_STATE, R.PWR_STATUS_ENTERING, R.FLT_SRC_LAST_CLASS,
    R.FLT_SRC_LAST_CAUSE, R.ENG_THR_STATE_W0_TSTATE]
  omega

theorem trapKept_engineBit (s : State) {lo hi : Fld} (hlo : lo.Apart e t) (hhi : hi.Apart e t) (r : Nat) :
    TrapKept e t s (engineBit lo hi s r) := by
  unfold engineBit
  exact trapKept_setFld s _ (by split <;> assumption)

theorem apart_arrived (e t n : Nat) :
    (R.ENG_ROLE_ARRIVED_LO_ROLES n).Apart e t ∧ (R.ENG_ROLE_ARRIVED_HI_ROLES n).Apart e t ∧
      (R.ENG_ROLE_LEFT_LO_ROLES n).Apart e t ∧ (R.ENG_ROLE_LEFT_HI_ROLES n).Apart e t := by
  simp only [Fld.Apart, Fld.key, R.ENG_FENCE_VEC_VEC, R.ENG_STATE_STATE, R.PWR_STATUS_STATE, R.PWR_STATUS_ENTERING,
    R.FLT_SRC_LAST_CLASS, R.FLT_SRC_LAST_CAUSE, R.ENG_THR_STATE_W0_TSTATE, R.ENG_ROLE_ARRIVED_LO_ROLES, R.ENG_ROLE_ARRIVED_HI_ROLES,
    R.ENG_ROLE_LEFT_LO_ROLES, R.ENG_ROLE_LEFT_HI_ROLES]
  refine ⟨?_, ?_, ?_, ?_⟩ <;> omega

theorem trapKept_ringArrive (s : State) (r : Nat) : TrapKept e t s (s.ringArrive r) := by
  refine trapKept_foldl _ (fun u x _ => ?_) _
  unfold State.ringLatch
  dsimp only
  split
  · split
    · exact trapKept_raiseEvent u _ _ _
    · exact TrapKept.refl u
  · exact TrapKept.refl u

theorem trapKept_roleIn (s : State) (r n : Nat) : TrapKept e t s (s.roleIn r n) := by
  obtain ⟨hlo, hhi, -, -⟩ := apart_arrived e t n
  have hbit := trapKept_engineBit s hlo hhi r
  exact (hbit.trans (trapKept_raiseEvent _ n 0 17)).trans (trapKept_ringArrive _ r)

theorem trapKept_roleOut (s : State) (r n : Nat) : TrapKept e t s (s.roleOut r n) := by
  obtain ⟨-, -, hlo, hhi⟩ := apart_arrived e t n
  exact (trapKept_engineBit s hlo hhi r).trans (trapKept_raiseEvent _ n 0 18)

theorem trapKept_ringLeave (s : State) (r h : Nat) : TrapKept e t s (s.ringLeave r h) := by
  refine trapKept_foldl _ (fun u x _ => ?_) _
  refine trapKept_ite ?_ (TrapKept.refl u)
  unfold State.dropEvent
  exact trapKept_ite (trapKept_setFld u _ (apart_pending e t _ _)) (TrapKept.refl u)

theorem trapKept_epsStart (s : State) (r : Nat) : TrapKept e t s (s.epsStart r) := by
  obtain ⟨hregs, heng⟩ := epsStart_regs s r
  exact TrapKept.of_regs hregs (by rw [heng])

variable (he : e < 8) (ht : t < 4)
include he ht

theorem recordRel_trapKept : RecordRel (TrapKept e t) where
  refl := TrapKept.refl
  trans _ _ _ := TrapKept.trans
  set s _ v hf := trapKept_setFld s v (apart_of_collects he ht hf)
  event s e' k _ := trapKept_raiseEvent s e' 0 k
  frame _ _ hr heng := TrapKept.of_regs hr (by rw [heng])

/-- The MINOR of a role without a holder is not of the engine's instruction source. -/
theorem trapKept_roleUnheld (s : State) {r : Nat} (hr : r < 64) (old : Option Nat) : TrapKept e t s (s.roleUnheld r old) := by
  have hset : TrapKept e t s ((s.setFld (R.ENG_ROLE_HOLDER r) 0xF).raise R.ENGC_EVENTS_ROLE_UNHELD) :=
    (trapKept_setFld s _ (apart_of_low he ht (holder_key_lt hr).1)).trans (trapKept_setFld _ _ (apart_of_low he ht (by decide)))
  have hrec (u : State) : TrapKept e t u (u.record 0x01D 1 0x1E) := by
    refine TrapKept.trans ?_ ((recordRel_trapKept he ht).record u 0x01D 0x1E (by decide))
    refine (trapKept_setFld u _ ?_).trans (trapKept_setFld _ _ ?_)
    all_goals
      simp only [Fld.Apart, Fld.key, R.ENG_FENCE_VEC_VEC, R.ENG_STATE_STATE, R.PWR_STATUS_STATE, R.PWR_STATUS_ENTERING,
        R.FLT_SRC_LAST_CLASS, R.FLT_SRC_LAST_CAUSE, R.ENG_THR_STATE_W0_TSTATE]
      omega
  unfold State.roleUnheld
  cases old with
  | none => exact hset.trans (hrec _)
  | some h => exact (hset.trans (trapKept_ringLeave _ r h)).trans (hrec _)

theorem trapKept_giveRole (s : State) {r : Nat} (hr : r < 64) (dst : Option Nat) (fence : Bool) :
    TrapKept e t s (s.giveRole r dst fence) := by
  have hnew : TrapKept e t s (match dst with
      | some n => ((s.setFld (R.ENG_ROLE_HOLDER r) n).epsStart r).roleIn r n
      | none => s.roleUnheld r (s.holder r)) := by
    cases dst with
    | none => exact trapKept_roleUnheld he ht s hr _
    | some n =>
      have hset := trapKept_setFld s n (apart_of_low (t := t) he ht (holder_key_lt hr).1)
      exact (hset.trans (trapKept_epsStart _ r)).trans (trapKept_roleIn _ r n)
  unfold State.giveRole
  dsimp only
  split
  · split
    · exact hnew
    · exact hnew.trans (trapKept_roleOut _ r _)
  · exact hnew

theorem trapKept_bumpEpoch (s : State) {r : Nat} (hr : r < 64) : TrapKept e t s (s.bumpEpoch r) :=
  (trapKept_setFld s _ (apart_of_low he ht (holder_key_lt hr).2)).trans (TrapKept.of_regs rfl rfl)

theorem trapKept_moveNow (s : State) {r : Nat} (hr : r < 64) (m : RoleMove) : TrapKept e t s (s.moveNow r m) := by
  have hmove (dst : Option Nat) (fence : Bool) : TrapKept e t s ((s.bumpEpoch r).giveRole r dst fence) :=
    (trapKept_bumpEpoch he ht s hr).trans (trapKept_giveRole he ht _ hr dst fence)
  unfold State.moveNow
  split
  · exact trapKept_bumpEpoch he ht s hr
  · exact hmove _ _
  · exact hmove _ _
  · exact trapKept_ite (hmove _ _) (TrapKept.refl s)
  · exact hmove _ _

theorem trapKept_fenceRole (s : State) {r : Nat} (hr : r < 64) (n : Nat) : TrapKept e t s (s.fenceRole n r) := by
  unfold State.fenceRole State.moveRole
  exact trapKept_ite (trapKept_moveNow he ht s hr _) (TrapKept.of_regs rfl rfl)

omit he ht in
/-- Another thread of the engine traps. -/
theorem trapKept_fencedTrap (s : State) {t' at_ : Nat} (ht' : t' < 4) (hne : t' ≠ t) : TrapKept e t s (s.fencedTrap e t' at_) := by
  have hthread (x : Thread) : TrapKept e t s (s.setThread e t' x) :=
    ⟨fun _ _ => rfl, id, by rw [State.thread_setThread_ne s x (by omega)]⟩
  unfold State.fencedTrap
  dsimp only
  refine trapKept_ite (hthread _) (((hthread _).trans (trapKept_setFld _ _ ?_)).trans (trapKept_setTstate_one _ _ _))
  simp only [Fld.Apart, Fld.key, R.ENG_FENCE_VEC_VEC, R.ENG_STATE_STATE, R.PWR_STATUS_STATE, R.PWR_STATUS_ENTERING,
    R.FLT_SRC_LAST_CLASS, R.FLT_SRC_LAST_CAUSE, R.ENG_THR_STATE_W0_TSTATE, R.ENG_THR_STATE_W0_PC]
  omega

omit he in
/-- A READY thread does not trap with the waiting ones. -/
theorem trapKept_fenceWaiting (s : State) (hs : s.tstate e t = 1) : TrapKept e t s (s.fenceWaiting e) := by
  have hstep (l : List Nat) (hl : ∀ k ∈ l, k < 4) (u : State) (hu : u.tstate e t = 1) : TrapKept e t u (l.foldl (fun s k =>
      if s.tstate e k = 2 then s.fencedTrap e k ((s.pc e k + 2 ^ 18 - 4) % 2 ^ 18) else s) u) := by
    induction l generalizing u with
    | nil => exact TrapKept.refl u
    | cons k l ih =>
      have hk : TrapKept e t u (if u.tstate e k = 2 then u.fencedTrap e k ((u.pc e k + 2 ^ 18 - 4) % 2 ^ 18) else u) := by
        by_cases hkt : k = t
        · subst hkt
          rw [hu]
          exact TrapKept.refl u
        · exact trapKept_ite (trapKept_fencedTrap u (hl k List.mem_cons_self) hkt) (TrapKept.refl u)
      exact hk.trans (ih (fun j hj => hl j (List.mem_cons_of_mem k hj)) _ (hk.2.1 hu))
  exact hstep (List.range 4) (fun k hk => List.mem_range.1 hk) s hs

/-- The state of an engine as its fence begins. -/
def State.fenceMark (s : State) (n : Nat) : State :=
  { (s.setEngState n 3).raise (R.ENG_EVENTS_FENCE n) with
    eng := { s.eng with moving := Tab.set (fun _ => false) s.eng.moving n false } }

omit he ht in
theorem State.fenceEngine_eq (s : State) {n : Nat} (h : s.engState n = 1) : s.fenceEngine n =
    (((s.fenceMark n).rolesOf n).foldl (fun s r => s.fenceRole n r) (s.fenceMark n)).fenceWaiting n :=
  if_neg (by rw [h]; decide)

/-- The fence of a RUNNING engine leaves its state, and a READY thread with its fs, vector and place (R295). -/
theorem fenceEngine_spec {s : State} (hst : s.engState e = 1) (hts : s.tstate e t = 1) :
    (s.fenceEngine e).engState e = 3 ∧ (s.fenceEngine e).tstate e t = 1 ∧
      (s.fenceEngine e).fld (R.ENG_FENCE_VEC_VEC e) = s.fld (R.ENG_FENCE_VEC_VEC e) ∧
      (s.fenceEngine e).pwrState = s.pwrState ∧ (s.fenceEngine e).entering = s.entering ∧
      (s.fenceEngine e).fld (R.FLT_SRC_LAST_CLASS (0x068 + e)) = s.fld (R.FLT_SRC_LAST_CLASS (0x068 + e)) ∧
      (s.fenceEngine e).fld (R.FLT_SRC_LAST_CAUSE (0x068 + e)) = s.fld (R.FLT_SRC_LAST_CAUSE (0x068 + e)) ∧
      ((s.fenceEngine e).thread e t).fs = (s.thread e t).fs := by
  have hmark {f : Fld} (h1 : f.key ≠ (R.ENG_STATE_STATE e).key) (h2 : f.key ≠ (R.ENG_EVENTS_FENCE e).key) :
      (s.fenceMark e).fld f = s.fld f :=
    (State.fld_setFld_ne _ _ h2).trans (State.fld_setFld_ne _ _ h1)
  have hstate : (s.fenceMark e).fld (R.ENG_STATE_STATE e) = 3 :=
    (State.fld_setFld_ne _ _ (by simp only [Fld.key, R.ENG_STATE_STATE, R.ENG_EVENTS_FENCE]; omega)).trans (State.fld_setFld_same _ _ _)
  have hready : (s.fenceMark e).tstate e t = 1 :=
    (hmark (by simp only [Fld.key, R.ENG_STATE_STATE, R.ENG_THR_STATE_W0_TSTATE]; omega)
      (by simp only [Fld.key, R.ENG_EVENTS_FENCE, R.ENG_THR_STATE_W0_TSTATE]; omega)).trans hts
  have hroles := trapKept_foldl (e := e) (t := t) ((s.fenceMark e).rolesOf e) (f := fun s r => s.fenceRole e r)
    (fun u r hr => trapKept_fenceRole he ht u (List.mem_range.1 (List.mem_of_mem_filter hr)) e) (s.fenceMark e)
  have hall := hroles.trans (trapKept_fenceWaiting ht _ (hroles.2.1 hready))
  rw [← State.fenceEngine_eq s hst] at hall
  obtain ⟨hfields, hts', hfs⟩ := hall
  simp only [List.forall_mem_cons] at hfields
  obtain ⟨hvec, hengst, hpwr, hent, hcls, hcause, -⟩ := hfields
  refine ⟨hengst.trans hstate, hts' hready, hvec.trans (hmark ?_ ?_), hpwr.trans (hmark ?_ ?_), ?_, hcls.trans (hmark ?_ ?_),
    hcause.trans (hmark ?_ ?_), hfs⟩
  case refine_5 =>
    rw [State.entering, State.flag, hent, hmark]
    · rfl
    all_goals
      simp only [Fld.key, R.PWR_STATUS_ENTERING, R.ENG_STATE_STATE, R.ENG_EVENTS_FENCE]
      omega
  all_goals
    simp only [Fld.key, R.ENG_FENCE_VEC_VEC, R.PWR_STATUS_STATE, R.ENG_STATE_STATE, R.ENG_EVENTS_FENCE, R.FLT_SRC_LAST_CLASS,
      R.FLT_SRC_LAST_CAUSE]
    omega

/-! ### The undefined word (R309) -/

omit he ht in
/-- In RUN with no entry in progress a wake that a report asks for does nothing. -/
theorem State.settleWake_of_run {s : State} (hp : s.pwrState = 0) (hent : s.entering = false) :
    s.settleWake = { s with pwr := { s.pwr with wakeDue := false } } := by
  unfold State.settleWake
  split
  · unfold State.wakeEvent
    have hp' : ({ s with pwr := { s.pwr with wakeDue := false } } : State).pwrState = 0 := hp
    have hent' : ({ s with pwr := { s.pwr with wakeDue := false } } : State).entering = false := hent
    rw [hent', hp']
    split
    · rfl
    · rw [if_neg Bool.false_ne_true, if_pos (by decide)]
  · next h => rw [← Bool.eq_false_iff.2 h]

omit he ht in
theorem tstate_of_mayIssue {s : State} (hm : s.mayIssue e t = true) : s.tstate e t = 1 ∧ s.pwrState = 0 ∧ s.entering = false := by
  simp only [State.mayIssue, Bool.and_eq_true] at hm
  obtain ⟨⟨⟨hissue, -⟩, -⟩, hturn⟩ := hm
  simp only [State.enginesIssue, Bool.and_eq_true, beq_iff_eq, Bool.not_eq_true'] at hissue
  have hfind := List.find?_some (eq_of_beq hturn)
  rw [Bool.and_eq_true, beq_iff_eq] at hfind
  exact ⟨hfind.1, hissue.1, hissue.2⟩

omit ht in
/-- The instruction source of an engine (R443): a MAJOR of it feeds no promotion and fences the engine. -/
theorem instructionSource : counted (0x068 + e) 2 0x05 = false ∧ validSource (0x068 + e) = true ∧ fencesNothing (0x068 + e) = false ∧
    ∀ s : State, s.fenceUnit (0x068 + e) = s.fenceEngine e := by
  have hclosed : ∀ e : Fin 8, counted (0x068 + e) 2 0x05 = false ∧ validSource (0x068 + e) = true ∧
      fencesNothing (0x068 + e) = false := by decide
  obtain ⟨hcount, hvalid, hfences⟩ := hclosed ⟨e, he⟩
  refine ⟨hcount, hvalid, hfences, fun s => ?_⟩
  unfold State.fenceUnit
  rw [if_neg (by omega), if_neg (by omega), if_neg (by omega), if_neg (by omega), if_neg (by omega), if_neg (by omega),
    if_neg (by omega), if_neg (by omega), if_pos (by omega), show (0x068 + e) % 8 = e by omega]

/-- A MAJOR of the instruction source, up to the fence of its engine. -/
theorem fenceOn_spec {s : State} (hst : s.engState e = 1) (hts : s.tstate e t = 1) (hf : s.fenced (0x068 + e) = false)
    (hp : s.pwrState = 0) (hent : s.entering = false) :
    ∃ u : State, s.classEffects (0x068 + e) 2 0x05 = u.fenceEngine e ∧ u.engState e = 1 ∧ u.tstate e t = 1 ∧ u.pwrState = 0 ∧
      u.entering = false ∧ u.fld (R.ENG_FENCE_VEC_VEC e) = s.fld (R.ENG_FENCE_VEC_VEC e) ∧
      u.fld (R.FLT_SRC_LAST_CLASS (0x068 + e)) = 2 ∧ u.fld (R.FLT_SRC_LAST_CAUSE (0x068 + e)) = 5 ∧
      (u.thread e t).fs = (s.thread e t).fs ∧ u.memory = s.memory := by
  obtain ⟨-, -, hfences, hunit⟩ := instructionSource he
  have hmem := s.record_memory (0x068 + e) 2 0x05
  obtain ⟨hcls, hcause, hkept⟩ := record_spec s (src := 0x068 + e) (cls := 2) (cause := 0x05) (by omega) (by decide) (by decide) (by decide)
  obtain ⟨-, hready, hfs⟩ := (recordRel_trapKept he ht).record s (0x068 + e) 0x05 (cls := 2) (by decide)
  have hclass : s.classEffects (0x068 + e) 2 0x05 = (s.record (0x068 + e) 2 0x05).fenceSource (0x068 + e) := rfl
  rw [hclass]
  generalize s.record (0x068 + e) 2 0x05 = w at hmem hcls hcause hkept hready hfs
  have hsame {f : Fld} (hf : ¬ f.recorded ∧ f.key ≠ (R.FLT_SRC_LAST_CLASS (0x068 + e)).key ∧ f.key ≠ (R.FLT_SRC_LAST_CAUSE (0x068 + e)).key) :
      w.fld f = s.fld f := hkept f hf.1 hf.2.1 hf.2.2
  have hunfenced : w.fenced (0x068 + e) = false := by
    rw [State.fenced, State.flag, hsame]
    · exact hf
    · simp only [Fld.recorded, Fld.collects, Fld.key, R.FLT_SRC_FENCED, R.FLT_SRC_LAST_CLASS, R.FLT_SRC_LAST_CAUSE]
      omega
  have hsource : w.fenceSource (0x068 + e) = (w.fenceOn (0x068 + e)).fenceEngine e := by
    rw [State.fenceSource, hfences, if_neg Bool.false_ne_true, hunfenced, if_neg Bool.false_ne_true, hunit]
  have hfence : TrapKept e t w (w.fenceOn (0x068 + e)) := by
    have hc {f : Fld} (hf : f.collects) := apart_of_collects (e := e) (t := t) he ht hf
    have hfenced : (R.FLT_SRC_FENCED (0x068 + e)).Apart e t := by
      simp only [Fld.Apart, Fld.key, R.ENG_FENCE_VEC_VEC, R.ENG_STATE_STATE, R.PWR_STATUS_STATE, R.PWR_STATUS_ENTERING,
        R.FLT_SRC_LAST_CLASS, R.FLT_SRC_LAST_CAUSE, R.ENG_THR_STATE_W0_TSTATE, R.FLT_SRC_FENCED]
      omega
    unfold State.fenceOn
    exact trapKept_ite (TrapKept.refl w) ((((trapKept_setFld w _ hfenced).trans (trapKept_setFld _ _ (hc (collects_flt (by decide))))).trans
      (trapKept_setFld _ _ (hc (collects_flt (by decide))))).trans (trapKept_setFld _ _ (hc (collects_flt (by decide)))))
  have hfmem : (w.fenceOn (0x068 + e)).memory = w.memory := (quiet_fenceOn w _).memory
  rw [hsource]
  generalize w.fenceOn (0x068 + e) = u at hfence hfmem
  obtain ⟨hfields, hts', hfs'⟩ := hfence
  simp only [List.forall_mem_cons] at hfields
  obtain ⟨hvec, hengst, hpwr, hent', hcls', hcause', -⟩ := hfields
  have hwts : w.tstate e t = 1 := by
    refine hready ((State.fld_setFld_ne _ _ ?_).trans ((State.fld_setFld_ne _ _ ?_).trans hts))
    all_goals
      simp only [Fld.key, R.ENG_THR_STATE_W0_TSTATE, R.FLT_SRC_LAST_CLASS, R.FLT_SRC_LAST_CAUSE]
      omega
  refine ⟨u, rfl, hengst.trans ((hsame ?_).trans hst), hts' hwts, hpwr.trans ((hsame ?_).trans hp), ?_, hvec.trans (hsame ?_),
    hcls'.trans hcls, hcause'.trans hcause, hfs'.trans hfs, hfmem.trans hmem⟩
  case refine_3 =>
    rw [State.entering, State.flag, hent', hsame]
    · exact hent
    · simp only [Fld.recorded, Fld.collects, Fld.key, R.PWR_STATUS_ENTERING, R.FLT_SRC_LAST_CLASS, R.FLT_SRC_LAST_CAUSE]
      omega
  all_goals
    simp only [Fld.recorded, Fld.collects, Fld.key, R.ENG_STATE_STATE, R.PWR_STATUS_STATE, R.ENG_FENCE_VEC_VEC, R.FLT_SRC_LAST_CLASS,
      R.FLT_SRC_LAST_CAUSE]
    omega

/-- The report of an undefined word fences its engine, and leaves the thread that met it ready to trap. -/
theorem report_instruction {s : State} (hst : s.engState e = 1) (hts : s.tstate e t = 1) (hf : s.fenced (0x068 + e) = false)
    (hp : s.pwrState = 0) (hent : s.entering = false) :
    ∃ u, s.report (0x068 + e) 2 0x05 = u ∧ u.engState e = 3 ∧ u.tstate e t = 1 ∧
      u.fld (R.ENG_FENCE_VEC_VEC e) = s.fld (R.ENG_FENCE_VEC_VEC e) ∧ u.fld (R.FLT_SRC_LAST_CLASS (0x068 + e)) = 2 ∧
      u.fld (R.FLT_SRC_LAST_CAUSE (0x068 + e)) = 5 ∧ (u.thread e t).fs = (s.thread e t).fs ∧ u.memory = s.memory := by
  obtain ⟨hcount, hvalid, -, -⟩ := instructionSource he
  obtain ⟨u, hclass, hengst, huts, hup, huent, huvec, hucls, hucause, hufs, humem⟩ := fenceOn_spec he ht hst hts hf hp hent
  obtain ⟨h1, h2, h3, h4, h5, h6, h7, h8⟩ := fenceEngine_spec he ht hengst huts
  have hreport : s.report (0x068 + e) 2 0x05 = (u.fenceEngine e).settleWake := by
    rw [State.report, if_neg (by rw [hvalid, hp]; decide), hclass, hcount]
    exact congrArg State.settleWake (if_neg Bool.false_ne_true)
  have hmem : (u.fenceEngine e).memory = s.memory := (State.fenceEngine_memory u e).trans humem
  rw [hreport, State.settleWake_of_run (h4.trans hup) (h5.trans huent)]
  exact ⟨_, rfl, h1, h2, h3.trans huvec, h6.trans hucls, h7.trans hucause, h8.trans hufs, hmem⟩

end

section
variable {s : State} {e : Fin 8} {t : Fin 4}

/-- A word that acts as undefined in the issue slot of its thread. -/
def UndefinedAt (c : Instr) (s : State) (e : Fin 8) (t : Fin 4) : Prop :=
  ∃ act : State → State, exec c s = .next (s.issue e t act) ∧ act (s.turnTaken e t) = (s.turnTaken e t).undefinedWord e t

/-- It fences the engine, and the thread traps at the word (R309). -/
theorem UndefinedAt.traps {c : Instr} (h : UndefinedAt c s e t) (hm : s.mayIssue e t = true) (ht : (s.thread e t).trapDue = false)
    (hst : s.engState e = 1) (hin : (s.thread e t).fs.inTrap = false) (hf : s.fenced (0x068 + e) = false) : Does c s fun u =>
      u.engState e = 3 ∧ (u.thread e t).fs.trapPc = s.pc e t ∧ (u.thread e t).fs.inTrap = true ∧ (u.thread e t).fs.code = 1 ∧
      (u.thread e t).v1 = false ∧ u.pc e t = s.fld (R.ENG_FENCE_VEC_VEC e) / 4 * 4 % 2 ^ 18 ∧ u.tstate e t = 1 ∧
      u.fld (R.FLT_SRC_LAST_CLASS (0x068 + e.val)) = 2 ∧ u.fld (R.FLT_SRC_LAST_CAUSE (0x068 + e.val)) = 5 ∧ MemKept s u := by
  obtain ⟨act, hc, hact⟩ := h
  refine does_of_issue hc hm ht ?_
  rw [hact]
  obtain ⟨hready, hp, hent⟩ := tstate_of_mayIssue hm
  obtain ⟨u, hu, hust, huts, huvec, hucls, hucause, hufs, humem⟩ :=
    report_instruction (s := s.turnTaken e t) e.isLt t.isLt hst hready hf hp hent
  have hstart : u.Stands e t (u.thread e t) (u.pc e t) 1 u := ⟨rfl, rfl, huts, fun _ _ _ => rfl, FieldsKept.refl u _, rfl⟩
  have hintrap : (u.thread e t).fs.inTrap = false := by rw [hufs]; exact hin
  have htrap := hstart.fencedTrap hintrap (s.pc e t)
  have hmem := htrap.memKept
  obtain ⟨hx, hpc, hts, -, hfields, -⟩ := htrap
  have hkept {f : Fld} (h1 : f.key ≠ (R.ENG_THR_STATE_W0_PC e t).key) (h2 : f.key ≠ (R.ENG_THR_STATE_W0_TSTATE e t).key) :=
    hfields f (by simpa using ⟨h1, h2⟩)
  have hword : (s.turnTaken e t).undefinedWord e t = { u.fencedTrap e t (s.pc e t) with
      eng := { (u.fencedTrap e t (s.pc e t)).eng with
        undef := Tab.set (fun _ => 0) (u.fencedTrap e t (s.pc e t)).eng.undef e (t + 1) } } := by
    rw [State.undefinedWord, hu]
    rfl
  rw [hword]
  generalize u.fencedTrap e t (s.pc e t) = w at hx hpc hts hkept hmem
  have hthread (f : Thread → Prop) (hw : f ((u.thread e t).trapped (s.pc e t))) : f (w.thread e t) := hx ▸ hw
  refine ⟨(hkept ?_ ?_).trans hust, hthread (fun x => x.fs.trapPc = s.pc e t) rfl, hthread (fun x => x.fs.inTrap = true) rfl,
    hthread (fun x => x.fs.code = 1) rfl, hthread (fun x => x.v1 = false) rfl, hpc.trans (by rw [huvec]; rfl), hts,
    (hkept ?_ ?_).trans hucls, (hkept ?_ ?_).trans hucause, fun a => (hmem a).trans (memKept_of_memory (s := s) humem a)⟩
  all_goals
    simp only [Fld.key, R.ENG_STATE_STATE, R.FLT_SRC_LAST_CLASS, R.FLT_SRC_LAST_CAUSE, R.ENG_THR_STATE_W0_PC,
      R.ENG_THR_STATE_W0_TSTATE]
    omega

theorem State.unlessV1_of_velmos1 (hv : (s.thread e t).v1 = true) (act : State → State) :
    s.unlessV1 e t act = s.undefinedWord e t := if_pos hv

/-- The words that the Velmos-1 decode makes unavailable (R340). -/
theorem undefinedAt_velmos1 (hv : (s.thread e t).v1 = true) (rd ra rb : Fin 32) (ta : Fin 8) (r : Fin 64) (sel : Fin 3) (w x y : Bool)
    (hi : Fin 64) (q : Fin 4) (h : Fin 32) (ring : Fin 128) (hsel : sel ≠ 0) (hring : 64 ≤ ring.val) :
    ∀ c ∈ [.tcvtFu e t rd ta, .tcvtMk e t ta ra rb, .epoch e t r, .wrfs e t ra, .rdsr e t rd sel, .xadd e t rd ra rb w x,
        .xswp e t rd ra rb w x, .pressAlign e t rd ra rb w, .pressStep e t rd ra rb w, .pressSlew e t rd ra rb w,
        .pressAbort e t rd ra rb w, .seamSelect e t rd ra hi, .seamClearPref e t rd ra hi, .rampGo e t rd q h, .rampAbort e t rd q h,
        .feed e t rd ra ta, .schedPlace e t rd ra rb w x y, .schedCancel e t rd ra rb w x y, .push e t rd ring ra x,
        .pop e t rd ring ra x, .peek e t rd ring ra x], UndefinedAt c s e t := by
  have hv' : ((s.turnTaken e t).thread e t).v1 = true := hv
  have hunless (act : State → State) := State.unlessV1_of_velmos1 (s := s.turnTaken e t) hv' act
  have hdevice (uses : Thread → List Dest) (op : Thread → Op) {transit : Bool} :
      (s.turnTaken e t).device e t rd uses op transit = (s.turnTaken e t).undefinedWord e t := hunless _
  have hsel' : sel.val ≠ 0 := fun h0 => hsel (Fin.ext h0)
  refine List.forall_mem_cons.2 ⟨⟨_, rfl, if_pos ⟨hv', rfl⟩⟩, ?_⟩
  iterate 3 refine List.forall_mem_cons.2 ⟨⟨_, rfl, hunless _⟩, ?_⟩
  refine List.forall_mem_cons.2 ⟨⟨_, rfl, if_pos ⟨hv', hsel'⟩⟩, ?_⟩
  iterate 2 refine List.forall_mem_cons.2 ⟨⟨_, rfl, hunless _⟩, ?_⟩
  iterate 11 refine List.forall_mem_cons.2 ⟨⟨_, rfl, hdevice _ _⟩, ?_⟩
  iterate 3 refine List.forall_mem_cons.2 ⟨⟨_, rfl, if_pos ⟨hv', hring⟩⟩, ?_⟩
  exact List.forall_mem_nil _

/-! ### Time in the Velmos-1 decode (R340) -/

variable (hm : s.mayIssue e t = true) (ht : (s.thread e t).trapDue = false) (hv : (s.thread e t).v1 = true)
  (hfl : s.flightsOf e t = [])
include hm ht hv hfl

theorem does_tadd_velmos1 (td ta : Fin 8) (rb : Fin 32) : Does (.tadd e t td ta rb) s fun u => (u.thread e t).treg td =
    timeOf ((timeFu ((s.thread e t).treg ta) : Int) + ((s.thread e t).gpr (rb.val % 16)).toInt * 65536) := by
  have hrd : (s.thread e t).rd rb = (s.thread e t).gpr (rb.val % 16) := by rw [Thread.rd, Thread.no, if_pos hv]
  have hact : (s.turnTaken e t).tadd e t td ta rb = (s.turnTaken e t).withRegs e t [.t td, .t ta, (s.thread e t).dest rb] (fun u =>
      u.retireIns e t ((s.thread e t).setTreg td
        (timeOf ((timeFu ((s.thread e t).treg ta) : Int) + ((s.thread e t).gpr (rb.val % 16)).toInt * 65536)))) := by
    rw [State.tadd, State.thread_turnTaken, hv, hrd]
    rfl
  refine does_retireIns hm ht (fun d _ => State.regPending_of_no_flights hfl d) rfl hact fun u hu => ?_
  obtain ⟨hx, -⟩ := hu
  rw [hx, Thread.treg_setTreg, if_pos rfl]

theorem does_tsub_velmos1 (rd : Fin 32) (ta tb : Fin 8) : Does (.tsub e t rd ta tb) s fun u => u.thread e t =
    (s.thread e t).setGpr (rd.val % 16) (BitVec.ofInt 64
      ((clamp63 ((timeFu ((s.thread e t).treg ta) : Int) - timeFu ((s.thread e t).treg tb))).tdiv 65536)) := by
  have hwr (v : BitVec 64) : (s.thread e t).wr rd v = (s.thread e t).setGpr (rd.val % 16) v := by rw [Thread.wr, Thread.no, if_pos hv]
  have hact : (s.turnTaken e t).tsub e t rd ta tb = (s.turnTaken e t).withRegs e t [(s.thread e t).dest rd, .t ta, .t tb] (fun u =>
      u.retireIns e t ((s.thread e t).setGpr (rd.val % 16) (BitVec.ofInt 64
        ((clamp63 ((timeFu ((s.thread e t).treg ta) : Int) - timeFu ((s.thread e t).treg tb))).tdiv 65536)))) := by
    simp only [State.tsub, State.thread_turnTaken, hv, hwr, if_true]
  refine does_retireIns hm ht (fun d _ => State.regPending_of_no_flights hfl d) rfl hact fun u hu => ?_
  obtain ⟨hx, -⟩ := hu
  exact hx

theorem does_stamp_velmos1 (td : Fin 8) (rb : Fin 32) : Does (.stamp e t td rb) s fun u => u.thread e t =
    (s.thread e t).setTreg td (BitVec.ofNat 96 (encodeHub s.tb.now)) := by
  refine does_of_issue (act := fun u => u.stamp e t td rb) rfl hm ht ?_
  rw [State.stamp_eq, State.thread_turnTaken, State.withRegs_turnTaken (s := s) _ fun d _ => State.regPending_of_no_flights hfl d]
  obtain ⟨hx, -⟩ := s.resumes_retireIns e t ((s.turnTaken e t).stampThread (s.thread e t) td rb)
  exact hx.trans (State.stampThread_velmos1 (s := s.turnTaken e t) hv td rb)

end

/-- Settles O28: an undefined word is reported, the report fences the engine and leaves the thread that met it ready to trap; TADD,
TSUB and STAMP are the rows of the other decode with the amount in ns. -/
theorem velmos1Threads : Obligations.Velmos1Threads := by
  unfold Obligations.Velmos1Threads
  intro runs norm trapped undef
  have hday : (2 ^ 48 * 1000000000 * 65536 : Nat) = 2 ^ 48 * fuPerSec := by decide
  have hnorm (v : BitVec 96) : norm v = timeFu v := by
    change (_ : Nat) % (2 ^ 48 * 1000000000 * 65536) = _
    rw [← decodeHub_eq, hday, timeFu]
  refine ⟨?undefined, ?unavailable, ?time⟩
  case undefined =>
    rintro s e t ⟨⟨hm, ht⟩, hst, hin, -, hf⟩
    exact UndefinedAt.traps ⟨_, rfl, rfl⟩ hm ht hst hin hf
  case unavailable =>
    rintro s e t rd ra rb ta r sel w x y hi q h ring ⟨⟨hm, ht⟩, hst, hin, -, hf⟩ hv hsel hring c hc
    exact (undefinedAt_velmos1 hv rd ra rb ta r sel w x y hi q h ring hsel hring c hc).traps hm ht hst hin hf
  case time =>
    rintro s e t td ta tb rd rb ⟨hm, ht⟩ hv hfl
    refine ⟨(does_tadd_velmos1 hm ht hv hfl td ta rb).mono fun u hu => ?_,
      (does_tsub_velmos1 hm ht hv hfl rd ta tb).mono fun u hu => ?_, does_stamp_velmos1 hm ht hv hfl td rb⟩
    · rw [hu, hnorm, hnorm, timeFu, Int.natCast_mod, decodeHub_timeOf, Int.emod_emod_of_dvd _ (dvd_refl _), ← hday]
      rfl
    · rw [hu, ← hnorm, ← hnorm]
      rfl

end Sys2Proof.Machine


/-! O18: the thread that a receive ring's registers name (12 R364, R370), when a frame moves the ring's TAIL. -/
namespace Sys2Proof.Machine

/-- Port 0 is UP and takes other frames; the two-bit THR of the consumer side of its ring reads 8182, where the pending events of
engine 0 would stand at the ring's own TAIL, and BIT names bit 5. -/
def linkRingOfThread8182 : State :=
  { State.reset with
    regs := [((R.LNK_STATUS_STATE 0).key, 3), ((R.LNK_CFG_OTHER_EN 0).key, 1), ((R.RING_CONS_ROLE 0).key, 0),
      ((R.RING_CONS_THR 0).key, 8182), ((R.RING_CONS_BIT 0).key, 5)]
    tb := { State.reset.tb with running := true } }

/-- A frame of the shortest length to a group address, of no protocol that the classifier knows. -/
def groupFrame : List (BitVec 8) := List.replicate 14 1

theorem linkRingOfThread8182_powered : linkRingOfThread8182.powered = true := by decide +kernel

theorem linkRingOfThread8182_tail_before : linkRingOfThread8182.ringTail 0 = 0 := by decide +kernel

/-- The frame's entry moves TAIL to 1, and the event of the consumer side then sets bit 5 of it. -/
theorem linkRingOfThread8182_tail : (linkRingOfThread8182.linkRx 0 groupFrame true 0 1 false).ringTail 0 = 33 := by decide +kernel

theorem exec_linkRxFrame {s : State} (n : Fin 32) (f : List (BitVec 8)) (good : Bool) (num den : Nat) (excess : Bool)
    (hp : s.powered = true) : exec (.linkRxFrame n f good num den excess) s = .next (s.linkRx n f good num den excess) :=
  State.live_next _ hp

/-- Refutes O18: the statement ranges over registers that read more than their width, and the event of a receive ring whose THR reads
8182 is pending at no thread of its engine: it changes the TAIL that the frame has just moved. -/
theorem not_linkTraffic : ¬ Obligations.LinkTraffic := by
  unfold Obligations.LinkTraffic
  intro h
  obtain ⟨-, -, -, -, -, hdeliver, -⟩ := h
  have hp := linkRingOfThread8182_powered
  obtain ⟨-, htail, -⟩ := (hdeliver linkRingOfThread8182 0 groupFrame 0 1 hp (by decide +kernel) (by decide) (by decide)
    (by decide +kernel) (by decide) (by decide +kernel) (by decide +kernel) (by decide +kernel) (by decide +kernel)
    (by decide +kernel) (by decide +kernel) (by decide +kernel) rfl).of_exec (exec_linkRxFrame 0 groupFrame true 0 1 false hp)
  have hmoved : (linkRingOfThread8182.linkRx 0 groupFrame true 0 1 false).ringTail 0
      = (linkRingOfThread8182.ringTail 0 + 1) % 2 ^ 17 := htail
  rw [linkRingOfThread8182_tail, linkRingOfThread8182_tail_before] at hmoved
  exact absurd hmoved (by decide)

end Sys2Proof.Machine


/-! O17: the list of PLLs that a wake from SLEEP starts again (15 R431). -/
namespace Sys2Proof.Machine

/-- SLEEP with FAULT_WAKE, port 1 UP, the first counted event of the port promoted, and a list of stopped PLLs that names PLL 10304:
its STATUS register is the one of source 0x021, and its band table has an entry that always fits. -/
def sleptOnPll10304 : State :=
  { State.reset with
    regs := [((R.LNK_STATUS_STATE 1).key, 3), (R.PWR_STATUS_STATE.key, 2), (R.PWR_CFG_FAULT_WAKE.key, 1),
      ((R.FLT_SRC_CFG_N 0x021).key, 1), ((R.FLT_SRC_CFG_WIN 0x021).key, 1), ((R.FLT_SRC_RAIL 0x021).key, 0),
      ((R.SYN_BAND_W1_V 10304 0).key, 1), ((R.SYN_BAND_W0_TSLOT 10304 0).key, 15),
      ((R.SYN_BAND_W0_N_LO 10304 0).key, 1), ((R.SYN_BAND_W0_N_HI 10304 0).key, 1)]
    pwr := { State.reset.pwr with plls := [10304] } }

theorem sleptOnPll10304_cause : (sleptOnPll10304.report 0x021 1 0x0F).fld (R.FLT_SRC_LAST_CAUSE 0x021) = 0 := by decide +kernel

theorem exec_pcsBlockErrors {s : State} (n : Fin 32) (hp : s.powered = true) (hup : s.linkState n = 3) :
    exec (.pcsBlockErrors n) s = .next (s.report (0x020 + n) 1 0x0F) :=
  (State.live_next _ hp).trans (congrArg _ (if_pos hup))

/-- Refutes O17: the statement ranges over lists of stopped PLLs that name more than four. The promoted event of port 1 wakes the part
from SLEEP, which starts PLL 10304, and the band entry that it shows is written where the source's LAST_CAUSE stands. -/
theorem not_linkPortStates : ¬ Obligations.LinkPortStates := by
  unfold Obligations.LinkPortStates
  intro h
  obtain ⟨-, -, -, -, -, -, -, -, -, -, -, -, -, -, -, -, -, -, -, -, hblock, -⟩ := h
  have hp : sleptOnPll10304.powered = true := by decide +kernel
  have hup : sleptOnPll10304.linkState 1 = 3 := by decide +kernel
  have hcause : (sleptOnPll10304.report 0x021 1 0x0F).fld (R.FLT_SRC_LAST_CAUSE 0x021) = 0x0F ∨
      (sleptOnPll10304.report 0x021 1 0x0F).fld (R.FLT_SRC_LAST_CAUSE 0x021) = 0x02 :=
    (hblock sleptOnPll10304 1 hp hup).of_exec (exec_pcsBlockErrors 1 hp hup)
  rw [sleptOnPll10304_cause] at hcause
  exact absurd hcause (by decide)

end Sys2Proof.Machine


/-! O46: the NV scan and the records (13 R392, R393, R396 to R399), through every wake that a promoted error of the store brings. -/
namespace Sys2Proof.Machine

/-! ### What a report of the store leaves of it -/

/-- The CE_SET and FAIL_SET events, memory with its check states, and the torn pages stay. -/
structure NvKept (s t : State) : Prop where
  ce : t.fld R.NV_EVENTS_CE_SET = s.fld R.NV_EVENTS_CE_SET
  fail : t.fld R.NV_EVENTS_FAIL_SET = s.fld R.NV_EVENTS_FAIL_SET
  mem : t.mem = s.mem
  bank : t.bank = s.bank
  torn : t.stores.torn = s.stores.torn

/-- A field that is neither of the two events. -/
abbrev Fld.offNv (f : Fld) : Prop := R.NV_EVENTS_CE_SET.key ≠ f.key ∧ R.NV_EVENTS_FAIL_SET.key ≠ f.key

theorem NvKept.refl (s : State) : NvKept s s := ⟨rfl, rfl, rfl, rfl, rfl⟩

theorem NvKept.trans {s t u : State} (h : NvKept s t) (h' : NvKept t u) : NvKept s u :=
  ⟨h'.ce.trans h.ce, h'.fail.trans h.fail, h'.mem.trans h.mem, h'.bank.trans h.bank, h'.torn.trans h.torn⟩

theorem nvKept_setFld (s : State) {f : Fld} (v : Nat) (hf : f.offNv) : NvKept s (s.setFld f v) :=
  ⟨State.fld_setFld_ne _ _ hf.1, State.fld_setFld_ne _ _ hf.2, rfl, rfl, rfl⟩

theorem nvKept_ite {c : Prop} [Decidable c] {s t u : State} (ht : NvKept s t) (hu : NvKept s u) : NvKept s (if c then t else u) := by
  split <;> assumption

theorem nvKept_of_quiet {s t : State} (hq : Quiet s t) (hce : t.fld R.NV_EVENTS_CE_SET = s.fld R.NV_EVENTS_CE_SET)
    (hfail : t.fld R.NV_EVENTS_FAIL_SET = s.fld R.NV_EVENTS_FAIL_SET) : NvKept s t :=
  ⟨hce, hfail, hq.mem, hq.bank, by rw [hq.stores]⟩

/-- A record of any source keeps the store. -/
theorem nvKept_record (s : State) (src cls cause : Nat) : NvKept s (s.record src cls cause) := by
  rcases eq_or_ne cls 0 with rfl | hcls
  · refine nvKept_setFld s _ ⟨?_, ?_⟩ <;> simp only [Fld.key, R.NV_EVENTS_CE_SET, R.NV_EVENTS_FAIL_SET, R.FLT_SRC_NOTES] <;> omega
  have hkept := recordRel_recKept.record s src cause hcls
  refine nvKept_of_quiet (quiet_record s src cls cause) ((hkept _ ?_).trans ?_) ((hkept _ ?_).trans ?_)
  · unfold Fld.recorded Fld.collects; decide
  · rw [State.fld_setFld_ne _ _ ?_, State.fld_setFld_ne _ _ ?_] <;>
      simp only [Fld.key, R.NV_EVENTS_CE_SET, R.FLT_SRC_LAST_CLASS, R.FLT_SRC_LAST_CAUSE, ne_eq] <;> omega
  · unfold Fld.recorded Fld.collects; decide
  · rw [State.fld_setFld_ne _ _ ?_, State.fld_setFld_ne _ _ ?_] <;>
      simp only [Fld.key, R.NV_EVENTS_FAIL_SET, R.FLT_SRC_LAST_CLASS, R.FLT_SRC_LAST_CAUSE, ne_eq] <;> omega

/-! ### What a wake leaves of the store (15 R430, R431) -/

/-- The store stays, and no further wake is due. -/
structure NvIdle (s t : State) : Prop where
  kept : NvKept s t
  due : t.pwr.wakeDue = s.pwr.wakeDue

theorem NvIdle.refl (s : State) : NvIdle s s := ⟨NvKept.refl s, rfl⟩

theorem NvIdle.trans {s t u : State} (h : NvIdle s t) (h' : NvIdle t u) : NvIdle s u := ⟨h.kept.trans h'.kept, h'.due.trans h.due⟩

theorem NvIdle.setFld {s t : State} (h : NvIdle s t) {f : Fld} (v : Nat) (hf : f.offNv) : NvIdle s (t.setFld f v) :=
  ⟨h.kept.trans (nvKept_setFld t v hf), h.due⟩

theorem NvIdle.raise {s t : State} (h : NvIdle s t) {f : Fld} (hf : f.offNv) : NvIdle s (t.raise f) := h.setFld 1 hf

theorem NvIdle.clr {s t : State} (h : NvIdle s t) {f : Fld} (hf : f.offNv) : NvIdle s (t.clr f) := h.setFld 0 hf

theorem nvIdle_ite {c : Prop} [Decidable c] {s t u : State} (ht : NvIdle s t) (hu : NvIdle s u) : NvIdle s (if c then t else u) := by
  split <;> assumption

theorem nvIdle_foldl {β : Type} {f : State → β → State} (l : List β) (hf : ∀ s, ∀ b ∈ l, NvIdle s (f s b)) (s : State) :
    NvIdle s (l.foldl f s) := by
  induction l generalizing s with
  | nil => exact NvIdle.refl s
  | cons b l ih => exact (hf s b (by simp)).trans (ih (fun t c hc => hf t c (List.mem_cons_of_mem b hc)) _)

/-- What is neither a register nor memory, the stores or the power state. -/
theorem nvIdle_frame {s t : State} (hr : t.regs = s.regs) (hm : t.mem = s.mem) (hb : t.bank = s.bank) (hs : t.stores = s.stores)
    (hp : t.pwr.wakeDue = s.pwr.wakeDue) : NvIdle s t :=
  ⟨⟨State.fld_congr hr _, State.fld_congr hr _, hm, hb, by rw [hs]⟩, hp⟩

theorem NvIdle.frame {s t u : State} (h : NvIdle s t) (hr : u.regs = t.regs) (hm : u.mem = t.mem) (hb : u.bank = t.bank)
    (hs : u.stores = t.stores) (hp : u.pwr.wakeDue = t.pwr.wakeDue) : NvIdle s u := h.trans (nvIdle_frame hr hm hb hs hp)

/-- A field whose bit in its word is neither of the two events'. -/
theorem offNv_of_lo {f : Fld} (h : f.key % 32 ≠ 1 ∧ f.key % 32 ≠ 2) : f.offNv := by
  constructor <;> intro he
  · exact h.1 (by rw [← he]; rfl)
  · exact h.2 (by rw [← he]; rfl)

theorem nvIdle_tbLive (s : State) : NvIdle s s.tbLive := by
  have hrun : NvIdle s { s with tb := { s.tb with running := true } } := nvIdle_frame rfl rfl rfl rfl rfl
  exact nvIdle_ite ((hrun.setFld _ (by decide)).raise (by decide)) ((hrun.setFld _ (by decide)).clr (by decide))

theorem nvIdle_moveDomain (s : State) (d q : Nat) : NvIdle s (s.moveDomain d q) := by
  have hmoved : NvIdle s (if s.domSrc d = q then s else (s.setFld (R.SYN_DOMAIN_SRC d) q).raise (R.SYN_PLL_EVENTS_HANDOVER_DONE d)) := by
    refine nvIdle_ite (NvIdle.refl s) (((NvIdle.refl s).setFld _ (offNv_of_lo ?_)).raise (offNv_of_lo ?_)) <;>
      simp only [Fld.key, R.SYN_DOMAIN_SRC, R.SYN_PLL_EVENTS_HANDOVER_DONE] <;> omega
  exact nvIdle_ite (hmoved.trans (nvIdle_tbLive _)) hmoved

theorem nvIdle_resumeOutput (s : State) (i : Nat) : NvIdle s (s.resumeOutput i) := by
  refine (((NvIdle.refl s).clr ?_).clr ?_).raise ?_ <;>
    · simp only [Fld.offNv, Fld.key, R.NV_EVENTS_CE_SET, R.NV_EVENTS_FAIL_SET, R.OUT_STATUS_GATED, R.OUT_STATUS_BYPASS,
        R.OUT_STATUS_PHASE_LOST]
      omega

theorem nvIdle_giveSource (s : State) (d q : Nat) : NvIdle s (s.giveSource d q) := by
  refine (((NvIdle.refl s).clr ?_).trans (nvIdle_foldl _ (fun t i _ => nvIdle_resumeOutput t i) _)).trans (nvIdle_moveDomain _ _ _)
  simp only [Fld.offNv, Fld.key, R.NV_EVENTS_CE_SET, R.NV_EVENTS_FAIL_SET, R.SYN_DOMAIN_GATED]
  omega

theorem nvIdle_resource (s : State) (d : Nat) (back : Bool) : NvIdle s (s.resource d back) := by
  unfold State.resource
  split
  · split
    · exact nvIdle_giveSource _ _ _
    · exact NvIdle.refl s
  · exact NvIdle.refl s

theorem nvIdle_resourceAll (s : State) : NvIdle s s.resourceAll := nvIdle_foldl _ (fun t _ _ => nvIdle_resource t _ _) s

theorem nvIdle_checkOutput (s : State) (p i : Nat) : NvIdle s (s.checkOutput p i) := by
  unfold State.checkOutput State.raiseIf
  dsimp only
  refine nvIdle_ite (NvIdle.raise ?_ (offNv_of_lo ?_)) ?_
  · exact nvIdle_frame rfl rfl rfl rfl rfl
  · simp only [Fld.key, R.OUT_STATUS_STD_REJ]
    omega
  · exact nvIdle_frame rfl rfl rfl rfl rfl

theorem nvIdle_setPllState (s : State) (p v : Nat) : NvIdle s (s.setPllState p v) := by
  refine ((NvIdle.refl s).setFld (f := R.SYN_PLL_STATUS_STATE p) v (offNv_of_lo ?_)).trans (nvIdle_frame rfl rfl rfl rfl rfl)
  simp only [Fld.key, R.SYN_PLL_STATUS_STATE]
  omega

theorem nvIdle_startOnBypass (s : State) : NvIdle s s.startOnBypass := by
  have hrun : NvIdle s { s with tb := { s.tb with running := true } } := nvIdle_frame rfl rfl rfl rfl rfl
  exact nvIdle_ite (NvIdle.refl s) ((hrun.setFld _ (by decide)).raise (by decide))

/-- START of any PLL of a list, a number above 3 included. -/
theorem nvIdle_pllStart (s : State) (p : Nat) : NvIdle s (s.pllStart p) := by
  unfold State.pllStart
  refine nvIdle_ite ((NvIdle.refl s).raise ?_) (nvIdle_ite (NvIdle.refl s) ?_)
  · simp only [Fld.offNv, Fld.key, R.NV_EVENTS_CE_SET, R.NV_EVENTS_FAIL_SET, R.SYN_PLL_EVENTS_CMD_REJ]
    omega
  split
  · refine (((nvIdle_setPllState s p 5).raise ?_).trans (nvIdle_resourceAll _)).trans (nvIdle_ite (nvIdle_startOnBypass _) (NvIdle.refl _))
    simp only [Fld.offNv, Fld.key, R.NV_EVENTS_CE_SET, R.NV_EVENTS_FAIL_SET, R.SYN_PLL_EVENTS_BAND_MISS]
    omega
  · next e _ =>
    have hentry : NvIdle s ((s.setFld (R.SYN_PLL_STATUS_ENTRY p) e).setFld (R.SYN_PLL_STATUS_BAND p) (s.fld (R.SYN_BAND_W0_BAND p e))) := by
      refine ((NvIdle.refl s).setFld _ (offNv_of_lo ?_)).setFld _ (offNv_of_lo ?_) <;>
        simp only [Fld.key, R.SYN_PLL_STATUS_ENTRY, R.SYN_PLL_STATUS_BAND] <;> omega
    refine NvIdle.trans ?_ (nvIdle_resourceAll _)
    refine NvIdle.trans ?_ (nvIdle_foldl _ (fun t i _ => nvIdle_checkOutput t p i) _)
    refine NvIdle.trans (NvIdle.clr (f := R.SYN_PLL_STATUS_BAND_STALE p) ?_ (offNv_of_lo ?_)) (nvIdle_setPllState _ p 2)
    · exact hentry.frame rfl rfl rfl rfl rfl
    · simp only [Fld.key, R.SYN_PLL_STATUS_BAND_STALE]
      omega

theorem nvIdle_startPll (s : State) (p : Nat) : NvIdle s (s.startPll p) := by
  have hstart := nvIdle_pllStart s p
  have hreport : NvIdle s ((s.pllStart p).record (0x014 + p) 1 0x0C) :=
    hstart.trans ⟨nvKept_record _ _ _ _, by rw [record_minor_pwr]⟩
  exact nvIdle_ite hreport (nvIdle_ite hreport hstart)

theorem nvIdle_wakeDomain (s : State) (d : Nat) : NvIdle s (s.wakeDomain d) := by
  refine nvIdle_ite (NvIdle.refl s) (nvIdle_ite (nvIdle_giveSource _ _ _) ((NvIdle.refl s).raise ?_))
  simp only [Fld.offNv, Fld.key, R.NV_EVENTS_CE_SET, R.NV_EVENTS_FAIL_SET, R.OUT_STATUS_BYPASS]
  omega

theorem nvIdle_setLinkState (s : State) {n : Nat} (hn : n < 32) (v : Nat) : NvIdle s (s.setLinkState n v) := by
  unfold State.setLinkState
  dsimp only
  have hset : NvIdle s (s.setFld (R.LNK_STATUS_STATE n) v) := by
    refine (NvIdle.refl s).setFld _ (offNv_of_lo ?_)
    simp only [Fld.key, R.LNK_STATUS_STATE]
    omega
  refine nvIdle_ite hset (nvIdle_ite (hset.raise ?_) (nvIdle_ite (hset.raise ?_) hset)) <;>
    · simp only [Fld.offNv, Fld.key, R.NV_EVENTS_CE_SET, R.NV_EVENTS_FAIL_SET, R.LNK_EVENTS_UP, R.LNK_EVENTS_DOWN]
      omega

theorem nvIdle_phaseLost (s : State) (n : Nat) : NvIdle s (s.phaseLost n) := by
  have hlink : NvIdle s (s.setLink n { s.link n with rt := [] }) := nvIdle_frame rfl rfl rfl rfl rfl
  refine ((hlink.clr (offNv_of_lo ?_)).raise (offNv_of_lo ?_)).raise (offNv_of_lo ?_) <;>
    simp only [Fld.key, R.LNK_STATUS_PC_RUN, R.LNK_STATUS_PHASE_LOST, R.LNK_EVENTS_PHASE_LOST_SET] <;> omega

theorem nvIdle_wakeLink (s : State) {n : Nat} (hn : n < 32) : NvIdle s (s.wakeLink n) :=
  nvIdle_ite ((nvIdle_setLinkState s hn 1).trans (nvIdle_phaseLost _ n)) (NvIdle.refl s)

theorem nvIdle_soakSet (s : State) : NvIdle s s.soakSet := by
  have hset : NvIdle s (((s.raise R.TDC_STATUS_SOAK).raise R.QUAL_STATUS_SOAK_HOLD).raise R.TDC_EVENTS_SOAK_SET) :=
    (((NvIdle.refl s).raise (by decide)).raise (by decide)).raise (by decide)
  exact nvIdle_ite (NvIdle.refl s) (hset.frame rfl rfl rfl rfl rfl)

theorem nvIdle_heaterOn (s : State) : NvIdle s s.heaterOn := by
  have hheat : NvIdle s { s with tdc := { s.tdc with heater := true } } := nvIdle_frame rfl rfl rfl rfl rfl
  exact nvIdle_ite (NvIdle.refl s) (hheat.trans (nvIdle_soakSet _))

theorem nvIdle_wakeSleep (s : State) : NvIdle s s.wakeSleep := by
  unfold State.wakeSleep
  dsimp only
  have hlist : NvIdle s { s with pwr := { s.pwr with plls := [] } } := nvIdle_frame rfl rfl rfl rfl rfl
  have hdomains := hlist.trans (nvIdle_foldl [1, 2, 3] (fun t d _ => nvIdle_wakeDomain t d) _)
  have hplls := hdomains.trans (nvIdle_foldl s.pwr.plls (fun t p _ => nvIdle_startPll t p) _)
  have hlinks := hplls.trans (nvIdle_foldl (List.range 32) (fun t n hn => nvIdle_wakeLink t (List.mem_range.1 hn)) _)
  exact nvIdle_ite hlinks (hlinks.trans (nvIdle_heaterOn _))

theorem nvIdle_lastWake (s : State) (srcs : List Nat) (replayed abort : Bool) : NvIdle s (s.lastWake srcs replayed abort) :=
  (((((NvIdle.refl s).setFld _ (by decide)).setFld _ (by decide)).setFld _ (by decide)).setFld _ (by decide)).setFld _ (by decide)

theorem nvIdle_epsStart (s : State) (r : Nat) : NvIdle s (s.epsStart r) :=
  nvIdle_ite (nvIdle_frame rfl rfl rfl rfl rfl) (NvIdle.refl s)

theorem nvIdle_beatRunning (s : State) (n : Nat) : NvIdle s (if s.engState n = 1 then s.beat n else s) :=
  nvIdle_ite (nvIdle_frame rfl rfl rfl rfl rfl) (NvIdle.refl s)

theorem nvIdle_resumeRun (s : State) : NvIdle s s.resumeRun := by
  have hrun : NvIdle s (s.setFld R.PWR_STATUS_STATE 0) := (NvIdle.refl s).setFld _ (by decide)
  unfold State.resumeRun
  dsimp only
  refine NvIdle.trans ?_ (nvIdle_foldl _ (fun t n _ => nvIdle_beatRunning t n) _)
  refine NvIdle.trans ?_ (nvIdle_foldl _ (fun t g _ => nvIdle_epsStart t (8 + g)) _)
  exact hrun.frame rfl rfl rfl rfl rfl

theorem nvIdle_wakeRun (s : State) (srcs : List Nat) (replayed : Bool) : NvIdle s (s.wakeRun srcs replayed) := by
  have hshown : NvIdle s ((s.lastWake srcs replayed false).raise R.PWR_EVENTS_WAKE) :=
    (nvIdle_lastWake s srcs replayed false).raise (by decide)
  unfold State.wakeRun
  dsimp only
  generalize (s.lastWake srcs replayed false).raise R.PWR_EVENTS_WAKE = t at hshown
  have halarm : NvIdle s (if srcs.contains 2 = true then { t with pwr := { t.pwr with alarm := false } } else t) :=
    nvIdle_ite (hshown.frame rfl rfl rfl rfl rfl) hshown
  have hrun := halarm.trans (nvIdle_resumeRun _)
  exact nvIdle_ite (hrun.trans (nvIdle_wakeSleep _)) hrun

theorem nvIdle_abortEntry (s : State) (src : Nat) : NvIdle s (s.abortEntry src) := by
  have hshown : NvIdle s ((s.lastWake [src] false true).raise R.PWR_EVENTS_ABORTED) :=
    (nvIdle_lastWake s [src] false true).raise (by decide)
  unfold State.abortEntry
  dsimp only
  generalize (s.lastWake [src] false true).raise R.PWR_EVENTS_ABORTED = t at hshown
  have hanswer : NvIdle s ((t.setFld R.PWR_RESULT_RESULT 3).clr R.PWR_STATUS_ENTERING) :=
    (hshown.setFld _ (by decide)).clr (by decide)
  exact hanswer.frame rfl rfl rfl rfl rfl

theorem nvIdle_wakeDeep (s : State) (srcs : List Nat) (replayed : Bool) : NvIdle s (s.wakeDeep srcs replayed) := by
  have hshown : NvIdle s ((s.lastWake srcs replayed false).raise R.PWR_EVENTS_WAKE) :=
    (nvIdle_lastWake s srcs replayed false).raise (by decide)
  exact hshown.frame rfl rfl rfl rfl rfl

theorem nvIdle_wakeEvent (s : State) (src : Nat) : NvIdle s (s.wakeEvent src) := by
  have hrefl := NvIdle.refl s
  refine nvIdle_ite hrefl (nvIdle_ite (nvIdle_ite hrefl (nvIdle_ite (nvIdle_abortEntry s src) (nvIdle_ite hrefl ?_))) ?_)
  · exact nvIdle_frame rfl rfl rfl rfl rfl
  · exact nvIdle_ite hrefl (nvIdle_ite (nvIdle_wakeRun _ _ _) (nvIdle_wakeDeep _ _ _))

/-- A wake that was due takes place, and none is due any more. -/
theorem settleWake_nv (s : State) : NvKept s s.settleWake ∧ s.settleWake.pwr.wakeDue = false := by
  unfold State.settleWake
  split
  · have hwake := nvIdle_wakeEvent { s with pwr := { s.pwr with wakeDue := false } } 5
    have hcleared : NvKept s { s with pwr := { s.pwr with wakeDue := false } } := ⟨rfl, rfl, rfl, rfl, rfl⟩
    exact ⟨hcleared.trans hwake.kept, hwake.due⟩
  · next h => exact ⟨NvKept.refl s, Bool.eq_false_iff.2 h⟩

/-! ### Reports of the NV store -/

theorem nvKept_faultLines (s : State) : NvKept s s.faultLines := nvKept_setFld s _ (by decide)

theorem nvKept_fenceOn (s : State) (src : Nat) : NvKept s (s.fenceOn src) := by
  refine nvKept_ite (NvKept.refl s) ?_
  refine (((nvKept_setFld s 1 (f := R.FLT_SRC_FENCED src) ?_).trans (nvKept_setFld _ _ (by decide))).trans
    (nvKept_setFld _ 1 (by decide))).trans (nvKept_faultLines _)
  simp only [Fld.offNv, Fld.key, R.NV_EVENTS_CE_SET, R.NV_EVENTS_FAIL_SET, R.FLT_SRC_FENCED]
  omega

/-- The fence of the store drops its open buffers alone. -/
theorem nvKept_fenceSource (s : State) : NvKept s (s.fenceSource 0x01A) := by
  have hunit (t : State) : NvKept t (t.fenceUnit 0x01A) := by
    have hbufs : NvKept t { t with stores := { t.stores with bufs := [] } } := ⟨rfl, rfl, rfl, rfl, rfl⟩
    exact hbufs.trans (nvKept_setFld _ 0 (f := R.NV_STATUS_OPEN) (by decide))
  exact nvKept_ite (NvKept.refl s) (nvKept_ite (NvKept.refl s) ((nvKept_fenceOn s _).trans (hunit _)))

theorem nvKept_classEffects (s : State) (cls cause : Nat) : NvKept s (s.classEffects 0x01A cls cause) := by
  have hrecord := nvKept_record s 0x01A cls cause
  have hfence := nvKept_ite (c := 2 ≤ cls) (hrecord.trans (nvKept_fenceSource _)) hrecord
  exact nvKept_ite (hfence.trans (NvKept.refl _)) hfence

theorem nvKept_countEvent (s : State) : NvKept s (s.countEvent 0x01A) := by
  have hcount : NvKept s (s.bump (R.FLT_SRC_WCOUNT 0x01A)) := nvKept_setFld s _ (by decide)
  refine nvKept_ite (hcount.trans ?_) hcount
  exact (nvKept_setFld _ 0 (by decide)).trans ((nvKept_setFld _ 1 (f := R.FLT_EVENTS_PROMOTED) (by decide)).trans
    (nvKept_classEffects _ _ _))

/-- A report of the store, with the wake that its promotion brings. -/
theorem report_nv (s : State) (cls cause : Nat) (hwake : s.pwr.wakeDue = false) :
    NvKept s (s.report 0x01A cls cause) ∧ (s.report 0x01A cls cause).pwr.wakeDue = false := by
  unfold State.report
  split
  · exact ⟨NvKept.refl s, hwake⟩
  · have hclass := nvKept_classEffects s cls cause
    have hcount := nvKept_ite (c := counted 0x01A cls cause = true) (hclass.trans (nvKept_countEvent _)) hclass
    obtain ⟨hsettle, hdue⟩ := settleWake_nv (if counted 0x01A cls cause = true then (s.classEffects 0x01A cls cause).countEvent 0x01A
      else s.classEffects 0x01A cls cause)
    exact ⟨hcount.trans hsettle, hdue⟩

end Sys2Proof.Machine


namespace Sys2Proof.Machine

/-! ### The errors that the scan found (13 R393) -/

theorem NvKept.raise {s t : State} (h : NvKept s t) (f : Fld) : NvKept (s.raise f) (t.raise f) := by
  refine ⟨?_, ?_, h.mem, h.bank, h.torn⟩
  · rw [State.fld_raise, State.fld_raise, h.ce]
  · rw [State.fld_raise, State.fld_raise, h.fail]

theorem nvCe_spec {s : State} (hdue : s.pwr.wakeDue = false) :
    NvKept (s.raise R.NV_EVENTS_CE_SET) s.nvCe ∧ s.nvCe.pwr.wakeDue = false := by
  obtain ⟨hkept, hidle⟩ := report_nv s 0 0x07 hdue
  have hnoted := nvKept_ite (c := s.flag R.NV_EVENTS_CE_SET = true) (NvKept.refl s) hkept
  have hstill : (if s.flag R.NV_EVENTS_CE_SET = true then s else s.report 0x01A 0 0x07).pwr.wakeDue = false := by
    split
    · exact hdue
    · exact hidle
  exact ⟨(hnoted.trans (nvKept_setFld _ _ (f := R.NV_CE) (by decide))).raise _, hstill⟩

theorem nvUe_spec {s : State} (off : Nat) (hdue : s.pwr.wakeDue = false) :
    NvKept (s.raise R.NV_EVENTS_FAIL_SET) (s.nvUe off) ∧ (s.nvUe off).pwr.wakeDue = false := by
  have haddr : NvIdle s (if s.flag R.NV_EVENTS_FAIL_SET = true then s else s.setFld R.NV_UE_ADDR (off / 8 * 8)) :=
    nvIdle_ite (NvIdle.refl s) ((NvIdle.refl s).setFld _ (by decide))
  unfold State.nvUe
  dsimp only
  generalize (if s.flag R.NV_EVENTS_FAIL_SET = true then s else s.setFld R.NV_UE_ADDR (off / 8 * 8)) = t at haddr ⊢
  have hcount : NvIdle s (t.bump R.NV_UE) := haddr.setFld _ (by decide)
  obtain ⟨hkept, hidle⟩ := report_nv ((t.bump R.NV_UE).raise R.NV_EVENTS_FAIL_SET) 1 0x06 (hcount.due.trans hdue)
  exact ⟨(hcount.kept.raise R.NV_EVENTS_FAIL_SET).trans hkept, hidle⟩

/-- The check state that a mark leaves at a group. -/
theorem ecc_setEcc (s : State) (g v k : Nat) : (s.setEcc g v).ecc k = if k = g then v else s.ecc k := Tab.get_set _ _ _ _ _

theorem ecc_of_bank {s t : State} (h : t.bank = s.bank) : t.ecc = s.ecc := by
  unfold State.ecc
  rw [h]

/-- The group of a scan's list. -/
def scanGroup (g : Nat) : Nat := nvBase / 8 + g % 65536

/-- Each group of a list takes a check state, and its error is met. -/
def State.markGroups (s : State) (met : State → Nat → State) (v : Nat) (l : List Nat) : State :=
  l.foldl (fun s g => met (s.setEcc (scanGroup g) v) (8 * (g % 65536))) s

/-- What marking a list leaves: the check states, the event, and all else of the store as it was. -/
structure NvMarked (s u : State) (e : Fld) (v : Nat) (l : List Nat) : Prop where
  mem : u.mem = s.mem
  lost : u.bank.lost = s.bank.lost
  torn : u.stores.torn = s.stores.torn
  due : u.pwr.wakeDue = false
  ecc : ∀ k, u.ecc k = if k ∈ l.map scanGroup then v else s.ecc k
  other : ∀ f ∈ [R.NV_EVENTS_CE_SET, R.NV_EVENTS_FAIL_SET], f.key ≠ e.key → u.fld f = s.fld f
  event : l ≠ [] → u.fld e = 1

theorem NvKept.fld {s t : State} (h : NvKept s t) {f : Fld} (hf : f ∈ [R.NV_EVENTS_CE_SET, R.NV_EVENTS_FAIL_SET]) : t.fld f = s.fld f := by
  simp only [List.mem_cons, List.not_mem_nil, or_false] at hf
  obtain rfl | rfl := hf
  · exact h.ce
  · exact h.fail

theorem nvMarked_markGroups {met : State → Nat → State} {e : Fld} (he : e ∈ [R.NV_EVENTS_CE_SET, R.NV_EVENTS_FAIL_SET])
    (hmet : ∀ s off, s.pwr.wakeDue = false → NvKept (s.raise e) (met s off) ∧ (met s off).pwr.wakeDue = false) (v : Nat) (l : List Nat)
    {s : State} (hdue : s.pwr.wakeDue = false) : NvMarked s (s.markGroups met v l) e v l := by
  induction l generalizing s with
  | nil => exact ⟨rfl, rfl, rfl, hdue, fun _ => rfl, fun _ _ _ => rfl, fun h => absurd rfl h⟩
  | cons g l ih =>
    obtain ⟨hkept, hidle⟩ := hmet (s.setEcc (scanGroup g) v) (8 * (g % 65536)) hdue
    have hrest := ih hidle
    have hset : (met (s.setEcc (scanGroup g) v) (8 * (g % 65536))).fld e = 1 := by
      rw [hkept.fld he, State.fld_raise_same]
      simp only [List.mem_cons, List.not_mem_nil, or_false] at he
      obtain rfl | rfl := he <;> rfl
    refine ⟨hrest.mem.trans hkept.mem, ?_, hrest.torn.trans hkept.torn, hrest.due, fun k => ?_, fun f hf hne => ?_, fun _ => ?_⟩
    · rw [State.markGroups, List.foldl_cons]
      exact hrest.lost.trans (by rw [hkept.bank]; rfl)
    · refine (hrest.ecc k).trans ?_
      have hcheck : (met (s.setEcc (scanGroup g) v) (8 * (g % 65536))).ecc k = (s.setEcc (scanGroup g) v).ecc k :=
        congrFun (ecc_of_bank (s := s.setEcc (scanGroup g) v) hkept.bank) k
      rw [hcheck, ecc_setEcc]
      by_cases hg : k = scanGroup g <;> by_cases hl : k ∈ l.map scanGroup <;> simp [hg, hl]
    · exact (hrest.other f hf hne).trans ((hkept.fld hf).trans ((State.fld_raise _ _ _).trans (if_neg hne)))
    · by_cases hl : l = []
      · subst hl
        exact hset
      · exact hrest.event hl

/-! ### The torn pages (13 R396) -/

theorem nvIdle_foundTorn (s : State) (p : Nat) : NvIdle s (s.foundTorn p) :=
  ((nvIdle_ite (NvIdle.refl s) ((NvIdle.refl s).setFld _ (by decide))).setFld (f := R.NV_TORN) _ (by decide)).raise (by decide)

theorem foundTorn_event {l : List Nat} (hl : l ≠ []) (s : State) : (l.foldl State.foundTorn s).fld R.NV_EVENTS_TORN_SET = 1 := by
  obtain ⟨l', p, rfl⟩ := (List.eq_nil_or_concat' l).resolve_left hl
  rw [List.foldl_append]
  exact State.fld_raise_same _ _

/-! ### One record (13 R398, R399) -/

/-- Both copies are valid. -/
def State.bothValid (s : State) (k : Nat) : Bool := s.copyValid k 0 && s.copyValid k 1

/-- How far the SEQ of copy A is ahead of that of copy B. -/
def State.recAhead (s : State) (k : Nat) : Nat := (s.recSeq k 0 + 2 ^ 32 - s.recSeq k 1) % 2 ^ 32

/-- Two valid copies of which neither is newer, and which are not the same record. -/
def State.recTie (s : State) (k : Nat) : Bool :=
  s.bothValid k && (s.recAhead k == 2 ^ 31 ||
    (s.recAhead k == 0 && s.recField k 0 0 (recSpan k) != s.recField k 1 0 (recSpan k)))

/-- The copy that is selected. -/
def State.recCur (s : State) (k : Nat) : Nat :=
  if s.bothValid k = true then (if 2 ^ 31 < s.recAhead k then 1 else 0) else b2n (s.copyValid k 1)

/-- A record shows what the state `s` stores of it. -/
structure RecordShown (s u : State) (k : Nat) : Prop where
  validA : u.fld (R.NV_REC_VALID_A k) = b2n (s.copyValid k 0)
  validB : u.fld (R.NV_REC_VALID_B k) = b2n (s.copyValid k 1)
  present : u.fld (R.NV_REC_PRESENT k) = b2n (s.copyValid k 0 || s.copyValid k 1)
  cur : u.fld (R.NV_REC_CUR k) = s.recCur k
  tie : u.fld (R.NV_REC_TIE k) = b2n (s.recTie k)
  seq : u.fld (R.NV_REC_SEQ_SEQ k) = if (s.copyValid k 0 || s.copyValid k 1) = true then s.recSeq k (s.recCur k) else 0

/-- The fields of one record. -/
def recordOf (k : Nat) : List Fld :=
  [R.NV_REC_VALID_A k, R.NV_REC_VALID_B k, R.NV_REC_PRESENT k, R.NV_REC_CUR k, R.NV_REC_TIE k, R.NV_REC_SEQ_SEQ k]

theorem selectCopy_eq {s : State} {k : Nat} (h : s.bothValid k = true) : s.selectCopy k = (s.recCur k, s.recTie k) := by
  unfold State.selectCopy State.recCur State.recTie
  rw [h, if_pos rfl, Bool.true_and]
  dsimp only
  rw [← State.recAhead]
  generalize s.recAhead k = d
  by_cases h0 : d = 0
  · subst h0
    rfl
  by_cases hlt : d < 2 ^ 31
  · rw [if_neg h0, if_pos hlt, if_neg (by omega), beq_false_of_ne h0, beq_false_of_ne (by omega)]
    rfl
  by_cases hgt : 2 ^ 31 < d
  · rw [if_neg h0, if_neg hlt, if_pos hgt, if_pos hgt, beq_false_of_ne h0, beq_false_of_ne (by omega)]
    rfl
  · obtain rfl : d = 2 ^ 31 := by omega
    rfl

/-- The copy and the tie that an evaluation shows. -/
theorem selected_eq (s : State) (k : Nat) :
    (if (s.copyValid k 0 && s.copyValid k 1) = true then s.selectCopy k
      else (if (s.copyValid k 1 && !s.copyValid k 0) = true then 1 else 0, false)) = (s.recCur k, s.recTie k) := by
  split
  · next h => exact selectCopy_eq h
  · next h =>
    have hboth : s.bothValid k = false := Bool.eq_false_iff.2 h
    unfold State.recCur State.recTie
    rw [hboth]
    revert h
    cases s.copyValid k 0 <;> cases s.copyValid k 1 <;> simp [b2n]

/-- The six fields of a record are written. -/
def State.showRecord (s : State) (k a b p cur tie seq : Nat) : State :=
  (((((s.setFld (R.NV_REC_VALID_A k) a).setFld (R.NV_REC_VALID_B k) b).setFld (R.NV_REC_CUR k) cur).setFld (R.NV_REC_PRESENT k)
    p).setFld (R.NV_REC_TIE k) tie).setFld (R.NV_REC_SEQ_SEQ k) seq

theorem onlyFields_showRecord (s : State) (k a b p cur tie seq : Nat) : OnlyFields s (s.showRecord k a b p cur tie seq) (recordOf k) :=
  ((((((OnlyFields.refl s _).setFld _ (by simp [recordOf])).setFld _ (by simp [recordOf])).setFld _ (by simp [recordOf])).setFld _
    (by simp [recordOf])).setFld _ (by simp [recordOf])).setFld _ (by simp [recordOf])


theorem recordShown_showRecord (s : State) (k : Nat) :
    RecordShown s (s.showRecord k (b2n (s.copyValid k 0)) (b2n (s.copyValid k 1)) (b2n (s.copyValid k 0 || s.copyValid k 1)) (s.recCur k)
      (b2n (s.recTie k)) (if (s.copyValid k 0 || s.copyValid k 1) = true then s.recSeq k (s.recCur k) else 0)) k := by
  have hbit (b : Bool) : b2n b % 2 ^ 1 = b2n b := by cases b <;> rfl
  have hcur : s.recCur k % 2 ^ 1 = s.recCur k := by
    unfold State.recCur
    split
    · split <;> rfl
    · exact hbit _
  have hseq : (if (s.copyValid k 0 || s.copyValid k 1) = true then s.recSeq k (s.recCur k) else 0) % 2 ^ 32
      = if (s.copyValid k 0 || s.copyValid k 1) = true then s.recSeq k (s.recCur k) else 0 := by
    split
    · exact Nat.mod_eq_of_lt (bytes_lt s _ 4)
    · rfl
  unfold State.showRecord
  constructor <;>
    simp only [State.fld_setFld, Fld.key, R.NV_REC_VALID_A, R.NV_REC_VALID_B, R.NV_REC_PRESENT, R.NV_REC_CUR, R.NV_REC_TIE,
      R.NV_REC_SEQ_SEQ]
  · rw [if_neg (by omega), if_neg (by omega), if_neg (by omega), if_neg (by omega), if_neg (by omega), if_pos trivial]
    exact hbit _
  · rw [if_neg (by omega), if_neg (by omega), if_neg (by omega), if_neg (by omega), if_pos trivial]
    exact hbit _
  · rw [if_neg (by omega), if_neg (by omega), if_pos trivial]
    exact hbit _
  · rw [if_neg (by omega), if_neg (by omega), if_neg (by omega), if_pos trivial]
    exact hcur
  · rw [if_neg (by omega), if_pos trivial]
    exact hbit _
  · rw [if_pos trivial]
    exact hseq


/-- A report of class NOTE changes at most the NOTES of its source. -/
theorem onlyFields_reportNote {s : State} (cause : Nat) (hdue : s.pwr.wakeDue = false) :
    OnlyFields s (s.report 0x01A 0 cause) [R.FLT_SRC_NOTES 0x01A] := by
  unfold State.report
  refine OnlyFields.ite (OnlyFields.refl s _) ?_
  have hsettle : (s.note 0x01A).settleWake = s.note 0x01A := if_neg (by rw [show (s.note 0x01A).pwr = s.pwr from rfl, hdue]; simp)
  exact hsettle ▸ (OnlyFields.refl s _).bump (by simp)

theorem RecordShown.of_fields {s t u : State} {k : Nat} (h : RecordShown s t k) (hu : ∀ f ∈ recordOf k, u.fld f = t.fld f) :
    RecordShown s u k := by
  simp only [recordOf, List.forall_mem_cons] at hu
  obtain ⟨ha, hb, hp, hc, ht, hq, -⟩ := hu
  exact ⟨ha.trans h.validA, hb.trans h.validB, hp.trans h.present, hc.trans h.cur, ht.trans h.tie, hq.trans h.seq⟩

/-- The TIE_SET event and the NOTES of the store. -/
def tieFields : List Fld := [R.NV_EVENTS_TIE_SET, R.FLT_SRC_NOTES 0x01A]

/-- A record's fields are apart from those two, and from the fields of another record. -/
theorem recordOf_apart {j k : Nat} (hj : j < 3) (hk : k < 3) :
    ∀ f ∈ recordOf k, (∀ g ∈ tieFields, f.key ≠ g.key) ∧ (j ≠ k → ∀ g ∈ recordOf j, f.key ≠ g.key) := by
  simp only [recordOf, tieFields, List.forall_mem_cons, Fld.key, R.NV_REC_VALID_A, R.NV_REC_VALID_B, R.NV_REC_PRESENT, R.NV_REC_CUR,
    R.NV_REC_TIE, R.NV_REC_SEQ_SEQ, R.NV_EVENTS_TIE_SET, R.FLT_SRC_NOTES, List.not_mem_nil, false_implies, implies_true, and_true]
  refine ⟨⟨?_, ?_⟩, ⟨?_, ?_⟩, ⟨?_, ?_⟩, ⟨?_, ?_⟩, ⟨?_, ?_⟩, ?_, ?_⟩ <;> omega

/-- The record's fields as the evaluation writes them. -/
def State.shownRecord (s : State) (k : Nat) : State :=
  s.showRecord k (b2n (s.copyValid k 0)) (b2n (s.copyValid k 1)) (b2n (s.copyValid k 0 || s.copyValid k 1)) (s.recCur k) (b2n (s.recTie k))
    (if (s.copyValid k 0 || s.copyValid k 1) = true then s.recSeq k (s.recCur k) else 0)

theorem recSeq_setFld (s : State) (f : Fld) (v k c : Nat) : (s.setFld f v).recSeq k c = s.recSeq k c :=
  State.bytes_congr fun _ _ => rfl

theorem evalRecord_eq (s : State) (k : Nat) :
    s.evalRecord k = if s.recTie k = true then ((s.shownRecord k).raise R.NV_EVENTS_TIE_SET).report 0x01A 0 0x1A else s.shownRecord k := by
  unfold State.evalRecord State.shownRecord State.showRecord b2n
  dsimp only
  rw [selected_eq]
  simp only [recSeq_setFld]

/-- What the evaluation of one record changes and shows. -/
theorem evalRecord_spec {s : State} {k : Nat} (hk : k < 3) (hdue : s.pwr.wakeDue = false) :
    OnlyFields s (s.evalRecord k) (tieFields ++ recordOf k) ∧ RecordShown s (s.evalRecord k) k ∧
      (s.evalRecord k).fld R.NV_EVENTS_TIE_SET = if s.recTie k = true then 1 else s.fld R.NV_EVENTS_TIE_SET := by
  have hshown : RecordShown s (s.shownRecord k) k := recordShown_showRecord s k
  have honly : OnlyFields s (s.shownRecord k) (tieFields ++ recordOf k) := (onlyFields_showRecord s k _ _ _ _ _ _).mono fun _ => List.mem_append_right _
  rw [evalRecord_eq]
  split
  · next htie =>
    have hnote := onlyFields_reportNote (s := (s.shownRecord k).raise R.NV_EVENTS_TIE_SET) 0x1A (by
      have hpwr : (s.shownRecord k).pwr = s.pwr := by rw [honly.1]
      exact (congrArg Power.wakeDue hpwr).trans hdue)
    refine ⟨(honly.raise (by simp [tieFields])).trans (hnote.mono (by simp [tieFields])), hshown.of_fields fun f hf => ?_, ?_⟩
    · obtain ⟨hapart, -⟩ := recordOf_apart (j := k) hk hk f hf
      exact (hnote.2 f (by simpa using hapart _ (by simp [tieFields]))).trans (State.fld_setFld_ne _ _ (hapart _ (by simp [tieFields])))
    · exact (hnote.2 _ (by decide)).trans (State.fld_raise_same _ _)
  · refine ⟨honly, hshown, (onlyFields_showRecord s k _ _ _ _ _ _).2 _ fun g hg => Ne.symm ?_⟩
    exact (recordOf_apart (j := k) hk hk g hg).1 _ (by simp [tieFields])


/-! ### What the records depend on -/

section
variable {s t : State} (h : t = { s with regs := t.regs })
include h

theorem recField_of_regs : t.recField = s.recField := by
  have hbytes : t.bytes = s.bytes := bytes_of_memory (by rw [h]; rfl)
  unfold State.recField
  rw [hbytes]

theorem recSeq_of_regs : t.recSeq = s.recSeq := by
  unfold State.recSeq
  rw [recField_of_regs h]

theorem copyValid_of_regs : t.copyValid = s.copyValid := by
  have hecc : t.nvEcc = s.nvEcc := by
    unfold State.nvEcc
    rw [ecc_of_bank (s := s) (by rw [h])]
  have htorn : t.stores.torn = s.stores.torn := by rw [h]
  unfold State.copyValid
  rw [recField_of_regs h, hecc, htorn]

theorem recCur_of_regs : t.recCur = s.recCur := by
  unfold State.recCur State.bothValid State.recAhead
  rw [copyValid_of_regs h, recSeq_of_regs h]

theorem recTie_of_regs : t.recTie = s.recTie := by
  unfold State.recTie State.bothValid State.recAhead
  rw [copyValid_of_regs h, recSeq_of_regs h, recField_of_regs h]

/-- What a record shows of a state, it shows of the same stores. -/
theorem RecordShown.of_regs {u : State} {k : Nat} (hs : RecordShown s u k) : RecordShown t u k := by
  refine ⟨?_, ?_, ?_, ?_, ?_, ?_⟩
  · rw [copyValid_of_regs h]; exact hs.validA
  · rw [copyValid_of_regs h]; exact hs.validB
  · rw [copyValid_of_regs h]; exact hs.present
  · rw [recCur_of_regs h]; exact hs.cur
  · rw [recTie_of_regs h]; exact hs.tie
  · rw [copyValid_of_regs h, recSeq_of_regs h, recCur_of_regs h]; exact hs.seq

end

/-! ### All records (13 R399) -/

/-- The first `n` records show what the state stores of them, with TIE_SET for a tie. -/
structure RecordsShown (s t : State) (n : Nat) : Prop where
  only : OnlyFields s t (tieFields ++ (List.range n).flatMap recordOf)
  shown : ∀ k < n, RecordShown s t k ∧ (s.recTie k = true → t.fld R.NV_EVENTS_TIE_SET = 1)

theorem recordsShown_evalRecord {s t : State} {n : Nat} (hn : n < 3) (h : RecordsShown s t n) (hdue : s.pwr.wakeDue = false) :
    RecordsShown s (t.evalRecord n) (n + 1) := by
  have hregs := h.only.1
  obtain ⟨honly, hshown, htie⟩ := evalRecord_spec (s := t) hn (by rw [hregs]; exact hdue)
  rw [recTie_of_regs hregs] at htie
  have hback : s = { t with regs := s.regs } := by rw [hregs]
  have hfields : (List.range (n + 1)).flatMap recordOf = (List.range n).flatMap recordOf ++ recordOf n := by
    rw [List.range_succ, List.flatMap_append, List.flatMap_singleton]
  refine ⟨?_, fun k hk => ?_⟩
  · rw [hfields, ← List.append_assoc]
    refine (h.only.mono fun _ => List.mem_append_left _).trans (honly.mono fun g hg => ?_)
    rcases List.mem_append.1 hg with hg | hg
    · exact List.mem_append_left _ (List.mem_append_left _ hg)
    · exact List.mem_append_right _ hg
  rcases Nat.lt_succ_iff_lt_or_eq.1 hk with hlt | rfl
  · obtain ⟨hbefore, hset⟩ := h.shown k hlt
    refine ⟨hbefore.of_fields fun f hf => honly.2 f fun g hg => ?_, fun hk => ?_⟩
    · obtain ⟨hevents, hother⟩ := recordOf_apart (j := n) hn (hlt.trans hn) f hf
      rcases List.mem_append.1 hg with hg | hg
      · exact hevents g hg
      · exact hother (by omega) g hg
    · rw [htie, hset hk, ite_self]
  · exact ⟨hshown.of_regs hback, fun hk => by rw [htie, if_pos hk]⟩

theorem evalRecords_spec {s : State} (hdue : s.pwr.wakeDue = false) : RecordsShown s s.evalRecords 3 := by
  have hnone : RecordsShown s s 0 := ⟨OnlyFields.refl s _, fun k hk => absurd hk (by omega)⟩
  exact recordsShown_evalRecord (by decide) (recordsShown_evalRecord (by decide) (recordsShown_evalRecord (by decide) hnone hdue) hdue) hdue

/-! ### The patch maps (12 R354) -/

/-- Registers alone change, and none of the NV block. -/
structure NvBlockKept (s t : State) : Prop where
  regs : t = { s with regs := t.regs }
  block : ∀ f : Fld, f.key / 0x200000 = 0x511 → t.fld f = s.fld f

theorem NvBlockKept.refl (s : State) : NvBlockKept s s := ⟨rfl, fun _ _ => rfl⟩

theorem NvBlockKept.trans {s t u : State} (h : NvBlockKept s t) (h' : NvBlockKept t u) : NvBlockKept s u :=
  ⟨by rw [h'.regs, h.regs], fun f hf => (h'.block f hf).trans (h.block f hf)⟩

theorem NvBlockKept.setFld {s t : State} (h : NvBlockKept s t) {f : Fld} (v : Nat) (hf : f.key / 0x200000 ≠ 0x511) :
    NvBlockKept s (t.setFld f v) := by
  refine ⟨?_, fun g hg => (State.fld_setFld_ne t v fun he => hf (he ▸ hg)).trans (h.block g hg)⟩
  conv_lhs => rw [State.setFld, h.regs]
  rfl

theorem nvBlockKept_setPatch (s : State) {b j : Nat} (hb : b < 29) (hj : j < 16) (row origin : Nat) :
    NvBlockKept s (s.setPatch b j row origin) := by
  refine ((((NvBlockKept.refl s).setFld row ?_).setFld origin ?_).setFld 1 ?_).setFld _ ?_ <;>
    · simp only [Fld.key, R.BNK_PATCH_ROW, R.BNK_PATCH_ORIGIN, R.BNK_PATCH_V, R.BNK_STATUS_PATCHED]
      omega

theorem freePatch_lt {s : State} {b j : Nat} (h : s.freePatch b = some j) : j < 16 := List.mem_range.1 (List.mem_of_find?_eq_some h)

theorem nvBlockKept_loadPatch (s : State) {b : Nat} (hb : b < 29) (e : Nat) : NvBlockKept s (s.loadPatch b e).1 := by
  unfold State.loadPatch
  dsimp only
  split
  · exact NvBlockKept.refl s
  · split
    · next j hj => exact nvBlockKept_setPatch s hb (freePatch_lt hj) _ _
    · exact NvBlockKept.refl s

theorem nvBlockKept_foldl {β : Type} {f : State → β → State} (l : List β) (hf : ∀ s, ∀ b ∈ l, NvBlockKept s (f s b)) (s : State) :
    NvBlockKept s (l.foldl f s) := by
  induction l generalizing s with
  | nil => exact NvBlockKept.refl s
  | cons b l ih => exact (hf s b (by simp)).trans (ih (fun t c hc => hf t c (List.mem_cons_of_mem b hc)) _)

/-- One entry of a bank's list in the record of `s`, and whether one so far found no patch row. -/
def State.loadEntry (s : State) (b : Nat) (p : State × Bool) (j : Nat) : State × Bool :=
  let (t, o) := p.1.loadPatch b ((s.recPayload 1 (32 * b + 2 * j) 2).getD 0)
  (t, p.2 || o)

theorem nvBlockKept_loadEntries (s : State) {b : Nat} (hb : b < 29) (l : List Nat) (p : State × Bool) :
    NvBlockKept p.1 (l.foldl (s.loadEntry b) p).1 := by
  induction l generalizing p with
  | nil => exact NvBlockKept.refl _
  | cons j l ih => exact (nvBlockKept_loadPatch p.1 hb _).trans (ih (s.loadEntry b p j))

theorem nvBlockKept_loadBankPatches (s : State) {b : Nat} (hb : b < 29) : NvBlockKept s (s.loadBankPatches b) := by
  have hentries := nvBlockKept_loadEntries s hb (List.range 16) (s, false)
  change NvBlockKept s (match (List.range 16).foldl (s.loadEntry b) (s, false) with
    | (t, exceeds) => if exceeds = true then t.note 0x01A else t)
  generalize (List.range 16).foldl (s.loadEntry b) (s, false) = p at hentries ⊢
  obtain ⟨t, exceeds⟩ := p
  dsimp only at hentries ⊢
  split
  · exact hentries.setFld _ (by decide)
  · exact hentries

theorem nvBlockKept_loadFactoryPatch (s : State) (p : Nat × Nat) : NvBlockKept s (s.loadFactoryPatch p) := by
  unfold State.loadFactoryPatch
  split
  · next j hj =>
    split
    · next h => exact nvBlockKept_setPatch s h.1 (freePatch_lt hj) _ _
    · exact NvBlockKept.refl s
  · exact NvBlockKept.refl s

theorem nvBlockKept_loadPatchMap (s : State) : NvBlockKept s s.loadPatchMap := by
  unfold State.loadPatchMap
  dsimp only
  have hfactory := nvBlockKept_foldl s.stores.facPatch (fun t p _ => nvBlockKept_loadFactoryPatch t p) s
  split
  · exact hfactory.trans (nvBlockKept_foldl _ (fun t b hb => nvBlockKept_loadBankPatches t (List.mem_range.1 hb)) _)
  · exact hfactory

/-! ### The scan (13 R392, R393, R396) -/

/-- The torn pages that a scan leaves. -/
def State.scanTorn (s : State) (torn : List Nat) : List Nat :=
  (torn.map (fun p => p % 8192)).eraseDups ++ s.stores.torn.filter (fun p => !(torn.map (fun p => p % 8192)).eraseDups.contains p)

theorem mem_scanTorn {s : State} {torn : List Nat} (htorn : ∀ p ∈ torn, p < 8192) {p : Nat} (hp : p ∈ torn ++ s.stores.torn) :
    p ∈ s.scanTorn torn := by
  unfold State.scanTorn
  rw [List.mem_append, List.mem_eraseDups, List.mem_filter]
  by_cases hfound : p ∈ torn.map (fun p => p % 8192)
  · exact Or.inl hfound
  refine Or.inr ⟨(List.mem_append.1 hp).resolve_left fun h => hfound ?_, ?_⟩
  · exact List.mem_map.2 ⟨p, h, Nat.mod_eq_of_lt (htorn p h)⟩
  · simpa using hfound

/-- The store with the pages and groups that a scan found. -/
def State.scanFound (s : State) (torn ce ue : List Nat) : State :=
  ((({ s with stores := { s.stores with torn := s.scanTorn torn } }).markGroups (fun t _ => t.nvCe) 2 ce.eraseDups).markGroups
    State.nvUe 1 ue.eraseDups)

/-- The events that show what a scan found, and its end. -/
def State.scanShown (s : State) (torn ce ue : List Nat) : State :=
  (((s.scanFound torn ce ue).stores.torn.foldl State.foundTorn (s.scanFound torn ce ue)).clr R.NV_STATUS_SCAN_BUSY).raise
    R.NV_EVENTS_SCAN_DONE

theorem nvScan_eq {s : State} (torn ce ue : List Nat) (hbusy : s.fld R.NV_STATUS_SCAN_BUSY ≠ 0) :
    s.nvScan torn ce ue = (s.scanShown torn ce ue).evalRecords := by
  have hflag : s.flag R.NV_STATUS_SCAN_BUSY = true := by simpa [State.flag] using hbusy
  unfold State.nvScan State.scanShown State.scanFound State.markGroups State.scanTorn scanGroup
  rw [if_neg (by rw [hflag]; simp)]

theorem scanGroup_mem {g : Nat} {l : List Nat} (hl : ∀ x ∈ l, x < 65536) (hg : g < 65536) :
    nvBase / 8 + g ∈ l.eraseDups.map scanGroup ↔ g ∈ l := by
  simp only [List.mem_map, List.mem_eraseDups, scanGroup]
  constructor
  · rintro ⟨x, hx, he⟩
    have hlt := hl x hx
    obtain rfl : x = g := by omega
    exact hx
  · exact fun h => ⟨g, h, by omega⟩

theorem eraseDups_ne_nil {l : List Nat} (h : l ≠ []) : l.eraseDups ≠ [] := by
  obtain ⟨x, hx⟩ := List.exists_mem_of_ne_nil l h
  exact List.ne_nil_of_mem (List.mem_eraseDups.2 hx)

/-- What a scan leaves before the records are evaluated. -/
structure Scanned (s t : State) (torn ce ue : List Nat) : Prop where
  busy : t.fld R.NV_STATUS_SCAN_BUSY = 0
  done : t.fld R.NV_EVENTS_SCAN_DONE = 1
  mem : t.memory = s.memory
  due : t.pwr.wakeDue = false
  pages : t.stores.torn = s.scanTorn torn
  ecc : ∀ k, t.ecc k = if k ∈ ue.eraseDups.map scanGroup then 1 else if k ∈ ce.eraseDups.map scanGroup then 2 else s.ecc k
  tornSet : s.scanTorn torn ≠ [] → t.fld R.NV_EVENTS_TORN_SET = 1
  ceSet : ce ≠ [] → t.fld R.NV_EVENTS_CE_SET = 1
  failSet : ue ≠ [] → t.fld R.NV_EVENTS_FAIL_SET = 1

theorem scanned_scanShown {s : State} (torn ce ue : List Nat) (hdue : s.pwr.wakeDue = false) :
    Scanned s (s.scanShown torn ce ue) torn ce ue := by
  have hce := nvMarked_markGroups (e := R.NV_EVENTS_CE_SET) (met := fun t _ => t.nvCe) (by decide) (fun _ _ h => nvCe_spec h) 2
    ce.eraseDups (s := { s with stores := { s.stores with torn := s.scanTorn torn } }) hdue
  have hue := nvMarked_markGroups (e := R.NV_EVENTS_FAIL_SET) (met := State.nvUe) (by decide) (fun _ off h => nvUe_spec off h) 1
    ue.eraseDups hce.due
  have htorn := nvIdle_foldl (s.scanFound torn ce ue).stores.torn (fun t p _ => nvIdle_foundTorn t p) (s.scanFound torn ce ue)
  have hpages : (s.scanFound torn ce ue).stores.torn = s.scanTorn torn := hue.torn.trans hce.torn
  have hshown : NvIdle (s.scanFound torn ce ue) (s.scanShown torn ce ue) := (htorn.clr (by decide)).raise (by decide)
  have hbank := hshown.kept.bank
  refine ⟨?_, State.fld_raise_same _ _, ?_, hshown.due.trans hue.due, hshown.kept.torn.trans hpages, fun k => ?_, fun h => ?_, fun h => ?_,
    fun h => ?_⟩
  · exact (State.fld_setFld_ne _ _ (by decide)).trans (State.fld_clr_same _ _)
  · unfold State.memory
    rw [hshown.kept.mem, hbank, State.scanFound, hue.mem, hue.lost, hce.mem, hce.lost]
  · rw [ecc_of_bank hbank]
    refine (hue.ecc k).trans ?_
    rw [hce.ecc k]
    rfl
  · exact (State.fld_setFld_ne _ _ (by decide)).trans ((State.fld_setFld_ne _ _ (by decide)).trans (foundTorn_event (hpages ▸ h) _))
  · exact hshown.kept.ce.trans ((hue.other _ (by decide) (by decide)).trans (hce.event (eraseDups_ne_nil h)))
  · exact hshown.kept.fail.trans (hue.event (eraseDups_ne_nil h))

/-! ### The commands -/

/-- Every record shows what the state itself stores of it. -/
def RecordsTrue (u : State) : Prop := ∀ k < 3, RecordShown u u k ∧ (u.recTie k = true → u.fld R.NV_EVENTS_TIE_SET = 1)

theorem recordOf_block {k : Nat} (hk : k < 3) : ∀ f ∈ recordOf k, f.key / 0x200000 = 0x511 := by
  simp only [recordOf, List.forall_mem_cons, Fld.key, R.NV_REC_VALID_A, R.NV_REC_VALID_B, R.NV_REC_PRESENT, R.NV_REC_CUR,
    R.NV_REC_TIE, R.NV_REC_SEQ_SEQ, List.not_mem_nil, false_implies, implies_true, and_true]
  refine ⟨?_, ?_, ?_, ?_, ?_, ?_⟩ <;> omega

theorem recordsTrue_of_shown {s t u : State} (h : RecordsShown s t 3) (hu : NvBlockKept t u) : RecordsTrue u := by
  have hregs : u = { s with regs := u.regs } := by rw [hu.regs, h.only.1]
  intro k hk
  obtain ⟨hshown, htie⟩ := h.shown k hk
  refine ⟨(hshown.of_fields fun f hf => hu.block f (recordOf_block hk f hf)).of_regs hregs, fun hk => ?_⟩
  rw [recTie_of_regs hregs] at hk
  exact (hu.block _ (by decide)).trans (htie hk)

theorem exec_nvRecheck {s : State} (hp : s.awakes = true) : exec .nvRecheck s = .next s.evalRecords := State.awake_next _ hp

theorem exec_nvScanDone {s : State} (torn ce ue : List Nat) (hp : s.awakes = true) :
    exec (.nvScanDone torn ce ue) s = .next (s.scanDone torn ce ue) := State.awake_next _ hp

theorem nvBlockKept_scanDone (s : State) (torn ce ue : List Nat) : NvBlockKept (s.nvScan torn ce ue) (s.scanDone torn ce ue) := by
  unfold State.scanDone
  dsimp only
  split
  · exact nvBlockKept_loadPatchMap _
  · exact NvBlockKept.refl _

theorem scanDone_spec {s : State} (torn ce ue : List Nat) (hdue : s.pwr.wakeDue = false) (hbusy : s.fld R.NV_STATUS_SCAN_BUSY ≠ 0) :
    Scanned s (s.scanDone torn ce ue) torn ce ue ∧ RecordsTrue (s.scanDone torn ce ue) := by
  have hscan := scanned_scanShown torn ce ue hdue
  have hrecords := evalRecords_spec hscan.due
  have hpatches := nvBlockKept_scanDone s torn ce ue
  rw [nvScan_eq torn ce ue hbusy] at hpatches
  have hregs : s.scanDone torn ce ue = { s.scanShown torn ce ue with regs := (s.scanDone torn ce ue).regs } := by
    rw [hpatches.regs, hrecords.only.1]
  have hfld {f : Fld} (hblock : f.key / 0x200000 = 0x511)
      (hne : ∀ g ∈ tieFields ++ (List.range 3).flatMap recordOf, f.key ≠ g.key) :
      (s.scanDone torn ce ue).fld f = (s.scanShown torn ce ue).fld f := (hpatches.block f hblock).trans (hrecords.only.2 f hne)
  refine ⟨⟨?_, ?_, ?_, ?_, ?_, fun k => ?_, fun h => ?_, fun h => ?_, fun h => ?_⟩, recordsTrue_of_shown hrecords hpatches⟩
  · exact (hfld (by decide) (by decide)).trans hscan.busy
  · exact (hfld (by decide) (by decide)).trans hscan.done
  · rw [hregs]; exact hscan.mem
  · rw [hregs]; exact hscan.due
  · rw [hregs]; exact hscan.pages
  · rw [ecc_of_bank (s := s.scanShown torn ce ue) (by rw [hregs])]; exact hscan.ecc k
  · exact (hfld (by decide) (by decide)).trans (hscan.tornSet h)
  · exact (hfld (by decide) (by decide)).trans (hscan.ceSet h)
  · exact (hfld (by decide) (by decide)).trans (hscan.failSet h)

/-- The check state of a group, as its offset names it. -/
theorem nvEcc_group (s : State) (g : Nat) : s.nvEcc (8 * g) = s.ecc (nvBase / 8 + g) := by
  unfold State.nvEcc
  congr 1
  unfold nvBase
  omega

/-- A scan that finds nothing, with no torn page known, evaluates the records alone. -/
theorem onlyFields_scanDone_nothing {s : State} (hdue : s.pwr.wakeDue = false) (hbusy : s.fld R.NV_STATUS_SCAN_BUSY ≠ 0)
    (hphase : s.pwr.phase = 0) (htorn : s.stores.torn = []) :
    OnlyFields s (s.scanDone [] [] []) (tieFields ++ (List.range 3).flatMap recordOf ++ [R.NV_STATUS_SCAN_BUSY, R.NV_EVENTS_SCAN_DONE]) := by
  have hfound : s.scanFound [] [] [] = s := by
    change { s with stores := { s.stores with torn := s.scanTorn [] } } = s
    have hnone : s.scanTorn [] = s.stores.torn := by
      unfold State.scanTorn
      rw [htorn]
      rfl
    rw [hnone]
  have hshown : s.scanShown [] [] [] = (s.clr R.NV_STATUS_SCAN_BUSY).raise R.NV_EVENTS_SCAN_DONE := by
    rw [State.scanShown, hfound, htorn]
    rfl
  have hrecords := (evalRecords_spec (s := (s.clr R.NV_STATUS_SCAN_BUSY).raise R.NV_EVENTS_SCAN_DONE) hdue).only
  have hscan : s.nvScan [] [] [] = ((s.clr R.NV_STATUS_SCAN_BUSY).raise R.NV_EVENTS_SCAN_DONE).evalRecords := by
    rw [nvScan_eq [] [] [] hbusy, hshown]
  have hdone : s.scanDone [] [] [] = s.nvScan [] [] [] := by
    have hstill : (s.nvScan [] [] []).pwr.phase = 0 := by
      rw [hscan, hrecords.1]
      exact hphase
    exact if_neg fun h => absurd (hstill.symm.trans h.2.1) (by decide)
  rw [hdone, hscan]
  exact (((OnlyFields.refl s _).clr (by simp)).raise (by simp)).trans (hrecords.mono fun _ => List.mem_append_left _)

/-- Settles O46: an evaluation writes the record fields alone and nothing that it reads; the errors of the scan come before it, and
a wake that the promotion of one brings leaves the store and its CE_SET and FAIL_SET. -/
theorem nvRecords : Obligations.NvRecords := by
  unfold Obligations.NvRecords
  intro bit ahead both tie cur shown records recFields
  have hrecords {u : State} (h : RecordsTrue u) : records u := by
    have hk (k : Nat) (hk : k < 3) : shown u k :=
      ⟨(h k hk).1.validA, (h k hk).1.validB, (h k hk).1.present, (h k hk).1.cur, (h k hk).1.tie, (h k hk).1.seq⟩
    exact ⟨hk 0 (by decide), hk 1 (by decide), hk 2 (by decide), fun k hk => (h k (List.mem_range.1 hk)).2⟩
  refine ⟨fun s hp hdue => ?_, fun s torn ce ue hp hdue hbusy htorn hce hue => ?_, fun s hp hdue hbusy hphase htorn => ?_,
    fun s torn ce ue hp hidle => ?_⟩
  · have hshown := evalRecords_spec hdue
    exact does_next (exec_nvRecheck hp) ⟨hrecords (recordsTrue_of_shown hshown (NvBlockKept.refl _)), hshown.only⟩
  · obtain ⟨hscan, htrue⟩ := scanDone_spec torn ce ue hdue hbusy
    have hpages {p : Nat} (h : p ∈ torn ++ s.stores.torn) : p ∈ s.scanTorn torn := mem_scanTorn htorn h
    refine does_next (exec_nvScanDone torn ce ue hp) ⟨hscan.busy, hscan.done, hrecords htrue, fun p h => ?_, fun g hg => ?_, fun g hg hn => ?_,
      fun h => hscan.tornSet ?_, hscan.ceSet, hscan.failSet, memKept_of_memory hscan.mem⟩
    · rw [hscan.pages]
      exact hpages h
    · rw [nvEcc_group, hscan.ecc, if_pos ((scanGroup_mem hue (hue g hg)).2 hg)]
    · rw [nvEcc_group, hscan.ecc, if_neg fun h => hn ((scanGroup_mem hue (hce g hg)).1 h), if_pos ((scanGroup_mem hce (hce g hg)).2 hg)]
    · obtain ⟨p, hp⟩ := List.exists_mem_of_ne_nil _ h
      exact List.ne_nil_of_mem (hpages hp)
  · exact does_next (exec_nvScanDone [] [] [] hp) (onlyFields_scanDone_nothing hdue hbusy hphase htorn)
  · refine ignores_next (exec_nvScanDone torn ce ue hp) ?_
    have hflag : s.flag R.NV_STATUS_SCAN_BUSY = false := by simpa [State.flag] using hidle
    have hscan : s.nvScan torn ce ue = s := if_pos (by rw [hflag]; simp)
    unfold State.scanDone
    rw [hscan]
    exact if_neg fun h => absurd (hflag.symm.trans h.1) (by decide)

end Sys2Proof.Machine


/-! O21: the thread that the alarm ring's registers name (12 R364, R370), when an answer moves the ring's TAIL. -/
namespace Sys2Proof.Machine

/-- Ring 104 holds one command of zero bytes, a NOP; its service runs at engine 0. The two-bit THR of the consumer side of the answer
ring 112 reads 8630, where the pending events of engine 0 would stand at that ring's own TAIL, and BIT names bit 5. -/
def answerRingOfThread8630 : State :=
  { State.reset with
    regs := [((R.ENG_ROLE_HOLDER (epsRole 0)).key, 0), ((R.RING_TAIL_INDEX 104).key, 1), ((R.RING_CONS_ROLE 112).key, 0),
      ((R.RING_CONS_THR 112).key, 8630), ((R.RING_CONS_BIT 112).key, 5)] }

theorem answerRingOfThread8630_powered : answerRingOfThread8630.powered = true := by decide +kernel

theorem answerRingOfThread8630_tail_before : answerRingOfThread8630.ringTail 112 = 0 := by decide +kernel

/-- A NOP at the head of the command ring of group 0. -/
def State.nopAnswered (s : State) : State := s.epCommand 0 (· == 0x00) (fun s _ => (s, 0, 0xFF))

/-- The answer moves TAIL to 1, and the event of the consumer side then sets bit 5 of it. -/
theorem answerRingOfThread8630_tail : answerRingOfThread8630.nopAnswered.ringTail 112 = 33 := by decide +kernel

theorem exec_nop_zero {s : State} (hp : s.powered = true) : exec (.nop 0) s = .next s.nopAnswered := State.live_next _ hp

/-- Refutes O21: the statement ranges over registers that read more than their width, and the event of an answer ring whose THR reads
8630 is pending at no thread of its engine: it changes the TAIL that the answer has just moved. -/
theorem not_endpointCommands : ¬ Obligations.EndpointCommands := by
  unfold Obligations.EndpointCommands
  intro h
  obtain ⟨hnop, -⟩ := h
  have hp := answerRingOfThread8630_powered
  have hready : answerRingOfThread8630.epsRuns 0 = true ∧ answerRingOfThread8630.bankOpen 25 = true ∧
      answerRingOfThread8630.bankOpen 27 = true ∧ answerRingOfThread8630.bankOpen 28 = true ∧
      answerRingOfThread8630.ringsFenced = false ∧ answerRingOfThread8630.bank.ecc = [] ∧
      answerRingOfThread8630.ringOn 104 = true ∧ answerRingOfThread8630.ringEsz 104 = 32 ∧
      answerRingOfThread8630.ringEsz 112 = 32 ∧ answerRingOfThread8630.ringCount 104 ≠ 0 ∧
      answerRingOfThread8630.ringRoom 112 ≠ 0 ∧
      answerRingOfThread8630.ringEntry 112 (answerRingOfThread8630.ringTail 112) + 32 ≤ bankBase 26 := by decide +kernel
  have hop : (epCmdOf (answerRingOfThread8630.byteList
      (answerRingOfThread8630.ringEntry 104 (answerRingOfThread8630.ringHead 104)) 32)).op = 0 := by decide +kernel
  obtain ⟨⟨-, htail, -⟩, -⟩ := (hnop answerRingOfThread8630 0 ⟨hp, hready⟩ hop).of_exec (exec_nop_zero hp)
  have hmoved : answerRingOfThread8630.nopAnswered.ringTail 112 = (answerRingOfThread8630.ringTail 112 + 1) % 2 ^ 17 := htail
  rw [answerRingOfThread8630_tail, answerRingOfThread8630_tail_before] at hmoved
  exact absurd hmoved (by decide)

end Sys2Proof.Machine


/-! O22: the thread that the alarm ring's registers name (12 R364, R370), when a frame of a DEAD record moves the ring's TAIL. -/
namespace Sys2Proof.Machine

/-- Ring 0 holds one matched frame of record 0, which is DEAD; its service runs at engine 0. The two-bit THR of the consumer side of
the answer ring 112 reads 8630, where the pending events of engine 0 would stand at that ring's own TAIL, and BIT names bit 5. -/
def frameOfDeadRecord : State :=
  { State.reset with
    regs := [((R.ENG_ROLE_HOLDER (epsRole 0)).key, 0), ((R.RING_TAIL_INDEX 0).key, 1), ((R.RING_CONS_ROLE 112).key, 0),
      ((R.RING_CONS_THR 112).key, 8630), ((R.RING_CONS_BIT 112).key, 5)]
    mem := [(0x1000006, 4), (0x3000013, 1)] }

theorem frameOfDeadRecord_powered : frameOfDeadRecord.powered = true := by decide +kernel

theorem frameOfDeadRecord_tail_before : frameOfDeadRecord.ringTail 112 = 0 := by decide +kernel

/-- The alarm of the record that is JOINING again moves TAIL to 1, and the event of the consumer side then sets bit 5 of it. -/
theorem frameOfDeadRecord_tail : (frameOfDeadRecord.epFrame 0 false false 0 0 0 0 0).ringTail 112 = 33 := by decide +kernel

theorem exec_epFrame_unstamped {s : State} (hp : s.powered = true) :
    exec (.epFrame 0 false false 0 0 0 0 0) s = .next (s.epFrame 0 false false 0 0 0 0 0) := State.live_next _ hp

/-- Refutes O22: the statement ranges over registers that read more than their width, and the event of an answer ring whose THR reads
8630 is pending at no thread of its engine: it changes the TAIL that the alarm entry has just moved. -/
theorem not_endpointFrames : ¬ Obligations.EndpointFrames := by
  unfold Obligations.EndpointFrames
  intro h
  obtain ⟨-, -, hjoin, -⟩ := h
  have hp := frameOfDeadRecord_powered
  have hready : frameOfDeadRecord.epsRuns 0 = true ∧ frameOfDeadRecord.bankOpen 24 = true ∧ frameOfDeadRecord.ringOn 0 = true ∧
      frameOfDeadRecord.ringsFenced = false ∧ frameOfDeadRecord.ringCount 0 ≠ 0 ∧ frameOfDeadRecord.bank.ecc = [] := by
    decide +kernel
  obtain ⟨-, -, -, -, htail, -⟩ := (hjoin frameOfDeadRecord 0 false false 0 0 0 0 0 ⟨hp, hready⟩ (by decide +kernel)
    (by decide +kernel) (by decide +kernel) (by decide +kernel) (by decide +kernel) (by decide +kernel)).of_exec
    (exec_epFrame_unstamped hp)
  have hmoved : (frameOfDeadRecord.epFrame 0 false false 0 0 0 0 0).ringTail 112
      = (frameOfDeadRecord.ringTail 112 + 1) % 2 ^ 17 := htail
  rw [frameOfDeadRecord_tail, frameOfDeadRecord_tail_before] at hmoved
  exact absurd hmoved (by decide)

end Sys2Proof.Machine


/-! O32: the thread that a ring's registers name (12 R364, R370), when a PUSH moves the ring's TAIL. -/
namespace Sys2Proof.Machine

/-- Thread 0 of engine 0 is READY with the address of its DB bank in g1; its role produces into ring 112. The two-bit THR of the
consumer side of that ring reads 8630, where the pending events of engine 0 would stand at the ring's own TAIL, and BIT names bit 5. -/
def pushedRingOfThread8630 : State :=
  { State.reset with
    regs := [((R.ENG_THR_STATE_W0_TSTATE 0 0).key, 1), ((R.RING_PROD_ROLE 112).key, 0), ((R.RING_CONS_ROLE 112).key, 0),
      ((R.RING_CONS_THR 112).key, 8630), ((R.RING_CONS_BIT 112).key, 5)]
    eng := { State.reset.eng with thr := [(0, { Thread.init 0 with g := [(1, 0x800000)] })] } }

theorem pushedRingOfThread8630_tail_before : pushedRingOfThread8630.ringTail 112 = 0 := by decide +kernel

/-- PUSH of thread 0 of engine 0 to ring 112 from the buffer at g1, with g2 as destination. -/
def State.pushG1 (s : State) : State := s.issue 0 0 (fun s => s.ring 0 0 0 2 112 1 false)

/-- The entry moves TAIL to 1, and the event of the consumer side then sets bit 5 of it. -/
theorem pushedRingOfThread8630_tail : pushedRingOfThread8630.pushG1.ringTail 112 = 33 := by decide +kernel

theorem exec_push_g1 (s : State) : exec (.push 0 0 2 112 1 false) s = .next s.pushG1 := rfl

/-- Refutes O32: the statement ranges over registers that read more than their width, and the event of a ring whose THR reads 8630 is
pending at no thread of its engine: it changes the TAIL that the PUSH has just moved. -/
theorem not_ringInstructions : ¬ Obligations.RingInstructions := by
  unfold Obligations.RingInstructions
  intro h
  obtain ⟨hpush, -⟩ := h
  obtain ⟨-, -, -, htail, -⟩ := (hpush pushedRingOfThread8630 0 0 2 1 112 (by decide +kernel) (by decide +kernel)
    (by decide +kernel) (by decide +kernel) (by decide +kernel) (by decide +kernel)
    (by decide +kernel)).of_exec (exec_push_g1 pushedRingOfThread8630)
  have hmoved : pushedRingOfThread8630.pushG1.ringTail 112 = (pushedRingOfThread8630.ringTail 112 + 1) % 2 ^ 17 := htail
  rw [pushedRingOfThread8630_tail, pushedRingOfThread8630_tail_before] at hmoved
  exact absurd hmoved (by decide)

end Sys2Proof.Machine


/-! O38: the thread that a ring's registers name (12 R364, R370), when the fence of an engine moves its role. -/
namespace Sys2Proof.Machine

/-- The heartbeat of engine 1 has run out. It holds role 20, whose plan names engine 0 and which consumes ring 112, where one entry
waits. The two-bit THR of that side reads 21, where the pending events of engine 0 would stand at ENG_EVENTS of engine 1, and BIT
names bit 5. -/
def missedBeatWithRingRole : State :=
  { State.reset with
    regs := [((R.ENG_ROLE_DEFINED 20).key, 1), ((R.ENG_ROLE_HOLDER 20).key, 1), ((R.ENG_ROLE_PLAN_P0 20).key, 0),
      ((R.RING_CONS_ROLE 112).key, 20), ((R.RING_CONS_THR 112).key, 21), ((R.RING_CONS_BIT 112).key, 5),
      ((R.RING_TAIL_INDEX 112).key, 1)]
    tb := { State.reset.tb with elapsed := 10000000000000 } }

theorem missedBeatWithRingRole_powered : missedBeatWithRingRole.powered = true := by decide +kernel

/-- HB_MISS sets, and the event of the ring that engine 0 takes over then sets bit 5 of the same value. -/
theorem missedBeatWithRingRole_hbMiss : (missedBeatWithRingRole.hbExpire 1).fld (R.ENG_EVENTS_HB_MISS 1) = 33 := by
  decide +kernel

theorem exec_heartbeatExpire_one {s : State} (hp : s.powered = true) : exec (.heartbeatExpire 1) s = .next (s.hbExpire 1) :=
  State.live_next _ hp

/-- Refutes O38: the statement ranges over registers that read more than their width, and the event of a ring whose THR reads 21 is
pending at no thread of the engine that takes the role over: it changes the HB_MISS of the engine that was fenced. -/
theorem not_engineCommands : ¬ Obligations.EngineCommands := by
  unfold Obligations.EngineCommands
  intro h
  obtain ⟨-, -, -, -, -, -, -, -, -, -, -, hexpire, -⟩ := h
  have hp := missedBeatWithRingRole_powered
  obtain ⟨-, hmiss, -⟩ := (hexpire missedBeatWithRingRole 1 hp (by decide +kernel) (by decide +kernel) (by decide +kernel)
    (by decide +kernel) (by decide +kernel)).of_exec (exec_heartbeatExpire_one hp)
  have hone : (missedBeatWithRingRole.hbExpire 1).fld (R.ENG_EVENTS_HB_MISS 1) = 1 := hmiss
  rw [missedBeatWithRingRole_hbMiss] at hone
  exact absurd hone (by decide)

end Sys2Proof.Machine


/-! O11: what STOP of PLL A brings about in SLEEP (05 R146, 15 R431). -/
namespace Sys2Proof.Machine

/-- In SLEEP with FAULT_WAKE, PLL A locked, and PLL A among those that the wake starts again. The ports are fenced and the log and the
first capture taken, so that the reports of the link-clock sources change little else. -/
def stoppedInSleep : State :=
  { State.reset with
    regs := [(R.PWR_STATUS_STATE.key, 2), (R.PWR_CFG_FAULT_WAKE.key, 1), ((R.SYN_PLL_STATUS_STATE 0).key, 3),
      (R.FLT_FIRST_0_VALID.key, 1), (R.FLT_LOG_STATUS_COUNT.key, 16), (R.FLT_EVENTS_NEW_MINOR.key, 1),
      (R.FLT_STATUS_ANY_FENCE.key, 1)] ++
      (List.range 32).map (fun n => ((R.LNK_STATUS_STATE n).key, 4)) ++
      (List.range 32).map (fun n => ((R.FLT_SRC_FENCED (0x040 + n)).key, 1))
    pwr := { State.reset.pwr with plls := [0] } }

theorem stoppedInSleep_powered : stoppedInSleep.powered = true := by decide +kernel

/-- STOP of PLL A takes domain A's source away; the link-clock sources report, the report wakes the part, and the wake starts the
PLL again. -/
theorem stoppedInSleep_pllState : ((stoppedInSleep.pllStop (0 : Fin 4)).settleWake).pllState (0 : Fin 4) ≠ 0 := by decide +kernel

theorem exec_pllStop {s : State} (p : Fin 4) (hp : s.powered = true) : exec (.pllStop p) s = .next (s.pllStop p).settleWake :=
  State.live_next _ hp

/-- Refutes O11: after STOP the PLL need not be OFF, since the statement lets the list of the PLLs that a wake from SLEEP starts
name the stopped one. -/
theorem not_pllCommands : ¬ Obligations.PllCommands := by
  unfold Obligations.PllCommands
  intro h
  obtain ⟨-, -, -, -, -, -, hstop, -⟩ := h
  have hp := stoppedInSleep_powered
  obtain ⟨hoff, -⟩ := (hstop stoppedInSleep 0 hp (by decide +kernel) (by decide +kernel)).of_exec (exec_pllStop 0 hp)
  exact stoppedInSleep_pllState hoff

end Sys2Proof.Machine
